-- ==== Sys2Proof/Word.lean ====
section
/-! DEFINITION. The word types of the device: bytes, 32-bit register words (R7), the
36-bit words and 48-bit accumulators of the engines (R130), 64-bit extended times. -/

namespace Sys2Proof

abbrev Byte := BitVec 8
abbrev Word := BitVec 32
abbrev DWord := BitVec 64
/-- An 18-bit half of an engine word. -/
abbrev Half := BitVec 18
/-- A 36-bit engine word. -/
abbrev W36 := BitVec 36
/-- A 48-bit accumulator. -/
abbrev W48 := BitVec 48

end Sys2Proof
end

