-- ==== Sys2Proof/Syntax.lean ====
section
/-! DEFINITION. The commands of the device: one constructor of `Instr` for every row of
the operations and events table, with the row's operands, and the types of the operands. -/

namespace Sys2Proof.Machine

/-- A master or unit of the device, as the sender of an access, the holder of a claim, the
opener or a participant of a transaction, or the reporter of a fault. Software sees it as
its source NI (R201); the model keeps it by what stands at the NI. An engine acts through
its cluster's NI (R129). -/
inductive Master where
  | husk
  | host
  | monitor
  | txu
  | engine (n : Fin 1024)
  | accessPoint (p : Fin 192)
  /-- Any other unit: its block code of NOC_NI_DIR.block and its index in the block. -/
  | unit (block : Fin 256) (index : Fin 1024)
  deriving DecidableEq, Repr

/-- What an error-correcting code says of a word, line or frame that is read (R66, R93,
R134, R376, R408): clean, a corrected error, or an uncorrectable error. -/
inductive Ecc where
  | clean
  | corrected
  | uncorrectable
  deriving DecidableEq, Repr

/-- A claim register (R43): a device-wide index of Table 1.8, or a cue slot of a unit. -/
inductive ClaimRef where
  | device (k : Fin 480)
  | tim (s : Fin 8)
  | cfg (s : Fin 8)
  | eng (n : Fin 1024) (s : Fin 8)
  | cvl (g : Fin 8) (s : Fin 8)
  deriving DecidableEq, Repr

/-- A unit that has cue slots (Table 9.1). -/
inductive CueUnit where
  | dev
  | tim
  | cfg
  | eng (n : Fin 1024)
  | cvl (g : Fin 8)
  deriving DecidableEq, Repr

/-- The action of a cue slot (R290, Table 9.1). -/
inductive CueAction where
  | none
  /-- The rendezvous launch of R31 with its trigger code of Table 1.6. -/
  | launch (trigger : BitVec 8)
  /-- The switch of the service timescale (R282). -/
  | serviceSwitch
  /-- The STEP of domain A (`false`) or B (`true`) (R266). -/
  | domainStep (b : Bool)
  /-- The plane switch of a pod (R106). -/
  | podSwitch (p : Fin 48)
  /-- The switch of a STAGED full image (R431). -/
  | fullSwitch
  /-- Event flag 2 + s of the engine (R193). -/
  | event
  /-- A SYSREF launch of the converter link group (R323). -/
  | sysref
  /-- An LMFC alignment of the converter link group (R323). -/
  | align
  /-- Any use the husk makes of its own DEV slots. -/
  | husk
  deriving DecidableEq, Repr

/-- A change staged into a transaction (Table 9.3). -/
inductive Change where
  /-- A staged write of a control register word. -/
  | reg (off : BitVec 25) (w : Word)
  /-- A staged word 0 of a route entry with the held words it takes along (R209). -/
  | route (ni : BitVec 10) (entry : BitVec 12) (w0 : Word) (w1 w2 w3 : Option Word)
  /-- A staged scratchpad word of 4 or 8 bytes, with its marking. -/
  | scratch (addr : BitVec 48) (eight : Bool) (data : DWord) (poison : Bool)
  /-- A staged ENQ whose entry the queue engine holds (R252). -/
  | enqueue (q : BitVec 20)
  /-- A staged QMOV (R252). -/
  | qmov (src dst : BitVec 20)
  /-- A staged DEQ or other queue operation (R252). -/
  | dequeue (q : BitVec 20)
  /-- A staged descriptor write (R252): the eight words. -/
  | descriptor (q : BitVec 20) (w : List Word)
  /-- A staged MESSAGE to an engine's message area or an access point. -/
  | message (dest : Master) (dtag : BitVec 16) (payload : List Byte) (poison crcFail : Bool)
  /-- A husk substitution's change of the region it repairs (R121). -/
  | substitution (pod : Fin 48)
  /-- A husk engine move (R153). -/
  | engineMove (cluster : Fin 128)
  /-- A husk page or rank remap (R379, R403). -/
  | remap (kind : Bool) (index : BitVec 32)
  /-- A write to a target that cannot stage (R297). -/
  | unstageable
  deriving DecidableEq, Repr

/-- The launch a COMMIT names (R300): a service time, or ASAP. -/
inductive Launch where
  | at (l : Word)
  | asap
  deriving DecidableEq, Repr

/-- A packet of the NoC: the header fields of Table 6.2 that its sender sets, and the
payload bytes. `crc` is the code carried in the last flit when `integ` is set (R203), and
`fpoison` says that a filler flit was appended (R220). -/
structure Packet where
  kind : BitVec 4
  prio : BitVec 3
  route : BitVec 12
  src : BitVec 10
  dst : BitVec 10
  txid : BitVec 8
  poison : Bool
  integ : Bool
  tag : BitVec 8
  address : BitVec 48
  dtag : BitVec 16
  payload : List Byte
  crc : Word
  fpoison : Bool
  deriving DecidableEq, Repr

/-- A substitution in the fabric (R117 to R119): tile steering at a physical column, slice
steering at a slice of a slice column, a memory spare for a logical memory. -/
inductive FabricFix where
  | tile (region : Fin 96) (col : Fin 64)
  | slice (region : Fin 96) (c : Fin 2) (k : Fin 64)
  | memory (region : Fin 96) (col : Fin 6) (idx : Fin 64)
  deriving DecidableEq, Repr

/-- The fields of format R (Table 5.1). -/
structure KR where
  d : BitVec 6
  a : BitVec 6
  b : BitVec 6
  mod : BitVec 6
  imm : Word
  deriving DecidableEq, Repr

/-- The fields of format I. -/
structure KI where
  d : BitVec 6
  imm : BitVec 36
  deriving DecidableEq, Repr

/-- The fields of format M. -/
structure KM where
  k : BitVec 3
  xs : BitVec 6
  ys : BitVec 6
  cs : BitVec 6
  g : BitVec 6
  mod : BitVec 5
  deriving DecidableEq, Repr

/-- The fields of format T. -/
structure KT where
  d : BitVec 6
  a : BitVec 6
  p : BitVec 4
  pm : BitVec 2
  mod : BitVec 6
  imm : Word
  deriving DecidableEq, Repr

/-- The fields of format C. -/
structure KC where
  cond : BitVec 4
  a : BitVec 6
  count : BitVec 16
  target : BitVec 13
  deriving DecidableEq, Repr

/-- What the engine's hardware finds as an instruction runs (R83, R134, R147): the fetch,
the two halves of the X, Y and C words read and of each payload word read, the residue
check of its products, the parity of a port word and the CRC check of data received. -/
structure Hw where
  fetch : Ecc := .clean
  xh : Ecc := .clean
  xl : Ecc := .clean
  yh : Ecc := .clean
  yl : Ecc := .clean
  ch : Ecc := .clean
  cl : Ecc := .clean
  words : List (Ecc × Ecc) := []
  residueOk : Bool := true
  parityOk : Bool := true
  crcOk : Bool := true
  deriving DecidableEq, Repr

/-- A part of an engine window (Table 1.3, Table 4.11). -/
inductive EngPlace where
  | data (w : BitVec 14)
  | instruction (i : BitVec 13)
  | register (off : BitVec 16)
  deriving DecidableEq, Repr

/-- A route the husk computed for an entry that crosses a down or marginal link: the hop
words 1 to 3 of the detour, or none where no detour exists (R221). -/
structure RouteChange where
  ni : BitVec 10
  entry : BitVec 12
  hops : Option (Word × Word × Word)
  deriving DecidableEq, Repr

/-- What the header of a QUEUE packet names (Table 7.3): the sender and its tag, the queue,
whether no response is wanted, and the transaction. -/
structure QHead where
  src : Master
  tag : BitVec 8
  queue : BitVec 20
  post : Bool
  txid : BitVec 8
  deriving DecidableEq, Repr

/-- An operation on a queue (Table 7.4). `lost` says that a link word, an entry record or a
descriptor it reads has an uncorrectable error, and how many granules of the queue's chain
can still be found (R257). -/
inductive QKind where
  /-- Release, flow tag, length minus 1, class, and bytes 15:11. -/
  | begin (release flow : Word) (len : BitVec 16) (cls : BitVec 8) (rest : BitVec 40)
  /-- One granule's data bytes with their code; `poison` for the poison bit or fpoison. -/
  | data (bytes : List Byte) (last : Bool) (crc : Word) (poison : Bool)
  | deq (most : BitVec 16) (lost : Option Nat)
  | qmov (dst : BitVec 20) (lost : Option Nat)
  | drop (lost : Option Nat)
  | flush (lost : Option Nat)
  deriving DecidableEq, Repr


/-- A time domain: A or B. -/
inductive Dom where
  | a | b
  deriving DecidableEq, Repr

/-- Terms of the holdover model as one completed bin leaves them (R278, R279): values and
uncertainties in units of 2⁻¹⁶ of the units of Table 8.7, which terms are learned, the
learned range in 1/128 °C, and the hours of locked data. -/
structure ModelTerms where
  c0 : Word
  c1 : Word
  c2 : Word
  d : Word
  s0 : Word
  s1 : Word
  s2 : Word
  sd : Word
  learned : BitVec 4
  tLo : BitVec 16
  tHi : BitVec 16
  hours : BitVec 16
  deriving DecidableEq, Repr

/-- What a receive link's deframer finds as its lanes release a frame (R317, R321, R332): the
N′-words, sample by sample and converter by converter; the lanes whose marker has not
arrived; of each lane with character errors its index in the group, with the code and the
disparity errors; and a lane whose marker has been out of place in two consecutive
multiframes, with whether it lies within ±4 octets of its place. -/
structure FrameIn where
  words : List (BitVec 16)
  late : BitVec 8 := 0
  errors : List (Fin 8 × BitVec 16 × BitVec 15) := []
  astray : Option (Fin 8 × Bool) := none
  deriving DecidableEq, Repr

/-- What a transmit link sees on its SYNC~ input (R319): it goes high, an error report, or a
resynchronisation request. -/
inductive SyncIn where
  | high | report | request
  deriving DecidableEq, Repr


/-- What the hardware finds as a DRAM line is accessed (R370, R374, R376, R380, R388): the
code of the copy that serves it and, for a corrected error, its device; the same of the
mirror partner; whether the stored tag matches; and whether the access activates its row. -/
structure LineHw where
  own : Ecc := .clean
  dev : Fin 10 := 0
  partner : Ecc := .clean
  partnerDev : Fin 10 := 0
  tagOk : Bool := true
  activate : Bool := false
  deriving DecidableEq, Repr

/-- A bank of the DRAM: controller, subchannel, logical rank, bank group, bank. -/
structure BankRef where
  mc : Fin 8
  sub : Fin 2
  rank : Fin 8
  bg : Fin 8
  ba : Fin 4
  deriving DecidableEq, Repr

/-- What the periodic check of a rank measures (R373): the drift of its DQS interval
oscillator in ps and the change of its DIMM's temperature in °C since its last training. -/
structure RankDrift where
  rank : Fin 8
  drift : BitVec 8
  temp : BitVec 8
  deriving DecidableEq, Repr

/-- What the husk finds of the installed DIMMs (R360, R361): an 8-way or 4-way population,
one or two DIMMs per controller, their type A to E; or the controller and slot for which it
does not bring DRAM up. -/
inductive Population where
  | found (ways8 dpc2 : Bool) (type : Fin 5)
  | refused (mc : Fin 8) (slot : Fin 2)
  deriving DecidableEq, Repr

/-- The read-backs of a fuse burn and of its one repeat (R444). -/
structure Burn where
  first : Bool := true
  second : Bool := true
  deriving DecidableEq, Repr

/-- A host request through PF0: BAR, offset, size in bytes, the bytes of a posted write, and
whether its data is poisoned or fails its check (R439). -/
structure HostReq where
  bar : Fin 6
  offset : BitVec 30
  size : BitVec 13
  write : Option (List Byte) := none
  poison : Bool := false
  crcOk : Bool := true
  deriving DecidableEq, Repr

/-- A substitution of the husk (Table 16.4, auto_mask): in the fabric, an engine, a link's
routes, a page, or a rank of a controller. -/
inductive Fix where
  | fabric (f : FabricFix)
  | engine (n : Fin 1024)
  | link (r : Fin 192) (d : Fin 4)
  | page (p : BitVec 36)
  | rank (mc : Fin 8) (rank : Fin 8)
  deriving DecidableEq, Repr

/-- The transport of a monitor command, with its tag (R475, R476). -/
structure MonVia where
  uart : Bool
  tag : BitVec 8
  deriving DecidableEq, Repr

/-- What a breakpoint or watchpoint is set to (R485). -/
structure BreakArgs where
  slot : Fin 6
  enable : Bool
  /-- 0 read, 1 write, 2 either. -/
  kind : Fin 3
  device : Bool
  lo : BitVec 16
  hi : BitVec 16
  deriving DecidableEq, Repr

/-- A monitor command (Table 17.2). -/
inductive MonCmd where
  | next
  | status
  | read (address : BitVec 64) (eight : Bool) (length : BitVec 16)
  | take (address : BitVec 64)
  | write (address : BitVec 64) (eight : Bool) (data : List Byte)
  | halt (target : Word)
  | resume (target : Word)
  | step (e : Word) (count : BitVec 16)
  | setBreak (e : Word) (b : BreakArgs)
  | freeze (w lo hi : Word)
  | txHold (on : Bool)
  | capture (region : Word)
  | inject (lane : Word) (on : Bool)
  | setBaud (rate : Word)
  deriving DecidableEq, Repr

/-- What the governor reads (R468): the hottest sensor of each die in 1/128 °C, VENG in mV, its
current in 0.1 A averaged over 1 ms, and the package power in W averaged over 1 ms. -/
structure GovSample where
  west : BitVec 16
  hub : BitVec 16
  east : BitVec 16
  mv : BitVec 10
  amps : BitVec 12
  watts : BitVec 10
  deriving DecidableEq, Repr

/-- A clock that is judged stable (Table 18.2). -/
inductive Clock where
  | xtalTime
  | xtalSys
  | sysPll (i : Fin 4)
  | timeDpll
  | fabricPll (q : Fin 24)
  | convPll (g : Fin 8)
  | netPll (b : Fin 8)
  | pciePll
  | devclk (g : Fin 8)
  | netref (b : Fin 8)
  | pcieRef
  deriving DecidableEq, Repr

/-- The three registers of a bank's outputs (R499). -/
inductive PinOutReg where
  | out | set | clr
  deriving DecidableEq, Repr

/-- The supply rails (Table 18.9). -/
inductive Rail where
  | vhusk | vaux | vsram | vcore | veng | vlane09 | vlane12 | vddq
  | vio (b : Fin 16)
  deriving DecidableEq, Repr

end Sys2Proof.Machine

namespace Sys2Proof

open Machine

/-- The commands and events of the device, one constructor per row of the table. -/
inductive Instr where
  | vhuskWithinRange
  | vhuskBelowRange
  | wholeDeviceResetReleased
  | wholeDeviceReset
  | firmwareVerified
  | pf0Ready
  | perstAsserted
  | perstDeasserted
  | loadWaitExpiry
  | dramTrainingDone (p : Population)
  | doneSampledHigh
  | rendezvousLaunch
  | rdvTimeoutExpiry
  | devRdvForce (m : Master)
  | devRdvTimeoutWrite (m : Master) (ms : BitVec 16)
  | dormantEnter (m : Master)
  | dormantExit (m : Master)
  | dormantWakeBegin
  | serviceRestored
  | devWakeWrite (m : Master) (hi : Word)
  | claim (m : Master) (c : ClaimRef)
  | claimRelease (m : Master) (c : ClaimRef)
  /-- A write of a control register (R7, R8). -/
  | registerWrite (m : Master) (off : BitVec 25) (w : Word)
  /-- A read of a control register (R8, R11). -/
  | registerRead (m : Master) (off : BitVec 25)
  /-- The selection of a regional tree changes (R71, R74). -/
  | treeSwitch (region : Fin 96) (tree : Fin 32) (sel : BitVec 4)
  | treeSwitchDone (region : Fin 96) (tree : Fin 32)
  | treeOldSourceTimeout (region : Fin 96) (tree : Fin 32)
  | fabricPllLockLoss (q : Fin 24)
  /-- The corrected `word` is written back, unless a port wrote that word first (R66). -/
  | bramWriteback (region : Fin 96) (mem : Fin 384) (addr : Fin 1024) (word : BitVec 18)
      (superseded : Bool)
  | bramScrubCycle (region : Fin 96) (mem : Fin 384) (ecc : Ecc)
  | accessPointDeliver (p : Fin 192)
  /-- The target request of NI `src` with tag `tag` is unanswered after 64 µs. -/
  | fabricTimeout (p : Fin 192) (src : BitVec 10) (tag : BitVec 8)
  /-- A write of CFG_POD_CTRL with switch set, and the fields written with it. -/
  | podSwitch (m : Master) (p : Fin 48) (bind : Bool) (slot : Fin 8) (carry : Bool)
      (quiesce : BitVec 8)
  | podCancel (m : Master) (p : Fin 48)
  | podReset (m : Master) (p : Fin 48)
  | quiesceStart (p : Fin 48)
  | switchE1 (p : Fin 48)
  | switchTreeForce (p : Fin 48) (region : Fin 96) (tree : Fin 32)
  | switchE2 (p : Fin 48)
  | switchE3 (p : Fin 48)
  /-- The scrubber of a die reads its next frame; `ecc` is what the check bits say. -/
  | scrubFrameRead (east : Bool) (ecc : Ecc)
  | essentialScrubRead (east : Bool) (ecc : Ecc)
  | sproutScrubRead (east : Bool) (ecc : Ecc)
  | scrubWriteback (east : Bool)
  | frameStoreRewrite (east : Bool)
  | priorityGo (m : Master) (region : BitVec 7)
  | substitutionOpen (fix : Fix)
  /-- The rebuild of the region's sprout plane ends; `ok` unless a frame could not be
  restored or the spare failed its own check (R121, R122). -/
  | sproutRebuildDone (p : Fin 48) (ok : Bool)
  /-- The copy into a memory spare ends; `bad` are words copied marked poisoned (R119). -/
  | memorySpareCopyDone (p : Fin 48) (ok : Bool) (bad : List (Fin 1024))
  /-- An enabled event of engine `e` is taken at an instruction boundary (R144). -/
  | interruptEntry (e : Fin 1024)
  | lockTimeout (e : Fin 1024)
  | watchdogExpiry (e : Fin 1024)
  | engStop (m : Master) (e : Fin 1024)
  | engineStopBoundary (e : Fin 1024)
  | engClearFault (m : Master) (e : Fin 1024)
  | engPowerOff (m : Master) (e : Fin 1024)
  | engPowerOn (m : Master) (e : Fin 1024)
  | enginePowerUpDone (e : Fin 1024)
  | engWideWrite (m : Master) (e : Fin 1024) (wide : Bool)
  | engApply (m : Master) (e : Fin 1024)
  | engWdKick (m : Master) (e : Fin 1024)
  | engEvtClear (m : Master) (e : Fin 1024) (flags : BitVec 16)
  | engMsgCfgWrite (m : Master) (e : Fin 1024) (slots : BitVec 6) (base : BitVec 14)
  | engMsgFree (m : Master) (e : Fin 1024) (count : BitVec 6)
  /-- An access of 4 or 8 bytes at offset `o` of the engine's window (R20, R156). -/
  | engineWindowAccess (m : Master) (e : Fin 1024) (o : BitVec 18) (eight : Bool)
      (write : Option DWord) (poison : Bool) (hi lo : Ecc)
  | engineMoveCopyDone (e : Fin 1024) (spareOk : Bool)
  | engineMoveStop (e : Fin 1024)
  | contextCopyDone (e : Fin 1024)
  | evInRisingEdge (e : Fin 1024)
  /-- The design hands engine `e`'s port a word, or takes one from it; the parity check at
  the FIFO's exit is for a word taken (R82, R83). -/
  | enginePortWord (e : Fin 1024) (give : Option (BitVec 72 × BitVec 2)) (parityOk : Bool)
  | engineScrubCycle (e : Fin 1024) (hi lo : Ecc)
  /-- Engine `e` issues an instruction with the fields `f` of its format (Table 5.5); `h` is
  what the hardware finds as it runs. -/
  | nop (e : Fin 1024) (f : KR) (h : Hw)
  | kend (e : Fin 1024) (f : KR) (h : Hw)
  | lock (e : Fin 1024) (f : KR) (h : Hw)
  | kick (e : Fin 1024) (f : KR) (h : Hw)
  | rti (e : Fin 1024) (f : KR) (h : Hw)
  | stm (e : Fin 1024) (f : KR) (h : Hw)
  | rdst (e : Fin 1024) (f : KR) (h : Hw)
  | wrst (e : Fin 1024) (f : KR) (h : Hw)
  | ldi (e : Fin 1024) (f : KI) (h : Hw)
  | mov (e : Fin 1024) (f : KR) (h : Hw)
  | rda (e : Fin 1024) (f : KR) (h : Hw)
  | wra (e : Fin 1024) (f : KR) (h : Hw)
  | swp (e : Fin 1024) (f : KR) (h : Hw)
  | cnj (e : Fin 1024) (f : KR) (h : Hw)
  | add (e : Fin 1024) (f : KR) (h : Hw)
  | sub (e : Fin 1024) (f : KR) (h : Hw)
  | kand (e : Fin 1024) (f : KR) (h : Hw)
  | kor (e : Fin 1024) (f : KR) (h : Hw)
  | xor (e : Fin 1024) (f : KR) (h : Hw)
  | shl (e : Fin 1024) (f : KR) (h : Hw)
  | shr (e : Fin 1024) (f : KR) (h : Hw)
  | shru (e : Fin 1024) (f : KR) (h : Hw)
  | cmp (e : Fin 1024) (f : KR) (h : Hw)
  | neg (e : Fin 1024) (f : KR) (h : Hw)
  | kabs (e : Fin 1024) (f : KR) (h : Hw)
  | kmin (e : Fin 1024) (f : KR) (h : Hw)
  | kmax (e : Fin 1024) (f : KR) (h : Hw)
  | ld (e : Fin 1024) (f : KT) (h : Hw)
  | kst (e : Fin 1024) (f : KT) (h : Hw)
  | clra (e : Fin 1024) (f : KR) (h : Hw)
  | mova (e : Fin 1024) (f : KR) (h : Hw)
  | lda (e : Fin 1024) (f : KR) (h : Hw)
  | adda (e : Fin 1024) (f : KR) (h : Hw)
  | macm (e : Fin 1024) (f : KM) (h : Hw)
  | cmacm (e : Fin 1024) (f : KM) (h : Hw)
  | cmac2 (e : Fin 1024) (f : KM) (h : Hw)
  | ftap (e : Fin 1024) (f : KM) (h : Hw)
  | mac (e : Fin 1024) (f : KR) (h : Hw)
  | cmac (e : Fin 1024) (f : KR) (h : Hw)
  | bfly (e : Fin 1024) (f : KM) (h : Hw)
  | br (e : Fin 1024) (f : KC) (h : Hw)
  | call (e : Fin 1024) (f : KC) (h : Hw)
  | ret (e : Fin 1024) (f : KC) (h : Hw)
  | jr (e : Fin 1024) (f : KC) (h : Hw)
  | loop (e : Fin 1024) (f : KC) (h : Hw)
  | loopr (e : Fin 1024) (f : KC) (h : Hw)
  | rdt (e : Fin 1024) (f : KR) (h : Hw)
  | waitt (e : Fin 1024) (f : KR) (h : Hw)
  | waittDone (e : Fin 1024)
  | waite (e : Fin 1024) (f : KR) (h : Hw)
  | waiteDone (e : Fin 1024)
  | cue (e : Fin 1024) (f : KR) (h : Hw)
  | uncue (e : Fin 1024) (f : KR) (h : Hw)
  | evclr (e : Fin 1024) (f : KR) (h : Hw)
  | pev (e : Fin 1024) (f : KR) (h : Hw)
  | prd (e : Fin 1024) (f : KR) (h : Hw)
  | pwr (e : Fin 1024) (f : KR) (h : Hw)
  | ldf (e : Fin 1024) (f : KT) (h : Hw)
  | stf (e : Fin 1024) (f : KT) (h : Hw)
  | stfLateError (e : Fin 1024)
  | aadd (e : Fin 1024) (f : KT) (h : Hw)
  | aswp (e : Fin 1024) (f : KT) (h : Hw)
  | send (e : Fin 1024) (f : KT) (h : Hw)
  | dbell (e : Fin 1024) (f : KR) (h : Hw)
  | enq (e : Fin 1024) (f : KT) (h : Hw)
  | deq (e : Fin 1024) (f : KT) (h : Hw)
  | qmov (e : Fin 1024) (f : KT) (h : Hw)
  | txopen (e : Fin 1024) (f : KR) (h : Hw)
  | txcmt (e : Fin 1024) (f : KR) (h : Hw)
  | txabt (e : Fin 1024) (f : KR) (h : Hw)
  | txst (e : Fin 1024) (f : KR) (h : Hw)
  /-- A source NI forms a header from its route entry and injects a packet (R206); with
  `crcKeep` a design carries its CRC value unchanged (R87). -/
  | packetInject (p : Packet) (crcKeep : Bool)
  /-- The router that holds packet `id` acts on its hop code; `corrected` flits of it were
  corrected at the receiving port (R208, R216). -/
  | routerForward (id : Nat) (corrected : Fin 18)
  /-- An uncorrectable flit is detected on the link leaving router `r` in direction `d`;
  `same` when it is the flit that failed last; `cut` are packets whose header has crossed
  and whose last flit has not (R217, R220). -/
  | flitReplay (r : Fin 192) (d : Fin 4) (same : Bool) (cut : List Nat)
  | linkIdleTimeout (r : Fin 192) (d : Fin 4) (cut : List Nat)
  /-- Packet `id`, ejected at its destination NI, is checked and handed to the unit. -/
  | packetDeliver (id : Nat)
  | responseReceive (id : Nat)
  | reqTimeout (ni : Fin 768) (tag : BitVec 8)
  /-- A write of word `w + 1` of a route entry in the writer's window (R209). -/
  | routeWordWrite (m : Master) (entry : Fin 4096) (w : Fin 3) (v : Word)
  | routeEntryValidate (m : Master) (entry : Fin 4096) (v : Word)
  | nocLinkRetrain (m : Master) (r : Fin 192) (d : Fin 4)
  | linkRetrainDone (r : Fin 192) (d : Fin 4) (success : Bool)
  /-- The husk's new routes for the entries that cross a link (R221). -/
  | rerouteComputeDone (r : Fin 192) (d : Fin 4) (changes : List RouteChange)
  /-- A write of QE_CTRL.enable = 1. -/
  | qeEnable (m : Master)
  | qeDisable (m : Master)
  | qeReady
  | enqBegin (h : QHead) (release flow : Word) (len : BitVec 16) (cls : BitVec 8) (rest : BitVec 40)
  | enqData (h : QHead) (bytes : List Byte) (last : Bool) (crc : Word) (poison : Bool)
  | assemblyTimeout (src : Master) (tag : BitVec 8)
  | qeDeq (h : QHead) (most : BitVec 16) (lost : Option Nat)
  | qeQmov (h : QHead) (dst : BitVec 20) (lost : Option Nat)
  | queueDrop (h : QHead) (lost : Option Nat)
  | queueFlush (h : QHead) (lost : Option Nat)
  | headRelease (q : BitVec 20)
  | launchPrefetch (q : BitVec 20)
  | launchStart (q : BitVec 20) (lost : Option Nat)
  | launchLateDrop (q : BitVec 20)
  | descFetchDone (q : BitVec 20)
  /-- QE_DESC_CMD commands of a master, on the queue its QE_DESC_SEL names. -/
  | qeDescRead (m : Master)
  | qeDescWrite (m : Master)
  | qeDescStage (m : Master)
  | qeDescFlush (m : Master)
  /-- The service-time count wraps, or the timescale steps (R262). -/
  | wrapDoorbell (step : Bool)
  /-- A 1 µs word; `diverged` are the units whose copies differ by more than 0.5 ns. -/
  | syncWord (diverged : List Master)
  | timeCopyLost (u : Master)
  | timIncrWrite (m : Master) (x : Dom) (v : Word)
  | timIncrFineWrite (m : Master) (x : Dom) (v : BitVec 16)
  /-- go with mode STEP (R266), with bind and cue_slot as written. -/
  | adjustStep (m : Master) (x : Dom) (bind : Bool) (slot : Fin 8)
  | adjustSlew (m : Master) (x : Dom) (rate : BitVec 20)
  | adjustCancel (m : Master) (x : Dom)
  | slewComplete (x : Dom)
  | ppsInEdge
  | ppsTodArm (m : Master) (x : Dom) (hi : Word)
  | synceGate (x : Dom) (offset : Word)
  /-- A source becomes present; `phase` when it is the phase source, with the measured
  phase error in ns (R271). -/
  | sourcePresent (x : Dom) (phase : Bool) (err : Word)
  | domainLock (x : Dom) (meanErr : Word)
  | domainUnlock (x : Dom) (err : Word)
  /-- A source is declared lost; `c0` is the offset measured over the last 64 s (R278). -/
  | sourceLoss (x : Dom) (c0 : Word)
  | holdoverUpdate (x : Dom)
  /-- The husk servo's correction: the phase error in ns and the rate it writes. -/
  | servoCorrection (x : Dom) (err : BitVec 64) (incr : Word) (fine : BitVec 16)
  | modelBin (accepted : Bool) (terms : ModelTerms)
  | modelSave
  | servoTake (m : Master) (x : Dom)
  | servoGive (m : Master) (x : Dom)
  | servoWdKick (m : Master) (x : Dom)
  | servoWdExpiry (x : Dom) (c0 : Word)
  | serviceSelectApply (m : Master) (select force auto revert bind : Bool) (slot : Fin 8)
  | offsetSlewDone
  | ppsOutEdge (falling : Bool)
  | midSecondBypass
  | tmrStart (m : Master) (k : Fin 32) (action : Fin 8) (mailbox : BitVec 8) (bell : BitVec 5)
      (frac : BitVec 4)
  | tmrStop (m : Master) (k : Fin 32)
  | tmrExpiry (k : Fin 32)
  /-- A master arms a cue slot for a time with a pin-event fraction and an action (R290). -/
  | cueArm (m : Master) (u : CueUnit) (slot : Fin 8) (t : Word) (frac : BitVec 4)
      (a : CueAction)
  | cueDisarm (m : Master) (u : CueUnit) (slot : Fin 8)
  | cueFire (u : CueUnit) (slot : Fin 8)
  /-- Requests to the TXU: through TXU_CMD where `cmd`, else as a TRANSACTION packet (R313). -/
  | txOpen (m : Master) (deadline : BitVec 16) (cmd : Bool)
  | txCommit (m : Master) (id : BitVec 8) (launch : Launch) (cmd : Bool)
  | txAbort (m : Master) (id : BitVec 8) (cmd : Bool)
  | txQuery (m : Master) (id : BitVec 8) (cmd : Bool)
  | txRelease (m : Master) (id : BitVec 8) (cmd : Bool)
  | txuStageData (m : Master) (data : Word)
  /-- Participant `part` receives a change that `m` stages into `id` (R296, R297). -/
  | txStage (part m : Master) (change : Change) (id : BitVec 8) (posted : Bool)
  | txJoin (part : Master) (id : BitVec 8)
  | txJoinAck (part : Master) (id : BitVec 8)
  | txPrepare (part : Master) (id : BitVec 8)
  | txVote (part : Master) (id : BitVec 8)
  | txWithdraw (part : Master) (id : BitVec 8)
  | prepareDeadlineExpiry (id : BitVec 8)
  | txCommitReceive (part : Master) (id : BitVec 8)
  | txApply (part : Master) (id : BitVec 8)
  | txAbortReceive (part : Master) (id : BitVec 8)
  | txDone (part : Master) (id : BitVec 8)
  | txResend (id : BitVec 8)
  | txDoneTimeout (id : BitVec 8)
  | txOrphan (part : Master) (id : BitVec 8)
  | txEndedTimeout (id : BitVec 8)
  /-- A write of CVL_G_CTRL of group `g`. -/
  | cvlPllEnable (m : Master) (g : Fin 8) (w : Word)
  | cvlLinkApply (m : Master) (g k : Fin 8)
  | cvlLinkResync (m : Master) (g k : Fin 8)
  /-- A write of CVL_G_CUE with arm, or with disarm, set. -/
  | cvlCueArm (m : Master) (g : Fin 8) (w : Word)
  | cvlCueDisarm (m : Master) (g : Fin 8) (w : Word)
  /-- `same`: the LMFC edge it would produce is an edge of the running LMFC (R324). -/
  | sysrefInstant (g : Fin 8) (same : Bool)
  | lmfcRestart (g : Fin 8)
  | periodicSysrefPulse (g : Fin 8)
  | devclkStamp (g : Fin 8)
  | laneCgsSync (lane : Fin 64)
  | syncRelease (g : Fin 8) (k : Fin 4)
  /-- An ILAS multiframe: whether its configuration agrees and its markers are in place. -/
  | ilasMultiframe (g : Fin 8) (k : Fin 4) (agrees placed : Bool)
  | rawAligned (g : Fin 8) (k : Fin 4)
  | syncInputChange (g : Fin 8) (k : Fin 4) (x : SyncIn)
  | frameRelease (g : Fin 8) (k : Fin 4) (f : FrameIn)
  /-- `room`: the group's output buffer takes the block (R328). -/
  | rxBlockComplete (g : Fin 8) (k : Fin 4) (room : Bool)
  | txBlockArrive (g : Fin 8) (payload : List Byte) (poison crcOk : Bool)
  /-- A frame-clock edge at which transmit link 4 + k can start a block: `late` when it comes
  more than one frame period after the due time, and the frames sent without a block since
  the last one (R329). -/
  | txBlockStart (g : Fin 8) (k : Fin 4) (late : Bool) (idle : BitVec 16)
  | laneFault (lane : Fin 64)
  | laneFaultRetry (lane : Fin 64) (recovered : Bool)
  /-- A write of CVL_EYE_CTRL with go set. -/
  | eyeScanGo (m : Master) (lane : Fin 64) (w : Word)
  /-- The differing bits, or none where the CDR lost lock. -/
  | eyeScanDone (lane : Fin 64) (errors : Option Word)
  | injSingle (m : Master) (lane : Fin 64)
  | injBurst (m : Master) (lane : Fin 64)
  /-- A write of the generator and checker fields of CVL_LANE_TEST. -/
  | prbsEnable (m : Master) (lane : Fin 64) (w : Word)
  /-- The checker locks, or loses lock with the bits in error it counted. -/
  | prbsCheckerLock (lane : Fin 64) (locked : Bool) (errors : BitVec 30)
  /-- An LMFC edge of the group: the raw transmit links that have sent /K/ for 64 octets since
  they were enabled, and the period of a bit on its lanes in units of 2⁻³² ns. -/
  | lmfcEdge (g : Fin 8) (trained : BitVec 4) (bitTime : BitVec 40)
  /-- A write of NTL_PB_CTRL of block `b`. -/
  | ntlBlockEnable (m : Master) (b : Fin 8) (w : Word)
  /-- A frame with its FCS, whether the FCS and the codewords were good, and the time since the
  stamp point in units of 2⁻³² ns; `old` when the stamp point came before the latest change
  of the block's stamp domain (R352). -/
  | rxFrameComplete (b : Fin 8) (p : Fin 4) (frame : List Byte) (fcsOk wordsOk : Bool)
      (since : BitVec 48) (old : Bool)
  /-- The QE's response to the enqueue with a tag (R348). -/
  | rxEnqueueResponse (b : Fin 8) (tag : BitVec 8)
  | ringFrameReceive (b : Fin 8) (p : Fin 4) (frame : List Byte) (fcsOk wordsOk : Bool)
      (since : BitVec 48) (old : Bool)
  | txFrameMessage (b : Fin 8) (src : Master) (payload : List Byte) (poison crcOk : Bool)
  | txFrameAssemblyTimeout (b : Fin 8) (src : Master)
  /-- The frame at the front of a port's FIFO reaches its stamp point. -/
  | txFrameSend (b : Fin 8) (p : Fin 4)
  | ts2Pop (m : Master) (b : Fin 8)
  | rclkSquelchChange (i : Fin 2) (squelched : Bool)
  | ntlLaneLost (lane : Fin 32)
  | ntlLaneRetrain (lane : Fin 32) (recovered : Bool)
  | portLinkUp (b : Fin 8) (p : Fin 4)
  /-- A piece of a DRAM read within one line (R362); `x` is what the line's codes say. -/
  | dramReadPiece (m : Master) (address : BitVec 48) (size : Fin 65) (x : LineHw)
  | dramWritePiece (m : Master) (address : BitVec 48) (bytes : List Byte) (poison crcOk : Bool)
      (x : LineHw)
  | sameBankRefresh (b : BankRef)
  | neighbourRefresh (b : BankRef)
  | refreshWindowEnd (b : BankRef)
  /-- The once-a-second check of a controller's DIMM temperature, in °C. -/
  | dramHot (mc : Fin 8) (celsius : BitVec 8)
  | trainCheck (mc : Fin 8) (sub : Fin 2) (found : List RankDrift)
  | mcRetrain (m : Master) (mc : Fin 8)
  /-- A retraining step of a rank; with a result where it is the rank's last: whether a
  passing window was found. -/
  | retrainStep (mc : Fin 8) (sub : Fin 2) (rank : Fin 8) (result : Option Bool)
  | caParityError (mc : Fin 8) (sub : Fin 2) (retryOk : Bool)
  | caRetrainDone (mc : Fin 8) (sub : Fin 2)
  /-- A write of MC_SPARE with go set. -/
  | mcSpareGo (m : Master) (mc : Fin 8) (w : Word)
  /-- The copy of the failed rank ends; `bad` are addresses of lines copied poisoned. -/
  | spareCopyDone (mc : Fin 8) (bad : List (BitVec 48))
  | mirrorResyncDone (mc : Fin 8) (sub : Fin 2)
  | selfRefreshEnter (mc : Fin 8)
  /-- A write of MP_RANGE_CFG. -/
  | mpRangeEnable (m : Master) (r : Fin 32) (w : Word)
  /-- A write of ext_host and ext_mon of a range, or of MP_DEFAULT. -/
  | mpPolicyWrite (m : Master) (r : Option (Fin 32)) (extHost extMon : BitVec 2)
  /-- A write of MP_SWEEP. -/
  | mpSweepGo (m : Master) (w : Word)
  | mpSweepLine (x : LineHw)
  | rekeyDue (r : Fin 32)
  | patrolScrubRead (mc : Fin 8) (sub : Fin 2) (address : BitVec 48) (ecc : Ecc) (dev : Fin 10)
  /-- The husk opens a page retirement and copies its lines. -/
  | pageRetireOpen (page : BitVec 36)
  | pageCopyDone (page : BitVec 36) (bad : List (Fin 64))
  /-- A scratchpad access of `size` bytes at scratchpad offset `o`; a write carries its
  bytes and whether its CRC check passed (R408). -/
  | spmAccess (m : Master) (o : BitVec 27) (size : Fin 513) (write : Option (List Byte))
      (poison crcOk : Bool) (ecc : Ecc)
  | spmAtomic (m : Master) (address : BitVec 48) (swap : Bool) (operand : Word) (poison : Bool)
      (ecc : Ecc)
  /-- A write of SPM_SET_CFG whose mode bit differs (R407). -/
  | spmSetModeWrite (m : Master) (set : Fin 16) (linear : Bool)
  | spmSetPowerWrite (m : Master) (set : Fin 16) (power : Fin 4)
  | spmBankPowerWrite (m : Master) (bank : Fin 512) (power : Fin 4)
  /-- The change of a bank (of a LINEAR set) or of its whole INTERLEAVED set is complete. -/
  | powerChangeDone (bank : Fin 512)
  | secureWipeDone
  | mbxDbSet (m : Master) (mbx : Fin 256) (bells : Word)
  | mbxDbClear (m : Master) (mbx : Fin 256) (bells : Word)
  | mbxMaskWrite (m : Master) (mbx : Fin 256) (mask : Word)
  | mbxSend (m : Master) (mbx : Fin 256)
  | mbxAck (m : Master) (mbx : Fin 256) (seq code : BitVec 16)
  | mbxTimeout (mbx : Fin 256)
  | mbxMsgWrite (m : Master) (mbx : Fin 256) (i : Fin 16) (w : Word)
  | mbxCfgWrite (m : Master) (mbx : Fin 256) (w : Word)
  /-- A host write of the load window at `offset` (R427). -/
  | hostWindowWrite (offset : BitVec 26) (bytes : List Byte)
  /-- Writes of PCI_LDR_CTRL with src_go, abort or activate set. -/
  | ldrSrcGo (m : Master) (w : Word)
  | ldrAbort (m : Master) (w : Word)
  | ldrActivate (m : Master) (w : Word)
  | streamIdleTimeout
  /-- The loader acts on the next record of its stream, of the type named. -/
  | framesRecord
  | zerosRecord
  | essentialRecord
  | bramRecord
  | pllRecord
  | pciePfRecord
  | engImemRecord
  | engDmemRecord
  | engStartRecord
  | blobRecord
  | endRecord
  | imageVerifyDone
  /-- The flash work ends; `ok` when the area read back as written. -/
  | acornRewriteDone (ok : Bool)
  | firmwareConfirm
  | pfRetryTimeout
  /-- The verified signed command is run, with the read-backs of its burn. -/
  | provision (b : Burn)
  | addKey (b : Burn)
  | revokeKey (b : Burn)
  | advance (b : Burn)
  | lifecycleReset
  | raiseFloor (b : Burn)
  | setPassword
  | tamperAck
  | tamperLock (b : Burn)
  /-- A write of PCI_CMD with go set. -/
  | pciCmdGo (m : Master) (w : Word)
  /-- Husk commands: from PCI_CMD, or with their input over the monitor's transports (R449). -/
  | attest (input : Option (MonVia × List Byte))
  | identityCert (input : Option (MonVia × List Byte))
  | unlockChallenge (input : Option (MonVia × List Byte))
  | unlockResponse (input : Option (MonVia × List Byte))
  | unlockPassword (input : Option (MonVia × List Byte))
  | debugLock (input : Option (MonVia × List Byte))
  | sessionExpiry
  | tamperClass1 (detail : BitVec 48)
  | glitchEvent
  /-- `shield`: two samples of the package shield 1 µs apart; else a tamper already due. -/
  | tamperClass2Confirm (shield : Bool) (b : Burn)
  | hostRequest (r : HostReq)
  | pcieLinkLoss
  /-- The link trains: log2 of the lanes, and the speed code. -/
  | pcieLinkUp (width : Fin 5) (speed : Fin 6)
  /-- The oldest record in the buffer of a unit's NI leaves. -/
  | faultRecordSend (u : Master)
  | collectorRecord
  | notification
  /-- A write of ERR_ACK. -/
  | errAck (m : Master) (w : Word)
  | quietResolve (index : Fin 512)
  /-- Writes of ERR_REPAIR_CTRL with go, or with drop, set. -/
  | repairGo (m : Master) (w : Word)
  | repairDrop (m : Master) (w : Word)
  | huskWatchdogExpiry
  | heartbeatMissed
  | takeoverDone
  | standbyReady
  | huskRestart
  | huskRestartDone
  /-- A write of ERR_HUSK_CTRL with handover set. -/
  | handover (m : Master) (w : Word)
  /-- The standby has copied the state; `readable` when its firmware can read the format. -/
  | handoverSwap (readable : Bool)
  | governorSample (g : GovSample)
  /-- Writes of ERR_GOV_CTRL with surge, or with cancel, set. -/
  | surge (m : Master) (w : Word)
  | surgeCancel (m : Master) (w : Word)
  | ledgerFlashWriteDone
  /-- `confirmed`: the sensed voltage is within 10 mV of the step's target. -/
  | vengStep (confirmed : Bool)
  | engineClockStep
  | surgeEnd
  | ledgerCharge
  | monContinue (via : MonVia)
  | monStatus (via : MonVia)
  | monRead (via : MonVia) (address : BitVec 64) (eight : Bool) (length : BitVec 16)
  | monTake (via : MonVia) (address : BitVec 64)
  | monWrite (via : MonVia) (address : BitVec 64) (eight : Bool) (data : List Byte)
  | monHalt (via : MonVia) (target : Word)
  | monResume (via : MonVia) (target : Word)
  | resumeTick
  | monStep (via : MonVia) (e : Word) (count : BitVec 16)
  | monBreak (via : MonVia) (e : Word) (b : BreakArgs)
  | monFreeze (via : MonVia) (w lo hi : Word)
  | monTxHold (via : MonVia) (on : Bool)
  | monCapture (via : MonVia) (region : Word)
  | monInject (via : MonVia) (lane : Word) (on : Bool)
  | monSetBaud (via : MonVia) (rate : Word)
  | uartFrameReceive (frame : List Byte)
  | debugDomainReady
  /-- The scrubber of a scratchpad bank reads its next word. -/
  | spmScrubCycle (bank : Fin 512) (ecc : Ecc)
  | scrubStallCheck
  /-- A 100 µs count window of a clock ends; `agrees` as Table 18.2 asks (R489). -/
  | clockStabilityWindow (c : Clock) (agrees : Bool)
  | referenceSwitchBack (c : Clock)
  /-- The ratio of FOSC to SOSC the husk finds (R491). -/
  | oscRatioCheck (ratio : BitVec 16)
  /-- A write of CLK_FPLL_CTRL of fabric PLL `q`. -/
  | fpllEnable (m : Master) (q : Fin 24) (w : Word)
  | pinApply (m : Master) (pin : BitVec 9)
  | pinCommitEdge (pin : Fin 384)
  | pinOutWrite (m : Master) (bank : Fin 16) (r : PinOutReg) (data : BitVec 24)
  | pinElecWrite (m : Master) (pin : Fin 384) (w : Word)
  /-- A bank's VIO is measured anew, in mV (R501). -/
  | vioChange (bank : Fin 16) (mv : BitVec 12)
  | railOutOfRange (rail : Rail)
  | tapBypass
  | tapIdcode
  /-- The levels of the general pins are captured, and `data` is loaded. -/
  | tapSamplePreload (data : BitVec 384)
  | tapExtest
  | tapClamp
  | tapHighz
  | tapExtestPulse
  | tapExtestTrain
  /-- A TSENSE reading averaged over 1 s, and the die sensors' readings in 1/128 °C: the one
  nearest XTAL_TIME and the mean of the hub die (R280). -/
  | tsenseSample (mv : BitVec 12) (die hub : BitVec 16)
  deriving DecidableEq, Repr

end Sys2Proof
end

