-- ==== Sys2Proof/Config.lean ====
section
/-! DEFINITION. What one device fixes and the spec leaves open: constants without a body,
so that no proof can see their values (notes/assumptions/3 and notes/assumptions/4). -/

namespace Sys2Proof.Config

/-- The NI directory (R200): the block code and the index of what stands at NI `n`; block
code 0 is a position without an NI. Fixed for the device, and not listed by the spec. -/
opaque niDir : Nat → BitVec 8 × BitVec 10

/-- The speed grade burned in the device, `true` for grade 2 (R1, DEV_GRADE). -/
opaque grade2 : Bool

/-- A free value: what the spec leaves undefined at the `n`th use. -/
opaque freeValue : Nat → BitVec 64

/-- Where page `i` of the husk's retirement pool lies in DRAM; the layout of the husk range is
the husk's (R385). -/
opaque poolPage : Nat → BitVec 48

/-- Whether an ML-DSA-87 signature verifies: key, message and signature (FIPS 204). -/
opaque mlDsaVerify : List Byte → List Byte → List Byte → Bool

/-- An ML-DSA-87 signature made with a device key over a message (FIPS 204). -/
opaque mlDsaSign : Nat → List Byte → List Byte

/-- SHA3-512 of the key Xoelo signs images of a kind with, held in ROM (R424). -/
opaque xoeloDigest : Nat → BitVec 512

/-- The device's identity public key, derived from identity_seed (R448). -/
opaque identityKey : List Byte

/-- Xoelo's certificate of the identity, in image form (R448). -/
opaque certificate : List Byte

/-- The digest D of the firmware the flash holds as delivered. -/
opaque firmwareDigest : BitVec 512

/-- The nominal XTAL_SYS frequency the board maker wrote in the boot descriptor (R441). -/
opaque boardXsysHz : BitVec 32

/-- The size of the board's flash in bytes, 1 to 2 Gbit (R440). -/
opaque flashSize : Nat

/-- The MAC address of the device on the ring (R357). -/
opaque macAddress : BitVec 48

/-- The source and the divider minus 1 that a frame of major 72 sets for its tree (Table 3.2);
the spec does not give the bits of a frame. -/
opaque treeSetting : BitVec 3072 → BitVec 4 × BitVec 4

/-- The pins whose design use the frames of a pod declare, with the function and the
electrical settings they name (R497). -/
opaque pinUse : List (Nat × BitVec 3072) → List (Nat × BitVec 32 × BitVec 32)

end Sys2Proof.Config
end

