-- ==== Sys2Proof/Machine/Bits.lean ====
section
/-! DEFINITION. Bit fields of register words, sparse tables in canonical form, and the
bit and number helpers that every block uses. -/

namespace Sys2Proof.Machine

/-- A named bit field of a control register: the register's offset, the field's low bit
and its width. -/
structure Field where
  off : Nat
  lo : Nat
  width : Nat
  deriving DecidableEq, Repr

/-- The mask of `w` ones, as a word. -/
def onesMask (w : Nat) : Word := BitVec.ofNat 32 (2 ^ w - 1)

/-- The value of bits `lo + w - 1 : lo` of a word (R5). -/
def bitsOf (x : Word) (lo w : Nat) : Nat := (x.toNat >>> lo) % 2 ^ w

/-- The word with bits `lo + w - 1 : lo` replaced by `v` modulo `2 ^ w`. -/
def putBits (x : Word) (lo w v : Nat) : Word :=
  (x &&& ~~~(onesMask w <<< lo)) ||| (BitVec.ofNat 32 (v % 2 ^ w) <<< lo)

def Field.get (f : Field) (x : Word) : Nat := bitsOf x f.lo f.width
def Field.put (f : Field) (x : Word) (v : Nat) : Word := putBits x f.lo f.width v

/-- A sparse table: keys strictly rising, no entry equal to what an unlisted key reads
as, so that equal tables are equal data. -/
abbrev Table (α : Type) := List (Nat × α)

/-- What the table holds at `k`; an unlisted key reads as `d k`. -/
def Table.get {α : Type} (d : Nat → α) : Table α → Nat → α
  | [], k => d k
  | (k', v') :: t, k => if k' = k then v' else Table.get d t k

/-- The table without entries at `k`. -/
def Table.drop {α : Type} (t : Table α) (k : Nat) : Table α := t.filter fun e => e.1 != k

/-- An entry placed before the first one with a larger key. -/
def Table.place {α : Type} (k : Nat) (v : α) : Table α → Table α
  | [] => [(k, v)]
  | e :: t => if k < e.1 then (k, v) :: e :: t else e :: Table.place k v t

/-- The table with `v` at `k`; an entry equal to its default is not listed. -/
def Table.set {α : Type} [DecidableEq α] (d : Nat → α) (t : Table α) (k : Nat) (v : α) : Table α :=
  if v = d k then t.drop k else Table.place k v (t.drop k)

/-- All keys of the table are above `k`, rise strictly, and no entry is a default. -/
def Table.wfFrom {α : Type} [DecidableEq α] (d : Nat → α) : Option Nat → Table α → Bool
  | _, [] => true
  | lo, (k, v) :: t =>
    (match lo with | none => true | some l => decide (l < k)) && decide (v ≠ d k) &&
      Table.wfFrom d (some k) t

/-- The canonical form of a sparse table. -/
def Table.wf {α : Type} [DecidableEq α] (d : Nat → α) (t : Table α) : Bool :=
  Table.wfFrom d none t

/-- Apply `f` to what the table holds at `k`. -/
def Table.modify {α : Type} [DecidableEq α] (d : Nat → α) (t : Table α) (k : Nat)
    (f : α → α) : Table α := Table.set d t k (f (Table.get d t k))

/-- Saturating sum at `cap`. -/
def satAdd (cap a b : Nat) : Nat := min cap (a + b)

/-- The number a `w`-bit two's complement pattern stands for. -/
def sextNat (w v : Nat) : Int :=
  if v % 2 ^ w < 2 ^ (w - 1) then (v % 2 ^ w : Nat) else (v % 2 ^ w : Nat) - (2 ^ w : Nat)

/-- Whether bit `i` of a number is set. -/
def bitAt (v i : Nat) : Bool := v >>> i % 2 == 1

/-- The number whose bit `i` alone is as given, the other bits as in `v`. -/
def withBit (v i : Nat) (b : Bool) : Nat :=
  if b then v ||| 2 ^ i else if bitAt v i then v - 2 ^ i else v

/-- The number 1 for true and 0 for false. -/
def b2n (b : Bool) : Nat := if b then 1 else 0

/-- Little-endian bytes of a number (R5). -/
def toBytes : Nat → Nat → List Byte
  | 0, _ => []
  | n + 1, v => BitVec.ofNat 8 v :: toBytes n (v / 256)

/-- The number little-endian bytes spell (R5). -/
def ofBytes : List Byte → Nat
  | [] => 0
  | b :: bs => b.toNat + 256 * ofBytes bs

/-- The list with element `i` replaced. -/
def setAt {α : Type} (l : List α) (i : Nat) (v : α) : List α := l.set i v

end Sys2Proof.Machine
end

