-- ==== Sys2Proof/Machine/RegMap.lean ====
section
/-! DEFINITION. The control register map: every register of the spec's register
sections, with its offset in control register space (Table 1.4), its replication, its
reset value and its access codes (Table 0.4), and every named field of every register. -/

namespace Sys2Proof.Machine

/-- One register, or one array of registers, of the control register space.
`base + i * s1 + j * s2` for `i < c1`, `j < c2` are its offsets; `reset` is the heading's
reset value; the masks give the bits of each access code of Table 0.4 (R8); `src` says
that the register is held separately for each source NI. -/
structure RegRow where
  base : Nat
  c1 : Nat
  s1 : Nat
  c2 : Nat
  s2 : Nat
  reset : Nat
  rw : Nat
  w1c : Nat
  w1s : Nat
  wo : Nat
  rc : Nat
  rws : Nat
  sh : Nat
  src : Bool
  deriving DecidableEq, Repr


namespace R

/-! Register offsets, as the headings of the register sections give them. -/


def DEV_ID : Nat := 0x0
def DEV_GRADE : Nat := 0x4
def DEV_MODE : Nat := 0x10
def DEV_MODE_CAUSE : Nat := 0x14
def DEV_MODE_TIME : Nat := 0x18
def DEV_DORMANT : Nat := 0x20
def DEV_WAKE_LO : Nat := 0x24
def DEV_WAKE_HI : Nat := 0x28
def DEV_REQ_STATUS : Nat := 0x2C
def DEV_RESET_POLICY : Nat := 0x30
def DEV_RDV : Nat := 0x34
def DEV_CLAIM (i : Nat) : Nat := 0x1000 + 0x4 * i
def DEV_CUE_TIME (i : Nat) : Nat := 0x320 + 0x8 * i
def DEV_CUE_STATE (i : Nat) : Nat := 0x324 + 0x8 * i

def CFG_STATUS : Nat := 0x700000
def CFG_SCRUB_CTRL : Nat := 0x700010
def CFG_REPAIR_STATUS : Nat := 0x700200
def CFG_SCRUB_LAP (i : Nat) : Nat := 0x700100 + 0x20 * i
def CFG_SCRUB_COUNT (i : Nat) : Nat := 0x700104 + 0x20 * i
def CFG_SCRUB_CE (i : Nat) : Nat := 0x700108 + 0x20 * i
def CFG_SCRUB_UE (i : Nat) : Nat := 0x70010C + 0x20 * i
def CFG_SCRUB_ESS (i : Nat) : Nat := 0x700110 + 0x20 * i
def CFG_POD_STATE (i : Nat) : Nat := 0x701000 + 0x40 * i
def CFG_POD_CTRL (i : Nat) : Nat := 0x701004 + 0x40 * i
def CFG_POD_AT (i : Nat) : Nat := 0x701008 + 0x40 * i
def CFG_POD_DROP (i : Nat) : Nat := 0x70100C + 0x40 * i
def CFG_POD_SWITCHES (i : Nat) : Nat := 0x701010 + 0x40 * i
def CFG_POD_TWIN (i : Nat) : Nat := 0x701020 + 0x40 * i
def CFG_POD_REGIONS_0 (i : Nat) : Nat := 0x701014 + 0x40 * i
def CFG_POD_REGIONS_1 (i : Nat) : Nat := 0x701018 + 0x40 * i
def CFG_POD_REGIONS_2 (i : Nat) : Nat := 0x70101C + 0x40 * i
def CFG_REGION (i : Nat) : Nat := 0x704000 + 0x10 * i
def CFG_REGION_SLICE (i : Nat) : Nat := 0x704004 + 0x10 * i
def CFG_REGION_BRAM (i : Nat) : Nat := 0x704008 + 0x10 * i
def CFG_CUE_TIME (i : Nat) : Nat := 0x700320 + 0x8 * i
def CFG_CUE_STATE (i : Nat) : Nat := 0x700324 + 0x8 * i
def CFG_CUE_CLAIM (i : Nat) : Nat := 0x700300 + 0x4 * i

def ENG_STATUS (i : Nat) : Nat := 0x1000000 + 0x1000 * i
def ENG_STATE (i : Nat) : Nat := 0x1000004 + 0x1000 * i
def ENG_CTRL (i : Nat) : Nat := 0x1000008 + 0x1000 * i
def ENG_RUN (i : Nat) : Nat := 0x100000C + 0x1000 * i
def ENG_APPLY (i : Nat) : Nat := 0x1000010 + 0x1000 * i
def ENG_VEC (i : Nat) : Nat := 0x1000014 + 0x1000 * i
def ENG_EXC (i : Nat) : Nat := 0x1000018 + 0x1000 * i
def ENG_WD (i : Nat) : Nat := 0x1000024 + 0x1000 * i
def ENG_WD_REMAIN (i : Nat) : Nat := 0x1000028 + 0x1000 * i
def ENG_MAP (i : Nat) : Nat := 0x100002C + 0x1000 * i
def ENG_ERR (i : Nat) : Nat := 0x1000030 + 0x1000 * i
def ENG_MSG_CFG (i : Nat) : Nat := 0x1000040 + 0x1000 * i
def ENG_MSG_STATE (i : Nat) : Nat := 0x1000044 + 0x1000 * i
def ENG_MSG_FREE (i : Nat) : Nat := 0x1000048 + 0x1000 * i
def ENG_EVT (i : Nat) : Nat := 0x100001C + 0x1000 * i
def ENG_EVT_MASK (i : Nat) : Nat := 0x1000020 + 0x1000 * i
def ENG_CUE_TIME (i j : Nat) : Nat := 0x1000320 + 0x1000 * i + 0x8 * j
def ENG_CUE_STATE (i j : Nat) : Nat := 0x1000324 + 0x1000 * i + 0x8 * j
def ENG_CUE_CLAIM (i j : Nat) : Nat := 0x1000300 + 0x1000 * i + 0x4 * j

def NOC_STATUS : Nat := 0x200000
def NOC_REQ_TIMEOUT : Nat := 0x200008
def NOC_RT_SEL : Nat := 0x200010
def NOC_RT_ENTRY_W0 (i : Nat) : Nat := 0x210000 + 0x10 * i
def NOC_RT_ENTRY_W1 (i : Nat) : Nat := 0x210004 + 0x10 * i
def NOC_RT_ENTRY_W2 (i : Nat) : Nat := 0x210008 + 0x10 * i
def NOC_RT_ENTRY_W3 (i : Nat) : Nat := 0x21000C + 0x10 * i
def NOC_NI_DIR (i : Nat) : Nat := 0x220000 + 0x4 * i
def NOC_OBJ_NI (i : Nat) : Nat := 0x221000 + 0x4 * i
def NOC_LINK (i : Nat) : Nat := 0x230000 + 0x4 * i
def NOC_LINK_CE (i : Nat) : Nat := 0x231000 + 0x4 * i
def NOC_NI_STAT0 (i : Nat) : Nat := 0x240000 + 0x10 * i
def NOC_NI_STAT1 (i : Nat) : Nat := 0x240004 + 0x10 * i

def QE_STATUS : Nat := 0x180000
def QE_CTRL : Nat := 0x180004
def QE_POOL_RESERVE : Nat := 0x180038
def QE_POOL_LOST : Nat := 0x18003C
def QE_LAUNCH_CFG : Nat := 0x180040
def QE_LAUNCH_STAT : Nat := 0x180044
def QE_REFUSED : Nat := 0x180060
def QE_LAST_REFUSED : Nat := 0x180064
def QE_LAST_REFUSED_Q : Nat := 0x180068
def QE_DESC_BASE_LO : Nat := 0x180010
def QE_DESC_BASE_HI : Nat := 0x180014
def QE_POOL_BASE_LO : Nat := 0x180018
def QE_POOL_BASE_HI : Nat := 0x18001C
def QE_LINK_BASE_LO : Nat := 0x180020
def QE_LINK_BASE_HI : Nat := 0x180024
def QE_POOL_SIZE_LO : Nat := 0x180028
def QE_POOL_SIZE_HI : Nat := 0x18002C
def QE_POOL_FREE_LO : Nat := 0x180030
def QE_POOL_FREE_HI : Nat := 0x180034
def QE_DROPS (i : Nat) : Nat := 0x180050 + 0x4 * i
def QE_DESC_SEL : Nat := 0x180200
def QE_DESC_CMD : Nat := 0x180204
def QE_DESC_W (i : Nat) : Nat := 0x180210 + 0x4 * i
def QE_SCHED_CFG (i : Nat) : Nat := 0x181000 + 0x8 * i
def QE_SCHED_UNIT (i : Nat) : Nat := 0x181004 + 0x8 * i
def QE_GROUP (i j : Nat) : Nat := 0x1C0000 + 0x400 * i + 0x4 * j

def TIM_SVC_STATUS : Nat := 0x100000
def TIM_SVC_CTRL : Nat := 0x100004
def TIM_SVC_AT : Nat := 0x100008
def TIM_SVC_SLEW : Nat := 0x10000C
def TIM_SVC_FRAC : Nat := 0x100018
def TIM_SVC_REQ : Nat := 0x100028
def TIM_WRAP : Nat := 0x100030
def TIM_TEB_LIMIT : Nat := 0x100034
def TIM_TEMP : Nat := 0x100040
def TIM_TSENSE_CFG : Nat := 0x100044
def TIM_TSENSE_CAL : Nat := 0x100048
def TIM_PPS_CTRL : Nat := 0x100050
def TIM_PPS_OFFSET : Nat := 0x100054
def TIM_PPS_TEB : Nat := 0x100058
def TIM_MODEL_STATUS : Nat := 0x100400
def TIM_MODEL_RANGE : Nat := 0x100404
def TIM_MODEL_PRIOR : Nat := 0x100408
def TIM_SVC_NS_LO : Nat := 0x100010
def TIM_SVC_NS_HI : Nat := 0x100014
def TIM_SVC_OFFSET_LO : Nat := 0x100020
def TIM_SVC_OFFSET_HI : Nat := 0x100024
def TIM_x_CTRL (i : Nat) : Nat := 0x100100 + 0x100 * i
def TIM_x_STATE (i : Nat) : Nat := 0x100104 + 0x100 * i
def TIM_x_INCR (i : Nat) : Nat := 0x100108 + 0x100 * i
def TIM_x_INCR_FINE (i : Nat) : Nat := 0x10010C + 0x100 * i
def TIM_x_ADJ_CTRL (i : Nat) : Nat := 0x100118 + 0x100 * i
def TIM_x_ADJ_REMAIN (i : Nat) : Nat := 0x10011C + 0x100 * i
def TIM_x_ADJ_AT (i : Nat) : Nat := 0x100154 + 0x100 * i
def TIM_x_TEB (i : Nat) : Nat := 0x10012C + 0x100 * i
def TIM_x_HO_SECONDS (i : Nat) : Nat := 0x100130 + 0x100 * i
def TIM_x_SERVO (i : Nat) : Nat := 0x100134 + 0x100 * i
def TIM_x_OWNER (i : Nat) : Nat := 0x100138 + 0x100 * i
def TIM_x_SERVO_CFG (i : Nat) : Nat := 0x10013C + 0x100 * i
def TIM_x_PPS_FRAC (i : Nat) : Nat := 0x100148 + 0x100 * i
def TIM_x_SYNCE (i : Nat) : Nat := 0x100158 + 0x100 * i
def TIM_x_FRAC (i : Nat) : Nat := 0x100128 + 0x100 * i
def TIM_x_ADJ_LO (i : Nat) : Nat := 0x100110 + 0x100 * i
def TIM_x_ADJ_HI (i : Nat) : Nat := 0x100114 + 0x100 * i
def TIM_x_NS_LO (i : Nat) : Nat := 0x100120 + 0x100 * i
def TIM_x_NS_HI (i : Nat) : Nat := 0x100124 + 0x100 * i
def TIM_x_PPS_NS_LO (i : Nat) : Nat := 0x100140 + 0x100 * i
def TIM_x_PPS_NS_HI (i : Nat) : Nat := 0x100144 + 0x100 * i
def TIM_x_PPS_TOD_LO (i : Nat) : Nat := 0x10014C + 0x100 * i
def TIM_x_PPS_TOD_HI (i : Nat) : Nat := 0x100150 + 0x100 * i
def TIM_MODEL_VAL (i : Nat) : Nat := 0x100410 + 0x8 * i
def TIM_MODEL_UNC (i : Nat) : Nat := 0x100414 + 0x8 * i
def TIM_TMR_CTRL (i : Nat) : Nat := 0x100800 + 0x20 * i
def TIM_TMR_START (i : Nat) : Nat := 0x100804 + 0x20 * i
def TIM_TMR_PERIOD (i : Nat) : Nat := 0x100808 + 0x20 * i
def TIM_TMR_STATUS (i : Nat) : Nat := 0x10080C + 0x20 * i
def TIM_CUE_TIME (i : Nat) : Nat := 0x100320 + 0x8 * i
def TIM_CUE_STATE (i : Nat) : Nat := 0x100324 + 0x8 * i
def TIM_CUE_CLAIM (i : Nat) : Nat := 0x100300 + 0x4 * i

def TXU_STATUS : Nat := 0x140000
def TXU_CFG : Nat := 0x140004
def TXU_CMD : Nat := 0x140010
def TXU_CMD_LAUNCH : Nat := 0x140014
def TXU_CMD_RESULT : Nat := 0x140018
def TXU_NOTIFY : Nat := 0x14001C
def TXU_STAGE_DATA : Nat := 0x140028
def TXU_STAGE_ADDR_LO : Nat := 0x140020
def TXU_STAGE_ADDR_HI : Nat := 0x140024
def TXU_COUNT : Nat := 0x140040
def TXU_PARTIAL : Nat := 0x140044
def TXU_TX_STATE0 (i : Nat) : Nat := 0x141000 + 0x10 * i
def TXU_TX_STATE1 (i : Nat) : Nat := 0x141004 + 0x10 * i
def TXU_TX_STATE2 (i : Nat) : Nat := 0x141008 + 0x10 * i
def TXU_TX_STATE3 (i : Nat) : Nat := 0x14100C + 0x10 * i

def CVL_CUE_TIME (i j : Nat) : Nat := 0x500320 + 0x8000 * i + 0x8 * j
def CVL_CUE_STATE (i j : Nat) : Nat := 0x500324 + 0x8000 * i + 0x8 * j
def CVL_CUE_CLAIM (i j : Nat) : Nat := 0x500300 + 0x8000 * i + 0x4 * j
def CVL_LANE_CTRL (i : Nat) : Nat := 0x500000 + 0x1000 * i
def CVL_LANE_STATUS (i : Nat) : Nat := 0x500004 + 0x1000 * i
def CVL_LANE_TXEQ (i : Nat) : Nat := 0x500008 + 0x1000 * i
def CVL_LANE_RXEQ (i : Nat) : Nat := 0x50000C + 0x1000 * i
def CVL_LANE_ERR (i : Nat) : Nat := 0x500010 + 0x1000 * i
def CVL_LANE_TEST (i : Nat) : Nat := 0x500020 + 0x1000 * i
def CVL_LANE_PRBS_ERR (i : Nat) : Nat := 0x500024 + 0x1000 * i
def CVL_EYE_CTRL (i : Nat) : Nat := 0x500030 + 0x1000 * i
def CVL_EYE_ERR (i : Nat) : Nat := 0x500034 + 0x1000 * i
def CVL_G_CTRL (i : Nat) : Nat := 0x500800 + 0x8000 * i
def CVL_G_STATUS (i : Nat) : Nat := 0x500804 + 0x8000 * i
def CVL_G_SYSREF (i : Nat) : Nat := 0x500808 + 0x8000 * i
def CVL_G_CUE (i : Nat) : Nat := 0x50080C + 0x8000 * i
def CVL_G_CUE_AT (i : Nat) : Nat := 0x500810 + 0x8000 * i
def CVL_G_LMFC_NS (i : Nat) : Nat := 0x500814 + 0x8000 * i
def CVL_G_LMFC_FRAC (i : Nat) : Nat := 0x500818 + 0x8000 * i
def CVL_G_DEVCLK_NS (i : Nat) : Nat := 0x50081C + 0x8000 * i
def CVL_G_DEVCLK_FRAC (i : Nat) : Nat := 0x500820 + 0x8000 * i
def CVL_LK_CFG0 (i j : Nat) : Nat := 0x500900 + 0x8000 * i + 0x40 * j
def CVL_LK_CFG1 (i j : Nat) : Nat := 0x500904 + 0x8000 * i + 0x40 * j
def CVL_LK_DEST (i j : Nat) : Nat := 0x500908 + 0x8000 * i + 0x40 * j
def CVL_LK_CTRL (i j : Nat) : Nat := 0x50090C + 0x8000 * i + 0x40 * j
def CVL_LK_STATUS (i j : Nat) : Nat := 0x500910 + 0x8000 * i + 0x40 * j
def CVL_LK_COUNT (i j : Nat) : Nat := 0x500914 + 0x8000 * i + 0x40 * j
def CVL_LK_SYNC (i j : Nat) : Nat := 0x500918 + 0x8000 * i + 0x40 * j

def NTL_RING : Nat := 0x600000
def NTL_RCLK (i : Nat) : Nat := 0x600010 + 0x4 * i
def NTL_PB_CTRL (i : Nat) : Nat := 0x601000 + 0x1000 * i
def NTL_PB_STATUS (i : Nat) : Nat := 0x601004 + 0x1000 * i
def NTL_PB_TS (i : Nat) : Nat := 0x601020 + 0x1000 * i
def NTL_PB_DELAY (i : Nat) : Nat := 0x601024 + 0x1000 * i
def NTL_PB_TS2_NS (i : Nat) : Nat := 0x601030 + 0x1000 * i
def NTL_PB_TS2_INFO (i : Nat) : Nat := 0x601034 + 0x1000 * i
def NTL_PB_TS2_AUX (i : Nat) : Nat := 0x601038 + 0x1000 * i
def NTL_PB_RXQ (i j : Nat) : Nat := 0x601008 + 0x1000 * i + 0x4 * j
def NTL_PB_COUNT0 (i j : Nat) : Nat := 0x601040 + 0x1000 * i + 0x8 * j
def NTL_PB_COUNT1 (i j : Nat) : Nat := 0x601044 + 0x1000 * i + 0x8 * j
def NTL_PB_FEC (i j : Nat) : Nat := 0x601060 + 0x1000 * i + 0x4 * j
def NTL_LANE_TXEQ (i : Nat) : Nat := 0x610000 + 0x100 * i
def NTL_LANE_RXEQ (i : Nat) : Nat := 0x610004 + 0x100 * i
def NTL_LANE_DFE (i j : Nat) : Nat := 0x610010 + 0x100 * i + 0x4 * j

def MC_STATUS (i : Nat) : Nat := 0x300000 + 0x10000 * i
def MC_CTRL (i : Nat) : Nat := 0x300004 + 0x10000 * i
def MC_TRAIN (i : Nat) : Nat := 0x300010 + 0x10000 * i
def MC_RH (i : Nat) : Nat := 0x300020 + 0x10000 * i
def MC_RH_STAT (i : Nat) : Nat := 0x300024 + 0x10000 * i
def MC_ECC_COUNT (i : Nat) : Nat := 0x300030 + 0x10000 * i
def MC_CAPAR (i : Nat) : Nat := 0x300040 + 0x10000 * i
def MC_SPARE (i : Nat) : Nat := 0x300050 + 0x10000 * i
def MC_UE_ADDR_LO (i : Nat) : Nat := 0x300034 + 0x10000 * i
def MC_UE_ADDR_HI (i : Nat) : Nat := 0x300038 + 0x10000 * i
def MC_CE_DEV (i j : Nat) : Nat := 0x300100 + 0x10000 * i + 0x4 * j
def MCG_MAP : Nat := 0x308000
def MCG_ZONE (i : Nat) : Nat := 0x308010 + 0x4 * i
def MCG_HASH (i : Nat) : Nat := 0x308040 + 0x4 * i

def MP_STATUS : Nat := 0x380000
def MP_DEFAULT : Nat := 0x380004
def MP_SWEEP : Nat := 0x380010
def MP_RETIRE_STATUS : Nat := 0x380040
def MP_RETIRE_POLICY : Nat := 0x380044
def MP_SCRUB_CFG : Nat := 0x380080
def MP_SCRUB_SPM : Nat := 0x380088
def MP_SCRUB_DETAIL : Nat := 0x380094
def MP_SCRUB_STALLED : Nat := 0x380098
def MP_SCRUB_SEL : Nat := 0x380090
def MP_SWEEP_PTR_LO : Nat := 0x380018
def MP_SWEEP_PTR_HI : Nat := 0x38001C
def MP_SCRUB_DRAM0 (i : Nat) : Nat := 0x380100 + 0x8 * i
def MP_SCRUB_DRAM1 (i : Nat) : Nat := 0x380104 + 0x8 * i
def MP_RANGE_BASE (i : Nat) : Nat := 0x381000 + 0x20 * i
def MP_RANGE_LIMIT (i : Nat) : Nat := 0x381004 + 0x20 * i
def MP_RANGE_CFG (i : Nat) : Nat := 0x381008 + 0x20 * i
def MP_RANGE_STATE (i : Nat) : Nat := 0x38100C + 0x20 * i
def MP_RANGE_TAG (i : Nat) : Nat := 0x381010 + 0x20 * i
def MP_RANGE_COUNT (i : Nat) : Nat := 0x381014 + 0x20 * i

def SPM_STATUS : Nat := 0x400000
def SPM_SET_CFG (i : Nat) : Nat := 0x400100 + 0x4 * i
def SPM_ERR (i : Nat) : Nat := 0x400200 + 0x4 * i
def SPM_BANK_PWR (i : Nat) : Nat := 0x401000 + 0x4 * i

def MBX_CFG (i : Nat) : Nat := 0x440000 + 0x100 * i
def MBX_STATE (i : Nat) : Nat := 0x440004 + 0x100 * i
def MBX_SEND (i : Nat) : Nat := 0x440008 + 0x100 * i
def MBX_ACK (i : Nat) : Nat := 0x44000C + 0x100 * i
def MBX_RESULT (i : Nat) : Nat := 0x440010 + 0x100 * i
def MBX_COUNT (i : Nat) : Nat := 0x440020 + 0x100 * i
def MBX_DB (i : Nat) : Nat := 0x440014 + 0x100 * i
def MBX_DB_SET (i : Nat) : Nat := 0x440018 + 0x100 * i
def MBX_DB_MASK (i : Nat) : Nat := 0x44001C + 0x100 * i
def MBX_MSG (i j : Nat) : Nat := 0x440040 + 0x100 * i + 0x4 * j

def PCI_STATUS : Nat := 0x680000
def PCI_LDR_STATUS : Nat := 0x680010
def PCI_LDR_CTRL : Nat := 0x680014
def PCI_LDR_POS : Nat := 0x680018
def PCI_LDR_LEN : Nat := 0x68001C
def PCI_LDR_AT : Nat := 0x680020
def PCI_LDR_CFG : Nat := 0x680030
def PCI_HOST_WMASK : Nat := 0x680034
def PCI_CMD : Nat := 0x680100
def PCI_CMD_LEN : Nat := 0x680104
def PCI_TRUST : Nat := 0x680200
def PCI_UNLOCK : Nat := 0x680204
def PCI_FLASH_WEAR : Nat := 0x680210
def PCI_LDR_SRC_LO : Nat := 0x680028
def PCI_LDR_SRC_HI : Nat := 0x68002C
def PCI_APERTURE_LO : Nat := 0x680040
def PCI_APERTURE_HI : Nat := 0x680044

def ERR_STATUS : Nat := 0x800000
def ERR_CFG : Nat := 0x800004
def ERR_NOTIFY : Nat := 0x800008
def ERR_LOST : Nat := 0x80000C
def ERR_ACK : Nat := 0x800040
def ERR_REPAIR_CTRL : Nat := 0x8000A0
def ERR_HUSK : Nat := 0x800100
def ERR_HUSK_CTRL : Nat := 0x800104
def ERR_GOV_CTRL : Nat := 0x800200
def ERR_GOV_STATUS : Nat := 0x800204
def ERR_GOV_LEDGER : Nat := 0x800208
def ERR_GOV_POWER : Nat := 0x80020C
def ERR_SEL : Nat := 0x800010
def ERR_ENTRY0 : Nat := 0x800020
def ERR_ENTRY1 : Nat := 0x800024
def ERR_ENTRY2 : Nat := 0x800028
def ERR_ENTRY3 : Nat := 0x80002C
def ERR_ENTRY4 : Nat := 0x800030
def ERR_ENTRY5 : Nat := 0x800034
def ERR_ENTRY6 : Nat := 0x800038
def ERR_REPAIR_PEND (i : Nat) : Nat := 0x800060 + 0x4 * i
def ERR_GOV_TEMP (i : Nat) : Nat := 0x800210 + 0x4 * i
def ERR_CLASS (i : Nat) : Nat := 0x800400 + 0x4 * i
def ERR_POLICY (i : Nat) : Nat := 0x800800 + 0x4 * i

def DBG_STATUS : Nat := 0x900000
def DBG_FREEZE : Nat := 0x900004
def DBG_FREEZE_PODS_LO : Nat := 0x900008
def DBG_FREEZE_PODS_HI : Nat := 0x90000C

def CLK_SRC_STATUS : Nat := 0x10000
def CLK_XSYS_HZ : Nat := 0x10004
def CLK_SYS : Nat := 0x10008
def CLK_ENG : Nat := 0x1000C
def CLK_FPLL_CTRL (i : Nat) : Nat := 0x11000 + 0x40 * i
def CLK_FPLL_FB (i : Nat) : Nat := 0x11004 + 0x40 * i
def CLK_FPLL_GCLK (i : Nat) : Nat := 0x11028 + 0x40 * i
def CLK_FPLL_STATUS (i : Nat) : Nat := 0x1102C + 0x40 * i
def CLK_FPLL_OUT (i j : Nat) : Nat := 0x11008 + 0x40 * i + 0x4 * j

def PIN_STATUS : Nat := 0x20000
def PIN_APPLY : Nat := 0x20004
def PIN_BANK (i : Nat) : Nat := 0x20100 + 0x4 * i
def PIN_IN (i : Nat) : Nat := 0x20200 + 0x4 * i
def PIN_OUT (i : Nat) : Nat := 0x20300 + 0x10 * i
def PIN_OUT_SET (i : Nat) : Nat := 0x20304 + 0x10 * i
def PIN_OUT_CLR (i : Nat) : Nat := 0x20308 + 0x10 * i
def PIN_FUNC (i : Nat) : Nat := 0x21000 + 0x8 * i
def PIN_ELEC (i : Nat) : Nat := 0x21004 + 0x8 * i

end R

namespace F

/-! Fields, as the field tables give them: register, low bit and width. -/


def DEV_ID_family : Field := ⟨R.DEV_ID, 24, 8⟩
def DEV_ID_device : Field := ⟨R.DEV_ID, 12, 12⟩
def DEV_ID_stepping : Field := ⟨R.DEV_ID, 8, 4⟩
def DEV_ID_package : Field := ⟨R.DEV_ID, 0, 8⟩
def DEV_GRADE_temp_range : Field := ⟨R.DEV_GRADE, 4, 4⟩
def DEV_GRADE_speed_grade : Field := ⟨R.DEV_GRADE, 0, 4⟩
def DEV_MODE_transitions : Field := ⟨R.DEV_MODE, 24, 8⟩
def DEV_MODE_prev_mode : Field := ⟨R.DEV_MODE, 16, 4⟩
def DEV_MODE_on_acorn : Field := ⟨R.DEV_MODE, 11, 1⟩
def DEV_MODE_dram_ready : Field := ⟨R.DEV_MODE, 10, 1⟩
def DEV_MODE_repair_active : Field := ⟨R.DEV_MODE, 9, 1⟩
def DEV_MODE_update_active : Field := ⟨R.DEV_MODE, 8, 1⟩
def DEV_MODE_mode : Field := ⟨R.DEV_MODE, 0, 4⟩
def DEV_MODE_CAUSE_status : Field := ⟨R.DEV_MODE_CAUSE, 16, 16⟩
def DEV_MODE_CAUSE_trigger : Field := ⟨R.DEV_MODE_CAUSE, 0, 8⟩
def DEV_MODE_TIME_ns : Field := ⟨R.DEV_MODE_TIME, 0, 32⟩
def DEV_DORMANT_enter : Field := ⟨R.DEV_DORMANT, 31, 1⟩
def DEV_DORMANT_exit : Field := ⟨R.DEV_DORMANT, 30, 1⟩
def DEV_DORMANT_keep_ports : Field := ⟨R.DEV_DORMANT, 8, 8⟩
def DEV_WAKE_LO_wake : Field := ⟨R.DEV_WAKE_LO, 0, 32⟩
def DEV_WAKE_HI_wake : Field := ⟨R.DEV_WAKE_HI, 0, 32⟩
def DEV_REQ_STATUS_status : Field := ⟨R.DEV_REQ_STATUS, 0, 16⟩
def DEV_RESET_POLICY_perst_scope : Field := ⟨R.DEV_RESET_POLICY, 0, 1⟩
def DEV_RDV_force : Field := ⟨R.DEV_RDV, 31, 1⟩
def DEV_RDV_timed_out : Field := ⟨R.DEV_RDV, 16, 1⟩
def DEV_RDV_timeout_ms : Field := ⟨R.DEV_RDV, 0, 16⟩
def DEV_CLAIM_claim (i : Nat) : Field := ⟨R.DEV_CLAIM i, 31, 1⟩
def DEV_CLAIM_release (i : Nat) : Field := ⟨R.DEV_CLAIM i, 30, 1⟩
def DEV_CLAIM_holder_kind (i : Nat) : Field := ⟨R.DEV_CLAIM i, 28, 2⟩
def DEV_CLAIM_holder_ni (i : Nat) : Field := ⟨R.DEV_CLAIM i, 16, 10⟩
def DEV_CLAIM_last_status (i : Nat) : Field := ⟨R.DEV_CLAIM i, 0, 16⟩
def DEV_CUE_TIME_at_ns (i : Nat) : Field := ⟨R.DEV_CUE_TIME i, 0, 32⟩
def DEV_CUE_STATE_last_status (i : Nat) : Field := ⟨R.DEV_CUE_STATE i, 16, 16⟩
def DEV_CUE_STATE_fired (i : Nat) : Field := ⟨R.DEV_CUE_STATE i, 8, 8⟩
def DEV_CUE_STATE_armed (i : Nat) : Field := ⟨R.DEV_CUE_STATE i, 7, 1⟩
def DEV_CUE_STATE_pin_event (i : Nat) : Field := ⟨R.DEV_CUE_STATE i, 6, 1⟩
def DEV_CUE_STATE_frac (i : Nat) : Field := ⟨R.DEV_CUE_STATE i, 0, 4⟩

def CFG_STATUS_pods : Field := ⟨R.CFG_STATUS, 24, 8⟩
def CFG_STATUS_staging : Field := ⟨R.CFG_STATUS, 8, 8⟩
def CFG_STATUS_table_live : Field := ⟨R.CFG_STATUS, 1, 1⟩
def CFG_STATUS_scrub_on : Field := ⟨R.CFG_STATUS, 0, 1⟩
def CFG_SCRUB_CTRL_priority_go : Field := ⟨R.CFG_SCRUB_CTRL, 31, 1⟩
def CFG_SCRUB_CTRL_priority_region : Field := ⟨R.CFG_SCRUB_CTRL, 16, 7⟩
def CFG_SCRUB_CTRL_sprout_scrub : Field := ⟨R.CFG_SCRUB_CTRL, 1, 1⟩
def CFG_SCRUB_CTRL_enable : Field := ⟨R.CFG_SCRUB_CTRL, 0, 1⟩
def CFG_REPAIR_STATUS_last_status : Field := ⟨R.CFG_REPAIR_STATUS, 16, 16⟩
def CFG_REPAIR_STATUS_open : Field := ⟨R.CFG_REPAIR_STATUS, 15, 1⟩
def CFG_REPAIR_STATUS_kind : Field := ⟨R.CFG_REPAIR_STATUS, 12, 3⟩
def CFG_REPAIR_STATUS_region : Field := ⟨R.CFG_REPAIR_STATUS, 0, 7⟩
def CFG_SCRUB_LAP_lap_us (i : Nat) : Field := ⟨R.CFG_SCRUB_LAP i, 0, 32⟩
def CFG_SCRUB_COUNT_laps (i : Nat) : Field := ⟨R.CFG_SCRUB_COUNT i, 0, 32⟩
def CFG_SCRUB_CE_overflow (i : Nat) : Field := ⟨R.CFG_SCRUB_CE i, 31, 1⟩
def CFG_SCRUB_CE_corrected (i : Nat) : Field := ⟨R.CFG_SCRUB_CE i, 0, 31⟩
def CFG_SCRUB_UE_overflow (i : Nat) : Field := ⟨R.CFG_SCRUB_UE i, 31, 1⟩
def CFG_SCRUB_UE_uncorrectable (i : Nat) : Field := ⟨R.CFG_SCRUB_UE i, 0, 31⟩
def CFG_SCRUB_ESS_essential (i : Nat) : Field := ⟨R.CFG_SCRUB_ESS i, 16, 16⟩
def CFG_SCRUB_ESS_interval_us (i : Nat) : Field := ⟨R.CFG_SCRUB_ESS i, 0, 16⟩
def CFG_POD_STATE_last_status (i : Nat) : Field := ⟨R.CFG_POD_STATE i, 16, 16⟩
def CFG_POD_STATE_state (i : Nat) : Field := ⟨R.CFG_POD_STATE i, 8, 4⟩
def CFG_POD_STATE_spare_aware (i : Nat) : Field := ⟨R.CFG_POD_STATE i, 5, 1⟩
def CFG_POD_STATE_twin (i : Nat) : Field := ⟨R.CFG_POD_STATE i, 4, 1⟩
def CFG_POD_STATE_txu_armed (i : Nat) : Field := ⟨R.CFG_POD_STATE i, 3, 1⟩
def CFG_POD_STATE_carry_last (i : Nat) : Field := ⟨R.CFG_POD_STATE i, 2, 1⟩
def CFG_POD_STATE_valid (i : Nat) : Field := ⟨R.CFG_POD_STATE i, 1, 1⟩
def CFG_POD_CTRL_switch (i : Nat) : Field := ⟨R.CFG_POD_CTRL i, 31, 1⟩
def CFG_POD_CTRL_cancel (i : Nat) : Field := ⟨R.CFG_POD_CTRL i, 30, 1⟩
def CFG_POD_CTRL_reset (i : Nat) : Field := ⟨R.CFG_POD_CTRL i, 29, 1⟩
def CFG_POD_CTRL_bind (i : Nat) : Field := ⟨R.CFG_POD_CTRL i, 16, 1⟩
def CFG_POD_CTRL_cue_slot (i : Nat) : Field := ⟨R.CFG_POD_CTRL i, 12, 3⟩
def CFG_POD_CTRL_carry (i : Nat) : Field := ⟨R.CFG_POD_CTRL i, 8, 1⟩
def CFG_POD_CTRL_quiesce_us (i : Nat) : Field := ⟨R.CFG_POD_CTRL i, 0, 8⟩
def CFG_POD_AT_at_ns (i : Nat) : Field := ⟨R.CFG_POD_AT i, 0, 32⟩
def CFG_POD_DROP_overflow (i : Nat) : Field := ⟨R.CFG_POD_DROP i, 31, 1⟩
def CFG_POD_DROP_late (i : Nat) : Field := ⟨R.CFG_POD_DROP i, 16, 15⟩
def CFG_POD_DROP_dropped (i : Nat) : Field := ⟨R.CFG_POD_DROP i, 0, 16⟩
def CFG_POD_SWITCHES_count (i : Nat) : Field := ⟨R.CFG_POD_SWITCHES i, 0, 32⟩
def CFG_POD_TWIN_mismatch (i : Nat) : Field := ⟨R.CFG_POD_TWIN i, 31, 1⟩
def CFG_POD_TWIN_lag (i : Nat) : Field := ⟨R.CFG_POD_TWIN i, 30, 1⟩
def CFG_POD_TWIN_first_port (i : Nat) : Field := ⟨R.CFG_POD_TWIN i, 16, 11⟩
def CFG_POD_TWIN_on_mismatch (i : Nat) : Field := ⟨R.CFG_POD_TWIN i, 8, 1⟩
def CFG_POD_TWIN_paired (i : Nat) : Field := ⟨R.CFG_POD_TWIN i, 7, 1⟩
def CFG_POD_TWIN_partner (i : Nat) : Field := ⟨R.CFG_POD_TWIN i, 0, 6⟩
def CFG_POD_REGIONS_0_regions (i : Nat) : Field := ⟨R.CFG_POD_REGIONS_0 i, 0, 32⟩
def CFG_POD_REGIONS_1_regions (i : Nat) : Field := ⟨R.CFG_POD_REGIONS_1 i, 0, 32⟩
def CFG_POD_REGIONS_2_regions (i : Nat) : Field := ⟨R.CFG_POD_REGIONS_2 i, 0, 32⟩
def CFG_REGION_pod (i : Nat) : Field := ⟨R.CFG_REGION i, 16, 6⟩
def CFG_REGION_live_plane (i : Nat) : Field := ⟨R.CFG_REGION i, 8, 1⟩
def CFG_REGION_tile_steered (i : Nat) : Field := ⟨R.CFG_REGION i, 7, 1⟩
def CFG_REGION_tile_steer_col (i : Nat) : Field := ⟨R.CFG_REGION i, 0, 6⟩
def CFG_REGION_SLICE_col1_steered (i : Nat) : Field := ⟨R.CFG_REGION_SLICE i, 31, 1⟩
def CFG_REGION_SLICE_col1_at (i : Nat) : Field := ⟨R.CFG_REGION_SLICE i, 24, 6⟩
def CFG_REGION_SLICE_col0_steered (i : Nat) : Field := ⟨R.CFG_REGION_SLICE i, 23, 1⟩
def CFG_REGION_SLICE_col0_at (i : Nat) : Field := ⟨R.CFG_REGION_SLICE i, 16, 6⟩
def CFG_REGION_BRAM_hi_used (i : Nat) : Field := ⟨R.CFG_REGION_BRAM i, 31, 1⟩
def CFG_REGION_BRAM_hi_col (i : Nat) : Field := ⟨R.CFG_REGION_BRAM i, 24, 3⟩
def CFG_REGION_BRAM_hi_idx (i : Nat) : Field := ⟨R.CFG_REGION_BRAM i, 16, 6⟩
def CFG_REGION_BRAM_lo_used (i : Nat) : Field := ⟨R.CFG_REGION_BRAM i, 15, 1⟩
def CFG_REGION_BRAM_lo_col (i : Nat) : Field := ⟨R.CFG_REGION_BRAM i, 8, 3⟩
def CFG_REGION_BRAM_lo_idx (i : Nat) : Field := ⟨R.CFG_REGION_BRAM i, 0, 6⟩
def CFG_CUE_TIME_at_ns (i : Nat) : Field := ⟨R.CFG_CUE_TIME i, 0, 32⟩
def CFG_CUE_STATE_last_status (i : Nat) : Field := ⟨R.CFG_CUE_STATE i, 16, 16⟩
def CFG_CUE_STATE_fired (i : Nat) : Field := ⟨R.CFG_CUE_STATE i, 8, 8⟩
def CFG_CUE_STATE_armed (i : Nat) : Field := ⟨R.CFG_CUE_STATE i, 7, 1⟩
def CFG_CUE_STATE_pin_event (i : Nat) : Field := ⟨R.CFG_CUE_STATE i, 6, 1⟩
def CFG_CUE_STATE_frac (i : Nat) : Field := ⟨R.CFG_CUE_STATE i, 0, 4⟩
def CFG_CUE_CLAIM_claim (i : Nat) : Field := ⟨R.CFG_CUE_CLAIM i, 31, 1⟩
def CFG_CUE_CLAIM_release (i : Nat) : Field := ⟨R.CFG_CUE_CLAIM i, 30, 1⟩
def CFG_CUE_CLAIM_holder_kind (i : Nat) : Field := ⟨R.CFG_CUE_CLAIM i, 28, 2⟩
def CFG_CUE_CLAIM_holder_ni (i : Nat) : Field := ⟨R.CFG_CUE_CLAIM i, 16, 10⟩
def CFG_CUE_CLAIM_last_status (i : Nat) : Field := ⟨R.CFG_CUE_CLAIM i, 0, 16⟩

def ENG_STATUS_last_status (i : Nat) : Field := ⟨R.ENG_STATUS i, 16, 16⟩
def ENG_STATUS_pc (i : Nat) : Field := ⟨R.ENG_STATUS i, 3, 13⟩
def ENG_STATUS_wide_lock (i : Nat) : Field := ⟨R.ENG_STATUS i, 1, 1⟩
def ENG_STATE_wide (i : Nat) : Field := ⟨R.ENG_STATE i, 7, 1⟩
def ENG_STATE_in_handler (i : Nat) : Field := ⟨R.ENG_STATE i, 6, 1⟩
def ENG_STATE_state (i : Nat) : Field := ⟨R.ENG_STATE i, 0, 4⟩
def ENG_CTRL_stop (i : Nat) : Field := ⟨R.ENG_CTRL i, 31, 1⟩
def ENG_CTRL_clear_fault (i : Nat) : Field := ⟨R.ENG_CTRL i, 30, 1⟩
def ENG_CTRL_power_off (i : Nat) : Field := ⟨R.ENG_CTRL i, 29, 1⟩
def ENG_CTRL_power_on (i : Nat) : Field := ⟨R.ENG_CTRL i, 28, 1⟩
def ENG_CTRL_wd_action (i : Nat) : Field := ⟨R.ENG_CTRL i, 9, 1⟩
def ENG_CTRL_exc_action (i : Nat) : Field := ⟨R.ENG_CTRL i, 8, 1⟩
def ENG_CTRL_wide (i : Nat) : Field := ⟨R.ENG_CTRL i, 0, 1⟩
def ENG_RUN_run (i : Nat) : Field := ⟨R.ENG_RUN i, 31, 1⟩
def ENG_RUN_start_pc (i : Nat) : Field := ⟨R.ENG_RUN i, 0, 13⟩
def ENG_APPLY_apply (i : Nat) : Field := ⟨R.ENG_APPLY i, 0, 1⟩
def ENG_VEC_exc_vec (i : Nat) : Field := ⟨R.ENG_VEC i, 16, 13⟩
def ENG_VEC_int_vec (i : Nat) : Field := ⟨R.ENG_VEC i, 0, 13⟩
def ENG_EXC_cause (i : Nat) : Field := ⟨R.ENG_EXC i, 24, 8⟩
def ENG_EXC_pc (i : Nat) : Field := ⟨R.ENG_EXC i, 0, 13⟩
def ENG_WD_enable (i : Nat) : Field := ⟨R.ENG_WD i, 31, 1⟩
def ENG_WD_kick (i : Nat) : Field := ⟨R.ENG_WD i, 30, 1⟩
def ENG_WD_period_us (i : Nat) : Field := ⟨R.ENG_WD i, 0, 20⟩
def ENG_WD_REMAIN_remain_us (i : Nat) : Field := ⟨R.ENG_WD_REMAIN i, 0, 20⟩
def ENG_MAP_moved (i : Nat) : Field := ⟨R.ENG_MAP i, 31, 1⟩
def ENG_MAP_cluster (i : Nat) : Field := ⟨R.ENG_MAP i, 8, 8⟩
def ENG_MAP_slot (i : Nat) : Field := ⟨R.ENG_MAP i, 0, 4⟩
def ENG_ERR_overflow (i : Nat) : Field := ⟨R.ENG_ERR i, 31, 1⟩
def ENG_ERR_residue (i : Nat) : Field := ⟨R.ENG_ERR i, 24, 7⟩
def ENG_ERR_ue (i : Nat) : Field := ⟨R.ENG_ERR i, 12, 12⟩
def ENG_ERR_ce (i : Nat) : Field := ⟨R.ENG_ERR i, 0, 12⟩
def ENG_MSG_CFG_slots (i : Nat) : Field := ⟨R.ENG_MSG_CFG i, 16, 6⟩
def ENG_MSG_CFG_base (i : Nat) : Field := ⟨R.ENG_MSG_CFG i, 0, 14⟩
def ENG_MSG_STATE_head (i : Nat) : Field := ⟨R.ENG_MSG_STATE i, 16, 16⟩
def ENG_MSG_STATE_tail (i : Nat) : Field := ⟨R.ENG_MSG_STATE i, 0, 16⟩
def ENG_MSG_FREE_count (i : Nat) : Field := ⟨R.ENG_MSG_FREE i, 0, 6⟩
def ENG_EVT_events (i : Nat) : Field := ⟨R.ENG_EVT i, 0, 16⟩
def ENG_EVT_MASK_events (i : Nat) : Field := ⟨R.ENG_EVT_MASK i, 0, 16⟩
def ENG_CUE_TIME_at_ns (i j : Nat) : Field := ⟨R.ENG_CUE_TIME i j, 0, 32⟩
def ENG_CUE_STATE_last_status (i j : Nat) : Field := ⟨R.ENG_CUE_STATE i j, 16, 16⟩
def ENG_CUE_STATE_fired (i j : Nat) : Field := ⟨R.ENG_CUE_STATE i j, 8, 8⟩
def ENG_CUE_STATE_armed (i j : Nat) : Field := ⟨R.ENG_CUE_STATE i j, 7, 1⟩
def ENG_CUE_STATE_pin_event (i j : Nat) : Field := ⟨R.ENG_CUE_STATE i j, 6, 1⟩
def ENG_CUE_STATE_frac (i j : Nat) : Field := ⟨R.ENG_CUE_STATE i j, 0, 4⟩
def ENG_CUE_CLAIM_claim (i j : Nat) : Field := ⟨R.ENG_CUE_CLAIM i j, 31, 1⟩
def ENG_CUE_CLAIM_release (i j : Nat) : Field := ⟨R.ENG_CUE_CLAIM i j, 30, 1⟩
def ENG_CUE_CLAIM_holder_kind (i j : Nat) : Field := ⟨R.ENG_CUE_CLAIM i j, 28, 2⟩
def ENG_CUE_CLAIM_holder_ni (i j : Nat) : Field := ⟨R.ENG_CUE_CLAIM i j, 16, 10⟩
def ENG_CUE_CLAIM_last_status (i j : Nat) : Field := ⟨R.ENG_CUE_CLAIM i j, 0, 16⟩

def NOC_STATUS_links_marginal : Field := ⟨R.NOC_STATUS, 12, 10⟩
def NOC_STATUS_links_down : Field := ⟨R.NOC_STATUS, 0, 10⟩
def NOC_REQ_TIMEOUT_timeout_us : Field := ⟨R.NOC_REQ_TIMEOUT, 0, 16⟩
def NOC_RT_SEL_ni : Field := ⟨R.NOC_RT_SEL, 0, 10⟩
def NOC_RT_ENTRY_W0_en (i : Nat) : Field := ⟨R.NOC_RT_ENTRY_W0 i, 31, 1⟩
def NOC_RT_ENTRY_W0_ok (i : Nat) : Field := ⟨R.NOC_RT_ENTRY_W0 i, 30, 1⟩
def NOC_RT_ENTRY_W0_dst_ni (i : Nat) : Field := ⟨R.NOC_RT_ENTRY_W0 i, 16, 10⟩
def NOC_RT_ENTRY_W0_dtag (i : Nat) : Field := ⟨R.NOC_RT_ENTRY_W0 i, 0, 16⟩
def NOC_RT_ENTRY_W1_hops (i : Nat) : Field := ⟨R.NOC_RT_ENTRY_W1 i, 0, 30⟩
def NOC_RT_ENTRY_W2_hops (i : Nat) : Field := ⟨R.NOC_RT_ENTRY_W2 i, 0, 30⟩
def NOC_RT_ENTRY_W3_hops (i : Nat) : Field := ⟨R.NOC_RT_ENTRY_W3 i, 0, 12⟩
def NOC_NI_DIR_index (i : Nat) : Field := ⟨R.NOC_NI_DIR i, 16, 10⟩
def NOC_NI_DIR_block (i : Nat) : Field := ⟨R.NOC_NI_DIR i, 0, 8⟩
def NOC_OBJ_NI_ni (i : Nat) : Field := ⟨R.NOC_OBJ_NI i, 0, 10⟩
def NOC_LINK_down (i : Nat) : Field := ⟨R.NOC_LINK i, 31, 1⟩
def NOC_LINK_marginal (i : Nat) : Field := ⟨R.NOC_LINK i, 30, 1⟩
def NOC_LINK_retrain (i : Nat) : Field := ⟨R.NOC_LINK i, 29, 1⟩
def NOC_LINK_absent (i : Nat) : Field := ⟨R.NOC_LINK i, 28, 1⟩
def NOC_LINK_replays (i : Nat) : Field := ⟨R.NOC_LINK i, 16, 8⟩
def NOC_LINK_ce_limit (i : Nat) : Field := ⟨R.NOC_LINK i, 0, 16⟩
def NOC_LINK_CE_overflow (i : Nat) : Field := ⟨R.NOC_LINK_CE i, 31, 1⟩
def NOC_LINK_CE_discarded (i : Nat) : Field := ⟨R.NOC_LINK_CE i, 16, 15⟩
def NOC_LINK_CE_corrected (i : Nat) : Field := ⟨R.NOC_LINK_CE i, 0, 16⟩
def NOC_NI_STAT0_overflow (i : Nat) : Field := ⟨R.NOC_NI_STAT0 i, 31, 1⟩
def NOC_NI_STAT0_timeouts (i : Nat) : Field := ⟨R.NOC_NI_STAT0 i, 16, 15⟩
def NOC_NI_STAT0_late (i : Nat) : Field := ⟨R.NOC_NI_STAT0 i, 0, 16⟩
def NOC_NI_STAT1_crc_fail (i : Nat) : Field := ⟨R.NOC_NI_STAT1 i, 16, 16⟩
def NOC_NI_STAT1_discard (i : Nat) : Field := ⟨R.NOC_NI_STAT1 i, 0, 16⟩

def QE_STATUS_assemblies : Field := ⟨R.QE_STATUS, 12, 12⟩
def QE_STATUS_staged : Field := ⟨R.QE_STATUS, 0, 12⟩
def QE_CTRL_ready : Field := ⟨R.QE_CTRL, 1, 1⟩
def QE_CTRL_enable : Field := ⟨R.QE_CTRL, 0, 1⟩
def QE_POOL_RESERVE_reserve : Field := ⟨R.QE_POOL_RESERVE, 0, 32⟩
def QE_POOL_LOST_overflow : Field := ⟨R.QE_POOL_LOST, 31, 1⟩
def QE_POOL_LOST_lost : Field := ⟨R.QE_POOL_LOST, 0, 31⟩
def QE_LAUNCH_CFG_late_limit_us : Field := ⟨R.QE_LAUNCH_CFG, 8, 8⟩
def QE_LAUNCH_CFG_lead_us : Field := ⟨R.QE_LAUNCH_CFG, 0, 8⟩
def QE_LAUNCH_STAT_overflow : Field := ⟨R.QE_LAUNCH_STAT, 31, 1⟩
def QE_LAUNCH_STAT_dropped : Field := ⟨R.QE_LAUNCH_STAT, 16, 15⟩
def QE_LAUNCH_STAT_late : Field := ⟨R.QE_LAUNCH_STAT, 0, 16⟩
def QE_REFUSED_overflow : Field := ⟨R.QE_REFUSED, 31, 1⟩
def QE_REFUSED_count : Field := ⟨R.QE_REFUSED, 0, 31⟩
def QE_LAST_REFUSED_status : Field := ⟨R.QE_LAST_REFUSED, 16, 16⟩
def QE_LAST_REFUSED_queue_lo : Field := ⟨R.QE_LAST_REFUSED, 0, 12⟩
def QE_LAST_REFUSED_Q_queue : Field := ⟨R.QE_LAST_REFUSED_Q, 0, 20⟩
def QE_DESC_BASE_LO_addr : Field := ⟨R.QE_DESC_BASE_LO, 0, 32⟩
def QE_DESC_BASE_HI_addr : Field := ⟨R.QE_DESC_BASE_HI, 0, 32⟩
def QE_POOL_BASE_LO_addr : Field := ⟨R.QE_POOL_BASE_LO, 0, 32⟩
def QE_POOL_BASE_HI_addr : Field := ⟨R.QE_POOL_BASE_HI, 0, 32⟩
def QE_LINK_BASE_LO_addr : Field := ⟨R.QE_LINK_BASE_LO, 0, 32⟩
def QE_LINK_BASE_HI_addr : Field := ⟨R.QE_LINK_BASE_HI, 0, 32⟩
def QE_POOL_SIZE_LO_granules : Field := ⟨R.QE_POOL_SIZE_LO, 0, 32⟩
def QE_POOL_SIZE_HI_granules : Field := ⟨R.QE_POOL_SIZE_HI, 0, 32⟩
def QE_POOL_FREE_LO_free : Field := ⟨R.QE_POOL_FREE_LO, 0, 32⟩
def QE_POOL_FREE_HI_free : Field := ⟨R.QE_POOL_FREE_HI, 0, 32⟩
def QE_DROPS_overflow (i : Nat) : Field := ⟨R.QE_DROPS i, 31, 1⟩
def QE_DROPS_entries (i : Nat) : Field := ⟨R.QE_DROPS i, 0, 31⟩
def QE_DESC_SEL_txid : Field := ⟨R.QE_DESC_SEL, 20, 8⟩
def QE_DESC_SEL_queue : Field := ⟨R.QE_DESC_SEL, 0, 20⟩
def QE_DESC_CMD_status : Field := ⟨R.QE_DESC_CMD, 16, 16⟩
def QE_DESC_CMD_cmd : Field := ⟨R.QE_DESC_CMD, 0, 3⟩
def QE_DESC_W_word (i : Nat) : Field := ⟨R.QE_DESC_W i, 0, 32⟩
def QE_SCHED_CFG_en (i : Nat) : Field := ⟨R.QE_SCHED_CFG i, 31, 1⟩
def QE_SCHED_CFG_output_q (i : Nat) : Field := ⟨R.QE_SCHED_CFG i, 0, 20⟩
def QE_SCHED_UNIT_unit (i : Nat) : Field := ⟨R.QE_SCHED_UNIT i, 0, 16⟩
def QE_GROUP_en (i j : Nat) : Field := ⟨R.QE_GROUP i j, 31, 1⟩
def QE_GROUP_band (i j : Nat) : Field := ⟨R.QE_GROUP i j, 8, 3⟩
def QE_GROUP_weight (i j : Nat) : Field := ⟨R.QE_GROUP i j, 0, 8⟩

def TIM_SVC_STATUS_status : Field := ⟨R.TIM_SVC_STATUS, 16, 16⟩
def TIM_SVC_STATUS_teb_over : Field := ⟨R.TIM_SVC_STATUS, 9, 1⟩
def TIM_SVC_STATUS_slewing : Field := ⟨R.TIM_SVC_STATUS, 8, 1⟩
def TIM_SVC_STATUS_dom : Field := ⟨R.TIM_SVC_STATUS, 4, 1⟩
def TIM_SVC_STATUS_state : Field := ⟨R.TIM_SVC_STATUS, 0, 4⟩
def TIM_SVC_CTRL_apply : Field := ⟨R.TIM_SVC_CTRL, 31, 1⟩
def TIM_SVC_CTRL_bind : Field := ⟨R.TIM_SVC_CTRL, 16, 1⟩
def TIM_SVC_CTRL_cue_slot : Field := ⟨R.TIM_SVC_CTRL, 12, 3⟩
def TIM_SVC_CTRL_revert : Field := ⟨R.TIM_SVC_CTRL, 9, 1⟩
def TIM_SVC_CTRL_auto : Field := ⟨R.TIM_SVC_CTRL, 8, 1⟩
def TIM_SVC_CTRL_force : Field := ⟨R.TIM_SVC_CTRL, 1, 1⟩
def TIM_SVC_CTRL_select : Field := ⟨R.TIM_SVC_CTRL, 0, 1⟩
def TIM_SVC_AT_at_ns : Field := ⟨R.TIM_SVC_AT, 0, 32⟩
def TIM_SVC_SLEW_rate_ns_s : Field := ⟨R.TIM_SVC_SLEW, 0, 20⟩
def TIM_SVC_FRAC_frac : Field := ⟨R.TIM_SVC_FRAC, 0, 32⟩
def TIM_SVC_REQ_status : Field := ⟨R.TIM_SVC_REQ, 0, 16⟩
def TIM_WRAP_count : Field := ⟨R.TIM_WRAP, 16, 16⟩
def TIM_WRAP_step : Field := ⟨R.TIM_WRAP, 15, 1⟩
def TIM_WRAP_mbx_en : Field := ⟨R.TIM_WRAP, 13, 1⟩
def TIM_WRAP_mailbox : Field := ⟨R.TIM_WRAP, 5, 8⟩
def TIM_WRAP_bell : Field := ⟨R.TIM_WRAP, 0, 5⟩
def TIM_TEB_LIMIT_limit_ns : Field := ⟨R.TIM_TEB_LIMIT, 0, 32⟩
def TIM_TEMP_fallback : Field := ⟨R.TIM_TEMP, 17, 1⟩
def TIM_TEMP_valid : Field := ⟨R.TIM_TEMP, 16, 1⟩
def TIM_TEMP_temp : Field := ⟨R.TIM_TEMP, 0, 16⟩
def TIM_TSENSE_CFG_src : Field := ⟨R.TIM_TSENSE_CFG, 0, 2⟩
def TIM_TSENSE_CAL_gain : Field := ⟨R.TIM_TSENSE_CAL, 16, 16⟩
def TIM_TSENSE_CAL_offset : Field := ⟨R.TIM_TSENSE_CAL, 0, 16⟩
def TIM_PPS_CTRL_enable : Field := ⟨R.TIM_PPS_CTRL, 31, 1⟩
def TIM_PPS_CTRL_squelched : Field := ⟨R.TIM_PPS_CTRL, 30, 1⟩
def TIM_PPS_CTRL_bypass_closed : Field := ⟨R.TIM_PPS_CTRL, 29, 1⟩
def TIM_PPS_CTRL_dom : Field := ⟨R.TIM_PPS_CTRL, 24, 2⟩
def TIM_PPS_CTRL_width_us : Field := ⟨R.TIM_PPS_CTRL, 0, 20⟩
def TIM_PPS_OFFSET_offset : Field := ⟨R.TIM_PPS_OFFSET, 0, 32⟩
def TIM_PPS_TEB_limit_ns : Field := ⟨R.TIM_PPS_TEB, 0, 32⟩
def TIM_MODEL_STATUS_locked_hours : Field := ⟨R.TIM_MODEL_STATUS, 16, 16⟩
def TIM_MODEL_STATUS_restored : Field := ⟨R.TIM_MODEL_STATUS, 11, 1⟩
def TIM_MODEL_STATUS_learned : Field := ⟨R.TIM_MODEL_STATUS, 4, 4⟩
def TIM_MODEL_STATUS_frozen : Field := ⟨R.TIM_MODEL_STATUS, 0, 1⟩
def TIM_MODEL_RANGE_t_hi : Field := ⟨R.TIM_MODEL_RANGE, 16, 16⟩
def TIM_MODEL_RANGE_t_lo : Field := ⟨R.TIM_MODEL_RANGE, 0, 16⟩
def TIM_MODEL_PRIOR_s1 : Field := ⟨R.TIM_MODEL_PRIOR, 16, 16⟩
def TIM_MODEL_PRIOR_s2 : Field := ⟨R.TIM_MODEL_PRIOR, 0, 16⟩
def TIM_SVC_NS_LO_ns : Field := ⟨R.TIM_SVC_NS_LO, 0, 32⟩
def TIM_SVC_NS_HI_ns : Field := ⟨R.TIM_SVC_NS_HI, 0, 32⟩
def TIM_SVC_OFFSET_LO_offset : Field := ⟨R.TIM_SVC_OFFSET_LO, 0, 32⟩
def TIM_SVC_OFFSET_HI_offset : Field := ⟨R.TIM_SVC_OFFSET_HI, 0, 32⟩
def TIM_x_CTRL_phase_src (i : Nat) : Field := ⟨R.TIM_x_CTRL i, 28, 4⟩
def TIM_x_CTRL_freq_src (i : Nat) : Field := ⟨R.TIM_x_CTRL i, 22, 6⟩
def TIM_x_CTRL_legacy_holdover (i : Nat) : Field := ⟨R.TIM_x_CTRL i, 21, 1⟩
def TIM_x_STATE_last_status (i : Nat) : Field := ⟨R.TIM_x_STATE i, 16, 16⟩
def TIM_x_STATE_tod_armed (i : Nat) : Field := ⟨R.TIM_x_STATE i, 8, 1⟩
def TIM_x_STATE_src_ok (i : Nat) : Field := ⟨R.TIM_x_STATE i, 7, 1⟩
def TIM_x_STATE_freq_ok (i : Nat) : Field := ⟨R.TIM_x_STATE i, 6, 1⟩
def TIM_x_STATE_state (i : Nat) : Field := ⟨R.TIM_x_STATE i, 0, 4⟩
def TIM_x_INCR_incr (i : Nat) : Field := ⟨R.TIM_x_INCR i, 0, 32⟩
def TIM_x_INCR_FINE_fine (i : Nat) : Field := ⟨R.TIM_x_INCR_FINE i, 0, 16⟩
def TIM_x_ADJ_CTRL_go (i : Nat) : Field := ⟨R.TIM_x_ADJ_CTRL i, 31, 1⟩
def TIM_x_ADJ_CTRL_cancel (i : Nat) : Field := ⟨R.TIM_x_ADJ_CTRL i, 30, 1⟩
def TIM_x_ADJ_CTRL_busy (i : Nat) : Field := ⟨R.TIM_x_ADJ_CTRL i, 29, 1⟩
def TIM_x_ADJ_CTRL_mode (i : Nat) : Field := ⟨R.TIM_x_ADJ_CTRL i, 28, 1⟩
def TIM_x_ADJ_CTRL_bind (i : Nat) : Field := ⟨R.TIM_x_ADJ_CTRL i, 27, 1⟩
def TIM_x_ADJ_CTRL_cue_slot (i : Nat) : Field := ⟨R.TIM_x_ADJ_CTRL i, 24, 3⟩
def TIM_x_ADJ_CTRL_rate_ns_s (i : Nat) : Field := ⟨R.TIM_x_ADJ_CTRL i, 0, 20⟩
def TIM_x_ADJ_REMAIN_remain (i : Nat) : Field := ⟨R.TIM_x_ADJ_REMAIN i, 0, 32⟩
def TIM_x_ADJ_AT_at_ns (i : Nat) : Field := ⟨R.TIM_x_ADJ_AT i, 0, 32⟩
def TIM_x_TEB_teb_ns (i : Nat) : Field := ⟨R.TIM_x_TEB i, 0, 32⟩
def TIM_x_HO_SECONDS_seconds (i : Nat) : Field := ⟨R.TIM_x_HO_SECONDS i, 0, 32⟩
def TIM_x_SERVO_take (i : Nat) : Field := ⟨R.TIM_x_SERVO i, 31, 1⟩
def TIM_x_SERVO_give (i : Nat) : Field := ⟨R.TIM_x_SERVO i, 30, 1⟩
def TIM_x_SERVO_holder_kind (i : Nat) : Field := ⟨R.TIM_x_SERVO i, 28, 2⟩
def TIM_x_SERVO_takeover_ok (i : Nat) : Field := ⟨R.TIM_x_SERVO i, 27, 1⟩
def TIM_x_SERVO_holder_ni (i : Nat) : Field := ⟨R.TIM_x_SERVO i, 16, 10⟩
def TIM_x_SERVO_last_status (i : Nat) : Field := ⟨R.TIM_x_SERVO i, 0, 16⟩
def TIM_x_OWNER_kick (i : Nat) : Field := ⟨R.TIM_x_OWNER i, 31, 1⟩
def TIM_x_OWNER_wd_ms (i : Nat) : Field := ⟨R.TIM_x_OWNER i, 4, 16⟩
def TIM_x_OWNER_owner_state (i : Nat) : Field := ⟨R.TIM_x_OWNER i, 0, 4⟩
def TIM_x_SERVO_CFG_max_slew_ns_s (i : Nat) : Field := ⟨R.TIM_x_SERVO_CFG i, 16, 16⟩
def TIM_x_SERVO_CFG_lock_ns (i : Nat) : Field := ⟨R.TIM_x_SERVO_CFG i, 8, 8⟩
def TIM_x_SERVO_CFG_src_allow_ns (i : Nat) : Field := ⟨R.TIM_x_SERVO_CFG i, 0, 8⟩
def TIM_x_PPS_FRAC_sixteenths (i : Nat) : Field := ⟨R.TIM_x_PPS_FRAC i, 28, 4⟩
def TIM_x_PPS_FRAC_count (i : Nat) : Field := ⟨R.TIM_x_PPS_FRAC i, 0, 16⟩
def TIM_x_SYNCE_offset (i : Nat) : Field := ⟨R.TIM_x_SYNCE i, 0, 32⟩
def TIM_x_FRAC_time (i : Nat) : Field := ⟨R.TIM_x_FRAC i, 0, 32⟩
def TIM_x_ADJ_LO_amount (i : Nat) : Field := ⟨R.TIM_x_ADJ_LO i, 0, 32⟩
def TIM_x_ADJ_HI_amount (i : Nat) : Field := ⟨R.TIM_x_ADJ_HI i, 0, 32⟩
def TIM_x_NS_LO_time (i : Nat) : Field := ⟨R.TIM_x_NS_LO i, 0, 32⟩
def TIM_x_NS_HI_time (i : Nat) : Field := ⟨R.TIM_x_NS_HI i, 0, 32⟩
def TIM_x_PPS_NS_LO_stamp (i : Nat) : Field := ⟨R.TIM_x_PPS_NS_LO i, 0, 32⟩
def TIM_x_PPS_NS_HI_stamp (i : Nat) : Field := ⟨R.TIM_x_PPS_NS_HI i, 0, 32⟩
def TIM_x_PPS_TOD_LO_tod (i : Nat) : Field := ⟨R.TIM_x_PPS_TOD_LO i, 0, 32⟩
def TIM_x_PPS_TOD_HI_tod (i : Nat) : Field := ⟨R.TIM_x_PPS_TOD_HI i, 0, 32⟩
def TIM_MODEL_VAL_value (i : Nat) : Field := ⟨R.TIM_MODEL_VAL i, 0, 32⟩
def TIM_MODEL_UNC_value (i : Nat) : Field := ⟨R.TIM_MODEL_UNC i, 0, 32⟩
def TIM_TMR_CTRL_start (i : Nat) : Field := ⟨R.TIM_TMR_CTRL i, 31, 1⟩
def TIM_TMR_CTRL_stop (i : Nat) : Field := ⟨R.TIM_TMR_CTRL i, 30, 1⟩
def TIM_TMR_CTRL_running (i : Nat) : Field := ⟨R.TIM_TMR_CTRL i, 29, 1⟩
def TIM_TMR_CTRL_action (i : Nat) : Field := ⟨R.TIM_TMR_CTRL i, 24, 3⟩
def TIM_TMR_CTRL_mailbox (i : Nat) : Field := ⟨R.TIM_TMR_CTRL i, 16, 8⟩
def TIM_TMR_CTRL_bell (i : Nat) : Field := ⟨R.TIM_TMR_CTRL i, 11, 5⟩
def TIM_TMR_CTRL_frac (i : Nat) : Field := ⟨R.TIM_TMR_CTRL i, 4, 4⟩
def TIM_TMR_START_ns (i : Nat) : Field := ⟨R.TIM_TMR_START i, 0, 32⟩
def TIM_TMR_PERIOD_ns (i : Nat) : Field := ⟨R.TIM_TMR_PERIOD i, 0, 32⟩
def TIM_TMR_STATUS_last_status (i : Nat) : Field := ⟨R.TIM_TMR_STATUS i, 16, 16⟩
def TIM_TMR_STATUS_overflow (i : Nat) : Field := ⟨R.TIM_TMR_STATUS i, 15, 1⟩
def TIM_TMR_STATUS_missed (i : Nat) : Field := ⟨R.TIM_TMR_STATUS i, 0, 15⟩
def TIM_CUE_TIME_at_ns (i : Nat) : Field := ⟨R.TIM_CUE_TIME i, 0, 32⟩
def TIM_CUE_STATE_last_status (i : Nat) : Field := ⟨R.TIM_CUE_STATE i, 16, 16⟩
def TIM_CUE_STATE_fired (i : Nat) : Field := ⟨R.TIM_CUE_STATE i, 8, 8⟩
def TIM_CUE_STATE_armed (i : Nat) : Field := ⟨R.TIM_CUE_STATE i, 7, 1⟩
def TIM_CUE_STATE_pin_event (i : Nat) : Field := ⟨R.TIM_CUE_STATE i, 6, 1⟩
def TIM_CUE_STATE_frac (i : Nat) : Field := ⟨R.TIM_CUE_STATE i, 0, 4⟩
def TIM_CUE_CLAIM_claim (i : Nat) : Field := ⟨R.TIM_CUE_CLAIM i, 31, 1⟩
def TIM_CUE_CLAIM_release (i : Nat) : Field := ⟨R.TIM_CUE_CLAIM i, 30, 1⟩
def TIM_CUE_CLAIM_holder_kind (i : Nat) : Field := ⟨R.TIM_CUE_CLAIM i, 28, 2⟩
def TIM_CUE_CLAIM_holder_ni (i : Nat) : Field := ⟨R.TIM_CUE_CLAIM i, 16, 10⟩
def TIM_CUE_CLAIM_last_status (i : Nat) : Field := ⟨R.TIM_CUE_CLAIM i, 0, 16⟩

def TXU_STATUS_open : Field := ⟨R.TXU_STATUS, 16, 9⟩
def TXU_STATUS_hold_active : Field := ⟨R.TXU_STATUS, 0, 1⟩
def TXU_CFG_tx_hold : Field := ⟨R.TXU_CFG, 31, 1⟩
def TXU_CFG_deadline_us : Field := ⟨R.TXU_CFG, 0, 16⟩
def TXU_CMD_op : Field := ⟨R.TXU_CMD, 28, 4⟩
def TXU_CMD_asap : Field := ⟨R.TXU_CMD, 27, 1⟩
def TXU_CMD_id : Field := ⟨R.TXU_CMD, 16, 8⟩
def TXU_CMD_deadline_us : Field := ⟨R.TXU_CMD, 0, 16⟩
def TXU_CMD_LAUNCH_launch_ns : Field := ⟨R.TXU_CMD_LAUNCH, 0, 32⟩
def TXU_CMD_RESULT_status : Field := ⟨R.TXU_CMD_RESULT, 16, 16⟩
def TXU_CMD_RESULT_id : Field := ⟨R.TXU_CMD_RESULT, 0, 8⟩
def TXU_NOTIFY_mbx_en : Field := ⟨R.TXU_NOTIFY, 13, 1⟩
def TXU_NOTIFY_mailbox : Field := ⟨R.TXU_NOTIFY, 5, 8⟩
def TXU_NOTIFY_bell : Field := ⟨R.TXU_NOTIFY, 0, 5⟩
def TXU_STAGE_DATA_data : Field := ⟨R.TXU_STAGE_DATA, 0, 32⟩
def TXU_STAGE_ADDR_LO_addr : Field := ⟨R.TXU_STAGE_ADDR_LO, 0, 32⟩
def TXU_STAGE_ADDR_LO_id : Field := ⟨R.TXU_STAGE_ADDR_LO, 24, 8⟩
def TXU_STAGE_ADDR_LO_addr_hi : Field := ⟨R.TXU_STAGE_ADDR_LO, 0, 16⟩
def TXU_STAGE_ADDR_HI_addr : Field := ⟨R.TXU_STAGE_ADDR_HI, 0, 32⟩
def TXU_STAGE_ADDR_HI_id : Field := ⟨R.TXU_STAGE_ADDR_HI, 24, 8⟩
def TXU_STAGE_ADDR_HI_addr_hi : Field := ⟨R.TXU_STAGE_ADDR_HI, 0, 16⟩
def TXU_COUNT_overflow : Field := ⟨R.TXU_COUNT, 31, 1⟩
def TXU_COUNT_aborted : Field := ⟨R.TXU_COUNT, 16, 15⟩
def TXU_COUNT_committed : Field := ⟨R.TXU_COUNT, 0, 16⟩
def TXU_PARTIAL_overflow : Field := ⟨R.TXU_PARTIAL, 31, 1⟩
def TXU_PARTIAL_partial : Field := ⟨R.TXU_PARTIAL, 0, 31⟩
def TXU_TX_STATE0_state (i : Nat) : Field := ⟨R.TXU_TX_STATE0 i, 28, 4⟩
def TXU_TX_STATE0_opener_ni (i : Nat) : Field := ⟨R.TXU_TX_STATE0 i, 16, 10⟩
def TXU_TX_STATE0_participants (i : Nat) : Field := ⟨R.TXU_TX_STATE0 i, 0, 13⟩
def TXU_TX_STATE1_outcome (i : Nat) : Field := ⟨R.TXU_TX_STATE1 i, 16, 16⟩
def TXU_TX_STATE1_detail (i : Nat) : Field := ⟨R.TXU_TX_STATE1 i, 0, 16⟩
def TXU_TX_STATE2_subject_ni (i : Nat) : Field := ⟨R.TXU_TX_STATE2 i, 22, 10⟩
def TXU_TX_STATE2_staged (i : Nat) : Field := ⟨R.TXU_TX_STATE2 i, 0, 17⟩
def TXU_TX_STATE3_launch_ns (i : Nat) : Field := ⟨R.TXU_TX_STATE3 i, 0, 32⟩

def CVL_CUE_TIME_at_ns (i j : Nat) : Field := ⟨R.CVL_CUE_TIME i j, 0, 32⟩
def CVL_CUE_STATE_last_status (i j : Nat) : Field := ⟨R.CVL_CUE_STATE i j, 16, 16⟩
def CVL_CUE_STATE_fired (i j : Nat) : Field := ⟨R.CVL_CUE_STATE i j, 8, 8⟩
def CVL_CUE_STATE_armed (i j : Nat) : Field := ⟨R.CVL_CUE_STATE i j, 7, 1⟩
def CVL_CUE_STATE_pin_event (i j : Nat) : Field := ⟨R.CVL_CUE_STATE i j, 6, 1⟩
def CVL_CUE_STATE_frac (i j : Nat) : Field := ⟨R.CVL_CUE_STATE i j, 0, 4⟩
def CVL_CUE_CLAIM_claim (i j : Nat) : Field := ⟨R.CVL_CUE_CLAIM i j, 31, 1⟩
def CVL_CUE_CLAIM_release (i j : Nat) : Field := ⟨R.CVL_CUE_CLAIM i j, 30, 1⟩
def CVL_CUE_CLAIM_holder_kind (i j : Nat) : Field := ⟨R.CVL_CUE_CLAIM i j, 28, 2⟩
def CVL_CUE_CLAIM_holder_ni (i j : Nat) : Field := ⟨R.CVL_CUE_CLAIM i j, 16, 10⟩
def CVL_CUE_CLAIM_last_status (i j : Nat) : Field := ⟨R.CVL_CUE_CLAIM i j, 0, 16⟩
def CVL_LANE_CTRL_test_rx (i : Nat) : Field := ⟨R.CVL_LANE_CTRL i, 31, 1⟩
def CVL_LANE_CTRL_test_tx (i : Nat) : Field := ⟨R.CVL_LANE_CTRL i, 30, 1⟩
def CVL_LANE_CTRL_rx_inv (i : Nat) : Field := ⟨R.CVL_LANE_CTRL i, 29, 1⟩
def CVL_LANE_CTRL_tx_inv (i : Nat) : Field := ⟨R.CVL_LANE_CTRL i, 28, 1⟩
def CVL_LANE_CTRL_loopback (i : Nat) : Field := ⟨R.CVL_LANE_CTRL i, 27, 1⟩
def CVL_LANE_STATUS_link_rx (i : Nat) : Field := ⟨R.CVL_LANE_STATUS i, 12, 4⟩
def CVL_LANE_STATUS_link_tx (i : Nat) : Field := ⟨R.CVL_LANE_STATUS i, 8, 4⟩
def CVL_LANE_STATUS_fault (i : Nat) : Field := ⟨R.CVL_LANE_STATUS i, 4, 1⟩
def CVL_LANE_STATUS_aligned (i : Nat) : Field := ⟨R.CVL_LANE_STATUS i, 3, 1⟩
def CVL_LANE_STATUS_cgs (i : Nat) : Field := ⟨R.CVL_LANE_STATUS i, 2, 1⟩
def CVL_LANE_STATUS_cdr_lock (i : Nat) : Field := ⟨R.CVL_LANE_STATUS i, 1, 1⟩
def CVL_LANE_STATUS_sig_det (i : Nat) : Field := ⟨R.CVL_LANE_STATUS i, 0, 1⟩
def CVL_LANE_TXEQ_main (i : Nat) : Field := ⟨R.CVL_LANE_TXEQ i, 16, 6⟩
def CVL_LANE_TXEQ_post (i : Nat) : Field := ⟨R.CVL_LANE_TXEQ i, 8, 5⟩
def CVL_LANE_TXEQ_pre (i : Nat) : Field := ⟨R.CVL_LANE_TXEQ i, 0, 5⟩
def CVL_LANE_RXEQ_adapt (i : Nat) : Field := ⟨R.CVL_LANE_RXEQ i, 31, 1⟩
def CVL_LANE_RXEQ_ctle_now (i : Nat) : Field := ⟨R.CVL_LANE_RXEQ i, 8, 4⟩
def CVL_LANE_RXEQ_ctle (i : Nat) : Field := ⟨R.CVL_LANE_RXEQ i, 0, 4⟩
def CVL_LANE_ERR_overflow (i : Nat) : Field := ⟨R.CVL_LANE_ERR i, 31, 1⟩
def CVL_LANE_ERR_disparity (i : Nat) : Field := ⟨R.CVL_LANE_ERR i, 16, 15⟩
def CVL_LANE_ERR_code (i : Nat) : Field := ⟨R.CVL_LANE_ERR i, 0, 16⟩
def CVL_LANE_TEST_inj_single (i : Nat) : Field := ⟨R.CVL_LANE_TEST i, 31, 1⟩
def CVL_LANE_TEST_inj_burst (i : Nat) : Field := ⟨R.CVL_LANE_TEST i, 30, 1⟩
def CVL_LANE_TEST_inj_live (i : Nat) : Field := ⟨R.CVL_LANE_TEST i, 29, 1⟩
def CVL_LANE_TEST_burst_len (i : Nat) : Field := ⟨R.CVL_LANE_TEST i, 18, 6⟩
def CVL_LANE_TEST_chk_en (i : Nat) : Field := ⟨R.CVL_LANE_TEST i, 15, 1⟩
def CVL_LANE_TEST_chk_pat (i : Nat) : Field := ⟨R.CVL_LANE_TEST i, 12, 3⟩
def CVL_LANE_TEST_chk_inv (i : Nat) : Field := ⟨R.CVL_LANE_TEST i, 11, 1⟩
def CVL_LANE_TEST_gen_en (i : Nat) : Field := ⟨R.CVL_LANE_TEST i, 7, 1⟩
def CVL_LANE_TEST_gen_pat (i : Nat) : Field := ⟨R.CVL_LANE_TEST i, 4, 3⟩
def CVL_LANE_TEST_gen_inv (i : Nat) : Field := ⟨R.CVL_LANE_TEST i, 3, 1⟩
def CVL_LANE_PRBS_ERR_locked (i : Nat) : Field := ⟨R.CVL_LANE_PRBS_ERR i, 31, 1⟩
def CVL_LANE_PRBS_ERR_overflow (i : Nat) : Field := ⟨R.CVL_LANE_PRBS_ERR i, 30, 1⟩
def CVL_LANE_PRBS_ERR_errors (i : Nat) : Field := ⟨R.CVL_LANE_PRBS_ERR i, 0, 30⟩
def CVL_EYE_CTRL_go (i : Nat) : Field := ⟨R.CVL_EYE_CTRL i, 31, 1⟩
def CVL_EYE_CTRL_busy (i : Nat) : Field := ⟨R.CVL_EYE_CTRL i, 30, 1⟩
def CVL_EYE_CTRL_done (i : Nat) : Field := ⟨R.CVL_EYE_CTRL i, 29, 1⟩
def CVL_EYE_CTRL_aborted (i : Nat) : Field := ⟨R.CVL_EYE_CTRL i, 28, 1⟩
def CVL_EYE_CTRL_dwell (i : Nat) : Field := ⟨R.CVL_EYE_CTRL i, 22, 6⟩
def CVL_EYE_CTRL_phase (i : Nat) : Field := ⟨R.CVL_EYE_CTRL i, 16, 6⟩
def CVL_EYE_CTRL_offset (i : Nat) : Field := ⟨R.CVL_EYE_CTRL i, 8, 7⟩
def CVL_EYE_ERR_errors (i : Nat) : Field := ⟨R.CVL_EYE_ERR i, 0, 32⟩
def CVL_G_CTRL_pll_en (i : Nat) : Field := ⟨R.CVL_G_CTRL i, 31, 1⟩
def CVL_G_CTRL_ratio (i : Nat) : Field := ⟨R.CVL_G_CTRL i, 0, 8⟩
def CVL_G_STATUS_last_status (i : Nat) : Field := ⟨R.CVL_G_STATUS i, 16, 16⟩
def CVL_G_STATUS_devclk_ok (i : Nat) : Field := ⟨R.CVL_G_STATUS i, 1, 1⟩
def CVL_G_STATUS_pll_lock (i : Nat) : Field := ⟨R.CVL_G_STATUS i, 0, 1⟩
def CVL_G_SYSREF_mode (i : Nat) : Field := ⟨R.CVL_G_SYSREF i, 30, 2⟩
def CVL_G_SYSREF_pin_en (i : Nat) : Field := ⟨R.CVL_G_SYSREF i, 29, 1⟩
def CVL_G_SYSREF_misaligned (i : Nat) : Field := ⟨R.CVL_G_SYSREF i, 28, 1⟩
def CVL_G_SYSREF_width (i : Nat) : Field := ⟨R.CVL_G_SYSREF i, 24, 4⟩
def CVL_G_SYSREF_pulses (i : Nat) : Field := ⟨R.CVL_G_SYSREF i, 16, 8⟩
def CVL_G_SYSREF_period (i : Nat) : Field := ⟨R.CVL_G_SYSREF i, 0, 16⟩
def CVL_G_CUE_arm (i : Nat) : Field := ⟨R.CVL_G_CUE i, 31, 1⟩
def CVL_G_CUE_disarm (i : Nat) : Field := ⟨R.CVL_G_CUE i, 30, 1⟩
def CVL_G_CUE_action (i : Nat) : Field := ⟨R.CVL_G_CUE i, 29, 1⟩
def CVL_G_CUE_frac (i : Nat) : Field := ⟨R.CVL_G_CUE i, 4, 4⟩
def CVL_G_CUE_slot (i : Nat) : Field := ⟨R.CVL_G_CUE i, 0, 3⟩
def CVL_G_CUE_AT_at_ns (i : Nat) : Field := ⟨R.CVL_G_CUE_AT i, 0, 32⟩
def CVL_G_LMFC_NS_ns (i : Nat) : Field := ⟨R.CVL_G_LMFC_NS i, 0, 32⟩
def CVL_G_LMFC_NS_count (i : Nat) : Field := ⟨R.CVL_G_LMFC_NS i, 16, 16⟩
def CVL_G_LMFC_NS_frac (i : Nat) : Field := ⟨R.CVL_G_LMFC_NS i, 0, 4⟩
def CVL_G_LMFC_FRAC_ns (i : Nat) : Field := ⟨R.CVL_G_LMFC_FRAC i, 0, 32⟩
def CVL_G_LMFC_FRAC_count (i : Nat) : Field := ⟨R.CVL_G_LMFC_FRAC i, 16, 16⟩
def CVL_G_LMFC_FRAC_frac (i : Nat) : Field := ⟨R.CVL_G_LMFC_FRAC i, 0, 4⟩
def CVL_G_DEVCLK_NS_ns (i : Nat) : Field := ⟨R.CVL_G_DEVCLK_NS i, 0, 32⟩
def CVL_G_DEVCLK_NS_count (i : Nat) : Field := ⟨R.CVL_G_DEVCLK_NS i, 16, 16⟩
def CVL_G_DEVCLK_NS_frac (i : Nat) : Field := ⟨R.CVL_G_DEVCLK_NS i, 0, 4⟩
def CVL_G_DEVCLK_FRAC_ns (i : Nat) : Field := ⟨R.CVL_G_DEVCLK_FRAC i, 0, 32⟩
def CVL_G_DEVCLK_FRAC_count (i : Nat) : Field := ⟨R.CVL_G_DEVCLK_FRAC i, 16, 16⟩
def CVL_G_DEVCLK_FRAC_frac (i : Nat) : Field := ⟨R.CVL_G_DEVCLK_FRAC i, 0, 4⟩
def CVL_LK_CFG0_first_lane (i j : Nat) : Field := ⟨R.CVL_LK_CFG0 i j, 29, 3⟩
def CVL_LK_CFG0_l_m1 (i j : Nat) : Field := ⟨R.CVL_LK_CFG0 i j, 26, 3⟩
def CVL_LK_CFG0_m_m1 (i j : Nat) : Field := ⟨R.CVL_LK_CFG0 i j, 21, 5⟩
def CVL_LK_CFG0_f_m1 (i j : Nat) : Field := ⟨R.CVL_LK_CFG0 i j, 17, 4⟩
def CVL_LK_CFG0_s_m1 (i j : Nat) : Field := ⟨R.CVL_LK_CFG0 i j, 14, 3⟩
def CVL_LK_CFG0_k_m1 (i j : Nat) : Field := ⟨R.CVL_LK_CFG0 i j, 9, 5⟩
def CVL_LK_CFG0_n_m1 (i j : Nat) : Field := ⟨R.CVL_LK_CFG0 i j, 5, 4⟩
def CVL_LK_CFG0_cs (i j : Nat) : Field := ⟨R.CVL_LK_CFG0 i j, 3, 2⟩
def CVL_LK_CFG0_hd (i j : Nat) : Field := ⟨R.CVL_LK_CFG0 i j, 2, 1⟩
def CVL_LK_CFG0_scr (i j : Nat) : Field := ⟨R.CVL_LK_CFG0 i j, 1, 1⟩
def CVL_LK_CFG1_mode (i j : Nat) : Field := ⟨R.CVL_LK_CFG1 i j, 31, 1⟩
def CVL_LK_CFG1_subclass (i j : Nat) : Field := ⟨R.CVL_LK_CFG1 i j, 30, 1⟩
def CVL_LK_CFG1_err_action (i j : Nat) : Field := ⟨R.CVL_LK_CFG1 i j, 28, 2⟩
def CVL_LK_CFG1_realign (i j : Nat) : Field := ⟨R.CVL_LK_CFG1 i j, 26, 2⟩
def CVL_LK_CFG1_cfg_check (i j : Nat) : Field := ⟨R.CVL_LK_CFG1 i j, 25, 1⟩
def CVL_LK_CFG1_packing (i j : Nat) : Field := ⟨R.CVL_LK_CFG1 i j, 24, 1⟩
def CVL_LK_CFG1_on_lane_fault (i j : Nat) : Field := ⟨R.CVL_LK_CFG1 i j, 23, 1⟩
def CVL_LK_CFG1_blk_frames (i j : Nat) : Field := ⟨R.CVL_LK_CFG1 i j, 8, 8⟩
def CVL_LK_CFG1_rbd (i j : Nat) : Field := ⟨R.CVL_LK_CFG1 i j, 0, 5⟩
def CVL_LK_DEST_dst_ni (i j : Nat) : Field := ⟨R.CVL_LK_DEST i j, 22, 10⟩
def CVL_LK_DEST_route (i j : Nat) : Field := ⟨R.CVL_LK_DEST i j, 10, 12⟩
def CVL_LK_DEST_prio (i j : Nat) : Field := ⟨R.CVL_LK_DEST i j, 7, 3⟩
def CVL_LK_CTRL_en (i j : Nat) : Field := ⟨R.CVL_LK_CTRL i j, 31, 1⟩
def CVL_LK_CTRL_apply (i j : Nat) : Field := ⟨R.CVL_LK_CTRL i j, 30, 1⟩
def CVL_LK_CTRL_resync (i j : Nat) : Field := ⟨R.CVL_LK_CTRL i j, 29, 1⟩
def CVL_LK_STATUS_last_status (i j : Nat) : Field := ⟨R.CVL_LK_STATUS i j, 16, 16⟩
def CVL_LK_STATUS_ilas_mismatch (i j : Nat) : Field := ⟨R.CVL_LK_STATUS i j, 12, 1⟩
def CVL_LK_STATUS_lanes_ok (i j : Nat) : Field := ⟨R.CVL_LK_STATUS i j, 4, 8⟩
def CVL_LK_STATUS_state (i j : Nat) : Field := ⟨R.CVL_LK_STATUS i j, 0, 4⟩
def CVL_LK_COUNT_overflow (i j : Nat) : Field := ⟨R.CVL_LK_COUNT i j, 31, 1⟩
def CVL_LK_COUNT_dropped (i j : Nat) : Field := ⟨R.CVL_LK_COUNT i j, 16, 15⟩
def CVL_LK_COUNT_err_frames (i j : Nat) : Field := ⟨R.CVL_LK_COUNT i j, 0, 16⟩
def CVL_LK_SYNC_overflow (i j : Nat) : Field := ⟨R.CVL_LK_SYNC i j, 31, 1⟩
def CVL_LK_SYNC_resyncs (i j : Nat) : Field := ⟨R.CVL_LK_SYNC i j, 16, 15⟩
def CVL_LK_SYNC_reports (i j : Nat) : Field := ⟨R.CVL_LK_SYNC i j, 0, 16⟩

def NTL_RING_en : Field := ⟨R.NTL_RING, 31, 1⟩
def NTL_RING_port_a : Field := ⟨R.NTL_RING, 24, 5⟩
def NTL_RING_port_b : Field := ⟨R.NTL_RING, 19, 5⟩
def NTL_RING_ring_id : Field := ⟨R.NTL_RING, 16, 3⟩
def NTL_RING_tpid : Field := ⟨R.NTL_RING, 0, 16⟩
def NTL_RCLK_en (i : Nat) : Field := ⟨R.NTL_RCLK i, 31, 1⟩
def NTL_RCLK_squelched (i : Nat) : Field := ⟨R.NTL_RCLK i, 30, 1⟩
def NTL_RCLK_lane (i : Nat) : Field := ⟨R.NTL_RCLK i, 8, 5⟩
def NTL_RCLK_div_m1 (i : Nat) : Field := ⟨R.NTL_RCLK i, 0, 6⟩
def NTL_PB_CTRL_en (i : Nat) : Field := ⟨R.NTL_PB_CTRL i, 31, 1⟩
def NTL_PB_CTRL_mode (i : Nat) : Field := ⟨R.NTL_PB_CTRL i, 29, 2⟩
def NTL_PB_CTRL_fec (i : Nat) : Field := ⟨R.NTL_PB_CTRL i, 28, 1⟩
def NTL_PB_CTRL_ptp_husk (i : Nat) : Field := ⟨R.NTL_PB_CTRL i, 27, 1⟩
def NTL_PB_CTRL_keep_bad (i : Nat) : Field := ⟨R.NTL_PB_CTRL i, 26, 1⟩
def NTL_PB_CTRL_max_len (i : Nat) : Field := ⟨R.NTL_PB_CTRL i, 0, 14⟩
def NTL_PB_STATUS_last_status (i : Nat) : Field := ⟨R.NTL_PB_STATUS i, 16, 16⟩
def NTL_PB_STATUS_fec_lock (i : Nat) : Field := ⟨R.NTL_PB_STATUS i, 8, 4⟩
def NTL_PB_STATUS_link_up (i : Nat) : Field := ⟨R.NTL_PB_STATUS i, 0, 4⟩
def NTL_PB_TS_dom (i : Nat) : Field := ⟨R.NTL_PB_TS i, 31, 1⟩
def NTL_PB_TS_ts_mbx_en (i : Nat) : Field := ⟨R.NTL_PB_TS i, 30, 1⟩
def NTL_PB_TS_mailbox (i : Nat) : Field := ⟨R.NTL_PB_TS i, 14, 8⟩
def NTL_PB_TS_bell (i : Nat) : Field := ⟨R.NTL_PB_TS i, 9, 5⟩
def NTL_PB_DELAY_tx_delay_ps (i : Nat) : Field := ⟨R.NTL_PB_DELAY i, 16, 16⟩
def NTL_PB_DELAY_rx_delay_ps (i : Nat) : Field := ⟨R.NTL_PB_DELAY i, 0, 16⟩
def NTL_PB_TS2_NS_ns (i : Nat) : Field := ⟨R.NTL_PB_TS2_NS i, 0, 32⟩
def NTL_PB_TS2_INFO_tag (i : Nat) : Field := ⟨R.NTL_PB_TS2_INFO i, 16, 16⟩
def NTL_PB_TS2_INFO_frac (i : Nat) : Field := ⟨R.NTL_PB_TS2_INFO i, 0, 16⟩
def NTL_PB_TS2_AUX_valid (i : Nat) : Field := ⟨R.NTL_PB_TS2_AUX i, 31, 1⟩
def NTL_PB_TS2_AUX_dom (i : Nat) : Field := ⟨R.NTL_PB_TS2_AUX i, 30, 1⟩
def NTL_PB_TS2_AUX_port (i : Nat) : Field := ⟨R.NTL_PB_TS2_AUX i, 28, 2⟩
def NTL_PB_TS2_AUX_depth (i : Nat) : Field := ⟨R.NTL_PB_TS2_AUX i, 0, 7⟩
def NTL_PB_RXQ_def_pcp (i j : Nat) : Field := ⟨R.NTL_PB_RXQ i j, 20, 3⟩
def NTL_PB_RXQ_base (i j : Nat) : Field := ⟨R.NTL_PB_RXQ i j, 0, 20⟩
def NTL_PB_COUNT0_overflow (i j : Nat) : Field := ⟨R.NTL_PB_COUNT0 i j, 31, 1⟩
def NTL_PB_COUNT0_tx_abort (i j : Nat) : Field := ⟨R.NTL_PB_COUNT0 i j, 16, 15⟩
def NTL_PB_COUNT0_rx_drop (i j : Nat) : Field := ⟨R.NTL_PB_COUNT0 i j, 0, 16⟩
def NTL_PB_COUNT1_ts_lost (i j : Nat) : Field := ⟨R.NTL_PB_COUNT1 i j, 24, 8⟩
def NTL_PB_COUNT1_onestep_miss (i j : Nat) : Field := ⟨R.NTL_PB_COUNT1 i j, 16, 8⟩
def NTL_PB_COUNT1_ring_drop (i j : Nat) : Field := ⟨R.NTL_PB_COUNT1 i j, 0, 16⟩
def NTL_PB_FEC_overflow (i j : Nat) : Field := ⟨R.NTL_PB_FEC i j, 31, 1⟩
def NTL_PB_FEC_uncorrected (i j : Nat) : Field := ⟨R.NTL_PB_FEC i j, 16, 15⟩
def NTL_PB_FEC_corrected (i j : Nat) : Field := ⟨R.NTL_PB_FEC i j, 0, 16⟩
def NTL_LANE_TXEQ_main (i : Nat) : Field := ⟨R.NTL_LANE_TXEQ i, 16, 6⟩
def NTL_LANE_TXEQ_post (i : Nat) : Field := ⟨R.NTL_LANE_TXEQ i, 8, 5⟩
def NTL_LANE_TXEQ_pre (i : Nat) : Field := ⟨R.NTL_LANE_TXEQ i, 0, 5⟩
def NTL_LANE_RXEQ_adapt (i : Nat) : Field := ⟨R.NTL_LANE_RXEQ i, 31, 1⟩
def NTL_LANE_RXEQ_ctle_now (i : Nat) : Field := ⟨R.NTL_LANE_RXEQ i, 8, 4⟩
def NTL_LANE_RXEQ_ctle (i : Nat) : Field := ⟨R.NTL_LANE_RXEQ i, 0, 4⟩
def NTL_LANE_DFE_tap (i j : Nat) : Field := ⟨R.NTL_LANE_DFE i j, 0, 8⟩

def MC_STATUS_last_status (i : Nat) : Field := ⟨R.MC_STATUS i, 16, 16⟩
def MC_STATUS_mirror_degraded (i : Nat) : Field := ⟨R.MC_STATUS i, 12, 1⟩
def MC_STATUS_spare_used (i : Nat) : Field := ⟨R.MC_STATUS i, 11, 1⟩
def MC_STATUS_degraded (i : Nat) : Field := ⟨R.MC_STATUS i, 10, 1⟩
def MC_STATUS_sub_up (i : Nat) : Field := ⟨R.MC_STATUS i, 8, 2⟩
def MC_STATUS_ranks (i : Nat) : Field := ⟨R.MC_STATUS i, 4, 4⟩
def MC_STATUS_dpc2 (i : Nat) : Field := ⟨R.MC_STATUS i, 1, 1⟩
def MC_STATUS_trained (i : Nat) : Field := ⟨R.MC_STATUS i, 0, 1⟩
def MC_CTRL_wb_corrected (i : Nat) : Field := ⟨R.MC_CTRL i, 1, 1⟩
def MC_CTRL_ue_mode (i : Nat) : Field := ⟨R.MC_CTRL i, 0, 1⟩
def MC_TRAIN_retrain (i : Nat) : Field := ⟨R.MC_TRAIN i, 31, 1⟩
def MC_TRAIN_busy (i : Nat) : Field := ⟨R.MC_TRAIN i, 30, 1⟩
def MC_TRAIN_drift_ps (i : Nat) : Field := ⟨R.MC_TRAIN i, 16, 8⟩
def MC_TRAIN_temp_delta (i : Nat) : Field := ⟨R.MC_TRAIN i, 8, 8⟩
def MC_TRAIN_period_ms (i : Nat) : Field := ⟨R.MC_TRAIN i, 0, 8⟩
def MC_RH_threshold (i : Nat) : Field := ⟨R.MC_RH i, 0, 16⟩
def MC_RH_STAT_overflow (i : Nat) : Field := ⟨R.MC_RH_STAT i, 31, 1⟩
def MC_RH_STAT_forced (i : Nat) : Field := ⟨R.MC_RH_STAT i, 16, 15⟩
def MC_RH_STAT_refreshes (i : Nat) : Field := ⟨R.MC_RH_STAT i, 0, 16⟩
def MC_ECC_COUNT_overflow (i : Nat) : Field := ⟨R.MC_ECC_COUNT i, 31, 1⟩
def MC_ECC_COUNT_ue (i : Nat) : Field := ⟨R.MC_ECC_COUNT i, 16, 15⟩
def MC_ECC_COUNT_ce (i : Nat) : Field := ⟨R.MC_ECC_COUNT i, 0, 16⟩
def MC_CAPAR_overflow (i : Nat) : Field := ⟨R.MC_CAPAR i, 31, 1⟩
def MC_CAPAR_failed (i : Nat) : Field := ⟨R.MC_CAPAR i, 16, 15⟩
def MC_CAPAR_retried (i : Nat) : Field := ⟨R.MC_CAPAR i, 0, 16⟩
def MC_SPARE_go (i : Nat) : Field := ⟨R.MC_SPARE i, 31, 1⟩
def MC_SPARE_busy (i : Nat) : Field := ⟨R.MC_SPARE i, 30, 1⟩
def MC_SPARE_used (i : Nat) : Field := ⟨R.MC_SPARE i, 29, 1⟩
def MC_SPARE_failed_rank (i : Nat) : Field := ⟨R.MC_SPARE i, 24, 3⟩
def MC_SPARE_progress (i : Nat) : Field := ⟨R.MC_SPARE i, 16, 8⟩
def MC_SPARE_copy_mbs (i : Nat) : Field := ⟨R.MC_SPARE i, 0, 16⟩
def MC_UE_ADDR_LO_addr (i : Nat) : Field := ⟨R.MC_UE_ADDR_LO i, 0, 32⟩
def MC_UE_ADDR_LO_valid (i : Nat) : Field := ⟨R.MC_UE_ADDR_LO i, 31, 1⟩
def MC_UE_ADDR_LO_merge (i : Nat) : Field := ⟨R.MC_UE_ADDR_LO i, 30, 1⟩
def MC_UE_ADDR_LO_addr_hi (i : Nat) : Field := ⟨R.MC_UE_ADDR_LO i, 0, 16⟩
def MC_UE_ADDR_HI_addr (i : Nat) : Field := ⟨R.MC_UE_ADDR_HI i, 0, 32⟩
def MC_UE_ADDR_HI_valid (i : Nat) : Field := ⟨R.MC_UE_ADDR_HI i, 31, 1⟩
def MC_UE_ADDR_HI_merge (i : Nat) : Field := ⟨R.MC_UE_ADDR_HI i, 30, 1⟩
def MC_UE_ADDR_HI_addr_hi (i : Nat) : Field := ⟨R.MC_UE_ADDR_HI i, 0, 16⟩
def MC_CE_DEV_top_dev (i j : Nat) : Field := ⟨R.MC_CE_DEV i j, 28, 4⟩
def MC_CE_DEV_top_count (i j : Nat) : Field := ⟨R.MC_CE_DEV i j, 16, 12⟩
def MC_CE_DEV_total (i j : Nat) : Field := ⟨R.MC_CE_DEV i j, 0, 16⟩
def MCG_MAP_capacity_gib : Field := ⟨R.MCG_MAP, 20, 12⟩
def MCG_MAP_spare_en : Field := ⟨R.MCG_MAP, 19, 1⟩
def MCG_MAP_ways8 : Field := ⟨R.MCG_MAP, 18, 1⟩
def MCG_MAP_rank_bits : Field := ⟨R.MCG_MAP, 16, 2⟩
def MCG_MAP_row_bits : Field := ⟨R.MCG_MAP, 11, 5⟩
def MCG_MAP_row_lo : Field := ⟨R.MCG_MAP, 6, 5⟩
def MCG_ZONE_mirror (i : Nat) : Field := ⟨R.MCG_ZONE i, 31, 1⟩
def MCG_ZONE_cls (i : Nat) : Field := ⟨R.MCG_ZONE i, 30, 1⟩
def MCG_ZONE_order (i : Nat) : Field := ⟨R.MCG_ZONE i, 28, 2⟩
def MCG_ZONE_limit_gib (i : Nat) : Field := ⟨R.MCG_ZONE i, 0, 12⟩
def MCG_HASH_mask (i : Nat) : Field := ⟨R.MCG_HASH i, 0, 32⟩

def MP_STATUS_last_status : Field := ⟨R.MP_STATUS, 16, 16⟩
def MP_STATUS_ranges_en : Field := ⟨R.MP_STATUS, 8, 8⟩
def MP_STATUS_keys_valid : Field := ⟨R.MP_STATUS, 0, 1⟩
def MP_DEFAULT_ext_host : Field := ⟨R.MP_DEFAULT, 26, 2⟩
def MP_DEFAULT_ext_mon : Field := ⟨R.MP_DEFAULT, 24, 2⟩
def MP_SWEEP_go : Field := ⟨R.MP_SWEEP, 31, 1⟩
def MP_SWEEP_init : Field := ⟨R.MP_SWEEP, 30, 1⟩
def MP_SWEEP_busy : Field := ⟨R.MP_SWEEP, 29, 1⟩
def MP_SWEEP_range : Field := ⟨R.MP_SWEEP, 24, 5⟩
def MP_SWEEP_progress : Field := ⟨R.MP_SWEEP, 16, 8⟩
def MP_SWEEP_rate_mbs : Field := ⟨R.MP_SWEEP, 0, 16⟩
def MP_RETIRE_STATUS_last_status : Field := ⟨R.MP_RETIRE_STATUS, 16, 16⟩
def MP_RETIRE_STATUS_used : Field := ⟨R.MP_RETIRE_STATUS, 0, 11⟩
def MP_RETIRE_POLICY_ue_retire : Field := ⟨R.MP_RETIRE_POLICY, 31, 1⟩
def MP_RETIRE_POLICY_ce_window_h : Field := ⟨R.MP_RETIRE_POLICY, 16, 8⟩
def MP_RETIRE_POLICY_ce_count : Field := ⟨R.MP_RETIRE_POLICY, 0, 8⟩
def MP_SCRUB_CFG_lap_h : Field := ⟨R.MP_SCRUB_CFG, 0, 8⟩
def MP_SCRUB_SPM_lap_ms : Field := ⟨R.MP_SCRUB_SPM, 0, 32⟩
def MP_SCRUB_DETAIL_lap_us : Field := ⟨R.MP_SCRUB_DETAIL, 0, 32⟩
def MP_SCRUB_STALLED_brams : Field := ⟨R.MP_SCRUB_STALLED, 16, 16⟩
def MP_SCRUB_STALLED_engines : Field := ⟨R.MP_SCRUB_STALLED, 0, 11⟩
def MP_SCRUB_SEL_kind : Field := ⟨R.MP_SCRUB_SEL, 31, 1⟩
def MP_SCRUB_SEL_region : Field := ⟨R.MP_SCRUB_SEL, 16, 7⟩
def MP_SCRUB_SEL_index : Field := ⟨R.MP_SCRUB_SEL, 0, 9⟩
def MP_SWEEP_PTR_LO_ptr : Field := ⟨R.MP_SWEEP_PTR_LO, 0, 32⟩
def MP_SWEEP_PTR_HI_ptr : Field := ⟨R.MP_SWEEP_PTR_HI, 0, 32⟩
def MP_SCRUB_DRAM0_lap_s (i : Nat) : Field := ⟨R.MP_SCRUB_DRAM0 i, 0, 32⟩
def MP_SCRUB_DRAM1_overflow (i : Nat) : Field := ⟨R.MP_SCRUB_DRAM1 i, 31, 1⟩
def MP_SCRUB_DRAM1_corrected (i : Nat) : Field := ⟨R.MP_SCRUB_DRAM1 i, 0, 31⟩
def MP_RANGE_BASE_addr_2m (i : Nat) : Field := ⟨R.MP_RANGE_BASE i, 0, 27⟩
def MP_RANGE_LIMIT_addr_2m (i : Nat) : Field := ⟨R.MP_RANGE_LIMIT i, 0, 27⟩
def MP_RANGE_CFG_en (i : Nat) : Field := ⟨R.MP_RANGE_CFG i, 31, 1⟩
def MP_RANGE_CFG_tagged (i : Nat) : Field := ⟨R.MP_RANGE_CFG i, 30, 1⟩
def MP_RANGE_CFG_mode (i : Nat) : Field := ⟨R.MP_RANGE_CFG i, 28, 2⟩
def MP_RANGE_CFG_ext_host (i : Nat) : Field := ⟨R.MP_RANGE_CFG i, 26, 2⟩
def MP_RANGE_CFG_ext_mon (i : Nat) : Field := ⟨R.MP_RANGE_CFG i, 24, 2⟩
def MP_RANGE_STATE_last_status (i : Nat) : Field := ⟨R.MP_RANGE_STATE i, 16, 16⟩
def MP_RANGE_STATE_gen (i : Nat) : Field := ⟨R.MP_RANGE_STATE i, 8, 8⟩
def MP_RANGE_STATE_sweeping (i : Nat) : Field := ⟨R.MP_RANGE_STATE i, 7, 1⟩
def MP_RANGE_STATE_live_tagged (i : Nat) : Field := ⟨R.MP_RANGE_STATE i, 6, 1⟩
def MP_RANGE_STATE_live_mode (i : Nat) : Field := ⟨R.MP_RANGE_STATE i, 4, 2⟩
def MP_RANGE_TAG_tag_256k (i : Nat) : Field := ⟨R.MP_RANGE_TAG i, 0, 30⟩
def MP_RANGE_COUNT_overflow (i : Nat) : Field := ⟨R.MP_RANGE_COUNT i, 31, 1⟩
def MP_RANGE_COUNT_blocked (i : Nat) : Field := ⟨R.MP_RANGE_COUNT i, 16, 15⟩
def MP_RANGE_COUNT_tag_fail (i : Nat) : Field := ⟨R.MP_RANGE_COUNT i, 0, 16⟩

def SPM_STATUS_last_status : Field := ⟨R.SPM_STATUS, 16, 16⟩
def SPM_STATUS_wipes : Field := ⟨R.SPM_STATUS, 8, 8⟩
def SPM_STATUS_wiping : Field := ⟨R.SPM_STATUS, 0, 1⟩
def SPM_SET_CFG_mode (i : Nat) : Field := ⟨R.SPM_SET_CFG i, 31, 1⟩
def SPM_SET_CFG_keep_on (i : Nat) : Field := ⟨R.SPM_SET_CFG i, 30, 1⟩
def SPM_SET_CFG_changing (i : Nat) : Field := ⟨R.SPM_SET_CFG i, 5, 1⟩
def SPM_SET_CFG_state (i : Nat) : Field := ⟨R.SPM_SET_CFG i, 2, 2⟩
def SPM_SET_CFG_power (i : Nat) : Field := ⟨R.SPM_SET_CFG i, 0, 2⟩
def SPM_ERR_overflow (i : Nat) : Field := ⟨R.SPM_ERR i, 31, 1⟩
def SPM_ERR_ue (i : Nat) : Field := ⟨R.SPM_ERR i, 16, 15⟩
def SPM_ERR_ce (i : Nat) : Field := ⟨R.SPM_ERR i, 0, 16⟩
def SPM_BANK_PWR_changing (i : Nat) : Field := ⟨R.SPM_BANK_PWR i, 5, 1⟩
def SPM_BANK_PWR_state (i : Nat) : Field := ⟨R.SPM_BANK_PWR i, 2, 2⟩
def SPM_BANK_PWR_power (i : Nat) : Field := ⟨R.SPM_BANK_PWR i, 0, 2⟩

def MBX_CFG_kind (i : Nat) : Field := ⟨R.MBX_CFG i, 30, 2⟩
def MBX_CFG_target (i : Nat) : Field := ⟨R.MBX_CFG i, 16, 12⟩
def MBX_CFG_timeout_us (i : Nat) : Field := ⟨R.MBX_CFG i, 0, 16⟩
def MBX_STATE_seq (i : Nat) : Field := ⟨R.MBX_STATE i, 16, 16⟩
def MBX_STATE_sender_ni (i : Nat) : Field := ⟨R.MBX_STATE i, 6, 10⟩
def MBX_STATE_unavailable (i : Nat) : Field := ⟨R.MBX_STATE i, 5, 1⟩
def MBX_STATE_timed_out (i : Nat) : Field := ⟨R.MBX_STATE i, 4, 1⟩
def MBX_STATE_state (i : Nat) : Field := ⟨R.MBX_STATE i, 0, 2⟩
def MBX_SEND_go (i : Nat) : Field := ⟨R.MBX_SEND i, 31, 1⟩
def MBX_ACK_seq (i : Nat) : Field := ⟨R.MBX_ACK i, 16, 16⟩
def MBX_ACK_code (i : Nat) : Field := ⟨R.MBX_ACK i, 0, 16⟩
def MBX_RESULT_last_status (i : Nat) : Field := ⟨R.MBX_RESULT i, 16, 16⟩
def MBX_RESULT_code (i : Nat) : Field := ⟨R.MBX_RESULT i, 0, 16⟩
def MBX_COUNT_overflow (i : Nat) : Field := ⟨R.MBX_COUNT i, 31, 1⟩
def MBX_COUNT_late_acks (i : Nat) : Field := ⟨R.MBX_COUNT i, 16, 15⟩
def MBX_COUNT_timeouts (i : Nat) : Field := ⟨R.MBX_COUNT i, 0, 16⟩
def MBX_DB_bells (i : Nat) : Field := ⟨R.MBX_DB i, 0, 32⟩
def MBX_DB_SET_bells (i : Nat) : Field := ⟨R.MBX_DB_SET i, 0, 32⟩
def MBX_DB_MASK_bells (i : Nat) : Field := ⟨R.MBX_DB_MASK i, 0, 32⟩
def MBX_MSG_word (i j : Nat) : Field := ⟨R.MBX_MSG i j, 0, 32⟩

def PCI_STATUS_last_status : Field := ⟨R.PCI_STATUS, 16, 16⟩
def PCI_STATUS_width : Field := ⟨R.PCI_STATUS, 8, 3⟩
def PCI_STATUS_speed : Field := ⟨R.PCI_STATUS, 2, 3⟩
def PCI_STATUS_perst : Field := ⟨R.PCI_STATUS, 1, 1⟩
def PCI_STATUS_link_up : Field := ⟨R.PCI_STATUS, 0, 1⟩
def PCI_LDR_STATUS_last_status : Field := ⟨R.PCI_LDR_STATUS, 16, 16⟩
def PCI_LDR_STATUS_kind : Field := ⟨R.PCI_LDR_STATUS, 8, 4⟩
def PCI_LDR_STATUS_source : Field := ⟨R.PCI_LDR_STATUS, 4, 2⟩
def PCI_LDR_STATUS_state : Field := ⟨R.PCI_LDR_STATUS, 0, 3⟩
def PCI_LDR_CTRL_abort : Field := ⟨R.PCI_LDR_CTRL, 31, 1⟩
def PCI_LDR_CTRL_activate : Field := ⟨R.PCI_LDR_CTRL, 30, 1⟩
def PCI_LDR_CTRL_src_go : Field := ⟨R.PCI_LDR_CTRL, 29, 1⟩
def PCI_LDR_CTRL_to_acorn : Field := ⟨R.PCI_LDR_CTRL, 28, 1⟩
def PCI_LDR_CTRL_bind : Field := ⟨R.PCI_LDR_CTRL, 27, 1⟩
def PCI_LDR_POS_pos : Field := ⟨R.PCI_LDR_POS, 0, 32⟩
def PCI_LDR_LEN_length : Field := ⟨R.PCI_LDR_LEN, 0, 32⟩
def PCI_LDR_AT_at_ns : Field := ⟨R.PCI_LDR_AT, 0, 32⟩
def PCI_LDR_CFG_load_wait_ms : Field := ⟨R.PCI_LDR_CFG, 0, 16⟩
def PCI_HOST_WMASK_mask : Field := ⟨R.PCI_HOST_WMASK, 0, 18⟩
def PCI_CMD_go : Field := ⟨R.PCI_CMD, 31, 1⟩
def PCI_CMD_busy : Field := ⟨R.PCI_CMD, 30, 1⟩
def PCI_CMD_code : Field := ⟨R.PCI_CMD, 16, 8⟩
def PCI_CMD_status : Field := ⟨R.PCI_CMD, 0, 16⟩
def PCI_CMD_LEN_out_len : Field := ⟨R.PCI_CMD_LEN, 16, 16⟩
def PCI_CMD_LEN_in_len : Field := ⟨R.PCI_CMD_LEN, 0, 16⟩
def PCI_TRUST_floor : Field := ⟨R.PCI_TRUST, 24, 8⟩
def PCI_TRUST_tamper_count : Field := ⟨R.PCI_TRUST, 19, 5⟩
def PCI_TRUST_tamper_lock : Field := ⟨R.PCI_TRUST, 18, 1⟩
def PCI_TRUST_tamper_unacked : Field := ⟨R.PCI_TRUST, 17, 1⟩
def PCI_TRUST_debug_open : Field := ⟨R.PCI_TRUST, 16, 1⟩
def PCI_TRUST_revoked : Field := ⟨R.PCI_TRUST, 12, 4⟩
def PCI_TRUST_burned : Field := ⟨R.PCI_TRUST, 8, 4⟩
def PCI_TRUST_life_cycle : Field := ⟨R.PCI_TRUST, 0, 3⟩
def PCI_UNLOCK_session_left_s : Field := ⟨R.PCI_UNLOCK, 15, 17⟩
def PCI_UNLOCK_failures : Field := ⟨R.PCI_UNLOCK, 7, 7⟩
def PCI_FLASH_WEAR_acorn_valid : Field := ⟨R.PCI_FLASH_WEAR, 31, 1⟩
def PCI_FLASH_WEAR_acorn_locked : Field := ⟨R.PCI_FLASH_WEAR, 30, 1⟩
def PCI_FLASH_WEAR_acorn_busy : Field := ⟨R.PCI_FLASH_WEAR, 29, 1⟩
def PCI_FLASH_WEAR_acorn_pct : Field := ⟨R.PCI_FLASH_WEAR, 16, 8⟩
def PCI_FLASH_WEAR_fw_pct : Field := ⟨R.PCI_FLASH_WEAR, 0, 8⟩
def PCI_LDR_SRC_LO_addr : Field := ⟨R.PCI_LDR_SRC_LO, 0, 32⟩
def PCI_LDR_SRC_HI_addr : Field := ⟨R.PCI_LDR_SRC_HI, 0, 16⟩
def PCI_APERTURE_LO_base : Field := ⟨R.PCI_APERTURE_LO, 30, 2⟩
def PCI_APERTURE_HI_base_hi : Field := ⟨R.PCI_APERTURE_HI, 0, 16⟩

def ERR_STATUS_last_status : Field := ⟨R.ERR_STATUS, 16, 16⟩
def ERR_STATUS_summarising : Field := ⟨R.ERR_STATUS, 15, 1⟩
def ERR_STATUS_log_dropped : Field := ⟨R.ERR_STATUS, 10, 5⟩
def ERR_STATUS_entries : Field := ⟨R.ERR_STATUS, 0, 10⟩
def ERR_CFG_quiet_s : Field := ⟨R.ERR_CFG, 8, 16⟩
def ERR_CFG_log_min : Field := ⟨R.ERR_CFG, 4, 4⟩
def ERR_CFG_notify_min : Field := ⟨R.ERR_CFG, 0, 4⟩
def ERR_NOTIFY_mbx_en : Field := ⟨R.ERR_NOTIFY, 13, 1⟩
def ERR_NOTIFY_mailbox : Field := ⟨R.ERR_NOTIFY, 5, 8⟩
def ERR_NOTIFY_bell : Field := ⟨R.ERR_NOTIFY, 0, 5⟩
def ERR_LOST_overflow : Field := ⟨R.ERR_LOST, 31, 1⟩
def ERR_LOST_lost : Field := ⟨R.ERR_LOST, 0, 31⟩
def ERR_ACK_resolve : Field := ⟨R.ERR_ACK, 31, 1⟩
def ERR_ACK_resolve_all : Field := ⟨R.ERR_ACK, 30, 1⟩
def ERR_ACK_index : Field := ⟨R.ERR_ACK, 0, 9⟩
def ERR_REPAIR_CTRL_go : Field := ⟨R.ERR_REPAIR_CTRL, 31, 1⟩
def ERR_REPAIR_CTRL_drop : Field := ⟨R.ERR_REPAIR_CTRL, 30, 1⟩
def ERR_REPAIR_CTRL_j : Field := ⟨R.ERR_REPAIR_CTRL, 16, 4⟩
def ERR_REPAIR_CTRL_status : Field := ⟨R.ERR_REPAIR_CTRL, 0, 16⟩
def ERR_HUSK_last_status : Field := ⟨R.ERR_HUSK, 16, 16⟩
def ERR_HUSK_standby : Field := ⟨R.ERR_HUSK, 10, 2⟩
def ERR_HUSK_active_core : Field := ⟨R.ERR_HUSK, 9, 1⟩
def ERR_HUSK_confirming : Field := ⟨R.ERR_HUSK, 8, 1⟩
def ERR_HUSK_handovers : Field := ⟨R.ERR_HUSK, 0, 8⟩
def ERR_HUSK_CTRL_handover : Field := ⟨R.ERR_HUSK_CTRL, 31, 1⟩
def ERR_HUSK_CTRL_to_new : Field := ⟨R.ERR_HUSK_CTRL, 30, 1⟩
def ERR_GOV_CTRL_surge : Field := ⟨R.ERR_GOV_CTRL, 31, 1⟩
def ERR_GOV_CTRL_cancel : Field := ⟨R.ERR_GOV_CTRL, 30, 1⟩
def ERR_GOV_CTRL_duration_s : Field := ⟨R.ERR_GOV_CTRL, 0, 16⟩
def ERR_GOV_STATUS_last_status : Field := ⟨R.ERR_GOV_STATUS, 16, 16⟩
def ERR_GOV_STATUS_end_cause : Field := ⟨R.ERR_GOV_STATUS, 12, 4⟩
def ERR_GOV_STATUS_refuse_cause : Field := ⟨R.ERR_GOV_STATUS, 8, 4⟩
def ERR_GOV_STATUS_state : Field := ⟨R.ERR_GOV_STATUS, 0, 2⟩
def ERR_GOV_LEDGER_units : Field := ⟨R.ERR_GOV_LEDGER, 0, 32⟩
def ERR_GOV_POWER_veng_da : Field := ⟨R.ERR_GOV_POWER, 20, 12⟩
def ERR_GOV_POWER_pkg_w : Field := ⟨R.ERR_GOV_POWER, 10, 10⟩
def ERR_GOV_POWER_veng_mv : Field := ⟨R.ERR_GOV_POWER, 0, 10⟩
def ERR_SEL_index : Field := ⟨R.ERR_SEL, 0, 9⟩
def ERR_ENTRY0_valid : Field := ⟨R.ERR_ENTRY0, 31, 1⟩
def ERR_ENTRY0_resolved : Field := ⟨R.ERR_ENTRY0, 30, 1⟩
def ERR_ENTRY0_severity : Field := ⟨R.ERR_ENTRY0, 26, 4⟩
def ERR_ENTRY0_subject : Field := ⟨R.ERR_ENTRY0, 16, 10⟩
def ERR_ENTRY0_class : Field := ⟨R.ERR_ENTRY0, 8, 8⟩
def ERR_ENTRY1_first_reporter : Field := ⟨R.ERR_ENTRY1, 0, 10⟩
def ERR_ENTRY2_overflow : Field := ⟨R.ERR_ENTRY2, 31, 1⟩
def ERR_ENTRY2_count : Field := ⟨R.ERR_ENTRY2, 0, 31⟩
def ERR_ENTRY3_first_ns : Field := ⟨R.ERR_ENTRY3, 0, 32⟩
def ERR_ENTRY4_last_ns : Field := ⟨R.ERR_ENTRY4, 0, 32⟩
def ERR_ENTRY5_detail_lo : Field := ⟨R.ERR_ENTRY5, 0, 32⟩
def ERR_ENTRY6_detail_hi : Field := ⟨R.ERR_ENTRY6, 0, 32⟩
def ERR_REPAIR_PEND_valid (i : Nat) : Field := ⟨R.ERR_REPAIR_PEND i, 31, 1⟩
def ERR_REPAIR_PEND_kind (i : Nat) : Field := ⟨R.ERR_REPAIR_PEND i, 28, 3⟩
def ERR_REPAIR_PEND_subject (i : Nat) : Field := ⟨R.ERR_REPAIR_PEND i, 16, 10⟩
def ERR_REPAIR_PEND_index (i : Nat) : Field := ⟨R.ERR_REPAIR_PEND i, 0, 16⟩
def ERR_GOV_TEMP_peak (i : Nat) : Field := ⟨R.ERR_GOV_TEMP i, 16, 16⟩
def ERR_GOV_TEMP_now (i : Nat) : Field := ⟨R.ERR_GOV_TEMP i, 0, 16⟩
def ERR_CLASS_overflow (i : Nat) : Field := ⟨R.ERR_CLASS i, 31, 1⟩
def ERR_CLASS_summarised (i : Nat) : Field := ⟨R.ERR_CLASS i, 0, 31⟩
def ERR_POLICY_value (i : Nat) : Field := ⟨R.ERR_POLICY i, 0, 32⟩

def DBG_STATUS_session : Field := ⟨R.DBG_STATUS, 31, 1⟩
def DBG_STATUS_frozen : Field := ⟨R.DBG_STATUS, 30, 1⟩
def DBG_STATUS_scope : Field := ⟨R.DBG_STATUS, 24, 6⟩
def DBG_STATUS_last_slot : Field := ⟨R.DBG_STATUS, 17, 3⟩
def DBG_STATUS_last_hit : Field := ⟨R.DBG_STATUS, 7, 10⟩
def DBG_FREEZE_wd_freeze : Field := ⟨R.DBG_FREEZE, 4, 1⟩
def DBG_FREEZE_ntl : Field := ⟨R.DBG_FREEZE, 3, 1⟩
def DBG_FREEZE_cvl : Field := ⟨R.DBG_FREEZE, 2, 1⟩
def DBG_FREEZE_qe : Field := ⟨R.DBG_FREEZE, 1, 1⟩
def DBG_FREEZE_PODS_LO_pods : Field := ⟨R.DBG_FREEZE_PODS_LO, 0, 32⟩
def DBG_FREEZE_PODS_HI_pods : Field := ⟨R.DBG_FREEZE_PODS_HI, 0, 32⟩

def CLK_SRC_STATUS_last_status : Field := ⟨R.CLK_SRC_STATUS, 16, 16⟩
def CLK_SRC_STATUS_xtime_sel : Field := ⟨R.CLK_SRC_STATUS, 13, 3⟩
def CLK_SRC_STATUS_spll_ok : Field := ⟨R.CLK_SRC_STATUS, 9, 4⟩
def CLK_SRC_STATUS_tdpll_ok : Field := ⟨R.CLK_SRC_STATUS, 8, 1⟩
def CLK_SRC_STATUS_xtime_ok : Field := ⟨R.CLK_SRC_STATUS, 3, 1⟩
def CLK_SRC_STATUS_xsys_ok : Field := ⟨R.CLK_SRC_STATUS, 2, 1⟩
def CLK_SRC_STATUS_sosc_ok : Field := ⟨R.CLK_SRC_STATUS, 1, 1⟩
def CLK_SRC_STATUS_fosc_ok : Field := ⟨R.CLK_SRC_STATUS, 0, 1⟩
def CLK_XSYS_HZ_hz : Field := ⟨R.CLK_XSYS_HZ, 0, 32⟩
def CLK_SYS_sys1_sel : Field := ⟨R.CLK_SYS, 2, 2⟩
def CLK_ENG_eng_mhz : Field := ⟨R.CLK_ENG, 0, 16⟩
def CLK_FPLL_CTRL_en (i : Nat) : Field := ⟨R.CLK_FPLL_CTRL i, 31, 1⟩
def CLK_FPLL_CTRL_ref (i : Nat) : Field := ⟨R.CLK_FPLL_CTRL i, 28, 1⟩
def CLK_FPLL_CTRL_refdiv (i : Nat) : Field := ⟨R.CLK_FPLL_CTRL i, 0, 6⟩
def CLK_FPLL_FB_fb_int (i : Nat) : Field := ⟨R.CLK_FPLL_FB i, 16, 9⟩
def CLK_FPLL_FB_fb_frac (i : Nat) : Field := ⟨R.CLK_FPLL_FB i, 0, 16⟩
def CLK_FPLL_GCLK_lines (i : Nat) : Field := ⟨R.CLK_FPLL_GCLK i, 0, 16⟩
def CLK_FPLL_STATUS_last_status (i : Nat) : Field := ⟨R.CLK_FPLL_STATUS i, 16, 16⟩
def CLK_FPLL_STATUS_stable (i : Nat) : Field := ⟨R.CLK_FPLL_STATUS i, 8, 1⟩
def CLK_FPLL_STATUS_gclk_lost (i : Nat) : Field := ⟨R.CLK_FPLL_STATUS i, 0, 4⟩
def CLK_FPLL_OUT_en (i j : Nat) : Field := ⟨R.CLK_FPLL_OUT i j, 31, 1⟩
def CLK_FPLL_OUT_phase (i j : Nat) : Field := ⟨R.CLK_FPLL_OUT i j, 8, 7⟩
def CLK_FPLL_OUT_div (i j : Nat) : Field := ⟨R.CLK_FPLL_OUT i j, 0, 8⟩

def PIN_STATUS_last_status : Field := ⟨R.PIN_STATUS, 16, 16⟩
def PIN_APPLY_apply : Field := ⟨R.PIN_APPLY, 31, 1⟩
def PIN_APPLY_pin : Field := ⟨R.PIN_APPLY, 0, 9⟩
def PIN_BANK_vio_ok (i : Nat) : Field := ⟨R.PIN_BANK i, 31, 1⟩
def PIN_BANK_site (i : Nat) : Field := ⟨R.PIN_BANK i, 30, 1⟩
def PIN_BANK_vio_mv (i : Nat) : Field := ⟨R.PIN_BANK i, 0, 12⟩
def PIN_IN_level (i : Nat) : Field := ⟨R.PIN_IN i, 0, 24⟩
def PIN_OUT_data (i : Nat) : Field := ⟨R.PIN_OUT i, 0, 24⟩
def PIN_OUT_SET_data (i : Nat) : Field := ⟨R.PIN_OUT_SET i, 0, 24⟩
def PIN_OUT_CLR_data (i : Nat) : Field := ⟨R.PIN_OUT_CLR i, 0, 24⟩
def PIN_FUNC_holder_kind (i : Nat) : Field := ⟨R.PIN_FUNC i, 30, 2⟩
def PIN_FUNC_holder_ni (i : Nat) : Field := ⟨R.PIN_FUNC i, 16, 10⟩
def PIN_FUNC_func (i : Nat) : Field := ⟨R.PIN_FUNC i, 0, 4⟩
def PIN_ELEC_gpio_oe (i : Nat) : Field := ⟨R.PIN_ELEC i, 9, 1⟩
def PIN_ELEC_analog (i : Nat) : Field := ⟨R.PIN_ELEC i, 8, 1⟩
def PIN_ELEC_pull (i : Nat) : Field := ⟨R.PIN_ELEC i, 6, 2⟩
def PIN_ELEC_drive (i : Nat) : Field := ⟨R.PIN_ELEC i, 4, 2⟩
def PIN_ELEC_slow (i : Nat) : Field := ⟨R.PIN_ELEC i, 3, 1⟩
def PIN_ELEC_hyst (i : Nat) : Field := ⟨R.PIN_ELEC i, 2, 1⟩
def PIN_ELEC_thr (i : Nat) : Field := ⟨R.PIN_ELEC i, 0, 2⟩

end F


/-- The registers of block DEV. -/
def rowsDEV : List RegRow :=
  [⟨0x0, 1, 0x4000000, 1, 0x4000000, 0x9960031, 0x0, 0x0, 0x0, 0x0, 0x0, 0x0, 0x0, false⟩,
   ⟨0x4, 1, 0x4000000, 1, 0x4000000, 0x10, 0x0, 0x0, 0x0, 0x0, 0x0, 0x0, 0x0, false⟩,
   ⟨0x10, 1, 0x4000000, 1, 0x4000000, 0x1, 0x0, 0x0, 0x0, 0x0, 0x0, 0x0, 0x0, false⟩,
   ⟨0x14, 1, 0x4000000, 1, 0x4000000, 0x1, 0x0, 0x0, 0x0, 0x0, 0x0, 0x0, 0x0, false⟩,
   ⟨0x18, 1, 0x4000000, 1, 0x4000000, 0x0, 0x0, 0x0, 0x0, 0x0, 0x0, 0x0, 0x0, false⟩,
   ⟨0x20, 1, 0x4000000, 1, 0x4000000, 0x0, 0xFF00, 0x0, 0x0, 0xC0000000, 0x0, 0x0, 0x0, false⟩,
   ⟨0x24, 1, 0x4000000, 1, 0x4000000, 0x0, 0xFFFFFFFF, 0x0, 0x0, 0x0, 0x0, 0x0, 0x0, false⟩,
   ⟨0x28, 1, 0x4000000, 1, 0x4000000, 0x0, 0xFFFFFFFF, 0x0, 0x0, 0x0, 0x0, 0x0, 0x0, false⟩,
   ⟨0x2C, 1, 0x4000000, 1, 0x4000000, 0x0, 0x0, 0x0, 0x0, 0x0, 0x0, 0x0, 0x0, false⟩,
   ⟨0x30, 1, 0x4000000, 1, 0x4000000, 0x0, 0x0, 0x0, 0x0, 0x0, 0x0, 0x1, 0x0, false⟩,
   ⟨0x34, 1, 0x4000000, 1, 0x4000000, 0x7D0, 0x0, 0x0, 0x0, 0x80000000, 0x0, 0xFFFF, 0x0, false⟩,
   ⟨0x1000, 480, 0x4, 1, 0x4, 0x0, 0x0, 0x0, 0x0, 0xC0000000, 0x0, 0x0, 0x0, false⟩,
   ⟨0x320, 8, 0x8, 1, 0x8, 0x0, 0x0, 0x0, 0x0, 0x0, 0x0, 0x0, 0x0, false⟩,
   ⟨0x324, 8, 0x8, 1, 0x8, 0x0, 0x0, 0x0, 0x0, 0x0, 0x0, 0x0, 0x0, false⟩]

/-- The registers of block CFG. -/
def rowsCFG : List RegRow :=
  [⟨0x700000, 1, 0x4000000, 1, 0x4000000, 0x0, 0x0, 0x0, 0x0, 0x0, 0x0, 0x0, 0x0, false⟩,
   ⟨0x700010, 1, 0x4000000, 1, 0x4000000, 0x3, 0x7F0003, 0x0, 0x0, 0x80000000, 0x0, 0x0, 0x0, false⟩,
   ⟨0x700200, 1, 0x4000000, 1, 0x4000000, 0x0, 0x0, 0x0, 0x0, 0x0, 0x0, 0x0, 0x0, false⟩,
   ⟨0x700100, 2, 0x20, 1, 0x20, 0x0, 0x0, 0x0, 0x0, 0x0, 0x0, 0x0, 0x0, false⟩,
   ⟨0x700104, 2, 0x20, 1, 0x20, 0x0, 0x0, 0x0, 0x0, 0x0, 0x0, 0x0, 0x0, false⟩,
   ⟨0x700108, 2, 0x20, 1, 0x20, 0x0, 0x0, 0x0, 0x0, 0x0, 0xFFFFFFFF, 0x0, 0x0, false⟩,
   ⟨0x70010C, 2, 0x20, 1, 0x20, 0x0, 0x0, 0x0, 0x0, 0x0, 0xFFFFFFFF, 0x0, 0x0, false⟩,
   ⟨0x700110, 2, 0x20, 1, 0x20, 0x1E00, 0x0, 0x0, 0x0, 0x0, 0x0, 0x0, 0x0, false⟩,
   ⟨0x701000, 48, 0x40, 1, 0x40, 0x0, 0x0, 0x0, 0x0, 0x0, 0x0, 0x0, 0x0, false⟩,
   ⟨0x701004, 48, 0x40, 1, 0x40, 0x0, 0x171FF, 0x0, 0x0, 0xE0000000, 0x0, 0x0, 0x0, false⟩,
   ⟨0x701008, 48, 0x40, 1, 0x40, 0x0, 0xFFFFFFFF, 0x0, 0x0, 0x0, 0x0, 0x0, 0x0, false⟩,
   ⟨0x70100C, 48, 0x40, 1, 0x40, 0x0, 0x0, 0x0, 0x0, 0x0, 0xFFFFFFFF, 0x0, 0x0, false⟩,
   ⟨0x701010, 48, 0x40, 1, 0x40, 0x0, 0x0, 0x0, 0x0, 0x0, 0x0, 0x0, 0x0, false⟩,
   ⟨0x701020, 48, 0x40, 1, 0x40, 0x0, 0x100, 0xC0000000, 0x0, 0x0, 0x0, 0x0, 0x0, false⟩,
   ⟨0x701014, 48, 0x40, 1, 0x40, 0x0, 0x0, 0x0, 0x0, 0x0, 0x0, 0x0, 0x0, false⟩,
   ⟨0x701018, 48, 0x40, 1, 0x40, 0x0, 0x0, 0x0, 0x0, 0x0, 0x0, 0x0, 0x0, false⟩,
   ⟨0x70101C, 48, 0x40, 1, 0x40, 0x0, 0x0, 0x0, 0x0, 0x0, 0x0, 0x0, 0x0, false⟩,
   ⟨0x704000, 96, 0x10, 1, 0x10, 0x0, 0x0, 0x0, 0x0, 0x0, 0x0, 0x0, 0x0, false⟩,
   ⟨0x704004, 96, 0x10, 1, 0x10, 0x0, 0x0, 0x0, 0x0, 0x0, 0x0, 0x0, 0x0, false⟩,
   ⟨0x704008, 96, 0x10, 1, 0x10, 0x0, 0x0, 0x0, 0x0, 0x0, 0x0, 0x0, 0x0, false⟩,
   ⟨0x700320, 8, 0x8, 1, 0x8, 0x0, 0x0, 0x0, 0x0, 0x0, 0x0, 0x0, 0x0, false⟩,
   ⟨0x700324, 8, 0x8, 1, 0x8, 0x0, 0x0, 0x0, 0x0, 0x0, 0x0, 0x0, 0x0, false⟩,
   ⟨0x700300, 8, 0x4, 1, 0x4, 0x0, 0x0, 0x0, 0x0, 0xC0000000, 0x0, 0x0, 0x0, false⟩]

/-- The registers of block ENG. -/
def rowsENG : List RegRow :=
  [⟨0x1000000, 1024, 0x1000, 1, 0x1000, 0x0, 0x0, 0x0, 0x0, 0x0, 0x0, 0x0, 0x0, false⟩,
   ⟨0x1000004, 1024, 0x1000, 1, 0x1000, 0x1, 0x0, 0x0, 0x0, 0x0, 0x0, 0x0, 0x0, false⟩,
   ⟨0x1000008, 1024, 0x1000, 1, 0x1000, 0x0, 0x301, 0x0, 0x0, 0xF0000000, 0x0, 0x0, 0x0, false⟩,
   ⟨0x100000C, 1024, 0x1000, 1, 0x1000, 0x0, 0x0, 0x0, 0x0, 0x0, 0x0, 0x0, 0x80001FFF, false⟩,
   ⟨0x1000010, 1024, 0x1000, 1, 0x1000, 0x0, 0x0, 0x0, 0x0, 0x1, 0x0, 0x0, 0x0, false⟩,
   ⟨0x1000014, 1024, 0x1000, 1, 0x1000, 0x0, 0x1FFF1FFF, 0x0, 0x0, 0x0, 0x0, 0x0, 0x0, false⟩,
   ⟨0x1000018, 1024, 0x1000, 1, 0x1000, 0x0, 0x0, 0x0, 0x0, 0x0, 0xFF001FFF, 0x0, 0x0, false⟩,
   ⟨0x1000024, 1024, 0x1000, 1, 0x1000, 0x0, 0x800FFFFF, 0x0, 0x0, 0x40000000, 0x0, 0x0, 0x0, false⟩,
   ⟨0x1000028, 1024, 0x1000, 1, 0x1000, 0x0, 0x0, 0x0, 0x0, 0x0, 0x0, 0x0, 0x0, false⟩,
   ⟨0x100002C, 1024, 0x1000, 1, 0x1000, 0x0, 0x0, 0x0, 0x0, 0x0, 0x0, 0x8000000F, 0x0, false⟩,
   ⟨0x1000030, 1024, 0x1000, 1, 0x1000, 0x0, 0x0, 0x0, 0x0, 0x0, 0xFFFFFFFF, 0x0, 0x0, false⟩,
   ⟨0x1000040, 1024, 0x1000, 1, 0x1000, 0x0, 0x3F3FFF, 0x0, 0x0, 0x0, 0x0, 0x0, 0x0, false⟩,
   ⟨0x1000044, 1024, 0x1000, 1, 0x1000, 0x0, 0x0, 0x0, 0x0, 0x0, 0x0, 0x0, 0x0, false⟩,
   ⟨0x1000048, 1024, 0x1000, 1, 0x1000, 0x0, 0x0, 0x0, 0x0, 0x3F, 0x0, 0x0, 0x0, false⟩,
   ⟨0x100001C, 1024, 0x1000, 1, 0x1000, 0x0, 0x0, 0xFFFF, 0x0, 0x0, 0x0, 0x0, 0x0, false⟩,
   ⟨0x1000020, 1024, 0x1000, 1, 0x1000, 0x0, 0xFFFF, 0x0, 0x0, 0x0, 0x0, 0x0, 0x0, false⟩,
   ⟨0x1000320, 1024, 0x1000, 8, 0x8, 0x0, 0x0, 0x0, 0x0, 0x0, 0x0, 0x0, 0x0, false⟩,
   ⟨0x1000324, 1024, 0x1000, 8, 0x8, 0x0, 0x0, 0x0, 0x0, 0x0, 0x0, 0x0, 0x0, false⟩,
   ⟨0x1000300, 1024, 0x1000, 8, 0x4, 0x0, 0x0, 0x0, 0x0, 0xC0000000, 0x0, 0x0, 0x0, false⟩]

/-- The registers of block NOC. -/
def rowsNOC : List RegRow :=
  [⟨0x200000, 1, 0x4000000, 1, 0x4000000, 0x0, 0x0, 0x0, 0x0, 0x0, 0x0, 0x0, 0x0, false⟩,
   ⟨0x200008, 1, 0x4000000, 1, 0x4000000, 0x3E8, 0xFFFF, 0x0, 0x0, 0x0, 0x0, 0x0, 0x0, false⟩,
   ⟨0x200010, 1, 0x4000000, 1, 0x4000000, 0x0, 0x3FF, 0x0, 0x0, 0x0, 0x0, 0x0, 0x0, true⟩,
   ⟨0x210000, 4096, 0x10, 1, 0x10, 0x0, 0x83FFFFFF, 0x0, 0x0, 0x0, 0x0, 0x0, 0x0, false⟩,
   ⟨0x210004, 4096, 0x10, 1, 0x10, 0x0, 0x3FFFFFFF, 0x0, 0x0, 0x0, 0x0, 0x0, 0x0, false⟩,
   ⟨0x210008, 4096, 0x10, 1, 0x10, 0x0, 0x3FFFFFFF, 0x0, 0x0, 0x0, 0x0, 0x0, 0x0, false⟩,
   ⟨0x21000C, 4096, 0x10, 1, 0x10, 0x0, 0xFFF, 0x0, 0x0, 0x0, 0x0, 0x0, 0x0, false⟩,
   ⟨0x220000, 768, 0x4, 1, 0x4, 0x0, 0x0, 0x0, 0x0, 0x0, 0x0, 0x0, 0x0, false⟩,
   ⟨0x221000, 320, 0x4, 1, 0x4, 0x0, 0x0, 0x0, 0x0, 0x0, 0x0, 0x0, 0x0, false⟩,
   ⟨0x230000, 768, 0x4, 1, 0x4, 0x400, 0xFFFF, 0x40000000, 0x0, 0x20000000, 0xFF0000, 0x0, 0x0, false⟩,
   ⟨0x231000, 768, 0x4, 1, 0x4, 0x0, 0x0, 0x0, 0x0, 0x0, 0xFFFFFFFF, 0x0, 0x0, false⟩,
   ⟨0x240000, 768, 0x10, 1, 0x10, 0x0, 0x0, 0x0, 0x0, 0x0, 0xFFFFFFFF, 0x0, 0x0, false⟩,
   ⟨0x240004, 768, 0x10, 1, 0x10, 0x0, 0x0, 0x0, 0x0, 0x0, 0xFFFFFFFF, 0x0, 0x0, false⟩]

/-- The registers of block QE. -/
def rowsQE : List RegRow :=
  [⟨0x180000, 1, 0x4000000, 1, 0x4000000, 0x0, 0x0, 0x0, 0x0, 0x0, 0x0, 0x0, 0x0, false⟩,
   ⟨0x180004, 1, 0x4000000, 1, 0x4000000, 0x0, 0x1, 0x0, 0x0, 0x0, 0x0, 0x0, 0x0, false⟩,
   ⟨0x180038, 1, 0x4000000, 1, 0x4000000, 0x0, 0xFFFFFFFF, 0x0, 0x0, 0x0, 0x0, 0x0, 0x0, false⟩,
   ⟨0x18003C, 1, 0x4000000, 1, 0x4000000, 0x0, 0x0, 0x0, 0x0, 0x0, 0x0, 0x0, 0x0, false⟩,
   ⟨0x180040, 1, 0x4000000, 1, 0x4000000, 0x14, 0xFFFF, 0x0, 0x0, 0x0, 0x0, 0x0, 0x0, false⟩,
   ⟨0x180044, 1, 0x4000000, 1, 0x4000000, 0x0, 0x0, 0x0, 0x0, 0x0, 0xFFFFFFFF, 0x0, 0x0, false⟩,
   ⟨0x180060, 1, 0x4000000, 1, 0x4000000, 0x0, 0x0, 0x0, 0x0, 0x0, 0xFFFFFFFF, 0x0, 0x0, false⟩,
   ⟨0x180064, 1, 0x4000000, 1, 0x4000000, 0x0, 0x0, 0x0, 0x0, 0x0, 0x0, 0x0, 0x0, false⟩,
   ⟨0x180068, 1, 0x4000000, 1, 0x4000000, 0x0, 0x0, 0x0, 0x0, 0x0, 0x0, 0x0, 0x0, false⟩,
   ⟨0x180010, 1, 0x4000000, 1, 0x4000000, 0x0, 0xFFFFFFFF, 0x0, 0x0, 0x0, 0x0, 0x0, 0x0, false⟩,
   ⟨0x180014, 1, 0x4000000, 1, 0x4000000, 0x0, 0xFFFFFFFF, 0x0, 0x0, 0x0, 0x0, 0x0, 0x0, false⟩,
   ⟨0x180018, 1, 0x4000000, 1, 0x4000000, 0x0, 0xFFFFFFFF, 0x0, 0x0, 0x0, 0x0, 0x0, 0x0, false⟩,
   ⟨0x18001C, 1, 0x4000000, 1, 0x4000000, 0x0, 0xFFFFFFFF, 0x0, 0x0, 0x0, 0x0, 0x0, 0x0, false⟩,
   ⟨0x180020, 1, 0x4000000, 1, 0x4000000, 0x0, 0xFFFFFFFF, 0x0, 0x0, 0x0, 0x0, 0x0, 0x0, false⟩,
   ⟨0x180024, 1, 0x4000000, 1, 0x4000000, 0x0, 0xFFFFFFFF, 0x0, 0x0, 0x0, 0x0, 0x0, 0x0, false⟩,
   ⟨0x180028, 1, 0x4000000, 1, 0x4000000, 0x0, 0xFFFFFFFF, 0x0, 0x0, 0x0, 0x0, 0x0, 0x0, false⟩,
   ⟨0x18002C, 1, 0x4000000, 1, 0x4000000, 0x0, 0xFFFFFFFF, 0x0, 0x0, 0x0, 0x0, 0x0, 0x0, false⟩,
   ⟨0x180030, 1, 0x4000000, 1, 0x4000000, 0x0, 0x0, 0x0, 0x0, 0x0, 0x0, 0x0, 0x0, false⟩,
   ⟨0x180034, 1, 0x4000000, 1, 0x4000000, 0x0, 0x0, 0x0, 0x0, 0x0, 0x0, 0x0, 0x0, false⟩,
   ⟨0x180050, 3, 0x4, 1, 0x4, 0x0, 0x0, 0x0, 0x0, 0x0, 0xFFFFFFFF, 0x0, 0x0, false⟩,
   ⟨0x180200, 1, 0x4000000, 1, 0x4000000, 0x0, 0xFFFFFFF, 0x0, 0x0, 0x0, 0x0, 0x0, 0x0, true⟩,
   ⟨0x180204, 1, 0x4000000, 1, 0x4000000, 0x0, 0x0, 0x0, 0x0, 0x7, 0x0, 0x0, 0x0, true⟩,
   ⟨0x180210, 8, 0x4, 1, 0x4, 0x0, 0xFFFFFFFF, 0x0, 0x0, 0x0, 0x0, 0x0, 0x0, true⟩,
   ⟨0x181000, 32, 0x8, 1, 0x8, 0x0, 0x800FFFFF, 0x0, 0x0, 0x0, 0x0, 0x0, 0x0, false⟩,
   ⟨0x181004, 32, 0x8, 1, 0x8, 0x200, 0xFFFF, 0x0, 0x0, 0x0, 0x0, 0x0, 0x0, false⟩,
   ⟨0x1C0000, 32, 0x400, 256, 0x4, 0x0, 0x800007FF, 0x0, 0x0, 0x0, 0x0, 0x0, 0x0, false⟩]

/-- The registers of block TIM. -/
def rowsTIM : List RegRow :=
  [⟨0x100000, 1, 0x4000000, 1, 0x4000000, 0x0, 0x0, 0x0, 0x0, 0x0, 0x0, 0x0, 0x0, false⟩,
   ⟨0x100004, 1, 0x4000000, 1, 0x4000000, 0x0, 0x17302, 0x0, 0x0, 0x80000000, 0x0, 0x0, 0x1, false⟩,
   ⟨0x100008, 1, 0x4000000, 1, 0x4000000, 0x0, 0xFFFFFFFF, 0x0, 0x0, 0x0, 0x0, 0x0, 0x0, false⟩,
   ⟨0x10000C, 1, 0x4000000, 1, 0x4000000, 0xA, 0xFFFFF, 0x0, 0x0, 0x0, 0x0, 0x0, 0x0, false⟩,
   ⟨0x100018, 1, 0x4000000, 1, 0x4000000, 0x0, 0x0, 0x0, 0x0, 0x0, 0x0, 0x0, 0x0, false⟩,
   ⟨0x100028, 1, 0x4000000, 1, 0x4000000, 0x0, 0x0, 0x0, 0x0, 0x0, 0x0, 0x0, 0x0, false⟩,
   ⟨0x100030, 1, 0x4000000, 1, 0x4000000, 0x0, 0x3FFF, 0x0, 0x0, 0x0, 0x0, 0x0, 0x0, false⟩,
   ⟨0x100034, 1, 0x4000000, 1, 0x4000000, 0x44C, 0xFFFFFFFF, 0x0, 0x0, 0x0, 0x0, 0x0, 0x0, false⟩,
   ⟨0x100040, 1, 0x4000000, 1, 0x4000000, 0x0, 0x0, 0x0, 0x0, 0x0, 0x0, 0x0, 0x0, false⟩,
   ⟨0x100044, 1, 0x4000000, 1, 0x4000000, 0x0, 0x3, 0x0, 0x0, 0x0, 0x0, 0x0, 0x0, false⟩,
   ⟨0x100048, 1, 0x4000000, 1, 0x4000000, 0x640000, 0xFFFFFFFF, 0x0, 0x0, 0x0, 0x0, 0x0, 0x0, false⟩,
   ⟨0x100050, 1, 0x4000000, 1, 0x4000000, 0x20000064, 0x830FFFFF, 0x0, 0x0, 0x0, 0x0, 0x0, 0x0, false⟩,
   ⟨0x100054, 1, 0x4000000, 1, 0x4000000, 0x0, 0xFFFFFFFF, 0x0, 0x0, 0x0, 0x0, 0x0, 0x0, false⟩,
   ⟨0x100058, 1, 0x4000000, 1, 0x4000000, 0x0, 0xFFFFFFFF, 0x0, 0x0, 0x0, 0x0, 0x0, 0x0, false⟩,
   ⟨0x100400, 1, 0x4000000, 1, 0x4000000, 0x0, 0x1, 0x0, 0x0, 0x0, 0x0, 0x0, 0x0, false⟩,
   ⟨0x100404, 1, 0x4000000, 1, 0x4000000, 0x0, 0x0, 0x0, 0x0, 0x0, 0x0, 0x0, 0x0, false⟩,
   ⟨0x100408, 1, 0x4000000, 1, 0x4000000, 0x1000051F, 0xFFFFFFFF, 0x0, 0x0, 0x0, 0x0, 0x0, 0x0, false⟩,
   ⟨0x100010, 1, 0x4000000, 1, 0x4000000, 0x0, 0x0, 0x0, 0x0, 0x0, 0x0, 0x0, 0x0, false⟩,
   ⟨0x100014, 1, 0x4000000, 1, 0x4000000, 0x0, 0x0, 0x0, 0x0, 0x0, 0x0, 0x0, 0x0, false⟩,
   ⟨0x100020, 1, 0x4000000, 1, 0x4000000, 0x0, 0x0, 0x0, 0x0, 0x0, 0x0, 0x0, 0x0, false⟩,
   ⟨0x100024, 1, 0x4000000, 1, 0x4000000, 0x0, 0x0, 0x0, 0x0, 0x0, 0x0, 0x0, 0x0, false⟩,
   ⟨0x100100, 2, 0x100, 1, 0x100, 0x0, 0xFFE00000, 0x0, 0x0, 0x0, 0x0, 0x0, 0x0, false⟩,
   ⟨0x100104, 2, 0x100, 1, 0x100, 0x0, 0x0, 0x0, 0x0, 0x0, 0x0, 0x0, 0x0, false⟩,
   ⟨0x100108, 2, 0x100, 1, 0x100, 0x10000000, 0xFFFFFFFF, 0x0, 0x0, 0x0, 0x0, 0x0, 0x0, false⟩,
   ⟨0x10010C, 2, 0x100, 1, 0x100, 0x0, 0xFFFF, 0x0, 0x0, 0x0, 0x0, 0x0, 0x0, false⟩,
   ⟨0x100118, 2, 0x100, 1, 0x100, 0x3E8, 0x1F0FFFFF, 0x0, 0x0, 0xC0000000, 0x0, 0x0, 0x0, false⟩,
   ⟨0x10011C, 2, 0x100, 1, 0x100, 0x0, 0x0, 0x0, 0x0, 0x0, 0x0, 0x0, 0x0, false⟩,
   ⟨0x100154, 2, 0x100, 1, 0x100, 0x0, 0xFFFFFFFF, 0x0, 0x0, 0x0, 0x0, 0x0, 0x0, false⟩,
   ⟨0x10012C, 2, 0x100, 1, 0x100, 0xFFFFFFFF, 0x0, 0x0, 0x0, 0x0, 0x0, 0x0, 0x0, false⟩,
   ⟨0x100130, 2, 0x100, 1, 0x100, 0x0, 0x0, 0x0, 0x0, 0x0, 0x0, 0x0, 0x0, false⟩,
   ⟨0x100134, 2, 0x100, 1, 0x100, 0x10000000, 0x0, 0x0, 0x0, 0xC0000000, 0x0, 0x0, 0x0, false⟩,
   ⟨0x100138, 2, 0x100, 1, 0x100, 0x3E80, 0xFFFFF, 0x0, 0x0, 0x80000000, 0x0, 0x0, 0x0, false⟩,
   ⟨0x10013C, 2, 0x100, 1, 0x100, 0x3E8320A, 0xFFFFFFFF, 0x0, 0x0, 0x0, 0x0, 0x0, 0x0, false⟩,
   ⟨0x100148, 2, 0x100, 1, 0x100, 0x0, 0x0, 0x0, 0x0, 0x0, 0x0, 0x0, 0x0, false⟩,
   ⟨0x100158, 2, 0x100, 1, 0x100, 0x0, 0x0, 0x0, 0x0, 0x0, 0x0, 0x0, 0x0, false⟩,
   ⟨0x100128, 2, 0x100, 1, 0x100, 0x0, 0x0, 0x0, 0x0, 0x0, 0x0, 0x0, 0x0, false⟩,
   ⟨0x100110, 2, 0x100, 1, 0x100, 0x0, 0xFFFFFFFF, 0x0, 0x0, 0x0, 0x0, 0x0, 0x0, false⟩,
   ⟨0x100114, 2, 0x100, 1, 0x100, 0x0, 0xFFFFFFFF, 0x0, 0x0, 0x0, 0x0, 0x0, 0x0, false⟩,
   ⟨0x100120, 2, 0x100, 1, 0x100, 0x0, 0x0, 0x0, 0x0, 0x0, 0x0, 0x0, 0x0, false⟩,
   ⟨0x100124, 2, 0x100, 1, 0x100, 0x0, 0x0, 0x0, 0x0, 0x0, 0x0, 0x0, 0x0, false⟩,
   ⟨0x100140, 2, 0x100, 1, 0x100, 0x0, 0x0, 0x0, 0x0, 0x0, 0x0, 0x0, 0x0, false⟩,
   ⟨0x100144, 2, 0x100, 1, 0x100, 0x0, 0x0, 0x0, 0x0, 0x0, 0x0, 0x0, 0x0, false⟩,
   ⟨0x10014C, 2, 0x100, 1, 0x100, 0x0, 0xFFFFFFFF, 0x0, 0x0, 0x0, 0x0, 0x0, 0x0, false⟩,
   ⟨0x100150, 2, 0x100, 1, 0x100, 0x0, 0xFFFFFFFF, 0x0, 0x0, 0x0, 0x0, 0x0, 0x0, false⟩,
   ⟨0x100410, 4, 0x8, 1, 0x8, 0x0, 0x0, 0x0, 0x0, 0x0, 0x0, 0x0, 0x0, false⟩,
   ⟨0x100414, 4, 0x8, 1, 0x8, 0x0, 0x0, 0x0, 0x0, 0x0, 0x0, 0x0, 0x0, false⟩,
   ⟨0x100800, 32, 0x20, 1, 0x20, 0x0, 0x7FFF8F0, 0x0, 0x0, 0xC0000000, 0x0, 0x0, 0x0, false⟩,
   ⟨0x100804, 32, 0x20, 1, 0x20, 0x0, 0xFFFFFFFF, 0x0, 0x0, 0x0, 0x0, 0x0, 0x0, false⟩,
   ⟨0x100808, 32, 0x20, 1, 0x20, 0x0, 0xFFFFFFFF, 0x0, 0x0, 0x0, 0x0, 0x0, 0x0, false⟩,
   ⟨0x10080C, 32, 0x20, 1, 0x20, 0x0, 0x0, 0x0, 0x0, 0x0, 0xFFFF, 0x0, 0x0, false⟩,
   ⟨0x100320, 8, 0x8, 1, 0x8, 0x0, 0x0, 0x0, 0x0, 0x0, 0x0, 0x0, 0x0, false⟩,
   ⟨0x100324, 8, 0x8, 1, 0x8, 0x0, 0x0, 0x0, 0x0, 0x0, 0x0, 0x0, 0x0, false⟩,
   ⟨0x100300, 8, 0x4, 1, 0x4, 0x0, 0x0, 0x0, 0x0, 0xC0000000, 0x0, 0x0, 0x0, false⟩]

/-- The registers of block TXU. -/
def rowsTXU : List RegRow :=
  [⟨0x140000, 1, 0x4000000, 1, 0x4000000, 0x0, 0x0, 0x0, 0x0, 0x0, 0x0, 0x0, 0x0, false⟩,
   ⟨0x140004, 1, 0x4000000, 1, 0x4000000, 0x14, 0x8000FFFF, 0x0, 0x0, 0x0, 0x0, 0x0, 0x0, false⟩,
   ⟨0x140010, 1, 0x4000000, 1, 0x4000000, 0x0, 0x0, 0x0, 0x0, 0xF8FFFFFF, 0x0, 0x0, 0x0, true⟩,
   ⟨0x140014, 1, 0x4000000, 1, 0x4000000, 0x0, 0xFFFFFFFF, 0x0, 0x0, 0x0, 0x0, 0x0, 0x0, true⟩,
   ⟨0x140018, 1, 0x4000000, 1, 0x4000000, 0x0, 0x0, 0x0, 0x0, 0x0, 0x0, 0x0, 0x0, true⟩,
   ⟨0x14001C, 1, 0x4000000, 1, 0x4000000, 0x0, 0x3FFF, 0x0, 0x0, 0x0, 0x0, 0x0, 0x0, true⟩,
   ⟨0x140028, 1, 0x4000000, 1, 0x4000000, 0x0, 0x0, 0x0, 0x0, 0xFFFFFFFF, 0x0, 0x0, 0x0, true⟩,
   ⟨0x140020, 1, 0x4000000, 1, 0x4000000, 0x0, 0xFFFFFFFF, 0x0, 0x0, 0x0, 0x0, 0x0, 0x0, true⟩,
   ⟨0x140024, 1, 0x4000000, 1, 0x4000000, 0x0, 0xFFFFFFFF, 0x0, 0x0, 0x0, 0x0, 0x0, 0x0, true⟩,
   ⟨0x140040, 1, 0x4000000, 1, 0x4000000, 0x0, 0x0, 0x0, 0x0, 0x0, 0xFFFFFFFF, 0x0, 0x0, false⟩,
   ⟨0x140044, 1, 0x4000000, 1, 0x4000000, 0x0, 0x0, 0x0, 0x0, 0x0, 0xFFFFFFFF, 0x0, 0x0, false⟩,
   ⟨0x141000, 256, 0x10, 1, 0x10, 0x0, 0x0, 0x0, 0x0, 0x0, 0x0, 0x0, 0x0, false⟩,
   ⟨0x141004, 256, 0x10, 1, 0x10, 0x0, 0x0, 0x0, 0x0, 0x0, 0x0, 0x0, 0x0, false⟩,
   ⟨0x141008, 256, 0x10, 1, 0x10, 0x0, 0x0, 0x0, 0x0, 0x0, 0x0, 0x0, 0x0, false⟩,
   ⟨0x14100C, 256, 0x10, 1, 0x10, 0x0, 0x0, 0x0, 0x0, 0x0, 0x0, 0x0, 0x0, false⟩]

/-- The registers of block CVL. -/
def rowsCVL : List RegRow :=
  [⟨0x500320, 8, 0x8000, 8, 0x8, 0x0, 0x0, 0x0, 0x0, 0x0, 0x0, 0x0, 0x0, false⟩,
   ⟨0x500324, 8, 0x8000, 8, 0x8, 0x0, 0x0, 0x0, 0x0, 0x0, 0x0, 0x0, 0x0, false⟩,
   ⟨0x500300, 8, 0x8000, 8, 0x4, 0x0, 0x0, 0x0, 0x0, 0xC0000000, 0x0, 0x0, 0x0, false⟩,
   ⟨0x500000, 64, 0x1000, 1, 0x1000, 0x0, 0xF8000000, 0x0, 0x0, 0x0, 0x0, 0x0, 0x0, false⟩,
   ⟨0x500004, 64, 0x1000, 1, 0x1000, 0xFF00, 0x0, 0x0, 0x0, 0x0, 0x0, 0x0, 0x0, false⟩,
   ⟨0x500008, 64, 0x1000, 1, 0x1000, 0x300800, 0x3F1F1F, 0x0, 0x0, 0x0, 0x0, 0x0, 0x0, false⟩,
   ⟨0x50000C, 64, 0x1000, 1, 0x1000, 0x80000000, 0x8000000F, 0x0, 0x0, 0x0, 0x0, 0x0, 0x0, false⟩,
   ⟨0x500010, 64, 0x1000, 1, 0x1000, 0x0, 0x0, 0x0, 0x0, 0x0, 0xFFFFFFFF, 0x0, 0x0, false⟩,
   ⟨0x500020, 64, 0x1000, 1, 0x1000, 0x0, 0x20FCF8F8, 0x0, 0xC0000000, 0x0, 0x0, 0x0, 0x0, false⟩,
   ⟨0x500024, 64, 0x1000, 1, 0x1000, 0x0, 0x0, 0x0, 0x0, 0x0, 0x7FFFFFFF, 0x0, 0x0, false⟩,
   ⟨0x500030, 64, 0x1000, 1, 0x1000, 0x0, 0xFFF7F00, 0x0, 0x0, 0x80000000, 0x0, 0x0, 0x0, false⟩,
   ⟨0x500034, 64, 0x1000, 1, 0x1000, 0x0, 0x0, 0x0, 0x0, 0x0, 0x0, 0x0, 0x0, false⟩,
   ⟨0x500800, 8, 0x8000, 1, 0x8000, 0x0, 0x800000FF, 0x0, 0x0, 0x0, 0x0, 0x0, 0x0, false⟩,
   ⟨0x500804, 8, 0x8000, 1, 0x8000, 0x0, 0x0, 0x0, 0x0, 0x0, 0x0, 0x0, 0x0, false⟩,
   ⟨0x500808, 8, 0x8000, 1, 0x8000, 0x0, 0xEFFFFFFF, 0x10000000, 0x0, 0x0, 0x0, 0x0, 0x0, false⟩,
   ⟨0x50080C, 8, 0x8000, 1, 0x8000, 0x0, 0x200000F7, 0x0, 0x0, 0xC0000000, 0x0, 0x0, 0x0, false⟩,
   ⟨0x500810, 8, 0x8000, 1, 0x8000, 0x0, 0xFFFFFFFF, 0x0, 0x0, 0x0, 0x0, 0x0, 0x0, false⟩,
   ⟨0x500814, 8, 0x8000, 1, 0x8000, 0x0, 0x0, 0x0, 0x0, 0x0, 0x0, 0x0, 0x0, false⟩,
   ⟨0x500818, 8, 0x8000, 1, 0x8000, 0x0, 0x0, 0x0, 0x0, 0x0, 0x0, 0x0, 0x0, false⟩,
   ⟨0x50081C, 8, 0x8000, 1, 0x8000, 0x0, 0x0, 0x0, 0x0, 0x0, 0x0, 0x0, 0x0, false⟩,
   ⟨0x500820, 8, 0x8000, 1, 0x8000, 0x0, 0x0, 0x0, 0x0, 0x0, 0x0, 0x0, 0x0, false⟩,
   ⟨0x500900, 8, 0x8000, 8, 0x40, 0x0, 0x0, 0x0, 0x0, 0x0, 0x0, 0x0, 0xFFFFFFFE, false⟩,
   ⟨0x500904, 8, 0x8000, 8, 0x40, 0x801, 0x0, 0x0, 0x0, 0x0, 0x0, 0x0, 0xFF80FF1F, false⟩,
   ⟨0x500908, 8, 0x8000, 8, 0x40, 0x0, 0x0, 0x0, 0x0, 0x0, 0x0, 0x0, 0xFFFFFF80, false⟩,
   ⟨0x50090C, 8, 0x8000, 8, 0x40, 0x0, 0x0, 0x0, 0x0, 0x60000000, 0x0, 0x0, 0x80000000, false⟩,
   ⟨0x500910, 8, 0x8000, 8, 0x40, 0x0, 0x0, 0x1000, 0x0, 0x0, 0x0, 0x0, 0x0, false⟩,
   ⟨0x500914, 8, 0x8000, 8, 0x40, 0x0, 0x0, 0x0, 0x0, 0x0, 0xFFFFFFFF, 0x0, 0x0, false⟩,
   ⟨0x500918, 8, 0x8000, 8, 0x40, 0x0, 0x0, 0x0, 0x0, 0x0, 0xFFFFFFFF, 0x0, 0x0, false⟩]

/-- The registers of block NTL. -/
def rowsNTL : List RegRow :=
  [⟨0x600000, 1, 0x4000000, 1, 0x4000000, 0x0, 0x9FFFFFFF, 0x0, 0x0, 0x0, 0x0, 0x0, 0x0, false⟩,
   ⟨0x600010, 2, 0x4, 1, 0x4, 0x0, 0x80001F3F, 0x0, 0x0, 0x0, 0x0, 0x0, 0x0, false⟩,
   ⟨0x601000, 8, 0x1000, 1, 0x1000, 0x2400, 0xFC003FFF, 0x0, 0x0, 0x0, 0x0, 0x0, 0x0, false⟩,
   ⟨0x601004, 8, 0x1000, 1, 0x1000, 0x0, 0x0, 0x0, 0x0, 0x0, 0x0, 0x0, 0x0, false⟩,
   ⟨0x601020, 8, 0x1000, 1, 0x1000, 0x0, 0xC03FFE00, 0x0, 0x0, 0x0, 0x0, 0x0, 0x0, false⟩,
   ⟨0x601024, 8, 0x1000, 1, 0x1000, 0x0, 0xFFFFFFFF, 0x0, 0x0, 0x0, 0x0, 0x0, 0x0, false⟩,
   ⟨0x601030, 8, 0x1000, 1, 0x1000, 0x0, 0x0, 0x0, 0x0, 0x0, 0xFFFFFFFF, 0x0, 0x0, false⟩,
   ⟨0x601034, 8, 0x1000, 1, 0x1000, 0x0, 0x0, 0x0, 0x0, 0x0, 0x0, 0x0, 0x0, false⟩,
   ⟨0x601038, 8, 0x1000, 1, 0x1000, 0x0, 0x0, 0x0, 0x0, 0x0, 0x0, 0x0, 0x0, false⟩,
   ⟨0x601008, 8, 0x1000, 4, 0x4, 0x0, 0x7FFFFF, 0x0, 0x0, 0x0, 0x0, 0x0, 0x0, false⟩,
   ⟨0x601040, 8, 0x1000, 4, 0x8, 0x0, 0x0, 0x0, 0x0, 0x0, 0xFFFFFFFF, 0x0, 0x0, false⟩,
   ⟨0x601044, 8, 0x1000, 4, 0x8, 0x0, 0x0, 0x0, 0x0, 0x0, 0xFFFFFFFF, 0x0, 0x0, false⟩,
   ⟨0x601060, 8, 0x1000, 4, 0x4, 0x0, 0x0, 0x0, 0x0, 0x0, 0xFFFFFFFF, 0x0, 0x0, false⟩,
   ⟨0x610000, 32, 0x100, 1, 0x100, 0x300800, 0x3F1F1F, 0x0, 0x0, 0x0, 0x0, 0x0, 0x0, false⟩,
   ⟨0x610004, 32, 0x100, 1, 0x100, 0x80000000, 0x8000000F, 0x0, 0x0, 0x0, 0x0, 0x0, 0x0, false⟩,
   ⟨0x610010, 32, 0x100, 8, 0x4, 0x0, 0x0, 0x0, 0x0, 0x0, 0x0, 0x0, 0x0, false⟩]

/-- The registers of block MC. -/
def rowsMC : List RegRow :=
  [⟨0x300000, 8, 0x10000, 1, 0x10000, 0x0, 0x0, 0x0, 0x0, 0x0, 0x0, 0x0, 0x0, false⟩,
   ⟨0x300004, 8, 0x10000, 1, 0x10000, 0x2, 0x3, 0x0, 0x0, 0x0, 0x0, 0x0, 0x0, false⟩,
   ⟨0x300010, 8, 0x10000, 1, 0x10000, 0xA0840, 0xFFFFFF, 0x0, 0x0, 0x80000000, 0x0, 0x0, 0x0, false⟩,
   ⟨0x300020, 8, 0x10000, 1, 0x10000, 0x400, 0xFFFF, 0x0, 0x0, 0x0, 0x0, 0x0, 0x0, false⟩,
   ⟨0x300024, 8, 0x10000, 1, 0x10000, 0x0, 0x0, 0x0, 0x0, 0x0, 0xFFFFFFFF, 0x0, 0x0, false⟩,
   ⟨0x300030, 8, 0x10000, 1, 0x10000, 0x0, 0x0, 0x0, 0x0, 0x0, 0xFFFFFFFF, 0x0, 0x0, false⟩,
   ⟨0x300040, 8, 0x10000, 1, 0x10000, 0x0, 0x0, 0x0, 0x0, 0x0, 0xFFFFFFFF, 0x0, 0x0, false⟩,
   ⟨0x300050, 8, 0x10000, 1, 0x10000, 0xFA0, 0x700FFFF, 0x0, 0x0, 0x80000000, 0x0, 0x0, 0x0, false⟩,
   ⟨0x300034, 8, 0x10000, 1, 0x10000, 0x0, 0x0, 0x80000000, 0x0, 0x0, 0x0, 0x0, 0x0, false⟩,
   ⟨0x300038, 8, 0x10000, 1, 0x10000, 0x0, 0x0, 0x80000000, 0x0, 0x0, 0x0, 0x0, 0x0, false⟩,
   ⟨0x300100, 8, 0x10000, 16, 0x4, 0x0, 0x0, 0x0, 0x0, 0x0, 0xFFFFFFF, 0x0, 0x0, false⟩,
   ⟨0x308000, 1, 0x4000000, 1, 0x4000000, 0x0, 0x0, 0x0, 0x0, 0x0, 0x0, 0x0, 0x0, false⟩,
   ⟨0x308010, 8, 0x4, 1, 0x4, 0x0, 0xF0000FFF, 0x0, 0x0, 0x0, 0x0, 0x0, 0x0, false⟩,
   ⟨0x308040, 9, 0x4, 1, 0x4, 0x0, 0xFFFFFFFF, 0x0, 0x0, 0x0, 0x0, 0x0, 0x0, false⟩]

/-- The registers of block MP. -/
def rowsMP : List RegRow :=
  [⟨0x380000, 1, 0x4000000, 1, 0x4000000, 0x0, 0x0, 0x0, 0x0, 0x0, 0x0, 0x0, 0x0, false⟩,
   ⟨0x380004, 1, 0x4000000, 1, 0x4000000, 0x0, 0xF000000, 0x0, 0x0, 0x0, 0x0, 0x0, 0x0, false⟩,
   ⟨0x380010, 1, 0x4000000, 1, 0x4000000, 0x7D0, 0x5F00FFFF, 0x0, 0x0, 0x80000000, 0x0, 0x0, 0x0, false⟩,
   ⟨0x380040, 1, 0x4000000, 1, 0x4000000, 0x0, 0x0, 0x0, 0x0, 0x0, 0x0, 0x0, 0x0, false⟩,
   ⟨0x380044, 1, 0x4000000, 1, 0x4000000, 0x80180004, 0x80FF00FF, 0x0, 0x0, 0x0, 0x0, 0x0, 0x0, false⟩,
   ⟨0x380080, 1, 0x4000000, 1, 0x4000000, 0x18, 0xFF, 0x0, 0x0, 0x0, 0x0, 0x0, 0x0, false⟩,
   ⟨0x380088, 1, 0x4000000, 1, 0x4000000, 0x0, 0x0, 0x0, 0x0, 0x0, 0x0, 0x0, 0x0, false⟩,
   ⟨0x380094, 1, 0x4000000, 1, 0x4000000, 0xFFFFFFFF, 0x0, 0x0, 0x0, 0x0, 0x0, 0x0, 0x0, false⟩,
   ⟨0x380098, 1, 0x4000000, 1, 0x4000000, 0x0, 0x0, 0x0, 0x0, 0x0, 0x0, 0x0, 0x0, false⟩,
   ⟨0x380090, 1, 0x4000000, 1, 0x4000000, 0x0, 0x807F01FF, 0x0, 0x0, 0x0, 0x0, 0x0, 0x0, true⟩,
   ⟨0x380018, 1, 0x4000000, 1, 0x4000000, 0x0, 0x0, 0x0, 0x0, 0x0, 0x0, 0x0, 0x0, false⟩,
   ⟨0x38001C, 1, 0x4000000, 1, 0x4000000, 0x0, 0x0, 0x0, 0x0, 0x0, 0x0, 0x0, 0x0, false⟩,
   ⟨0x380100, 16, 0x8, 1, 0x8, 0x0, 0x0, 0x0, 0x0, 0x0, 0x0, 0x0, 0x0, false⟩,
   ⟨0x380104, 16, 0x8, 1, 0x8, 0x0, 0x0, 0x0, 0x0, 0x0, 0xFFFFFFFF, 0x0, 0x0, false⟩,
   ⟨0x381000, 32, 0x20, 1, 0x20, 0x0, 0x7FFFFFF, 0x0, 0x0, 0x0, 0x0, 0x0, 0x0, false⟩,
   ⟨0x381004, 32, 0x20, 1, 0x20, 0x0, 0x7FFFFFF, 0x0, 0x0, 0x0, 0x0, 0x0, 0x0, false⟩,
   ⟨0x381008, 32, 0x20, 1, 0x20, 0x0, 0xFF000000, 0x0, 0x0, 0x0, 0x0, 0x0, 0x0, false⟩,
   ⟨0x38100C, 32, 0x20, 1, 0x20, 0x0, 0x0, 0x0, 0x0, 0x0, 0x0, 0x0, 0x0, false⟩,
   ⟨0x381010, 32, 0x20, 1, 0x20, 0x0, 0x3FFFFFFF, 0x0, 0x0, 0x0, 0x0, 0x0, 0x0, false⟩,
   ⟨0x381014, 32, 0x20, 1, 0x20, 0x0, 0x0, 0x0, 0x0, 0x0, 0xFFFFFFFF, 0x0, 0x0, false⟩]

/-- The registers of block SPM. -/
def rowsSPM : List RegRow :=
  [⟨0x400000, 1, 0x4000000, 1, 0x4000000, 0x0, 0x0, 0x0, 0x0, 0x0, 0x0, 0x0, 0x0, false⟩,
   ⟨0x400100, 16, 0x4, 1, 0x4, 0x0, 0xC0000003, 0x0, 0x0, 0x0, 0x0, 0x0, 0x0, false⟩,
   ⟨0x400200, 16, 0x4, 1, 0x4, 0x0, 0x0, 0x0, 0x0, 0x0, 0xFFFFFFFF, 0x0, 0x0, false⟩,
   ⟨0x401000, 512, 0x4, 1, 0x4, 0x0, 0x3, 0x0, 0x0, 0x0, 0x0, 0x0, 0x0, false⟩]

/-- The registers of block MBX. -/
def rowsMBX : List RegRow :=
  [⟨0x440000, 256, 0x100, 1, 0x100, 0x0, 0xCFFFFFFF, 0x0, 0x0, 0x0, 0x0, 0x0, 0x0, false⟩,
   ⟨0x440004, 256, 0x100, 1, 0x100, 0x0, 0x0, 0x0, 0x0, 0x0, 0x0, 0x0, 0x0, false⟩,
   ⟨0x440008, 256, 0x100, 1, 0x100, 0x0, 0x0, 0x0, 0x0, 0x80000000, 0x0, 0x0, 0x0, false⟩,
   ⟨0x44000C, 256, 0x100, 1, 0x100, 0x0, 0x0, 0x0, 0x0, 0xFFFFFFFF, 0x0, 0x0, 0x0, false⟩,
   ⟨0x440010, 256, 0x100, 1, 0x100, 0x0, 0x0, 0x0, 0x0, 0x0, 0x0, 0x0, 0x0, false⟩,
   ⟨0x440020, 256, 0x100, 1, 0x100, 0x0, 0x0, 0x0, 0x0, 0x0, 0xFFFFFFFF, 0x0, 0x0, false⟩,
   ⟨0x440014, 256, 0x100, 1, 0x100, 0x0, 0x0, 0xFFFFFFFF, 0x0, 0x0, 0x0, 0x0, 0x0, false⟩,
   ⟨0x440018, 256, 0x100, 1, 0x100, 0x0, 0x0, 0x0, 0xFFFFFFFF, 0x0, 0x0, 0x0, 0x0, false⟩,
   ⟨0x44001C, 256, 0x100, 1, 0x100, 0x0, 0xFFFFFFFF, 0x0, 0x0, 0x0, 0x0, 0x0, 0x0, false⟩,
   ⟨0x440040, 256, 0x100, 16, 0x4, 0x0, 0xFFFFFFFF, 0x0, 0x0, 0x0, 0x0, 0x0, 0x0, false⟩]

/-- The registers of block PCI. -/
def rowsPCI : List RegRow :=
  [⟨0x680000, 1, 0x4000000, 1, 0x4000000, 0x0, 0x0, 0x0, 0x0, 0x0, 0x0, 0x0, 0x0, false⟩,
   ⟨0x680010, 1, 0x4000000, 1, 0x4000000, 0x0, 0x0, 0x0, 0x0, 0x0, 0x0, 0x0, 0x0, false⟩,
   ⟨0x680014, 1, 0x4000000, 1, 0x4000000, 0x0, 0x18000000, 0x0, 0x0, 0xE0000000, 0x0, 0x0, 0x0, false⟩,
   ⟨0x680018, 1, 0x4000000, 1, 0x4000000, 0x0, 0x0, 0x0, 0x0, 0x0, 0x0, 0x0, 0x0, false⟩,
   ⟨0x68001C, 1, 0x4000000, 1, 0x4000000, 0x0, 0x0, 0x0, 0x0, 0x0, 0x0, 0x0, 0x0, false⟩,
   ⟨0x680020, 1, 0x4000000, 1, 0x4000000, 0x0, 0xFFFFFFFF, 0x0, 0x0, 0x0, 0x0, 0x0, 0x0, false⟩,
   ⟨0x680030, 1, 0x4000000, 1, 0x4000000, 0x3E8, 0x0, 0x0, 0x0, 0x0, 0x0, 0x0, 0x0, false⟩,
   ⟨0x680034, 1, 0x4000000, 1, 0x4000000, 0xA401, 0x0, 0x0, 0x0, 0x0, 0x0, 0x0, 0x0, false⟩,
   ⟨0x680100, 1, 0x4000000, 1, 0x4000000, 0x0, 0xFF0000, 0x0, 0x0, 0x80000000, 0x0, 0x0, 0x0, false⟩,
   ⟨0x680104, 1, 0x4000000, 1, 0x4000000, 0x0, 0xFFFF, 0x0, 0x0, 0x0, 0x0, 0x0, 0x0, false⟩,
   ⟨0x680200, 1, 0x4000000, 1, 0x4000000, 0x0, 0x0, 0x0, 0x0, 0x0, 0x0, 0x0, 0x0, false⟩,
   ⟨0x680204, 1, 0x4000000, 1, 0x4000000, 0x0, 0x0, 0x0, 0x0, 0x0, 0x0, 0x0, 0x0, false⟩,
   ⟨0x680210, 1, 0x4000000, 1, 0x4000000, 0x0, 0x0, 0x0, 0x0, 0x0, 0x0, 0x0, 0x0, false⟩,
   ⟨0x680028, 1, 0x4000000, 1, 0x4000000, 0x0, 0xFFFFFFFF, 0x0, 0x0, 0x0, 0x0, 0x0, 0x0, false⟩,
   ⟨0x68002C, 1, 0x4000000, 1, 0x4000000, 0x0, 0xFFFF, 0x0, 0x0, 0x0, 0x0, 0x0, 0x0, false⟩,
   ⟨0x680040, 1, 0x4000000, 1, 0x4000000, 0x0, 0xC0000000, 0x0, 0x0, 0x0, 0x0, 0x0, 0x0, false⟩,
   ⟨0x680044, 1, 0x4000000, 1, 0x4000000, 0x0, 0xFFFF, 0x0, 0x0, 0x0, 0x0, 0x0, 0x0, false⟩]

/-- The registers of block ERR. -/
def rowsERR : List RegRow :=
  [⟨0x800000, 1, 0x4000000, 1, 0x4000000, 0x0, 0x0, 0x0, 0x0, 0x0, 0x0, 0x0, 0x0, false⟩,
   ⟨0x800004, 1, 0x4000000, 1, 0x4000000, 0x3C32, 0xFFFFFF, 0x0, 0x0, 0x0, 0x0, 0x0, 0x0, false⟩,
   ⟨0x800008, 1, 0x4000000, 1, 0x4000000, 0x0, 0x3FFF, 0x0, 0x0, 0x0, 0x0, 0x0, 0x0, false⟩,
   ⟨0x80000C, 1, 0x4000000, 1, 0x4000000, 0x0, 0x0, 0x0, 0x0, 0x0, 0xFFFFFFFF, 0x0, 0x0, false⟩,
   ⟨0x800040, 1, 0x4000000, 1, 0x4000000, 0x0, 0x0, 0x0, 0x0, 0xC00001FF, 0x0, 0x0, 0x0, false⟩,
   ⟨0x8000A0, 1, 0x4000000, 1, 0x4000000, 0x0, 0x0, 0x0, 0x0, 0xC00F0000, 0x0, 0x0, 0x0, false⟩,
   ⟨0x800100, 1, 0x4000000, 1, 0x4000000, 0x0, 0x0, 0x0, 0x0, 0x0, 0x0, 0x0, 0x0, false⟩,
   ⟨0x800104, 1, 0x4000000, 1, 0x4000000, 0x0, 0x40000000, 0x0, 0x0, 0x80000000, 0x0, 0x0, 0x0, false⟩,
   ⟨0x800200, 1, 0x4000000, 1, 0x4000000, 0x0, 0xFFFF, 0x0, 0x0, 0xC0000000, 0x0, 0x0, 0x0, false⟩,
   ⟨0x800204, 1, 0x4000000, 1, 0x4000000, 0x0, 0x0, 0x0, 0x0, 0x0, 0x0, 0x0, 0x0, false⟩,
   ⟨0x800208, 1, 0x4000000, 1, 0x4000000, 0x0, 0x0, 0x0, 0x0, 0x0, 0x0, 0x0, 0x0, false⟩,
   ⟨0x80020C, 1, 0x4000000, 1, 0x4000000, 0x0, 0x0, 0x0, 0x0, 0x0, 0x0, 0x0, 0x0, false⟩,
   ⟨0x800010, 1, 0x4000000, 1, 0x4000000, 0x0, 0x1FF, 0x0, 0x0, 0x0, 0x0, 0x0, 0x0, true⟩,
   ⟨0x800020, 1, 0x4000000, 1, 0x4000000, 0x0, 0x0, 0x0, 0x0, 0x0, 0x0, 0x0, 0x0, false⟩,
   ⟨0x800024, 1, 0x4000000, 1, 0x4000000, 0x0, 0x0, 0x0, 0x0, 0x0, 0x0, 0x0, 0x0, false⟩,
   ⟨0x800028, 1, 0x4000000, 1, 0x4000000, 0x0, 0x0, 0x0, 0x0, 0x0, 0x0, 0x0, 0x0, false⟩,
   ⟨0x80002C, 1, 0x4000000, 1, 0x4000000, 0x0, 0x0, 0x0, 0x0, 0x0, 0x0, 0x0, 0x0, false⟩,
   ⟨0x800030, 1, 0x4000000, 1, 0x4000000, 0x0, 0x0, 0x0, 0x0, 0x0, 0x0, 0x0, 0x0, false⟩,
   ⟨0x800034, 1, 0x4000000, 1, 0x4000000, 0x0, 0x0, 0x0, 0x0, 0x0, 0x0, 0x0, 0x0, false⟩,
   ⟨0x800038, 1, 0x4000000, 1, 0x4000000, 0x0, 0x0, 0x0, 0x0, 0x0, 0x0, 0x0, 0x0, false⟩,
   ⟨0x800060, 16, 0x4, 1, 0x4, 0x0, 0x0, 0x0, 0x0, 0x0, 0x0, 0x0, 0x0, false⟩,
   ⟨0x800210, 3, 0x4, 1, 0x4, 0x0, 0x0, 0x0, 0x0, 0x0, 0x0, 0x0, 0x0, false⟩,
   ⟨0x800400, 256, 0x4, 1, 0x4, 0x0, 0x0, 0x0, 0x0, 0x0, 0xFFFFFFFF, 0x0, 0x0, false⟩,
   ⟨0x800800, 16, 0x4, 1, 0x4, 0x0, 0x0, 0x0, 0x0, 0x0, 0x0, 0x0, 0x0, false⟩]

/-- The registers of block DBG. -/
def rowsDBG : List RegRow :=
  [⟨0x900000, 1, 0x4000000, 1, 0x4000000, 0x0, 0x0, 0x0, 0x0, 0x0, 0x0, 0x0, 0x0, false⟩,
   ⟨0x900004, 1, 0x4000000, 1, 0x4000000, 0x10, 0x1E, 0x0, 0x0, 0x0, 0x0, 0x0, 0x0, false⟩,
   ⟨0x900008, 1, 0x4000000, 1, 0x4000000, 0x0, 0xFFFFFFFF, 0x0, 0x0, 0x0, 0x0, 0x0, 0x0, false⟩,
   ⟨0x90000C, 1, 0x4000000, 1, 0x4000000, 0x0, 0xFFFFFFFF, 0x0, 0x0, 0x0, 0x0, 0x0, 0x0, false⟩]

/-- The registers of block CLK. -/
def rowsCLK : List RegRow :=
  [⟨0x10000, 1, 0x4000000, 1, 0x4000000, 0x3, 0x0, 0x0, 0x0, 0x0, 0x0, 0x0, 0x0, false⟩,
   ⟨0x10004, 1, 0x4000000, 1, 0x4000000, 0x0, 0x0, 0x0, 0x0, 0x0, 0x0, 0x0, 0x0, false⟩,
   ⟨0x10008, 1, 0x4000000, 1, 0x4000000, 0x4, 0xC, 0x0, 0x0, 0x0, 0x0, 0x0, 0x0, false⟩,
   ⟨0x1000C, 1, 0x4000000, 1, 0x4000000, 0x640, 0x0, 0x0, 0x0, 0x0, 0x0, 0x0, 0x0, false⟩,
   ⟨0x11000, 24, 0x40, 1, 0x40, 0x1, 0x9000003F, 0x0, 0x0, 0x0, 0x0, 0x0, 0x0, false⟩,
   ⟨0x11004, 24, 0x40, 1, 0x40, 0x100000, 0x1FFFFFF, 0x0, 0x0, 0x0, 0x0, 0x0, 0x0, false⟩,
   ⟨0x11028, 24, 0x40, 1, 0x40, 0x0, 0xFFFF, 0x0, 0x0, 0x0, 0x0, 0x0, 0x0, false⟩,
   ⟨0x1102C, 24, 0x40, 1, 0x40, 0x0, 0x0, 0x0, 0x0, 0x0, 0x0, 0x0, 0x0, false⟩,
   ⟨0x11008, 24, 0x40, 8, 0x4, 0x0, 0x80007FFF, 0x0, 0x0, 0x0, 0x0, 0x0, 0x0, false⟩]

/-- The registers of block PIN. -/
def rowsPIN : List RegRow :=
  [⟨0x20000, 1, 0x4000000, 1, 0x4000000, 0x0, 0x0, 0x0, 0x0, 0x0, 0x0, 0x0, 0x0, false⟩,
   ⟨0x20004, 1, 0x4000000, 1, 0x4000000, 0x0, 0x0, 0x0, 0x0, 0x800001FF, 0x0, 0x0, 0x0, false⟩,
   ⟨0x20100, 16, 0x4, 1, 0x4, 0x0, 0x0, 0x0, 0x0, 0x0, 0x0, 0x0, 0x0, false⟩,
   ⟨0x20200, 16, 0x4, 1, 0x4, 0x0, 0x0, 0x0, 0x0, 0x0, 0x0, 0x0, 0x0, false⟩,
   ⟨0x20300, 16, 0x10, 1, 0x10, 0x0, 0xFFFFFF, 0x0, 0x0, 0x0, 0x0, 0x0, 0x0, false⟩,
   ⟨0x20304, 16, 0x10, 1, 0x10, 0x0, 0x0, 0x0, 0xFFFFFF, 0x0, 0x0, 0x0, 0x0, false⟩,
   ⟨0x20308, 16, 0x10, 1, 0x10, 0x0, 0x0, 0xFFFFFF, 0x0, 0x0, 0x0, 0x0, 0x0, false⟩,
   ⟨0x21000, 384, 0x8, 1, 0x8, 0x0, 0x0, 0x0, 0x0, 0x0, 0x0, 0x0, 0xC3FF000F, false⟩,
   ⟨0x21004, 384, 0x8, 1, 0x8, 0xD0, 0x3FF, 0x0, 0x0, 0x0, 0x0, 0x0, 0x0, false⟩]

/-- The rows of the block that holds control-space offset `off` (Table 1.4). -/
def rowsAt (off : Nat) : List RegRow :=
  if 0x1000000 ≤ off then rowsENG else
  if 0x900000 ≤ off then rowsDBG else
  if 0x800000 ≤ off then rowsERR else
  if 0x700000 ≤ off then rowsCFG else
  if 0x680000 ≤ off then rowsPCI else
  if 0x600000 ≤ off then rowsNTL else
  if 0x500000 ≤ off then rowsCVL else
  if 0x440000 ≤ off then rowsMBX else
  if 0x400000 ≤ off then rowsSPM else
  if 0x380000 ≤ off then rowsMP else
  if 0x300000 ≤ off then rowsMC else
  if 0x200000 ≤ off then rowsNOC else
  if 0x180000 ≤ off then rowsQE else
  if 0x140000 ≤ off then rowsTXU else
  if 0x100000 ≤ off then rowsTIM else
  if 0x20000 ≤ off then rowsPIN else
  if 0x10000 ≤ off then rowsCLK else
  rowsDEV

/-- Whether `off` is one of the row's offsets. -/
def RegRow.has (r : RegRow) (off : Nat) : Bool :=
  decide (r.base ≤ off) && decide ((off - r.base) / r.s1 < r.c1) &&
    decide ((off - r.base) % r.s1 / r.s2 < r.c2) && (off - r.base) % r.s1 % r.s2 == 0

/-- The row that defines the register at `off`; none for an offset that no chapter
defines (a reserved offset, R22). -/
def rowAt (off : Nat) : Option RegRow :=
  if off < 0x1400000 then (rowsAt off).find? fun r => r.has off else none

/-- The reset value of the register at `off`; a register whose heading gives no number
(fuse-set, per engine, fixed, from flash) is computed where it is read. -/
def resetWord (off : Nat) : Word :=
  match rowAt off with
  | some r => BitVec.ofNat 32 r.reset
  | none => 0#32

/-- Whether the register at `off` is held separately for each source NI. -/
def perSource (off : Nat) : Bool :=
  match rowAt off with
  | some r => r.src
  | none => false

end Sys2Proof.Machine
end

