-- ==== Sys2Proof/Machine/State.lean ====
section
/-! DEFINITION. The state of the device as plain data: every register (chapter register
sections, held in `Ctrl` by control-space offset), and every piece of state the rules give
a unit beyond its registers; the reasons a command can stop; and the state after reset. -/

namespace Sys2Proof.Machine

/-- The classes of fault records (Table 16.3). -/
inductive FaultClass where
  | decode | claim | clock | rendezvous | hostAccess
  | cfgCe | cfgUe | bramCe | bramUe | sliceRes | eport | fabricTimeout | switchAbort | twinMismatch
  | engCe | engUe | engExc | engRes | watchdog
  | crc | poison | misroute | linkMarginal | nocReplay | linkDown | discard | msgOverrun | reqTimeout
  | qeAssembly | qeRefused | qeDrop | launchLate | qeChain
  | timeState | timeStep | servoWd | timeDist | tsense | tebLimit | timeSwitch
  | txStage | txPartial | txLost | txOrphan | txLateStage
  | cvlIlas | cvlAlign | cvlOverrun | cvlLate | cvlLane | ntlRxDrop | ntlTsLost | ntlLink
  | dramConfig | dramHot | dramTrain | dramCe | dramUe | dramCa
  | mpTag | mpBlocked | spmCe | spmUe | pciPoison | mbxTimeout
  | loadReject | fwSlot | flashWear | trustCmd | tamper1 | tamper2
  | repair | huskCore | handover | tempHigh | surge | wearSpent | vengLimit | errSummary | reportLost
  deriving DecidableEq, Repr

/-- The subject a fault record suspects (R453). -/
inductive Subject where
  | unit (m : Master)
  | router (r : BitVec 8)
  /-- One of the fixed subjects 960 to 967. -/
  | code (n : BitVec 10)
  deriving DecidableEq, Repr

/-- A fault record (Table 16.2); `extra` is the number of 63 events beyond the first. -/
structure FaultRec where
  reporter : Master
  subject : Subject
  cls : FaultClass
  severity : Nat
  count : Nat
  status : BitVec 16
  detail : BitVec 48
  time : Word
  deriving DecidableEq, Repr

/-- What the last command returned to the master that sent it: an acknowledgement with a
status, read data with its poison mark, or an error response with its code (R222). -/
inductive Resp where
  | none
  | ack (status : BitVec 16)
  | data (bytes : List Byte) (poison : Bool)
  | error (status : BitVec 16)
  /-- Completions of the PCIe endpoint: Unsupported Request and Completer Abort (R439). -/
  | unsupportedRequest
  | completerAbort
  deriving DecidableEq, Repr

/-- The control registers: `regs` the live values, `src` the registers held separately for
each source NI, `shadow` the shadow copies of SH words (R8), `latch` and `held` the latched
and held halves of wide values per source NI (R11). -/
structure Ctrl where
  regs : Table Word := []
  src : Table Word := []
  shadow : Table Word := []
  latch : Table (Option Word) := []
  held : Table (Option Word) := []
  deriving DecidableEq, Repr

/-- The state of the device as a whole that no register shows (chapter 1). -/
structure Dev where
  /-- The mode that HALT, REPAIR and UPDATE are reported over (R25). -/
  base : Nat := 1
  halted : Bool := false
  /-- BOOT has been left since power-on (R28). -/
  leftBoot : Bool := false
  /-- The launch tick has passed (R21). -/
  launched : Bool := false
  gsr : Bool := false
  /-- Substitutions open (R121, R153, R379, R403). -/
  subs : Nat := 0
  /-- Extended service time of the entry to RENDEZVOUS (R32). -/
  rdvEntry : Nat := 0
  loadWait : Bool := false
  /-- Uptime at which LOAD_WAIT began (R29), and at which PERST# was released (R437). -/
  waitFrom : Nat := 0
  perstFrom : Nat := 0
  pf0Ready : Bool := false
  dramTrained : Bool := false
  /-- The husk is waking the device (R36). -/
  waking : Bool := false
  /-- PF1 to PF3 return Configuration Request Retry Status (R437). -/
  crs : Bool := true
  perst : Bool := false
  deriving DecidableEq, Repr

/-- A time domain (R263, R266, R277). -/
structure Domain where
  /-- D: epoch, nanosecond count and fraction. -/
  time : BitVec 96 := 0
  fineAcc : BitVec 16 := 0
  /-- The slew amount not yet added, in units of 2⁻³² ns, and its fraction carry. -/
  slewRemain : Int := 0
  slewAcc : Nat := 0
  slewing : Bool := false
  /-- The cue slot a STEP is armed on. -/
  stepSlot : Option (Fin 8) := Option.none
  everLocked : Bool := false
  /-- Uptime at which the servo watchdog last restarted (R274). -/
  wdFrom : Nat := 0
  acquired : Bool := false
  /-- The servo holder; none is the husk (R273). -/
  holder : Option Master := Option.none
  /-- The time error bound in units of 2⁻³⁰/86,400 ns while in HOLDOVER (R281). -/
  teb : Nat := 0
  tebLimitSent : Bool := false
  /-- The extended time the last PPS_IN edge marked (R269). -/
  mark : Nat := 0
  deriving DecidableEq, Repr

/-- A general timer (R288): the extended service instant of the next expiry. -/
structure Timer where
  next : Option Nat := Option.none
  last : Nat := 0
  outHigh : Bool := false
  deriving DecidableEq, Repr

/-- The time unit beyond its registers. -/
structure Tim where
  a : Domain := {}
  b : Domain := {}
  /-- O, in units of 2⁻³² ns (R282), and the fraction carry of its slew (R283). -/
  offset : Int := 0
  offsetAcc : Nat := 0
  running : Bool := false
  /-- Nanoseconds that have passed, whatever service time shows. -/
  uptime : Nat := 0
  /-- Units whose local copy is lost (R275), by unit key. -/
  lost : Table Bool := []
  timers : Table Timer := []
  svcSlot : Option (Fin 8) := Option.none
  /-- Temperature, in 1/128 °C, of the last re-centring of the model (R278). -/
  modelTemp : Int := 0
  /-- The terms, uncertainties and range last saved to flash (R279). -/
  modelSaved : List Word := []
  /-- Seconds since the model was last re-centred (Δa of R278). -/
  modelAge : Nat := 0
  tsenseFallback : Bool := false
  ppsHigh : Bool := false
  ppsLevelIn : Bool := false
  /-- PPS_OUT pulses of the fabric time ports: WRAP pulses raised (R262, R276). -/
  wrapPulses : Nat := 0
  tmrPulses : Table Nat := []
  deriving DecidableEq, Repr

/-- A message of the TXU on its way to a participant (R314). -/
inductive TxMsg where
  | prepare | commit | abort
  deriving DecidableEq, Repr

/-- A participant of a transaction as the TXU holds it. -/
structure Part where
  who : Master
  /-- The message sent to the participant and not yet received. -/
  msg : Option TxMsg := Option.none
  voted : Bool := false
  answered : Bool := false
  applied : Bool := false
  deriving DecidableEq, Repr

/-- The states of a transaction (Table 9.2). -/
inductive TxState where
  | free | staging | preparing | committed | ended
  deriving DecidableEq, Repr

/-- A staged change at its participant, with the master that staged it. -/
structure Staged where
  change : Change
  src : Master
  deriving DecidableEq, Repr

/-- A transaction as the TXU holds it (R294 to R312). -/
structure Tx where
  state : TxState := .free
  opener : Master := .husk
  deadlineUs : Nat := 0
  /-- Uptime at which the TXU stops waiting: the prepare deadline while undecided (R294), 100 µs
  after the launch or the abort (R305, R306), 2.000 s after the end (R312). -/
  dueAt : Nat := 0
  /-- What a frozen deadline has left (R308). -/
  left : Nat := 0
  /-- The deadline is frozen by tx_hold (R308). -/
  frozen : Bool := false
  launch : Launch := .asap
  /-- The launch tick once decided. -/
  tick : Word := 0
  parts : List Part := []
  staged : Nat := 0
  spmWords : Nat := 0
  outcome : BitVec 16 := 0
  detail : BitVec 16 := 0
  subject : Option Master := Option.none
  /-- ABORT has been sent and the answers are awaited (R306). -/
  aborting : Bool := false
  notify : Option (BitVec 8 × BitVec 5) := Option.none
  /-- The husk substitution the transaction carries: its changes with their participants,
  and how often it has been tried (R121, R122, R511). -/
  sub : List (Master × Change) := []
  tries : Nat := 0
  deriving DecidableEq, Repr

/-- What a participant answered to PREPARE (R301). -/
inductive Vote where
  | prepared
  | refuse (detail : BitVec 16)
  deriving DecidableEq, Repr

/-- The answer of a participant to the decision: DONE, applied or not, or ABORT_ACK. -/
inductive TxAnswer where
  | applied | notApplied | abortAck
  deriving DecidableEq, Repr

/-- What a participant holds for one transaction (R296 to R307). -/
structure PartStore where
  changes : List Staged := []
  /-- JOIN has been sent and is not yet at the TXU. -/
  joinSent : Bool := false
  /-- JOIN_ACK has been sent and is not yet back. -/
  ackSent : Bool := false
  joined : Bool := false
  /-- The source whose first staging waits for JOIN_ACK (R296), and whether it was staged
  through TXU_STAGE_DATA or posted. -/
  waiting : Option Master := Option.none
  viaData : Bool := false
  posted : Bool := false
  /-- The request packet that waits for its response, and the response's payload. -/
  request : Option Packet := Option.none
  body : List Byte := []
  refuse : Option (BitVec 16) := Option.none
  vote : Option Vote := Option.none
  /-- The launch tick, once COMMIT or the ASAP word has arrived in time. -/
  commit : Option Word := Option.none
  answer : Option TxAnswer := Option.none
  /-- A change voted PREPARED was lost (R307). -/
  withdrawn : Bool := false
  /-- Uptime of the vote (R306). -/
  votedAt : Nat := 0
  /-- The holders of the claims the TXU took at the vote (R41). -/
  claims : List (Nat × Option Master) := []
  /-- The pods armed by the vote and the state each was armed from (R108). -/
  pods : List (Nat × Nat) := []
  deriving DecidableEq, Repr

/-- A transaction ID as the engine that opened it holds it (R197, R198). -/
structure HeldTx where
  id : BitVec 8
  ended : Bool := false
  outcome : BitVec 16 := 0
  subject : Option Master := Option.none
  deriving DecidableEq, Repr

/-- Transactions: the TXU's table by ID and the participants' stores by ID and unit. -/
structure Txu where
  txs : Table Tx := []
  stores : Table PartStore := []
  /-- Extended time of the latest synchronisation word given to an ASAP commit, and the
  commits it carries (R303). -/
  word : Nat := 0
  wordUsed : Nat := 0
  /-- The transaction IDs each engine holds, at most four (R197). -/
  held : Table (List HeldTx) := []
  deriving DecidableEq, Repr

/-- A pod's switch window (Table 3.6): nothing running, due with ingress held ahead of the
instant, or between E0 and E3. -/
inductive Window where
  | none | due | e0 | e1 | e2
  deriving DecidableEq, Repr

/-- An open substitution of a pod (R121). -/
structure Repair where
  fix : FabricFix
  /-- The rebuild or the copy is done and the switch is staged. -/
  staged : Bool := false
  deriving DecidableEq, Repr

/-- A pod beyond its registers (chapter 3). -/
structure Pod where
  window : Window := .none
  /-- The window runs with RESET. -/
  reset : Bool := false
  /-- The regions whose plane select flips at E1; none for a pod reset (R104). -/
  flips : List Nat := []
  /-- The substitution whose steering takes effect at E1 (R120). -/
  fix : Option FabricFix := Option.none
  /-- NoC ingress is held (R102, R103). -/
  held : Bool := false
  /-- Sprout state an ARMED pod was armed from (R107). -/
  armedFrom : Nat := 0
  slot : Option (Fin 8) := Option.none
  /-- Transaction that holds the ARMED pod; 0 for none. -/
  tx : Nat := 0
  /-- The carry setting a transaction staged with the switch (R108). -/
  txCarry : Bool := false
  /-- The quiesce a transaction staged with the switch, in µs (R299). -/
  txQuiesce : Nat := 0
  repair : Option Repair := Option.none
  /-- A twin mismatch under SILENCE poisons what the primary sends (R127). -/
  silenced : Bool := false
  /-- The pod set-reset is asserted (R79). -/
  psr : Bool := false
  deriving DecidableEq, Repr

/-- An entry of a pod table (Table 3.3). -/
structure PodEntry where
  valid : Bool := false
  spareAware : Bool := false
  twin : Bool := false
  twinOf : BitVec 6 := 0
  regions : BitVec 96 := 0
  deriving DecidableEq, Repr

/-- A frame the scrubber has read and will write back or rewrite (R114). -/
structure FrameRef where
  region : Nat
  plane : Bool
  index : Nat
  /-- Written since it was read; the write-back is dropped (R115). -/
  stale : Bool := false
  deriving DecidableEq, Repr

/-- A configuration scrubber (R111 to R116). -/
structure Scrubber where
  lap : Nat := 0
  ess : Nat := 0
  sprout : Nat := 0
  /-- Regions of the priority visits requested, each with the next frame of it (R116). -/
  priority : List (Nat × Nat) := []
  writeback : List FrameRef := []
  rewrite : List FrameRef := []
  lapStart : Nat := 0
  deriving DecidableEq, Repr

/-- Pods, planes and scrubbing beyond the CFG registers. A frame is keyed by region,
physical plane and index within the plane, `(region * 2 + plane) * 5120 + index`; a frame
not listed is all zero. -/
structure Cfg where
  pods : Table Pod := []
  table : Table PodEntry := []
  stagedTable : Table PodEntry := []
  frames : Table (BitVec 3072) := []
  essential : Table Bool := []
  /-- The husk's frame store, keyed by `region * 5120 + index` (R114). -/
  store : Table (BitVec 3072) := []
  staging : Table (BitVec 3072) := []
  west : Scrubber := {}
  east : Scrubber := {}
  /-- Spares marked unusable (R122), keyed by kind, region and column. -/
  badSpare : Table Bool := []
  /-- Settings of the last accepted image, by pod: fabric PLLs with the words of their page,
  and pins with their function and electrical settings (R90, R497). -/
  plls : Table (List (Nat × List Word)) := []
  pins : Table (List (Nat × Word × Word)) := []
  /-- A full image is being staged or is staged while the device is live (R105). -/
  fullLive : Bool := false
  /-- The switch window of a full image, and whether it is the first (R431). -/
  fullWindow : Window := .none
  /-- The full image whose window runs is the acorn image. -/
  fullAcorn : Bool := false
  deriving DecidableEq, Repr

/-- A regional clock tree (R71 to R77). -/
structure Tree where
  sel : BitVec 4 := 15
  div : BitVec 4 := 0
  next : Option (BitVec 4) := Option.none
  /-- The latest request made while a switch was in progress (R75). -/
  queued : Option (BitVec 4) := Option.none
  /-- The old source has been released and the output is low. -/
  released : Bool := false
  /-- Forced low by the switch sequencer, or held low in a window. -/
  low : Bool := false
  deriving DecidableEq, Repr

/-- An 18-bit block memory word with its poison marking (R67). -/
structure BramWord where
  data : BitVec 18 := 0
  poison : Bool := false
  deriving DecidableEq, Repr

/-- What an access point gave to the design (R87, R88). -/
structure Delivery where
  pkt : Packet
  crcErr : Bool
  poison : Bool
  deriving DecidableEq, Repr

/-- A fabric access point (R86): packets waiting for the design, requests accepted and
unanswered, and what was delivered last. -/
structure AccessPoint where
  inbound : List Packet := []
  opened : List Packet := []
  /-- Source, tag and uptime of acceptance of each request in `opened` (R89). -/
  since : List (BitVec 10 × BitVec 8 × Nat) := []
  last : Option Delivery := Option.none
  /-- Target requests timed out whose late answer is discarded (R89). -/
  expired : List (BitVec 10 × BitVec 8) := []
  /-- Initiator requests issued before a RESET switch: their responses are discarded. -/
  lateTags : List (BitVec 8) := []
  /-- Beats of a twin's outbound traffic not yet matched (R126). -/
  twinQueue : List (List Byte) := []
  primQueue : List (List Byte) := []
  deriving DecidableEq, Repr

/-- The logic fabric beyond the planes. -/
structure Fabric where
  trees : Table Tree := []
  bram : Table BramWord := []
  aps : Table AccessPoint := []
  deriving DecidableEq, Repr

/-- A mailbox beyond its registers (R418 to R420). -/
structure Mailbox where
  sender : Option Master := Option.none
  /-- Extended service time at which the PENDING message expires. -/
  deadline : Option Nat := Option.none
  deriving DecidableEq, Repr

/-- The scratchpad (R405 to R415): bytes keyed by
`((set * 32 + bank) * 32768 + word) * 8 + byte`, poison by word. -/
structure Spm where
  mem : List Host.Cell := []
  poison : Table Bool := []
  /-- Power states to restore at the exit from DORMANT, by global bank. -/
  saved : Table Nat := []
  deriving DecidableEq, Repr

/-- A route entry (Table 6.4). -/
structure RouteEntry where
  w0 : Word := 0
  w1 : Word := 0
  w2 : Word := 0
  w3 : Word := 0
  deriving DecidableEq, Repr

/-- Held words 1 to 3 of a route entry of one source NI (R209). -/
structure HeldRoute where
  ni : Nat
  entry : Nat
  w1 : Option Word := Option.none
  w2 : Option Word := Option.none
  w3 : Option Word := Option.none
  deriving DecidableEq, Repr

/-- A packet in flight: the router that holds it, its hop pointer and repeat count (R208),
and the NI it has been ejected to. -/
structure Flight where
  id : Nat
  pkt : Packet
  hops : BitVec 72
  ptr : Nat := 0
  rep : Nat := 0
  /-- The direction of the last direction code. -/
  dir : Nat := 0
  router : Nat
  ejected : Bool := false
  /-- A staged message whose transaction has applied (Table 9.3). -/
  released : Bool := false
  deriving DecidableEq, Repr

/-- A request awaiting its response at its requester's NI (R222, R223). -/
structure PendingReq where
  ni : BitVec 10
  tag : BitVec 8
  dst : BitVec 10
  kind : BitVec 4
  /-- Uptime at which it was sent. -/
  sent : Nat
  /-- The request is a DEQ; responses that still follow the first (Table 7.5). -/
  deq : Bool := false
  more : Nat := 0
  deriving DecidableEq, Repr

/-- A link direction beyond NOC_LINK (R216, R217). -/
structure Link where
  /-- Corrected flits counted in the second `second`. -/
  ceSecond : Nat := 0
  second : Nat := 0
  /-- Consecutive failed sends of one flit. -/
  fails : Nat := 0
  /-- The millisecond of the last DISCARD record, plus one. -/
  discardMs : Nat := 0
  retraining : Bool := false
  deriving DecidableEq, Repr

/-- The network on chip beyond its registers. -/
structure Noc where
  routes : Table (Option RouteEntry) := []
  held : Table (Option HeldRoute) := []
  flight : List Flight := []
  nextId : Nat := 0
  requests : List PendingReq := []
  links : Table Link := []
  /-- Responses given to their requesters, the latest last. -/
  answered : List (BitVec 10 × BitVec 8 × Resp) := []
  deriving DecidableEq, Repr

/-- The PCIe endpoint as a sender of MSI-X messages (Table 14.4). Keys of `unmasked` are
`pf * 1024 + vector`; a vector is masked until it is unmasked through its table entry. -/
structure Msix where
  unmasked : Table Bool := []
  fnMasked : Table Bool := []
  /-- MSI-X messages sent, the latest last: function and vector. -/
  sent : List (Nat × Nat) := []
  /-- Words of PF0's MSI-X table, by word index (Table 15.10). -/
  table : Table Word := []
  deriving DecidableEq, Repr

/-- What an engine in WAITING waits for (R190, R191): a time, or event flags with an
optional deadline. `rd` is the register that receives the result. -/
inductive Wait where
  | none
  | time (rd : BitVec 6) (t : Word)
  | events (rd : BitVec 6) (mask : BitVec 16) (deadline : Option Word) (clear : Bool)
  deriving DecidableEq, Repr

/-- A general register: its 36 bits and the poison tags of its halves (Table 4.1). -/
structure GReg where
  w : W36 := 0
  tagH : Bool := false
  tagL : Bool := false
  deriving DecidableEq, Repr

/-- A word of an engine port (R82): two 36-bit words and a poison bit for each. -/
structure PortWord where
  w0 : W36
  w1 : W36
  p0 : Bool
  p1 : Bool
  deriving DecidableEq, Repr

/-- A breakpoint or watchpoint of an engine (R485): slots 0 to 3 hit at PC `lo`; slots 4 and
5 watch words `lo` to `hi`, with `kind` 1 read, 2 write, 3 either. -/
structure Break where
  enabled : Bool := false
  kind : BitVec 2 := 0
  /-- Action DEVICE halts the whole device. -/
  device : Bool := false
  lo : BitVec 14 := 0
  hi : BitVec 14 := 0
  deriving DecidableEq, Repr

/-- What an engine does with the response it waits for: LDF, AADD or ASWP, an ENQ or QMOV with
its status, or a DEQ with its pointer, pm and packing (R185, R186, R194 to R196). -/
inductive FarOp where
  | load (eight : Bool)
  | atomic
  | status
  | deq (p : BitVec 4) (pm : BitVec 2) (packing : BitVec 2)
  deriving DecidableEq, Repr

/-- An instruction that waits for its response: the register that receives the result, the
request's tag, and for a DEQ the result block and the granules received, each with whether it
is poisoned or failed its check. -/
structure FarLoad where
  op : FarOp
  rd : BitVec 6
  tag : BitVec 8
  block : List Byte := []
  grans : List (List Byte × Bool × Bool) := []
  deriving DecidableEq, Repr

/-- An engine beyond its control page (chapter 4). A data-memory word is a `GReg`: its 36
bits and the poison marking of its halves. -/
structure Engine where
  g : Table GReg := []
  acc : Table W48 := []
  p : Table (BitVec 14) := []
  n : Table (BitVec 15) := []
  l : Table (BitVec 15) := []
  st : Word := 0
  pc : BitVec 13 := 0
  lc : Table (BitVec 16) := []
  ls : Table (BitVec 13) := []
  le : Table (BitVec 13) := []
  ipc : BitVec 13 := 0
  ist : Word := 0
  /-- The call stack, entry 0 the oldest, and the return addresses held, at most 16. -/
  stack : Table (BitVec 13) := []
  depth : Nat := 0
  dmem : Table GReg := []
  imem : Table DWord := []
  /-- The last instruction of the address space has run and no other is fetched (R157). -/
  past : Bool := false
  /-- Instructions of the open LOCK bracket still to run; 0 for none (R149). The bracket
  covers the `lockN` instructions after the LOCK at `lockAt`. -/
  lock : Nat := 0
  lockAt : BitVec 13 := 0
  lockN : Nat := 0
  /-- Watchdog: microseconds left while it does not count, and the extended instant of its
  expiry while it does (R150). -/
  wdLeft : Nat := 0
  wdAt : Option Nat := Option.none
  loaded : Bool := false
  powering : Bool := false
  /-- A stop waits for its boundary; the service tick of its request (R141, R142). -/
  stopReq : Option Nat := Option.none
  /-- A start applied while HALTED (R141). -/
  startReq : Option (BitVec 13) := Option.none
  haltReq : Bool := false
  /-- The slot of a breakpoint hit inside a bracket (R485). -/
  hitReq : Option Nat := Option.none
  /-- The state beneath HALTED, MOVING or DORMANT. -/
  under : Nat := 1
  asleep : Bool := false
  /-- A resume is scheduled for the next whole microsecond (R483). -/
  resuming : Bool := false
  toEngine : List PortWord := []
  fromEngine : List PortWord := []
  /-- Pulses on ev_out. -/
  evOut : Nat := 0
  /-- Words of the twin's and the primary's port not yet matched (R126). -/
  twinQueue : List PortWord := []
  primQueue : List PortWord := []
  far : Option FarLoad := Option.none
  /-- Posted stores without their response: the request's tag and the STF's address; and
  the addresses of those answered with an error, not yet raised (R185). -/
  posted : List (BitVec 8 × BitVec 13) := []
  lateErrors : List (BitVec 13) := []
  breaks : Table Break := []
  /-- Instruction fetch skips a breakpoint at this PC once, at the start of a step (R484). -/
  passBreak : Bool := false
  deriving DecidableEq, Repr

/-- A cluster's spare slot (R128, R153 to R155): the engine whose substitution is open, and
whether its transaction has aborted once, and whether the spare is marked unusable. -/
structure Spare where
  sub : Option (Fin 1024) := Option.none
  staged : Bool := false
  /-- The move has applied and the engine is to stop at its boundary. -/
  applied : Bool := false
  bad : Bool := false
  deriving DecidableEq, Repr

/-- The idle-cycle scrubber of one memory (R69, R134, R401): next word, start of the lap,
and the duration and end of the last complete lap. -/
structure Lap where
  next : Nat := 0
  start : Nat := 0
  last : Option (Nat × Nat) := Option.none
  deriving DecidableEq, Repr


/-- Clocks beyond their registers (R489, R490): consecutive agreeing windows by clock, and
what stands in for a lost reference. -/
structure Clk where
  runs : Table Nat := []
  /-- Judged stable, for clocks without a register bit. -/
  stable : Table Bool := []
  /-- PLLs run from the reference synthesised from the tick. -/
  xsysSynth : Bool := false
  /-- The time DPLL holds its last tuning word. -/
  timeHeld : Bool := false
  /-- The husk runs on system PLL 0 (R491). -/
  huskOnPll : Bool := false
  deriving DecidableEq, Repr

/-- A general pin beyond its registers (R498): the function waiting for its commit edge, and
the level the pad last drove. -/
structure Pad where
  due : Option (BitVec 4) := Option.none
  last : Bool := false
  deriving DecidableEq, Repr

/-- TAP instructions in force (R508). -/
inductive TapInstr where
  | bypass | idcode | samplePreload | extest | clamp | highz | extestPulse | extestTrain
  deriving DecidableEq, Repr

/-- The TAP: its instruction, the boundary register over the general pins, and the levels
captured last. -/
structure Tap where
  instr : TapInstr := .bypass
  boundary : BitVec 384 := 0
  captured : BitVec 384 := 0
  deriving DecidableEq, Repr


/-- A subchannel beyond its controller's registers (R373, R377, R381). -/
structure Subch where
  /-- Declared down (R377). -/
  down : Bool := false
  /-- Trained and not since lost. -/
  up : Bool := false
  /-- The command/address path retrains. -/
  caTraining : Bool := false
  /-- Extended instants of the failed retries of the last second. -/
  caFails : List Nat := []
  /-- Ranks in retraining, with the steps run. -/
  training : List (Nat × Nat) := []
  /-- Ranks whose retraining failed, with the consecutive failures; and the ranks degraded. -/
  failures : Table Nat := []
  degraded : List Nat := []
  /-- Ranks that found no passing window in the present retraining round. -/
  noWindow : List Nat := []
  /-- Mirrored lines wait for the copy back (R380). -/
  resync : Bool := false
  /-- The patrol scrubber's lap (R400): start, and lines read. -/
  lapStart : Nat := 0
  deriving DecidableEq, Repr

/-- A protection range the husk brings up at BOOT (R394, Table 15.17). -/
structure RangePolicy where
  range : Nat
  base : Word
  limit : Word
  tag : Word
  cfg : Word
  deriving DecidableEq, Repr

/-- DRAM and its protection (chapters 12 and 13). Bytes are keyed by the address the requester
used (R384), as plain text; markings are keyed by line, `address / 64`. -/
structure Dram where
  mem : List Host.Cell := []
  poison : Table Bool := []
  /-- Tagged lines whose stored tag has been overwritten (R387). -/
  badTag : Table Bool := []
  subs : Table Subch := []
  /-- Activate counters of a bank: row and count, at most 16 (R370). -/
  counters : Table (List (Nat × Nat)) := []
  /-- Rows whose neighbours wait for a refresh, at most 8 (R370, R371). -/
  neighbours : Table (List Nat) := []
  /-- Corrections by controller, rank and subchannel, and device (MC_CE_DEV). -/
  ceDev : Table Nat := []
  /-- Rank each controller's spare serves, once used (R379). -/
  spared : Table (Option Nat) := []
  /-- Page retirements open, with whether they are staged, and the pages retired in order of
  their pool page (R403). -/
  retiring : List (Nat × Bool) := []
  retired : List Nat := []
  /-- Controllers in self-refresh (R381). -/
  asleep : Table Bool := []
  /-- The mode and tagging a running sweep converts to (R394). -/
  sweepMode : BitVec 2 := 0
  sweepTagged : Bool := false
  /-- Ranges still to be brought up, and re-keys that wait for the sweep (R394, R396). -/
  bringUp : List RangePolicy := []
  rekeys : List Nat := []
  deriving DecidableEq, Repr


/-- A granule of an entry: its number, the data bytes it holds, their code, and its poison
bit (Table 7.1). -/
structure Granule where
  num : Nat
  used : Nat
  crc : Word
  poison : Bool
  deriving DecidableEq, Repr

/-- An entry of a queue (R230, R238): the release time given and its extended instant. -/
structure QEntry where
  release : Word
  due : Nat
  flow : Word
  length : Nat
  cls : BitVec 8
  grans : List Granule
  /-- Read into the launch buffer (R248). -/
  ready : Bool := false
  deriving DecidableEq, Repr

/-- A queue (R254): the RW fields of its descriptor by word, its entries, oldest first, and
what the QE keeps for it. -/
structure Queue where
  w2 : Word := 0
  w3 : Word := 0
  w5 : Word := 0
  w6 : Word := 0
  w7 : Word := 0
  entries : List QEntry := []
  /-- The chain is lost: how many granules of it can still be found (R257). -/
  broken : Option Nat := Option.none
  /-- The transaction whose staged QMOV holds the head; 0 for none (R252). -/
  held : Nat := 0
  /-- Room reserved for entries in assembly or staged. -/
  roomGrans : Nat := 0
  roomEntries : Nat := 0
  /-- A released head has been announced (R246). -/
  announced : Bool := false
  /-- An entry has stood in the queue since its descriptor was zeroed. -/
  used : Bool := false
  deriving DecidableEq, Repr

/-- An assembly (R235, R236): the entry with the granules reserved and those stored; `status`
other than 0 makes it a discarding one. `got` counts the bytes received. -/
structure Assembly where
  head : QHead
  entry : QEntry
  status : Nat := 0
  free : List Nat := []
  got : Nat := 0
  last : Nat := 0
  /-- The packet that carried the ENQ_BEGIN. -/
  pkt : Option Packet := Option.none
  deriving DecidableEq, Repr

/-- A staged queue operation (R252). -/
inductive QStaged where
  | enqueue (q : Nat) (e : QEntry)
  | move (src dst grans : Nat)
  | descriptor (q : Nat) (w : List Word)
  deriving DecidableEq, Repr

/-- A queue operation waiting, for a descriptor or by backpressure, with the packet that
carried it. -/
structure QReq where
  head : QHead
  kind : QKind
  pkt : Option Packet := Option.none
  deriving DecidableEq, Repr

/-- What a scheduler keeps between selections (R251): of a band its current group; of a group
its deficit, its current queue and its entries this turn, and whether its visit is new. -/
structure SchedGroup where
  deficit : Nat := 0
  cur : Nat := 0
  turns : Nat := 0
  fresh : Bool := true
  deriving DecidableEq, Repr

/-- The queue engine beyond its registers (chapter 7). -/
structure Qe where
  queues : Table Queue := []
  /-- The free cache, the chain of freed granules in DRAM, and the fresh mark (R233). -/
  cache : List Nat := []
  freed : List Nat := []
  fresh : Nat := 0
  assemblies : List Assembly := []
  staged : List (Nat × QStaged) := []
  /-- Queues whose descriptors are cached, latest used first (R255), and operations waiting
  for one that is not, or by backpressure. -/
  descs : List Nat := []
  misses : List (Nat × List QReq) := []
  waiting : List QReq := []
  /-- Responses to the port blocks' enqueues, by unit and tag (R348). -/
  answers : List (Nat × BitVec 8 × List Byte) := []
  /-- By scheduler and band the current group, and by scheduler and group its state. -/
  bands : Table Nat := []
  groups : Table SchedGroup := []
  deriving DecidableEq, Repr


/-- A receive sample block in the making or complete (R326). -/
structure RxBlock where
  time : Word
  findex : Nat
  frames : Nat := 0
  words : List (BitVec 16) := []
  err : Bool := false
  poison : Bool := false
  fill : Bool := false
  deriving DecidableEq, Repr

/-- A transmit sample block that waits for its due time (R329); `bad` sends it as zeros. -/
structure TxBlock where
  due : Nat
  frames : Nat
  words : List (BitVec 16)
  bad : Bool
  bytes : Nat
  deriving DecidableEq, Repr

/-- A converter link beyond its registers (R319 to R333). -/
structure CvLink where
  /-- The SYNC~ output is released; the SYNC~ input is high. -/
  syncOut : Bool := false
  syncIn : Bool := false
  /-- ILAS multiframes received or sent. -/
  multiframes : Nat := 0
  /-- Index of the next frame within its multiframe. -/
  findex : Nat := 0
  making : Option RxBlock := Option.none
  complete : List RxBlock := []
  queue : List TxBlock := []
  /-- Words the framer was given last. -/
  sent : List (BitVec 16) := []
  deriving DecidableEq, Repr

/-- A link group beyond its registers (R323, R324). -/
structure CvGroup where
  /-- The LMFC runs. -/
  lmfc : Bool := false
  /-- A SYSREF instant has been given and not yet acted on. -/
  instant : Bool := false
  /-- A restart is due at the next DEVCLK edge, and whether it moves the LMFC. -/
  restart : Option Bool := Option.none
  /-- A SYSREF has come since the mode was written. -/
  once : Bool := false
  /-- The holder of the claim under which a periodic SYSREF runs, and its pulses left. -/
  periodic : Option Master := Option.none
  left : Nat := 0
  /-- Pulses driven on the SYSREF pin. -/
  pulses : Nat := 0
  /-- Blocks held by backpressure: payload, poison, and whether the check passed. -/
  waiting : List (List Byte × Bool × Bool) := []
  deriving DecidableEq, Repr

/-- Converter lanes beyond their registers: links by global number, groups, and the bits
inverted on each lane by injection (R339). -/
structure Cvl where
  links : Table CvLink := []
  groups : Table CvGroup := []
  inverted : Table Nat := []
  deriving DecidableEq, Repr


/-- A transmit frame in assembly (R350): the bytes wanted and those received; `abort` marks a
message that failed its check (`true`) or was poisoned; `discard` one that is thrown away. -/
structure TxFrame where
  src : Master
  port : Nat
  ts : Nat
  tag : BitVec 16
  length : Nat
  bytes : List Byte := []
  abort : Option Bool := Option.none
  discard : Bool := false
  last : Nat := 0
  deriving DecidableEq, Repr

/-- A two-step stamp record (R353). -/
structure StampRec where
  ns : Word
  frac : BitVec 16
  domB : Bool
  port : Nat
  tag : BitVec 16
  deriving DecidableEq, Repr

/-- A port: frames complete and waiting to be sent, frames forwarded on the ring with whether
their FCS was good, the bytes sent last, and the millisecond of the last drop record, plus
one. -/
structure NetPort where
  fifo : List TxFrame := []
  ring : List (List Byte × Bool) := []
  sent : List Byte := []
  dropMs : Nat := 0
  deriving DecidableEq, Repr

/-- A port block beyond its registers (R346 to R353): assemblies, messages held by
backpressure, frames whose enqueue is unanswered with their tags, ports and lengths, and the
two-step FIFO. -/
structure PortBlock where
  asm : List TxFrame := []
  waiting : List (Master × List Byte × Bool × Bool) := []
  rx : List (BitVec 8 × Nat × Nat) := []
  nextTag : BitVec 8 := 0
  stamps : List StampRec := []
  /-- Lanes of the block that are lost. -/
  lost : BitVec 4 := 0
  deriving DecidableEq, Repr

/-- Network ports beyond their registers; `husk` are the PTP frames given to the husk (R346). -/
structure Ntl where
  blocks : Table PortBlock := []
  ports : Table NetPort := []
  husk : List (List Byte) := []
  deriving DecidableEq, Repr



/-- What the owner's memory policy gives the husk for BOOT (Table 15.17). -/
structure MemPolicy where
  spareEn : Bool := false
  /-- Eight words of MCG_ZONE; empty for none given. -/
  zones : List Word := []
  /-- Nine words of MCG_HASH; empty for the default masks. -/
  hashes : List Word := []
  huskMib : Nat := 512
  ranges : List RangePolicy := []
  retire : Word := 0x80180004#32
  lapH : Nat := 24
  deriving DecidableEq, Repr

/-- The owner policy (Table 15.17); `knobs` are those of Table 16.4 that the image gives. -/
structure Policy where
  loadWait : Nat := 1000
  acornBase : Nat := 0x2000000
  wmask : Nat := 0xA401
  fwConfirm : Nat := 600
  password : Nat := 3600
  cycles : Nat := 100000
  knobs : List (Nat × Nat) := []
  mem : MemPolicy := {}
  rekeyDays : Nat := 90
  uart : Bool := true
  gnss : Nat := 0
  synce : Nat := 0x7FFF
  sourceA : Word := 0
  sourceB : Word := 0
  svc : Nat := 0
  digest : BitVec 512 := 0
  deriving DecidableEq, Repr

/-- A copy of the boot descriptor (Table 15.18); `valid` is what its magic, reserved bytes and
CRC-32C say. -/
structure BootDesc where
  valid : Bool := true
  sequence : Word := 1
  slot : Nat := 0
  acornValid : Bool := false
  acornLen : Nat := 0
  xsysHz : Word := Config.boardXsysHz
  acornBase : Nat := 0x2000000
  deriving DecidableEq, Repr

/-- A firmware slot: whether it holds verified firmware, its security version and digest D. -/
structure FwSlot where
  verified : Bool := false
  secVersion : Nat := 0
  digest : BitVec 512 := 0
  deriving DecidableEq, Repr

/-- The flash (Table 15.8). -/
structure Flash where
  desc0 : BootDesc := {}
  desc1 : BootDesc := {}
  fw0 : FwSlot := { verified := true, digest := Config.firmwareDigest }
  fw1 : FwSlot := {}
  policy : Policy := {}
  acorn : List Byte := []
  /-- The count of the stored TAMPER_ACK and the key slot that signed it. -/
  ack : Nat := 0
  ackKey : Nat := 0
  password : BitVec 512 := 0
  counter : Nat := 0
  failures : Nat := 0
  /-- Erases by 64 KiB sector. -/
  erases : Table Nat := []
  /-- The wear ledger's copy (R472). -/
  ledger : Nat := 720000000
  /-- The repair log: steering and ENG_MAP words (R119, R153, R430). -/
  repairs : Table Word := []
  deriving DecidableEq, Repr

/-- The fuses the husk burns (Table 15.10); owner digests by slot, zero for unburned. -/
structure Fuses where
  lifeCycle : Nat := 0
  digests : Table (BitVec 512) := []
  revoked : BitVec 4 := 0
  floor : Nat := 0
  tamperCount : Nat := 0
  tamperLock : Bool := false
  deriving DecidableEq, Repr

/-- A signed command that has been verified and waits to be run (R447): its code, arguments,
counter, key slot and the digest of the signer's key. -/
structure SignedCmd where
  code : Nat
  args : List Byte
  counter : Nat
  slot : Nat
  key : BitVec 512
  deriving DecidableEq, Repr

/-- The loader beyond its registers (R422 to R434). -/
structure Loader where
  /-- The stream bytes received without a gap, and those received ahead of one. -/
  bytes : List Byte := []
  ahead : Table (Option Byte) := []
  /-- Uptime of the last write of a host stream (R427). -/
  writeAt : Nat := 0
  /-- The header has passed; the next record begins at `next`. -/
  checked : Bool := false
  next : Nat := 0
  /-- Address of an image in memory. -/
  address : Nat := 0
  /-- The image rewrites the acorn (R443). -/
  toAcorn : Bool := false
  /-- A record has been acted on. -/
  begun : Bool := false
  /-- Frames written, each run as its first frame and its length in the frame store's index. -/
  written : List (Nat × Nat) := []
  plls : List (Nat × List Word) := []
  pfs : List (Nat × List Byte) := []
  starts : List (Nat × Nat) := []
  /-- Engines whose instruction memory a record has written. -/
  imem : List Nat := []
  /-- Settings of a STAGED full image, by pod: fabric PLLs and pins. -/
  podPlls : Table (List (Nat × List Word)) := []
  podPins : Table (List (Nat × Word × Word)) := []
  blob : List Byte := []
  /-- END has been reached in place and the coverage is complete. -/
  ended : Bool := false
  command : Option SignedCmd := Option.none
  /-- The acorn image waiting for its flash work. -/
  acorn : List Byte := []
  deriving DecidableEq, Repr

/-- Start-up, trust and debug sessions beyond their registers and the flash (R436 to R451). -/
structure Trust where
  /-- The header PF1 to PF3 answer with (Table 15.4); none is the placeholder. -/
  pfs : Table (List Byte) := []
  /-- The PCIE_PF records of the live full image. -/
  pfRecords : List (Nat × List Byte) := []
  /-- The functions have answered configuration requests since PERST#. -/
  pfSeen : Bool := false
  /-- The latest nonce not yet used, and its extended instant (R449). -/
  nonce : Option (List Byte × Nat) := Option.none
  /-- Extended instant at which the session expires; none for one without an end. -/
  sessionEnd : Option Nat := Option.none
  /-- A session has expired and no command has come since. -/
  expired : Bool := false
  /-- Extended instant of the last failed unlock. -/
  failAt : Option Nat := Option.none
  class1 : Nat := 0
  glitches : List Nat := []
  /-- A class-2 tamper waits to be confirmed. -/
  class2 : Bool := false
  /-- The measurement chain, the digest and build_id of the live full image, and the digest of
  the running firmware (Table 15.12). -/
  chain : BitVec 512 := 0
  live : BitVec 512 := 0
  build : List Byte := []
  firmware : BitVec 512 := 0
  /-- BOOT is held by an unacknowledged tamper (R451). -/
  hold : Bool := false
  /-- Both firmware slots have failed (R436). -/
  recovery : Bool := false
  /-- The slot the husk runs from, and whether that firmware waits for its confirmation. -/
  slot : Nat := 0
  /-- A life-cycle change waits for its reset (R445). -/
  resetDue : Bool := false
  /-- The command buffer of PF0 (Table 15.7). -/
  buffer : Table Byte := []
  /-- Extended instant of the last FLASH_WEAR record (R442). -/
  wearAt : Option Nat := Option.none
  deriving DecidableEq, Repr


/-- An entry of the error collector (R457). -/
structure ErrEntry where
  subject : Subject
  cls : FaultClass
  reporter : Master
  status : BitVec 16
  detail : BitVec 48
  first : Nat
  last : Nat
  count : Nat
  overflow : Bool := false
  severity : Nat
  resolved : Bool := false
  /-- A notification is due (R458), and the millisecond of the last one. -/
  notify : Bool := false
  notifiedMs : Option Nat := Option.none
  deriving DecidableEq, Repr

/-- The error collector and the husk's fault policy beyond their registers (R456 to R463). -/
structure Collector where
  /-- Records on their way to the collector. -/
  arriving : List FaultRec := []
  entries : Table (Option ErrEntry) := []
  /-- Millisecond of the last ERR_SUMMARY notification of a class. -/
  summaryMs : Table (Option Nat) := []
  /-- Classes whose ERR_SUMMARY notification is due (R459). -/
  summaryDue : List Nat := []
  /-- Notifications given to the husk firmware. -/
  notified : List ErrEntry := []
  /-- The event log in flash, oldest first. -/
  log : List ErrEntry := []
  /-- Extended instants, or laps, of the events that count towards a fault, by what they concern. -/
  history : Table (List Nat) := []
  /-- Faults confirmed whose substitution is to be opened or is open, with their entries. -/
  confirmed : List (Fix × Nat) := []
  deferred : Table (Option Fix) := []
  /-- Links, as router and direction, whose routes a substitution moves, with its transaction or 0
  (R221). -/
  links : List (Nat × Nat × Nat) := []
  deriving DecidableEq, Repr

/-- The management cores and the governor beyond their registers (R464 to R472). -/
structure Husk where
  /-- A takeover is in progress; a restart of both cores is in progress. -/
  takeover : Bool := false
  restart : Bool := false
  /-- A handover in progress, with to_new. -/
  handover : Option Bool := Option.none
  /-- Extended instant from which firmware not yet confirmed has served. -/
  servedFrom : Nat := 0
  /-- VENG's setting in mV. -/
  veng : Nat := 750
  /-- Extended instant at which the surge's duration has passed; of the first VENG step; and the
  units charged since. -/
  surgeEnd : Option Nat := Option.none
  surgeAt : Nat := 0
  charged : Nat := 0
  /-- The ledger is being written ahead to flash before the first step. -/
  writing : Bool := false
  /-- Surge time left in units of 10 ms (R472). -/
  ledger : Nat := 720000000
  /-- A temperature has been read since power-on; the last readings passed the limits of R504. -/
  sampled : Bool := false
  outside : Bool := false
  /-- Extended second of the last TEMP_HIGH record. -/
  hotAt : Option Nat := Option.none
  deriving DecidableEq, Repr

/-- A READ or WRITE of the monitor that waits for the answer of a design: what asked, the tag of
the packet, the next address, the bytes read so far and those left to read or to write. -/
structure MonAway where
  via : MonVia
  op : Nat
  tag : BitVec 8
  address : BitVec 48
  got : List Byte := []
  left : Nat := 0
  data : List Byte := []
  poison : Bool := false
  deriving DecidableEq, Repr

/-- The Shoxo monitor and its debug domain beyond the DBG registers (chapter 17). -/
structure Monitor where
  /-- The debug domain has power, and it operates. -/
  powered : Bool := false
  ready : Bool := false
  /-- Commands that wait for the domain (R473) or for the step before them. -/
  waiting : List (MonVia × MonCmd) := []
  /-- What is left of the reply, with its header's fields. -/
  reply : List Byte := []
  replyOp : Nat := 0
  replyPoison : Bool := false
  baud : Nat := 115200
  /-- Frames sent on the UART, each with the status of its command. -/
  sent : List (Nat × List Byte) := []
  /-- The capture buffer (Table 17.4); bytes not listed read zero. -/
  capture : Table Byte := []
  captures : Nat := 0
  /-- The engine that runs a step, the instructions left of it, and who asked (R484). -/
  stepping : Option (Nat × Nat × MonVia) := Option.none
  /-- Extended instant of the resume tick; at it the frozen blocks resume, and then the session
  ends (R474, R483). -/
  resumeAt : Nat := 0
  thaw : Bool := false
  ending : Bool := false
  away : Option MonAway := Option.none
  deriving DecidableEq, Repr

/-- Why a command stops with a fault. -/
inductive Fault where
  /-- Raised by no command of this block: the spec gives every command of the table an
  effect, an error response or a refusal with a status code. Safe. -/
  | unreachable
  deriving DecidableEq, Repr

/-- Why a command has no meaning. -/
inductive Refusal where
  /-- Raised by the arms of `exec` for commands without a meaning yet. Safe. -/
  | notModelled (mnemonic : String)
  deriving DecidableEq, Repr

/-- The state of the device. -/
structure State where
  /-- The commands that are waiting, first in first out. -/
  pending : List Instr := []
  ctrl : Ctrl := {}
  response : Resp := .none
  /-- The model's own counter of free values used (notes/assumptions/4). -/
  freeCount : Nat := 0
  faults : Table (List FaultRec) := []
  faultLost : Table Nat := []
  claims : Table (Option Master) := []
  cues : Table CueAction := []
  dev : Dev := {}
  tim : Tim := {}
  txu : Txu := {}
  cfg : Cfg := {}
  fabric : Fabric := {}
  mbx : Table Mailbox := []
  spm : Spm := {}
  noc : Noc := {}
  msix : Msix := {}
  waits : Table Wait := []
  eng : Table Engine := []
  spares : Table Spare := []
  laps : Table Lap := []
  dram : Dram := {}
  qe : Qe := {}
  cvl : Cvl := {}
  ntl : Ntl := {}
  fuses : Fuses := {}
  flash : Flash := {}
  loader : Loader := {}
  trust : Trust := {}
  err : Collector := {}
  husk : Husk := {}
  mon : Monitor := {}
  clk : Clk := {}
  pads : Table Pad := []
  tap : Tap := {}
  deriving DecidableEq, Repr

/-- The device right after power-on, as transition 0x01 leaves it (R27): mode HELD. -/
def State.reset : State := {}

end Sys2Proof.Machine
end

