-- ==== Sys2Proof/Machine/KotinCode.lean ====
section
/-! DEFINITION. The 64-bit words of Kotin instructions (R157, Tables 5.1 and 5.5): the
operations by format with their opcodes, the decoder and the encoder. -/

namespace Sys2Proof.Machine

/-- The operations of format R. -/
inductive ROp where
  | nop | kend | lock | kick | rti | stm | rdst | wrst | mov | rda | wra | swp | cnj
  | add | sub | kand | kor | xor | shl | shr | shru | cmp | neg | kabs | kmin | kmax
  | clra | mova | lda | adda | mac | cmac
  | rdt | waitt | waite | cue | uncue | evclr | pev | prd | pwr | dbell
  | txopen | txcmt | txabt | txst
  deriving DecidableEq, Repr

/-- The operations of format T. -/
inductive TOp where
  | ld | kst | ldf | stf | aadd | aswp | send | enq | deq | qmov
  deriving DecidableEq, Repr

/-- The operations of format M. -/
inductive MOp where
  | macm | cmacm | cmac2 | ftap | bfly
  deriving DecidableEq, Repr

/-- The operations of format C. -/
inductive COp where
  | br | call | ret | jr | loop | loopr
  deriving DecidableEq, Repr

/-- A Kotin instruction: its operation and the fields of its format. LDI is the one
operation of format I. -/
inductive KInstr where
  | r (op : ROp) (f : KR)
  | i (f : KI)
  | m (op : MOp) (f : KM)
  | t (op : TOp) (f : KT)
  | c (op : COp) (f : KC)
  deriving DecidableEq, Repr

/-! Opcodes (Table 5.5). -/

def ROp.code : ROp → BitVec 8
  | .nop => 0x00 | .kend => 0x01 | .lock => 0x02 | .kick => 0x03 | .rti => 0x04 | .stm => 0x05
  | .rdst => 0x06 | .wrst => 0x07 | .mov => 0x11 | .rda => 0x12 | .wra => 0x13 | .swp => 0x14
  | .cnj => 0x15 | .add => 0x20 | .sub => 0x21 | .kand => 0x22 | .kor => 0x23 | .xor => 0x24
  | .shl => 0x25 | .shr => 0x26 | .shru => 0x27 | .cmp => 0x28 | .neg => 0x29 | .kabs => 0x2A
  | .kmin => 0x2B | .kmax => 0x2C | .clra => 0x38 | .mova => 0x39 | .lda => 0x3A | .adda => 0x3B
  | .mac => 0x44 | .cmac => 0x45 | .rdt => 0x60 | .waitt => 0x61 | .waite => 0x62 | .cue => 0x63
  | .uncue => 0x64 | .evclr => 0x65 | .pev => 0x66 | .prd => 0x68 | .pwr => 0x69 | .dbell => 0x75
  | .txopen => 0x7C | .txcmt => 0x7D | .txabt => 0x7E | .txst => 0x7F

def TOp.code : TOp → BitVec 8
  | .ld => 0x30 | .kst => 0x31 | .ldf => 0x70 | .stf => 0x71 | .aadd => 0x72 | .aswp => 0x73
  | .send => 0x74 | .enq => 0x78 | .deq => 0x79 | .qmov => 0x7A

def MOp.code : MOp → BitVec 8
  | .macm => 0x40 | .cmacm => 0x41 | .cmac2 => 0x42 | .ftap => 0x43 | .bfly => 0x48

def COp.code : COp → BitVec 8
  | .br => 0x50 | .call => 0x51 | .ret => 0x52 | .jr => 0x53 | .loop => 0x54 | .loopr => 0x55

def ldiCode : BitVec 8 := 0x10

def ROp.all : List ROp := [
  .nop, .kend, .lock, .kick, .rti, .stm, .rdst, .wrst, .mov, .rda, .wra, .swp, .cnj,
  .add, .sub, .kand, .kor, .xor, .shl, .shr, .shru, .cmp, .neg, .kabs, .kmin, .kmax,
  .clra, .mova, .lda, .adda, .mac, .cmac, .rdt, .waitt, .waite, .cue, .uncue, .evclr, .pev,
  .prd, .pwr, .dbell, .txopen, .txcmt, .txabt, .txst]

def TOp.all : List TOp := [.ld, .kst, .ldf, .stf, .aadd, .aswp, .send, .enq, .deq, .qmov]
def MOp.all : List MOp := [.macm, .cmacm, .cmac2, .ftap, .bfly]
def COp.all : List COp := [.br, .call, .ret, .jr, .loop, .loopr]

/-- The word of an instruction (Table 5.1): the "—" fields are zero. -/
def kotinEncode : KInstr → DWord
  | .r op f => op.code ++ f.d ++ f.a ++ f.b ++ f.mod ++ f.imm
  | .i f => ldiCode ++ f.d ++ 0#14 ++ f.imm
  | .m op f => op.code ++ f.k ++ f.xs ++ f.ys ++ f.cs ++ f.g ++ f.mod ++ 0#24
  | .t op f => op.code ++ f.d ++ f.a ++ f.p ++ f.pm ++ f.mod ++ f.imm
  | .c op f => op.code ++ f.cond ++ 0#2 ++ f.a ++ 0#15 ++ f.count ++ f.target

def krFields (w : DWord) : KR :=
  { d := w.extractLsb' 50 6, a := w.extractLsb' 44 6, b := w.extractLsb' 38 6
    mod := w.extractLsb' 32 6, imm := w.extractLsb' 0 32 }

def kiFields (w : DWord) : KI := { d := w.extractLsb' 50 6, imm := w.extractLsb' 0 36 }

def kmFields (w : DWord) : KM :=
  { k := w.extractLsb' 53 3, xs := w.extractLsb' 47 6, ys := w.extractLsb' 41 6
    cs := w.extractLsb' 35 6, g := w.extractLsb' 29 6, mod := w.extractLsb' 24 5 }

def ktFields (w : DWord) : KT :=
  { d := w.extractLsb' 50 6, a := w.extractLsb' 44 6, p := w.extractLsb' 40 4
    pm := w.extractLsb' 38 2, mod := w.extractLsb' 32 6, imm := w.extractLsb' 0 32 }

def kcFields (w : DWord) : KC :=
  { cond := w.extractLsb' 52 4, a := w.extractLsb' 44 6, count := w.extractLsb' 13 16
    target := w.extractLsb' 0 13 }

def ROp.ofCode (c : BitVec 8) : Option ROp := ROp.all.find? fun o => o.code == c
def TOp.ofCode (c : BitVec 8) : Option TOp := TOp.all.find? fun o => o.code == c
def MOp.ofCode (c : BitVec 8) : Option MOp := MOp.all.find? fun o => o.code == c
def COp.ofCode (c : BitVec 8) : Option COp := COp.all.find? fun o => o.code == c

/-- The instruction a word spells; none for an opcode absent from Table 5.5 or a non-zero
"—" field (R157). -/
def kotinDecode (w : DWord) : Option KInstr :=
  let c := w.extractLsb' 56 8
  match ROp.ofCode c, TOp.ofCode c, MOp.ofCode c, COp.ofCode c with
  | some op, _, _, _ => some (.r op (krFields w))
  | none, some op, _, _ => some (.t op (ktFields w))
  | none, none, some op, _ =>
    if w.extractLsb' 0 24 = 0 then some (.m op (kmFields w)) else none
  | none, none, none, some op =>
    if w.extractLsb' 50 2 = 0 ∧ w.extractLsb' 29 15 = 0 then some (.c op (kcFields w)) else none
  | none, none, none, none =>
    if c = ldiCode ∧ w.extractLsb' 36 14 = 0 then some (.i (kiFields w)) else none

end Sys2Proof.Machine
end

