-- ==== Sys2Proof/Machine/Cell.lean ====
section
/-! DEFINITION. What the design's own resources compute (chapter 2): the place of regions,
tables, flip-flops, the carry chain, arithmetic slices, block-memory ports and aspects, tree
dividers, and where engine ports and access points stand. -/

namespace Sys2Proof.Machine

/-! ## Places (R44, R72, R81, R85) -/

/-- Die, row and column of region `n` (R44). -/
def regionDie (n : Nat) : Nat := n / 48
def regionRow (n : Nat) : Nat := n % 48 / 6
def regionCol (n : Nat) : Nat := n % 6

/-- The fabric PLL that serves region `n` (R72). -/
def regionPll (n : Nat) : Nat := 12 * regionDie n + 3 * (regionRow n / 2) + regionCol n / 2

/-- The region column west of an engine column (R81). -/
def engineColumn : Nat → Nat
  | 0 => 0
  | 1 => 1
  | 2 => 3
  | _ => 4

/-- The region that reaches the engine ports of cluster `c` (R81). -/
def clusterRegion (c : Nat) : Nat :=
  48 * (c / 64) + 6 * (c % 64 % 16 / 2) + engineColumn (c % 64 / 16)

/-- The region of the engine port of logical engine `n`. -/
def engineRegion (n : Nat) : Nat := clusterRegion (n / 8)

/-- The region of access point `p`, and its half (R85). -/
def pointRegion (p : Nat) : Nat := p / 2
def pointHalf (p : Nat) : Nat := p % 2

/-! ## Tables (R46, R47) -/

/-- F6 of a table for the inputs I5 to I0. -/
def tableF6 (t : BitVec 64) (i : BitVec 6) : Bool := t.getLsbD i.toNat
/-- F5 reads the lower half only. -/
def tableF5 (t : BitVec 64) (i : BitVec 6) : Bool := t.getLsbD (i.toNat % 32)
/-- In split use the configuration forces I5 to 1. -/
def splitF6 (t : BitVec 64) (i : BitVec 6) : Bool := tableF6 t (i ||| 32#6)

/-! ## Flip-flops (R51) -/

/-- The inputs of a flip-flop in one evaluation: `edge` is the active edge of its control
set, `srOn` SR after its polarity. -/
structure FlipIn where
  gsr : Bool
  psr : Bool
  srOn : Bool
  srAsync : Bool
  edge : Bool
  ce : Bool
  ceOff : Bool
  d : Bool
  deriving DecidableEq, Repr

/-- The next value of a flip-flop with init and sr_level `lvl`, now at `s` (R51). -/
def flipNext (init lvl s : Bool) (x : FlipIn) : Bool :=
  if x.gsr || x.psr then init
  else if x.srOn && x.srAsync then lvl
  else if x.edge then (if x.srOn then lvl else if x.ce || x.ceOff then x.d else s)
  else s

/-! ## Carry chain (R52) -/

/-- SUM and the carry out of one cell. -/
def carryCell (f6 f5 j genSel c : Bool) : Bool × Bool :=
  (Bool.xor f6 c, if f6 then c else if genSel then j else f5)

/-- A chain of cells from carry `c`: the sums, cell 0 first, and the last carry. -/
def carryChain (c : Bool) : List (Bool × Bool × Bool × Bool) → List Bool × Bool
  | [] => ([], c)
  | (f6, f5, j, g) :: l =>
    let r := carryCell f6 f5 j g c
    let t := carryChain r.2 l
    (r.1 :: t.1, t.2)

/-! ## Arithmetic slices (R59 to R61) -/

inductive PreMode where
  | off | add | sub | rsub
  deriving DecidableEq, Repr

def clampInt (lo hi x : Int) : Int := if x < lo then lo else if hi < x then hi else x

/-- The pre-adder's 19-bit value. -/
def preValue (m : PreMode) (u v : Int) : Int :=
  match m with
  | .off => u
  | .add => u + v
  | .sub => u - v
  | .rsub => v - u

/-- The 18-bit multiplier operand: HALF or SAT; mode OFF is not reduced. -/
def preAdd (m : PreMode) (half : Bool) (u v : Int) : Int :=
  let x := preValue m u v
  if m = .off then x else if half then x / 2 else clampInt (-131072) 131071 x

/-- Wrap to a signed 48-bit number. -/
def wrap48 (x : Int) : Int := (BitVec.ofInt 48 x).toInt

/-- The next accumulator value and whether the exact result leaves 48 bits (R60). -/
def sliceAcc (subtract clamp : Bool) (z x w : Int) : Int × Bool :=
  let e := if subtract then z - x * w else z + x * w
  let out := decide (e < -140737488355328) || decide (140737488355327 < e)
  (if clamp then clampInt (-140737488355328) 140737488355327 e else wrap48 e, out)

/-- Round an accumulator by a shift of `s` (R61): floor, or convergent. -/
def sliceRound (conv : Bool) (acc : Int) (s : Nat) : Int :=
  let q := acc / 2 ^ s
  let r := acc % 2 ^ s
  if conv && s != 0 then
    let half : Int := 2 ^ (s - 1)
    if half < r ∨ (r = half ∧ q % 2 = 1) then q + 1 else q
  else q

/-- OUT and rsat of a slice (R61). -/
def sliceOut (conv sat : Bool) (acc : Int) (s : Nat) : Int × Bool :=
  let q := sliceRound conv acc s
  if sat then
    let c := clampInt (-131072) 131071 q
    (c, c != q)
  else ((BitVec.ofInt 18 q).toInt, false)

/-! ## Block memories (R63, R65, R68) -/

/-- The 18-bit word of 36-bit address `u` and half `h`, and of 9-bit address `b`. -/
def word36 (u : Nat) (h : Bool) : Nat := 2 * u + b2n h
def word9 (b : Nat) : Nat := b / 2

/-- The 9-bit word `b` within its 18-bit word. -/
def get9 (w : BitVec 18) (b : Nat) : BitVec 9 :=
  if b % 2 = 0 then w.extractLsb' 0 9 else w.extractLsb' 9 9

/-- An 18-bit word with one 9-bit half written (R68). -/
def put9 (w : BitVec 18) (b : Nat) (v : BitVec 9) : BitVec 18 :=
  if b % 2 = 0 then (w &&& 0x3FE00#18) ||| v.setWidth 18
  else (w &&& 0x1FF#18) ||| (v.setWidth 18 <<< 9)

inductive WriteView where
  | new | old | hold
  deriving DecidableEq, Repr

/-- What a port's read output shows after a write of `v` over `w` (R64). -/
def viewAfter (m : WriteView) (prev w v : BitVec 18) : BitVec 18 :=
  match m with
  | .new => v
  | .old => w
  | .hold => prev

/-- Both ports on one 18-bit word (R65, Table 2.7): what the word becomes, what a reading
port returns, and the COLLIDE pulses of A and B. `second` says that A is ordered second
where the clocks differ; on a shared edge B is ordered first. -/
def bramBoth (w : BitVec 18) (a b : Option (BitVec 18)) (shared second : Bool) :
    BitVec 18 × BitVec 18 × Bool × Bool :=
  match a, b with
  | none, none => (w, w, false, false)
  | some x, none => (x, if !shared && !second then x else w, false, false)
  | none, some y => (y, if shared || second then y else w, false, false)
  | some x, some y =>
    if shared || second then (x, w, false, true) else (y, w, true, false)

/-! ## Dividers (R73) -/

/-- High and low input periods of one output period of a divider by `n`. -/
def divHigh (n : Nat) : Nat := (n + 1) / 2
def divLow (n : Nat) : Nat := n / 2

/-- The longest a tree switch takes, in femtoseconds, from the clock periods (R74). -/
def treeSwitchMax (oldPeriod newPeriod : Nat) : Nat := 3 * oldPeriod + 3 * newPeriod

end Sys2Proof.Machine
end

