-- ==== Sys2Proof/Machine/Codes.lean ====
section
/-! DEFINITION. Status codes (R12, R13 and the code tables of the chapters), the modes of
Table 1.5, the sprout states of Table 3.4, the engine states of Table 4.5, and the codes
and severities of the fault classes (Table 16.3). -/

namespace Sys2Proof.Machine

/-! Status codes. -/
namespace Code
def ok : Nat := 0
def wrongDevice : Nat := 0x0101
def truncated : Nat := 0x0102
def badSignature : Nat := 0x0103
def frameOutsidePod : Nat := 0x0104
def rollback : Nat := 0x0105
def updatePreempted : Nat := 0x0106
def podBusy : Nat := 0x0107
def planeInvalid : Nat := 0x0108
def badPodTable : Nat := 0x0109
def notStaged : Nat := 0x010A
def loadSequence : Nat := 0x010B
def floorExhausted : Nat := 0x010C
def badRecord : Nat := 0x010D
def loaderBusy : Nat := 0x010E
def flashWorn : Nat := 0x010F
def noImage : Nat := 0x0110
def fuseFail : Nat := 0x0111
def handoverRefused : Nat := 0x0112
def prepareTimeout : Nat := 0x0201
def aborted : Nat := 0x0202
def partialApply : Nat := 0x0203
def abortHalted : Nat := 0x0204
def voteRefused : Nat := 0x0205
def voteWithdrawn : Nat := 0x0206
def launchTooSoon : Nat := 0x0207
def txLimit : Nat := 0x0208
def txTableFull : Nat := 0x0209
def txClosed : Nat := 0x020A
def txUnknown : Nat := 0x020B
def farFuture : Nat := 0x0301
def queueFull : Nat := 0x0302
def poolEmpty : Nat := 0x0303
def queueEmpty : Nat := 0x0304
def notReleased : Nat := 0x0305
def queueDisabled : Nat := 0x0306
def tooLong : Nat := 0x0307
def entryCrc : Nat := 0x0308
def headHeld : Nat := 0x0309
def queueBroken : Nat := 0x030A
def stageFull : Nat := 0x030B
def assemblyLost : Nat := 0x030C
def poisoned : Nat := 0x0401
def blockedRange : Nat := 0x0402
def channelDown : Nat := 0x0403
def caFailed : Nat := 0x0404
def tagMismatch : Nat := 0x0405
def sweepBusy : Nat := 0x0406
def bankUnpowered : Nat := 0x0407
def holdover : Nat := 0x0501
def timeOutOfWindow : Nat := 0x0502
def noSource : Nat := 0x0503
def stepRefused : Nat := 0x0504
def servoHeld : Nat := 0x0505
def adjustBusy : Nat := 0x0506
def debugLocked : Nat := 0x0601
def sessionExpired : Nat := 0x0602
def unlockBackoff : Nat := 0x0603
def outOfScope : Nat := 0x0604
def notHalted : Nat := 0x0605
def noSpare : Nat := 0x0701
def repairAbandoned : Nat := 0x0702
def repairDeferred : Nat := 0x0703
def claimBusy : Nat := 0x0801
def invalidArgument : Nat := 0xFF01
def notPermitted : Nat := 0xFF02
def unsupported : Nat := 0xFF03
end Code

/-! Modes (Table 1.5). -/
namespace Mode
def off : Nat := 0x0
def held : Nat := 0x1
def boot : Nat := 0x2
def load : Nat := 0x3
def rendezvous : Nat := 0x4
def service : Nat := 0x5
def update : Nat := 0x6
def repair : Nat := 0x7
def fallback : Nat := 0x8
def halt : Nat := 0x9
def dormant : Nat := 0xA
def zeroised : Nat := 0xB
end Mode

/-! Sprout states of a pod (Table 3.4). -/
namespace Sprout
def idle : Nat := 0
def staging : Nat := 1
def staged : Nat := 2
def armed : Nat := 3
def switching : Nat := 4
def previous : Nat := 5
def repairHeld : Nat := 6
end Sprout

/-! Engine states (Table 4.5). -/
namespace EngState
def off : Nat := 0
def stopped : Nat := 1
def running : Nat := 2
def waiting : Nat := 3
def halted : Nat := 4
def faulted : Nat := 5
def moving : Nat := 6
end EngState

/-! Domain states (Table 8.4). -/
namespace DomState
def free : Nat := 0
def acquiring : Nat := 1
def locked : Nat := 2
def holdover : Nat := 3
end DomState

/-- The class codes of Table 16.3. -/
def FaultClass.code : FaultClass → Nat
  | .decode => 0x01 | .claim => 0x02 | .clock => 0x03 | .rendezvous => 0x04 | .hostAccess => 0x05
  | .cfgCe => 0x10 | .cfgUe => 0x11 | .bramCe => 0x12 | .bramUe => 0x13 | .sliceRes => 0x14
  | .eport => 0x15 | .fabricTimeout => 0x16 | .switchAbort => 0x17 | .twinMismatch => 0x18
  | .engCe => 0x20 | .engUe => 0x21 | .engExc => 0x22 | .engRes => 0x23 | .watchdog => 0x24
  | .crc => 0x30 | .poison => 0x31 | .misroute => 0x32 | .linkMarginal => 0x33
  | .nocReplay => 0x34 | .linkDown => 0x35 | .discard => 0x36 | .msgOverrun => 0x37
  | .reqTimeout => 0x38
  | .qeAssembly => 0x40 | .qeRefused => 0x41 | .qeDrop => 0x42 | .launchLate => 0x43
  | .qeChain => 0x44
  | .timeState => 0x50 | .timeStep => 0x51 | .servoWd => 0x52 | .timeDist => 0x53
  | .tsense => 0x54 | .tebLimit => 0x55 | .timeSwitch => 0x56
  | .txStage => 0x60 | .txPartial => 0x61 | .txLost => 0x62 | .txOrphan => 0x63
  | .txLateStage => 0x64
  | .cvlIlas => 0x70 | .cvlAlign => 0x71 | .cvlOverrun => 0x72 | .cvlLate => 0x73
  | .cvlLane => 0x74 | .ntlRxDrop => 0x78 | .ntlTsLost => 0x79 | .ntlLink => 0x7A
  | .dramConfig => 0x80 | .dramHot => 0x81 | .dramTrain => 0x82 | .dramCe => 0x83
  | .dramUe => 0x84 | .dramCa => 0x85
  | .mpTag => 0x88 | .mpBlocked => 0x89 | .spmCe => 0x8A | .spmUe => 0x8B
  | .pciPoison => 0x8C | .mbxTimeout => 0x8D
  | .loadReject => 0x90 | .fwSlot => 0x91 | .flashWear => 0x92 | .trustCmd => 0x93
  | .tamper1 => 0x94 | .tamper2 => 0x95
  | .repair => 0xA0 | .huskCore => 0xA1 | .handover => 0xA2 | .tempHigh => 0xA3
  | .surge => 0xA4 | .wearSpent => 0xA5 | .vengLimit => 0xA6 | .errSummary => 0xA7
  | .reportLost => 0xA8

/-- The usual severity of a class (Table 16.3): 1 NOTICE, 2 WARNING, 3 ERROR, 4 CRITICAL. -/
def FaultClass.severity : FaultClass → Nat
  | .decode | .claim | .clock | .rendezvous | .hostAccess => 2
  | .cfgCe | .bramCe => 1
  | .cfgUe | .bramUe | .sliceRes | .eport | .fabricTimeout | .switchAbort | .twinMismatch => 3
  | .engCe => 1
  | .engUe | .engExc | .engRes | .watchdog => 3
  | .nocReplay => 1
  | .linkMarginal => 2
  | .crc | .poison | .misroute | .linkDown | .discard | .msgOverrun | .reqTimeout => 3
  | .qeAssembly | .qeRefused | .qeDrop | .launchLate => 2
  | .qeChain => 3
  | .servoWd | .tebLimit => 3
  | .timeState | .timeStep | .timeDist | .tsense | .timeSwitch => 1
  | .txPartial | .txLost => 3
  | .txStage | .txOrphan | .txLateStage => 2
  | .cvlLane | .ntlLink => 3
  | .cvlIlas | .cvlAlign | .cvlOverrun | .cvlLate | .ntlRxDrop | .ntlTsLost => 2
  | .dramCe | .spmCe => 1
  | .mpBlocked | .mbxTimeout => 2
  | .dramConfig | .dramHot | .dramTrain | .dramUe | .dramCa | .mpTag | .spmUe | .pciPoison => 3
  | .tamper2 => 4
  | .loadReject | .fwSlot | .flashWear | .trustCmd | .tamper1 => 2
  | .repair | .surge => 1
  | .huskCore | .tempHigh => 3
  | .handover | .wearSpent | .vengLimit | .errSummary | .reportLost => 2

end Sys2Proof.Machine
end

