-- ==== Sys2Proof/Machine/Ops.lean ====
section
/-! DEFINITION. The named operations every block shares: reading and writing registers and
their fields, masters and their NIs, service time and the time comparison, fault records,
claims, cue slots, the mode register, free values, and packets a unit sends. -/

namespace Sys2Proof.Machine

/-! ## Registers -/

/-- The live value of the register at control-space offset `off`. -/
def State.reg (s : State) (off : Nat) : Word := Table.get resetWord s.ctrl.regs off

/-- The state with the register at `off` holding `w`. -/
def State.setReg (s : State) (off : Nat) (w : Word) : State :=
  { s with ctrl := { s.ctrl with regs := Table.set resetWord s.ctrl.regs off w } }

/-- The value of a register field. -/
def State.fld (s : State) (f : Field) : Nat := f.get (s.reg f.off)

/-- The state with one register field set, modulo its width. -/
def State.setFld (s : State) (f : Field) (v : Nat) : State :=
  s.setReg f.off (f.put (s.reg f.off) v)

/-- Whether a one-bit field is set. -/
def State.bit (s : State) (f : Field) : Bool := s.fld f == 1

def State.setBit (s : State) (f : Field) (b : Bool) : State := s.setFld f (b2n b)

/-- A counter field that wraps. -/
def State.incFld (s : State) (f : Field) (n : Nat := 1) : State := s.setFld f (s.fld f + n)

/-- A counter field that saturates, with its overflow flag. -/
def State.satFld (s : State) (f ovf : Field) (n : Nat := 1) : State :=
  if s.fld f + n < 2 ^ f.width then s.setFld f (s.fld f + n)
  else (s.setFld f (2 ^ f.width - 1)).setFld ovf 1

/-- A counter field that saturates without a flag. -/
def State.satOnly (s : State) (f : Field) (n : Nat := 1) : State :=
  s.setFld f (min (2 ^ f.width - 1) (s.fld f + n))

/-! ## Masters and NIs -/

/-- The NI a master stands at, as block code and index of NOC_NI_DIR, in one number: two
masters at one NI have one key. Engines act through their cluster's NI (R129). -/
def Master.key : Master → Nat
  | .husk => 0xF3 * 1024
  | .host => 0x68 * 1024
  | .monitor => 0x90 * 1024
  | .txu => 0x14 * 1024
  | .engine n => 0xF1 * 1024 + n.val / 8
  | .accessPoint p => 0xF0 * 1024 + p.val
  | .unit b i => b.val * 1024 + i.val

/-- Whether two masters stand at one NI. -/
def Master.same (a b : Master) : Bool := a.key == b.key

/-- The kind of a claim holder (DEV_CLAIM.holder_kind): 1 husk, 2 transaction, 3 design or
program. -/
def Master.claimKind : Master → Nat
  | .husk => 1
  | .txu => 2
  | _ => 3

/-- The key of what stands at NI number `n` (R200); block 0 is no NI. -/
def niKey (n : Nat) : Nat := (Config.niDir n).1.toNat * 1024 + (Config.niDir n).2.toNat

/-- Whether NI number `n` is a position with an NI (R199, R200). -/
def niPresent (n : Nat) : Bool := decide (n < 768) && (Config.niDir n).1 != 0

/-- The NI number of the unit with a key: the position the directory gives it. -/
def niOfKey (k : Nat) : Nat := ((List.range 768).find? fun n => niKey n == k).getD 0

/-- The NI number of a master (R200). -/
def Master.ni (m : Master) : Nat := niOfKey m.key

/-- The unit that stands at NI `n`, as a master. -/
def masterAt (n : Nat) : Master :=
  let b := (Config.niDir n).1.toNat
  let i := (Config.niDir n).2.toNat
  if h : b = 0xF0 ∧ i < 192 then .accessPoint ⟨i, h.2⟩
  else if h : b = 0xF1 ∧ i * 8 < 1024 then .engine ⟨i * 8, h.2⟩
  else if b = 0xF3 then .husk
  else if b = 0x68 then .host
  else if b = 0x90 then .monitor
  else if b = 0x14 then .txu
  else .unit (Fin.ofNat 256 b) (Fin.ofNat 1024 i)

/-! The units of the device at their NIs (NOC_NI_DIR.block). -/
namespace Unit
def dev : Master := .unit 0xF2 0
def tim : Master := .unit 0x10 0
def qe : Master := .unit 0x18 0
def cfg : Master := .unit 0x70 0
def mbx : Master := .unit 0x44 0
def spm (s : Nat) : Master := .unit 0x40 (Fin.ofNat 1024 s)
def mc (k sub : Nat) : Master := .unit (Fin.ofNat 256 (0x30 + k)) (Fin.ofNat 1024 sub)
def mp : Master := .unit 0x38 0
def cvl (g : Nat) : Master := .unit 0x50 (Fin.ofNat 1024 g)
def ntl (b : Nat) : Master := .unit 0x60 (Fin.ofNat 1024 b)
def clk : Master := .unit 0x01 0
def pin : Master := .unit 0x02 0
def err : Master := .unit 0x80 0
def ni (n : Nat) : Master := masterAt n
def router (r : Nat) : Master := .unit 0x20 (Fin.ofNat 1024 r)
end Unit

/-- The offset of the control register block of control offset `off` (Table 1.4). -/
def blockBase (off : Nat) : Nat :=
  if 0x1000000 ≤ off then off - off % 0x1000
  else if 0x900000 ≤ off then 0x900000
  else if 0x800000 ≤ off then 0x800000
  else if 0x700000 ≤ off then 0x700000
  else if 0x680000 ≤ off then 0x680000
  else if 0x600000 ≤ off then 0x600000
  else if 0x500000 ≤ off then 0x500000
  else if 0x440000 ≤ off then 0x440000
  else if 0x400000 ≤ off then 0x400000
  else if 0x380000 ≤ off then 0x380000
  else if 0x300000 ≤ off then 0x300000
  else if 0x200000 ≤ off then 0x200000
  else if 0x180000 ≤ off then 0x180000
  else if 0x140000 ≤ off then 0x140000
  else if 0x100000 ≤ off then 0x100000
  else off / 0x10000 * 0x10000

/-- The unit whose NI receives accesses of the control register at `off`. -/
def regUnit (off : Nat) : Master :=
  let b := blockBase off
  if 0x1000000 ≤ b then
    if h : (b - 0x1000000) / 0x1000 < 1024 then .engine ⟨(b - 0x1000000) / 0x1000, h⟩ else Unit.dev
  else if b = 0 then Unit.dev
  else if b = 0x140000 then .txu
  else if b = 0x680000 then .host
  else if b = 0x900000 then .monitor
  else .unit (Fin.ofNat 256 (b / 0x10000)) 0

/-! ## Registers held per source NI, shadows, latches -/

/-- The key of a register in a table that is kept per source NI. -/
def srcKey (m : Master) (off : Nat) : Nat := m.key * 0x2000000 + off

def srcDefault (k : Nat) : Word := resetWord (k % 0x2000000)

/-- A register held separately for each source NI, as `m` sees it. -/
def State.srcReg (s : State) (m : Master) (off : Nat) : Word :=
  Table.get srcDefault s.ctrl.src (srcKey m off)

def State.setSrcReg (s : State) (m : Master) (off : Nat) (w : Word) : State :=
  { s with ctrl := { s.ctrl with src := Table.set srcDefault s.ctrl.src (srcKey m off) w } }

def State.srcFld (s : State) (m : Master) (f : Field) : Nat := f.get (s.srcReg m f.off)

def State.setSrcFld (s : State) (m : Master) (f : Field) (v : Nat) : State :=
  s.setSrcReg m f.off (f.put (s.srcReg m f.off) v)

/-- The shadow copy of an SH word (R8); until a write it is the reset value. -/
def State.shadow (s : State) (off : Nat) : Word := Table.get resetWord s.ctrl.shadow off

def State.setShadow (s : State) (off : Nat) (w : Word) : State :=
  { s with ctrl := { s.ctrl with shadow := Table.set resetWord s.ctrl.shadow off w } }

def noWord (_ : Nat) : Option Word := none

/-- The half of a wide value latched for a source NI (R11). -/
def State.latched (s : State) (m : Master) (off : Nat) : Option Word :=
  Table.get noWord s.ctrl.latch (srcKey m off)

def State.setLatch (s : State) (m : Master) (off : Nat) (w : Option Word) : State :=
  { s with ctrl := { s.ctrl with latch := Table.set noWord s.ctrl.latch (srcKey m off) w } }

/-- The held low half of a wide value a source NI has written (R11). -/
def State.heldLo (s : State) (m : Master) (off : Nat) : Option Word :=
  Table.get noWord s.ctrl.held (srcKey m off)

def State.setHeld (s : State) (m : Master) (off : Nat) (w : Option Word) : State :=
  { s with ctrl := { s.ctrl with held := Table.set noWord s.ctrl.held (srcKey m off) w } }

/-- A write of the high half of a wide value together with the held low half of the same
source (R11): both words take effect. -/
def State.writePair (s : State) (m : Master) (lo hi : Nat) (w : Word) : State :=
  let s1 := match s.heldLo m lo with
    | some l => (s.setReg lo l).setHeld m lo none
    | none => s
  s1.setReg hi w

/-- The 64-bit value of a _LO, _HI pair. -/
def State.pair (s : State) (lo hi : Nat) : Nat := (s.reg lo).toNat + 2 ^ 32 * (s.reg hi).toNat

def State.setPair (s : State) (lo hi v : Nat) : State :=
  (s.setReg lo (BitVec.ofNat 32 v)).setReg hi (BitVec.ofNat 32 (v / 2 ^ 32))

/-! ## Responses and free values -/

/-- The command completes with an acknowledgement that carries a status. -/
def State.ack (s : State) (status : Nat := 0) : State :=
  { s with response := .ack (BitVec.ofNat 16 status) }

/-- The access completes with an error response. -/
def State.error (s : State) (status : Nat := 0) : State :=
  { s with response := .error (BitVec.ofNat 16 status) }

/-- The access completes with read data. -/
def State.reply (s : State) (bytes : List Byte) (poison : Bool := false) : State :=
  { s with response := .data bytes poison }

/-- A refused register write (R509): no field changes, the acknowledgement is 0x0000, and
the status is recorded in `f`. -/
def State.refuse (s : State) (f : Field) (status : Nat) : State := (s.setFld f status).ack

/-- The next free value (notes/assumptions/4): an opaque number, and the counter advanced. -/
def State.free (s : State) : Nat × State :=
  ((Config.freeValue s.freeCount).toNat, { s with freeCount := s.freeCount + 1 })

/-! ## Service time -/

def State.dom (s : State) (b : Bool) : Domain := if b then s.tim.b else s.tim.a

def State.setDom (s : State) (b : Bool) (d : Domain) : State :=
  { s with tim := if b then { s.tim with b := d } else { s.tim with a := d } }

/-- Whether domain B serves the service timescale (TIM_SVC_STATUS.dom). -/
def State.serving (s : State) : Bool := s.bit F.TIM_SVC_STATUS_dom

/-- S = D_sel + O, 96 bits: epoch, count and fraction (R259, R282). -/
def State.svc (s : State) : BitVec 96 :=
  (s.dom s.serving).time + BitVec.ofInt 96 s.tim.offset

/-- Extended service time in nanoseconds (R259). -/
def State.now (s : State) : Nat := (s.svc >>> 32).toNat

/-- `ns` nanoseconds have passed since `start` (notes/assumptions/6). -/
def State.passed (s : State) (start ns : Nat) : Bool := decide (start + ns ≤ s.tim.uptime)

/-- The 32-bit service-time count. -/
def State.now32 (s : State) : Word := BitVec.ofNat 32 s.now

/-- The classes of the time comparison (Table 8.1). -/
inductive TimeClass where
  | reached | ahead | outside
  deriving DecidableEq, Repr

/-- The time comparison of a 32-bit time `t` against the count `n` (R260). -/
def timeClass (t n : Word) : TimeClass :=
  let d := (t - n).toNat
  if d = 0 ∨ 2147483648 ≤ d then .reached
  else if d ≤ 2000000000 then .ahead
  else .outside

def State.classOf (s : State) (t : Word) : TimeClass := timeClass t s.now32

/-- Whether a held item's time is reached (R261): d is 0 or at least 2³¹. -/
def State.isReached (s : State) (t : Word) : Bool := s.classOf t == .reached

/-- The extended instant of a 32-bit time in the window or already reached: the instant
nearest below half a wrap (R238, R260). -/
def State.extend (s : State) (t : Word) : Nat :=
  let d := (t - s.now32).toNat
  if d < 2147483648 then s.now + d else s.now + d - 2 ^ 32

/-- Whether the local time copy of a unit is lost (R275). -/
def State.copyLost (s : State) (u : Master) : Bool := Table.get (fun _ => false) s.tim.lost u.key

/-! ## Fault records (R452 to R455) -/

def noFaults (_ : Nat) : List FaultRec := []
def zeroNat (_ : Nat) : Nat := 0

/-- A subject in one number: two subjects of R453 with one number have one key. -/
def Subject.key : Subject → Nat
  | .unit m => m.key
  | .router r => 0x110000 + r.toNat
  | .code n => 0x100000 + n.toNat

/-- The number of a subject (R453). -/
def Subject.number : Subject → Nat
  | .unit m => m.ni
  | .router r => 768 + r.toNat
  | .code n => n.toNat

/-- An event added to the record that holds its subject and class, if one is held. -/
def bumpFault (subject : Subject) (cls : FaultClass) : List FaultRec → Option (List FaultRec)
  | [] => none
  | r :: rs =>
    if r.subject.key = subject.key ∧ r.cls = cls then some ({ r with count := min 63 (r.count + 1) } :: rs)
    else (bumpFault subject cls rs).map (r :: ·)

/-- A unit reports a fault (R455): the event is counted into a held record of the same
subject and class, or takes one of the four places of the NI's buffer, or is lost and
counted. `raised` is one severity step above the usual (R454). -/
def State.fault (s : State) (reporter : Master) (cls : FaultClass)
    (subject : Subject := .unit reporter) (status : Nat := 0) (detail : Nat := 0)
    (raised : Bool := false) : State :=
  let buf := Table.get noFaults s.faults reporter.key
  match bumpFault subject cls buf with
  | some buf' => { s with faults := Table.set noFaults s.faults reporter.key buf' }
  | none =>
    if buf.length < 4 then
      { s with faults := Table.set noFaults s.faults reporter.key (buf ++ [{
          reporter := reporter, subject := subject, cls := cls
          severity := min 4 (cls.severity + b2n raised), count := 1
          status := BitVec.ofNat 16 status, detail := BitVec.ofNat 48 detail
          time := s.now32 }]) }
    else
      let s := s.satFld F.ERR_LOST_lost F.ERR_LOST_overflow
      { s with faultLost := Table.modify zeroNat s.faultLost reporter.key (· + 1) }

/-! ## The collector's table (R457, R460) -/

def noEntry (_ : Nat) : Option ErrEntry := none

/-- The entry at an index of the collector's table. -/
def State.errEntry (s : State) (i : Nat) : Option ErrEntry := Table.get noEntry s.err.entries i

/-- ERR_STATUS.entries, and summarising ends once an entry is free or RESOLVED (R459). -/
def State.showErr (s : State) : State :=
  let s := s.setFld F.ERR_STATUS_entries s.err.entries.length
  if decide (s.err.entries.length < 512) || s.err.entries.any (fun e => (e.2.map (·.resolved)).getD false)
  then s.setBit F.ERR_STATUS_summarising false else s

def State.setEntry (s : State) (i : Nat) (e : Option ErrEntry) : State :=
  ({ s with err := { s.err with entries := Table.set noEntry s.err.entries i e } }).showErr

/-- The entry at an index becomes RESOLVED (R460). -/
def State.resolveEntry (s : State) (i : Nat) : State :=
  match s.errEntry i with
  | some e => s.setEntry i (some { e with resolved := true })
  | none => s

/-- Entries with a key become RESOLVED. -/
def State.resolveKey (s : State) (k : Nat) : List (Nat × Option ErrEntry) → State
  | [] => s
  | (i, some e) :: l =>
    (if e.subject.key * 256 + e.cls.code = k then s.resolveEntry i else s).resolveKey k l
  | _ :: l => s.resolveKey k l

def State.resolveKeys (s : State) : List (Fix × Nat) → State
  | [] => s
  | c :: l => (s.resolveKey c.2 s.err.entries).resolveKeys l

/-- The husk closes or abandons a substitution: the faults that started it are RESOLVED (R460). -/
def State.resolveFix (s : State) (f : Fix) : State :=
  let s := s.resolveKeys (s.err.confirmed.filter fun c => c.1 == f)
  { s with err := { s.err with confirmed := s.err.confirmed.filter fun c => !(c.1 == f) } }

/-! ## Claims (R39 to R43) -/

/-- The offset of a claim register. -/
def ClaimRef.off : ClaimRef → Nat
  | .device k => R.DEV_CLAIM k.val
  | .tim s => R.TIM_CUE_CLAIM s.val
  | .cfg s => R.CFG_CUE_CLAIM s.val
  | .eng n s => R.ENG_CUE_CLAIM n.val s.val
  | .cvl g s => R.CVL_CUE_CLAIM g.val s.val

/-- Whether a device-wide claim index is one of Table 1.8. -/
def claimIndexOk (k : Nat) : Bool :=
  decide (k < 0x188) || (decide (0x190 ≤ k) && decide (k < 0x1A8)) || k == 0x1B0 || k == 0x1B1 ||
    decide (0x1C0 ≤ k)

/-- The last_status field of the claim register at `off`. -/
def claimStatusField (off : Nat) : Field := ⟨off, 0, 16⟩

def noHolder (_ : Nat) : Option Master := none

/-- The holder of the claim whose register is at `off`. -/
def State.holder (s : State) (off : Nat) : Option Master := Table.get noHolder s.claims off

def State.setHolder (s : State) (off : Nat) (h : Option Master) : State :=
  { s with claims := Table.set noHolder s.claims off h }

/-- Whether `m` holds the claim at `off`. -/
def State.holds (s : State) (m : Master) (off : Nat) : Bool :=
  match s.holder off with
  | some h => h.same m
  | none => false

/-! ## Cue slots (R290 to R293) -/

/-- The number of a cue slot in the model's table of actions. -/
def CueUnit.base : CueUnit → Nat
  | .dev => 0
  | .tim => 8
  | .cfg => 16
  | .cvl g => 24 + 8 * g.val
  | .eng n => 128 + 8 * n.val

def CueUnit.timeField : CueUnit → Nat → Nat
  | .dev, s => R.DEV_CUE_TIME s
  | .tim, s => R.TIM_CUE_TIME s
  | .cfg, s => R.CFG_CUE_TIME s
  | .eng n, s => R.ENG_CUE_TIME n.val s
  | .cvl g, s => R.CVL_CUE_TIME g.val s

def CueUnit.stateOff : CueUnit → Nat → Nat
  | .dev, s => R.DEV_CUE_STATE s
  | .tim, s => R.TIM_CUE_STATE s
  | .cfg, s => R.CFG_CUE_STATE s
  | .eng n, s => R.ENG_CUE_STATE n.val s
  | .cvl g, s => R.CVL_CUE_STATE g.val s

/-- The claim register of a unit's cue slot; the DEV slots have none (R43). -/
def CueUnit.claimOff : CueUnit → Nat → Option Nat
  | .dev, _ => none
  | .tim, s => some (R.TIM_CUE_CLAIM s)
  | .cfg, s => some (R.CFG_CUE_CLAIM s)
  | .eng n, s => some (R.ENG_CUE_CLAIM n.val s)
  | .cvl g, s => some (R.CVL_CUE_CLAIM g.val s)

/-- The unit whose local time copy a cue slot is judged by (R275). -/
def CueUnit.master : CueUnit → Master
  | .dev => Unit.dev
  | .tim => Unit.tim
  | .cfg => Unit.cfg
  | .eng n => .engine n
  | .cvl g => Unit.cvl g.val

def CueUnit.statusF (u : CueUnit) (s : Nat) : Field := ⟨u.stateOff s, 16, 16⟩
def CueUnit.firedF (u : CueUnit) (s : Nat) : Field := ⟨u.stateOff s, 8, 8⟩
def CueUnit.armedF (u : CueUnit) (s : Nat) : Field := ⟨u.stateOff s, 7, 1⟩
def CueUnit.pinF (u : CueUnit) (s : Nat) : Field := ⟨u.stateOff s, 6, 1⟩
def CueUnit.fracF (u : CueUnit) (s : Nat) : Field := ⟨u.stateOff s, 0, 4⟩

def noAction (_ : Nat) : CueAction := .none

/-- Whether a cue slot is armed. -/
def State.cueArmed (s : State) (u : CueUnit) (slot : Nat) : Bool := s.bit (u.armedF slot)

def State.cueAction (s : State) (u : CueUnit) (slot : Nat) : CueAction :=
  Table.get noAction s.cues (u.base + slot)

/-- Disarm a slot: its armed bit and its action are gone, its time stays readable. -/
def State.cueClear (s : State) (u : CueUnit) (slot : Nat) : State :=
  let s := s.setBit (u.armedF slot) false
  { s with cues := Table.set noAction s.cues (u.base + slot) .none }

/-- Hold a cue: the time, the fraction, the action and the armed bit (R290). -/
def State.cueHold (s : State) (u : CueUnit) (slot : Nat) (t : Word) (frac : Nat)
    (pinEvent : Bool) (a : CueAction) : State :=
  let s := s.setReg (u.timeField slot) t
  let s := s.setFld (u.fracF slot) frac
  let s := s.setBit (u.pinF slot) pinEvent
  let s := s.setBit (u.armedF slot) true
  let s := s.setFld (u.statusF slot) 0
  { s with cues := Table.set noAction s.cues (u.base + slot) a }

/-- Whether `m` may arm or disarm a slot: it holds the slot's claim; the DEV slots are the
husk's (R43, R290). -/
def State.mayCue (s : State) (m : Master) (u : CueUnit) (slot : Nat) : Bool :=
  match u.claimOff slot with
  | none => m.same .husk
  | some off => s.holds m off

/-- The result of arming a slot (R290, R291): a status other than 0 refuses it and leaves
the slot as it was. In CFG, TIM and the link groups a slot armed for one item refuses
another item. A time already reached is held and fires at the unit's next clock edge. -/
def State.armCue (s : State) (m : Master) (u : CueUnit) (slot : Nat) (t : Word) (frac : Nat)
    (pinEvent : Bool) (a : CueAction) : Nat × State :=
  if !s.mayCue m u slot then (Code.claimBusy, s.setFld (u.statusF slot) Code.claimBusy)
  else
    let busy := match u with
      | .eng _ => false
      | _ => s.cueArmed u slot && !(s.cueAction u slot == a)
    if busy then (Code.notPermitted, s.setFld (u.statusF slot) Code.notPermitted)
    else match s.classOf t with
      | .outside => (Code.timeOutOfWindow, s.setFld (u.statusF slot) Code.timeOutOfWindow)
      | _ => (0, s.cueHold u slot t frac pinEvent a)

/-! ## MSI-X messages -/

/-- Whether a PF0 to PF3 vector cannot be sent (Table 14.4). -/
def State.msixBlocked (s : State) (pf vec : Nat) : Bool :=
  !s.bit F.PCI_STATUS_link_up || (pf != 0 && s.dev.crs) ||
    !Table.get (fun _ => false) s.msix.unmasked (pf * 1024 + vec) ||
    Table.get (fun _ => false) s.msix.fnMasked pf

/-- Send an MSI-X message to the host unless it is blocked. -/
def State.sendMsix (s : State) (pf vec : Nat) : State :=
  if s.msixBlocked pf vec then s
  else { s with msix := { s.msix with sent := s.msix.sent ++ [(pf, vec)] } }

/-! ## Modes (R24 to R27) -/

/-- The mode DEV_MODE reports. -/
def State.mode (s : State) : Nat := s.fld F.DEV_MODE_mode

/-- One mode transition (R27): the mode, the previous mode, the count, the trigger, the
status and the instant; the host is told by vector 1 of PF0 (R439). -/
def State.transition (s : State) (trigger mode : Nat) (status : Nat := 0) : State :=
  let old := s.mode
  let s := s.incFld F.DEV_MODE_transitions
  let s := s.setFld F.DEV_MODE_prev_mode old
  let s := s.setFld F.DEV_MODE_mode mode
  let s := s.setFld F.DEV_MODE_CAUSE_trigger trigger
  let s := s.setFld F.DEV_MODE_CAUSE_status status
  (s.setReg R.DEV_MODE_TIME s.now32).sendMsix 0 1

/-- The base mode (R25). -/
def State.baseMode (s : State) : Nat :=
  if s.bit F.DEV_MODE_on_acorn then Mode.fallback else Mode.service

/-- Whether the device is in SERVICE, UPDATE, REPAIR, FALLBACK or HALT, where the order of
R25 ranks HALT, REPAIR, UPDATE and the base mode. -/
def inService (m : Nat) : Bool :=
  m == Mode.service || m == Mode.update || m == Mode.repair || m == Mode.fallback ||
    m == Mode.halt

/-- The mode to report while serving: the first of HALT, REPAIR, UPDATE and the base mode
that applies (R25); a full image staged while live keeps the base mode (R105). -/
def State.ranked (s : State) : Nat :=
  if s.dev.halted then Mode.halt
  else if s.bit F.DEV_MODE_repair_active then Mode.repair
  else if s.bit F.DEV_MODE_update_active && !s.cfg.fullLive then Mode.update
  else s.baseMode

/-- Report the ranked mode after a change of the conditions of R25; a transition with the
trigger takes place only if the reported mode changes. -/
def State.rerank (s : State) (trigger : Nat) (status : Nat := 0) : State :=
  if inService s.mode && s.ranked != s.mode then s.transition trigger s.ranked status else s

/-! ## Engine event flags -/

/-- The engine whose ENG_EVT holds the flags of engine `n`: the even engine of a fused
pair (R136, R226). -/
def State.flagEngine (s : State) (n : Nat) : Nat :=
  if s.bit (F.ENG_CTRL_wide (n - n % 2)) then n - n % 2 else n

/-- Set event flag `f` of an engine (R144, Table 4.6). -/
def State.raiseEvent (s : State) (n f : Nat) : State :=
  let e := s.flagEngine n
  s.setReg (R.ENG_EVT e) (s.reg (R.ENG_EVT e) ||| BitVec.ofNat 32 (2 ^ f))

/-- Set event flag `f` of engines 0 to `k - 1`. -/
def State.raiseAll (s : State) (f : Nat) : Nat → State
  | 0 => s
  | k + 1 =>
    (s.setReg (R.ENG_EVT k) (s.reg (R.ENG_EVT k) ||| BitVec.ofNat 32 (2 ^ f))).raiseAll f k

end Sys2Proof.Machine
end

