-- ==== Sys2Proof/Machine/Noc.lean ====
section
/-! DEFINITION. The network on chip (chapter 6): the end-to-end CRC, route tables and
their validation, packets from injection to ejection, links and the requester deadline. -/

namespace Sys2Proof.Machine

/-! ## CRC-32C (R4) -/

/-- One bit step of the reflected CRC. -/
def crcStep (c : Word) : Word :=
  if c.getLsbD 0 then (c >>> 1) ^^^ 0x82F63B78#32 else c >>> 1

/-- One byte into the reflected CRC. -/
def crcByte (c : Word) (b : Byte) : Word :=
  let c := c ^^^ b.setWidth 32
  crcStep (crcStep (crcStep (crcStep (crcStep (crcStep (crcStep (crcStep c)))))))

/-- CRC-32C of a byte string: polynomial 0x1EDC_6F41 processed reflected, initial value and
final exclusive-or 0xFFFF_FFFF (R4). -/
def crc32c (bs : List Byte) : Word := bs.foldl crcByte 0xFFFFFFFF#32 ^^^ 0xFFFFFFFF#32

/-! ## Geometry and hop codes (R199, R208, Table 6.5) -/

/-- The router of an NI (R199). -/
def niRouter (n : Nat) : Nat := n / 4

/-- The router next to `r` in direction 0 N, 1 E, 2 S, 3 W; none at the mesh edge. -/
def neighbour (r d : Nat) : Option Nat :=
  let x := r % 16
  let y := r / 16
  match d with
  | 0 => if y < 11 then some (r + 16) else none
  | 1 => if x < 15 then some (r + 1) else none
  | 2 => if 0 < y then some (r - 16) else none
  | 3 => if 0 < x then some (r - 1) else none
  | _ => none

/-- The router `k` forwards away in one direction, if no forward leaves the mesh. -/
def neighbours (r d : Nat) : Nat → Option Nat
  | 0 => some r
  | k + 1 => (neighbour r d).bind fun r' => neighbours r' d k

/-- The codes of `k` forwards in one direction: the direction, once more for an even number, then
repeats, as in Table 6.6 (notes/assumptions/60). -/
def dirCodes (d k : Nat) : List Nat :=
  if k = 0 then []
  else d :: (List.replicate ((k - 1) % 2) d ++ List.replicate ((k - 1) % 4 / 2) 5 ++
    List.replicate ((k - 1) / 4) 6)

/-- The hop codes of the supplied default route: all E and W hops before any N or S hop
(R214). -/
def routeCodes (src dst : Nat) : List Nat :=
  let xs := src % 16
  let xd := dst % 16
  let ys := src / 16
  let yd := dst / 16
  (if xs ≤ xd then dirCodes 1 (xd - xs) else dirCodes 3 (xs - xd)) ++
    (if ys ≤ yd then dirCodes 0 (yd - ys) else dirCodes 2 (ys - yd)) ++ [4]

/-- Hop codes packed three bits each, code 0 lowest. -/
def packCodes : List Nat → Nat
  | [] => 0
  | c :: cs => c % 8 + 8 * packCodes cs

/-- The 24 hop codes of a route entry (Table 6.4). -/
def RouteEntry.hops (e : RouteEntry) : BitVec 72 :=
  BitVec.ofNat 72 (e.w1.toNat % 2 ^ 30 + 2 ^ 30 * (e.w2.toNat % 2 ^ 30) +
    2 ^ 60 * (e.w3.toNat % 2 ^ 12))

def hopCode (h : BitVec 72) (i : Nat) : Nat := h.toNat >>> (3 * i) % 8

def RouteEntry.en (e : RouteEntry) : Bool := e.w0.getLsbD 31
def RouteEntry.okBit (e : RouteEntry) : Bool := e.w0.getLsbD 30
def RouteEntry.dst (e : RouteEntry) : Nat := bitsOf e.w0 16 10
def RouteEntry.dtag (e : RouteEntry) : Nat := bitsOf e.w0 0 16

/-- Walk hop codes from router `r`: the router of the first EJ, if every code before it is
legal, no forward leaves the mesh and every code after it is zero (R207, R208). -/
def walk (r : Nat) (dir : Option Nat) : List Nat → Option Nat
  | [] => none
  | c :: cs =>
    if c = 4 then (if cs.all (· == 0) then some r else none)
    else if c < 4 then (neighbour r c).bind fun r' => walk r' (some c) cs
    else if c = 7 then none
    else match dir with
      | none => none
      | some d => (neighbours r d (if c = 5 then 2 else 4)).bind fun r' => walk r' dir cs

/-- The checks a write of word 0 makes before it sets ok (R207). -/
def routeValid (ni : Nat) (e : RouteEntry) : Bool :=
  niPresent e.dst &&
    walk (niRouter ni) none ((List.range 24).map (hopCode e.hops)) == some (niRouter e.dst)

/-- The entry supplied at power-on: a default entry reaches its NI (R205, R214). -/
def defaultEntry (ni d : Nat) : RouteEntry :=
  if niPresent ni && niPresent d then
    let c := packCodes (routeCodes (niRouter ni) (niRouter d))
    { w0 := BitVec.ofNat 32 (0xC0000000 + d * 65536), w1 := BitVec.ofNat 32 (c % 2 ^ 30)
      w2 := BitVec.ofNat 32 (c / 2 ^ 30 % 2 ^ 30), w3 := BitVec.ofNat 32 (c / 2 ^ 60 % 2 ^ 12) }
  else {}

def noRoute (_ : Nat) : Option RouteEntry := none

/-- Entry `e` of the route table of NI `ni`. -/
def State.route (s : State) (ni e : Nat) : RouteEntry :=
  (Table.get noRoute s.noc.routes (ni * 4096 + e)).getD (if e < 768 then defaultEntry ni e else {})

def State.setRoute (s : State) (ni e : Nat) (r : RouteEntry) : State :=
  { s with noc := { s.noc with routes := Table.set noRoute s.noc.routes (ni * 4096 + e) (some r) } }

/-- Whether an entry can carry a packet to `dst` (R206). -/
def RouteEntry.usable (e : RouteEntry) (dst : Nat) : Bool := e.en && e.okBit && e.dst == dst

/-! ## Writing route entries (R209) -/

def noHeldRoute (_ : Nat) : Option HeldRoute := none

def State.heldRoute (s : State) (m : Master) : Option HeldRoute :=
  Table.get noHeldRoute s.noc.held m.key

def State.setHeldRoute (s : State) (m : Master) (h : Option HeldRoute) : State :=
  { s with noc := { s.noc with held := Table.set noHeldRoute s.noc.held m.key h } }

def HeldRoute.put (h : HeldRoute) (w : Nat) (v : Word) : HeldRoute :=
  match w with
  | 0 => { h with w1 := some (v &&& 0x3FFFFFFF#32) }
  | 1 => { h with w2 := some (v &&& 0x3FFFFFFF#32) }
  | _ => { h with w3 := some (v &&& 0xFFF#32) }

/-- The words of an entry with the held words applied. -/
def HeldRoute.apply (h : HeldRoute) (e : RouteEntry) : RouteEntry :=
  { e with w1 := h.w1.getD e.w1, w2 := h.w2.getD e.w2, w3 := h.w3.getD e.w3 }

/-- A write of one of words 1 to 3: held in the writer's set, bound to the NI selected and
the entry; a write for another entry starts a new set (R209). -/
def routeWord (m : Master) (entry w : Nat) (v : Word) (s : State) : State :=
  let ni := s.srcFld m F.NOC_RT_SEL_ni
  if !niPresent ni then s.error
  else
    let h := match s.heldRoute m with
      | some h => if h.ni = ni ∧ h.entry = entry then h else { ni := ni, entry := entry }
      | none => { ni := ni, entry := entry }
    (s.setHeldRoute m (some (h.put w v))).ack

/-- The entry a write of word 0 leaves: held words bound to the entry, the written word,
and ok as R207 finds. -/
def routeWritten (ni : Nat) (h : Option HeldRoute) (old : RouteEntry) (entry : Nat) (v : Word) :
    RouteEntry :=
  let e := match h with
    | some h => if h.ni = ni ∧ h.entry = entry then h.apply old else old
    | none => old
  let e := { e with w0 := v &&& 0x83FFFFFF#32 }
  if routeValid ni e then { e with w0 := e.w0 ||| 0x40000000#32 } else e

/-- A write of word 0: the held words and word 0 take effect together and the entry is
validated; the set is empty afterwards (R207, R209). -/
def routeValidate (m : Master) (entry : Nat) (v : Word) (s : State) : State :=
  let ni := s.srcFld m F.NOC_RT_SEL_ni
  if !niPresent ni then s.error
  else
    let s1 := s.setRoute ni entry (routeWritten ni (s.heldRoute m) (s.route ni entry) entry v)
    (s1.setHeldRoute m none).ack

/-! ## Statistics of an NI -/

def State.niTimeout (s : State) (n : Nat) : State :=
  s.satFld (F.NOC_NI_STAT0_timeouts n) (F.NOC_NI_STAT0_overflow n)
def State.niLate (s : State) (n : Nat) : State :=
  s.satFld (F.NOC_NI_STAT0_late n) (F.NOC_NI_STAT0_overflow n)
def State.niCrcFail (s : State) (n : Nat) : State :=
  s.satFld (F.NOC_NI_STAT1_crc_fail n) (F.NOC_NI_STAT0_overflow n)
def State.niDiscard (s : State) (n : Nat) : State :=
  s.satFld (F.NOC_NI_STAT1_discard n) (F.NOC_NI_STAT0_overflow n)

/-! ## Injection (R203, R205, R206, R212, R510) -/

/-- Kinds whose last flit carries a CRC (Table 6.3); a data-less RESPONSE carries none. -/
def kindInteg (k : Nat) : Bool :=
  k == 0 || k == 1 || k == 3 || k == 4 || k == 5 || k == 6 || k == 9 || k == 0xA

/-- Whether a packet expects a response (Table 6.3); a QUEUE operation does unless its
post bit, address bit 24, is set (Table 7.3). -/
def Packet.expects (p : Packet) : Bool :=
  let k := p.kind.toNat
  k == 1 || k == 2 || k == 3 || k == 4 || k == 0xA || (k == 9 && !p.address.getLsbD 24)

/-- The limits of R212 on a packet's priority. -/
def Packet.prioOk (p : Packet) : Bool :=
  (decide (p.prio.toNat < 6) || p.kind == 8#4) && (!p.expects || decide (p.prio.toNat < 4))

/-- Put a packet into the mesh at its source's router, with the hops and dtag of its route
entry (R205). -/
def State.launchPacket (s : State) (p : Packet) (e : RouteEntry) : State :=
  let f : Flight := {
    id := s.noc.nextId, pkt := { p with dtag := BitVec.ofNat 16 e.dtag }, hops := e.hops
    router := niRouter p.src.toNat }
  { s with noc := { s.noc with flight := s.noc.flight ++ [f], nextId := s.noc.nextId + 1 } }

/-- A packet that a unit generates on the default entry of its destination: sent, or
discarded and counted if the entry is unusable (R205, R510). -/
def State.emit (s : State) (src dst : Nat) (kind prio tag txid : Nat) (poison : Bool)
    (payload : List Byte) (address : Nat := 0) (bare : Bool := false) : State :=
  let e := s.route src dst
  if e.usable dst && decide (dst < 768) then
    let integ := kindInteg kind && !bare
    s.launchPacket {
      kind := BitVec.ofNat 4 kind, prio := BitVec.ofNat 3 prio, route := BitVec.ofNat 12 dst
      src := BitVec.ofNat 10 src, dst := BitVec.ofNat 10 dst, txid := BitVec.ofNat 8 txid
      poison := poison, integ := integ, tag := BitVec.ofNat 8 tag
      address := BitVec.ofNat 48 address, dtag := 0, payload := payload
      crc := if integ then crc32c payload else 0, fpoison := false } e
  else s.niDiscard src

/-- The response of a unit to a request packet (R212): priority 4 for a request of priority
0 or 1, 5 otherwise. -/
def State.respondTo (s : State) (p : Packet) (kind : Nat) (payload : List Byte)
    (poison : Bool := false) (bare : Bool := false) : State :=
  s.emit p.dst.toNat p.src.toNat kind (if p.prio.toNat < 2 then 4 else 5) p.tag.toNat 0 poison payload 0 bare

/-- A data-less RESPONSE (Table 6.3). -/
def State.respondBare (s : State) (p : Packet) : State := s.respondTo p 6 (List.replicate 8 0#8) false true

/-- An ERROR packet with a status code (Table 6.3). -/
def State.errorTo (s : State) (p : Packet) (status : Nat) : State :=
  s.respondTo p 7 (toBytes 8 status)

/-- A request recorded at its source NI until its response (R222, R223); the packets of one
enqueue carry one tag and are one request. -/
def State.track (s : State) (p : Packet) : State :=
  if p.expects then
    let others := s.noc.requests.filter fun q => !(q.ni == p.src && q.tag == p.tag)
    let deq := p.kind == 9 && p.address.extractLsb' 20 4 == 2
    { s with noc := { s.noc with requests := others ++
      [{ ni := p.src, tag := p.tag, dst := p.dst, kind := p.kind, sent := s.tim.uptime, deq := deq }] } }
  else s

/-! ## Links (R216 to R219) -/

def noLink (_ : Nat) : Link := {}

def State.link (s : State) (l : Nat) : Link := Table.get noLink s.noc.links l

def State.setLink (s : State) (l : Nat) (k : Link) : State :=
  { s with noc := { s.noc with links := Table.set noLink s.noc.links l k } }

/-- The subject of a link fault: the lower-numbered router of the link (R453). -/
def linkSubject (r d : Nat) : Subject :=
  .router (BitVec.ofNat 8 (min r ((neighbour r d).getD r)))

/-- The direction of a link as seen from its lower-numbered router. -/
def linkDir (r d : Nat) : Nat := if d = 2 ∨ d = 3 then d - 2 else d

/-- A link fault record of router `r`. -/
def State.linkFault (s : State) (cls : FaultClass) (r d : Nat) : State :=
  s.fault (Unit.router r) cls (linkSubject r d) 0 (linkDir r d)

/-- Corrected flits counted on a link direction; past ce_limit within one second the link
is reported marginal, once (R216). -/
def State.countCorrected (s : State) (r d n : Nat) : State :=
  if n = 0 then s
  else
    let l := 4 * r + d
    let s := s.satFld (F.NOC_LINK_CE_corrected l) (F.NOC_LINK_CE_overflow l) n
    let sec := s.now / 1000000000
    let k := s.link l
    let c := (if k.second = sec then k.ceSecond else 0) + n
    let s := s.setLink l { k with ceSecond := c, second := sec }
    if s.fld (F.NOC_LINK_ce_limit l) < c ∧ s.bit (F.NOC_LINK_marginal l) = false then
      ((s.setBit (F.NOC_LINK_marginal l) true).incFld F.NOC_STATUS_links_marginal).linkFault
        .linkMarginal r d
    else s

/-- One link direction marked down. -/
def State.markDown (s : State) (l : Nat) : State :=
  if s.bit (F.NOC_LINK_down l) then s
  else (s.setBit (F.NOC_LINK_down l) true).incFld F.NOC_STATUS_links_down

def opposite (d : Nat) : Nat := (d + 2) % 4

/-- A link goes down (R218): both ends stop using it, set down and report; packets cut by
it are completed with poisoned filler flits (R220). -/
def State.linkDown (s : State) (r d : Nat) (cut : List Nat) : State :=
  let s := s.markDown (4 * r + d)
  let s := s.linkFault .linkDown r d
  let s := match neighbour r d with
    | some r' => (s.markDown (4 * r' + opposite d)).linkFault .linkDown r' (opposite d)
    | none => s
  { s with noc := { s.noc with
      flight := s.noc.flight.map fun f =>
        if cut.contains f.id then { f with pkt := { f.pkt with fpoison := true } } else f
      links := Table.modify noLink s.noc.links (4 * r + d) fun k => { k with fails := 0 } } }

/-- An uncorrectable flit (R217): counted and reported, resent from the replay buffer; the
third consecutive failure of one flit takes the link down. -/
def replay (r d : Nat) (same : Bool) (cut : List Nat) (s : State) : State :=
  let l := 4 * r + d
  let s := s.satOnly (F.NOC_LINK_replays l)
  let s := s.linkFault .nocReplay r d
  let n := if same then (s.link l).fails + 1 else 1
  let s := s.setLink l { s.link l with fails := n }
  if 3 ≤ n then s.linkDown r d cut else s

/-! ## Forwarding (R208, R219) -/

/-- The number of flits of a packet (R203). -/
def Packet.flits (p : Packet) : Nat := 1 + (p.payload.length + 31) / 32

def State.dropFlight (s : State) (id : Nat) : State :=
  { s with noc := { s.noc with flight := s.noc.flight.filter fun f => f.id != id } }

def State.setFlight (s : State) (g : Flight) : State :=
  { s with noc := { s.noc with flight := s.noc.flight.map fun f => if f.id = g.id then g else f } }

def State.findFlight (s : State) (id : Nat) : Option Flight :=
  s.noc.flight.find? fun f => f.id == id

/-- A packet whose next forward would cross a down link is discarded and counted; one
DISCARD record per link per millisecond (R219). -/
def State.discardAt (s : State) (f : Flight) (r d : Nat) : State :=
  let l := 4 * r + d
  let s := s.dropFlight f.id
  let s := s.satFld (F.NOC_LINK_CE_discarded l) (F.NOC_LINK_CE_overflow l) f.pkt.flits
  let ms := s.now / 1000000 + 1
  if (s.link l).discardMs = ms then s
  else (s.setLink l { s.link l with discardMs := ms }).linkFault .discard r d

/-- A router that finds a reserved code, a forward off the mesh or a wrong EJ discards the
packet (R208). -/
def State.misroute (s : State) (f : Flight) : State :=
  (s.dropFlight f.id).fault (Unit.router f.router) .misroute (.router (BitVec.ofNat 8 f.router))

/-- One forward in direction `d`, leaving the flight as `g` at the next router. -/
def State.forwardTo (s : State) (f : Flight) (d : Nat) (g : Flight) (corrected : Nat) : State :=
  match neighbour f.router d with
  | none => s.misroute f
  | some r' =>
    if s.bit (F.NOC_LINK_down (4 * f.router + d)) then s.discardAt f f.router d
    else (s.setFlight { g with router := r', dir := d }).countCorrected f.router d corrected

/-- A router acts on the current hop code of a packet it holds (R208). -/
def forward (id corrected : Nat) (s : State) : State :=
  match s.findFlight id with
  | none => s
  | some f =>
    if f.ejected then s
    else
      let c := hopCode f.hops f.ptr
      if c < 4 then s.forwardTo f c { f with ptr := f.ptr + 1, rep := 0 } corrected
      else if c = 4 then
        if niRouter f.pkt.dst.toNat = f.router then s.setFlight { f with ejected := true }
        else s.misroute f
      else if c = 7 then s.misroute f
      else
        let rep := (if f.rep = 0 then (if c = 5 then 2 else 4) else f.rep) - 1
        s.forwardTo f f.dir { f with rep := rep, ptr := if rep = 0 then f.ptr + 1 else f.ptr }
          corrected

/-! ## Retraining (R221) -/

def linkRetrain (r d : Nat) (s : State) : State :=
  let l := 4 * r + d
  if s.bit (F.NOC_LINK_down l) then (s.setLink l { s.link l with retraining := true }).ack
  else s.ack

/-- One link direction is up again. -/
def State.markUp (s : State) (l : Nat) : State :=
  if s.bit (F.NOC_LINK_down l) then
    (s.setBit (F.NOC_LINK_down l) false).setFld F.NOC_STATUS_links_down
      (s.fld F.NOC_STATUS_links_down - 1)
  else s

def retrainDone (r d : Nat) (success : Bool) (s : State) : State :=
  let l := 4 * r + d
  if (s.link l).retraining then
    let s := s.setLink l { s.link l with retraining := false, fails := 0 }
    if success then
      let s := s.markUp l
      match neighbour r d with
      | some r' => s.markUp (4 * r' + opposite d)
      | none => s
    else s
  else s

/-! ## Requests at their requester (R222, R223) -/

def State.findReq (s : State) (ni tag : Nat) : Option PendingReq :=
  s.noc.requests.find? fun q => q.ni.toNat == ni && q.tag.toNat == tag

def State.dropReq (s : State) (ni tag : Nat) : State :=
  { s with noc := { s.noc with
      requests := s.noc.requests.filter fun q => !(q.ni.toNat == ni && q.tag.toNat == tag) } }

/-- A request completes at its requester with a result. -/
def State.complete (s : State) (ni tag : Nat) (r : Resp) : State :=
  let s := s.dropReq ni tag
  { s with noc := { s.noc with
      answered := s.noc.answered ++ [(BitVec.ofNat 10 ni, BitVec.ofNat 8 tag, r)] } }

/-- What a RESPONSE or ERROR packet answers (R222, R225). -/
def Packet.result (p : Packet) : Resp :=
  if p.kind == 7#4 then .error (BitVec.ofNat 16 (ofBytes (p.payload.take 2)))
  else .data p.payload (p.poison || p.fpoison || (p.integ && crc32c p.payload != p.crc))

/-- A request has had no response for timeout_us (R223). -/
def requestTimeout (ni tag : Nat) (s : State) : State :=
  match s.findReq ni tag with
  | none => s
  | some q =>
    ((s.niTimeout ni).fault (Unit.ni ni) .reqTimeout (.unit (Unit.ni q.dst.toNat))).complete ni tag
      (.error 0)

/-! ## Meanings -/

abbrev Out := Host.Outcome State Fault Refusal

/-- A router reads the current hop code and forwards, ejects or discards (R208, R216, R219). -/
def execRouterForward (id : Nat) (corrected : Fin 18) (s : State) : Out :=
  .next (forward id corrected.val s)

/-- R217, R220. -/
def execFlitReplay (r : Fin 192) (d : Fin 4) (same : Bool) (cut : List Nat) (s : State) : Out :=
  .next (replay r.val d.val same cut s)

/-- No valid flit for 1,024 NoC cycles takes the link down (R218, R220). -/
def execLinkIdleTimeout (r : Fin 192) (d : Fin 4) (cut : List Nat) (s : State) : Out :=
  .next (s.linkDown r.val d.val cut)

/-- R209. -/
def execRouteWordWrite (m : Master) (entry : Fin 4096) (w : Fin 3) (v : Word) (s : State) : Out :=
  .next (routeWord m entry.val w.val v s)

/-- R207, R209. -/
def execRouteEntryValidate (m : Master) (entry : Fin 4096) (v : Word) (s : State) : Out :=
  .next (routeValidate m entry.val v s)

/-- R221. -/
def execNocLinkRetrain (_m : Master) (r : Fin 192) (d : Fin 4) (s : State) : Out :=
  .next (linkRetrain r.val d.val s)

/-- R221. -/
def execLinkRetrainDone (r : Fin 192) (d : Fin 4) (success : Bool) (s : State) : Out :=
  .next (retrainDone r.val d.val success s)

end Sys2Proof.Machine
end

