-- ==== Sys2Proof/Machine/Mailbox.lean ====
section
/-! DEFINITION. Mailboxes and doorbells (chapter 14, R416 to R421), and the conditions
that make a receiver unavailable (Table 14.4). -/

namespace Sys2Proof.Machine

/-! ## Availability -/

/-- The pod that holds region `n` (CFG_REGION.pod). -/
def State.podOf (s : State) (n : Nat) : Nat := s.fld (F.CFG_REGION_pod n)

/-- A pod is frozen under a whole-device HALT (Table 17.3). -/
def State.podFrozen (s : State) (p : Nat) : Bool :=
  s.bit F.DBG_STATUS_frozen &&
    bitAt ((s.reg R.DBG_FREEZE_PODS_LO).toNat + 2 ^ 32 * (s.reg R.DBG_FREEZE_PODS_HI).toNat) p

/-- The key of a frame: region, physical plane and index (Table 3.1). -/
def frameKey (region : Nat) (plane : Bool) (index : Nat) : Nat :=
  (region * 2 + b2n plane) * 5120 + index

/-- Whether any listed key of a table lies in a range. -/
def anyKeyIn {α : Type} (t : Table α) (lo hi : Nat) : Bool :=
  t.any fun e => decide (lo ≤ e.1) && decide (e.1 < hi)

/-- Whether a plane of a region implements its access point `h`: some frame of major 73 in
the point's half is not zero (R21; notes/assumptions/10). -/
def State.implementsPoint (s : State) (region : Nat) (plane : Bool) (h : Nat) : Bool :=
  anyKeyIn s.cfg.frames (frameKey region plane (73 * 64 + 32 * h))
    (frameKey region plane (73 * 64 + 32 * h + 32))

/-- Whether access point `p` has a design (R21). -/
def State.hasDesign (s : State) (p : Nat) : Bool :=
  s.dev.launched && s.implementsPoint (p / 2) (s.bit (F.CFG_REGION_live_plane (p / 2))) (p % 2)

/-- The state of engine `n` (Table 4.5). -/
def State.engState (s : State) (n : Nat) : Nat := s.fld (F.ENG_STATE_state n)

/-- Whether the NI at position `n` cannot take a notification (Table 14.4). -/
def State.niUnavailable (s : State) (n : Nat) : Bool :=
  !niPresent n ||
    (match masterAt n with
     | .accessPoint p => !s.hasDesign p.val || s.podFrozen (s.podOf (p.val / 2))
     | _ => false)

/-- Whether the receiver of a mailbox is unavailable (Table 14.4). -/
def State.mbxUnavailable (s : State) (m : Nat) : Bool :=
  let t := s.fld (F.MBX_CFG_target m)
  match s.fld (F.MBX_CFG_kind m) with
  | 0 => false
  | 1 => s.engState (t % 1024) == EngState.off || s.engState (t % 1024) == EngState.halted
  | 2 => s.niUnavailable (t % 1024)
  | _ => s.msixBlocked (t / 1024) (t % 1024)

/-- Whether `w` writes from the receiver NI of a mailbox (Table 14.4). -/
def State.mbxReceiver (s : State) (m : Nat) (w : Master) : Bool :=
  let t := s.fld (F.MBX_CFG_target m) % 1024
  match s.fld (F.MBX_CFG_kind m) with
  | 0 => true
  | 1 => w.key == 0xF1 * 1024 + t / 8
  | 2 => w.key == niKey t
  | _ => w.same .host

/-- The NI of a mailbox's receiver, as a fault subject (R453). -/
def State.mbxSubject (s : State) (m : Nat) : Master :=
  let t := s.fld (F.MBX_CFG_target m) % 1024
  match s.fld (F.MBX_CFG_kind m) with
  | 1 => .engine (Fin.ofNat 1024 t)
  | 2 => masterAt t
  | 3 => .host
  | _ => ((Table.get (fun _ => ({} : Mailbox)) s.mbx m).sender).getD Unit.mbx

/-! ## Doorbells (R416, R417) -/

/-- The unmasked pending doorbells of a mailbox. -/
def State.mbxPending (s : State) (m : Nat) : Word := s.reg (R.MBX_DB m) &&& s.reg (R.MBX_DB_MASK m)

/-- A notification to the receiver, if it is available (R417, Table 14.4). -/
def State.mbxNotify (s : State) (m : Nat) : State :=
  if s.mbxUnavailable m then s
  else
    let t := s.fld (F.MBX_CFG_target m)
    match s.fld (F.MBX_CFG_kind m) with
    | 0 => s
    | 1 => s.raiseEvent (t % 1024) 1
    | 2 => s.emit Unit.mbx.ni (t % 1024) 5 2 0 0 false
        (toBytes 8 (m + 2 ^ 32 * (s.mbxPending m).toNat))
    | _ => s.sendMsix (t / 1024) (t % 1024)

/-- Ring the bells of a mask; a notification if the unmasked bells pass from zero (R417). -/
def State.ringMask (s : State) (m : Nat) (bells : Word) : State :=
  let t := s.setReg (R.MBX_DB m) (s.reg (R.MBX_DB m) ||| bells)
  if s.mbxPending m = 0 ∧ t.mbxPending m ≠ 0 then t.mbxNotify m else t

/-- Ring one doorbell bit on behalf of a unit (R416): bit 31 is rung only by a send. -/
def State.ringBell (s : State) (m b : Nat) : State :=
  if b = 31 ∨ 256 ≤ m then s else s.ringMask m (BitVec.ofNat 32 (2 ^ b))

/-- A write of MBX_DB_SET (R416). -/
def mbxRing (mbx : Nat) (bells : Word) (s : State) : State :=
  (s.ringMask mbx (bells &&& 0x7FFFFFFF#32)).ack

/-- A write of MBX_DB: bits cleared, and a notification if any unmasked bell is left (R417). -/
def mbxClear (mbx : Nat) (bells : Word) (s : State) : State :=
  let s := s.setReg (R.MBX_DB mbx) (s.reg (R.MBX_DB mbx) &&& ~~~bells)
  (if s.mbxPending mbx ≠ 0 then s.mbxNotify mbx else s).ack

/-- A write of MBX_DB_MASK (R417). -/
def mbxMask (mbx : Nat) (mask : Word) (s : State) : State :=
  let t := s.setReg (R.MBX_DB_MASK mbx) mask
  (if s.mbxPending mbx = 0 ∧ t.mbxPending mbx ≠ 0 then t.mbxNotify mbx else t).ack

/-! ## Messages (R418 to R421) -/

def noMailbox (_ : Nat) : Mailbox := {}

def State.mailbox (s : State) (m : Nat) : Mailbox := Table.get noMailbox s.mbx m

def State.setMailbox (s : State) (m : Nat) (b : Mailbox) : State :=
  { s with mbx := Table.set noMailbox s.mbx m b }

/-- Mailbox 0 is a contested resource (R421): whether `m` may configure or send. -/
def State.mbxHeld (s : State) (m : Master) (mbx : Nat) : Bool :=
  mbx != 0 || s.holds m (R.DEV_CLAIM 0x1B1)

/-- Whether a mailbox is PENDING (Table 14.5). -/
def State.mbxIsPending (s : State) (mbx : Nat) : Bool := s.fld (F.MBX_STATE_state mbx) == 1

/-- A message times out (R418, R420). -/
def State.mbxExpire (s : State) (mbx : Nat) (unavailable : Bool) : State :=
  let s := s.setFld (F.MBX_STATE_state mbx) 3
  let s := s.setBit (F.MBX_STATE_timed_out mbx) true
  let s := s.setBit (F.MBX_STATE_unavailable mbx) unavailable
  let s := s.satFld (F.MBX_COUNT_timeouts mbx) (F.MBX_COUNT_overflow mbx)
  s.setMailbox mbx { s.mailbox mbx with deadline := none }

/-- A write of MBX_SEND.go (R418, R421). -/
def mbxSendGo (m : Master) (mbx : Nat) (s : State) : State :=
  if !s.mbxHeld m mbx then s.refuse (F.MBX_RESULT_last_status mbx) Code.claimBusy
  else if s.mbxIsPending mbx then s.refuse (F.MBX_RESULT_last_status mbx) Code.notPermitted
  else
    let s := s.incFld (F.MBX_STATE_seq mbx)
    let s := s.setBit (F.MBX_STATE_timed_out mbx) false
    let s := s.setBit (F.MBX_STATE_unavailable mbx) false
    let s := s.setMailbox mbx { sender := some m, deadline := none }
    if s.mbxUnavailable mbx then (s.mbxExpire mbx true).ack
    else
      let us := s.fld (F.MBX_CFG_timeout_us mbx)
      let s := s.setFld (F.MBX_STATE_state mbx) 1
      let s := s.setMailbox mbx { sender := some m
                                  deadline := if us = 0 then none else some (s.now + us * 1000) }
      (s.ringMask mbx 0x80000000#32).ack

/-- A write of MBX_ACK (R420). -/
def mbxAckWrite (m : Master) (mbx seq code : Nat) (s : State) : State :=
  if s.mbxIsPending mbx && s.mbxReceiver mbx m && s.fld (F.MBX_STATE_seq mbx) == seq then
    let s := s.setFld (F.MBX_STATE_state mbx) 2
    let s := s.setFld (F.MBX_RESULT_code mbx) code
    (s.setMailbox mbx { s.mailbox mbx with deadline := none }).ack
  else (s.satFld (F.MBX_COUNT_late_acks mbx) (F.MBX_COUNT_overflow mbx)).ack

/-- A PENDING message times out: its instant has been reached, or its receiver has become
unavailable (R420). -/
def mbxTimedOut (mbx : Nat) (s : State) : State :=
  if s.mbxIsPending mbx then
    let late := match (s.mailbox mbx).deadline with
      | some t => decide (t ≤ s.now)
      | none => false
    if s.mbxUnavailable mbx then
      (s.mbxExpire mbx true).fault Unit.mbx .mbxTimeout (.unit (s.mbxSubject mbx)) 0 mbx
    else if late then
      (s.mbxExpire mbx false).fault Unit.mbx .mbxTimeout (.unit (s.mbxSubject mbx)) 0 mbx
    else s
  else s

/-- A write of a message word (R419). -/
def mbxMessage (m : Master) (mbx i : Nat) (w : Word) (s : State) : State :=
  if s.mbxIsPending mbx && !s.mbxReceiver mbx m then
    s.refuse (F.MBX_RESULT_last_status mbx) Code.notPermitted
  else (s.setReg (R.MBX_MSG mbx i) w).ack

/-- A write of MBX_CFG (R419, R421). -/
def mbxConfig (m : Master) (mbx : Nat) (w : Word) (s : State) : State :=
  if !s.mbxHeld m mbx then s.refuse (F.MBX_RESULT_last_status mbx) Code.claimBusy
  else if s.mbxIsPending mbx then s.refuse (F.MBX_RESULT_last_status mbx) Code.notPermitted
  else (s.setReg (R.MBX_CFG mbx) (w &&& 0xCFFFFFFF#32)).ack

/-! ## Meanings -/

/-- R416, R417. -/
def execMbxDbSet (_m : Master) (mbx : Fin 256) (bells : Word) (s : State) : Out :=
  .next (mbxRing mbx.val bells s)

/-- R416, R417. -/
def execMbxDbClear (_m : Master) (mbx : Fin 256) (bells : Word) (s : State) : Out :=
  .next (mbxClear mbx.val bells s)

/-- R417. -/
def execMbxMaskWrite (_m : Master) (mbx : Fin 256) (mask : Word) (s : State) : Out :=
  .next (mbxMask mbx.val mask s)

/-- R420. -/
def execMbxAck (m : Master) (mbx : Fin 256) (seq code : BitVec 16) (s : State) : Out :=
  .next (mbxAckWrite m mbx.val seq.toNat code.toNat s)

/-- R420. -/
def execMbxTimeout (mbx : Fin 256) (s : State) : Out := .next (mbxTimedOut mbx.val s)

/-- R419. -/
def execMbxMsgWrite (m : Master) (mbx : Fin 256) (i : Fin 16) (w : Word) (s : State) : Out :=
  .next (mbxMessage m mbx.val i.val w s)

/-- R419, R421. -/
def execMbxCfgWrite (m : Master) (mbx : Fin 256) (w : Word) (s : State) : Out :=
  .next (mbxConfig m mbx.val w s)

end Sys2Proof.Machine
end

