-- ==== Sys2Proof/Machine/Monitor.lean ====
section
/-! DEFINITION. The transports of the Shoxo monitor (R475, R476, Table 17.1): the fragments
of a reply, and the acknowledgement of a request's fragments. -/

namespace Sys2Proof.Machine

/-- The header word of a reply. -/
def monHeader (op tag count : Nat) (more poison : Bool) : Word :=
  BitVec.ofNat 32 (op * 2 ^ 24 + tag * 2 ^ 16 + b2n more * 2 ^ 15 + b2n poison * 2 ^ 14 + count)

/-- The words of MBX_MSG_1 to MBX_MSG_15 of mailbox 0 that a fragment fills. -/
def State.monWords (s : State) (bytes : List Byte) : Nat → State
  | 0 => s
  | k + 1 =>
    let part := (bytes.drop (4 * k)).take 4
    let t := s.monWords bytes k
    if part.isEmpty then t else t.setReg (R.MBX_MSG 0 (k + 1)) (BitVec.ofNat 32 (ofBytes part))

/-- A fragment of a reply in mailbox 0, while it is PENDING, and its acknowledgement. -/
def State.monMailbox (s : State) (op tag status : Nat) (bytes : List Byte) (more poison : Bool) :
    State :=
  let t := if s.mbxIsPending 0 then
      (s.setReg (R.MBX_MSG 0 0) (monHeader op tag bytes.length more poison)).monWords bytes 15
    else s
  mbxAckWrite .monitor 0 (t.fld (F.MBX_STATE_seq 0)) status t

/-- A frame on the UART. -/
def State.monUart (s : State) (op tag status : Nat) (bytes : List Byte) (more poison : Bool) :
    State :=
  let body := toBytes 4 (monHeader op tag 0 more poison).toNat ++ bytes
  let frame := 0x7E#8 :: (toBytes 2 body.length ++ body ++ toBytes 4 (crc32c body).toNat)
  { s with mon := { s.mon with sent := s.mon.sent ++ [(status, frame)] } }

/-- The next fragment of the reply: at most 60 bytes on PF0, 4,096 on the UART. -/
def State.monNext (s : State) (via : MonVia) (status : Nat) : State :=
  let n := if via.uart then 4096 else 60
  let bytes := s.mon.reply.take n
  let rest := s.mon.reply.drop n
  let s := { s with mon := { s.mon with reply := rest } }
  if via.uart then s.monUart s.mon.replyOp via.tag.toNat status bytes (!rest.isEmpty) s.mon.replyPoison
  else s.monMailbox s.mon.replyOp via.tag.toNat status bytes (!rest.isEmpty) s.mon.replyPoison

/-- A reply: its status, its bytes and its poison bit (R476, R480). -/
def State.monReply (s : State) (via : MonVia) (op status : Nat) (bytes : List Byte := [])
    (poison : Bool := false) : State :=
  ({ s with mon := { s.mon with reply := bytes, replyOp := op, replyPoison := poison } }).monNext via status

/-! ## Accesses that a design answers (R17, R478, R480) -/

/-- The bytes of the next packet. -/
def MonAway.size (x : MonAway) : Nat := min 512 (if x.op = 0x11 then x.left else x.data.length)

/-- The next packet of a READ or WRITE to the window of an access point; without a usable route it
ends with an error response. -/
def State.monSend (s : State) (point : Nat) (x : MonAway) : State :=
  let u : Master := .accessPoint (Fin.ofNat 192 point)
  let e := s.route Master.monitor.ni u.ni
  let n := x.size
  let body := if x.op = 0x11 then toBytes 8 (n - 1) else x.data.take n
  let kind := if x.op = 0x11 then 2 else 1
  let p : Packet := {
    kind := BitVec.ofNat 4 kind, prio := 0, route := BitVec.ofNat 12 u.ni, src := BitVec.ofNat 10 Master.monitor.ni
    dst := BitVec.ofNat 10 u.ni, txid := 0, poison := false, integ := kindInteg kind, tag := x.tag
    address := x.address, dtag := 0, payload := body, crc := if kindInteg kind then crc32c body else 0
    fpoison := false }
  if e.usable u.ni then
    let t := (s.launchPacket p e).track p
    { t with mon := { t.mon with away := some x } }
  else
    let v := s.free
    { v.2 with mon := { v.2.mon with away := none } }.monReply x.via x.op (v.1 % 65536)

/-- What is left after a packet of `n` bytes. -/
def MonAway.after (x : MonAway) (n : Nat) (bytes : List Byte) (poison : Bool) : MonAway :=
  { x with address := x.address + BitVec.ofNat 48 n, got := x.got ++ bytes, left := x.left - n
           data := x.data.drop n, poison := x.poison || poison }

/-- The answer of a design to the monitor's packet; an error's code that no rule states is free. -/
def State.monAnswer (s : State) (tag : BitVec 8) (r : Resp) : State :=
  match s.mon.away with
  | none => s
  | some x =>
    if x.tag ≠ tag then s
    else
      let done := fun (s : State) => { s with mon := { s.mon with away := none } }
      match r with
      | .data b p =>
        let y := x.after x.size (if x.op = 0x11 then b else []) p
        if y.left = 0 ∧ y.data = [] then (done s).monReply x.via x.op 0 y.got y.poison
        else s.monSend ((x.address.toNat - 0x22000000000) / 0x40000000) y
      | .error st =>
        if st = 0 then
          let v := s.free
          (done v.2).monReply x.via x.op (v.1 % 65536)
        else (done s).monReply x.via x.op st.toNat
      | _ => s

/-- Whether a request can come over a transport (R475): mailbox 0 is PENDING for the monitor's
NI, or the husk holds the management UART. -/
def State.monOpen (s : State) (via : MonVia) : Bool :=
  if via.uart then s.holds .husk (R.DEV_CLAIM 0x1B0)
  else s.mbxIsPending 0 && s.fld (F.MBX_CFG_kind 0) == 2 && s.mbxReceiver 0 .monitor

/-- A send of mailbox 0 whose header has more set is a fragment of a request, and it is
acknowledged with 0x0000 (R476). -/
def State.monFragment (s : State) (mbx : Nat) : State :=
  if mbx = 0 ∧ s.monOpen { uart := false, tag := 0 } = true ∧ (s.reg (R.MBX_MSG 0 0)).getLsbD 15 = true then
    mbxAckWrite .monitor 0 (s.fld (F.MBX_STATE_seq 0)) 0 s
  else s

/-- R418, R476. -/
def execMbxSend (m : Master) (mbx : Fin 256) (s : State) : Out :=
  let t := mbxSendGo m mbx.val s
  .next (if s.mbxIsPending mbx.val then t else t.monFragment mbx.val)

end Sys2Proof.Machine
end

