-- ==== Sys2Proof/Machine/Claims.lean ====
section
/-! DEFINITION. Claims on contested resources (R39 to R43): claiming, releasing, and the
releases that a pod switch or an engine's unload brings. -/

namespace Sys2Proof.Machine

/-- The unit and slot of a cue slot's claim register; none for a device-wide claim. -/
def cueOfClaim (off : Nat) : Option (CueUnit × Nat) :=
  if 0x1000000 ≤ off then
    some (.eng (Fin.ofNat 1024 ((off - 0x1000000) / 0x1000)), off % 0x1000 / 4 % 8)
  else if 0x700000 ≤ off then some (.cfg, off % 0x1000 / 4 % 8)
  else if 0x500000 ≤ off then
    some (.cvl (Fin.ofNat 8 ((off - 0x500000) / 0x8000)), off % 0x1000 / 4 % 8)
  else if 0x100000 ≤ off then some (.tim, off % 0x1000 / 4 % 8)
  else none

/-! ## Timers of the time unit (R288) -/

def noTimer (_ : Nat) : Timer := {}

def State.timer (s : State) (k : Nat) : Timer := Table.get noTimer s.tim.timers k

def State.setTimer (s : State) (k : Nat) (t : Timer) : State :=
  { s with tim := { s.tim with timers := Table.set noTimer s.tim.timers k t } }

/-- A timer stops; its pin returns low. -/
def State.haltTimer (s : State) (k : Nat) : State :=
  (s.setBit (F.TIM_TMR_CTRL_running k) false).setTimer k {}

/-! ## Claims -/

/-- Free the resource whose claim register is at `off`; a cue slot is disarmed (R293), a
general timer stops (R288). -/
def State.freeClaim (s : State) (off : Nat) : State :=
  let s := s.setHolder off none
  match cueOfClaim off with
  | some (u, slot) => if s.cueArmed u slot then s.cueClear u slot else s
  | none =>
    let k := (off - 0x1000) / 4
    if 0x1C0 ≤ k then s.haltTimer (k - 0x1C0) else s

/-- Free the resources at every offset of a list. -/
def State.freeClaims (s : State) : List Nat → State
  | [] => s
  | off :: l => (s.freeClaim off).freeClaims l

/-- The offsets of the claims that masters at the NI with key `k` hold. -/
def State.claimsOf (s : State) (k : Nat) : List Nat :=
  (s.claims.filter fun e => match e.2 with
    | some h => h.key == k
    | none => false).map (·.1)

/-- Every claim held at the NI with key `k` is released (R42, R129). -/
def State.releaseFor (s : State) (k : Nat) : State := s.freeClaims (s.claimsOf k)

/-- A write of claim (R39, R40). -/
def claimAt (m : Master) (off : Nat) (s : State) : State :=
  match s.holder off with
  | none => ((s.setHolder off (some m)).setFld (claimStatusField off) 0).ack
  | some h =>
    if h.same m then (s.setFld (claimStatusField off) 0).ack
    else (s.setFld (claimStatusField off) Code.claimBusy).ack

/-- A write of release (R42). -/
def releaseAt (m : Master) (off : Nat) (s : State) : State :=
  match s.holder off with
  | none => (s.setFld (claimStatusField off) 0).ack
  | some h =>
    if h.same m then ((s.freeClaim off).setFld (claimStatusField off) 0).ack
    else
      let s := s.fault (regUnit off) .claim (.unit m)
      (s.setFld (claimStatusField off) Code.notPermitted).ack

/-- Whether a claim register exists (R43, Table 1.8). -/
def ClaimRef.ok : ClaimRef → Bool
  | .device k => claimIndexOk k.val
  | _ => true

/-- An access to a reserved offset (R18): an error response and a DECODE record. -/
def State.decodeError (s : State) (u m : Master) : State := (s.fault u .decode (.unit m)).error

def claimGo (m : Master) (c : ClaimRef) (s : State) : State :=
  if c.ok then claimAt m c.off s else s.decodeError Unit.dev m

def releaseGo (m : Master) (c : ClaimRef) (s : State) : State :=
  if c.ok then releaseAt m c.off s else s.decodeError Unit.dev m

/-- R39, R40, R43. -/
def execClaim (m : Master) (c : ClaimRef) (s : State) : Out := .next (claimGo m c s)

end Sys2Proof.Machine
end

