-- ==== Sys2Proof/Machine/TimeUnit.lean ====
section
/-! DEFINITION. The time unit (chapter 8): the two domains and their ticks, INCREMENT and
ADJUST, sources and domain states, holdover and the time-error bound, the servo, the
service timescale, PPS_OUT and the general timers. -/

namespace Sys2Proof.Machine

/-- Domain B as a Bool. -/
def Dom.isB : Dom → Bool
  | .a => false
  | .b => true

def Dom.other : Dom → Dom
  | .a => .b
  | .b => .a

/-- The page index of a domain. -/
def Dom.idx (x : Dom) : Nat := b2n x.isB

def domOf (b : Bool) : Dom := if b then .b else .a

/-! ## Ticks (R263, R266, R283) -/

/-- The units of 2⁻³² ns one tick of a slew adds at `rate` ns per 10⁹ ticks, and the new
carry (R266). -/
def slewQuantum (acc rate : Nat) : Nat × Nat :=
  ((acc + rate * 2 ^ 32) / 1000000000, (acc + rate * 2 ^ 32) % 1000000000)

/-- The part of `remain` that one tick adds: at most `q`, with the sign of `remain`. -/
def slewStep (remain : Int) (q : Nat) : Int :=
  if 0 ≤ remain then min remain q else max remain (-q)

/-- One tick of a domain: INCREMENT, the fine accumulator, and the slew contribution. -/
def Domain.tick (d : Domain) (incr fine rate : Nat) : Domain :=
  let acc := d.fineAcc.toNat + fine
  let q := slewQuantum d.slewAcc rate
  let add := if d.slewing then slewStep d.slewRemain q.1 else 0
  { d with
    time := d.time + BitVec.ofNat 96 (incr * 16 + (if 65536 ≤ acc then 16 else 0)) +
      BitVec.ofInt 96 add
    fineAcc := BitVec.ofNat 16 acc
    slewRemain := d.slewRemain - add
    slewAcc := if d.slewing then q.2 else d.slewAcc }

/-- Show O and the slewing flag (R283). -/
def State.setOffset (s : State) (o : Int) (acc : Nat) : State :=
  { s.setBit F.TIM_SVC_STATUS_slewing (o != 0) with
    tim := { s.tim with offset := o, offsetAcc := acc } }

/-- One tick: a nanosecond passes; in the time unit both domains advance, then O slews towards
zero. -/
def State.tick (s : State) : State :=
  let s := { s with tim := { s.tim with uptime := s.tim.uptime + 1 } }
  if !s.tim.running then s
  else
    let go (b : Bool) (s : State) : State :=
      s.setDom b ((s.dom b).tick (s.reg (R.TIM_x_INCR (b2n b))).toNat
        (s.fld (F.TIM_x_INCR_FINE_fine (b2n b))) (s.fld (F.TIM_x_ADJ_CTRL_rate_ns_s (b2n b))))
    let s := go true (go false s)
    if s.tim.offset = 0 then s
    else
      let q := slewQuantum s.tim.offsetAcc (s.fld F.TIM_SVC_SLEW_rate_ns_s)
      s.setOffset (s.tim.offset - slewStep s.tim.offset q.1) q.2

/-! ## The WRAP doorbell (R262) -/

/-- The WRAP doorbell: event flag 11 of every engine, a pulse of tp_wrap, and the mailbox
bell TIM_WRAP names. -/
def wrapBell (step : Bool) (s : State) : State :=
  let s := s.incFld F.TIM_WRAP_count
  let s := s.setBit F.TIM_WRAP_step step
  let s := s.raiseAll 11 1024
  let s := { s with tim := { s.tim with wrapPulses := s.tim.wrapPulses + 1 } }
  if s.bit F.TIM_WRAP_mbx_en then s.ringBell (s.fld F.TIM_WRAP_mailbox) (s.fld F.TIM_WRAP_bell)
  else s

/-! ## What is held against service time (R267) -/

/-- Whether a cue slot in any unit is armed. -/
def State.anyCue (s : State) : Bool := !s.cues.isEmpty

/-- Whether an engine waits under WAITT or WAITE. -/
def State.anyWait (s : State) : Bool := !s.waits.isEmpty

def State.anyTimer (s : State) : Bool := (List.range 32).any fun k => s.bit (F.TIM_TMR_CTRL_running k)

/-- Whether a transaction is open: its ID is STAGING, PREPARING or COMMITTED. -/
def Tx.isOpen (t : Tx) : Bool := t.state != .free && t.state != .ended

def State.anyTx (s : State) : Bool := s.txu.txs.any fun e => e.2.isOpen

/-- Whether any item is held that a large step would misjudge (R267). -/
def State.heldItems (s : State) : Bool := s.anyCue || s.anyWait || s.anyTimer || s.anyTx

/-- Whether a STEP of domain `b` by `ns` is refused (R267). -/
def State.stepBarred (s : State) (b : Bool) (ns : Int) : Bool :=
  s.serving == b && decide (100000000 < ns.natAbs) && s.heldItems

/-- D moved by a signed number of nanoseconds. A step of the serving domain raises the WRAP
doorbell (R262). -/
def State.stepDomain (s : State) (b : Bool) (ns : Int) : State :=
  let s := s.setDom b { s.dom b with time := (s.dom b).time + BitVec.ofInt 96 (ns * 2 ^ 32) }
  if s.serving == b then wrapBell true s else s

/-! ## INCREMENT and ADJUST (R264, R266) -/

/-- Whether `m` is the servo holder of a domain (R264, R273). -/
def State.isServo (s : State) (m : Master) (b : Bool) : Bool :=
  match (s.dom b).holder with
  | none => m.same .husk
  | some h => h.same m

def Dom.statusF (x : Dom) : Field := F.TIM_x_STATE_last_status x.idx

/-- The servo watchdog of a domain restarts (R274). -/
def State.wdRestart (s : State) (x : Dom) : State :=
  s.setDom x.isB { s.dom x.isB with wdFrom := s.tim.uptime }

/-- A write of INCREMENT (R264, R274). -/
def incrWrite (m : Master) (x : Dom) (v : Word) (s : State) : State :=
  if !s.isServo m x.isB then s.refuse x.statusF Code.servoHeld
  else if v.toNat < 0x0FFBE76D ∨ 0x10041893 < v.toNat then s.refuse x.statusF Code.invalidArgument
  else ((s.setReg (R.TIM_x_INCR x.idx) v).wdRestart x).ack

/-- A write of INCREMENT_FINE (R263, R273). -/
def fineWrite (m : Master) (x : Dom) (v : BitVec 16) (s : State) : State :=
  if !s.isServo m x.isB then s.refuse x.statusF Code.servoHeld
  else (s.setFld (F.TIM_x_INCR_FINE_fine x.idx) v.toNat).ack

/-- The amount of ADJUST, signed 64-bit. -/
def State.adjAmount (s : State) (x : Dom) : Int :=
  sextNat 64 (s.pair (R.TIM_x_ADJ_LO x.idx) (R.TIM_x_ADJ_HI x.idx))

/-- The signed nanoseconds of a remaining slew, saturated to 32 bits. -/
def remainShown (r : Int) : Nat :=
  let ns := Int.tdiv r (2 ^ 32)
  (max (-2147483648) (min 2147483647 ns) % 2 ^ 32).toNat

def State.showRemain (s : State) (x : Dom) : State :=
  s.setReg (R.TIM_x_ADJ_REMAIN x.idx) (BitVec.ofNat 32 (remainShown (s.dom x.isB).slewRemain))

/-- go with mode STEP (R266): applied at the first tick after the write, or armed on a TIM
cue slot; refused while busy, or under R267. -/
def adjustStepGo (m : Master) (x : Dom) (bind : Bool) (slot : Fin 8) (s : State) : State :=
  if !s.isServo m x.isB then s.refuse x.statusF Code.servoHeld
  else if s.bit (F.TIM_x_ADJ_CTRL_busy x.idx) then s.refuse x.statusF Code.adjustBusy
  else
    let put (s : State) : State :=
      let s := s.setFld (F.TIM_x_ADJ_CTRL_mode x.idx) 0
      let s := s.setBit (F.TIM_x_ADJ_CTRL_bind x.idx) bind
      s.setFld (F.TIM_x_ADJ_CTRL_cue_slot x.idx) slot.val
    if bind then
      let r := s.armCue m .tim slot.val (s.reg (R.TIM_x_ADJ_AT x.idx)) 0 false (.domainStep x.isB)
      if r.1 = 0 then
        let s := (put r.2).setDom x.isB { r.2.dom x.isB with stepSlot := some slot }
        ((s.setBit (F.TIM_x_ADJ_CTRL_busy x.idx) true).setFld x.statusF 0).ack
      else r.2.refuse x.statusF r.1
    else if s.stepBarred x.isB (s.adjAmount x) then s.refuse x.statusF Code.stepRefused
    else (((put s).stepDomain x.isB (s.adjAmount x)).setFld x.statusF 0).ack

/-- go with mode SLEW (R266). -/
def adjustSlewGo (m : Master) (x : Dom) (rate : Nat) (s : State) : State :=
  if !s.isServo m x.isB then s.refuse x.statusF Code.servoHeld
  else if s.bit (F.TIM_x_ADJ_CTRL_busy x.idx) then s.refuse x.statusF Code.adjustBusy
  else
    let s := s.setFld (F.TIM_x_ADJ_CTRL_rate_ns_s x.idx) rate
    if rate = 0 ∨ 100000 < rate then s.refuse x.statusF Code.invalidArgument
    else
      let s := s.setFld (F.TIM_x_ADJ_CTRL_mode x.idx) 1
      let s := s.setBit (F.TIM_x_ADJ_CTRL_busy x.idx) true
      let s := s.setDom x.isB { s.dom x.isB with
        slewing := true, slewRemain := s.adjAmount x * 2 ^ 32, slewAcc := 0 }
      ((s.showRemain x).setFld x.statusF 0).ack

/-- A slew ends and nothing of it remains. -/
def State.endSlew (s : State) (x : Dom) : State :=
  let s := s.setDom x.isB { s.dom x.isB with slewing := false, slewRemain := 0, slewAcc := 0 }
  (s.setBit (F.TIM_x_ADJ_CTRL_busy x.idx) false).showRemain x

/-- A write of cancel stops a slew and discards the remainder (R266). -/
def adjustCancelGo (m : Master) (x : Dom) (s : State) : State :=
  if !s.isServo m x.isB then s.refuse x.statusF Code.servoHeld
  else if (s.dom x.isB).slewing then (s.endSlew x).ack else s.ack

/-- The last slew tick adds what remains (R266), once no more remains than one tick adds. -/
def slewFinish (x : Dom) (s : State) : State :=
  let d := s.dom x.isB
  let q := slewQuantum d.slewAcc (s.fld (F.TIM_x_ADJ_CTRL_rate_ns_s x.idx))
  if d.slewing && decide (d.slewRemain.natAbs ≤ q.1) then
    (s.setDom x.isB { d with time := d.time + BitVec.ofInt 96 d.slewRemain }).endSlew x
  else s

/-- A STEP armed on a cue slot is applied as the slot fires (R266, R267). -/
def State.boundStep (s : State) (b : Bool) : State :=
  let x := domOf b
  let s := s.setDom b { s.dom b with stepSlot := none }
  let s := s.setBit (F.TIM_x_ADJ_CTRL_busy x.idx) false
  if s.stepBarred b (s.adjAmount x) then s.setFld x.statusF Code.stepRefused
  else s.stepDomain b (s.adjAmount x)

/-! ## The service timescale (R282 to R285) -/

def State.domState (s : State) (b : Bool) : Nat := s.fld (F.TIM_x_STATE_state (b2n b))

/-- TIM_SVC_STATUS follows its serving domain (R281, R285). -/
def State.showService (s : State) : State :=
  let st := s.domState s.serving
  let s := s.setFld F.TIM_SVC_STATUS_state st
  let s := s.setFld F.TIM_SVC_STATUS_status (if st = DomState.holdover then Code.holdover else 0)
  let lim := s.fld F.TIM_TEB_LIMIT_limit_ns
  s.setBit F.TIM_SVC_STATUS_teb_over
    (lim != 0 && decide (lim < (s.reg (R.TIM_x_TEB (b2n s.serving))).toNat))

/-- Whether a squelch condition of R287 holds. -/
def State.ppsSquelched (s : State) : Bool :=
  let b := if s.fld F.TIM_PPS_CTRL_dom = 0 then s.serving else s.fld F.TIM_PPS_CTRL_dom == 2
  let lim := s.fld F.TIM_PPS_TEB_limit_ns
  s.domState b == DomState.free ||
    (lim != 0 && decide (lim < (s.reg (R.TIM_x_TEB (b2n b))).toNat)) ||
    s.mode == Mode.off || s.mode == Mode.held || s.mode == Mode.boot || s.mode == Mode.zeroised

/-- PPS_OUT is enabled (R287). -/
def State.ppsEnabled (s : State) : Bool := s.bit F.TIM_PPS_CTRL_enable && !s.ppsSquelched

/-- Show the squelch condition. -/
def State.showPps (s : State) : State := s.setBit F.TIM_PPS_CTRL_squelched s.ppsSquelched

/-- A seamless switch of the serving domain (R282): O takes the difference of the domains. -/
def State.switchService (s : State) (b : Bool) : State :=
  if s.serving = b then s.setFld F.TIM_SVC_CTRL_select (b2n b)
  else
    let diff := ((s.dom s.serving).time - (s.dom b).time).toInt
    let s := s.setOffset (s.tim.offset + diff) 0
    let s := s.setBit F.TIM_SVC_STATUS_dom b
    let s := s.setFld F.TIM_SVC_CTRL_select (b2n b)
    (s.showService.showPps).fault Unit.tim .timeSwitch (.code 961)

/-- The automatic switches of R284 after domain `b` changed from state `old`. -/
def State.autoSwitch (s : State) (b : Bool) (old : Nat) : State :=
  if !s.bit F.TIM_SVC_CTRL_auto then s
  else if s.serving = b && s.domState b == DomState.holdover && old != DomState.holdover &&
      s.domState (!b) == DomState.locked then s.switchService (!b)
  else if s.bit F.TIM_SVC_CTRL_revert && !b && s.serving && s.domState false == DomState.locked &&
      old != DomState.locked then s.switchService false
  else s

/-- A domain changes state (R271): the record, the service status, and R284. -/
def State.setDomState (s : State) (b : Bool) (st : Nat) : State :=
  let old := s.domState b
  if old = st then s
  else
    let s := s.setFld (F.TIM_x_STATE_state (b2n b)) st
    let s := if st = DomState.locked then
      s.setDom b { s.dom b with everLocked := true, acquired := true } else s
    let s := if st = DomState.holdover then s else s.setReg (R.TIM_x_HO_SECONDS (b2n b)) 0
    let s := s.fault Unit.tim .timeState (.code 961) 0 st
    (s.showService.showPps).autoSwitch b old

def State.setTeb (s : State) (b : Bool) (ns : Nat) : State :=
  ((s.setReg (R.TIM_x_TEB (b2n b)) (BitVec.ofNat 32 (min 0xFFFFFFFE ns))).showService).showPps

/-- The TEB of an ACQUIRING or LOCKED domain (Table 8.4): a measured error and the source
allowance; unknown without a phase source while ACQUIRING. -/
def State.measuredTeb (s : State) (b : Bool) (err : Word) : State :=
  let e := (sextNat 32 err.toNat).natAbs
  s.setTeb b (e + s.fld (F.TIM_x_SERVO_CFG_src_allow_ns (b2n b)))

def State.unknownTeb (s : State) (b : Bool) : State :=
  ((s.setReg (R.TIM_x_TEB (b2n b)) 0xFFFFFFFF#32).showService).showPps

/-- Whether a domain names a phase source (Table 8.3). -/
def State.hasPhaseSrc (s : State) (b : Bool) : Bool := s.fld (F.TIM_x_CTRL_phase_src (b2n b)) != 0

/-- A domain is under the husk's servo: the state machine of R271 applies. -/
def State.huskServo (s : State) (b : Bool) : Bool := (s.dom b).holder.isNone

/-! ## Holdover (R277 to R281) -/

/-- The denominator of frequency predictions: 2³⁰ × 86,400. -/
def yScale : Nat := 2 ^ 30 * 86400

def sWord (w : Word) : Int := sextNat 32 w.toNat

/-- The oscillator temperature, in 1/128 °C. -/
def State.temperature (s : State) : Int := sextNat 16 (s.fld F.TIM_TEMP_temp)

/-- ΔT since the last re-centring. -/
def State.deltaT (s : State) : Int := s.temperature - s.tim.modelTemp

def State.modelVal (s : State) (k : Nat) : Int := sWord (s.reg (R.TIM_MODEL_VAL k))

/-- Whether term `k` is learned (Table 8.7). -/
def State.learned (s : State) (k : Nat) : Bool := bitAt (s.fld F.TIM_MODEL_STATUS_learned) k

/-- y of R278, in units of 1 / (2³⁰ × 86,400) ppb. -/
def State.predicted (s : State) : Int :=
  let t := s.deltaT
  let v (k : Nat) : Int := if s.learned k || k == 0 then s.modelVal k else 0
  (v 0 * 2 ^ 14 + v 1 * t * 2 ^ 7 + v 2 * t * t) * 86400 + v 3 * 2 ^ 14 * s.tim.modelAge

/-- The drift part of y that a frozen INCREMENT leaves uncorrected (R281). -/
def State.drift (s : State) : Int :=
  let t := s.deltaT
  let v (k : Nat) : Int := if s.learned k then s.modelVal k else 0
  (v 1 * t * 2 ^ 7 + v 2 * t * t) * 86400 + v 3 * 2 ^ 14 * s.tim.modelAge

/-- INCREMENT and INCREMENT_FINE for a predicted offset (R265), rounded to the nearest
1/65,536 LSB. -/
def incrementFor (y : Int) : Nat × Nat :=
  let den := (1000000000 * (yScale : Int) + y).toNat
  let total := (2 ^ 44 * 1000000000 * yScale + den / 2) / den
  (total / 65536, total % 65536)

def State.writeIncrement (s : State) (b : Bool) (y : Int) : State :=
  let r := incrementFor y
  (s.setReg (R.TIM_x_INCR (b2n b)) (BitVec.ofNat 32 r.1)).setFld (F.TIM_x_INCR_FINE_fine (b2n b)) r.2

/-- The terms of the bound, in units of 2⁻¹⁶ (Table 8.7): priors until learned, and s1 and
s2 times 4 in the fallback of R280. -/
def State.unc (s : State) (k : Nat) : Nat :=
  let f := if s.tim.tsenseFallback && (k == 1 || k == 2) then 4 else 1
  f * (if s.learned k || k == 0 then (s.reg (R.TIM_MODEL_UNC k)).toNat
    else if k = 1 then s.fld F.TIM_MODEL_PRIOR_s1 * 16
    else if k = 2 then s.fld F.TIM_MODEL_PRIOR_s2
    else 6554)

/-- The part of the temperature outside the learned range, in 1/128 °C. -/
def State.outsideRange (s : State) : Nat :=
  let t := s.temperature
  let lo := sextNat 16 (s.fld F.TIM_MODEL_RANGE_t_lo)
  let hi := sextNat 16 (s.fld F.TIM_MODEL_RANGE_t_hi)
  if t < lo then (lo - t).toNat else if hi < t then (t - hi).toNat else 0

/-- The growth of the bound in second `j` after entry (R281), in units of `yScale`. -/
def State.tebGrowth (s : State) (b : Bool) (j : Nat) : Nat :=
  let t := s.deltaT.natAbs
  (s.unc 0 * 2 ^ 14 + s.unc 1 * t * 2 ^ 7 + s.unc 2 * t * t +
      3 * s.unc 1 * s.outsideRange * 2 ^ 7) * 86400 + s.unc 3 * 2 ^ 14 * j +
    (if s.bit (F.TIM_x_CTRL_legacy_holdover (b2n b)) then s.drift.natAbs else 0)

/-- Show the bound, rounded up, and report it when it first exceeds the limit (R281);
unknown while XTAL_TIME is not judged stable (R490). -/
def State.showBound (s : State) (b : Bool) : State :=
  let s := if s.bit F.CLK_SRC_STATUS_xtime_ok then s.setTeb b (((s.dom b).teb + yScale - 1) / yScale)
    else s.unknownTeb b
  let lim := s.fld F.TIM_TEB_LIMIT_limit_ns
  if lim != 0 && decide (lim < (s.reg (R.TIM_x_TEB (b2n b))).toNat) && !(s.dom b).tebLimitSent then
    (s.setDom b { s.dom b with tebLimitSent := true }).fault Unit.tim .tebLimit (.code 961)
  else s

/-- The husk re-centres the model at holdover entry (R278). -/
def State.recentre (s : State) (c0 : Word) : State :=
  let t := s.deltaT
  let c1 := s.modelVal 1 + 2 * s.modelVal 2 * t / 128
  let s := s.setReg (R.TIM_MODEL_VAL 0) c0
  let s := s.setReg (R.TIM_MODEL_VAL 1) (BitVec.ofInt 32 c1)
  { s with tim := { s.tim with modelTemp := s.temperature, modelAge := 0 } }

/-- Entry to HOLDOVER (R271, R277, R278, R281). -/
def State.enterHoldover (s : State) (b : Bool) (c0 : Word) : State :=
  let e0 := (s.reg (R.TIM_x_TEB (b2n b))).toNat
  let s := s.recentre c0
  let s := s.setDom b { s.dom b with teb := e0 * yScale, tebLimitSent := false }
  let s := s.setReg (R.TIM_x_HO_SECONDS (b2n b)) 0
  let s := if s.bit (F.TIM_x_CTRL_legacy_holdover (b2n b)) then s else s.writeIncrement b s.predicted
  s.setDomState b DomState.holdover

/-- One second of HOLDOVER (R277, R281). -/
def holdoverSecond (x : Dom) (s : State) : State :=
  let b := x.isB
  if s.domState b ≠ DomState.holdover then s
  else
    let s := s.satOnly (F.TIM_x_HO_SECONDS_seconds x.idx)
    let s := { s with tim := { s.tim with modelAge := s.tim.modelAge + 1 } }
    let s := if s.bit (F.TIM_x_CTRL_legacy_holdover x.idx) then s else s.writeIncrement b s.predicted
    let j := (s.reg (R.TIM_x_HO_SECONDS x.idx)).toNat
    let s := s.setDom b { s.dom b with teb := (s.dom b).teb + s.tebGrowth b j }
    s.showBound b

/-! ## Sources (R268 to R271) -/

/-- A source becomes present (R271): ACQUIRING is entered from FREE or HOLDOVER. -/
def sourceUp (x : Dom) (phase : Bool) (err : Word) (s : State) : State :=
  let b := x.isB
  let s := s.setBit (if phase then F.TIM_x_STATE_src_ok x.idx else F.TIM_x_STATE_freq_ok x.idx) true
  if !s.huskServo b then s
  else if s.domState b = DomState.free ∨ s.domState b = DomState.holdover then
    let s := s.setDomState b DomState.acquiring
    if s.hasPhaseSrc b then s.measuredTeb b err else s.unknownTeb b
  else s

/-- The lock criterion has held for 64 seconds (R271). -/
def lockDomain (x : Dom) (meanErr : Word) (s : State) : State :=
  let b := x.isB
  if s.huskServo b && s.domState b == DomState.acquiring then
    (s.setDomState b DomState.locked).measuredTeb b meanErr
  else s

/-- The phase error has been beyond ±4 × lock_ns for 4 seconds (R271). -/
def unlockDomain (x : Dom) (err : Word) (s : State) : State :=
  let b := x.isB
  if s.huskServo b && s.domState b == DomState.locked then
    let s := s.setDomState b DomState.acquiring
    if s.hasPhaseSrc b then s.measuredTeb b err else s.unknownTeb b
  else s

/-- A source is lost (R271): HOLDOVER from LOCKED, and from ACQUIRING once the domain has
been LOCKED since BOOT; otherwise FREE. -/
def sourceLost (x : Dom) (c0 : Word) (s : State) : State :=
  let b := x.isB
  let s := s.setBit (F.TIM_x_STATE_src_ok x.idx) false
  let s := s.setBit (F.TIM_x_STATE_freq_ok x.idx) false
  if !s.huskServo b then s
  else if s.domState b = DomState.locked then s.enterHoldover b c0
  else if s.domState b = DomState.acquiring then
    if (s.dom b).everLocked then s.enterHoldover b c0
    else (s.setDomState b DomState.free).unknownTeb b
  else s

/-- The stamp of a PPS_IN edge in one domain, and the time the edge marks (R269). -/
def stampPps (b : Bool) (s : State) : State :=
  let t := (s.dom b).time.toNat
  let ns := t / 2 ^ 32
  let s := s.setPair (R.TIM_x_PPS_NS_LO (b2n b)) (R.TIM_x_PPS_NS_HI (b2n b)) ns
  let s := s.setFld (F.TIM_x_PPS_FRAC_sixteenths (b2n b)) (t % 2 ^ 32 / 2 ^ 28)
  let s := s.incFld (F.TIM_x_PPS_FRAC_count (b2n b))
  let armed := s.bit (F.TIM_x_STATE_tod_armed (b2n b))
  let mark := if armed then s.pair (R.TIM_x_PPS_TOD_LO (b2n b)) (R.TIM_x_PPS_TOD_HI (b2n b))
    else (ns + 500000000) / 1000000000 * 1000000000
  let s := s.setBit (F.TIM_x_STATE_tod_armed (b2n b)) false
  s.setDom b { s.dom b with mark := mark }

/-- A PPS_IN rising edge (R269). While the bypass is closed PPS_OUT follows (R287). -/
def ppsEdge (s : State) : State := stampPps true (stampPps false s)

/-- A write of TIM_x_PPS_TOD_HI arms the time of day (R269, R11): by the husk or the servo
holder. -/
def todArm (m : Master) (x : Dom) (hi : Word) (s : State) : State :=
  if m.same .husk || s.isServo m x.isB then
    let s := s.writePair m (R.TIM_x_PPS_TOD_LO x.idx) (R.TIM_x_PPS_TOD_HI x.idx) hi
    (s.setBit (F.TIM_x_STATE_tod_armed x.idx) true).ack
  else s.refuse x.statusF Code.servoHeld

/-! ## The servo (R272 to R274) -/

/-- A correction by the husk's servo (R272): a step only during the first acquisition after
BOOT and for more than 1 ms, reported and retried if refused; otherwise a slew of no more
than max_slew_ns_s. -/
def servoCorrect (x : Dom) (err : BitVec 64) (incr : Word) (fine : BitVec 16) (s : State) : State :=
  let b := x.isB
  if !s.huskServo b || s.domState b == DomState.free || s.domState b == DomState.holdover then s
  else
    let e := err.toInt
    if s.domState b == DomState.acquiring && !(s.dom b).acquired && decide (1000000 < e.natAbs) then
      if s.stepBarred b (-e) then
        (s.setFld x.statusF Code.stepRefused).fault Unit.tim .timeStep (.code 961) Code.stepRefused
      else s.stepDomain b (-e)
    else
      let s := s.setReg (R.TIM_x_INCR x.idx) incr
      let s := s.setFld (F.TIM_x_INCR_FINE_fine x.idx) fine.toNat
      if s.bit (F.TIM_x_ADJ_CTRL_busy x.idx) then s
      else
        let rate := max 1 (min e.natAbs (s.fld (F.TIM_x_SERVO_CFG_max_slew_ns_s x.idx)))
        let s := s.setFld (F.TIM_x_ADJ_CTRL_rate_ns_s x.idx) rate
        let s := s.setFld (F.TIM_x_ADJ_CTRL_mode x.idx) 1
        if e = 0 then s
        else
          let s := s.setBit (F.TIM_x_ADJ_CTRL_busy x.idx) true
          (s.setDom b { s.dom b with
            slewing := true, slewRemain := -e * 2 ^ 32, slewAcc := 0 }).showRemain x

/-- A write of TIM_x_SERVO.take (R273). -/
def servoTakeGo (m : Master) (x : Dom) (s : State) : State :=
  if s.bit (F.TIM_x_SERVO_takeover_ok x.idx) && s.huskServo x.isB && !m.same .husk then
    let s := s.setDom x.isB { s.dom x.isB with holder := some m, wdFrom := s.tim.uptime }
    let s := s.setFld (F.TIM_x_SERVO_holder_kind x.idx) 3
    (s.setFld (F.TIM_x_SERVO_last_status x.idx) 0).ack
  else s.refuse (F.TIM_x_SERVO_last_status x.idx) Code.notPermitted

/-- The husk is the servo holder again, from the state it finds (R273). -/
def State.servoBack (s : State) (x : Dom) : State :=
  let s := s.setDom x.isB { s.dom x.isB with holder := none }
  s.setFld (F.TIM_x_SERVO_holder_kind x.idx) 1

/-- The husk takes back every servo held at the NI with key `k` (R273). -/
def State.servoRelease (s : State) (k : Nat) : State :=
  let one (x : Dom) (s : State) : State :=
    match (s.dom x.isB).holder with
    | some h => if h.key = k then s.servoBack x else s
    | none => s
  one .b (one .a s)

/-- A write of TIM_x_SERVO.give (R273). -/
def servoGiveGo (m : Master) (x : Dom) (s : State) : State :=
  match (s.dom x.isB).holder with
  | some h =>
    if h.same m then ((s.servoBack x).setFld (F.TIM_x_SERVO_last_status x.idx) 0).ack
    else s.refuse (F.TIM_x_SERVO_last_status x.idx) Code.servoHeld
  | none => s.refuse (F.TIM_x_SERVO_last_status x.idx) Code.servoHeld

/-- The servo watchdog expires wd_ms after its last restart (R274): a LOCKED domain enters
HOLDOVER. -/
def servoWatchdog (x : Dom) (c0 : Word) (s : State) : State :=
  if s.huskServo x.isB || s.fld (F.TIM_x_OWNER_wd_ms x.idx) == 0 ||
      s.domState x.isB != DomState.locked ||
      !s.passed (s.dom x.isB).wdFrom (1000000 * s.fld (F.TIM_x_OWNER_wd_ms x.idx)) then s
  else (s.enterHoldover x.isB c0).fault Unit.tim .servoWd (.code 961)

/-! ## The model (R279) -/

/-- A completed bin (R279): unless frozen or rejected, the refitted terms take effect. -/
def modelRefit (accepted : Bool) (t : ModelTerms) (s : State) : State :=
  if s.bit F.TIM_MODEL_STATUS_frozen || !accepted || !s.bit F.CLK_SRC_STATUS_xtime_ok ||
      !(s.domState false == DomState.locked || s.domState true == DomState.locked) then s
  else
    let put (k : Nat) (v u : Word) (s : State) : State :=
      (s.setReg (R.TIM_MODEL_VAL k) v).setReg (R.TIM_MODEL_UNC k) u
    let l := t.learned.toNat
    let z (k : Nat) (w : Word) : Word := if bitAt l k || k == 0 then w else 0
    let s := put 0 t.c0 (BitVec.ofNat 32 (max 328 t.s0.toNat)) s
    let s := put 1 (z 1 t.c1) (z 1 t.s1) s
    let s := put 2 (z 2 t.c2) (z 2 t.s2) s
    let s := put 3 (z 3 t.d) (z 3 t.sd) s
    let s := s.setFld F.TIM_MODEL_STATUS_learned l
    let s := s.setFld F.TIM_MODEL_STATUS_locked_hours t.hours.toNat
    let s := s.setFld F.TIM_MODEL_RANGE_t_lo t.tLo.toNat
    let s := s.setFld F.TIM_MODEL_RANGE_t_hi t.tHi.toNat
    let s := if 24 ≤ t.hours.toNat then s.setBit F.TIM_MODEL_STATUS_restored false else s
    { s with tim := { s.tim with modelTemp := s.temperature, modelAge := 0 } }

/-- The husk saves the model to flash (R279). -/
def modelStore (s : State) : State :=
  let words := (List.range 4).map (fun k => s.reg (R.TIM_MODEL_VAL k)) ++
    (List.range 4).map (fun k => s.reg (R.TIM_MODEL_UNC k)) ++
    [s.reg R.TIM_MODEL_RANGE, s.reg R.TIM_MODEL_STATUS]
  { s with tim := { s.tim with modelSaved := words } }

/-- The husk restores the model at BOOT with every uncertainty doubled (R279, R289). -/
def State.modelRestore (s : State) : State :=
  match s.tim.modelSaved with
  | [a, b, c, d, e, f, g, h, r, st] =>
    let dbl (w : Word) : Word := BitVec.ofNat 32 (min 0xFFFFFFFF (2 * w.toNat))
    let s := ((s.setReg (R.TIM_MODEL_VAL 0) a).setReg (R.TIM_MODEL_VAL 1) b).setReg (R.TIM_MODEL_VAL 2) c
    let s := ((s.setReg (R.TIM_MODEL_VAL 3) d).setReg (R.TIM_MODEL_UNC 0) (dbl e)).setReg
      (R.TIM_MODEL_UNC 1) (dbl f)
    let s := ((s.setReg (R.TIM_MODEL_UNC 2) (dbl g)).setReg (R.TIM_MODEL_UNC 3) (dbl h)).setReg
      R.TIM_MODEL_RANGE r
    let s := s.setFld F.TIM_MODEL_STATUS_learned (F.TIM_MODEL_STATUS_learned.get st)
    s.setBit F.TIM_MODEL_STATUS_restored true
  | _ => s

/-- Time restarts at BOOT (R263, R289). -/
def State.timeBoot (s : State) : State :=
  { s with tim := { s.tim with a := {}, b := {}, offset := 0, offsetAcc := 0, running := true } }

/-- Time stops (R289). -/
def State.timeStop (s : State) : State := { s with tim := { s.tim with running := false } }

/-! ## Selecting the serving domain (R282, R284) -/

/-- Whether a switch to domain `b` is refused with NO_SOURCE (R284). -/
def State.noSource (s : State) (b : Bool) : Bool :=
  s.domState b == DomState.free && !s.bit F.TIM_SVC_CTRL_force

/-- A write of TIM_SVC_CTRL with apply (R282, R284, R509). -/
def selectApply (m : Master) (select force auto revert bind : Bool) (slot : Fin 8) (s : State) :
    State :=
  if s.domState select == DomState.free && !force then s.refuse F.TIM_SVC_REQ_status Code.noSource
  else
    let put (s : State) : State :=
      let s := s.setBit F.TIM_SVC_CTRL_force force
      let s := s.setBit F.TIM_SVC_CTRL_auto auto
      let s := s.setBit F.TIM_SVC_CTRL_revert revert
      let s := s.setBit F.TIM_SVC_CTRL_bind bind
      let s := s.setFld F.TIM_SVC_CTRL_cue_slot slot.val
      s.setShadow R.TIM_SVC_CTRL (BitVec.ofNat 32 (b2n select))
    if bind then
      let r := s.armCue m .tim slot.val (s.reg R.TIM_SVC_AT) 0 false .serviceSwitch
      if r.1 = 0 then
        let s := put r.2
        (({ s with tim := { s.tim with svcSlot := some slot } }).setFld F.TIM_SVC_REQ_status 0).ack
      else r.2.refuse F.TIM_SVC_REQ_status r.1
    else (((put s).switchService select).setFld F.TIM_SVC_REQ_status 0).ack

/-- The shadow of TIM_SVC_CTRL.select. -/
def State.selectShadow (s : State) : Bool := (s.shadow R.TIM_SVC_CTRL).getLsbD 0

/-- A switch armed on a cue slot as the slot fires (R282): judged under R284 at that tick. -/
def State.boundSwitch (s : State) : State :=
  let s := { s with tim := { s.tim with svcSlot := none } }
  if s.noSource s.selectShadow then s.setFld F.TIM_SVC_REQ_status Code.noSource
  else s.switchService s.selectShadow

/-- O reaches exactly zero (R283), once no more remains than one tick moves. -/
def offsetDone (s : State) : State :=
  let q := slewQuantum s.tim.offsetAcc (s.fld F.TIM_SVC_SLEW_rate_ns_s)
  if s.tim.offset ≠ 0 ∧ s.tim.offset.natAbs ≤ q.1 then s.setOffset 0 0 else s

/-! ## PPS_OUT and the bypass (R286, R287) -/

/-- PPS_OUT rises at its instant, or falls after width_us (R286). -/
def ppsOut (falling : Bool) (s : State) : State :=
  if s.ppsEnabled || falling then { s with tim := { s.tim with ppsHigh := !falling } } else s

/-- At the mid-second a change of the enabled condition opens or closes the bypass (R287). -/
def midSecond (s : State) : State := s.showPps.setBit F.TIM_PPS_CTRL_bypass_closed (!s.ppsEnabled)

/-- The bypass closes at once (R287). -/
def State.closeBypass (s : State) : State :=
  { s.setBit F.TIM_PPS_CTRL_bypass_closed true with tim := { s.tim with ppsHigh := false } }

/-! ## General timers (R288) -/

def tmrStatusF (k : Nat) : Field := F.TIM_TMR_STATUS_last_status k

/-- A write of start (R288): outside is refused; a time ahead is the first expiry; a time
reached expires at the first edge after the start, the passed instants being missed. -/
def timerStart (m : Master) (k : Nat) (action : Nat) (mailbox bell frac : Nat) (s : State) : State :=
  if !s.holds m (R.DEV_CLAIM (0x1C0 + k)) then s.refuse (tmrStatusF k) Code.claimBusy
  else match s.classOf (s.reg (R.TIM_TMR_START k)) with
    | .outside => s.refuse (tmrStatusF k) Code.timeOutOfWindow
    | _ =>
      let s := s.setFld (F.TIM_TMR_CTRL_action k) action
      let s := s.setFld (F.TIM_TMR_CTRL_mailbox k) mailbox
      let s := s.setFld (F.TIM_TMR_CTRL_bell k) bell
      let s := s.setFld (F.TIM_TMR_CTRL_frac k) frac
      let s := s.setBit (F.TIM_TMR_CTRL_running k) true
      let s := s.setTimer k { next := some (s.extend (s.reg (R.TIM_TMR_START k))), last := 0
                              outHigh := false }
      (s.setFld (tmrStatusF k) 0).ack

/-- A write of stop (R288). -/
def timerStop (m : Master) (k : Nat) (s : State) : State :=
  if !s.holds m (R.DEV_CLAIM (0x1C0 + k)) then s.refuse (tmrStatusF k) Code.claimBusy
  else ((s.haltTimer k).setFld (tmrStatusF k) 0).ack

/-- The action of one expiry (R288). -/
def State.timerAction (s : State) (k : Nat) : State :=
  match s.fld (F.TIM_TMR_CTRL_action k) with
  | 1 => s.ringBell (s.fld (F.TIM_TMR_CTRL_mailbox k)) (s.fld (F.TIM_TMR_CTRL_bell k))
  | 2 => { s with tim := { s.tim with
      tmrPulses := Table.modify zeroNat s.tim.tmrPulses k (· + 1) } }
  | 3 => s.setTimer k { s.timer k with outHigh := true }
  | _ => s

/-- A timer expires (R288): its instant has been reached. The first instant of the schedule
later than now follows; the instants in between are missed. -/
def timerExpire (k : Nat) (s : State) : State :=
  match (s.timer k).next with
  | none => s
  | some t =>
    if s.now < t ∨ s.bit (F.TIM_TMR_CTRL_running k) = false then s
    else
      let period := (s.reg (R.TIM_TMR_PERIOD k)).toNat
      let s := s.timerAction k
      if period = 0 then
        (s.setBit (F.TIM_TMR_CTRL_running k) false).setTimer k
          { s.timer k with next := none, last := t }
      else
        let passed := (s.now - t) / period
        let s := s.setTimer k { s.timer k with next := some (t + (passed + 1) * period), last := t }
        if passed = 0 then s
        else s.satFld (F.TIM_TMR_STATUS_missed k) (F.TIM_TMR_STATUS_overflow k) passed

/-! ## Local copies (R275) -/

/-- A unit receives no word for 4 µs: its copy is lost (R275). -/
def copyLose (u : Master) (s : State) : State :=
  { s with tim := { s.tim with lost := Table.set notLost s.tim.lost u.key true } }
where notLost (_ : Nat) : Bool := false

/-! ## Meanings -/

/-- R262. -/
def execWrapDoorbell (step : Bool) (s : State) : Out := .next (wrapBell step s)

/-- R275. -/
def execTimeCopyLost (u : Master) (s : State) : Out := .next (copyLose u s)

/-- R264. -/
def execTimIncrWrite (m : Master) (x : Dom) (v : Word) (s : State) : Out := .next (incrWrite m x v s)

/-- R263, R273. -/
def execTimIncrFineWrite (m : Master) (x : Dom) (v : BitVec 16) (s : State) : Out :=
  .next (fineWrite m x v s)

/-- R266, R267. -/
def execAdjustStep (m : Master) (x : Dom) (bind : Bool) (slot : Fin 8) (s : State) : Out :=
  .next (adjustStepGo m x bind slot s)

/-- R266. -/
def execAdjustSlew (m : Master) (x : Dom) (rate : BitVec 20) (s : State) : Out :=
  .next (adjustSlewGo m x rate.toNat s)

/-- R266. -/
def execAdjustCancel (m : Master) (x : Dom) (s : State) : Out := .next (adjustCancelGo m x s)

/-- R266. -/
def execSlewComplete (x : Dom) (s : State) : Out := .next (slewFinish x s)

/-- R269. -/
def execPpsInEdge (s : State) : Out := .next (ppsEdge s)

/-- R269. -/
def execPpsTodArm (m : Master) (x : Dom) (hi : Word) (s : State) : Out := .next (todArm m x hi s)

/-- R270. -/
def execSynceGate (x : Dom) (offset : Word) (s : State) : Out :=
  .next (s.setReg (R.TIM_x_SYNCE x.idx) offset)

/-- R271. -/
def execSourcePresent (x : Dom) (phase : Bool) (err : Word) (s : State) : Out :=
  .next (sourceUp x phase err s)

/-- R271. -/
def execDomainLock (x : Dom) (meanErr : Word) (s : State) : Out := .next (lockDomain x meanErr s)

/-- R271. -/
def execDomainUnlock (x : Dom) (err : Word) (s : State) : Out := .next (unlockDomain x err s)

/-- R271, R277, R278. -/
def execSourceLoss (x : Dom) (c0 : Word) (s : State) : Out := .next (sourceLost x c0 s)

/-- R277, R281. -/
def execHoldoverUpdate (x : Dom) (s : State) : Out := .next (holdoverSecond x s)

/-- R272. -/
def execServoCorrection (x : Dom) (err : BitVec 64) (incr : Word) (fine : BitVec 16) (s : State) :
    Out := .next (servoCorrect x err incr fine s)

/-- R279. -/
def execModelBin (accepted : Bool) (terms : ModelTerms) (s : State) : Out :=
  .next (modelRefit accepted terms s)

/-- R279. -/
def execModelSave (s : State) : Out := .next (modelStore s)

/-- R273. -/
def execServoTake (m : Master) (x : Dom) (s : State) : Out := .next (servoTakeGo m x s)

/-- R273. -/
def execServoGive (m : Master) (x : Dom) (s : State) : Out := .next (servoGiveGo m x s)

/-- The watchdog restarts (R274). -/
def execServoWdKick (m : Master) (x : Dom) (s : State) : Out :=
  .next (if s.isServo m x.isB then (s.wdRestart x).ack else s.refuse x.statusF Code.servoHeld)

/-- R274. -/
def execServoWdExpiry (x : Dom) (c0 : Word) (s : State) : Out := .next (servoWatchdog x c0 s)

/-- R282, R284. -/
def execServiceSelectApply (m : Master) (select force auto revert bind : Bool) (slot : Fin 8)
    (s : State) : Out := .next (selectApply m select force auto revert bind slot s)

/-- R283. -/
def execOffsetSlewDone (s : State) : Out := .next (offsetDone s)

/-- R286. -/
def execPpsOutEdge (falling : Bool) (s : State) : Out := .next (ppsOut falling s)

/-- R287. -/
def execMidSecondBypass (s : State) : Out := .next (midSecond s)

/-- R288. -/
def execTmrStart (m : Master) (k : Fin 32) (action : Fin 8) (mailbox : BitVec 8) (bell : BitVec 5)
    (frac : BitVec 4) (s : State) : Out :=
  .next (timerStart m k.val action.val mailbox.toNat bell.toNat frac.toNat s)

/-- R288. -/
def execTmrStop (m : Master) (k : Fin 32) (s : State) : Out := .next (timerStop m k.val s)

/-- R288. -/
def execTmrExpiry (k : Fin 32) (s : State) : Out := .next (timerExpire k.val s)

end Sys2Proof.Machine
end

