-- ==== Sys2Proof/Machine/Txu.lean ====
section
/-! DEFINITION. The transaction unit and the stores of its participants (chapter 9): open,
stage, join, commit, votes, decision, launch, answers and outcomes. What a participant
checks before its vote and does at the apply stands in Apply.lean. -/

namespace Sys2Proof.Machine

/-! ## The TXU's table and the participants' stores -/

def noTx (_ : Nat) : Tx := {}
def noStore (_ : Nat) : PartStore := {}
def noHeld (_ : Nat) : List HeldTx := []

def State.tx (s : State) (id : Nat) : Tx := Table.get noTx s.txu.txs id

def State.setTx (s : State) (id : Nat) (t : Tx) : State :=
  { s with txu := { s.txu with txs := Table.set noTx s.txu.txs id t } }

/-- The key of a participant's store: the ID and the unit. -/
def storeKey (id : Nat) (part : Master) : Nat := id * 0x40000 + part.key

def State.store (s : State) (id : Nat) (part : Master) : PartStore :=
  Table.get noStore s.txu.stores (storeKey id part)

def State.setStore (s : State) (id : Nat) (part : Master) (p : PartStore) : State :=
  { s with txu := { s.txu with stores := Table.set noStore s.txu.stores (storeKey id part) p } }

/-- The transaction IDs engine `n` holds (R197). -/
def State.heldTx (s : State) (n : Nat) : List HeldTx := Table.get noHeld s.txu.held n

def State.setHeldTx (s : State) (n : Nat) (l : List HeldTx) : State :=
  { s with txu := { s.txu with held := Table.set noHeld s.txu.held n l } }

/-- Whether an ID takes staged changes (R295). -/
def Tx.takes (t : Tx) : Bool := t.state == .staging && !t.aborting

/-- Whether an undecided transaction is open. -/
def Tx.undecided (t : Tx) : Bool := (t.state == .staging || t.state == .preparing) && !t.aborting

/-- Whether `m` is the opener of an ID that is not free. -/
def State.opened (s : State) (m : Master) (id : Nat) : Bool :=
  (s.tx id).state != .free && (s.tx id).opener == m

/-- Apply `f` to the entry of one participant. -/
def updPart (part : Master) (f : Part → Part) (l : List Part) : List Part :=
  l.map fun p => if p.who.same part then f p else p

def findPart (part : Master) (l : List Part) : Option Part := l.find? fun p => p.who.same part

/-- Send a message to every participant that has not answered. -/
def sendAll (m : TxMsg) (l : List Part) : List Part :=
  l.map fun p => if p.answered then p else { p with msg := some m }

/-! ## Ending (R305, R306, R312) -/

/-- The outcome reaches the opener (R198, R312): an engine's copy and event flag 13, or the
doorbell named when the transaction was opened. -/
def State.txNotify (s : State) (id : Nat) (t : Tx) : State :=
  match t.opener with
  | .engine n =>
    let l := (s.heldTx n.val).map fun h =>
      if h.id.toNat = id then { h with ended := true, outcome := t.outcome, subject := t.subject }
      else h
    (s.setHeldTx n.val l).raiseEvent n.val 13
  | _ => match t.notify with
    | some (m, b) => s.ringBell m.toNat b.toNat
    | none => s

/-- The transaction is ENDED with the outcome it holds. The husk releases its own at once. -/
def State.txEnd (s : State) (id : Nat) : State :=
  let t := { s.tx id with state := .ended, aborting := false, dueAt := s.tim.uptime + 2000000000 }
  let s := if t.outcome = BitVec.ofNat 16 Code.partialApply then
    s.satFld F.TXU_PARTIAL_partial F.TXU_PARTIAL_overflow else s
  let s := (s.setTx id t).txNotify id t
  if t.sub.isEmpty then s else s.setTx id {}

/-- The transaction aborts (R301, R306): ABORT goes to every joined participant. -/
def State.txAbortWith (s : State) (id outcome : Nat) (detail : Nat := 0)
    (subject : Option Master := none) : State :=
  let t := s.tx id
  let t := { t with
    outcome := BitVec.ofNat 16 outcome, detail := BitVec.ofNat 16 detail, subject := subject
    aborting := true, frozen := false, dueAt := s.tim.uptime + 100000
    parts := sendAll .abort (t.parts.map fun p => { p with answered := false }) }
  let s := (s.setTx id t).satFld F.TXU_COUNT_aborted F.TXU_COUNT_overflow
  if t.parts.isEmpty then s.txEnd id else s

/-! ## Opening (R294) -/

/-- The IDs that are free. -/
def State.freeIds (s : State) : List Nat :=
  (List.range 256).filter fun i => i != 0 && (s.tx i).state == .free

/-- OPEN: the status and the ID issued, 0 where none is. Which free ID is issued the spec
leaves open: it is a free value (notes/assumptions/20). -/
def State.txOpenId (s : State) : Nat × State :=
  match s.freeIds with
  | [] => (0, s)
  | l => let f := s.free; (l.getD (f.1 % l.length) 1, f.2)

def State.txOpenFor (s : State) (m : Master) (deadline : Nat) : Nat × Nat × State :=
  let r := s.txOpenId
  if r.1 = 0 then (Code.txTableFull, 0, s)
  else
    let n := F.TXU_NOTIFY_mbx_en.get (s.srcReg m R.TXU_NOTIFY)
    let us := if deadline = 0 then s.fld F.TXU_CFG_deadline_us else deadline
    (0, r.1, r.2.setTx r.1 {
      state := .staging, opener := m
      deadlineUs := us, dueAt := s.tim.uptime + 1000 * us
      notify := if n = 1 then
        some (BitVec.ofNat 8 (s.srcFld m F.TXU_NOTIFY_mailbox),
          BitVec.ofNat 5 (s.srcFld m F.TXU_NOTIFY_bell)) else none })

/-! ## Staging (R295 to R299) -/

/-- Whether two staged changes are of one register word. -/
def Change.sameWord : Change → Change → Bool
  | .reg a _, .reg b _ => a == b
  | .route a b _ _ _ _, .route c d _ _ _ _ => a == c && b == d
  | _, _ => false

/-- Whether another open transaction has staged the same register word at `part` (R297). -/
def State.wordTaken (s : State) (id : Nat) (part : Master) (c : Change) : Bool :=
  s.txu.stores.any fun e =>
    e.1 / 0x40000 != id && e.1 % 0x40000 == part.key &&
      e.2.changes.any fun d => d.change.sameWord c

/-- A pod plane select: the CFG_POD_CTRL word with switch set (Table 9.3). -/
def podOfCtrl (off : Nat) : Option Nat :=
  if 0x701000 ≤ off ∧ off < 0x701C00 ∧ off % 0x40 = 4 then some ((off - 0x701000) / 0x40) else none

/-- Whether a register word can be staged (Table 9.3): a word with an SH field, or a pod's
control word with switch set. -/
def regStages (off : Nat) (w : Word) : Bool :=
  match podOfCtrl off with
  | some _ => w.getLsbD 31
  | none => match rowAt off with
    | some r => r.sh != 0
    | none => false

/-- Whether a change can be staged at all (R297). -/
def Change.stages : Change → Bool
  | .reg off w => regStages off.toNat w
  | .unstageable => false
  | _ => true

/-- The kinds of Table 9.3 whose store has a limit, and the limit. -/
def Change.kindLimit : Change → Nat × Nat
  | .reg off _ => if (podOfCtrl off.toNat).isSome then (1, 48) else (0, 1024)
  | .route .. => (2, 4096)
  | .enqueue _ | .qmov .. | .dequeue _ | .descriptor .. => (3, 4096)
  | .message .. => (4, 16)
  | .scratch .. => (5, 64)
  | _ => (6, 65536)

/-- Changes of one kind in the stores of a unit: of one transaction, or over all of them
for queue operations and messages (Table 9.3). -/
def State.storeUse (s : State) (id : Nat) (part : Master) (kind : Nat) : Nat :=
  (s.txu.stores.filter fun e => e.1 % 0x40000 == part.key &&
    (e.1 / 0x40000 == id || kind == 3 || kind == 4 || kind == 0)).foldl
      (fun n e => n + (e.2.changes.filter fun d => d.change.kindLimit.1 == kind).length) 0

/-- The detail of a change that the participant refuses as it is staged (R297, R298). -/
def State.stageRefusal (s : State) (id : Nat) (part : Master) (c : Change) : Option Nat :=
  if !c.stages then some Code.unsupported
  else if s.wordTaken id part c then some Code.notPermitted
  else if c.kindLimit.2 ≤ s.storeUse id part c.kindLimit.1 then some Code.stageFull
  else none

/-- A change put into a participant's store: a later one of the same register word replaces
the earlier (R297); the first one sends JOIN (R296). -/
def State.putChange (s : State) (id : Nat) (part : Master) (c : Staged) : State :=
  let p := s.store id part
  let r := s.stageRefusal id part c.change
  let p := { p with refuse := match p.refuse with
    | some d => some d
    | none => r.map (BitVec.ofNat 16) }
  let p := if r.isSome then p else { p with
    changes := p.changes.filter (fun d => !d.change.sameWord c.change) ++ [c] }
  s.setStore id part p

/-- The transaction counts one more staged change; beyond a limit of R298 it aborts. -/
def State.countStaged (s : State) (id : Nat) (c : Change) : State :=
  let t := s.tx id
  let spm := match c with | .scratch .. => 1 | _ => 0
  let s := s.setTx id { t with staged := t.staged + 1, spmWords := t.spmWords + spm }
  if 65536 < t.staged + 1 ∨ 64 < t.spmWords + spm then s.txAbortWith id Code.txLimit else s

/-- What a staging comes to: held, held and awaiting JOIN_ACK, waiting behind an earlier
first staging of the same source, or refused. -/
inductive StageResult where
  | held | joining | blocked
  | refused (status : Nat)
  deriving DecidableEq, Repr

/-- Whether participant `part` processes nothing further from source `m` until a JOIN_ACK
returns (R296). -/
def State.joinBlocked (s : State) (part m : Master) : Bool :=
  s.txu.stores.any fun e => e.1 % 0x40000 == part.key &&
    (match e.2.waiting with
      | some w => w.same m
      | none => false)

/-- A participant receives a staged change (R295 to R298, R307). -/
def State.stage (s : State) (id : Nat) (part : Master) (c : Staged) (posted : Bool) :
    StageResult × State :=
  let p := s.store id part
  if s.joinBlocked part c.src then (.blocked, s)
  else if p.vote.isSome then
    let s := s.fault part .txLateStage (.unit c.src)
    (.refused Code.txClosed, s.setStore id part { p with withdrawn := true })
  else if !(s.tx id).takes then
    (.refused Code.txClosed, if posted then s.fault part .txStage (.unit c.src) Code.txClosed else s)
  else
    let s := (s.putChange id part c).countStaged id c.change
    if p.joined then (.held, s)
    else
      let q := s.store id part
      (.joining, s.setStore id part
        { q with joinSent := true, waiting := some c.src, posted := posted })

/-- A TXU of the participant kinds that hold their changes in the TXU (Table 9.3). -/
def State.joinNow (s : State) (id : Nat) (part : Master) : State :=
  let p := s.store id part
  let s := s.setStore id part { p with joinSent := false, ackSent := false, joined := true, waiting := none }
  let t := s.tx id
  if (findPart part t.parts).isSome then s
  else s.setTx id { t with parts := t.parts ++ [{ who := part }] }

/-- TX_STAGE: the response waits for JOIN_ACK at the first staging; a refused staging that
expects a response is answered with the status. A DEQ cannot be staged (R252). -/
def txStageGo (part m : Master) (c : Change) (id : Nat) (posted : Bool) (s : State) : State :=
  match c with
  | .dequeue _ => if posted then s else s.error Code.notPermitted
  | _ =>
    let r := s.stage id part { change := c, src := m } posted
    match r.1 with
    | .blocked => s
    | .joining => r.2
    | .held => if posted then r.2 else r.2.ack
    | .refused st => if posted then r.2 else r.2.error st

/-- JOIN reaches the TXU (R296, R298): the participant is added, or, where the ID no longer
takes changes, its store is dropped as a refused staging (R295). -/
def txJoinGo (part : Master) (id : Nat) (s : State) : State :=
  let p := s.store id part
  if !p.joinSent then s
  else
    let t := s.tx id
    if !t.takes then
      let s := s.setStore id part {}
      if p.posted then s.fault part .txStage (.unit (p.waiting.getD part)) Code.txClosed
      else
        let s := match p.request with
          | some q => s.errorTo q Code.txClosed
          | none => s
        let s := match p.viaData, p.waiting with
          | true, some m => s.setSrcFld m F.TXU_CMD_RESULT_status Code.txClosed
          | _, _ => s
        s.error Code.txClosed
    else if 4096 ≤ t.parts.length then s.txAbortWith id Code.txLimit
    else
      let s := s.setStore id part { p with joinSent := false, ackSent := true }
      s.setTx id { t with parts := t.parts ++ [{ who := part }] }

/-- JOIN_ACK reaches the participant (R296): the response to the first staging is sent. -/
def txJoinAckGo (part : Master) (id : Nat) (s : State) : State :=
  let p := s.store id part
  if !p.ackSent then s
  else
    let s := s.setStore id part
      { p with ackSent := false, joined := true, waiting := none, request := none, body := [] }
    match p.waiting with
    | none => s
    | some m =>
      if p.posted then s
      else
        let s := match p.request with
          | some q => if p.body.isEmpty then s.respondBare q else s.respondTo q 6 p.body
          | none => s
        if p.viaData then (s.setSrcFld m F.TXU_CMD_RESULT_status 0).ack
        else if p.body.isEmpty then s.ack else s.reply p.body

/-! ## Commit (R300) -/

/-- The status a commit request is answered with (R300), 0 where it is accepted. -/
def State.commitCheck (s : State) (m : Master) (id : Nat) (l : Launch) : Nat :=
  if !s.opened m id then Code.txUnknown
  else if !(s.tx id).takes then Code.txClosed
  else match l with
    | .asap => 0
    | .at t => match s.classOf t with
      | .outside => Code.timeOutOfWindow
      | .reached => Code.launchTooSoon
      | .ahead => if (t - s.now32).toNat < 5000 then Code.launchTooSoon else 0

/-- COMMIT: the status, and PREPARE to every joined participant. A transaction with no
participant ends at once with outcome 0x0000. -/
def State.txCommitFor (s : State) (m : Master) (id : Nat) (l : Launch) : Nat × State :=
  let st := s.commitCheck m id l
  if st ≠ 0 then (st, s)
  else
    let t := s.tx id
    if t.parts.isEmpty then (0, (s.setTx id { t with launch := l, outcome := 0 }).txEnd id)
    else (0, s.setTx id { t with state := .preparing, launch := l, parts := sendAll .prepare t.parts })

/-! ## Abort, query, release (R301, R312, R313) -/

def State.txAbortFor (s : State) (m : Master) (id : Nat) : Nat × State :=
  if !s.opened m id then (Code.txUnknown, s)
  else if !(s.tx id).undecided then (Code.txClosed, s)
  else (0, s.txAbortWith id Code.aborted)

def State.txReleaseFor (s : State) (m : Master) (id : Nat) : Nat × State :=
  if !s.opened m id then (Code.txUnknown, s)
  else if (s.tx id).state != .ended then (Code.notPermitted, s)
  else (0, s.setTx id {})

/-- The bytes of a response to a TRANSACTION operation (R313). -/
def txBytes (status id : Nat) (ended : Bool := false) (ni : Nat := 0) : List Byte :=
  toBytes 2 status ++ toBytes 1 id ++ toBytes 1 (if ended then 0x80 else 0) ++ toBytes 2 ni ++ toBytes 2 0

/-- The status a query returns. -/
def State.txOutcome (s : State) (id : Nat) : Nat :=
  if (s.tx id).state == .free then Code.txUnknown else (s.tx id).outcome.toNat

def State.txQueryBytes (s : State) (id : Nat) : List Byte :=
  txBytes (s.txOutcome id) id ((s.tx id).state == .ended)
    (match (s.tx id).subject with
      | some u => u.ni
      | none => 0)

/-- The result of an operation at its requester: TXU_CMD_RESULT for one through TXU_CMD
(R509), an 8-byte RESPONSE for a packet (R313). -/
def State.txResult (s : State) (m : Master) (cmd : Bool) (status id : Nat) : State :=
  if cmd then
    ((s.setSrcFld m F.TXU_CMD_RESULT_status status).setSrcFld m F.TXU_CMD_RESULT_id id).ack
  else s.reply (txBytes status id)

def txOpenGo (m : Master) (deadline : Nat) (cmd : Bool) (s : State) : State :=
  let r := s.txOpenFor m deadline
  r.2.2.txResult m cmd r.1 r.2.1

def txCommitGo (m : Master) (id : Nat) (l : Launch) (cmd : Bool) (s : State) : State :=
  let r := s.txCommitFor m id l
  r.2.txResult m cmd r.1 id

def txAbortGo (m : Master) (id : Nat) (cmd : Bool) (s : State) : State :=
  let r := s.txAbortFor m id
  r.2.txResult m cmd r.1 id

def txQueryGo (m : Master) (id : Nat) (cmd : Bool) (s : State) : State :=
  if cmd then s.txResult m true (s.txOutcome id) id else s.reply (s.txQueryBytes id)

def txReleaseGo (m : Master) (id : Nat) (cmd : Bool) (s : State) : State :=
  let r := s.txReleaseFor m id
  r.2.txResult m cmd r.1 id

/-! ## Votes and the decision (R301 to R303) -/

/-- The launch boundary of an ASAP commit (R303): the first whole microsecond whose word
has not left, 32 ticks ahead, with at most four commits in one word. -/
def State.asapWord (s : State) : Nat × Nat :=
  let b := ((s.now + 32) / 1000 + 1) * 1000
  if s.txu.word < b then (b, 1)
  else if s.txu.wordUsed < 4 then (s.txu.word, s.txu.wordUsed + 1)
  else (s.txu.word + 1000, 1)

/-- The transaction is decided: COMMIT carries the launch tick to every participant. -/
def State.txDecide (s : State) (id : Nat) (tick : Word) : State :=
  let t := s.tx id
  let s := s.setTx id { t with
    state := .committed, frozen := false, tick := tick
    dueAt := s.tim.uptime + (s.extend tick - s.now) + 100000
    parts := sendAll .commit (t.parts.map fun p => { p with answered := false }) }
  s.satFld F.TXU_COUNT_committed F.TXU_COUNT_overflow

/-- The last PREPARED vote has been counted (R302). -/
def State.txDecision (s : State) (id : Nat) : State :=
  match (s.tx id).launch with
  | .at l =>
    if s.classOf l = .ahead ∧ 5000 ≤ (l - s.now32).toNat then s.txDecide id l
    else s.txAbortWith id Code.launchTooSoon
  | .asap =>
    let w := s.asapWord
    let s := { s with txu := { s.txu with word := w.1, wordUsed := w.2 } }
    s.txDecide id (BitVec.ofNat 32 w.1)

/-- A vote reaches the TXU (R301). -/
def txVoteGo (part : Master) (id : Nat) (s : State) : State :=
  let t := s.tx id
  match findPart part t.parts, (s.store id part).vote with
  | some p, some v =>
    if t.state != .preparing || t.aborting || p.voted then s
    else match v with
      | .refuse d => s.txAbortWith id Code.voteRefused d.toNat (some part)
      | .prepared =>
        let parts := updPart part (fun p => { p with voted := true }) t.parts
        let s := s.setTx id { t with parts := parts }
        if parts.all (·.voted) then s.txDecision id else s
  | _, _ => s

/-- WITHDRAW reaches the TXU (R307): an undecided transaction aborts. -/
def txWithdrawGo (part : Master) (id : Nat) (s : State) : State :=
  if (s.store id part).withdrawn && (s.tx id).undecided then
    s.txAbortWith id Code.voteWithdrawn 0 (some part)
  else s

/-- The opener of a transaction is a HALTED engine (R308). -/
def State.openerHalted (s : State) (t : Tx) : Bool :=
  match t.opener with
  | .engine n => s.engState n.val == EngState.halted
  | _ => false

/-- The prepare deadline expires (R294, R308). -/
def txDeadline (id : Nat) (s : State) : State :=
  let t := s.tx id
  if !t.undecided || t.frozen || !s.passed t.dueAt 0 then s
  else s.txAbortWith id (if s.openerHalted t then Code.abortHalted else Code.prepareTimeout)

/-! ## Answers (R305, R306, R312) -/

/-- The first participant that did not apply. -/
def firstNotApplied (l : List Part) : Option Master := (l.find? fun p => !p.applied).map (·.who)

/-- A TX_PARTIAL record for each participant that did not apply (R305). -/
def State.partialRecords (s : State) (id : Nat) : List Part → State
  | [] => s
  | p :: l =>
    (if p.applied then s else s.fault .txu .txPartial (.unit p.who) Code.partialApply id).partialRecords
      id l

/-- A TX_LOST record for each participant that has not answered (R306). -/
def State.lostRecords (s : State) (id : Nat) : List Part → State
  | [] => s
  | p :: l =>
    (if p.answered then s else s.fault .txu .txLost (.unit p.who) 0 id).lostRecords id l

/-- Every answer is in, or the wait is over (R305, R306). -/
def State.txConclude (s : State) (id : Nat) : State :=
  let t := s.tx id
  if t.aborting || t.parts.all (·.applied) then s.txEnd id
  else
    let s := s.partialRecords id t.parts
    (s.setTx id { t with
      outcome := BitVec.ofNat 16 Code.partialApply, subject := firstNotApplied t.parts }).txEnd id

/-- DONE or ABORT_ACK reaches the TXU (R305, R306). -/
def txDoneGo (part : Master) (id : Nat) (s : State) : State :=
  let t := s.tx id
  match findPart part t.parts, (s.store id part).answer with
  | some p, some a =>
    if p.answered || !(t.aborting || t.state == .committed) then s
    else
      let parts := updPart part
        (fun p => { p with answered := true, applied := a == .applied, msg := none }) t.parts
      let s := (s.setTx id { t with parts := parts }).setStore id part {}
      if parts.all (·.answered) then s.txConclude id else s
  | _, _ => s

/-- Every 10 µs COMMIT and ABORT are sent again to participants that have not answered
(R306). -/
def txResendGo (id : Nat) (s : State) : State :=
  let t := s.tx id
  if t.aborting then s.setTx id { t with parts := sendAll .abort t.parts }
  else if t.state = .committed then s.setTx id { t with parts := sendAll .commit t.parts }
  else s

/-- 100 µs have passed (R305, R306). -/
def txDoneTime (id : Nat) (s : State) : State :=
  let t := s.tx id
  if (t.aborting || t.state == .committed) && s.passed t.dueAt 0 then
    let s := s.lostRecords id t.parts
    let s := if t.aborting && t.subject.isNone then
      s.setTx id { t with subject := (t.parts.find? fun p => !p.answered).map (·.who) } else s
    s.txConclude id
  else s

/-- An ENDED ID that was not released within 2.000 s is freed (R312). -/
def txFree (id : Nat) (s : State) : State :=
  if (s.tx id).state = .ended ∧ s.passed (s.tx id).dueAt 0 = true then s.setTx id {} else s

/-! ## Losses and the husk's own transactions (R121, R307, R310, R511) -/

/-- A participant loses a change it has voted PREPARED (R307). -/
def State.withdrawVote (s : State) (part : Master) (id : Nat) : State :=
  s.setStore id part { s.store id part with withdrawn := true }

/-- The changes of a husk substitution staged and joined at their participants. -/
def State.stageList (s : State) (id : Nat) : List (Master × Change) → State
  | [] => s
  | (part, c) :: l =>
    (((s.putChange id part { change := c, src := .husk }).countStaged id c).joinNow id part).stageList
      id l

/-- The husk opens a transaction, stages its substitution and requests the commit with the
ASAP launch (R511). With no ID free the substitution waits for the husk's next attempt. -/
def State.huskStage (s : State) (sub : List (Master × Change)) (tries : Nat := 0) : Nat × State :=
  let r := s.txOpenFor .husk 0
  if r.1 ≠ 0 then (0, s)
  else
    let id := r.2.1
    let s := (r.2.2.setTx id { r.2.2.tx id with sub := sub, tries := tries }).stageList id sub
    (id, (s.txCommitFor .husk id .asap).2)

/-- Entry to ZEROISED or a whole-device reset ends every transaction and none applies
(R38, R311). -/
def State.txClear (s : State) : State := { s with txu := {} }

/-! ## Meanings -/

/-- R294, R313. -/
def execTxOpen (m : Master) (deadline : BitVec 16) (cmd : Bool) (s : State) : Out :=
  .next (txOpenGo m deadline.toNat cmd s)

/-- R300, R313. -/
def execTxCommit (m : Master) (id : BitVec 8) (launch : Launch) (cmd : Bool) (s : State) : Out :=
  .next (txCommitGo m id.toNat launch cmd s)

/-- R301, R313. -/
def execTxAbort (m : Master) (id : BitVec 8) (cmd : Bool) (s : State) : Out :=
  .next (txAbortGo m id.toNat cmd s)

/-- R313. -/
def execTxQuery (m : Master) (id : BitVec 8) (cmd : Bool) (s : State) : Out :=
  .next (txQueryGo m id.toNat cmd s)

/-- R312, R313. -/
def execTxRelease (m : Master) (id : BitVec 8) (cmd : Bool) (s : State) : Out :=
  .next (txReleaseGo m id.toNat cmd s)

/-- R295 to R299, R307. -/
def execTxStage (part m : Master) (change : Change) (id : BitVec 8) (posted : Bool) (s : State) :
    Out := .next (txStageGo part m change id.toNat posted s)

/-- R296, R298. -/
def execTxJoin (part : Master) (id : BitVec 8) (s : State) : Out := .next (txJoinGo part id.toNat s)

/-- R301 to R303. -/
def execTxVote (part : Master) (id : BitVec 8) (s : State) : Out := .next (txVoteGo part id.toNat s)

/-- R307. -/
def execTxWithdraw (part : Master) (id : BitVec 8) (s : State) : Out :=
  .next (txWithdrawGo part id.toNat s)

/-- R294, R308. -/
def execPrepareDeadlineExpiry (id : BitVec 8) (s : State) : Out := .next (txDeadline id.toNat s)

/-- R305, R306. -/
def execTxDone (part : Master) (id : BitVec 8) (s : State) : Out := .next (txDoneGo part id.toNat s)

/-- R306. -/
def execTxResend (id : BitVec 8) (s : State) : Out := .next (txResendGo id.toNat s)

/-- R305, R306. -/
def execTxDoneTimeout (id : BitVec 8) (s : State) : Out := .next (txDoneTime id.toNat s)

/-- R312. -/
def execTxEndedTimeout (id : BitVec 8) (s : State) : Out := .next (txFree id.toNat s)

end Sys2Proof.Machine
end

