-- ==== Sys2Proof/Machine/Engine.lean ====
section
/-! DEFINITION. Engines (chapter 4): their states, halting and resuming, start and stop,
exceptions and interrupts, the watchdog, power, fusing, loading, and the message area. -/

namespace Sys2Proof.Machine

/-! ## Engines and pairs (R136, R137) -/

def noEngine (_ : Nat) : Engine := {}

def State.engine (s : State) (n : Nat) : Engine := Table.get noEngine s.eng n

def State.setEngine (s : State) (n : Nat) (e : Engine) : State :=
  { s with eng := Table.set noEngine s.eng n e }

/-- The even engine of a pair. -/
def pairBase (n : Nat) : Nat := n - n % 2

/-- Whether an engine is part of a fused pair. -/
def State.isWide (s : State) (n : Nat) : Bool := s.bit (F.ENG_CTRL_wide (pairBase n))

/-- The engine whose ST and PC govern engine `n`: the even engine of a fused pair. -/
def State.gov (s : State) (n : Nat) : Nat := if s.isWide n then pairBase n else n

/-- The engine is the odd member of a fused pair. -/
def State.oddOfPair (s : State) (n : Nat) : Bool := s.isWide n && n % 2 == 1

/-- Record a status in ENG_STATUS.last_status (R509). -/
def State.engStatus (s : State) (n status : Nat) : State :=
  s.setFld (F.ENG_STATUS_last_status n) status

/-- A refused write of an engine's control page. -/
def State.engRefuse (s : State) (n status : Nat) : State := (s.engStatus n status).ack

/-- The unit of an engine, as a reporter: its cluster's NI. -/
def engUnit (n : Nat) : Master := .engine (Fin.ofNat 1024 n)

/-! ## The watchdog (R150) -/

/-- Whether the watchdog counts in a state; HALTED is treated apart. -/
def wdCounts (st : Nat) : Bool :=
  st == EngState.running || st == EngState.waiting || st == EngState.moving

/-- The watchdog starts counting from what it has left. -/
def State.wdStart (s : State) (n : Nat) : State :=
  let e := s.engine n
  if s.bit (F.ENG_WD_enable n) && e.wdAt.isNone then
    s.setEngine n { e with wdAt := some (s.now + 1000 * e.wdLeft) }
  else s

/-- Microseconds to expiry. -/
def State.wdRemain (s : State) (n : Nat) : Nat :=
  match (s.engine n).wdAt with
  | some t => (t - s.now + 999) / 1000
  | none => (s.engine n).wdLeft

/-- The watchdog stops and keeps its count. -/
def State.wdStop (s : State) (n : Nat) : State :=
  s.setEngine n { s.engine n with wdLeft := s.wdRemain n, wdAt := none }

/-- The count is reloaded from ENG_WD.period_us. -/
def State.wdReload (s : State) (n : Nat) : State :=
  let e := s.engine n
  let p := s.fld (F.ENG_WD_period_us n)
  s.setEngine n { e with wdLeft := p, wdAt := e.wdAt.map fun _ => s.now + 1000 * p }

/-! ## States (Table 4.5) -/

/-- The state of an engine, shown in both pages of a fused pair (R137). -/
def State.showState (s : State) (n st : Nat) : State :=
  let g := s.gov n
  let s := s.setFld (F.ENG_STATE_state g) st
  if s.isWide n then s.setFld (F.ENG_STATE_state (g + 1)) st else s

/-- The engine goes to a state; its watchdog counts or keeps its count with it. -/
def State.enter (s : State) (n st : Nat) : State :=
  let g := s.gov n
  let s := s.showState g st
  if wdCounts st then s.wdStart g
  else if st = EngState.halted then (if s.bit F.DBG_FREEZE_wd_freeze then s.wdStop g else s)
  else s.wdStop g

/-- ENG_STATUS.pc at a stop, fault or halt. -/
def State.showPc (s : State) (n : Nat) : State :=
  s.setFld (F.ENG_STATUS_pc (s.gov n)) (s.engine (s.gov n)).pc.toNat

/-- A wait that is outstanding, or none. -/
def noWait (_ : Nat) : Wait := .none

def State.waitOf (s : State) (n : Nat) : Wait := Table.get noWait s.waits n

def State.setWait (s : State) (n : Nat) (w : Wait) : State :=
  { s with waits := Table.set noWait s.waits n w }

/-! ## Halting (R482 to R485) -/

/-- A deadline freezes, or restarts from the larger of what it has left and 5 µs (R308). -/
def Tx.holdAt (t : Tx) (now : Nat) (hold : Bool) : Tx :=
  if hold = t.frozen then t
  else if hold then { t with frozen := true, left := t.dueAt - now }
  else { t with frozen := false, dueAt := now + max t.left 5000 }

/-- The deadlines that are frozen: tx_hold is set and the opener is HALTED (R308). -/
def State.refreshHold (s : State) : State :=
  let h := s.bit F.TXU_CFG_tx_hold
  { s with txu := { s.txu with txs := s.txu.txs.map fun e =>
      (e.1, e.2.holdAt s.tim.uptime (h && e.2.undecided && s.openerHalted e.2)) } }

/-- Halting is reported: DEV_MODE goes to HALT with transition 0x0E. -/
def State.reportHalt (s : State) : State :=
  ({ s with dev := { s.dev with halted := true } }).rerank 0x0E

/-- Engine `g` runs a step (R484). -/
def State.isStepping (s : State) (g : Nat) : Bool := (s.mon.stepping.map (·.1)) == some g

/-- A step ends: the PC reached is returned. -/
def State.stepEnd (s : State) (g : Nat) : State :=
  match s.mon.stepping with
  | some (e, _, via) =>
    if e = g then
      ({ s with mon := { s.mon with stepping := none } }).monReply via 0x16 0
        (toBytes 4 (s.engine g).pc.toNat)
    else s
  | none => s

/-- Engine `n` goes HALTED now, with the state beneath it kept. -/
def State.haltNow (s : State) (n : Nat) : State :=
  let g := s.gov n
  let st := s.engState g
  let s := s.setEngine g { s.engine g with under := st, haltReq := false, resuming := false }
  (((s.enter g EngState.halted).showPc g).reportHalt.refreshHold).stepEnd g

/-- An instruction, or the end of a LOCK bracket, completes during a step: the engine halts
again after the last of them, and where the step leaves it STOPPED (R484). -/
def State.stepCount (s : State) (n : Nat) : State :=
  match s.mon.stepping with
  | some (e, left, via) =>
    if e ≠ n ∨ (s.engine n).lock ≠ 0 then s
    else if s.engState n = EngState.running ∧ 1 < left then
      { s with mon := { s.mon with stepping := some (e, left - 1, via) } }
    else s.haltNow n
  | none => s

/-- A halt of engine `n` is requested: at its next boundary outside a LOCK bracket; an
engine that is WAITING, STOPPED or FAULTED halts at once; one that is OFF is not halted. -/
def State.haltEngine (s : State) (n : Nat) : State :=
  let g := s.gov n
  let st := s.engState g
  if st = EngState.off ∨ st = EngState.halted then s
  else if st = EngState.moving ∨ (st = EngState.running ∧ ((s.engine g).lock ≠ 0 ∨ (s.engine g).far ≠ none)) then
    s.setEngine g { s.engine g with haltReq := true }
  else s.haltNow g

def State.haltEngines (s : State) : Nat → State
  | 0 => s
  | k + 1 => (s.haltEngine k).haltEngines k

/-- A whole-device HALT: every engine, and the blocks DBG_FREEZE and the pod masks name
(R486). -/
def State.haltDevice (s : State) : State :=
  ((s.setBit F.DBG_STATUS_frozen true).reportHalt).haltEngines 1024

/-- A breakpoint or watchpoint of engine `n` hits (R485). -/
def State.breakHit (s : State) (n slot : Nat) : State :=
  let s := (s.setFld F.DBG_STATUS_last_hit n).setFld F.DBG_STATUS_last_slot slot
  if (Table.get (fun _ => ({} : Break)) (s.engine n).breaks slot).device then s.haltDevice
  else s.haltEngine n

/-- What was deferred until the bracket closes: a hit, or a halt. -/
def State.bracketClosed (s : State) (n : Nat) : State :=
  let e := s.engine n
  match e.hitReq with
  | some k => (s.setEngine n { e with hitReq := none, haltReq := false }).breakHit (n + k / 8) (k % 8)
  | none => if e.haltReq then s.haltNow n else s

/-! ## Stop and start (R141, R142) -/

/-- The engine starts fetching at `pc`. -/
def State.startAt (s : State) (n : Nat) (pc : BitVec 13) : State :=
  let g := s.gov n
  (s.setEngine g { s.engine g with
    pc := pc, past := false, stopReq := none, startReq := none, lock := 0, far := none }).enter
    g EngState.running

/-- The engine goes STOPPED at a boundary; a start of the same tick follows (R142). -/
def State.stopNow (s : State) (n : Nat) : State :=
  let g := s.gov n
  let r := (s.engine g).startReq
  let s := (s.setWait g .none).setEngine g { s.engine g with stopReq := none, startReq := none, lock := 0 }
  let s := (s.showPc g).enter g EngState.stopped
  match r with
  | some pc => s.startAt g pc
  | none => s

/-- A stop is requested (R141): without effect unless RUNNING or WAITING. -/
def State.requestStop (s : State) (n : Nat) : State :=
  let g := s.gov n
  if s.engState g = EngState.running ∨ s.engState g = EngState.waiting then
    s.setEngine g { s.engine g with stopReq := some s.now }
  else s

/-- Whether the bundle in the loader names engine `n` (R433). -/
def State.bundleNames (s : State) (n : Nat) : Bool :=
  let st := s.fld F.PCI_LDR_STATUS_state
  (st == 1 || st == 2) && s.fld F.PCI_LDR_STATUS_kind == 3 && s.loader.checked &&
    (s.loader.bytes.getD (64 + n / 8) 0).getLsbD (n % 8)

/-- A start is applied (R141), unless a bundle that names the engine is being loaded (R433). -/
def State.applyStart (s : State) (n : Nat) (pc : BitVec 13) : State :=
  let e := s.engine n
  if s.bundleNames n then s.engStatus n Code.notPermitted
  else if s.engState n = EngState.stopped then s.startAt n pc
  else if s.engState n = EngState.halted ∧ e.under = EngState.stopped then
    s.setEngine n { e with startReq := some pc }
  else if e.stopReq = some s.now then s.setEngine n { e with startReq := some pc }
  else s.engStatus n Code.notPermitted

/-- ENG_RUN applies to engine `n` (R137, R141): by a write of ENG_APPLY or a transaction. -/
def State.applyRun (s : State) (n : Nat) (w : Word) : State :=
  if s.oddOfPair n then (if w.getLsbD 31 then s.engStatus n Code.notPermitted else s.requestStop n)
  else
    let s := s.setReg (R.ENG_RUN n) (w &&& 0x80001FFF#32)
    if w.getLsbD 31 then s.applyStart n (w.setWidth 13) else s.requestStop n

def engStopGo (n : Nat) (s : State) : State := (s.requestStop n).ack

/-- The boundary outside a LOCK bracket is reached (R141). -/
def stopBoundary (n : Nat) (s : State) : State :=
  let g := s.gov n
  let e := s.engine g
  if e.stopReq.isSome && e.lock == 0 && e.far.isNone &&
      (s.engState g == EngState.running || s.engState g == EngState.waiting) then s.stopNow g
  else s

/-- A write of ENG_APPLY: the ENG_RUN shadow becomes live (R8, R137, R141). -/
def engApplyGo (n : Nat) (s : State) : State := (s.applyRun n (s.shadow (R.ENG_RUN n))).ack

/-! ## Faults and exceptions (R146) -/

/-! Exception causes (Table 4.7). -/
namespace Exc
def illegal : Nat := 1
def poison : Nat := 2
def imemUe : Nat := 3
def stack : Nat := 4
def loop : Nat := 5
def lockBreak : Nat := 6
def watchdog : Nat := 7
def busError : Nat := 8
def residue : Nat := 9
end Exc

def stIe (w : Word) : Bool := w.getLsbD 31
def stInHandler (w : Word) : Bool := w.getLsbD 30

/-- ST at interrupt or exception entry: in_handler set, ie cleared (R144). -/
def stEntered (w : Word) : Word := (w &&& 0x7FFFFFFF#32) ||| 0x40000000#32

/-- Entry to a handler: PC and ST are saved and the engine jumps to `vec` (R144). -/
def State.vectorTo (s : State) (n : Nat) (pc : BitVec 13) (vec : Nat) : State :=
  let e := s.engine n
  s.setEngine n { e with
    ipc := pc, ist := e.st, st := stEntered e.st, pc := BitVec.ofNat 13 vec, past := false, lock := 0 }

/-- The engine goes FAULTED. -/
def State.faulted (s : State) (n : Nat) : State :=
  let s := (s.setWait n .none).setEngine n { s.engine n with lock := 0, stopReq := none, far := none }
  let s := (s.showPc n).enter n EngState.faulted
  if s.isStepping n then s.haltNow n else s

/-- The records and counters an exception brings (R146 to R148). -/
def State.excRecords (s : State) (n cause : Nat) (pc : BitVec 13) : State :=
  let s := s.fault (engUnit n) .engExc (.unit (engUnit n)) cause (n * 8192 + pc.toNat)
  if cause = Exc.poison then
    s.fault (engUnit n) .poison (.unit (engUnit n)) 0 (n * 8192 + pc.toNat)
  else if cause = Exc.residue then
    (s.fault (engUnit n) .engRes (.unit (engUnit n)) 0 (n * 8192 + pc.toNat)).satFld
      (F.ENG_ERR_residue n) (F.ENG_ERR_overflow n)
  else s

/-- Where an exception at `pc` leads (R146): exc_action sets the outcome, and one raised in a
handler always stops the engine. -/
def State.excEnter (s : State) (n cause : Nat) (pc : BitVec 13) : State :=
  let s := s.excRecords n cause pc
  let s := s.setEngine n { s.engine n with far := none }
  let s := (s.setFld (F.ENG_EXC_cause n) cause).setFld (F.ENG_EXC_pc n) pc.toNat
  if stInHandler (s.engine n).st || !s.bit (F.ENG_CTRL_exc_action n) then
    let s := if cause = Exc.poison && !s.bit (F.ENG_CTRL_exc_action n) then
      s.engStatus n Code.poisoned else s
    (s.setEngine n { s.engine n with pc := pc }).faulted n
  else
    let s := s.setWait n .none
    let s := if s.engState n = EngState.waiting then s.enter n EngState.running else s
    s.vectorTo n pc (s.fld (F.ENG_VEC_exc_vec n))

/-- An exception at `pc` (R146): nothing of the instruction has happened, and an open bracket
closes. -/
def State.raiseAt (s : State) (n cause : Nat) (pc : BitVec 13) : State :=
  let t := s.excEnter n cause pc
  if (s.engine n).lock = 0 then t else t.bracketClosed n

/-- An exception of the instruction at PC. -/
def State.raise (s : State) (n cause : Nat) : State := s.raiseAt n cause (s.engine n).pc

/-- A LOCK bracket still open 256 engine cycles after its LOCK (R149). -/
def lockExpire (n : Nat) (s : State) : State :=
  let g := s.gov n
  if (s.engine g).lock ≠ 0 ∧ s.engState g = EngState.running then s.raise g Exc.lockBreak else s

/-- The watchdog expires (R150). -/
def watchdogExpire (n : Nat) (s : State) : State :=
  match (s.engine n).wdAt with
  | none => s
  | some t =>
    if s.now < t ∨ s.oddOfPair n then s
    else
      let s := s.fault (engUnit n) .watchdog (.unit (engUnit n)) 0 (n * 8192 + (s.engine n).pc.toNat)
      if s.bit (F.ENG_CTRL_wd_action n) then (s.wdReload n).raise n Exc.watchdog
      else
        let s := (s.setFld (F.ENG_EXC_cause n) Exc.watchdog).setFld (F.ENG_EXC_pc n)
          (s.engine n).pc.toNat
        s.faulted n

/-! ## Interrupts (R144, R192) -/

/-- Enabled events of an engine. -/
def State.pendingEvents (s : State) (n : Nat) : Word :=
  s.reg (R.ENG_EVT n) &&& s.reg (R.ENG_EVT_MASK n)

/-- An interrupt is taken at a boundary, or while WAITING under a wait, which then executes
again after the return (R144, R192); none is taken during a step (R484). -/
def interrupt (n : Nat) (s : State) : State :=
  let g := s.gov n
  let e := s.engine g
  let st := s.engState g
  if (st = EngState.running ∨ st = EngState.waiting) ∧ s.pendingEvents g ≠ 0 ∧ stIe e.st = true ∧
      stInHandler e.st = false ∧ e.lock = 0 ∧ e.far = none ∧ s.isStepping g = false then
    let s := s.setWait g .none
    let s := if st = EngState.waiting then s.enter g EngState.running else s
    s.vectorTo g e.pc (s.fld (F.ENG_VEC_int_vec g))
  else s

/-! ## Control page (R137, R146, R150 to R152) -/

/-- An engine's program is unloaded (R152): with the last loaded engine of the cluster go
the cluster's claims and servo (R42, R129, R273). -/
def State.unloadEngine (s : State) (n : Nat) : State :=
  if !(s.engine n).loaded then s
  else
    let s := s.setEngine n { s.engine n with loaded := false }
    if (List.range 8).any fun j => (s.engine (n / 8 * 8 + j)).loaded then s
    else (s.releaseFor (engUnit n).key).servoRelease (engUnit n).key

/-- The registers of Table 4.1 are lost in OFF. -/
def Engine.lose (e : Engine) : Engine :=
  { e with
    g := [], acc := [], p := [], n := [], l := [], st := 0, pc := 0, past := false, lc := [], ls := [], le := []
    ipc := 0, ist := 0, stack := [], depth := 0, lock := 0, far := none, stopReq := none, startReq := none }

def State.powerDown (s : State) (n : Nat) : State :=
  let s := s.unloadEngine n
  (s.setEngine n (s.engine n).lose).enter n EngState.off

def clearFault (n : Nat) (s : State) : State :=
  if s.oddOfPair n then s.engRefuse n Code.notPermitted
  else if s.engState n = EngState.faulted then (s.enter n EngState.stopped).ack else s.ack

def powerOff (n : Nat) (s : State) : State :=
  if s.oddOfPair n then s.engRefuse n Code.notPermitted
  else if s.engState n = EngState.stopped then
    let s := if s.isWide n then s.powerDown (n + 1) else s
    (s.powerDown n).ack
  else s.engRefuse n Code.notPermitted

def powerOn (n : Nat) (s : State) : State :=
  if s.oddOfPair n then s.engRefuse n Code.notPermitted
  else if s.engState n = EngState.off then
    (s.setEngine n { s.engine n with powering := true }).ack
  else s.ack

/-- An engine powering up reaches STOPPED (R141, R151). -/
def powerUpDone (n : Nat) (s : State) : State :=
  if (s.engine n).powering then
    (s.setEngine n { s.engine n with powering := false }).enter n EngState.stopped
  else s

def stoppedOrOff (st : Nat) : Bool := st == EngState.stopped || st == EngState.off

/-- A write of ENG_CTRL.wide (R136): both members must be STOPPED or OFF; an odd page
ignores it. -/
def wideWrite (n : Nat) (wide : Bool) (s : State) : State :=
  if n % 2 = 1 then s.ack
  else if stoppedOrOff (s.engState n) && stoppedOrOff (s.engState (n + 1)) then
    (s.setBit (F.ENG_CTRL_wide n) wide).ack
  else s.engRefuse n Code.notPermitted

def wdKick (n : Nat) (s : State) : State := (s.wdReload (s.gov n)).ack

/-- A write of ENG_EVT clears flags (R144). -/
def evtClear (n : Nat) (flags : BitVec 16) (s : State) : State :=
  (s.setReg (R.ENG_EVT n) (s.reg (R.ENG_EVT n) &&& ~~~(flags.setWidth 32))).ack

/-- A write of ENG_WD (R150, R509): a zero period with enable is refused; an enabled
watchdog starts from the period. -/
def wdWrite (n : Nat) (w : Word) (s : State) : State :=
  let en := w.getLsbD 31
  if en && bitsOf w 0 20 == 0 then s.engRefuse n Code.invalidArgument
  else
    let was := s.bit (F.ENG_WD_enable n)
    let s := s.setReg (R.ENG_WD n) (w &&& 0x800FFFFF#32)
    let s := if w.getLsbD 30 || (en && !was) then s.wdReload n else s
    let s := if en then (if wdCounts (s.engState n) then s.wdStart n else s) else s.wdStop n
    s.ack

/-! ## Message area (R226, R227) -/

def msgCfg (n slots base : Nat) (s : State) : State :=
  if !stoppedOrOff (s.engState n) then s.engRefuse n Code.notPermitted
  else if 32 < slots ∨ 16384 < base + 65 * slots then s.engRefuse n Code.invalidArgument
  else
    let s := (s.setFld (F.ENG_MSG_CFG_slots n) slots).setFld (F.ENG_MSG_CFG_base n) base
    (s.setReg (R.ENG_MSG_STATE n) 0).ack

/-- Slots in use: (head − tail) modulo 2¹⁶. -/
def State.msgUsed (s : State) (n : Nat) : Nat :=
  (s.fld (F.ENG_MSG_STATE_head n) + 65536 - s.fld (F.ENG_MSG_STATE_tail n)) % 65536

def msgFree (n count : Nat) (s : State) : State :=
  if s.msgUsed n < count then s.engRefuse n Code.invalidArgument
  else (s.incFld (F.ENG_MSG_STATE_tail n) count).ack

/-! ## Data and instruction memory -/

def noWord36 (_ : Nat) : GReg := {}
def noInstr (_ : Nat) : DWord := 0

/-- The data word at address `a` of engine `n`. -/
def State.dword (s : State) (n a : Nat) : GReg := Table.get noWord36 (s.engine n).dmem (a % 16384)

def State.setDword (s : State) (n a : Nat) (w : GReg) : State :=
  let e := s.engine n
  s.setEngine n { e with dmem := Table.set noWord36 e.dmem (a % 16384) w }

def State.instrWord (s : State) (n i : Nat) : DWord := Table.get noInstr (s.engine n).imem (i % 4096)

def State.setInstr (s : State) (n i : Nat) (w : DWord) : State :=
  let e := s.engine n
  s.setEngine n { e with imem := Table.set noInstr e.imem (i % 4096) w }

/-- A correction or an uncorrectable error of an engine memory (R134). -/
def State.engEcc (s : State) (n : Nat) (detail : Nat) : Ecc → State
  | .clean => s
  | .corrected => (s.fault (engUnit n) .engCe (.unit (engUnit n)) 0 detail).satFld
      (F.ENG_ERR_ce n) (F.ENG_ERR_overflow n)
  | .uncorrectable => (s.fault (engUnit n) .engUe (.unit (engUnit n)) 0 detail).satFld
      (F.ENG_ERR_ue n) (F.ENG_ERR_overflow n)

/-- A data word as it is delivered, with its error handling: an uncorrectable half comes
with its poison tag set. -/
def State.readData (s : State) (n a : Nat) (hi lo : Ecc) : GReg × State :=
  let w := s.dword n a
  let w := { w with tagH := w.tagH || hi == .uncorrectable, tagL := w.tagL || lo == .uncorrectable }
  (w, (s.engEcc n (n * 32768 + a % 16384) hi).engEcc n (n * 32768 + a % 16384) lo)

/-- A 36-bit word in the data-word layout (R20): .L sign-extended in bits 31:0, .H in bits
63:32. -/
def toLayout (w : W36) : DWord :=
  ((w.extractLsb' 18 18).signExtend 32 ++ (w.extractLsb' 0 18).signExtend 32 : BitVec 64)

/-- The halves of an 8-byte value in the data-word layout; the extension bits are ignored. -/
def ofLayout (x : DWord) : W36 := (x.extractLsb' 32 18 ++ x.extractLsb' 0 18 : BitVec 36)

/-- Write a 4-byte half or an 8-byte word of the data-word layout at byte offset `o` of
the engine's data memory. -/
def State.windowData (s : State) (n o : Nat) (eight : Bool) (x : DWord) (poison : Bool) : State :=
  let a := o / 8
  let w := s.dword n a
  if eight then s.setDword n a { w := ofLayout x, tagH := poison, tagL := poison }
  else if o % 8 = 0 then
    s.setDword n a { w with
      w := (w.w.extractLsb' 18 18 ++ x.extractLsb' 0 18 : BitVec 36), tagL := poison }
  else
    s.setDword n a { w with
      w := (x.extractLsb' 0 18 ++ w.w.extractLsb' 0 18 : BitVec 36), tagH := poison }

/-- The words of a message into the area from word `a` on. -/
def State.fillSlot (s : State) (n a : Nat) (poison : Bool) : List Byte → Nat → State
  | _, 0 => s
  | bs, k + 1 =>
    (s.setDword n a { w := ofLayout (BitVec.ofNat 64 (ofBytes (bs.take 8))), tagH := poison, tagL := poison }).fillSlot
      n (a + 1) poison (bs.drop 8) k

/-- A message that a free slot takes (R226, Table 6.10). -/
def State.msgStore (s : State) (n : Nat) (p : Packet) (poisoned crcFail : Bool) : State :=
  let k := s.fld (F.ENG_MSG_STATE_head n) % s.fld (F.ENG_MSG_CFG_slots n)
  let a := s.fld (F.ENG_MSG_CFG_base n) + 65 * k
  let words := (p.payload.length + 7) / 8
  let d := words + 128 * p.src.toNat + 131072 * p.txid.toNat + 2 ^ 25 * b2n poisoned + 2 ^ 26 * b2n crcFail
  let s := s.setDword n a { w := BitVec.ofNat 36 d }
  let s := s.fillSlot n (a + 1) (poisoned || crcFail) p.payload words
  (s.incFld (F.ENG_MSG_STATE_head n)).raiseEvent n 12

/-! ## The scrubber of an engine (R134, R401) -/

/-- A scrubber's step through a memory of `size` words. -/
def Lap.step (l : Lap) (size now : Nat) : Lap :=
  if l.next + 1 < size then { l with next := l.next + 1 }
  else { next := 0, start := now, last := some (now - l.start, now) }

def noLap (_ : Nat) : Lap := {}

def State.lap (s : State) (k : Nat) : Lap := Table.get noLap s.laps k

def State.lapStep (s : State) (k size : Nat) : State :=
  { s with laps := Table.set noLap s.laps k ((s.lap k).step size s.now) }

/-- Keys of the scrubbers in the table of laps. -/
def lapSpm (bank : Nat) : Nat := bank
def lapEngine (n : Nat) : Nat := 4096 + n
def lapDram (i : Nat) : Nat := 8192 + i
def lapBram (region mem : Nat) : Nat := 65536 + region * 384 + mem

/-- The next word of an engine's memories: data memory, then instruction memory. -/
def engScrub (n : Nat) (hi lo : Ecc) (s : State) : State :=
  let k := (s.lap (lapEngine n)).next
  ((s.engEcc n (n * 32768 + k) hi).engEcc n (n * 32768 + k) lo).lapStep (lapEngine n) 20480

/-! ## Substitutions (R25, R121) -/

/-- The husk opens a substitution: REPAIR is reported, transition 0x0C. -/
def State.openSub (s : State) : State :=
  let s := { s with dev := { s.dev with subs := s.dev.subs + 1 } }
  (s.setBit F.DEV_MODE_repair_active true).rerank 0x0C

/-- A substitution closes, committed or abandoned: with the last one goes transition 0x0D. -/
def State.closeSub (s : State) (f : Fix) : State :=
  let s := s.resolveFix f
  let s := { s with dev := { s.dev with subs := s.dev.subs - 1 } }
  if s.dev.subs = 0 then (s.setBit F.DEV_MODE_repair_active false).rerank 0x0D else s

/-! ## Meanings -/

/-- R144, R192. -/
def execInterruptEntry (e : Fin 1024) (s : State) : Out := .next (interrupt e.val s)
/-- R149. -/
def execLockTimeout (e : Fin 1024) (s : State) : Out := .next (lockExpire e.val s)
/-- R150. -/
def execWatchdogExpiry (e : Fin 1024) (s : State) : Out := .next (watchdogExpire e.val s)
/-- R137, R141. -/
def execEngStop (_m : Master) (e : Fin 1024) (s : State) : Out := .next (engStopGo e.val s)
/-- R141, R142. -/
def execEngineStopBoundary (e : Fin 1024) (s : State) : Out := .next (stopBoundary e.val s)
/-- R146. -/
def execEngClearFault (_m : Master) (e : Fin 1024) (s : State) : Out := .next (clearFault e.val s)
/-- R152. -/
def execEngPowerOff (_m : Master) (e : Fin 1024) (s : State) : Out := .next (powerOff e.val s)
/-- R141. -/
def execEngPowerOn (_m : Master) (e : Fin 1024) (s : State) : Out := .next (powerOn e.val s)
/-- R151. -/
def execEnginePowerUpDone (e : Fin 1024) (s : State) : Out := .next (powerUpDone e.val s)
/-- R136. -/
def execEngWideWrite (_m : Master) (e : Fin 1024) (wide : Bool) (s : State) : Out :=
  .next (wideWrite e.val wide s)
/-- R8, R137, R141, R142. -/
def execEngApply (_m : Master) (e : Fin 1024) (s : State) : Out := .next (engApplyGo e.val s)
/-- R150. -/
def execEngWdKick (_m : Master) (e : Fin 1024) (s : State) : Out := .next (wdKick e.val s)
/-- R144, R145. -/
def execEngEvtClear (_m : Master) (e : Fin 1024) (flags : BitVec 16) (s : State) : Out :=
  .next (evtClear e.val flags s)
/-- R227. -/
def execEngMsgCfgWrite (_m : Master) (e : Fin 1024) (slots : BitVec 6) (base : BitVec 14) (s : State) :
    Out := .next (msgCfg e.val slots.toNat base.toNat s)
/-- R227. -/
def execEngMsgFree (_m : Master) (e : Fin 1024) (count : BitVec 6) (s : State) : Out :=
  .next (msgFree e.val count.toNat s)
/-- R134, R401. -/
def execEngineScrubCycle (e : Fin 1024) (hi lo : Ecc) (s : State) : Out :=
  .next (engScrub e.val hi lo s)

end Sys2Proof.Machine
end

