-- ==== Sys2Proof/Machine/Clocks.lean ====
section
/-! DEFINITION. Clocks, PLLs and supplies (chapter 18, R488 to R494, R501, R504), the
temperature source (R280), and the boundary-scan port (R508). -/

namespace Sys2Proof.Machine

/-! ## Class-1 tampers (R451) -/

/-- A class-1 tamper event (R451): a record of class TAMPER1, and a saturating count since BOOT. -/
def State.tamper1 (s : State) (detail : Nat := 0) : State :=
  let s := { s with trust := { s.trust with class1 := min 65535 (s.trust.class1 + 1) } }
  s.fault .husk .tamper1 (.code 960) 0 detail

/-- A record of class CLOCK about clock or line `n`. -/
def State.clockFault (s : State) (n : Nat) : State := s.fault Unit.clk .clock (.unit Unit.clk) 0 n

/-! ## Judging clocks (R489, Table 18.2) -/

/-- The number of a clock in the model's tables and in CLOCK records. -/
def Clock.key : Clock → Nat
  | .xtalTime => 0
  | .xtalSys => 1
  | .timeDpll => 2
  | .pciePll => 3
  | .pcieRef => 4
  | .sysPll i => 8 + i.val
  | .convPll g => 16 + g.val
  | .netPll b => 24 + b.val
  | .devclk g => 32 + g.val
  | .netref b => 40 + b.val
  | .fabricPll q => 64 + q.val

/-- The register bit that shows a clock's judgement, where there is one. -/
def Clock.field : Clock → Option Field
  | .xtalTime => some F.CLK_SRC_STATUS_xtime_ok
  | .xtalSys => some F.CLK_SRC_STATUS_xsys_ok
  | .timeDpll => some F.CLK_SRC_STATUS_tdpll_ok
  | .sysPll i => some ⟨R.CLK_SRC_STATUS, 9 + i.val, 1⟩
  | .fabricPll q => some (F.CLK_FPLL_STATUS_stable q.val)
  | .convPll g => some (F.CVL_G_STATUS_pll_lock g.val)
  | .devclk g => some (F.CVL_G_STATUS_devclk_ok g.val)
  | .netPll _ | .pciePll | .netref _ | .pcieRef => none

/-- Whether a clock is a reference, whose loss in service is a class-1 tamper (R490). -/
def Clock.isReference : Clock → Bool
  | .xtalTime | .xtalSys | .devclk _ | .netref _ | .pcieRef => true
  | _ => false

def noFlag (_ : Nat) : Bool := false

/-- Whether a clock is judged stable. -/
def State.clockStable (s : State) (c : Clock) : Bool :=
  match c.field with
  | some f => s.bit f
  | none => Table.get noFlag s.clk.stable c.key

def State.setClockStable (s : State) (c : Clock) (b : Bool) : State :=
  match c.field with
  | some f => s.setBit f b
  | none => { s with clk := { s.clk with stable := Table.set noFlag s.clk.stable c.key b } }

def State.setRuns (s : State) (c : Clock) (n : Nat) : State :=
  { s with clk := { s.clk with runs := Table.set zeroNat s.clk.runs c.key n } }

/-- The judgement of a clock starts afresh. -/
def State.rejudge (s : State) (c : Clock) : State := (s.setRuns c 0).setClockStable c false

/-- The bound of a domain in HOLDOVER, shown or unknown with XTAL_TIME (R490). -/
def State.showHoldover (s : State) (b : Bool) : State :=
  if s.domState b = DomState.holdover then s.showBound b else s

/-- What the loss of a reference brings about (Table 18.3). -/
def State.clockFallback (s : State) : Clock → State
  | .xtalSys => { s with clk := { s.clk with xsysSynth := true } }
  | .xtalTime =>
    let s := { s with clk := { s.clk with timeHeld := true } }
    (s.showHoldover false).showHoldover true
  | _ => s

/-- A stable clock fails its window: it is lost (R489, R490, R76). -/
def State.clockLost (s : State) (c : Clock) : State :=
  let s := (s.rejudge c).clockFault c.key
  let s := if c.isReference && inService s.mode then s.tamper1 c.key else s
  s.clockFallback c

/-- A count window ends (R489): eight agreeing windows in a row make a clock stable. -/
def clockWindow (c : Clock) (agrees : Bool) (s : State) : State :=
  if !agrees then (if s.clockStable c then s.clockLost c else s.setRuns c 0)
  else
    let n := min 8 (Table.get zeroNat s.clk.runs c.key + 1)
    let s := s.setRuns c n
    if n = 8 then
      let s := s.setClockStable c true
      match c with
      | .xtalTime => (s.showHoldover false).showHoldover true
      | _ => s
    else s

/-- A reference judged stable again is switched back at a 1 ms boundary (R490). -/
def referenceBack (c : Clock) (s : State) : State :=
  if !s.clockStable c then s
  else match c with
    | .xtalSys => { s with clk := { s.clk with xsysSynth := false } }
    | .xtalTime => { s with clk := { s.clk with timeHeld := false } }
    | _ => s

/-- The comparison of FOSC and SOSC (R491). -/
def oscRatio (ratio : Nat) (s : State) : State :=
  let ok := decide (300 ≤ ratio) && decide (ratio ≤ 500)
  let s := (s.setBit F.CLK_SRC_STATUS_fosc_ok ok).setBit F.CLK_SRC_STATUS_sosc_ok ok
  let s := { s with clk := { s.clk with huskOnPll := !ok && s.clockStable (.sysPll 0) } }
  if ok then s else s.tamper1 ratio

/-- A rail leaves its recommended range (R504). -/
def Rail.key : Rail → Nat
  | .vhusk => 0
  | .vaux => 1
  | .vsram => 2
  | .vcore => 3
  | .veng => 4
  | .vlane09 => 5
  | .vlane12 => 6
  | .vddq => 7
  | .vio b => 16 + b.val

def railOut (r : Rail) (s : State) : State := s.tamper1 (256 + r.key)

/-! ## Fabric PLLs (R90, R492, R493, Table 18.4) -/

/-- The claim register of fabric PLL `q`. -/
def fpllClaim (q : Nat) : Nat := R.DEV_CLAIM (0x190 + q)

/-- SYS1 in Hz. -/
def State.sys1Hz (s : State) : Nat :=
  match s.fld F.CLK_SYS_sys1_sel with
  | 0 => 100000000
  | 1 => 200000000
  | 2 => 250000000
  | _ => 400000000

/-- The grade's fabric maximum in Hz (R1). -/
def fabricMaxHz : Nat := if Config.grade2 then 800000000 else 700000000

/-- The settings of a fabric PLL: CTRL, FB, OUT 0 to 7, GCLK. -/
def State.fpllWords (s : State) (q : Nat) : List Word :=
  [s.reg (R.CLK_FPLL_CTRL q), s.reg (R.CLK_FPLL_FB q)] ++
    ((List.range 8).map fun j => s.reg (R.CLK_FPLL_OUT q j)) ++ [s.reg (R.CLK_FPLL_GCLK q)]

/-- One output within Table 18.4, for a VCO of `v` units of `u` Hz⁻¹: a divider of 1 to 128
and 6.25 MHz to the fabric maximum. -/
def fpllOutOk (v u : Nat) (w : Word) : Bool :=
  !w.getLsbD 31 ||
    (let d := bitsOf w 0 8
     decide (1 ≤ d) && decide (d ≤ 128) && decide (6250000 * d * u ≤ v) && decide (v ≤ fabricMaxHz * d * u))

/-- Whether settings keep the limits of Table 18.4, with XTAL_SYS at `xsys` and SYS1 at
`sys1` Hz. Frequencies are compared as fractions: the VCO is ref × (fb × 65,536 + frac) over
refdiv × 65,536. -/
def fpllOk (xsys sys1 : Nat) (w : List Word) : Bool :=
  match w with
  | ctrl :: fb :: rest =>
    let ref := if ctrl.getLsbD 28 then sys1 else xsys
    let rd := bitsOf ctrl 0 6
    let fi := bitsOf fb 16 9
    let v := ref * (fi * 65536 + bitsOf fb 0 16)
    let u := rd * 65536
    decide (1 ≤ rd) && decide (rd ≤ 32) && decide (16 ≤ fi) && decide (fi ≤ 255) &&
      decide (10000000 * rd ≤ ref) && decide (ref ≤ 100000000 * rd) &&
      decide (1600000000 * u ≤ v) && decide (v ≤ 3200000000 * u) &&
      (rest.take 8).all (fpllOutOk v u)
  | _ => false

def State.fpllOk (s : State) (w : List Word) : Bool :=
  Sys2Proof.Machine.fpllOk (s.reg R.CLK_XSYS_HZ).toNat s.sys1Hz w

/-- Whether PLL `q` names die-wide line `i`. -/
def State.namesLine (s : State) (q i : Nat) : Bool := bitAt (s.reg (R.CLK_FPLL_GCLK q)).toNat (4 * i + 3)

/-- The lines of PLL `q` that a lower-numbered PLL of its die drives (R493). -/
def State.linesLost (s : State) (q : Nat) : Nat :=
  let die := q / 12 * 12
  ((List.range 4).filter fun i => s.namesLine q i &&
    (List.range (q - die)).any fun j => s.namesLine (die + j) i).foldl (fun n i => n + 2 ^ i) 0

/-- gclk_lost of PLLs 0 to `k` − 1. -/
def State.showLines (s : State) : Nat → State
  | 0 => s
  | k + 1 => (s.setFld (F.CLK_FPLL_STATUS_gclk_lost k) (s.linesLost k)).showLines k

def fpllRefuse (q status : Nat) (s : State) : State :=
  s.refuse (F.CLK_FPLL_STATUS_last_status q) status

/-- A write of a word of a PLL's page: 0 CTRL, 1 FB, 2 to 9 OUT, 10 GCLK (R492). -/
def fpllWrite (m : Master) (q i : Nat) (w : Word) (s : State) : State :=
  if !s.holds m (fpllClaim q) then fpllRefuse q Code.claimBusy s
  else
    let w := w &&& (match i with
      | 0 => 0x9000003F#32
      | 1 => 0x01FFFFFF#32
      | 10 => 0xFFFF#32
      | _ => 0x80007FFF#32)
    let ws := (s.fpllWords q).set i w
    let en := (ws.getD 0 0).getLsbD 31
    let badOut := decide (2 ≤ i) && decide (i < 10) && w.getLsbD 31 && bitsOf w 0 8 == 0
    if badOut || (i == 0 && en && !s.fpllOk ws) then fpllRefuse q Code.invalidArgument s
    else
      let s := (s.setReg (R.CLK_FPLL_CTRL q + 4 * i) w).setFld (F.CLK_FPLL_STATUS_last_status q) 0
      let s := if i < 2 && (en || i == 0) then s.rejudge (.fabricPll (Fin.ofNat 24 q)) else s
      (s.showLines 24).ack

/-- Settings of an image applied to a PLL its pod holds (R90, R99): it relocks. -/
def State.fpllApply (s : State) (q : Nat) (ws : List Word) : State :=
  let s := ((List.range 11).zip ws).foldl (fun s p => s.setReg (R.CLK_FPLL_CTRL q + 4 * p.1) p.2) s
  (s.rejudge (.fabricPll (Fin.ofNat 24 q))).showLines 24

/-- A fabric PLL loses lock (R76). -/
def fpllLoss (q : Fin 24) (s : State) : State :=
  (s.rejudge (.fabricPll q)).clockFault (Clock.fabricPll q).key

/-! ## The oscillator's temperature (R280) -/

/-- T of a TSENSE reading in mV, in 1/128 °C. -/
def State.tsenseTemp (s : State) (mv : Nat) : Int :=
  sextNat 16 (s.fld F.TIM_TSENSE_CAL_offset) + sextNat 16 (s.fld F.TIM_TSENSE_CAL_gain) * mv * 128 / 1000

/-- A temperature is taken: from TSENSE, or from the die sensors, which a fallback uses too. -/
def tsense (mv : Nat) (die hub : BitVec 16) (s : State) : State :=
  let bad := decide (mv < 50) || decide (1750 < mv)
  let t (v : BitVec 16) (fb : Bool) (s : State) : State :=
    let s := ((s.setFld F.TIM_TEMP_temp v.toNat).setBit F.TIM_TEMP_valid true).setBit F.TIM_TEMP_fallback fb
    { s with tim := { s.tim with tsenseFallback := fb } }
  match s.fld F.TIM_TSENSE_CFG_src with
  | 1 => t die false s
  | 2 => t hub false s
  | _ =>
    if bad then
      let was := s.bit F.TIM_TEMP_fallback
      let s := t die true s
      if was then s else s.fault Unit.tim .tsense
    else t (BitVec.ofInt 16 (s.tsenseTemp mv)) false s

/-! ## VIO (R501) -/

/-- Whether `mv` lies within ±5 % of `v`. -/
def within5 (mv v : Nat) : Bool := decide (95 * v ≤ 100 * mv) && decide (100 * mv ≤ 105 * v)

def vioOk (bank mv : Nat) : Bool :=
  if bank < 14 then within5 mv 1200 || within5 mv 1500 || within5 mv 1800 else within5 mv 3300

def vioSet (bank mv : Nat) (s : State) : State :=
  (s.setFld (F.PIN_BANK_vio_mv bank) mv).setBit (F.PIN_BANK_vio_ok bank) (vioOk bank mv)

/-! ## Boundary scan (R508) -/

/-- The level of a pin as PIN_IN shows it, where the block itself sets it: 0 with analog set
(R500), and the output bit of a GPIO that drives. Elsewhere the board or the design sets it. -/
def State.pinKnown (s : State) (k : Nat) : Option Bool :=
  if s.bit (F.PIN_ELEC_analog k) then some false
  else if s.fld (F.PIN_FUNC_func k) == 0 && s.bit (F.PIN_ELEC_gpio_oe k) && s.bit (F.PIN_BANK_vio_ok (k / 24)) &&
      decide (5 ≤ s.mode) && decide (s.mode ≤ 10) then
    some (bitAt (s.fld (F.PIN_OUT_data (k / 24))) (k % 24))
  else none

/-- The levels of a bank's pins; a level that the block does not set is a free value. -/
def State.bankLevels (s : State) (b : Nat) : Nat × State :=
  let f := s.free
  ((List.range 24).foldl
    (fun n i => n + 2 ^ i * b2n ((s.pinKnown (24 * b + i)).getD (bitAt f.1 i))) 0, f.2)

/-- The levels of the general pins of banks 0 to `n` − 1. -/
def State.pinLevels (s : State) : Nat → BitVec 384 × State
  | 0 => (0, s)
  | b + 1 =>
    let r := s.bankLevels b
    let t := r.2.pinLevels b
    (t.1 ||| (BitVec.ofNat 384 r.1 <<< (24 * b)), t.2)

/-- An instruction that takes effect only in HELD; elsewhere it loads as BYPASS. -/
def tapHeld (i : TapInstr) (s : State) : State :=
  { s with tap := { s.tap with instr := if s.mode = Mode.held then i else .bypass } }

def tapFree (i : TapInstr) (s : State) : State := { s with tap := { s.tap with instr := i } }

/-- IDCODE reads 0x0960_0C6B. -/
def tapId (s : State) : State := (tapFree .idcode s).reply (toBytes 4 0x09600C6B)

def tapSample (data : BitVec 384) (s : State) : State :=
  let r := s.pinLevels 16
  { r.2 with tap := { instr := .samplePreload, boundary := data, captured := r.1 } }

/-! ## Meanings -/

/-- R489, R490. -/
def execClockStabilityWindow (c : Clock) (agrees : Bool) (s : State) : Out :=
  .next (clockWindow c agrees s)
/-- R490. -/
def execReferenceSwitchBack (c : Clock) (s : State) : Out := .next (referenceBack c s)
/-- R491. -/
def execOscRatioCheck (ratio : BitVec 16) (s : State) : Out := .next (oscRatio ratio.toNat s)
/-- R90, R492. -/
def execFpllEnable (m : Master) (q : Fin 24) (w : Word) (s : State) : Out := .next (fpllWrite m q.val 0 w s)
/-- R76. -/
def execFabricPllLockLoss (q : Fin 24) (s : State) : Out := .next (fpllLoss q s)
/-- R280, R503. -/
def execTsenseSample (mv : BitVec 12) (die hub : BitVec 16) (s : State) : Out :=
  .next (tsense mv.toNat die hub s)
/-- R501. -/
def execVioChange (bank : Fin 16) (mv : BitVec 12) (s : State) : Out := .next (vioSet bank.val mv.toNat s)
/-- R451, R504. -/
def execRailOutOfRange (rail : Rail) (s : State) : Out := .next (railOut rail s)
/-- R508. -/
def execTapBypass (s : State) : Out := .next (tapFree .bypass s)
/-- R508. -/
def execTapIdcode (s : State) : Out := .next (tapId s)
/-- R508. -/
def execTapSamplePreload (data : BitVec 384) (s : State) : Out := .next (tapSample data s)
/-- R508. -/
def execTapExtest (s : State) : Out := .next (tapHeld .extest s)
/-- R508. -/
def execTapClamp (s : State) : Out := .next (tapHeld .clamp s)
/-- R508. -/
def execTapHighz (s : State) : Out := .next (tapHeld .highz s)
/-- R508. -/
def execTapExtestPulse (s : State) : Out := .next (tapHeld .extestPulse s)
/-- R508. -/
def execTapExtestTrain (s : State) : Out := .next (tapHeld .extestTrain s)

end Sys2Proof.Machine
end

