-- ==== Sys2Proof/Machine/Pins.lean ====
section
/-! DEFINITION. The general pins (chapter 18, R495 to R500): functions and their commit edge,
outputs, electrical settings and ownership. -/

namespace Sys2Proof.Machine

/-- The claim register of pin `k`. -/
def pinClaim (k : Nat) : Nat := R.DEV_CLAIM k

/-- Whether a function is available on a pin (Table 18.5). -/
def pinFuncOk (k f : Nat) : Bool :=
  match f with
  | 0 | 5 => true
  | 1 | 2 => decide (k < 336)
  | 4 => k == 312 || k == 313
  | 6 => decide (336 ≤ k) && decide (k ≤ 339)
  | 7 => k == 340 || k == 341
  | _ => false

def noPad (_ : Nat) : Pad := {}

def State.pad (s : State) (k : Nat) : Pad := Table.get noPad s.pads k

def State.setPad (s : State) (k : Nat) (p : Pad) : State := { s with pads := Table.set noPad s.pads k p }

/-- The function of a pin. -/
def State.pinFunc (s : State) (k : Nat) : Nat := s.fld (F.PIN_FUNC_func k)

/-- A write of a pin's settings by a master that does not hold it (R496). -/
def State.pinDenied (s : State) (m : Master) : State :=
  let s := s.fault Unit.pin .claim (.unit m)
  s.refuse F.PIN_STATUS_last_status Code.claimBusy

def State.pinRefuse (s : State) (status : Nat) : State := s.refuse F.PIN_STATUS_last_status status

/-- A write of PIN_FUNC_k: its shadow, unless the function is refused (R495, R496). -/
def pinFuncWrite (m : Master) (k : Nat) (w : Word) (s : State) : State :=
  if !s.holds m (pinClaim k) then s.pinDenied m
  else if !pinFuncOk k (bitsOf w 0 4) then s.pinRefuse Code.invalidArgument
  else (s.setShadow (R.PIN_FUNC k) (w &&& 0xC3FF000F#32)).ack

/-- The level the pad drove last: of a GPIO that drives, its output bit. -/
def State.padLevel (s : State) (k : Nat) : Bool :=
  if s.pinFunc k = 0 then
    (if s.bit (F.PIN_ELEC_gpio_oe k) then bitAt (s.fld (F.PIN_OUT_data (k / 24))) (k % 24) else (s.pad k).last)
  else (s.pad k).last

/-- The function of a pin at its commit edge (R498): the pad has held its last level. -/
def State.commitFunc (s : State) (k f : Nat) : State :=
  let p := { s.pad k with last := s.padLevel k }
  (s.setPad k p).setFld (F.PIN_FUNC_func k) f

/-- A write of PIN_APPLY (R498): the shadow's function waits for its commit edge. -/
def pinApplyGo (m : Master) (k : Nat) (s : State) : State :=
  if 383 < k then s.pinRefuse Code.invalidArgument
  else if !s.holds m (pinClaim k) then s.pinDenied m
  else
    let f := F.PIN_FUNC_func k |>.get (s.shadow (R.PIN_FUNC k))
    (s.setPad k { s.pad k with due := some (BitVec.ofNat 4 f) }).ack

/-- The commit edge of a direct apply (R498). -/
def pinCommit (k : Nat) (s : State) : State :=
  match (s.pad k).due with
  | none => s
  | some f => (s.setPad k { s.pad k with due := none }).commitFunc k f.toNat

/-- The pins of a bank that `m` holds, as a mask. -/
def State.heldMask (s : State) (m : Master) (bank : Nat) : Nat :=
  ((List.range 24).filter fun i => s.holds m (pinClaim (24 * bank + i))).foldl (fun n i => n + 2 ^ i) 0

/-- A write of PIN_OUT, PIN_OUT_SET or PIN_OUT_CLR (R499). -/
def pinOut (m : Master) (bank : Nat) (r : PinOutReg) (data : BitVec 24) (s : State) : State :=
  let mask := BitVec.ofNat 24 (s.heldMask m bank)
  if mask = 0 then s.pinDenied m
  else
    let old := BitVec.ofNat 24 (s.fld (F.PIN_OUT_data bank))
    let new := match r with
      | .out => (old &&& ~~~mask) ||| (data &&& mask)
      | .set => old ||| (data &&& mask)
      | .clr => old &&& ~~~(data &&& mask)
    (s.setFld (F.PIN_OUT_data bank) new.toNat).ack

/-- A write of PIN_ELEC_k (R496, R500). -/
def pinElec (m : Master) (k : Nat) (w : Word) (s : State) : State :=
  if !s.holds m (pinClaim k) then s.pinDenied m
  else
    let p := { s.pad k with last := s.padLevel k }
    ((s.setPad k p).setReg (R.PIN_ELEC k) (w &&& 0x3FF#32)).ack

/-- The settings an image declares for a pin its pod holds (R497). -/
def State.pinDeclared (s : State) (k : Nat) (func elec : Word) : State :=
  (s.commitFunc k (bitsOf func 0 4)).setReg (R.PIN_ELEC k) (elec &&& 0x3FF#32)

/-- R498. -/
def execPinApply (m : Master) (pin : BitVec 9) (s : State) : Out := .next (pinApplyGo m pin.toNat s)
/-- R498. -/
def execPinCommitEdge (pin : Fin 384) (s : State) : Out := .next (pinCommit pin.val s)
/-- R496, R499. -/
def execPinOutWrite (m : Master) (bank : Fin 16) (r : PinOutReg) (data : BitVec 24) (s : State) : Out :=
  .next (pinOut m bank.val r data s)
/-- R496, R500. -/
def execPinElecWrite (m : Master) (pin : Fin 384) (w : Word) (s : State) : Out :=
  .next (pinElec m pin.val w s)

end Sys2Proof.Machine
end

