-- ==== Sys2Proof/Machine/Fabric.lean ====
section
/-! DEFINITION. The fabric while it runs (chapter 2): regional trees, block memories, twin
comparison, access points and their target requests. -/

namespace Sys2Proof.Machine

/-! ## Regional trees (R71 to R77) -/

def treeKey (region tree : Nat) : Nat := region * 32 + tree

def noTree (_ : Nat) : Tree := {}

def State.tree (s : State) (k : Nat) : Tree := Table.get noTree s.fabric.trees k

def State.setTree (s : State) (k : Nat) (t : Tree) : State :=
  { s with fabric := { s.fabric with trees := Table.set noTree s.fabric.trees k t } }

/-- A change of the selection (R74, R75): a request made while a switch is in progress waits,
and only the latest is carried out. -/
def Tree.request (t : Tree) (sel : BitVec 4) : Tree :=
  match t.next with
  | some _ => { t with queued := some sel }
  | none => if t.sel = sel then t else { t with next := some sel, released := false }

/-- The new source has given three rising edges after t1: it drives the tree (R74). -/
def Tree.finish (t : Tree) : Tree :=
  match t.next with
  | none => t
  | some n => { t with sel := n, next := none, queued := none, released := false }

/-- The tree once its switch is complete, with the latest request made meanwhile begun. -/
def Tree.done (t : Tree) : Tree :=
  match t.queued with
  | some q => t.finish.request q
  | none => t.finish

/-- The old source gives no edge: it is released, with a CLOCK record (R75). -/
def treeTimeout (region tree : Nat) (s : State) : State :=
  let k := treeKey region tree
  let t := s.tree k
  if t.next.isSome && !t.released then
    (s.setTree k { t with released := true }).clockFault (1024 + k)
  else s

/-! ## Block memories (R66 to R70) -/

def bramKey (region mem addr : Nat) : Nat := (region * 384 + mem) * 1024 + addr

def noBram (_ : Nat) : BramWord := {}

def State.bramWord (s : State) (k : Nat) : BramWord := Table.get noBram s.fabric.bram k

def State.setBram (s : State) (k : Nat) (w : BramWord) : State :=
  { s with fabric := { s.fabric with bram := Table.set noBram s.fabric.bram k w } }

/-- The unit that reports a region's memories and ports: its southern access point. -/
def regionUnit (n : Nat) : Master := .accessPoint (Fin.ofNat 192 (2 * n))

/-- A correction or an uncorrectable error at a block-memory word (R66). -/
def State.bramEcc (s : State) (region k : Nat) : Ecc → State
  | .clean => s
  | .corrected => s.fault (regionUnit region) .bramCe (.unit (regionUnit region)) 0 k
  | .uncorrectable => s.fault (regionUnit region) .bramUe (.unit (regionUnit region)) 0 k

/-- A corrected word is written back, unless either port wrote it first (R66). -/
def bramBack (region mem addr : Nat) (word : BitVec 18) (superseded : Bool) (s : State) : State :=
  let k := bramKey region mem addr
  let s := s.bramEcc region k .corrected
  if superseded then s else s.setBram k { data := word, poison := (s.bramWord k).poison }

/-- The next word of a memory's idle-cycle scrubber (R69). -/
def bramScrub (region mem : Nat) (ecc : Ecc) (s : State) : State :=
  let l := lapBram region mem
  (s.bramEcc region (bramKey region mem (s.lap l).next) ecc).lapStep l 1024

/-! ## Pods and twins (R94, R124 to R127) -/

def noPod (_ : Nat) : Pod := {}

def State.pod (s : State) (p : Nat) : Pod := Table.get noPod s.cfg.pods p

def State.setPod (s : State) (p : Nat) (x : Pod) : State :=
  { s with cfg := { s.cfg with pods := Table.set noPod s.cfg.pods p x } }

/-- The regions of a pod in the live table. -/
def State.podRegions (s : State) (p : Nat) : List Nat := (List.range 96).filter fun n => s.podOf n == p

def State.paired (s : State) (p : Nat) : Bool := s.bit (F.CFG_POD_TWIN_paired p)

def State.isTwin (s : State) (p : Nat) : Bool := s.bit (F.CFG_POD_STATE_twin p)

def State.partner (s : State) (p : Nat) : Nat := s.fld (F.CFG_POD_TWIN_partner p)

/-- The pod and, for a primary with a twin, its twin: what switches together (R99). -/
def State.podPair (s : State) (p : Nat) : List Nat :=
  if s.paired p && !s.isTwin p then [p, s.partner p] else [p]

/-- The offset from a primary's regions to its twin's (R124). -/
def State.twinOffset (s : State) (p : Nat) : Int :=
  ((s.podRegions (s.partner p)).headD 0 : Int) - ((s.podRegions p).headD 0 : Int)

/-- The twin region of a primary's region, and back. -/
def State.twinRegion (s : State) (p n : Nat) : Nat := (n + s.twinOffset p).toNat

/-- Beats of a packet as they leave an access point: the fields the design sets with the
first 32 bytes, then 32 bytes each. -/
def Packet.beats (p : Packet) : List (List Byte) :=
  let h := toBytes 16 (p.kind.toNat + 16 * (p.prio.toNat + 8 * (p.route.toNat + 4096 * (p.dst.toNat +
    1024 * (p.txid.toNat + 256 * (b2n p.poison + 2 * (p.tag.toNat + 256 * p.address.toNat)))))))
  (List.range ((p.payload.length + 31) / 32)).map fun i =>
    (if i = 0 then h else []) ++ (p.payload.drop (32 * i)).take 32

/-- Two streams matched from their heads: whether some pair differs, and what is left. -/
def matchHeads {α : Type} [DecidableEq α] : List α → List α → Bool × List α × List α
  | [], ys => (false, [], ys)
  | xs, [] => (false, xs, [])
  | x :: xs, y :: ys =>
    let r := matchHeads xs ys
    (decide (x ≠ y) || r.1, r.2)

/-- The scrubber of a region's die. -/
def State.scrubber (s : State) (east : Bool) : Scrubber := if east then s.cfg.east else s.cfg.west

def State.setScrubber (s : State) (east : Bool) (x : Scrubber) : State :=
  { s with cfg := if east then { s.cfg with east := x } else { s.cfg with west := x } }

/-- A priority visit to a region is requested (R116). -/
def State.priorityVisit (s : State) (n : Nat) : State :=
  let e := decide (48 ≤ n)
  let x := s.scrubber e
  s.setScrubber e { x with priority := x.priority.filter (fun r => r.1 != n) ++ [(n, 0)] }

def State.priorityVisits (s : State) : List Nat → State
  | [] => s
  | n :: l => (s.priorityVisit n).priorityVisits l

/-- A mismatch of the pair of primary `p`, first seen at a port (R126, R127). -/
def State.twinMismatch (s : State) (p : Nat) (reporter : Master) (port : Nat) (lag : Bool) : State :=
  let s := s.fault reporter .twinMismatch (.unit reporter) 0 port
  let s := if s.bit (F.CFG_POD_TWIN_mismatch p) then s else s.setFld (F.CFG_POD_TWIN_first_port p) port
  let s := s.setBit (F.CFG_POD_TWIN_mismatch p) true
  let s := if lag then s.setBit (F.CFG_POD_TWIN_lag p) true else s
  let s := if s.bit (F.CFG_POD_TWIN_on_mismatch p) then s.setPod p { s.pod p with silenced := true } else s
  s.priorityVisits (s.podRegions p ++ s.podRegions (s.partner p))

/-! ## Access points (R85 to R89) -/

def noAp (_ : Nat) : AccessPoint := {}

def State.ap (s : State) (p : Nat) : AccessPoint := Table.get noAp s.fabric.aps p

def State.setAp (s : State) (p : Nat) (x : AccessPoint) : State :=
  { s with fabric := { s.fabric with aps := Table.set noAp s.fabric.aps p x } }

/-- The pod of an access point. -/
def State.apPod (s : State) (p : Nat) : Nat := s.podOf (p / 2)

/-- The window stops the clocks of a pod. -/
def State.podStopped (s : State) (p : Nat) : Bool :=
  let running (w : Window) : Bool := w == .e0 || w == .e1 || w == .e2
  running (s.pod p).window || running s.cfg.fullWindow || s.podFrozen p

/-- The ingress of a pod is held (R102, R103). -/
def State.podHeld (s : State) (p : Nat) : Bool :=
  (s.pod p).held || !(s.cfg.fullWindow == .none)

/-- The access point that matches a primary's point in the twin (R124). -/
def State.twinPoint (s : State) (p : Nat) : Nat :=
  2 * s.twinRegion (s.apPod p) (p / 2) + p % 2

/-- Outbound beats of an access point of a pair, compared in order (R126). -/
def State.twinCompare (s : State) (prim : Nat) (fromTwin : Bool) (beats : List (List Byte)) : State :=
  let x := s.ap prim
  let a := if fromTwin then x.primQueue else x.primQueue ++ beats
  let b := if fromTwin then x.twinQueue ++ beats else x.twinQueue
  let r := matchHeads a b
  let lag := decide (64 ≤ r.2.1.length) && decide (x.primQueue.length < 64)
  let s := s.setAp prim { x with primQueue := r.2.1, twinQueue := r.2.2 }
  if r.1 || lag then s.twinMismatch (s.apPod prim) (.accessPoint (Fin.ofNat 192 prim)) prim (!r.1)
  else s

/-- The primary access point of a twin's point. -/
def State.primaryPoint (s : State) (p : Nat) : Nat :=
  let prim := s.partner (s.apPod p)
  2 * ((p / 2 : Nat) - s.twinOffset prim).toNat + p % 2

/-- A packet as the design receives it (R87, R88). -/
def Packet.delivered (p : Packet) : Delivery :=
  { pkt := p, crcErr := p.integ && crc32c p.payload != p.crc, poison := p.poison || p.fpoison }

/-- The records a delivery brings (R87, R88, R224). -/
def State.deliveryRecords (s : State) (p : Nat) (d : Delivery) : State :=
  let u : Master := .accessPoint (Fin.ofNat 192 p)
  let s := if d.crcErr then (s.fault u .crc (.unit (masterAt d.pkt.src.toNat))).niCrcFail u.ni else s
  if d.poison then s.fault u .poison (.unit (masterAt d.pkt.src.toNat)) else s

/-- The packet handed to the design at a point. -/
def State.handToDesign (s : State) (p : Nat) (pkt : Packet) (rest : List Packet) : State :=
  let x := s.ap p
  s.setAp p { x with
    inbound := rest, last := some pkt.delivered
    opened := if pkt.expects then x.opened ++ [pkt] else x.opened
    since := if pkt.expects then x.since ++ [(pkt.src, pkt.tag, s.tim.uptime)] else x.since }

/-- The oldest packet at an access point goes to the design: unless the pod's clocks are
stopped, or it is a request and 32 are open (R86). A primary's packet is copied to the
twin's matching point (R126). -/
def apDeliver (p : Nat) (s : State) : State :=
  let x := s.ap p
  match x.inbound with
  | [] => s
  | pkt :: rest =>
    if s.podStopped (s.apPod p) || !s.hasDesign p || (pkt.expects && decide (32 ≤ x.opened.length)) then s
    else
      let s := (s.handToDesign p pkt rest).deliveryRecords p pkt.delivered
      if s.paired (s.apPod p) && !s.isTwin (s.apPod p) then
        let q := s.twinPoint p
        s.setAp q { s.ap q with last := some pkt.delivered }
      else s

/-- A target request is unanswered for 64 µs (R89). -/
def apTimeout (p : Nat) (src : BitVec 10) (tag : BitVec 8) (s : State) : State :=
  let x := s.ap p
  let late := x.since.any fun e => e.1 == src && e.2.1 == tag && s.passed e.2.2 64000
  match x.opened.find? fun q => q.src == src && q.tag == tag with
  | none => s
  | some q =>
    if !late then s
    else
    let s := s.setAp p { x with
      opened := x.opened.filter fun r => !(r.src == src && r.tag == tag)
      since := x.since.filter fun e => !(e.1 == src && e.2.1 == tag)
      expired := x.expired ++ [(src, tag)] }
    (s.errorTo q 0).fault (.accessPoint (Fin.ofNat 192 p)) .fabricTimeout

/-! ## Meanings -/

/-- R71, R74, R75. -/
def execTreeSwitch (region : Fin 96) (tree : Fin 32) (sel : BitVec 4) (s : State) : Out :=
  .next (s.setTree (treeKey region.val tree.val) ((s.tree (treeKey region.val tree.val)).request sel))
/-- R73, R74, R75. -/
def execTreeSwitchDone (region : Fin 96) (tree : Fin 32) (s : State) : Out :=
  .next (s.setTree (treeKey region.val tree.val) (s.tree (treeKey region.val tree.val)).done)
/-- R75. -/
def execTreeOldSourceTimeout (region : Fin 96) (tree : Fin 32) (s : State) : Out :=
  .next (treeTimeout region.val tree.val s)
/-- R66. -/
def execBramWriteback (region : Fin 96) (mem : Fin 384) (addr : Fin 1024) (word : BitVec 18)
    (superseded : Bool) (s : State) : Out :=
  .next (bramBack region.val mem.val addr.val word superseded s)
/-- R69, R401. -/
def execBramScrubCycle (region : Fin 96) (mem : Fin 384) (ecc : Ecc) (s : State) : Out :=
  .next (bramScrub region.val mem.val ecc s)
/-- R86 to R88, R126. -/
def execAccessPointDeliver (p : Fin 192) (s : State) : Out := .next (apDeliver p.val s)
/-- R89. -/
def execFabricTimeout (p : Fin 192) (src : BitVec 10) (tag : BitVec 8) (s : State) : Out :=
  .next (apTimeout p.val src tag s)

end Sys2Proof.Machine
end

