-- ==== Sys2Proof/Machine/Pods.lean ====
section
/-! DEFINITION. Pods and planes (chapter 3): sprout states, the switch and its window,
scrubbing, and substitutions in the fabric. -/

namespace Sys2Proof.Machine

/-! ## Sprout states (R97, R98) -/

def State.sprout (s : State) (p : Nat) : Nat := s.fld (F.CFG_POD_STATE_state p)

def State.podStatus (s : State) (p status : Nat) : State :=
  s.setFld (F.CFG_POD_STATE_last_status p) status

/-- Whether a sprout state is staging (R98). -/
def isStaging (st : Nat) : Bool :=
  st == Sprout.staging || st == Sprout.staged || st == Sprout.armed || st == Sprout.switching

/-- Pods that are staging. -/
def State.stagingPods (s : State) : Nat := ((List.range 48).filter fun p => isStaging (s.sprout p)).length

/-- CFG_STATUS.staging and DEV_MODE.update_active follow the pods (R98, R105); the reported
mode follows with transitions 0x0A and 0x0B. -/
def State.showStaging (s : State) : State :=
  let n := s.stagingPods
  let on := decide (0 < n) || s.cfg.fullLive
  let was := s.bit F.DEV_MODE_update_active
  let s := (s.setFld F.CFG_STATUS_staging n).setBit F.DEV_MODE_update_active on
  if on = was then s else s.rerank (if on then 0x0A else 0x0B)

/-- A pod, and its twin with it, in a sprout state (R125). -/
def State.setSprouts (s : State) (st : Nat) : List Nat → State
  | [] => s
  | p :: l => (s.setFld (F.CFG_POD_STATE_state p) st).setSprouts st l

def State.setSprout (s : State) (p st : Nat) : State := (s.setSprouts st (s.podPair p)).showStaging

/-- A pod is being switched: its window runs or it is SWITCHING. -/
def State.podSwitching (s : State) (p : Nat) : Bool :=
  s.sprout p == Sprout.switching || !((s.pod p).window == .none) || !(s.cfg.fullWindow == .none)

/-- Disarm an ARMED pod: back to the state it was armed from (R107, R108). -/
def State.podDisarm (s : State) (p : Nat) : State :=
  let x := s.pod p
  let s := match x.slot with
    | some k => if s.cueArmed .cfg k.val then s.cueClear .cfg k.val else s
    | none => s
  let s := s.setPod p { x with slot := none, tx := 0, held := false, window := .none }
  let s := s.setBit (F.CFG_POD_STATE_txu_armed p) false
  s.setSprout p x.armedFrom

/-- Items bound to a cue slot that is no longer armed return to what they were: an ARMED pod, a
bound switch of the service timescale, a bound STEP (R107, R293). -/
def State.settlePods (s : State) : List Nat → State
  | [] => s
  | p :: l =>
    (match (s.pod p).slot with
      | some k => if s.sprout p == Sprout.armed && !s.cueArmed .cfg k.val then s.podDisarm p else s
      | none => s).settlePods l

def State.settleStep (s : State) (x : Dom) : State :=
  match (s.dom x.isB).stepSlot with
  | some k =>
    if s.cueArmed .tim k.val then s
    else (s.setDom x.isB { s.dom x.isB with stepSlot := none }).setBit (F.TIM_x_ADJ_CTRL_busy x.idx) false
  | none => s

def State.settleSlots (s : State) : State :=
  let s := s.settlePods (s.cfg.pods.map (·.1))
  let s := match s.tim.svcSlot with
    | some k => if s.cueArmed .tim k.val then s else { s with tim := { s.tim with svcSlot := none } }
    | none => s
  (s.settleStep .a).settleStep .b

/-! ## Starting the window (R99 to R105) -/

/-- E0 for the pods of a list: ingress held, enables dropped, set-reset asserted with RESET. -/
def State.beginE0 (s : State) (reset : Bool) (fix : Option FabricFix) (flips : Nat → List Nat) :
    List Nat → State
  | [] => s
  | p :: l =>
    (s.setPod p { s.pod p with
      window := .e0, reset := reset, flips := flips p, fix := fix, held := true, psr := reset
      slot := none, tx := 0 }).beginE0 reset fix flips l

/-- The region of a substitution. -/
def FabricFix.region : FabricFix → Nat
  | .tile r _ | .slice r _ _ | .memory r _ _ => r.val

/-- A switch of a pod and its twin is due (R99, R100). -/
def State.podE0 (s : State) (p : Nat) (reset : Bool) : State :=
  let l := s.podPair p
  let s := s.setBit (F.CFG_POD_STATE_txu_armed p) false
  (s.beginE0 reset none (fun q => s.podRegions q) l).setSprout p Sprout.switching

/-- A cue-bound switch is due: the carry setting is the pod's (R106). -/
def State.podDue (s : State) (p : Nat) : State := s.podE0 p (!s.bit (F.CFG_POD_CTRL_carry p))

/-- An immediate switch with a quiesce: ingress is held from the write (R103). -/
def State.podQuiesced (s : State) (p : Nat) (reset : Bool) : State :=
  let l := s.podPair p
  let s := s.beginE0 reset none (fun q => s.podRegions q) l
  let s := l.foldl (fun s q => s.setPod q { s.pod q with window := .due, psr := false }) s
  s.setSprout p Sprout.switching

/-! ## Writes of CFG_POD_CTRL (R103, R104, R106, R107) -/

def State.podRefuse (s : State) (p status : Nat) : State :=
  s.refuse (F.CFG_POD_STATE_last_status p) status

/-- A write to a twin pod's control is ignored (CFG_POD_CTRL). -/
def State.podWritable (s : State) (p : Nat) : Bool := !s.isTwin p

/-- A full image is STAGED or ARMED, so that no pod switches alone (R431). -/
def State.fullStaged (s : State) : Bool :=
  s.cfg.fullLive && (s.fld F.PCI_LDR_STATUS_state == 3 || s.fld F.PCI_LDR_STATUS_state == 4)

/-- The refusal of a switch: NOT_PERMITTED, NOT_STAGED, or none (R106, R431). -/
def State.switchRefusal (s : State) (p : Nat) : Option Nat :=
  if s.fullStaged then some Code.notPermitted
  else if s.sprout p = Sprout.staged ∨ s.sprout p = Sprout.previous then
    (if (s.pod p).window == .none then none else some Code.podBusy)
  else if s.sprout p = Sprout.armed ∧ (s.pod p).tx ≠ 0 then some Code.notPermitted
  else some Code.notStaged

/-- The fields written with a command of CFG_POD_CTRL. -/
def State.podFields (s : State) (p : Nat) (bind : Bool) (slot : Nat) (carry : Bool) (q : Nat) : State :=
  (((s.setBit (F.CFG_POD_CTRL_bind p) bind).setFld (F.CFG_POD_CTRL_cue_slot p) slot).setBit
    (F.CFG_POD_CTRL_carry p) carry).setFld (F.CFG_POD_CTRL_quiesce_us p) q

/-- A write of switch (R106). -/
def podSwitchGo (m : Master) (p : Nat) (bind : Bool) (slot : Fin 8) (carry : Bool) (q : Nat) (s : State) :
    State :=
  if !s.podWritable p then s.podRefuse p Code.podBusy
  else match s.switchRefusal p with
    | some st => s.podRefuse p st
    | none =>
      let from_ := s.sprout p
      if bind then
        let r := s.armCue m .cfg slot.val (s.reg (R.CFG_POD_AT p)) 0 false (.podSwitch (Fin.ofNat 48 p))
        if r.1 ≠ 0 then r.2.podRefuse p r.1
        else
          let s := r.2.setPod p { r.2.pod p with armedFrom := from_, slot := some slot, tx := 0 }
          (((s.podFields p bind slot.val carry q).setSprout p Sprout.armed).podStatus p 0).ack
      else
        let s := (s.podFields p bind slot.val carry q).podStatus p 0
        (if q = 0 then s.podE0 p (!carry) else s.podQuiesced p (!carry)).ack

/-- A write of cancel (R107). -/
def podCancelGo (p : Nat) (s : State) : State :=
  if !s.podWritable p then s.podRefuse p Code.podBusy
  else
    let st := s.sprout p
    if st = Sprout.staging ∨ st = Sprout.staged then
      (if s.fullStaged then s.podRefuse p Code.notPermitted
       else ((s.setSprout p Sprout.idle).podStatus p 0).ack)
    else if st = Sprout.armed then
      (if (s.pod p).tx ≠ 0 then s.podRefuse p Code.notPermitted
       else ((s.podDisarm p).podStatus p 0).ack)
    else s.ack

/-- A write of reset: the window with RESET, and no flip (R104). -/
def podResetGo (p : Nat) (s : State) : State :=
  if !s.podWritable p || s.podSwitching p || s.sprout p == Sprout.repairHeld then s.podRefuse p Code.podBusy
  else ((s.beginE0 true none (fun _ => []) (s.podPair p)).podStatus p 0).ack

/-- The instant of an ARMED pod's switch, once it is known: its cue's, or the launch tick of
a decided transaction (R106, R108). -/
def State.switchAt (s : State) (p : Nat) : Option Nat :=
  let x := s.pod p
  if s.sprout p ≠ Sprout.armed then none
  else match x.slot with
    | some k => some (s.extend (s.reg (CueUnit.cfg.timeField k.val)))
    | none => if (s.tx x.tx).state = .committed then some (s.extend (s.tx x.tx).tick) else none

/-- Ingress is held quiesce_us ahead of the switch (R103). -/
def quiesce (p : Nat) (s : State) : State :=
  let x := s.pod p
  let q := if x.slot.isSome then s.fld (F.CFG_POD_CTRL_quiesce_us p) else x.txQuiesce
  match s.switchAt p with
  | none => s
  | some t =>
    if q = 0 ∨ s.now + 1000 * q < t then s
    else (s.podPair p).foldl (fun s k => s.setPod k { s.pod k with held := true }) s

/-! ## E1 (R100, R120) -/

/-- Part of a table between two keys taken from another. -/
def mixRange {α : Type} (t u : Table α) (lo hi : Nat) : Table α :=
  (t.filter fun e => decide (e.1 < lo)) ++ (u.filter fun e => decide (lo ≤ e.1) && decide (e.1 < hi)) ++
    t.filter fun e => decide (hi ≤ e.1)

/-- The staging copy of a region becomes the live copy of the frame store (R430); the copy
of the plane left behind takes its place. -/
def State.swapStore (s : State) (n : Nat) : State :=
  let lo := n * 5120
  { s with cfg := { s.cfg with
      store := mixRange s.cfg.store s.cfg.staging lo (lo + 5120)
      staging := mixRange s.cfg.staging s.cfg.store lo (lo + 5120) } }

/-- Essential frames of the live planes of a die (R112). -/
def State.essentialCount (s : State) (east : Bool) : Nat :=
  (s.cfg.essential.filter fun e =>
    let n := e.1 / 10240
    decide (48 ≤ n) == east && (e.1 / 5120 % 2 == s.fld (F.CFG_REGION_live_plane n))).length

/-- CFG_SCRUB_ESS of a die (R112). -/
def State.showEssential (s : State) (east : Bool) : State :=
  let n := s.essentialCount east
  (s.setFld (F.CFG_SCRUB_ESS_essential (b2n east)) (min 0xFFFF n)).setFld
    (F.CFG_SCRUB_ESS_interval_us (b2n east)) (min 0xFFFF (max 7680 n))

/-- The plane select of a region flips. -/
def State.flipRegion (s : State) (n : Nat) : State :=
  s.setBit (F.CFG_REGION_live_plane n) (!s.bit (F.CFG_REGION_live_plane n))

def State.flipRegions (s : State) (swap : Bool) : List Nat → State
  | [] => s
  | n :: l =>
    let s := s.flipRegion n
    (if swap then s.swapStore n else s).flipRegions swap l

/-- The steering or spare of a substitution comes into use (R117 to R119). -/
def State.steer (s : State) : FabricFix → State
  | .tile r c => (s.setBit (F.CFG_REGION_tile_steered r.val) true).setFld (F.CFG_REGION_tile_steer_col r.val) c.val
  | .slice r c k =>
    if c.val = 0 then
      (s.setBit (F.CFG_REGION_SLICE_col0_steered r.val) true).setFld (F.CFG_REGION_SLICE_col0_at r.val) k.val
    else (s.setBit (F.CFG_REGION_SLICE_col1_steered r.val) true).setFld (F.CFG_REGION_SLICE_col1_at r.val) k.val
  | .memory r c k =>
    if c.val < 3 then
      ((s.setBit (F.CFG_REGION_BRAM_lo_used r.val) true).setFld (F.CFG_REGION_BRAM_lo_col r.val) c.val).setFld
        (F.CFG_REGION_BRAM_lo_idx r.val) k.val
    else
      ((s.setBit (F.CFG_REGION_BRAM_hi_used r.val) true).setFld (F.CFG_REGION_BRAM_hi_col r.val) c.val).setFld
        (F.CFG_REGION_BRAM_hi_idx r.val) k.val

/-- Trees of regions forced or found low, or let run again. -/
def State.treesLow (s : State) (low : Bool) : List Nat → State
  | [] => s
  | n :: l => ((List.range 32).foldl (fun s t =>
      s.setTree (treeKey n t) { s.tree (treeKey n t) with low := low }) s).treesLow low l

/-- E1 of one pod. -/
def State.podE1 (s : State) (p : Nat) : State :=
  let x := s.pod p
  let s := s.flipRegions x.fix.isNone x.flips
  let s := match x.fix with
    | some f => if x.flips.isEmpty then s else s.steer f
    | none => s
  (s.treesLow true (s.podRegions p)).setPod p { x with window := .e1, psr := x.reset }

/-- The 16-byte entries of a valid pod table come into force (R96, R105). -/
def State.installPods (s : State) : Nat → State
  | 0 => s
  | p + 1 =>
    let e := Table.get (fun _ => ({} : PodEntry)) s.cfg.table p
    let twin := (List.range 48).find? fun q =>
      let f := Table.get (fun _ => ({} : PodEntry)) s.cfg.table q
      f.valid && f.twin && f.twinOf.toNat == p
    let s := s.setReg (R.CFG_POD_STATE p) 0
    let s := ((s.setBit (F.CFG_POD_STATE_valid p) e.valid).setBit (F.CFG_POD_STATE_spare_aware p)
      (e.valid && e.spareAware)).setBit (F.CFG_POD_STATE_twin p) (e.valid && e.twin)
    let r := if e.valid then e.regions.toNat else 0
    let s := ((s.setReg (R.CFG_POD_REGIONS_0 p) (BitVec.ofNat 32 r)).setReg (R.CFG_POD_REGIONS_1 p)
      (BitVec.ofNat 32 (r / 2 ^ 32))).setReg (R.CFG_POD_REGIONS_2 p) (BitVec.ofNat 32 (r / 2 ^ 64))
    let s := (s.setBit (F.CFG_POD_TWIN_paired p) (e.valid && (e.twin || twin.isSome))).setFld
      (F.CFG_POD_TWIN_partner p) (if e.twin then e.twinOf.toNat else twin.getD 0)
    let s := (List.range 96).foldl (fun s n => if bitAt r n then s.setFld (F.CFG_REGION_pod n) p else s) s
    (s.setPod p {}).installPods p

/-- The staged pod table becomes the live one: every pod restarts at IDLE (R105). -/
def State.installTable (s : State) : State :=
  let s := { s with cfg := { s.cfg with table := s.cfg.stagedTable, stagedTable := [], fullLive := false } }
  let s := s.installPods 48
  let s := s.setFld F.CFG_STATUS_pods (s.cfg.table.filter fun e => e.2.valid).length
  (s.setBit F.CFG_STATUS_table_live true).showStaging

/-- E1 of a full image's switch (R105). -/
def State.fullE1 (s : State) : State :=
  let s := ((s.flipRegions true (List.range 96)).treesLow true (List.range 96)).installTable
  let s := { s with cfg := { s.cfg with fullWindow := .e1 } }
  (s.showEssential false).showEssential true

/-- The first SYS0 edge after E0 at which every tree of the pod is low (R100). A window that
is due reaches E0 first. -/
def switchE1 (p : Nat) (s : State) : State :=
  if s.cfg.fullWindow = .e0 then s.fullE1
  else
    let w := (s.pod p).window
    if w = .e0 ∨ w = .due then
      (((s.podPair p).foldl (fun s q => s.podE1 q) s).showEssential false).showEssential true
    else s

/-- A tree still high is forced low, with a CLOCK record (R101). -/
def treeForce (p region tree : Nat) (s : State) : State :=
  let k := treeKey region tree
  if ((s.pod p).window = .e0 ∨ s.cfg.fullWindow = .e0) ∧ s.podOf region = p ∧ (s.tree k).low = false then
    (s.setTree k { s.tree k with low := true }).clockFault (1024 + k)
  else s

/-! ## E2 (R99, R100, R497) -/

def noFrame (_ : Nat) : BitVec 3072 := 0

/-- The frame of the live plane of a region at an index. -/
def State.liveFrame (s : State) (n i : Nat) : BitVec 3072 :=
  Table.get noFrame s.cfg.frames (frameKey n (s.bit (F.CFG_REGION_live_plane n)) i)

/-- New selections and divisors of a region's trees (Table 3.2, major 72). -/
def State.loadTrees (s : State) (n : Nat) : State :=
  (List.range 32).foldl (fun s t =>
    let c := Config.treeSetting (s.liveFrame n (72 * 64 + t))
    s.setTree (treeKey n t) { s.tree (treeKey n t) with
      sel := c.1, div := c.2, next := none, queued := none, released := false }) s

/-- The lowest-numbered access point of a pod (R90). -/
def State.podPoint (s : State) (p : Nat) : Master :=
  .accessPoint (Fin.ofNat 192 (2 * (s.podRegions p).headD 0))

def noPlls (_ : Nat) : List (Nat × List Word) := []
def noPins (_ : Nat) : List (Nat × Word × Word) := []

/-- PLL settings of a pod's image, for the PLLs it holds (R90, R99). -/
def State.applyPlls (s : State) (m : Master) : List (Nat × List Word) → State
  | [] => s
  | (q, ws) :: l => (if s.holds m (fpllClaim q) then s.fpllApply q ws else s).applyPlls m l

/-- Pin settings of a pod's image, for the pins it holds (R497). -/
def State.applyPins (s : State) (m : Master) : List (Nat × Word × Word) → State
  | [] => s
  | (k, f, e) :: l => (if s.holds m (pinClaim k) then s.pinDeclared k f e else s).applyPins m l

/-- The image's PLL and pin settings of one pod. Before the launch tick the pins wait for it. -/
def State.podSettings (s : State) (p : Nat) : State :=
  let m := s.podPoint p
  let s := s.applyPlls m (Table.get noPlls s.cfg.plls p)
  if s.dev.launched then s.applyPins m (Table.get noPins s.cfg.pins p) else s

/-- E2 of one pod. -/
def State.podE2 (s : State) (p : Nat) : State :=
  let x := s.pod p
  let s := (s.podRegions p).foldl (fun s n => s.loadTrees n) s
  let s := if x.flips.isEmpty || x.fix.isSome then s else s.podSettings p
  s.setPod p { s.pod p with window := .e2 }

def switchE2 (p : Nat) (s : State) : State :=
  if s.cfg.fullWindow = .e1 then
    let s := (List.range 96).foldl (fun s n => s.loadTrees n) s
    let s := (List.range 48).foldl (fun s q => s.podSettings q) s
    { s with cfg := { s.cfg with fullWindow := .e2 } }
  else if (s.pod p).window = .e1 then (s.podPair p).foldl (fun s q => s.podE2 q) s
  else s

/-! ## E3 (Table 3.5) -/

/-- A pod's claims are released, but for those its image has taken (R42, R90, R497). -/
def State.releasePod (s : State) (p : Nat) (m : Master) : State :=
  let keep := (Table.get noPlls s.cfg.plls p).map (fun e => fpllClaim e.1) ++
    (Table.get noPins s.cfg.pins p).map (fun e => pinClaim e.1)
  (s.freeClaims ((s.claimsOf m.key).filter fun o => !keep.contains o)).servoRelease m.key

/-- Open target requests answered with errors, each with a SWITCH_ABORT record. -/
def State.abortTargets (s : State) (u : Master) : List Packet → State
  | [] => s
  | q :: l => ((s.errorTo q 0).fault u .switchAbort).abortTargets u l

/-- Tags of an NI's requests that are outstanding. -/
def State.openTags (s : State) (m : Master) : List (BitVec 8) :=
  (s.noc.requests.filter fun q => q.ni.toNat == m.ni).map (·.tag)

/-- RESET at one access point. -/
def State.apReset (s : State) (p a : Nat) : State :=
  let m : Master := .accessPoint (Fin.ofNat 192 a)
  let x := s.ap a
  let s := s.abortTargets m x.opened
  let s := s.setAp a { x with
    opened := [], since := [], lateTags := x.lateTags ++ s.openTags m, twinQueue := [], primQueue := [] }
  s.releasePod p m

/-- The clusters whose engine ports a region reaches (R81). -/
def regionClusters (n : Nat) : List Nat := (List.range 128).filter fun c => clusterRegion c == n

/-- RESET at one engine port: the stream the pod drives is emptied and counted (R84). -/
def State.portReset (s : State) (p e : Nat) : State :=
  let x := s.engine e
  let k := x.toEngine.length
  let s := s.setEngine e { x with toEngine := [], twinQueue := [], primQueue := [] }
  if k = 0 then s else s.satFld (F.CFG_POD_DROP_dropped p) (F.CFG_POD_DROP_overflow p) k

/-- RESET at a region's points and ports. -/
def State.regionReset (s : State) (p n : Nat) : State :=
  let s := (s.apReset p (2 * n)).apReset p (2 * n + 1)
  (regionClusters n).foldl (fun s c => (List.range 8).foldl (fun s j => s.portReset p (8 * c + j)) s) s

def State.podResetActions (s : State) (p : Nat) : State :=
  (s.podRegions p).foldl (fun s n => s.regionReset p n) s

/-- E3 of one pod. -/
def State.podE3 (s : State) (p : Nat) : State :=
  let x := s.pod p
  let s := if x.reset then s.podResetActions p else s
  let s := (s.treesLow false (s.podRegions p)).incFld (F.CFG_POD_SWITCHES_count p)
  let s := if x.flips.isEmpty then s else s.setBit (F.CFG_POD_STATE_carry_last p) (!x.reset)
  s.setPod p { x with window := .none, held := false, psr := false, flips := [], fix := none
                      silenced := x.silenced && x.fix.isSome }

/-- E3 of a pod's switch: PREVIOUS after a switch; a pod reset and a substitution leave the
sprout state as it is. -/
def State.closeSwitch (s : State) (p : Nat) : State :=
  let x := s.pod p
  let s := (s.podPair p).foldl (fun s q => s.podE3 q) s
  if x.flips.isEmpty || x.fix.isSome then s else s.setSprout p Sprout.previous

/-- E3 of a full image: every region with RESET; from FALLBACK the device goes to SERVICE
with transition 0x12 (R105). -/
def State.fullE3 (s : State) : State :=
  let acorn := s.cfg.fullAcorn
  let s := (List.range 48).foldl (fun s p =>
    if s.bit (F.CFG_POD_STATE_valid p) then
      ((s.podResetActions p).incFld (F.CFG_POD_SWITCHES_count p)).setBit (F.CFG_POD_STATE_carry_last p) false
    else s) s
  let s := s.treesLow false (List.range 96)
  let s := { s with cfg := { s.cfg with fullWindow := .none } }
  if s.bit F.DEV_MODE_on_acorn && !acorn then (s.setBit F.DEV_MODE_on_acorn false).rerank 0x12 else s

def switchE3 (p : Nat) (s : State) : State :=
  if s.cfg.fullWindow = .e2 then s.fullE3.settleSlots
  else if (s.pod p).window = .e2 then (s.closeSwitch p).settleSlots
  else s

/-! ## Invalid planes (R98, R110) -/

/-- The sprout plane of a pod becomes invalid. Held by a transaction, the vote is withdrawn;
after COMMIT the participant finds the pod not ARMED at the apply. -/
def State.planeInvalid (s : State) (p : Nat) : State :=
  let st := s.sprout p
  let x := s.pod p
  if st = Sprout.armed then
    let s := if x.tx ≠ 0 then s.withdrawVote Unit.cfg x.tx else s
    ((s.podDisarm p).setSprout p Sprout.idle).podStatus p Code.planeInvalid
  else if st = Sprout.staged ∨ st = Sprout.previous then
    (s.setSprout p Sprout.idle).podStatus p Code.planeInvalid
  else s

/-! ## Scrubbing (R111 to R116) -/

/-- The scrubbers run: enabled, once a pod table is live. -/
def State.scrubOn (s : State) : Bool := s.bit F.CFG_SCRUB_CTRL_enable && s.bit F.CFG_STATUS_table_live

/-- What the check bits of a frame bring: a write-back to come, or a rewrite to come. -/
def Scrubber.note (x : Scrubber) (f : FrameRef) : Ecc → Scrubber
  | .clean => x
  | .corrected => { x with writeback := x.writeback ++ [f] }
  | .uncorrectable => { x with rewrite := x.rewrite ++ [f] }

/-- The frame a lap or a priority visit reads next, and the scrubber after it. -/
def Scrubber.advance (x : Scrubber) (east : Bool) : (Nat × Nat) × Bool × Scrubber :=
  match x.priority with
  | (n, i) :: l =>
    ((n, i), false, { x with priority := if i + 1 < 5120 then (n, i + 1) :: l else l })
  | [] =>
    let n := 48 * b2n east + x.lap / 5120
    if x.lap + 1 < 245760 then ((n, x.lap % 5120), false, { x with lap := x.lap + 1 })
    else ((n, x.lap % 5120), true, { x with lap := 0 })

/-- The next live-plane frame of a die's scrubber (R111, R116). -/
def scrubLive (east : Bool) (ecc : Ecc) (s : State) : State :=
  if !s.scrubOn then s
  else
    let r := (s.scrubber east).advance east
    let f : FrameRef := { region := r.1.1, plane := s.bit (F.CFG_REGION_live_plane r.1.1), index := r.1.2 }
    let x := r.2.2.note f ecc
    if r.2.1 then
      let s := s.setReg (R.CFG_SCRUB_LAP (b2n east)) (BitVec.ofNat 32 ((s.now - x.lapStart) / 1000))
      (s.setScrubber east { x with lapStart := s.now }).incFld (F.CFG_SCRUB_COUNT_laps (b2n east))
    else s.setScrubber east x

/-- Keys of the essential frames of a die's live planes, rising. -/
def State.essentialKeys (s : State) (east : Bool) : List Nat :=
  (s.cfg.essential.filter fun e =>
    let n := e.1 / 10240
    decide (48 ≤ n) == east && (e.1 / 5120 % 2 == s.fld (F.CFG_REGION_live_plane n))).map (·.1)

/-- The frame of a key. -/
def frameRef (k : Nat) : FrameRef := { region := k / 10240, plane := k / 5120 % 2 == 1, index := k % 5120 }

/-- The next essential frame (R112). -/
def scrubEssential (east : Bool) (ecc : Ecc) (s : State) : State :=
  let l := s.essentialKeys east
  let x := s.scrubber east
  match (l.find? fun k => decide (x.ess ≤ k)).or l.head? with
  | none => s
  | some k => if s.scrubOn then s.setScrubber east ({ x with ess := k + 1 }.note (frameRef k) ecc) else s

/-- Whether the sprout planes of a region's pod are scrubbed (R113). -/
def State.sproutScrubbed (s : State) (n : Nat) : Bool :=
  let st := s.sprout (s.podOf n)
  st == Sprout.staged || st == Sprout.armed || st == Sprout.previous

/-- A corrected or invalid sprout frame (R114). -/
def State.sproutResult (s : State) (east : Bool) (f : FrameRef) : Ecc → State
  | .clean => s
  | .corrected => s.setScrubber east ((s.scrubber east).note f .corrected)
  | .uncorrectable =>
    let s := s.satFld (F.CFG_SCRUB_UE_uncorrectable (b2n east)) (F.CFG_SCRUB_UE_overflow (b2n east))
    let s := s.fault Unit.cfg .cfgUe (.unit Unit.cfg) 0 (f.region * 8192 + f.index)
    s.planeInvalid (s.podOf f.region)

/-- The next sprout frame of a die (R113, R116): none in DORMANT. -/
def scrubSprout (east : Bool) (ecc : Ecc) (s : State) : State :=
  let x := s.scrubber east
  let base := 48 * b2n east
  let cand := ((List.range 48).map fun j => (x.sprout / 5120 + j) % 48).filter fun r => s.sproutScrubbed (base + r)
  if !s.scrubOn || !s.bit F.CFG_SCRUB_CTRL_sprout_scrub || s.mode == Mode.dormant then s
  else match cand with
    | [] => s
    | r :: _ =>
      let i := if r = x.sprout / 5120 then x.sprout % 5120 else 0
      let f : FrameRef := { region := base + r, plane := !s.bit (F.CFG_REGION_live_plane (base + r)), index := i }
      (s.setScrubber east { x with sprout := (r * 5120 + i + 1) % 245760 }).sproutResult east f ecc

/-- The detail of a frame's record: its frame address. -/
def FrameRef.address (f : FrameRef) : Nat := f.region * 8192 + f.index

/-- A corrected frame is written back to its physical plane, unless it has been written
since; a CFG_CE record is sent (R114, R115). -/
def frameBack (east : Bool) (s : State) : State :=
  let x := s.scrubber east
  match x.writeback with
  | [] => s
  | f :: l =>
    let s := s.setScrubber east { x with writeback := l }
    let s := s.satFld (F.CFG_SCRUB_CE_corrected (b2n east)) (F.CFG_SCRUB_CE_overflow (b2n east))
    s.fault Unit.cfg .cfgCe (.unit Unit.cfg) 0 f.address

/-- Write one frame of a physical plane; scrubbed copies of it become stale (R115). -/
def State.writeFrame (s : State) (n : Nat) (plane : Bool) (i : Nat) (v : BitVec 3072) : State :=
  let mark (l : List FrameRef) : List FrameRef := l.map fun f =>
    if f.region = n ∧ f.plane = plane ∧ f.index = i then { f with stale := true } else f
  let e := decide (48 ≤ n)
  let x := s.scrubber e
  let s := s.setScrubber e { x with writeback := mark x.writeback, rewrite := mark x.rewrite }
  { s with cfg := { s.cfg with frames := Table.set noFrame s.cfg.frames (frameKey n plane i) v } }

/-- Whether a frame of a plane is marked essential. -/
def State.isEssential (s : State) (n : Nat) (plane : Bool) (i : Nat) : Bool :=
  Table.get (fun _ => false) s.cfg.essential (frameKey n plane i)

/-- An uncorrectable live frame is rewritten whole from the frame store, with a CFG_UE record
of raised severity if it is essential (R114). -/
def frameRewrite (east : Bool) (s : State) : State :=
  let x := s.scrubber east
  match x.rewrite with
  | [] => s
  | f :: l =>
    let s := s.setScrubber east { x with rewrite := l }
    let s := if f.stale then s
      else s.writeFrame f.region f.plane f.index (Table.get noFrame s.cfg.store (f.region * 5120 + f.index))
    let s := s.satFld (F.CFG_SCRUB_UE_uncorrectable (b2n east)) (F.CFG_SCRUB_UE_overflow (b2n east))
    s.fault Unit.cfg .cfgUe (.unit Unit.cfg) 0 f.address (s.isEssential f.region f.plane f.index)

/-- A write of priority_go (R116); a number above 95 names no region. -/
def priorityGo (n : Nat) (s : State) : State :=
  let s := s.setFld F.CFG_SCRUB_CTRL_priority_region n
  (if n < 96 then s.priorityVisit n else s).ack

/-! ## Substitutions (R117 to R122, R431) -/

/-- A key of a spare: kind, region, and column or group. -/
def FabricFix.spare : FabricFix → Nat
  | .tile r _ => r.val
  | .slice r c _ => 1000 + 2 * r.val + c.val
  | .memory r c _ => 2000 + 2 * r.val + c.val / 3

def FabricFix.kind : FabricFix → Nat
  | .tile .. => 1
  | .slice .. => 2
  | .memory .. => 3

/-- Whether the spare of a substitution is spent or unusable (R117 to R119, R122). -/
def State.spareSpent (s : State) (f : FabricFix) : Bool :=
  Table.get (fun _ => false) s.cfg.badSpare f.spare ||
    (match f with
     | .tile r _ => s.bit (F.CFG_REGION_tile_steered r.val)
     | .slice r c _ => if c.val = 0 then s.bit (F.CFG_REGION_SLICE_col0_steered r.val)
         else s.bit (F.CFG_REGION_SLICE_col1_steered r.val)
     | .memory r c _ => if c.val < 3 then s.bit (F.CFG_REGION_BRAM_lo_used r.val)
         else s.bit (F.CFG_REGION_BRAM_hi_used r.val))

/-- CFG_REPAIR_STATUS for a substitution. -/
def State.showRepair (s : State) (f : FabricFix) (status : Nat) (isOpen : Bool) : State :=
  (((s.setFld F.CFG_REPAIR_STATUS_last_status status).setBit F.CFG_REPAIR_STATUS_open isOpen).setFld
    F.CFG_REPAIR_STATUS_kind f.kind).setFld F.CFG_REPAIR_STATUS_region f.region

/-- Whether any pod's substitution is open. -/
def State.anyRepair (s : State) : Bool := s.cfg.pods.any fun e => e.2.repair.isSome

/-- The loader is done with an image: its status is shown, and the host told (R426, R439). -/
def State.ldrEnd (s : State) (status : Nat) : State :=
  let s := (s.setFld F.PCI_LDR_STATUS_last_status status).setFld F.PCI_LDR_STATUS_state 0
  ({ s with loader := { acorn := s.loader.acorn } }).sendMsix 0 0

/-- The image in the loader is rejected, or its stream ends for a repair (R426, R432). -/
def State.ldrRefused (s : State) (status : Nat) : State :=
  (s.fault .husk .loadReject (.unit .husk) status (s.fld F.PCI_LDR_STATUS_kind)).ldrEnd status

/-- The pods a PARTIAL image names (Table 15.1). -/
def State.ldrPods (s : State) : List Nat :=
  (List.range 48).filter fun p => (s.loader.bytes.getD (24 + p / 8) 0).getLsbD (p % 8)

/-- A PARTIAL image in the loader that names the pod has its stream ended (R33, R432). -/
def State.partialCancel (s : State) (p status : Nat) : State :=
  let st := s.fld F.PCI_LDR_STATUS_state
  if (st == 1 || st == 2) && s.fld F.PCI_LDR_STATUS_kind == 2 && s.loader.checked && s.ldrPods.contains p then
    let l := s.ldrPods
    (l.foldl (fun s q => if s.sprout q == Sprout.staging then (s.setSprout q Sprout.idle).podStatus q status else s) s).ldrRefused status
  else s

/-- A full image staged while live is cancelled: every pod returns to IDLE (R431). -/
def State.fullCancel (s : State) (status : Nat) : State :=
  if !s.cfg.fullLive then s
  else
    let s := { s with cfg := { s.cfg with fullLive := false, stagedTable := [] } }
    let s := ((List.range 48).foldl (fun s p =>
      if isStaging (s.sprout p) then (s.setFld (F.CFG_POD_STATE_state p) Sprout.idle).podStatus p status else s) s).showStaging
    let s := match s.fld F.PCI_LDR_STATUS_state with
      | 4 => (List.range 8).foldl (fun (s : State) k =>
          if s.cueAction CueUnit.dev k == CueAction.fullSwitch then s.cueClear CueUnit.dev k else s) s
      | _ => s
    s.ldrRefused status

/-- The pod's sprout plane is taken from what held it (R33, R121 step 1). -/
def State.takePlane (s : State) (p : Nat) : State :=
  let s := (s.fullCancel Code.updatePreempted).partialCancel p Code.updatePreempted
  let st := s.sprout p
  let x := s.pod p
  let s :=
    if st = Sprout.armed then
      (if x.tx ≠ 0 then s.withdrawVote Unit.cfg x.tx else s).podDisarm p |>.podStatus p Code.updatePreempted
    else if st = Sprout.staging ∨ st = Sprout.staged then s.podStatus p Code.updatePreempted
    else if st = Sprout.previous then s.podStatus p Code.planeInvalid
    else s
  s.setSprout p Sprout.repairHeld

/-- Whether the pod's committed switch has not yet applied (R121, R310). -/
def State.switchDecided (s : State) (p : Nat) : Bool :=
  s.sprout p == Sprout.armed && (s.pod p).tx != 0 && (s.tx (s.pod p).tx).state == .committed

/-- The husk opens a substitution (R120, R121). It waits, and nothing changes yet, for a pod
that is switching, whose switch is decided, that is frozen, or that has one open. -/
def subOpen (f : FabricFix) (s : State) : State :=
  let p := s.podOf f.region
  if s.podSwitching p || s.switchDecided p || s.podFrozen p || (s.pod p).repair.isSome || !inService s.mode then s
  else if !s.bit (F.CFG_POD_STATE_spare_aware p) || s.spareSpent f then
    (s.showRepair f Code.noSpare s.anyRepair).fault .husk .repair (.unit Unit.cfg) Code.noSpare f.region
  else
    let s := (s.takePlane p).openSub
    (s.setPod p { s.pod p with repair := some { fix := f } }).showRepair f 0 true

/-- A failed substitution is abandoned and its spare marked unusable (R122); one abandoned by a
husk restart leaves the spare as it is (R466). -/
def State.subAbandon (s : State) (p : Nat) (failed : Bool := true) : State :=
  match (s.pod p).repair with
  | none => s
  | some r =>
    let s := s.setPod p { s.pod p with repair := none }
    let s := if failed then
        { s with cfg := { s.cfg with badSpare := Table.set (fun _ => false) s.cfg.badSpare r.fix.spare true } }
      else s
    let s := (s.setSprout p Sprout.idle).podStatus p Code.planeInvalid
    let s := s.showRepair r.fix Code.repairAbandoned s.anyRepair
    (s.fault .husk .repair (.unit Unit.cfg) Code.repairAbandoned r.fix.region).closeSub (.fabric r.fix)

/-- The prepared substitution is staged in a transaction with the ASAP launch (R121, R511). -/
def State.subStage (s : State) (p tries : Nat) : State :=
  match (s.pod p).repair with
  | none => s
  | some r =>
    let h := s.huskStage [(Unit.cfg, .substitution (Fin.ofNat 48 p))] tries
    if h.1 = 0 then h.2
    else h.2.setPod p { h.2.pod p with repair := some { r with staged := true } }

/-- Copy the live frames of a region into its sprout plane. -/
def State.copyPlane (s : State) (n : Nat) : State :=
  let live := s.bit (F.CFG_REGION_live_plane n)
  let lo := frameKey n live 0
  let base := frameKey n (!live) 0
  let got := (s.cfg.frames.filter fun e => decide (lo ≤ e.1) && decide (e.1 < lo + 5120)).map
    fun e => (e.1 - lo + base, e.2)
  { s with cfg := { s.cfg with frames := mixRange s.cfg.frames got base (base + 5120) } }

/-- The rebuild ends (R121 step 3, R122). -/
def rebuildDone (p : Nat) (ok : Bool) (s : State) : State :=
  match (s.pod p).repair with
  | none => s
  | some r =>
    if r.staged || s.podFrozen p || r.fix.kind == 3 then s
    else if !ok then s.subAbandon p
    else (s.copyPlane r.fix.region).subStage p 0

/-- Words of the copied memory that came with an uncorrectable error (R119). -/
def State.poisonWords (s : State) (k : Nat) : List (Fin 1024) → State
  | [] => s
  | a :: l => (s.setBram (k + a.val) { s.bramWord (k + a.val) with poison := true }).poisonWords k l

/-- The hidden copy port has finished (R119). -/
def spareCopied (p : Nat) (ok : Bool) (bad : List (Fin 1024)) (s : State) : State :=
  match (s.pod p).repair with
  | some { fix := .memory r c k, staged := false } =>
    if s.podFrozen p then s
    else if !ok then s.subAbandon p
    else ((s.poisonWords (bramKey r.val (64 * c.val + k.val) 0) bad).copyPlane r.val).subStage p 0
  | _ => s

/-- The substitution applies: a CARRY switch of the region alone; it closes (R120, R121). -/
def State.subApply (s : State) (p : Nat) : State :=
  match (s.pod p).repair with
  | none => s
  | some r =>
    let l := s.podPair p
    let s := s.setPod p { s.pod p with repair := none }
    let s := s.beginE0 false (some r.fix) (fun q => if q = p then [r.fix.region] else []) l
    let s := (s.setSprout p Sprout.idle).podStatus p Code.planeInvalid
    (s.showRepair r.fix 0 s.anyRepair).closeSub (.fabric r.fix)

/-! ## Meanings -/

/-- R103, R106, R431. -/
def execPodSwitch (m : Master) (p : Fin 48) (bind : Bool) (slot : Fin 8) (carry : Bool)
    (quiesce : BitVec 8) (s : State) : Out := .next (podSwitchGo m p.val bind slot carry quiesce.toNat s)
/-- R107. -/
def execPodCancel (_m : Master) (p : Fin 48) (s : State) : Out := .next (podCancelGo p.val s)
/-- R42, R293. -/
def execClaimRelease (m : Master) (c : ClaimRef) (s : State) : Out := .next (releaseGo m c s).settleSlots
/-- R104. -/
def execPodReset (_m : Master) (p : Fin 48) (s : State) : Out := .next (podResetGo p.val s)
/-- R103. -/
def execQuiesceStart (p : Fin 48) (s : State) : Out := .next (quiesce p.val s)
/-- R100, R105, R120. -/
def execSwitchE1 (p : Fin 48) (s : State) : Out := .next (switchE1 p.val s)
/-- R101. -/
def execSwitchTreeForce (p : Fin 48) (region : Fin 96) (tree : Fin 32) (s : State) : Out :=
  .next (treeForce p.val region.val tree.val s)
/-- R99, R100, R497. -/
def execSwitchE2 (p : Fin 48) (s : State) : Out := .next (switchE2 p.val s)
/-- R99, R100, R105. -/
def execSwitchE3 (p : Fin 48) (s : State) : Out := .next (switchE3 p.val s)
/-- R111, R114, R116. -/
def execScrubFrameRead (east : Bool) (ecc : Ecc) (s : State) : Out := .next (scrubLive east ecc s)
/-- R112, R114. -/
def execEssentialScrubRead (east : Bool) (ecc : Ecc) (s : State) : Out := .next (scrubEssential east ecc s)
/-- R98, R113, R114. -/
def execSproutScrubRead (east : Bool) (ecc : Ecc) (s : State) : Out := .next (scrubSprout east ecc s)
/-- R114, R115. -/
def execScrubWriteback (east : Bool) (s : State) : Out := .next (frameBack east s)
/-- R114. -/
def execFrameStoreRewrite (east : Bool) (s : State) : Out := .next (frameRewrite east s)
/-- R116. -/
def execPriorityGo (_m : Master) (region : BitVec 7) (s : State) : Out := .next (priorityGo region.toNat s)
/-- R121, R122, R511. -/
def execSproutRebuildDone (p : Fin 48) (ok : Bool) (s : State) : Out := .next (rebuildDone p.val ok s)
/-- R119, R121, R122. -/
def execMemorySpareCopyDone (p : Fin 48) (ok : Bool) (bad : List (Fin 1024)) (s : State) : Out :=
  .next (spareCopied p.val ok bad s)

end Sys2Proof.Machine
end

