-- ==== Sys2Proof/Machine/Ports.lean ====
section
/-! DEFINITION. Engine ports as the fabric sees them (R81 to R84, R126). -/

namespace Sys2Proof.Machine

/-- The pod whose region reaches the port of engine `n`. -/
def State.portPod (s : State) (n : Nat) : Nat := s.podOf (engineRegion n)

/-- The port holds by backpressure: the engine is halted or moving, or its pod's clocks are
stopped (R84, R102). -/
def State.portHeld (s : State) (n : Nat) : Bool :=
  let st := s.engState n
  st == EngState.halted || st == EngState.moving || s.podStopped (s.portPod n)

/-- The engine whose port matches engine `n`'s across `d` regions (R126). -/
def matchingEngine (n : Nat) (d : Int) : Nat :=
  let r := (clusterRegion (n / 8) + d).toNat
  let c := ((List.range 128).find? fun c => clusterRegion c == r && c % 2 == n / 8 % 2).getD 0
  8 * c + n % 8

/-- Words a pair's ports send to an engine, compared in order (R126). -/
def State.portCompare (s : State) (prim : Nat) (fromTwin : Bool) (w : PortWord) : State :=
  let x := s.engine prim
  let a := if fromTwin then x.primQueue else x.primQueue ++ [w]
  let b := if fromTwin then x.twinQueue ++ [w] else x.twinQueue
  let r := matchHeads a b
  let lag := decide (64 ≤ r.2.1.length) && decide (x.primQueue.length < 64)
  let s := s.setEngine prim { x with primQueue := r.2.1, twinQueue := r.2.2 }
  if r.1 || lag then s.twinMismatch (s.portPod prim) (engUnit prim) (0x400 + prim) (!r.1) else s

/-- A word of the design into the port of engine `n` (R82, R126, R127). -/
def portGive (n : Nat) (data : BitVec 72) (poison : BitVec 2) (s : State) : State :=
  let p := s.portPod n
  let x := s.engine n
  let w : PortWord := { w0 := data.extractLsb' 0 36, w1 := data.extractLsb' 36 36
                        p0 := poison.getLsbD 0, p1 := poison.getLsbD 1 }
  if s.portHeld n then s
  else if s.paired p && s.isTwin p then
    s.portCompare (matchingEngine n (-(s.twinOffset (s.partner p)))) true w
  else if 32 ≤ x.toEngine.length then s
  else
    let sil := (s.pod p).silenced
    let v := { w with p0 := w.p0 || sil, p1 := w.p1 || sil }
    let s := s.setEngine n { x with toEngine := x.toEngine ++ [v] }
    if s.paired p then s.portCompare n false w else s

/-- The design takes a word from the port of engine `n`: a failed parity check delivers it
poisoned, with an EPORT record (R83). -/
def portTake (n : Nat) (parityOk : Bool) (s : State) : State :=
  let x := s.engine n
  match x.fromEngine with
  | [] => s
  | w :: l =>
    if s.portHeld n then s
    else
      let v := if parityOk then w else { w with p0 := true, p1 := true }
      let s := s.setEngine n { x with fromEngine := l }
      let s := s.reply (toBytes 9 (v.w0.toNat + 2 ^ 36 * v.w1.toNat)) (v.p0 || v.p1)
      if parityOk then s else s.fault (engUnit n) .eport (.unit (engUnit n)) 0 n

/-- R82, R126, R127 or R83. -/
def portWord (n : Nat) (give : Option (BitVec 72 × BitVec 2)) (parityOk : Bool) (s : State) : State :=
  match give with
  | some w => portGive n w.1 w.2 s
  | none => portTake n parityOk s

/-- A rising edge on ev_in (R82); the twin's ports reach no engine (R126). -/
def portEvent (n : Nat) (s : State) : State :=
  if s.paired (s.portPod n) && s.isTwin (s.portPod n) then s else s.raiseEvent n 0

/-- R82. -/
def execEvInRisingEdge (e : Fin 1024) (s : State) : Out := .next (portEvent e.val s)
/-- R82 to R84, R102, R126, R127. -/
def execEnginePortWord (e : Fin 1024) (give : Option (BitVec 72 × BitVec 2)) (parityOk : Bool)
    (s : State) : Out := .next (portWord e.val give parityOk s)

end Sys2Proof.Machine
end

