-- ==== Sys2Proof/Machine/Scratchpad.lean ====
section
/-! DEFINITION. The scratchpad (chapter 14, R405 to R415): bank sets, power states,
accesses, atomics and the secure part. -/

namespace Sys2Proof.Machine

/-! ## Decoding (R405, Table 14.1) -/

/-- Whether a bank set is LINEAR. -/
def State.spmLinear (s : State) (set : Nat) : Bool := s.bit (F.SPM_SET_CFG_mode set)

/-- The bank within its set of offset `w` of the set. -/
def spmBank (linear : Bool) (w : Nat) : Nat := if linear then w >>> 18 else w >>> 3 % 32

/-- The word within its bank of offset `w` of the set. -/
def spmWordIn (linear : Bool) (w : Nat) : Nat := if linear then w % 0x40000 >>> 3 else w >>> 8

/-- The global bank of a scratchpad offset. -/
def State.spmGlobalBank (s : State) (o : Nat) : Nat :=
  let set := o >>> 23
  32 * set + spmBank (s.spmLinear set) (o % 0x800000)

/-- The stored word of a scratchpad offset: its number over all banks. -/
def State.spmWord (s : State) (o : Nat) : Nat :=
  let set := o >>> 23
  s.spmGlobalBank o * 32768 + spmWordIn (s.spmLinear set) (o % 0x800000)

/-- The power state in force of a global bank: 0 ON, 1 RETENTION, 2 OFF (R411). -/
def State.spmPower (s : State) (bank : Nat) : Nat :=
  if s.spmLinear (bank / 32) then s.fld (F.SPM_BANK_PWR_state bank)
  else s.fld (F.SPM_SET_CFG_state (bank / 32))

/-- Whether a change of the bank's power or mode is in progress (R412). -/
def State.spmChanging (s : State) (bank : Nat) : Bool :=
  s.bit (F.SPM_SET_CFG_changing (bank / 32)) ||
    (s.spmLinear (bank / 32) && s.bit (F.SPM_BANK_PWR_changing bank))

/-- Whether a bank serves requests: ON, not changing and not being wiped (R412, R415). -/
def State.spmServes (s : State) (bank : Nat) : Bool :=
  s.spmPower bank == 0 && !s.spmChanging bank &&
    !(decide (480 ≤ bank) && s.bit F.SPM_STATUS_wiping)

/-! ## Words -/

def zeroByte (_ : Nat) : Byte := 0
def notMarked (_ : Nat) : Bool := false

/-- Byte `b` of stored word `k`. -/
def State.spmByte (s : State) (k b : Nat) : Byte := Table.get zeroByte s.spm.mem (k * 8 + b)

/-- The byte at a scratchpad offset. -/
def State.spmAt (s : State) (o : Nat) : Byte := s.spmByte (s.spmWord o) (o % 8)

def State.setSpmByte (s : State) (k b : Nat) (v : Byte) : State :=
  { s with spm := { s.spm with mem := Table.set zeroByte s.spm.mem (k * 8 + b) v } }

def State.spmPoison (s : State) (k : Nat) : Bool := Table.get notMarked s.spm.poison k

def State.setSpmPoison (s : State) (k : Nat) (p : Bool) : State :=
  { s with spm := { s.spm with poison := Table.set notMarked s.spm.poison k p } }

/-- Store bytes at consecutive scratchpad offsets. -/
def State.spmStore (s : State) (o : Nat) : List Byte → State
  | [] => s
  | b :: bs => (s.setSpmByte (s.spmWord o) (o % 8) b).spmStore (o + 1) bs

/-- The bytes at `n` consecutive scratchpad offsets. -/
def State.spmLoad (s : State) (o : Nat) : Nat → List Byte
  | 0 => []
  | n + 1 => s.spmAt o :: s.spmLoad (o + 1) n

/-- The offsets of the 8-byte words that an access of `n` bytes at `o` touches. -/
def spmOffsets (o n : Nat) : List Nat :=
  if n = 0 then [] else (List.range ((o + n - 1) / 8 - o / 8 + 1)).map fun i => (o / 8 + i) * 8

/-- The global banks an access touches. -/
def State.spmBanks (s : State) (o n : Nat) : List Nat := (spmOffsets o n).map s.spmGlobalBank

/-- Whether any word of an access is marked poisoned. -/
def State.spmAnyPoison (s : State) (o n : Nat) : Bool :=
  (spmOffsets o n).any fun a => s.spmPoison (s.spmWord a)

/-- Mark every word an access touches. A word written whole takes the write's marking; a
word written in part stays poisoned if it was (R408). -/
def State.spmMark (s : State) (o n : Nat) (p : Bool) : List Nat → State
  | [] => s
  | a :: as =>
    let k := s.spmWord a
    let whole := decide (o ≤ a) && decide (a + 8 ≤ o + n)
    (s.setSpmPoison k (p || (!whole && s.spmPoison k))).spmMark o n p as

/-- A corrected or uncorrectable word of set `set` is counted and reported (R408). -/
def State.spmCorrected (s : State) (set k : Nat) : State :=
  (s.satFld (F.SPM_ERR_ce set) (F.SPM_ERR_overflow set)).fault (Unit.spm set) .spmCe
    (.unit (Unit.spm set)) 0 k
def State.spmUncorrectable (s : State) (set k : Nat) : State :=
  (s.satFld (F.SPM_ERR_ue set) (F.SPM_ERR_overflow set)).fault (Unit.spm set) .spmUe
    (.unit (Unit.spm set)) 0 k

/-- What the word's code says when word `k` of set `set` is read (R397, R408): an
uncorrectable word is poisoned from then on. -/
def State.spmCheck (s : State) (set k : Nat) : Ecc → State
  | .clean => s
  | .corrected => s.spmCorrected set k
  | .uncorrectable => (s.spmUncorrectable set k).setSpmPoison k true

/-- Whether a master is external: host DMA or the monitor (R19, R414). -/
def Master.external (m : Master) : Bool :=
  match m with
  | .host => true
  | .monitor => true
  | _ => false

/-- Whether an access touches the secure part, bank set 15 (R414). -/
def spmSecure (o n : Nat) : Bool := decide (0x7800000 < o + n)

/-- A read of `n` bytes at offset `o` (R408): every bank must serve, and the response is
poisoned if a word is. -/
def spmRead (o n : Nat) (ecc : Ecc) (s : State) : State :=
  if !(s.spmBanks o n).all s.spmServes then s.error Code.bankUnpowered
  else
    let s := s.spmCheck (o >>> 23) (s.spmWord o) ecc
    s.reply (s.spmLoad o n) (s.spmAnyPoison o n)

/-- Whether a write of `n` bytes at `o` leaves bytes of a word unwritten. -/
def spmPartial (o n : Nat) : Bool := o % 8 != 0 || (o + n) % 8 != 0

/-- A write (R408): stored with its poison marking, or poisoned if its CRC check failed;
a partial write of a poisoned or uncorrectable word leaves the word poisoned, and a
WRITE_ACK returns POISONED. -/
def spmWrite (o : Nat) (bytes : List Byte) (poison crcOk : Bool) (ecc : Ecc) (s : State) : State :=
  let n := bytes.length
  if !(s.spmBanks o n).all s.spmServes then s.error Code.bankUnpowered
  else
    let s := if spmPartial o n then s.spmCheck (o >>> 23) (s.spmWord o) ecc else s
    let merged := (spmOffsets o n).any fun a =>
      !(decide (o ≤ a) && decide (a + 8 ≤ o + n)) && s.spmPoison (s.spmWord a)
    let s := (s.spmMark o n (poison || !crcOk) (spmOffsets o n)).spmStore o bytes
    let s := if crcOk then s else s.fault (Unit.spm (o >>> 23)) .crc
    s.ack (if merged || !crcOk then Code.poisoned else 0)

/-- A scratchpad access of an internal or external master (R408, R414). A request that runs
past the scratchpad crosses a row of Table 1.2 (R18). -/
def spmAccess (m : Master) (o n : Nat) (write : Option (List Byte)) (poison crcOk : Bool)
    (ecc : Ecc) (s : State) : State :=
  if 0x8000000 < o + n then
    (s.error).fault (Unit.spm (o >>> 23)) .decode (.unit m) 0 (0x20000000000 + o)
  else if m.external && spmSecure o n then s.error Code.blockedRange
  else match write with
    | none => spmRead o n ecc s
    | some bytes => spmWrite o bytes poison crcOk ecc s

/-! ## Atomics (R186, R399, R409) -/

/-- An ATOMIC_ADD or ATOMIC_SWAP at a scratchpad bank: the old value is returned, with the
word's marking; the marking stays, and a poisoned operand or a corrupt word sets it. -/
def spmAtomicAt (o : Nat) (swap : Bool) (operand : Word) (poison : Bool) (ecc : Ecc) (s : State) :
    State :=
  if !s.spmServes (s.spmGlobalBank o) then s.error Code.bankUnpowered
  else
    let k := s.spmWord o
    let s := s.spmCheck (o >>> 23) k ecc
    let old := BitVec.ofNat 32 (ofBytes (s.spmLoad o 4))
    let new := if swap then operand else old + operand
    let p := s.spmPoison k
    ((s.spmStore o (toBytes 4 new.toNat)).setSpmPoison k (p || poison)).reply
      (toBytes 4 old.toNat) p

/-- An atomic at any address (R409): misaligned or outside the scratchpad it is refused. -/
def spmAtomicOp (m : Master) (address : Nat) (swap : Bool) (operand : Word) (poison : Bool)
    (ecc : Ecc) (s : State) : State :=
  if address % 4 ≠ 0 ∨ address < 0x20000000000 ∨ 0x20008000000 ≤ address then
    s.error Code.invalidArgument
  else if m.external && spmSecure (address - 0x20000000000) 4 then s.error Code.blockedRange
  else spmAtomicAt (address - 0x20000000000) swap operand poison ecc s

/-! ## Modes and power (R407, R411 to R413) -/

def State.spmRefuse (s : State) (status : Nat) : State :=
  s.refuse F.SPM_STATUS_last_status status

/-- Whether every bank of a set is ON and nothing in it is changing (R407). -/
def State.spmSetOn (s : State) (set : Nat) : Bool :=
  (List.range 32).all fun b => s.spmPower (32 * set + b) == 0 && !s.spmChanging (32 * set + b)

/-- Whether any change is in progress in a set (R412). -/
def State.spmSetBusy (s : State) (set : Nat) : Bool :=
  (List.range 32).any fun b => s.spmChanging (32 * set + b)

/-- A write of SPM_SET_CFG.mode (R407): requests drain, contents stay by bank and word. -/
def spmSetMode (set : Nat) (linear : Bool) (s : State) : State :=
  if s.spmLinear set = linear then s.ack
  else if s.spmSetBusy set || !s.spmSetOn set then s.spmRefuse Code.notPermitted
  else
    let s := s.setBit (F.SPM_SET_CFG_mode set) linear
    (s.setFld (F.SPM_SET_CFG_state set) 0).ack

/-- A write of SPM_SET_CFG.power (R411, R412): ignored in LINEAR. -/
def spmSetPower (set power : Nat) (s : State) : State :=
  if s.spmLinear set then s.ack
  else if power = 3 then s.spmRefuse Code.invalidArgument
  else if s.spmSetBusy set then s.spmRefuse Code.notPermitted
  else
    let s := s.setFld (F.SPM_SET_CFG_power set) power
    if s.fld (F.SPM_SET_CFG_state set) = power then s.ack
    else (s.setBit (F.SPM_SET_CFG_changing set) true).ack

/-- A write of SPM_BANK_PWR (R411, R412). -/
def spmBankPower (bank power : Nat) (s : State) : State :=
  if !s.spmLinear (bank / 32) then s.spmRefuse Code.notPermitted
  else if power = 3 then s.spmRefuse Code.invalidArgument
  else if s.spmChanging bank then s.spmRefuse Code.notPermitted
  else
    let s := s.setFld (F.SPM_BANK_PWR_power bank) power
    if s.fld (F.SPM_BANK_PWR_state bank) = power then s.ack
    else (s.setBit (F.SPM_BANK_PWR_changing bank) true).ack

/-- A bank loses its contents: every word zero with a valid code (Table 14.3). -/
def State.spmErase (s : State) (bank : Nat) : State :=
  let lo := bank * 32768
  let hi := lo + 32768
  { s with spm := { s.spm with
      mem := s.spm.mem.filter fun e => !(decide (lo * 8 ≤ e.1) && decide (e.1 < hi * 8))
      poison := s.spm.poison.filter fun e => !(decide (lo ≤ e.1) && decide (e.1 < hi)) } }

/-- Banks erased in turn. -/
def State.spmEraseAll (s : State) : List Nat → State
  | [] => s
  | b :: bs => (s.spmErase b).spmEraseAll bs

/-- A power change completes (R412, Table 14.3): a bank that was or goes OFF is zero; a
bank of set 15 that goes OFF counts as wiped (R415). -/
def powerDone (bank : Nat) (s : State) : State :=
  let set := bank / 32
  if s.spmLinear set then
    if s.bit (F.SPM_BANK_PWR_changing bank) then
      let old := s.fld (F.SPM_BANK_PWR_state bank)
      let new := s.fld (F.SPM_BANK_PWR_power bank)
      let s := if old = 2 ∨ new = 2 then s.spmErase bank else s
      let s := if new = 2 ∧ set = 15 then s.incFld F.SPM_STATUS_wipes else s
      (s.setFld (F.SPM_BANK_PWR_state bank) new).setBit (F.SPM_BANK_PWR_changing bank) false
    else s
  else if s.bit (F.SPM_SET_CFG_changing set) then
    let old := s.fld (F.SPM_SET_CFG_state set)
    let new := s.fld (F.SPM_SET_CFG_power set)
    let s := if old = 2 ∨ new = 2 then s.spmEraseAll ((List.range 32).map (32 * set + ·)) else s
    let s := if new = 2 ∧ set = 15 then s.incFld F.SPM_STATUS_wipes else s
    (s.setFld (F.SPM_SET_CFG_state set) new).setBit (F.SPM_SET_CFG_changing set) false
  else s

/-! ## The secure part (R415) -/

/-- A wipe of the secure part begins: requests to set 15 are refused until it completes. -/
def State.wipeBegin (s : State) : State := s.setBit F.SPM_STATUS_wiping true

/-- Banks of the secure part brought ON. -/
def State.banksOn (s : State) : List Nat → State
  | [] => s
  | b :: bs => ((s.setFld (F.SPM_BANK_PWR_state b) 0).setFld (F.SPM_BANK_PWR_power b) 0).banksOn bs

/-- Every word of set 15 is zero; banks not ON have been brought ON; the wipe is counted. -/
def wipeDone (s : State) : State :=
  if s.bit F.SPM_STATUS_wiping then
    let banks := (List.range 32).map (480 + ·)
    let s := s.spmEraseAll banks
    let s := if s.spmLinear 15 then s.banksOn banks
      else (s.setFld (F.SPM_SET_CFG_state 15) 0).setFld (F.SPM_SET_CFG_power 15) 0
    (s.incFld F.SPM_STATUS_wipes).setBit F.SPM_STATUS_wiping false
  else s

/-! ## DORMANT (R413) -/

/-- At entry to DORMANT every ON bank goes to RETENTION, except in sets with keep_on. -/
def State.spmSleep (s : State) : Nat → State
  | 0 => s
  | k + 1 =>
    let s :=
      if s.bit (F.SPM_SET_CFG_keep_on (k / 32)) || s.spmPower k != 0 then s
      else if s.spmLinear (k / 32) then
        { s.setFld (F.SPM_BANK_PWR_state k) 1 with
          spm := { s.spm with saved := Table.set zeroNat s.spm.saved k 1 } }
      else
        { s with spm := { s.spm with saved := Table.set zeroNat s.spm.saved k 1 } }
    s.spmSleep k

/-- At the exit from DORMANT each bank's state is restored. -/
def State.spmWake (s : State) : State :=
  let s := s.spm.saved.foldl (fun s e =>
    if s.spmLinear (e.1 / 32) then s.setFld (F.SPM_BANK_PWR_state e.1) 0
    else s.setFld (F.SPM_SET_CFG_state (e.1 / 32)) 0) s
  { s with spm := { s.spm with saved := [] } }

/-- INTERLEAVED sets of sleeping banks report RETENTION. -/
def State.spmSleepSets (s : State) : Nat → State
  | 0 => s
  | k + 1 =>
    (if s.spmLinear k || s.bit (F.SPM_SET_CFG_keep_on k) || s.fld (F.SPM_SET_CFG_state k) != 0 then s
      else s.setFld (F.SPM_SET_CFG_state k) 1).spmSleepSets k

/-- The scratchpad at entry to DORMANT (R413). -/
def State.spmDormant (s : State) : State := (s.spmSleep 512).spmSleepSets 16

/-! ## Meanings -/

/-- R408, R414. -/
def execSpmAccess (m : Master) (o : BitVec 27) (size : Fin 513) (write : Option (List Byte))
    (poison crcOk : Bool) (ecc : Ecc) (s : State) : Out :=
  .next (spmAccess m o.toNat size.val write poison crcOk ecc s)

/-- R399, R409. -/
def execSpmAtomic (m : Master) (address : BitVec 48) (swap : Bool) (operand : Word)
    (poison : Bool) (ecc : Ecc) (s : State) : Out :=
  .next (spmAtomicOp m address.toNat swap operand poison ecc s)

/-- R407. -/
def execSpmSetModeWrite (_m : Master) (set : Fin 16) (linear : Bool) (s : State) : Out :=
  .next (spmSetMode set.val linear s)

/-- R411, R412. -/
def execSpmSetPowerWrite (_m : Master) (set : Fin 16) (power : Fin 4) (s : State) : Out :=
  .next (spmSetPower set.val power.val s)

/-- R411, R412. -/
def execSpmBankPowerWrite (_m : Master) (bank : Fin 512) (power : Fin 4) (s : State) : Out :=
  .next (spmBankPower bank.val power.val s)

/-- R412. -/
def execPowerChangeDone (bank : Fin 512) (s : State) : Out := .next (powerDone bank.val s)

/-- R415. -/
def execSecureWipeDone (s : State) : Out := .next (wipeDone s)

end Sys2Proof.Machine
end

