-- ==== Sys2Proof/Machine/Window.lean ====
section
/-! DEFINITION. The engine window (R20, R133, R146, R151, R156) and the move of an engine to
its cluster's spare slot (R153 to R155). -/

namespace Sys2Proof.Machine

/-! ## Registers of an engine by index -/

def noG (_ : Nat) : GReg := {}
def noAcc (_ : Nat) : W48 := 0
def no14 (_ : Nat) : BitVec 14 := 0
def no15 (_ : Nat) : BitVec 15 := 0
def no16 (_ : Nat) : BitVec 16 := 0
def no13 (_ : Nat) : BitVec 13 := 0

def Engine.gAt (e : Engine) (i : Nat) : GReg := Table.get noG e.g i
def Engine.setG (e : Engine) (i : Nat) (v : GReg) : Engine := { e with g := Table.set noG e.g i v }
def Engine.accAt (e : Engine) (k : Nat) : W48 := Table.get noAcc e.acc k
def Engine.setAcc (e : Engine) (k : Nat) (v : W48) : Engine :=
  { e with acc := Table.set noAcc e.acc k v }
def Engine.pAt (e : Engine) (i : Nat) : BitVec 14 := Table.get no14 e.p i
def Engine.setP (e : Engine) (i : Nat) (v : BitVec 14) : Engine := { e with p := Table.set no14 e.p i v }
def Engine.nAt (e : Engine) (i : Nat) : BitVec 15 := Table.get no15 e.n i
def Engine.setN (e : Engine) (i : Nat) (v : BitVec 15) : Engine := { e with n := Table.set no15 e.n i v }
def Engine.lAt (e : Engine) (i : Nat) : BitVec 15 := Table.get no15 e.l i
def Engine.setL (e : Engine) (i : Nat) (v : BitVec 15) : Engine := { e with l := Table.set no15 e.l i v }
def Engine.lcAt (e : Engine) (j : Nat) : BitVec 16 := Table.get no16 e.lc j
def Engine.setLc (e : Engine) (j : Nat) (v : BitVec 16) : Engine :=
  { e with lc := Table.set no16 e.lc j v }
def Engine.lsAt (e : Engine) (j : Nat) : BitVec 13 := Table.get no13 e.ls j
def Engine.setLs (e : Engine) (j : Nat) (v : BitVec 13) : Engine :=
  { e with ls := Table.set no13 e.ls j v }
def Engine.leAt (e : Engine) (j : Nat) : BitVec 13 := Table.get no13 e.le j
def Engine.setLe (e : Engine) (j : Nat) (v : BitVec 13) : Engine :=
  { e with le := Table.set no13 e.le j v }
def Engine.stackAt (e : Engine) (d : Nat) : BitVec 13 := Table.get no13 e.stack d
def Engine.setStack (e : Engine) (d : Nat) (v : BitVec 13) : Engine :=
  { e with stack := Table.set no13 e.stack d v }

/-! ## The register window (Table 4.11) -/

/-- Half of a general register or data word as a 32-bit word: .L at +0, .H at +4. -/
def GReg.word (g : GReg) (hi : Bool) : Word :=
  if hi then (g.w.extractLsb' 18 18).signExtend 32 else (g.w.extractLsb' 0 18).signExtend 32

/-- A register half written through the window: its tag is cleared. -/
def GReg.setHalf (g : GReg) (hi : Bool) (w : Word) : GReg :=
  if hi then { g with w := (w.setWidth 18 ++ g.w.extractLsb' 0 18 : BitVec 36), tagH := false }
  else { g with w := (g.w.extractLsb' 18 18 ++ w.setWidth 18 : BitVec 36), tagL := false }

/-- ENG_POISON_TAGS: bit 2i is the tag of .L of register `base + i`, bit 2i + 1 of .H. -/
def Engine.tags (e : Engine) (base : Nat) : Nat → Nat
  | 0 => 0
  | k + 1 => e.tags base k + b2n (e.gAt (base + k)).tagL * 4 ^ k + 2 * b2n (e.gAt (base + k)).tagH * 4 ^ k

/-- The 32-bit word at an offset of the register window; none at a reserved offset. -/
def Engine.winRead (e : Engine) (o : Nat) : Option Word :=
  if o % 4 ≠ 0 then none
  else if o < 0x100 then some ((e.gAt (o / 8)).word (o % 8 == 4))
  else if o < 0x120 then
    let a := (e.accAt ((o - 0x100) / 8)).signExtend 64
    some (if o % 8 = 4 then a.extractLsb' 32 32 else a.extractLsb' 0 32)
  else if o < 0x200 then none
  else if o < 0x220 then some ((e.pAt ((o - 0x200) / 4)).setWidth 32)
  else if o < 0x240 then some ((e.nAt ((o - 0x220) / 4)).signExtend 32)
  else if o < 0x260 then some ((e.lAt ((o - 0x240) / 4)).setWidth 32)
  else if o = 0x260 then some e.st
  else if o = 0x264 then some (e.pc.setWidth 32)
  else if o = 0x268 then some e.ist
  else if o = 0x26C then some (e.ipc.setWidth 32)
  else if o < 0x280 then some ((e.lcAt ((o - 0x270) / 4)).setWidth 32)
  else if o < 0x290 then some ((e.lsAt ((o - 0x280) / 4)).setWidth 32)
  else if o < 0x2A0 then some ((e.leAt ((o - 0x290) / 4)).setWidth 32)
  else if o < 0x2E0 then some ((e.stackAt ((o - 0x2A0) / 4)).setWidth 32)
  else if o = 0x2E0 then some (BitVec.ofNat 32 e.depth)
  else if o = 0x2F0 then some (BitVec.ofNat 32 (e.tags 0 16))
  else if o = 0x2F4 then some (BitVec.ofNat 32 (e.tags 16 16))
  else none

/-- The bits of ST that are not shown as zero (Table 4.2). -/
def stMask : Word := 0xC0FF0F1F#32

/-- A write of the word at an offset of the register window; none at a reserved offset. -/
def Engine.winWrite (e : Engine) (o : Nat) (w : Word) : Option Engine :=
  if o % 4 ≠ 0 then none
  else if o < 0x100 then some (e.setG (o / 8) ((e.gAt (o / 8)).setHalf (o % 8 == 4) w))
  else if o < 0x120 then
    let k := (o - 0x100) / 8
    let a := e.accAt k
    some (e.setAcc k (if o % 8 = 4 then (w.setWidth 16 ++ a.extractLsb' 0 32 : BitVec 48)
      else (a.extractLsb' 32 16 ++ w : BitVec 48)))
  else if o < 0x200 then none
  else if o < 0x220 then some (e.setP ((o - 0x200) / 4) (w.setWidth 14))
  else if o < 0x240 then some (e.setN ((o - 0x220) / 4) (w.setWidth 15))
  else if o < 0x260 then some (e.setL ((o - 0x240) / 4) (w.setWidth 15))
  else if o = 0x260 then some { e with st := w &&& stMask }
  else if o = 0x264 then some { e with pc := w.setWidth 13, past := false }
  else if o = 0x268 then some { e with ist := w &&& stMask }
  else if o = 0x26C then some { e with ipc := w.setWidth 13 }
  else if o < 0x280 then some (e.setLc ((o - 0x270) / 4) (w.setWidth 16))
  else if o < 0x290 then some (e.setLs ((o - 0x280) / 4) (w.setWidth 13))
  else if o < 0x2A0 then some (e.setLe ((o - 0x290) / 4) (w.setWidth 13))
  else if o < 0x2E0 then some (e.setStack ((o - 0x2A0) / 4) (w.setWidth 13))
  else if o = 0x2E0 then some { e with depth := min 16 w.toNat }
  else if o = 0x2F0 ∨ o = 0x2F4 then some e
  else none

/-! ## Window accesses -/

/-- The bytes of a word of 4 or 8 bytes. -/
def wordBytes (eight : Bool) (x : DWord) : List Byte := toBytes (if eight then 8 else 4) x.toNat

/-- A read of the data memory (R20, R134): the packet's poison is that of the halves read. -/
def State.winDataRead (s : State) (n o : Nat) (eight : Bool) (hi lo : Ecc) : State :=
  let r := s.readData n (o / 8) (if eight || o % 8 == 4 then hi else .clean)
    (if eight || o % 8 == 0 then lo else .clean)
  if eight then r.2.reply (wordBytes true (toLayout r.1.w)) (r.1.tagH || r.1.tagL)
  else r.2.reply (toBytes 4 (r.1.word (o % 8 == 4)).toNat) (if o % 8 = 4 then r.1.tagH else r.1.tagL)

/-- Whether an engine's state lets its instruction memory and registers be written (R146,
R151, R156). -/
def loadable (st : Nat) : Bool :=
  st == EngState.stopped || st == EngState.faulted || st == EngState.halted

/-- What a write of instruction memory by `m` does to the loaded state (R152). -/
def State.imemLoads (s : State) (m : Master) (n : Nat) : State :=
  if m.external || s.engState n == EngState.halted then s
  else
    let s := s.unloadEngine n
    s.setEngine n { s.engine n with loaded := true }

/-- A write of 4 or 8 bytes of instruction memory. -/
def State.winImemWrite (s : State) (m : Master) (n o : Nat) (eight : Bool) (x : DWord) : State :=
  if !loadable (s.engState n) then s.error
  else
    let s := s.imemLoads m n
    let w := s.instrWord n (o / 8)
    let w' : DWord := if eight then x
      else if o % 8 = 4 then (x.extractLsb' 0 32 ++ w.extractLsb' 0 32 : BitVec 64)
      else (w.extractLsb' 32 32 ++ x.extractLsb' 0 32 : BitVec 64)
    (s.setInstr n (o / 8) w').ack

def State.winImemRead (s : State) (n o : Nat) (eight : Bool) : State :=
  let w := s.instrWord n (o / 8)
  if eight then s.reply (wordBytes true w)
  else s.reply (toBytes 4 (if o % 8 = 4 then w.toNat / 2 ^ 32 else w.toNat))

def State.winRegRead (s : State) (m : Master) (n o : Nat) (eight : Bool) : State :=
  match (s.engine n).winRead o, if eight then (s.engine n).winRead (o + 4) else some 0 with
  | some a, some b =>
    s.reply (if eight then toBytes 4 a.toNat ++ toBytes 4 b.toNat else toBytes 4 a.toNat)
  | _, _ => s.decodeError (engUnit n) m

def State.winRegWrite (s : State) (m : Master) (n o : Nat) (eight : Bool) (x : DWord) : State :=
  let e1 := (s.engine n).winWrite o (x.setWidth 32)
  let e2 := e1.bind fun e => if eight then e.winWrite (o + 4) (x.extractLsb' 32 32) else some e
  match e2 with
  | none => s.decodeError (engUnit n) m
  | some e => if loadable (s.engState n) then (s.setEngine n e).ack else s.error

/-- An access at offset `o` of engine `n`'s window. While a LOCK bracket is open, accesses of
data memory and registers wait (R149). -/
def windowAccess (m : Master) (n o : Nat) (eight : Bool) (write : Option DWord) (poison : Bool)
    (hi lo : Ecc) (s : State) : State :=
  if o % (if eight then 8 else 4) ≠ 0 then s.decodeError (engUnit n) m
  else if o < 0x20000 then
    if (s.engine (s.gov n)).lock ≠ 0 then s
    else match write with
      | some x => (s.windowData n o eight x poison).ack
      | none => s.winDataRead n o eight hi lo
  else if o < 0x28000 then
    match write with
    | some x => s.winImemWrite m n (o - 0x20000) eight x
    | none => s.winImemRead n (o - 0x20000) eight
  else if o < 0x30000 then
    if s.isWide n && n % 2 == 0 then
      match write with
      | some x => s.winImemWrite m (n + 1) (o - 0x28000) eight x
      | none => s.winImemRead (n + 1) (o - 0x28000) eight
    else s.decodeError (engUnit n) m
  else if (s.engine (s.gov n)).lock ≠ 0 then s
  else match write with
    | some x => s.winRegWrite m n (o - 0x30000) eight x
    | none => s.winRegRead m n (o - 0x30000) eight

/-! ## Moving an engine (R153 to R155) -/

def noSpare (_ : Nat) : Spare := {}

def State.spare (s : State) (c : Nat) : Spare := Table.get noSpare s.spares c

def State.setSpare (s : State) (c : Nat) (x : Spare) : State :=
  { s with spares := Table.set noSpare s.spares c x }

/-- Whether an open transaction has staged the engine's ENG_RUN (R155, R310). -/
def State.runStaged (s : State) (n : Nat) : Bool :=
  s.txu.stores.any fun e => e.2.changes.any fun c => match c.change with
    | .reg off _ => off.toNat == R.ENG_RUN n
    | _ => false

/-- The substitution is abandoned and the spare marked unusable (R155); a husk restart leaves it
usable (R466). -/
def State.abandonMove (s : State) (c n : Nat) (failed : Bool := true) : State :=
  let s := s.setSpare c { bad := failed }
  (s.fault .husk .repair (.unit (engUnit n)) Code.repairAbandoned n).closeSub (.engine (Fin.ofNat 1024 n))

/-- The memories are copied: the husk stages the move, unless the engine's ENG_RUN is staged
or the engine is frozen under HALT (R155). -/
def moveCopyDone (n : Nat) (spareOk : Bool) (s : State) : State :=
  let c := n / 8
  let x := s.spare c
  if x.sub.map (·.val) ≠ some n ∨ x.staged = true then s
  else if !spareOk then s.abandonMove c n
  else if s.runStaged n || s.engState n == EngState.halted then s
  else
    let r := s.huskStage [(engUnit n, .engineMove (Fin.ofNat 128 c))]
    if r.1 = 0 then r.2 else r.2.setSpare c { x with staged := true }

/-- At the boundary after the apply the engine goes MOVING (R153). -/
def moveStop (n : Nat) (s : State) : State :=
  let x := s.spare (n / 8)
  let g := s.gov n
  let st := s.engState g
  if x.sub.map (·.val) = some n ∧ x.applied = true ∧ (s.engine g).lock = 0 ∧ st ≠ EngState.moving then
    (s.setEngine g { s.engine g with under := st }).enter g EngState.moving
  else s

/-- The context has been copied: the mapping changes, the engine resumes as it was, and the
substitution closes (R153). A halt requested while MOVING is taken in the new slot. -/
def contextCopied (n : Nat) (s : State) : State :=
  let g := s.gov n
  let x := s.spare (n / 8)
  if x.sub.map (·.val) ≠ some n ∨ s.engState g ≠ EngState.moving then s
  else
    let s := (s.setBit (F.ENG_MAP_moved n) true).setFld (F.ENG_MAP_slot n) 8
    let s := s.setSpare (n / 8) {}
    let s := s.enter g (s.engine g).under
    let s := if (s.engine g).haltReq then s.haltNow g else s
    s.closeSub (.engine (Fin.ofNat 1024 n))

/-! ## Meanings -/

/-- R20, R133, R146, R151, R152, R156. -/
def execEngineWindowAccess (m : Master) (e : Fin 1024) (o : BitVec 18) (eight : Bool)
    (write : Option DWord) (poison : Bool) (hi lo : Ecc) (s : State) : Out :=
  .next (windowAccess m e.val o.toNat eight write poison hi lo s)

/-- R153, R155, R511. -/
def execEngineMoveCopyDone (e : Fin 1024) (spareOk : Bool) (s : State) : Out :=
  .next (moveCopyDone e.val spareOk s)

/-- R153, R154. -/
def execEngineMoveStop (e : Fin 1024) (s : State) : Out := .next (moveStop e.val s)

/-- R153. -/
def execContextCopyDone (e : Fin 1024) (s : State) : Out := .next (contextCopied e.val s)

end Sys2Proof.Machine
end

