-- ==== Sys2Proof/Machine/KotinBase.lean ====
section
/-! DEFINITION. How an engine issues an instruction (R146, R149, R157 to R164, R180 to R183,
R485): registers and data words as an instruction names them, poison bites, address modes,
the checks before an instruction, and what its completion does to PC, loops and brackets. -/

namespace Sys2Proof.Machine

/-! ## Results -/

/-- How an instruction that completes hands on control: to the next instruction or round a
loop; to `t`, ending loop levels left if `ends` (R183); to STOPPED; or it does not complete
yet, waiting or stalled. -/
inductive Flow where
  | seq
  | jump (t : Nat) (ends : Bool)
  | stop
  | wait
  | stall
  deriving DecidableEq, Repr

/-- A data word an instruction reads: the engine whose memory holds it, the address, and what
the codes of its halves say. -/
structure DataRead where
  eng : Nat
  addr : Nat
  hi : Ecc := .clean
  lo : Ecc := .clean
  deriving DecidableEq, Repr

/-- What an instruction without an exception does: the state it leaves, and the data words it
wrote. -/
structure Done where
  state : State
  flow : Flow := .seq
  writes : List (Nat × Nat) := []

/-- An instruction's result: done, or an exception cause of Table 4.7. -/
abbrev Issued := Except Nat Done

def need (cause : Nat) (b : Bool) : Except Nat Unit := if b then .ok () else .error cause

/-- A field that must hold a legal value (R157, R158). -/
def legal (b : Bool) : Except Nat Unit := need Exc.illegal b

/-! ## Registers (R136, R158, R159, Table 4.3) -/

/-- The engine of a fused pair that holds G register `i`, and its index there. -/
def gEng (n i : Nat) : Nat := if i < 32 then n else n + 1

def State.getG (s : State) (n i : Nat) : GReg := (s.engine (gEng n i)).gAt (i % 32)

def State.putG (s : State) (n i : Nat) (v : GReg) : State :=
  s.setEngine (gEng n i) ((s.engine (gEng n i)).setG (i % 32) v)

/-- Write a 36-bit word view; both tags are cleared unless `tag`. -/
def State.putW (s : State) (n i : Nat) (w : W36) (tag : Bool := false) : State :=
  s.putG n i { w := w, tagH := tag, tagL := tag }

/-- Write a 32-bit result: bits 35:32 are zero (R159). -/
def State.put32 (s : State) (n i v : Nat) : State := s.putW n i (BitVec.ofNat 36 (v % 2 ^ 32))

def State.gLimit (s : State) (n : Nat) : Nat := if s.isWide n then 64 else 32
def State.accLimit (s : State) (n : Nat) : Nat := if s.isWide n then 8 else 4
def State.ptrLimit (s : State) (n : Nat) : Nat := if s.isWide n then 16 else 8

/-- A G index, or the first of a group of `k` registers, in range (R158). -/
def State.gOk (s : State) (n i : Nat) (k : Nat := 1) : Except Nat Unit :=
  legal (decide (i + k ≤ s.gLimit n))

/-- An even G index of a pair in range. -/
def State.pairOk (s : State) (n i : Nat) : Except Nat Unit :=
  legal (i % 2 == 0 && decide (i + 2 ≤ s.gLimit n))

/-- An accumulator index in a 6-bit field: bits 5:3 are "—" (R157, R158); the first of a pair
is even. -/
def State.accOk (s : State) (n k : Nat) (pair : Bool := false) : Except Nat Unit :=
  legal (decide (k < s.accLimit n) && (!pair || k % 2 == 0))

/-- An address or target: bit 12 must be 0 in narrow mode (R158). -/
def State.targetOk (s : State) (n t : Nat) : Except Nat Unit :=
  legal (s.isWide n || decide (t < 4096))

def GReg.clean (g : GReg) : Bool := !g.tagH && !g.tagL

/-- The high and low halves, as signed numbers. -/
def GReg.h (g : GReg) : Int := (g.w.extractLsb' 18 18).toInt
def GReg.l (g : GReg) : Int := (g.w.extractLsb' 0 18).toInt

/-- A 36-bit word from two halves, each modulo 2¹⁸. -/
def ofHalves (h l : Int) : W36 := BitVec.ofInt 18 h ++ BitVec.ofInt 18 l

/-- The value of a register used in word view: a tag on either half bites (R161). -/
def useWord (g : GReg) : Except Nat Nat := do
  need Exc.poison g.clean
  return g.w.toNat

/-- Bits 31:0 of a register used in word view (R159). -/
def State.use32 (s : State) (n i : Nat) : Except Nat Nat := do
  return (← useWord (s.getG n i)) % 2 ^ 32

def State.getAcc (s : State) (n k : Nat) : Int :=
  ((s.engine (if k < 4 then n else n + 1)).accAt (k % 4)).toInt

def State.putAcc (s : State) (n k : Nat) (v : Int) : State :=
  let x := if k < 4 then n else n + 1
  s.setEngine x ((s.engine x).setAcc (k % 4) (BitVec.ofInt 48 v))

/-! ## Pointers and address modes (R162 to R164) -/

/-- The engine of a fused pair that holds pointer `p`, and whose data memory it addresses
(R138). -/
def ptrEng (n p : Nat) : Nat := if p < 8 then n else n + 1

/-- The smallest power of two not below `len`. -/
def pow2ceil (len : Nat) : Nat :=
  2 ^ (((List.range 16).find? fun k => decide (len ≤ 2 ^ k)).getD 16)

/-- step(p, n, len) of R163. -/
def ptrStep (p : Nat) (n : Int) (len : Nat) : Nat :=
  if len = 0 then ((p + n) % 16384).toNat
  else
    let base := p - p % pow2ceil len
    ((base + (p - base + n) % len) % 16384).toNat

/-- The 14 bits of a number in reverse order. -/
def rev14 (x : Nat) : Nat :=
  ((List.range 14).map fun i => if x.testBit i then 2 ^ (13 - i) else 0).sum

/-- bitrev_add(p, n) of R163. -/
def bitrevAdd (p n : Nat) : Nat := rev14 ((rev14 p + rev14 (n % 16384)) % 16384)

def State.ptr (s : State) (n p : Nat) : Nat := ((s.engine (ptrEng n p)).pAt (p % 8)).toNat

def State.setPtr (s : State) (n p v : Nat) : State :=
  s.setEngine (ptrEng n p) ((s.engine (ptrEng n p)).setP (p % 8) (BitVec.ofNat 14 v))

/-- An address advanced `k` words by step(·, 1, Lp). -/
def State.ptrAhead (s : State) (n p a k : Nat) : Nat :=
  ptrStep a k ((s.engine (ptrEng n p)).lAt (p % 8)).toNat

/-- Pointer `p` after an access in a mode of Table 5.2. -/
def State.postModify (s : State) (n p mode : Nat) : State :=
  let e := s.engine (ptrEng n p)
  let v := s.ptr n p
  match mode with
  | 0 => s
  | 1 => s.setPtr n p (ptrStep v (e.nAt (p % 8)).toInt (e.lAt (p % 8)).toNat)
  | 2 => s.setPtr n p (ptrStep v 1 (e.lAt (p % 8)).toNat)
  | _ => s.setPtr n p (bitrevAdd v (e.nAt (p % 8)).toNat)

/-- Addresses that follow `a` under step(·, 1, Lp), `k` of them from `a` on. -/
def State.ptrRun (s : State) (n p : Nat) (a : Nat) : Nat → List Nat
  | 0 => []
  | k + 1 => a :: s.ptrRun n p (s.ptrAhead n p a 1) k

/-! An operand spec: bits 5:2 name a pointer, bits 1:0 a mode. -/
def specPtr (x : BitVec 6) : Nat := x.toNat / 4
def specMode (x : BitVec 6) : Nat := x.toNat % 4

def State.specOk (s : State) (n : Nat) (x : BitVec 6) : Except Nat Unit :=
  legal (decide (specPtr x < s.ptrLimit n))

/-- The read an operand spec names. -/
def State.specRead (s : State) (n : Nat) (x : BitVec 6) (hi lo : Ecc) : DataRead :=
  { eng := ptrEng n (specPtr x), addr := s.ptr n (specPtr x), hi := hi, lo := lo }

def State.specStep (s : State) (n : Nat) (x : BitVec 6) : State :=
  s.postModify n (specPtr x) (specMode x)

/-- The data word a read delivers: an uncorrectable half comes with its tag set (R134). -/
def State.dataAt (s : State) (r : DataRead) : GReg :=
  let w := s.dword r.eng r.addr
  { w with tagH := w.tagH || r.hi == .uncorrectable, tagL := w.tagL || r.lo == .uncorrectable }

/-- The records of the reads of an instruction (R134). -/
def State.readRecords (s : State) : List DataRead → State
  | [] => s
  | r :: l =>
    ((s.engEcc r.eng (r.eng * 32768 + r.addr) r.hi).engEcc r.eng (r.eng * 32768 + r.addr)
      r.lo).readRecords l

/-! ## Loops (R181 to R183) -/

/-- The innermost active level below level `k`. -/
def Engine.innerBelow (e : Engine) : Nat → Option Nat
  | 0 => none
  | j + 1 => if e.lcAt j ≠ 0 then some j else e.innerBelow j

def Engine.inner (e : Engine) : Option Nat := e.innerBelow 4

/-- The instruction at `pc` completes without a transfer (R182): the address to continue at
if a level goes round, and the loop registers. -/
def Engine.loopEnd (e : Engine) (pc : BitVec 13) : Nat → Option (BitVec 13) × Engine
  | 0 => (none, e)
  | j + 1 =>
    if e.lcAt j = 0 then e.loopEnd pc j
    else if e.leAt j ≠ pc then (none, e)
    else
      let c := e.lcAt j - 1
      let e := e.setLc j c
      if c ≠ 0 then (some (e.lsAt j), e) else e.loopEnd pc j

/-- A taken branch to `t` ends the levels it leaves, from the innermost out (R183). -/
def Engine.leaveLoops (e : Engine) (t : Nat) : Nat → Engine
  | 0 => e
  | j + 1 =>
    if e.lcAt j = 0 then e.leaveLoops t j
    else if (e.lsAt j).toNat ≤ t ∧ t ≤ (e.leAt j).toNat then e
    else (e.setLc j 0).leaveLoops t j

/-- Operations that raise ILLEGAL as the last instruction of a loop body (R182). -/
def KInstr.notLast : KInstr → Bool
  | .c _ _ => true
  | .r .rti _ | .r .kend _ | .r .lock _ => true
  | _ => false

/-- Operations not permitted inside a LOCK bracket (Table 5.5); ENQ and QMOV are permitted
posted. -/
def KInstr.breaksLock : KInstr → Bool
  | .r .kend _ | .r .lock _ | .r .waitt _ | .r .waite _ => true
  | .r .txopen _ | .r .txcmt _ | .r .txabt _ => true
  | .t .ldf _ | .t .aadd _ | .t .aswp _ | .t .deq _ => true
  | .t .enq f | .t .qmov f => !f.mod.getLsbD 0
  | _ => false

/-! ## Issue -/

/-- The breakpoint slot that hits before the instruction at PC (R485). -/
def State.codeBreak (s : State) (n : Nat) : Option Nat :=
  (List.range 4).find? fun k =>
    let b := Table.get (fun _ => ({} : Break)) (s.engine n).breaks k
    b.enabled && b.lo.toNat == (s.engine n).pc.toNat

/-- The watchpoint of engine `x` that an access of address `a` hits (R485). -/
def State.dataBreak (s : State) (x a : Nat) (write : Bool) : Option Nat :=
  [4, 5].find? fun k =>
    let b := Table.get (fun _ => ({} : Break)) (s.engine x).breaks k
    b.enabled && (if write then b.kind.getLsbD 1 else b.kind.getLsbD 0) &&
      decide (b.lo.toNat ≤ a) && decide (a ≤ b.hi.toNat)

/-- The first watchpoint hit by accesses of data words: the engine and the slot. -/
def State.watchHit (s : State) (write : Bool) : List (Nat × Nat) → Option (Nat × Nat)
  | [] => none
  | (x, a) :: l =>
    match s.dataBreak x a write with
    | some k => some (x, k)
    | none => s.watchHit write l

/-- A hit inside a bracket is kept until the bracket closes. -/
def State.noteHit (s : State) (n x k : Nat) : State :=
  let e := s.engine n
  if e.hitReq.isSome then s else s.setEngine n { e with hitReq := some (k + 8 * (x - n)) }

/-- Where an engine continues after an instruction at `pc`. -/
def Engine.advance (e : Engine) (pc : BitVec 13) : Flow → Engine
  | .jump t ends =>
    let e := if ends then e.leaveLoops t 4 else e
    { e with pc := BitVec.ofNat 13 t, past := decide (8192 ≤ t) }
  | _ =>
    let r := e.loopEnd pc 4
    match r.1 with
    | some t => { r.2 with pc := t, past := false }
    | none => { r.2 with pc := pc + 1, past := pc == 8191#13 }

/-- One instruction of a bracket has run; a transfer out of it closes it (R149). -/
def Engine.lockStep (e : Engine) (was : Nat) (flow : Flow) : Engine :=
  if was = 0 then e
  else match flow with
    | .jump t _ =>
      if e.lockAt.toNat < t ∧ t ≤ e.lockAt.toNat + e.lockN then { e with lock := was - 1 }
      else { e with lock := 0 }
    | _ => { e with lock := was - 1 }

/-- Completion of the instruction at PC of engine `n` (R149, R181 to R183, R485); `was` is
the count of the open bracket before it. -/
def State.completeAt (s : State) (n was : Nat) (flow : Flow) (reads writes : List (Nat × Nat)) : State :=
  match flow with
  | .stop => (s.stopNow n).stepCount n
  | .wait | .stall => s
  | _ =>
    let e := s.engine n
    let s := s.setEngine n ((e.advance e.pc flow).lockStep was flow)
    let hit := match s.watchHit false reads with
      | some x => some x
      | none => s.watchHit true writes
    let open_ := decide ((s.engine n).lock ≠ 0)
    let s := match hit with
      | some (x, k) =>
        if open_ then s.noteHit n x k
        else if was = 0 then s.breakHit x k else (s.noteHit n x k).bracketClosed n
      | none => if was ≠ 0 && !open_ then s.bracketClosed n else s
    s.stepCount n

/-- The checks before an instruction and its effect, or the exception it raises. -/
def State.issueChecks (s : State) (n : Nat) (k : KInstr) (fetch : Ecc) : Except Nat Unit := do
  let e := s.engine n
  legal (!e.past && (s.isWide n || decide (e.pc.toNat < 4096)))
  need Exc.imemUe (fetch != .uncorrectable)
  need Exc.lockBreak (!(e.lock != 0 && k.breaksLock))
  legal (!(k.notLast && match e.inner with
    | some j => e.leAt j == e.pc
    | none => false))

/-- The engine runs, no load of it is outstanding, and no late error of a store is due at this
boundary (R185). -/
def State.mayIssue (s : State) (n : Nat) : Bool :=
  s.engState n == EngState.running && !s.oddOfPair n && (s.engine n).far.isNone &&
    (s.engine n).lateErrors.isEmpty

/-- The fetch of the instruction at PC (R134, R138). -/
def State.fetchRecords (s : State) (n : Nat) (fetch : Ecc) : State :=
  let pc := (s.engine n).pc.toNat
  let x := if pc < 4096 then n else n + 1
  s.engEcc x (x * 32768 + 16384 + pc % 4096) fetch

/-- The instruction runs (R146): its effect, or the exception it raises. A stalled instruction
leaves the state as it was. -/
def State.runInstr (s orig : State) (n : Nat) (reads : List DataRead) (sem : State → Issued) :
    State :=
  let was := (s.engine n).lock
  match sem s with
  | .error c => (if c = Exc.illegal then s else s.readRecords reads).raise n c
  | .ok d =>
    if d.flow = .stall then orig
    else (d.state.readRecords reads).completeAt n was d.flow
      (reads.map fun r => (r.eng, r.addr)) d.writes

/-- Engine `n` issues instruction `k` (R157, R168, R485). A breakpoint at PC hits first; one
inside a bracket is kept until the bracket closes. -/
def State.issue (s : State) (n : Nat) (k : KInstr) (h : Hw) (reads : List DataRead)
    (sem : State → Issued) : State :=
  if !s.mayIssue n then s
  else
    let e := s.engine n
    let hit := if e.passBreak then none else s.codeBreak n
    if hit.isSome && e.lock == 0 then s.breakHit n (hit.getD 0)
    else
      let t := match hit with
        | some b => s.noteHit n n b
        | none => s
      let t := if e.passBreak then t.setEngine n { t.engine n with passBreak := false } else t
      match t.issueChecks n k h.fetch with
      | .error c => (if c = Exc.imemUe then t.fetchRecords n h.fetch else t).raise n c
      | .ok _ => (t.fetchRecords n h.fetch).runInstr s n reads sem

end Sys2Proof.Machine
end

