-- ==== Sys2Proof/Machine/KotinAlu.lean ====
section
/-! DEFINITION. Kotin registers, ALU and status (R159, R167, R174 to R179): status moves,
moves between registers, the ALU, loads and stores of data memory, and the moves between
accumulators and registers. -/

namespace Sys2Proof.Machine

/-! ## The status register (Table 4.2) -/

def stRnd (w : Word) : Nat := bitsOf w 8 2
def stScale (w : Word) : Nat := bitsOf w 10 2

def State.st (s : State) (n : Nat) : Word := (s.engine n).st
def State.setSt (s : State) (n : Nat) (w : Word) : State := s.setEngine n { s.engine n with st := w }

/-- The flags n, z and c (Table 4.2). -/
structure Flags where
  n : Bool
  z : Bool
  c : Bool := false
  deriving DecidableEq, Repr

def State.setFlags (s : State) (n : Nat) (f : Flags) : State :=
  s.setSt n (putBits (s.st n) 0 3 (b2n f.c + 2 * b2n f.z + 4 * b2n f.n))

/-- A sticky bit of ST: 4 sat, 3 aovf. -/
def State.stick (s : State) (n bit : Nat) (b : Bool) : State :=
  if b then s.setSt n (s.st n ||| BitVec.ofNat 32 (2 ^ bit)) else s

/-- A write of ST: reserved fields are ignored, and a reserved rnd raises ILLEGAL (R167). -/
def State.writeSt (s : State) (n : Nat) (w : Word) : Issued := do
  let v := w &&& stMask
  legal (decide (stRnd v < 2))
  return { state := s.setSt n v }

/-! ## System and status instructions -/

def semNop (_n : Nat) (_f : KR) (s : State) : Issued := .ok { state := s }

/-- END (R168): the engine stops at this boundary. -/
def semEnd (_n : Nat) (_f : KR) (s : State) : Issued := .ok { state := s, flow := .stop }

/-- LOCK (R149). -/
def semLock (n : Nat) (f : KR) (s : State) : Issued := do
  let k := f.imm.toNat
  legal (decide (1 ≤ k) && decide (k ≤ 8))
  let e := s.engine n
  return { state := s.setEngine n { e with lock := k, lockAt := e.pc, lockN := k } }

/-- KICK (R150). -/
def semKick (n : Nat) (_f : KR) (s : State) : Issued := .ok { state := s.wdReload n }

/-- RTI (R144). -/
def semRti (n : Nat) (_f : KR) (s : State) : Issued :=
  let e := s.engine n
  .ok { state := s.setSt n e.ist, flow := .jump e.ipc.toNat false }

/-- STM (R179): bits 15:0 of ST under the mask. -/
def semStm (n : Nat) (f : KR) (s : State) : Issued :=
  let m := f.imm >>> 16
  let v := f.imm &&& 0xFFFF#32
  s.writeSt n ((s.st n &&& ~~~m) ||| (v &&& m))

/-- RDST (R168). -/
def semRdst (n : Nat) (f : KR) (s : State) : Issued := do
  s.gOk n f.d.toNat
  return { state := s.put32 n f.d.toNat (s.st n).toNat }

/-- WRST (R179). -/
def semWrst (n : Nat) (f : KR) (s : State) : Issued := do
  s.gOk n f.a.toNat
  s.writeSt n (BitVec.ofNat 32 (← s.use32 n f.a.toNat))

/-! ## Moves (R159, R177, R178) -/

/-- LDI (R159). -/
def semLdi (n : Nat) (f : KI) (s : State) : Issued := do
  s.gOk n f.d.toNat
  return { state := s.putW n f.d.toNat f.imm }

/-- A register with its high half, low half or both replaced, with tags. -/
def GReg.withHalves (old new : GReg) (hi lo : Bool) : GReg :=
  { w := ofHalves (if hi then new.h else old.h) (if lo then new.l else old.l)
    tagH := if hi then new.tagH else old.tagH
    tagL := if lo then new.tagL else old.tagL }

/-- MOV (R177). -/
def semMov (n : Nat) (f : KR) (s : State) : Issued := do
  s.gOk n f.d.toNat
  s.gOk n f.a.toNat
  let lane := f.mod.toNat % 4
  let v := (s.getG n f.d.toNat).withHalves (s.getG n f.a.toNat) (lane != 2) (lane != 1)
  return { state := s.putG n f.d.toNat v }

/-- An address or loop register by its selector (R178). -/
inductive AReg where
  | p (i : Nat) | n (i : Nat) | l (i : Nat) | lc (j : Nat) | ls (j : Nat) | le (j : Nat)
  deriving DecidableEq, Repr

/-- The register a selector names; a reserved kind or an index out of range is ILLEGAL. -/
def State.areg (s : State) (n : Nat) (x : BitVec 6) : Except Nat AReg := do
  let i := x.toNat % 16
  let j := x.toNat % 4
  match x.toNat / 16 with
  | 0 => legal (decide (i < s.ptrLimit n)); return .p i
  | 1 => legal (decide (i < s.ptrLimit n)); return .n i
  | 2 => legal (decide (i < s.ptrLimit n)); return .l i
  | _ => match i / 4 with
    | 0 => return .lc j
    | 1 => return .ls j
    | 2 => return .le j
    | _ => .error Exc.illegal

/-- The 32-bit value of an address or loop register. -/
def State.aregValue (s : State) (n : Nat) : AReg → Word
  | .p i => BitVec.ofNat 32 (s.ptr n i)
  | .n i => ((s.engine (ptrEng n i)).nAt (i % 8)).signExtend 32
  | .l i => ((s.engine (ptrEng n i)).lAt (i % 8)).setWidth 32
  | .lc j => ((s.engine n).lcAt j).setWidth 32
  | .ls j => ((s.engine n).lsAt j).setWidth 32
  | .le j => ((s.engine n).leAt j).setWidth 32

def State.aregWrite (s : State) (n : Nat) (w : Word) : AReg → State
  | .p i => s.setPtr n i w.toNat
  | .n i => s.setEngine (ptrEng n i) ((s.engine (ptrEng n i)).setN (i % 8) (w.setWidth 15))
  | .l i => s.setEngine (ptrEng n i) ((s.engine (ptrEng n i)).setL (i % 8) (w.setWidth 15))
  | .lc j => s.setEngine n ((s.engine n).setLc j (w.setWidth 16))
  | .ls j => s.setEngine n ((s.engine n).setLs j (w.setWidth 13))
  | .le j => s.setEngine n ((s.engine n).setLe j (w.setWidth 13))

/-- The values WRA may write (R178). -/
def State.aregOk (s : State) (n : Nat) (w : Word) : AReg → Bool
  | .l _ => decide (w.toNat % 2 ^ 15 ≤ 16384)
  | .ls _ | .le _ => s.isWide n || decide (w.toNat % 2 ^ 13 < 4096)
  | _ => true

/-- RDA (R178). -/
def semRda (n : Nat) (f : KR) (s : State) : Issued := do
  s.gOk n f.d.toNat
  let r ← s.areg n f.a
  return { state := s.put32 n f.d.toNat (s.aregValue n r).toNat }

/-- WRA (R178). -/
def semWra (n : Nat) (f : KR) (s : State) : Issued := do
  let r ← s.areg n f.d
  if f.mod.getLsbD 2 then
    legal (s.aregOk n f.imm r)
    return { state := s.aregWrite n f.imm r }
  else
    s.gOk n f.a.toNat
    let w := BitVec.ofNat 32 (← s.use32 n f.a.toNat)
    legal (s.aregOk n w r)
    return { state := s.aregWrite n w r }

/-- SWP (R177). -/
def semSwp (n : Nat) (f : KR) (s : State) : Issued := do
  s.gOk n f.d.toNat
  s.gOk n f.a.toNat
  let x := s.getG n f.a.toNat
  return { state := s.putG n f.d.toNat { w := ofHalves x.l x.h, tagH := x.tagL, tagL := x.tagH } }

/-- Clamp to a signed range of `w` bits; whether it was clamped. -/
def clampTo (w : Nat) (v : Int) : Int × Bool :=
  if v < -(2 ^ (w - 1) : Nat) then (-(2 ^ (w - 1) : Nat), true)
  else if (2 ^ (w - 1) : Nat) - 1 < v then ((2 ^ (w - 1) : Nat) - 1, true)
  else (v, false)

/-- CNJ (R177). -/
def semCnj (n : Nat) (f : KR) (s : State) : Issued := do
  s.gOk n f.d.toNat
  s.gOk n f.a.toNat
  let x := s.getG n f.a.toNat
  need Exc.poison (!x.tagL)
  let r := clampTo 18 (-x.l)
  return { state := (s.putG n f.d.toNat { w := ofHalves x.h r.1, tagH := x.tagH }).stick n 4 r.2 }

/-! ## The ALU (R175, R176) -/

inductive Alu where
  | add | sub | and | or | xor | shl | shr | shru | cmp | neg | abs | min | max
  deriving DecidableEq, Repr

def Alu.isShift : Alu → Bool
  | .shl | .shr | .shru => true
  | _ => false

def Alu.unary : Alu → Bool
  | .neg | .abs => true
  | _ => false

/-- The exact result of a lane of `w` bits on signed operands, and the carry (R175, R176);
`amt` is the shift amount. -/
def aluLane (op : Alu) (w : Nat) (x y : Int) (amt : Nat) : Int × Bool :=
  let ux := (x % (2 ^ w : Nat)).toNat
  let uy := (y % (2 ^ w : Nat)).toNat
  match op with
  | .add => (x + y, decide (2 ^ w ≤ ux + uy))
  | .sub | .cmp => (x - y, decide (uy ≤ ux))
  | .and => (sextNat w (ux &&& uy), false)
  | .or => (sextNat w (ux ||| uy), false)
  | .xor => (sextNat w (ux ^^^ uy), false)
  | .shl => (x * (2 ^ amt : Nat), false)
  | .shr => (x / (2 ^ amt : Nat), false)
  | .shru => (sextNat w (ux / 2 ^ amt), false)
  | .neg => (-x, false)
  | .abs => (x.natAbs, false)
  | .min => (min x y, false)
  | .max => (max x y, false)

/-- A lane's result as it is written: wrapped, or clamped under s. -/
def laneResult (w : Nat) (sat : Bool) (v : Int) : Int × Bool :=
  if sat then clampTo w v else (sextNat w (v % (2 ^ w : Nat)).toNat, false)

/-- The second operand of a half lane or the word lane. -/
def State.aluB (s : State) (n : Nat) (f : KR) (lane : Nat) : GReg :=
  if f.mod.getLsbD 2 then
    if lane = 3 then { w := f.imm.setWidth 36 } else { w := f.imm.extractLsb' 0 18 ++ f.imm.extractLsb' 0 18 }
  else s.getG n f.b.toNat

/-- Whether the halves of an operand that a lane uses are untagged (Table 4.8). -/
def GReg.laneClean (g : GReg) (lane : Nat) : Bool :=
  !(g.tagH && lane != 2) && !(g.tagL && lane != 1)

/-- Shift amount: imm bits 4:0, or bits 4:0 of Gb's word view. -/
def State.aluAmount (s : State) (n : Nat) (f : KR) : Nat :=
  if f.mod.getLsbD 2 then f.imm.toNat % 32 else (s.getG n f.b.toNat).w.toNat % 32

/-- The word lane (R175): 32 bits, wrapping. -/
def State.aluWord (s : State) (n : Nat) (f : KR) (op : Alu) : State :=
  let x := sextNat 32 (s.getG n f.a.toNat).w.toNat
  let y := sextNat 32 (s.aluB n f 3).w.toNat
  let r := aluLane op 32 x y (s.aluAmount n f)
  if op = .cmp then s.setFlags n { n := decide (r.1 < 0), z := r.1 == 0, c := r.2 }
  else
    let v := laneResult 32 false r.1
    (s.put32 n f.d.toNat (v.1 % (2 ^ 32 : Nat)).toNat).setFlags n
      { n := decide (v.1 < 0), z := v.1 == 0, c := r.2 }

/-- The half lanes (R175): .H, .L or both. -/
def State.aluHalves (s : State) (n : Nat) (f : KR) (op : Alu) (lane : Nat) : State :=
  let sat := f.mod.getLsbD 3
  let x := s.getG n f.a.toNat
  let y := s.aluB n f lane
  let amt := s.aluAmount n f
  let rh := aluLane op 18 x.h y.h amt
  let rl := aluLane op 18 x.l y.l amt
  if op = .cmp then
    let r := if lane = 2 then rl else rh
    s.setFlags n { n := decide (r.1 < 0), c := r.2
                   z := if lane = 0 then rh.1 == 0 && rl.1 == 0 else r.1 == 0 }
  else
    let vh := laneResult 18 sat rh.1
    let vl := laneResult 18 sat rl.1
    let v := if lane = 2 then vl.1 else vh.1
    let old := s.getG n f.d.toNat
    let s := s.putG n f.d.toNat (old.withHalves { w := ofHalves vh.1 vl.1 } (lane != 2) (lane != 1))
    let s := s.stick n 4 ((vh.2 && lane != 2) || (vl.2 && lane != 1))
    s.setFlags n { n := decide (v < 0), c := if lane = 2 then rl.2 else rh.2
                   z := if lane = 0 then vh.1 == 0 && vl.1 == 0 else v == 0 }

/-- An ALU instruction (R175, R176): the encoding, the poison of the operands used, and the
result. -/
def semAlu (op : Alu) (n : Nat) (f : KR) (s : State) : Issued := do
  let lane := f.mod.toNat % 4
  let imm := f.mod.getLsbD 2
  legal (decide (f.mod.toNat / 16 = 0) && !(f.mod.getLsbD 3 && lane == 3))
  s.gOk n f.a.toNat
  if op != .cmp then s.gOk n f.d.toNat
  if !imm && !op.unary then s.gOk n f.b.toNat
  need Exc.poison ((s.getG n f.a.toNat).laneClean lane)
  if !imm && !op.unary then
    need Exc.poison ((s.getG n f.b.toNat).laneClean (if op.isShift then 3 else lane))
  return { state := if lane = 3 then s.aluWord n f op else s.aluHalves n f op lane }

/-! ## Data memory (R134, R162) -/

def KT.spec (f : KT) : BitVec 6 := f.p ++ f.pm

/-- The data word LD reads. -/
def State.ldReads (s : State) (n : Nat) (f : KT) (h : Hw) : List DataRead :=
  [s.specRead n f.spec h.xh h.xl]

/-- LD (R134, R162): the tags come from memory. -/
def semLd (n : Nat) (f : KT) (h : Hw) (s : State) : Issued := do
  s.gOk n f.d.toNat
  s.specOk n f.spec
  let v := s.dataAt (s.specRead n f.spec h.xh h.xl)
  return { state := (s.specStep n f.spec).putG n f.d.toNat v }

/-- ST (R162): the poison comes from the tags. -/
def semSt (n : Nat) (f : KT) (s : State) : Issued := do
  s.gOk n f.d.toNat
  s.specOk n f.spec
  let r := s.specRead n f.spec .clean .clean
  return { state := (s.setDword r.eng r.addr (s.getG n f.d.toNat)).specStep n f.spec
           writes := [(r.eng, r.addr)] }

/-! ## Meanings -/

/-- R168. -/
def execNop (e : Fin 1024) (f : KR) (h : Hw) (s : State) : Out :=
  .next (s.issue e.val (.r .nop f) h [] (semNop e.val f))
/-- R168. -/
def execEnd (e : Fin 1024) (f : KR) (h : Hw) (s : State) : Out :=
  .next (s.issue e.val (.r .kend f) h [] (semEnd e.val f))
/-- R149. -/
def execLock (e : Fin 1024) (f : KR) (h : Hw) (s : State) : Out :=
  .next (s.issue e.val (.r .lock f) h [] (semLock e.val f))
/-- R150. -/
def execKick (e : Fin 1024) (f : KR) (h : Hw) (s : State) : Out :=
  .next (s.issue e.val (.r .kick f) h [] (semKick e.val f))
/-- R144. -/
def execRti (e : Fin 1024) (f : KR) (h : Hw) (s : State) : Out :=
  .next (s.issue e.val (.r .rti f) h [] (semRti e.val f))
/-- R167, R179. -/
def execStm (e : Fin 1024) (f : KR) (h : Hw) (s : State) : Out :=
  .next (s.issue e.val (.r .stm f) h [] (semStm e.val f))
/-- R168. -/
def execRdst (e : Fin 1024) (f : KR) (h : Hw) (s : State) : Out :=
  .next (s.issue e.val (.r .rdst f) h [] (semRdst e.val f))
/-- R167, R179. -/
def execWrst (e : Fin 1024) (f : KR) (h : Hw) (s : State) : Out :=
  .next (s.issue e.val (.r .wrst f) h [] (semWrst e.val f))
/-- R159. -/
def execLdi (e : Fin 1024) (f : KI) (h : Hw) (s : State) : Out :=
  .next (s.issue e.val (.i f) h [] (semLdi e.val f))
/-- R177. -/
def execMov (e : Fin 1024) (f : KR) (h : Hw) (s : State) : Out :=
  .next (s.issue e.val (.r .mov f) h [] (semMov e.val f))
/-- R178. -/
def execRda (e : Fin 1024) (f : KR) (h : Hw) (s : State) : Out :=
  .next (s.issue e.val (.r .rda f) h [] (semRda e.val f))
/-- R178. -/
def execWra (e : Fin 1024) (f : KR) (h : Hw) (s : State) : Out :=
  .next (s.issue e.val (.r .wra f) h [] (semWra e.val f))
/-- R177. -/
def execSwp (e : Fin 1024) (f : KR) (h : Hw) (s : State) : Out :=
  .next (s.issue e.val (.r .swp f) h [] (semSwp e.val f))
/-- R177. -/
def execCnj (e : Fin 1024) (f : KR) (h : Hw) (s : State) : Out :=
  .next (s.issue e.val (.r .cnj f) h [] (semCnj e.val f))
/-- R175. -/
def execAdd (e : Fin 1024) (f : KR) (h : Hw) (s : State) : Out :=
  .next (s.issue e.val (.r .add f) h [] (semAlu .add e.val f))
/-- R175. -/
def execSub (e : Fin 1024) (f : KR) (h : Hw) (s : State) : Out :=
  .next (s.issue e.val (.r .sub f) h [] (semAlu .sub e.val f))
/-- R175. -/
def execAnd (e : Fin 1024) (f : KR) (h : Hw) (s : State) : Out :=
  .next (s.issue e.val (.r .kand f) h [] (semAlu .and e.val f))
/-- R175. -/
def execOr (e : Fin 1024) (f : KR) (h : Hw) (s : State) : Out :=
  .next (s.issue e.val (.r .kor f) h [] (semAlu .or e.val f))
/-- R175. -/
def execXor (e : Fin 1024) (f : KR) (h : Hw) (s : State) : Out :=
  .next (s.issue e.val (.r .xor f) h [] (semAlu .xor e.val f))
/-- R175, R176. -/
def execShl (e : Fin 1024) (f : KR) (h : Hw) (s : State) : Out :=
  .next (s.issue e.val (.r .shl f) h [] (semAlu .shl e.val f))
/-- R175, R176. -/
def execShr (e : Fin 1024) (f : KR) (h : Hw) (s : State) : Out :=
  .next (s.issue e.val (.r .shr f) h [] (semAlu .shr e.val f))
/-- R175, R176. -/
def execShru (e : Fin 1024) (f : KR) (h : Hw) (s : State) : Out :=
  .next (s.issue e.val (.r .shru f) h [] (semAlu .shru e.val f))
/-- R175, R176. -/
def execCmp (e : Fin 1024) (f : KR) (h : Hw) (s : State) : Out :=
  .next (s.issue e.val (.r .cmp f) h [] (semAlu .cmp e.val f))
/-- R175, R176. -/
def execNeg (e : Fin 1024) (f : KR) (h : Hw) (s : State) : Out :=
  .next (s.issue e.val (.r .neg f) h [] (semAlu .neg e.val f))
/-- R175, R176. -/
def execAbs (e : Fin 1024) (f : KR) (h : Hw) (s : State) : Out :=
  .next (s.issue e.val (.r .kabs f) h [] (semAlu .abs e.val f))
/-- R175. -/
def execMin (e : Fin 1024) (f : KR) (h : Hw) (s : State) : Out :=
  .next (s.issue e.val (.r .kmin f) h [] (semAlu .min e.val f))
/-- R175. -/
def execMax (e : Fin 1024) (f : KR) (h : Hw) (s : State) : Out :=
  .next (s.issue e.val (.r .kmax f) h [] (semAlu .max e.val f))
/-- R134, R162. -/
def execLd (e : Fin 1024) (f : KT) (h : Hw) (s : State) : Out :=
  .next (s.issue e.val (.t .ld f) h (s.ldReads e.val f h) (semLd e.val f h))
/-- R162. -/
def execSt (e : Fin 1024) (f : KT) (h : Hw) (s : State) : Out :=
  .next (s.issue e.val (.t .kst f) h [] (semSt e.val f))

end Sys2Proof.Machine
end

