-- ==== Sys2Proof/Machine/KotinMac.lean ====
section
/-! DEFINITION. Kotin accumulators, multiply-accumulate, filter tap and butterfly (R165 to
R167, R169 to R174). -/

namespace Sys2Proof.Machine

/-! ## Accumulation (R165) -/

/-- One accumulator's change: its index and the exact amount added; `clear` takes the old
value as 0. -/
structure AccAdd where
  k : Nat
  add : Int
  clear : Bool
  deriving DecidableEq, Repr

/-- Whether an exact sum lies outside 48 bits. -/
def accOverflows (v : Int) : Bool := decide (v < -(2 ^ 47 : Nat)) || decide ((2 ^ 47 : Nat) - 1 < v)

/-- The exact sums stored modulo 2⁴⁸, with aovf (R165). -/
def State.accumulate (s : State) (n : Nat) : List AccAdd → State
  | [] => s
  | x :: l =>
    let v := (if x.clear then 0 else s.getAcc n x.k) + x.add
    ((s.putAcc n x.k v).stick n 3 (accOverflows v)).accumulate n l

/-- The parts of a complex product (R170). -/
def cmul (conj : Bool) (x y : GReg) : Int × Int :=
  if conj then (x.h * y.h + x.l * y.l, x.l * y.h - x.h * y.l)
  else (x.h * y.h - x.l * y.l, x.h * y.l + x.l * y.h)

def signed (sub : Bool) (v : Int) : Int := if sub then -v else v

/-- A complex accumulation into ACCk, ACCk+1. -/
def cacc (k : Nat) (conj sub clr : Bool) (x y : GReg) : List AccAdd :=
  let p := cmul conj x y
  [{ k := k, add := signed sub p.1, clear := clr }, { k := k + 1, add := signed sub p.2, clear := clr }]

/-- A half by its selector bit: 0 .H, 1 .L. -/
def GReg.half (g : GReg) (lo : Bool) : Int := if lo then g.l else g.h
def GReg.halfClean (g : GReg) (lo : Bool) : Bool := if lo then !g.tagL else !g.tagH

/-- Every accumulator update is checked by a residue (R147). -/
def State.accumulated (s : State) (n : Nat) (h : Hw) (l : List AccAdd) : Issued := do
  need Exc.residue h.residueOk
  return { state := s.accumulate n l }

/-! ## Moves from accumulators (R166, R167) -/

/-- shround of R166: floor, or convergent with ties to even. -/
def shround (rnd : Nat) (v : Int) (e : Nat) : Int :=
  let q := v / (2 ^ e : Nat)
  if rnd = 0 ∧ 0 < e then
    let r := v % (2 ^ e : Nat)
    let half := ((2 ^ (e - 1) : Nat) : Int)
    if half < r ∨ (r = half ∧ q % 2 = 1) then q + 1 else q
  else q

/-- Whether a number fits 18 bits. -/
def fits (q : Int) : Bool := decide (-131072 ≤ q) && decide (q ≤ 131071)

/-- The results of a move in a scale mode of Table 4.2, one AUTO decision for all of them
(R166, R167): the unclamped values, and whether AUTO shifted. -/
def scaleAll (mode rnd sh : Nat) (vs : List Int) : List Int × Bool :=
  match mode with
  | 0 => (vs.map fun v => shround rnd v sh, false)
  | 1 => (vs.map fun v => shround rnd v (sh + 1), false)
  | 2 => (vs.map fun v => if sh = 0 then v * 2 else shround rnd v (sh - 1), false)
  | _ =>
    let q := vs.map fun v => shround rnd v sh
    if q.all fits then (q, false) else (vs.map fun v => shround rnd v (sh + 1), true)

/-- ST with bexp increased by one, saturating at +127 (R167). -/
def bexpUp (w : Word) : Word :=
  let b := sextNat 8 (bitsOf w 16 8)
  if b < 127 then putBits w 16 8 (bitsOf w 16 8 + 1) else w

/-- The clamped results of a move, and the state with ST as the move leaves it. -/
def State.moved (s : State) (n mode sh : Nat) (vs : List Int) : List Int × State :=
  let r := scaleAll mode (stRnd (s.st n)) sh vs
  let s := if r.2 then s.setSt n (bexpUp (s.st n)) else s
  ((r.1.map fun q => (clampTo 18 q).1), s.stick n 4 (r.1.any fun q => !fits q))

/-- The scale mode of an override field (R174): 0 takes ST.scale, 4 to 7 override it. -/
def State.scaleMode (s : State) (n code : Nat) : Except Nat Nat := do
  legal (code == 0 || decide (4 ≤ code))
  return if code = 0 then stScale (s.st n) else code - 4

/-! ## Register forms (R169, R170, R174) -/

/-- CLRA (R174). -/
def semClra (n : Nat) (f : KR) (h : Hw) (s : State) : Issued := do
  let pair := f.mod.getLsbD 0
  let k := f.d.toNat
  s.accOk n k pair
  let l : List AccAdd := [{ k := k, add := 0, clear := true }]
  s.accumulated n h (if pair then l ++ [{ k := k + 1, add := 0, clear := true }] else l)

/-- MOVA (R166, R167, R174). -/
def semMova (n : Nat) (f : KR) (s : State) : Issued := do
  let lane := f.mod.toNat % 4
  let k := f.a.toNat
  let sh := f.b.toNat
  legal (lane != 3 && decide (sh ≤ 30))
  let mode ← s.scaleMode n (f.mod.toNat / 4 % 8)
  s.accOk n k (lane == 0)
  s.gOk n f.d.toNat
  let old := s.getG n f.d.toNat
  if lane = 0 then
    let r := s.moved n mode sh [s.getAcc n k, s.getAcc n (k + 1)]
    return { state := r.2.putG n f.d.toNat { w := ofHalves (r.1.getD 0 0) (r.1.getD 1 0) } }
  else
    let r := s.moved n mode sh [s.getAcc n k]
    let v := r.1.getD 0 0
    return { state := r.2.putG n f.d.toNat (old.withHalves { w := ofHalves v v } (lane == 1) (lane == 2)) }

/-- LDA (R174): half × 2^s; a lane of 0b11 and a shift above 30 are reserved. -/
def semLda (n : Nat) (f : KR) (h : Hw) (s : State) : Issued := do
  let lane := f.mod.toNat % 4
  let k := f.d.toNat
  let sh := f.b.toNat
  legal (lane != 3 && decide (sh ≤ 30))
  s.accOk n k (lane == 0)
  s.gOk n f.a.toNat
  let x := s.getG n f.a.toNat
  need Exc.poison (x.laneClean lane)
  let p := ((2 ^ sh : Nat) : Int)
  let one : AccAdd := { k := k, add := (if lane = 2 then x.l else x.h) * p, clear := true }
  s.accumulated n h (if lane = 0 then [one, { k := k + 1, add := x.l * p, clear := true }] else [one])

/-- ADDA (R165, R174). -/
def semAdda (n : Nat) (f : KR) (h : Hw) (s : State) : Issued := do
  s.accOk n f.d.toNat
  s.accOk n f.a.toNat
  s.accumulated n h [{ k := f.d.toNat, add := signed (f.mod.getLsbD 2) (s.getAcc n f.a.toNat), clear := false }]

/-- MAC (R165, R169). -/
def semMac (n : Nat) (f : KR) (h : Hw) (s : State) : Issued := do
  legal (decide (f.mod.toNat / 16 = 0))
  s.accOk n f.d.toNat
  s.gOk n f.a.toNat
  s.gOk n f.b.toNat
  let x := s.getG n f.a.toNat
  let y := s.getG n f.b.toNat
  let ha := f.mod.getLsbD 0
  let hb := f.mod.getLsbD 1
  need Exc.poison (x.halfClean ha && y.halfClean hb)
  s.accumulated n h [{ k := f.d.toNat, add := signed (f.mod.getLsbD 2) (x.half ha * y.half hb)
                       clear := f.mod.getLsbD 3 }]

/-- CMAC (R165, R170). -/
def semCmac (n : Nat) (f : KR) (h : Hw) (s : State) : Issued := do
  legal (decide (f.mod.toNat / 16 = 0) && !f.mod.getLsbD 1)
  s.accOk n f.d.toNat true
  s.gOk n f.a.toNat
  s.gOk n f.b.toNat
  let x := s.getG n f.a.toNat
  let y := s.getG n f.b.toNat
  need Exc.poison (x.clean && y.clean)
  s.accumulated n h (cacc f.d.toNat (f.mod.getLsbD 0) (f.mod.getLsbD 2) (f.mod.getLsbD 3) x y)

/-! ## Memory forms (R171 to R173) -/

def State.xRead (s : State) (n : Nat) (f : KM) (h : Hw) : DataRead := s.specRead n f.xs h.xh h.xl
def State.yRead (s : State) (n : Nat) (f : KM) (h : Hw) : DataRead := s.specRead n f.ys h.yh h.yl
def State.cRead (s : State) (n : Nat) (f : KM) (h : Hw) : DataRead := s.specRead n f.cs h.ch h.cl

/-- The X and C operands' specs: in wide mode xs must name P0 to P7 (R171). -/
def State.xcOk (s : State) (n : Nat) (f : KM) : Except Nat Unit := do
  legal (f.g == 0)
  legal (decide (specPtr f.xs < 8))
  s.specOk n f.cs

/-- A ys that is read: in wide mode it must name P8 to P15 (R138, R171). -/
def State.yOk (s : State) (n : Nat) (f : KM) : Except Nat Unit := do
  s.specOk n f.ys
  legal (!s.isWide n || decide (8 ≤ specPtr f.ys))

/-- The data words of MACM, of CMACM, of CMAC2 and BFLY, and of FTAP. -/
def State.macmReads (s : State) (n : Nat) (f : KM) (h : Hw) : List DataRead :=
  if f.mod.getLsbD 4 then [s.xRead n f h, s.yRead n f h, s.cRead n f h]
  else [s.xRead n f h, s.cRead n f h]
def State.xcReads (s : State) (n : Nat) (f : KM) (h : Hw) : List DataRead :=
  [s.xRead n f h, s.cRead n f h]
def State.xycReads (s : State) (n : Nat) (f : KM) (h : Hw) : List DataRead :=
  [s.xRead n f h, s.yRead n f h, s.cRead n f h]

/-- Pointer updates in the order xs, ys, cs (R164). -/
def State.stepAll (s : State) (n : Nat) (f : KM) : State :=
  ((s.specStep n f.xs).specStep n f.ys).specStep n f.cs
def State.stepXc (s : State) (n : Nat) (f : KM) : State := (s.specStep n f.xs).specStep n f.cs

/-- MACM (R169, R171). -/
def semMacm (n : Nat) (f : KM) (h : Hw) (s : State) : Issued := do
  let dual := f.mod.getLsbD 4
  s.xcOk n f
  if dual then s.yOk n f else legal (f.ys == 0)
  s.accOk n f.k.toNat dual
  let x := s.dataAt (s.xRead n f h)
  let y := s.dataAt (s.yRead n f h)
  let c := s.dataAt (s.cRead n f h)
  let hx := f.mod.getLsbD 0
  let hc := f.mod.getLsbD 1
  need Exc.poison (x.halfClean hx && c.halfClean hc && (!dual || y.halfClean hx))
  let sub := f.mod.getLsbD 2
  let clr := f.mod.getLsbD 3
  let one : AccAdd := { k := f.k.toNat, add := signed sub (x.half hx * c.half hc), clear := clr }
  (if dual then s.stepAll n f else s.stepXc n f).accumulated n h
    (if dual then
      [one, { k := f.k.toNat + 1, add := signed sub (y.half hx * c.half hc), clear := clr }]
    else [one])

/-- CMACM (R170, R171). -/
def semCmacm (n : Nat) (f : KM) (h : Hw) (s : State) : Issued := do
  s.xcOk n f
  legal (f.ys == 0 && !f.mod.getLsbD 1 && !f.mod.getLsbD 4)
  s.accOk n f.k.toNat true
  let x := s.dataAt (s.xRead n f h)
  let c := s.dataAt (s.cRead n f h)
  need Exc.poison (x.clean && c.clean)
  (s.stepXc n f).accumulated n h
    (cacc f.k.toNat (f.mod.getLsbD 0) (f.mod.getLsbD 2) (f.mod.getLsbD 3) x c)

/-- CMAC2 (R170, R171): a wide form, with k 0 or 2. -/
def semCmac2 (n : Nat) (f : KM) (h : Hw) (s : State) : Issued := do
  legal (s.isWide n)
  s.xcOk n f
  s.yOk n f
  legal (decide (f.k.toNat = 0 ∨ f.k.toNat = 2) && !f.mod.getLsbD 1 && !f.mod.getLsbD 4)
  let x := s.dataAt (s.xRead n f h)
  let y := s.dataAt (s.yRead n f h)
  let c := s.dataAt (s.cRead n f h)
  need Exc.poison (x.clean && y.clean && c.clean)
  let acc := fun k v => cacc k (f.mod.getLsbD 0) (f.mod.getLsbD 2) (f.mod.getLsbD 3) v c
  (s.stepAll n f).accumulated n h (acc f.k.toNat x ++ acc (f.k.toNat + 4) y)

/-- FTAP (R172): ys is a write address, and the sample moves whole with its poison marking. -/
def semFtap (n : Nat) (f : KM) (h : Hw) (s : State) : Issued := do
  let cplx := f.mod.getLsbD 0
  s.xcOk n f
  s.specOk n f.ys
  legal (!f.mod.getLsbD 4)
  s.accOk n f.k.toNat cplx
  let x := s.dataAt (s.xRead n f h)
  let c := s.dataAt (s.cRead n f h)
  need Exc.poison (if cplx then x.clean && c.clean else !x.tagH && !c.tagH)
  let sub := f.mod.getLsbD 2
  let clr := f.mod.getLsbD 3
  let l : List AccAdd :=
    if cplx then cacc f.k.toNat (f.mod.getLsbD 1) sub clr x c
    else [{ k := f.k.toNat, add := signed sub (x.h * c.h), clear := clr }]
  let y := s.specRead n f.ys .clean .clean
  let r ← ((s.setDword y.eng y.addr x).stepAll n f).accumulated n h l
  return { r with writes := [(y.eng, y.addr)] }

/-- The four sums of a butterfly (R173). -/
def bflySums (conj : Bool) (a b w : GReg) : List Int :=
  let tr := if conj then w.h * b.h + w.l * b.l else w.h * b.h - w.l * b.l
  let ti := if conj then w.h * b.l - w.l * b.h else w.h * b.l + w.l * b.h
  let ah := a.h * 131072
  let al := a.l * 131072
  [ah + tr, al + ti, ah - tr, al - ti]

/-- BFLY (R167, R173). It names no accumulator, and k is not used. -/
def semBfly (n : Nat) (f : KM) (h : Hw) (s : State) : Issued := do
  s.xcOk n f
  s.yOk n f
  legal (!f.mod.getLsbD 4)
  let mode ← s.scaleMode n (f.mod.toNat / 2 % 8)
  let x := s.xRead n f h
  let y := s.yRead n f h
  let a := s.dataAt x
  let b := s.dataAt y
  let w := s.dataAt (s.cRead n f h)
  need Exc.poison (a.clean && b.clean && w.clean)
  need Exc.residue h.residueOk
  let r := s.moved n mode 17 (bflySums (f.mod.getLsbD 0) a b w)
  let s := r.2.setDword x.eng x.addr { w := ofHalves (r.1.getD 0 0) (r.1.getD 1 0) }
  let s := s.setDword y.eng y.addr { w := ofHalves (r.1.getD 2 0) (r.1.getD 3 0) }
  return { state := s.stepAll n f, writes := [(x.eng, x.addr), (y.eng, y.addr)] }

/-! ## Meanings -/

/-- R174. -/
def execClra (e : Fin 1024) (f : KR) (h : Hw) (s : State) : Out :=
  .next (s.issue e.val (.r .clra f) h [] (semClra e.val f h))
/-- R166, R167, R174. -/
def execMova (e : Fin 1024) (f : KR) (h : Hw) (s : State) : Out :=
  .next (s.issue e.val (.r .mova f) h [] (semMova e.val f))
/-- R174. -/
def execLda (e : Fin 1024) (f : KR) (h : Hw) (s : State) : Out :=
  .next (s.issue e.val (.r .lda f) h [] (semLda e.val f h))
/-- R165, R174. -/
def execAdda (e : Fin 1024) (f : KR) (h : Hw) (s : State) : Out :=
  .next (s.issue e.val (.r .adda f) h [] (semAdda e.val f h))
/-- R165, R169, R171. -/
def execMacm (e : Fin 1024) (f : KM) (h : Hw) (s : State) : Out :=
  .next (s.issue e.val (.m .macm f) h (s.macmReads e.val f h) (semMacm e.val f h))
/-- R165, R169 to R171. -/
def execCmacm (e : Fin 1024) (f : KM) (h : Hw) (s : State) : Out :=
  .next (s.issue e.val (.m .cmacm f) h (s.xcReads e.val f h) (semCmacm e.val f h))
/-- R138, R165, R169 to R171. -/
def execCmac2 (e : Fin 1024) (f : KM) (h : Hw) (s : State) : Out :=
  .next (s.issue e.val (.m .cmac2 f) h (s.xycReads e.val f h) (semCmac2 e.val f h))
/-- R165, R169, R170, R172. -/
def execFtap (e : Fin 1024) (f : KM) (h : Hw) (s : State) : Out :=
  .next (s.issue e.val (.m .ftap f) h (s.xcReads e.val f h) (semFtap e.val f h))
/-- R165, R169. -/
def execMac (e : Fin 1024) (f : KR) (h : Hw) (s : State) : Out :=
  .next (s.issue e.val (.r .mac f) h [] (semMac e.val f h))
/-- R165, R169, R170. -/
def execCmac (e : Fin 1024) (f : KR) (h : Hw) (s : State) : Out :=
  .next (s.issue e.val (.r .cmac f) h [] (semCmac e.val f h))
/-- R166, R167, R173. -/
def execBfly (e : Fin 1024) (f : KM) (h : Hw) (s : State) : Out :=
  .next (s.issue e.val (.m .bfly f) h (s.xycReads e.val f h) (semBfly e.val f h))

end Sys2Proof.Machine
end

