-- ==== Sys2Proof/Machine/KotinFlow.lean ====
section
/-! DEFINITION. Kotin control flow and loops, time, events and cues, engine ports, messages,
doorbells and transactions (R180 to R184, R187 to R193, R197, R198). -/

namespace Sys2Proof.Machine

/-! ## Control flow (R180, R181) -/

/-- Whether a condition of Table 5.7 holds; none for a reserved one. -/
def State.cond (s : State) (n : Nat) (c : BitVec 4) : Option Bool :=
  let w := s.st n
  let nf := w.getLsbD 2
  let z := w.getLsbD 1
  match c.toNat with
  | 0 => some true
  | 1 => some z
  | 2 => some !z
  | 3 => some nf
  | 4 => some !nf
  | 5 => some (nf || z)
  | 6 => some (!nf && !z)
  | 7 => some (w.getLsbD 0)
  | 8 => some !(w.getLsbD 0)
  | 9 => some (w.getLsbD 4)
  | 10 => some !(w.getLsbD 4)
  | 11 => some (s.pendingEvents n != 0)
  | _ => none

def State.takes (s : State) (n : Nat) (c : BitVec 4) : Except Nat Bool :=
  match s.cond n c with
  | some b => .ok b
  | none => .error Exc.illegal

/-- BR (R180). -/
def semBr (n : Nat) (f : KC) (s : State) : Issued := do
  s.targetOk n f.target.toNat
  return { state := s, flow := if ← s.takes n f.cond then .jump f.target.toNat true else .seq }

/-- CALL (R180): PC + 1 is pushed; a seventeenth return address raises STACK. -/
def semCall (n : Nat) (f : KC) (s : State) : Issued := do
  s.targetOk n f.target.toNat
  if ← s.takes n f.cond then
    let e := s.engine n
    need Exc.stack (decide (e.depth < 16))
    let e' := { e.setStack e.depth (e.pc + 1) with depth := e.depth + 1 }
    return { state := s.setEngine n e', flow := .jump f.target.toNat false }
  else return { state := s }

/-- RET (R180). -/
def semRet (n : Nat) (f : KC) (s : State) : Issued := do
  if ← s.takes n f.cond then
    let e := s.engine n
    need Exc.stack (decide (0 < e.depth))
    return { state := s.setEngine n { e with depth := e.depth - 1 }
             flow := .jump (e.stackAt (e.depth - 1)).toNat true }
  else return { state := s }

/-- JR (R180). -/
def semJr (n : Nat) (f : KC) (s : State) : Issued := do
  s.gOk n f.a.toNat
  if ← s.takes n f.cond then
    let t := (← s.use32 n f.a.toNat) % 8192
    s.targetOk n t
    return { state := s, flow := .jump t true }
  else return { state := s }

/-- A loop opens at the lowest level that is not active (R181). -/
def State.openLoop (s : State) (n : Nat) (count : Nat) (last : BitVec 13) : Issued := do
  let e := s.engine n
  match (List.range 4).find? fun j => e.lcAt j == 0 with
  | none => .error Exc.loop
  | some j =>
    let e' := ((e.setLs j (e.pc + 1)).setLe j last).setLc j (BitVec.ofNat 16 count)
    return { state := s.setEngine n e' }

/-- The end of a loop: not below PC + 1 (R181), and in range; cond must be 0 (R180). -/
def State.loopOk (s : State) (n : Nat) (f : KC) : Except Nat Unit := do
  legal (f.cond == 0)
  s.targetOk n f.target.toNat
  legal (decide ((s.engine n).pc.toNat + 1 ≤ f.target.toNat))

/-- LOOP (R181). -/
def semLoop (n : Nat) (f : KC) (s : State) : Issued := do
  s.loopOk n f
  legal (f.count != 0)
  s.openLoop n f.count.toNat f.target

/-- LOOPR (R181): count 0 activates no level and transfers to end + 1 as a taken branch. -/
def semLoopr (n : Nat) (f : KC) (s : State) : Issued := do
  s.loopOk n f
  s.gOk n f.a.toNat
  let c := (← s.use32 n f.a.toNat) % 65536
  if c = 0 then return { state := s, flow := .jump (f.target.toNat + 1) true }
  else s.openLoop n c f.target

/-! ## Time, events and cues (R189 to R193) -/

/-- RDT (R189): one sample of service time. -/
def semRdt (n : Nat) (f : KR) (s : State) : Issued := do
  legal (f.d != f.a)
  s.gOk n f.d.toNat
  s.gOk n f.a.toNat
  let s' := s.put32 n f.d.toNat (s.svc.extractLsb' 32 32).toNat
  return { state := s'.put32 n f.a.toNat (s.svc.extractLsb' 0 32).toNat }

/-- WAITT (R190). -/
def semWaitt (n : Nat) (f : KR) (s : State) : Issued := do
  s.gOk n f.d.toNat
  s.gOk n f.a.toNat
  let t := BitVec.ofNat 32 (← s.use32 n f.a.toNat)
  match s.classOf t with
  | .reached => return { state := s.put32 n f.d.toNat 0 }
  | .outside => return { state := s.put32 n f.d.toNat Code.timeOutOfWindow }
  | .ahead => return { state := (s.setWait n (.time f.d t)).enter n EngState.waiting, flow := .wait }

/-- The flags a WAITE matches. -/
def State.matched (s : State) (n : Nat) (mask : BitVec 16) : Word :=
  s.reg (R.ENG_EVT n) &&& mask.setWidth 32

/-- WAITE ends on an event (R191): the matched flags are returned, and cleared under clr. -/
def State.waiteEvent (s : State) (n : Nat) (d : BitVec 6) (mask : BitVec 16) (clear : Bool) : State :=
  let m := s.matched n mask
  let t := s.put32 n d.toNat m.toNat
  if clear then t.setReg (R.ENG_EVT n) (s.reg (R.ENG_EVT n) &&& ~~~m) else t

/-- WAITE ends at its deadline: bit 32 is set (R191). -/
def State.waiteLate (s : State) (n : Nat) (d : BitVec 6) : State := s.putW n d.toNat (2 ^ 32)

/-- WAITE (R191). -/
def semWaite (n : Nat) (f : KR) (s : State) : Issued := do
  s.gOk n f.d.toNat
  let mask := f.imm.setWidth 16
  let clear := f.mod.getLsbD 1
  if f.mod.getLsbD 0 then
    s.gOk n f.a.toNat
    let t := BitVec.ofNat 32 (← s.use32 n f.a.toNat)
    if s.matched n mask ≠ 0 then return { state := s.waiteEvent n f.d mask clear }
    else match s.classOf t with
      | .reached => return { state := s.waiteLate n f.d }
      | .outside => return { state := s.put32 n f.d.toNat (Code.timeOutOfWindow * 65536) }
      | .ahead =>
        let s := s.setWait n (.events f.d mask (some t) clear)
        return { state := s.enter n EngState.waiting, flow := .wait }
  else if s.matched n mask ≠ 0 then return { state := s.waiteEvent n f.d mask clear }
  else
    let s := s.setWait n (.events f.d mask none clear)
    return { state := s.enter n EngState.waiting, flow := .wait }

/-- A wait ends: the engine runs on at the next instruction. -/
def State.endWait (s : State) (n : Nat) : State :=
  ((s.setWait n .none).enter n EngState.running).completeAt n 0 .seq [] []

/-- The time of a WAITT is reached (R190). -/
def waittEnds (n : Nat) (s : State) : State :=
  match s.waitOf n with
  | .time rd t =>
    if s.engState n = EngState.waiting ∧ s.isReached t = true ∧ s.copyLost (engUnit n) = false then
      (s.put32 n rd.toNat 0).endWait n
    else s
  | _ => s

/-- A matched event has arrived, or the deadline of a WAITE is reached (R191): an event of the
same tick counts as arrived. -/
def waiteEnds (n : Nat) (s : State) : State :=
  match s.waitOf n with
  | .events rd mask deadline clear =>
    if s.engState n ≠ EngState.waiting then s
    else if s.matched n mask ≠ 0 then (s.waiteEvent n rd mask clear).endWait n
    else match deadline with
      | some t =>
        if s.isReached t && !s.copyLost (engUnit n) then (s.waiteLate n rd).endWait n else s
      | none => s
  | _ => s

def engCue (n : Nat) : CueUnit := .eng (Fin.ofNat 1024 n)

/-- CUE (R193). -/
def semCue (n : Nat) (f : KR) (s : State) : Issued := do
  s.gOk n f.d.toNat
  s.gOk n f.a.toNat
  let t := BitVec.ofNat 32 (← s.use32 n f.a.toNat)
  let r := s.armCue (engUnit n) (engCue n) (f.imm.toNat % 8) t 0 false .event
  return { state := r.2.put32 n f.d.toNat r.1 }

/-- UNCUE (R193). -/
def semUncue (n : Nat) (f : KR) (s : State) : Issued := do
  s.gOk n f.d.toNat
  let slot := f.imm.toNat % 8
  if s.mayCue (engUnit n) (engCue n) slot then
    return { state := (s.cueClear (engCue n) slot).put32 n f.d.toNat 0 }
  else return { state := s.put32 n f.d.toNat Code.claimBusy }

/-- EVCLR (R193). -/
def semEvclr (n : Nat) (f : KR) (s : State) : Issued :=
  .ok { state := s.setReg (R.ENG_EVT n) (s.reg (R.ENG_EVT n) &&& ~~~(f.imm &&& 0xFFFF#32)) }

/-! ## Engine ports (R82 to R84, R126, R184) -/

/-- PEV: a pulse on ev_out. -/
def semPev (n : Nat) (_f : KR) (s : State) : Issued :=
  let e := s.engine n
  .ok { state := s.setEngine n { e with evOut := e.evOut + 1 } }

/-- The flag z alone. -/
def State.setZ (s : State) (n : Nat) (z : Bool) : State := s.setSt n (putBits (s.st n) 1 1 (b2n z))

/-- The engine whose port a PRD or PWR names (R184): mod bit 1 must be 0 in narrow mode. -/
def State.portOf (s : State) (n : Nat) (f : KR) : Except Nat Nat := do
  legal (s.isWide n || !f.mod.getLsbD 1)
  return if f.mod.getLsbD 1 then n + 1 else n

/-- PRD (R83, R184). -/
def semPrd (n : Nat) (f : KR) (h : Hw) (s : State) : Issued := do
  s.pairOk n f.d.toNat
  let x ← s.portOf n f
  let try_ := f.mod.getLsbD 0
  match (s.engine x).toEngine with
  | [] => return if try_ then { state := s.setZ n true } else { state := s, flow := .stall }
  | w :: l =>
    let s := s.setEngine x { s.engine x with toEngine := l }
    let s := if h.parityOk then s else s.fault (engUnit x) .eport (.unit (engUnit x)) 0 x
    let s := s.putW n f.d.toNat w.w0 (w.p0 || !h.parityOk)
    let s := s.putW n (f.d.toNat + 1) w.w1 (w.p1 || !h.parityOk)
    return { state := if try_ then s.setZ n false else s }

/-- A word an engine sends through its port; a primary's is copied to the twin's (R126). -/
def State.portSend (s : State) (x : Nat) (w : PortWord) : State :=
  let p := s.portPod x
  let s := s.setEngine x { s.engine x with fromEngine := (s.engine x).fromEngine ++ [w] }
  if s.paired p && !s.isTwin p then
    let y := matchingEngine x (s.twinOffset p)
    s.setEngine y { s.engine y with fromEngine := (s.engine y).fromEngine ++ [w] }
  else s

/-- PWR (R184): a word is marked if either half of its register is tagged. -/
def semPwr (n : Nat) (f : KR) (s : State) : Issued := do
  s.pairOk n f.a.toNat
  let x ← s.portOf n f
  let try_ := f.mod.getLsbD 0
  let a := s.getG n f.a.toNat
  let b := s.getG n (f.a.toNat + 1)
  if 32 ≤ (s.engine x).fromEngine.length then
    return if try_ then { state := s.setZ n true } else { state := s, flow := .stall }
  else
    let s := s.portSend x { w0 := a.w, w1 := b.w, p0 := !a.clean, p1 := !b.clean }
    return { state := if try_ then s.setZ n false else s }

/-! ## Messages and doorbells (R187, R188) -/

/-- A packet with a route index: sent, with its request recorded, or none where its route
entry is not usable or it breaks a limit of priorities (R206, R212). -/
def State.inject (s : State) (p : Packet) : Option State :=
  let e := s.route p.src.toNat p.route.toNat
  if e.usable p.dst.toNat && p.prioOk then some ((s.launchPacket p e).track p) else none

/-- A run of `k` payload words from pointer `p` on (R187, R195), with what their codes say. -/
def State.payloadReads (s : State) (n p k : Nat) (h : Hw) : List DataRead :=
  (s.ptrRun n p (s.ptr n p) k).zipIdx.map fun x =>
    let c := h.words.getD x.2 (.clean, .clean)
    { eng := ptrEng n p, addr := x.1, hi := c.1, lo := c.2 }

/-- A payload pointer: pm leaves it or advances it (R187). -/
def State.payloadOk (s : State) (n : Nat) (f : KT) : Except Nat Unit :=
  legal (decide (f.p.toNat < s.ptrLimit n) && (f.pm == 0 || f.pm == 2))

/-- The pointer after a payload of `k` words. -/
def State.payloadStep (s : State) (n : Nat) (f : KT) (k : Nat) : State :=
  if f.pm = 2 then s.setPtr n f.p.toNat (s.ptrAhead n f.p.toNat (s.ptr n f.p.toNat) k) else s

/-- The words of a SEND. -/
def sendWords (f : KT) : Nat := f.imm.toNat % 128

def State.sendReads (s : State) (n : Nat) (f : KT) (h : Hw) : List DataRead :=
  s.payloadReads n f.p.toNat (sendWords f) h

/-- SEND (R187): a MESSAGE packet on the route and at the priority of the header. -/
def semSend (n : Nat) (f : KT) (h : Hw) (s : State) : Issued := do
  let k := sendWords f
  legal (decide (1 ≤ k) && decide (k ≤ 64))
  s.payloadOk n f
  s.gOk n f.a.toNat
  let hd := BitVec.ofNat 32 (← s.use32 n f.a.toNat)
  let ws := (s.sendReads n f h).map s.dataAt
  let bytes := ws.flatMap fun w => toBytes 8 (toLayout w.w).toNat
  let p : Packet := {
    kind := 5, prio := hd.extractLsb' 22 3, route := hd.extractLsb' 0 12
    src := BitVec.ofNat 10 (engUnit n).ni, dst := hd.extractLsb' 12 10
    txid := f.imm.extractLsb' 8 8, poison := ws.any fun w => !w.clean, integ := true, tag := 0
    address := 0, dtag := 0, payload := bytes, crc := crc32c bytes, fpoison := false }
  match s.inject p with
  | none => .error Exc.busError
  | some t => return { state := t.payloadStep n f k }

/-- DBELL (R188). -/
def semDbell (n : Nat) (f : KR) (s : State) : Issued := do
  if f.mod.getLsbD 2 then s.gOk n f.a.toNat
  let v ← if f.mod.getLsbD 2 then s.use32 n f.a.toNat else pure f.imm.toNat
  if f.mod.getLsbD 0 then return { state := s.raiseEvent (v % 1024) 1 }
  else return { state := s.ringBell (v % 256) (v / 256 % 32) }

/-! ## Transactions (R197, R198) -/

/-- TXOPEN (R197): the engine holds at most four IDs. -/
def semTxopen (n : Nat) (f : KR) (s : State) : Issued := do
  s.gOk n f.d.toNat
  if 4 ≤ (s.heldTx n).length then return { state := s.put32 n f.d.toNat Code.notPermitted }
  else
    let r := s.txOpenFor (engUnit n) (f.imm.toNat % 65536)
    let t := if r.1 = 0 then r.2.2.setHeldTx n (r.2.2.heldTx n ++ [{ id := BitVec.ofNat 8 r.2.1 }]) else r.2.2
    return { state := t.put32 n f.d.toNat (r.1 + 65536 * r.2.1) }

def State.holdsTx (s : State) (n id : Nat) : Bool := (s.heldTx n).any fun h => h.id.toNat == id

/-- TXCMT (R197): for the time in Ga, or ASAP. -/
def semTxcmt (n : Nat) (f : KR) (s : State) : Issued := do
  s.gOk n f.d.toNat
  let id := f.imm.toNat % 256
  let asap := f.mod.getLsbD 0
  if !asap then s.gOk n f.a.toNat
  let l ← if asap then pure Launch.asap
    else (s.use32 n f.a.toNat).map fun t => Launch.at (BitVec.ofNat 32 t)
  if s.holdsTx n id then
    let r := s.txCommitFor (engUnit n) id l
    return { state := r.2.put32 n f.d.toNat r.1 }
  else return { state := s.put32 n f.d.toNat Code.notPermitted }

/-- TXABT (R197). -/
def semTxabt (n : Nat) (f : KR) (s : State) : Issued := do
  s.gOk n f.d.toNat
  let id := f.imm.toNat % 256
  if s.holdsTx n id then
    let r := s.txAbortFor (engUnit n) id
    return { state := r.2.put32 n f.d.toNat r.1 }
  else return { state := s.put32 n f.d.toNat Code.notPermitted }

/-- TXST (R198, R312): an ended ID is released, from the engine and at the TXU. -/
def semTxst (n : Nat) (f : KR) (s : State) : Issued := do
  s.gOk n f.d.toNat
  let id := f.imm.toNat % 256
  match (s.heldTx n).find? fun h => h.id.toNat == id with
  | none => return { state := s.put32 n f.d.toNat 0 }
  | some h =>
    if h.ended then
      let ni := match h.subject with
        | some u => u.ni
        | none => 0
      let s' := s.setHeldTx n ((s.heldTx n).filter fun h => h.id.toNat != id)
      let v := 2 ^ 31 + 65536 * ni + h.outcome.toNat
      return { state := (s'.txReleaseFor (engUnit n) id).2.put32 n f.d.toNat v }
    else return { state := s.put32 n f.d.toNat 0 }

/-! ## Meanings -/

/-- R180, R183. -/
def execBr (e : Fin 1024) (f : KC) (h : Hw) (s : State) : Out :=
  .next (s.issue e.val (.c .br f) h [] (semBr e.val f))
/-- R180. -/
def execCall (e : Fin 1024) (f : KC) (h : Hw) (s : State) : Out :=
  .next (s.issue e.val (.c .call f) h [] (semCall e.val f))
/-- R180, R183. -/
def execRet (e : Fin 1024) (f : KC) (h : Hw) (s : State) : Out :=
  .next (s.issue e.val (.c .ret f) h [] (semRet e.val f))
/-- R180, R183. -/
def execJr (e : Fin 1024) (f : KC) (h : Hw) (s : State) : Out :=
  .next (s.issue e.val (.c .jr f) h [] (semJr e.val f))
/-- R181. -/
def execLoop (e : Fin 1024) (f : KC) (h : Hw) (s : State) : Out :=
  .next (s.issue e.val (.c .loop f) h [] (semLoop e.val f))
/-- R181. -/
def execLoopr (e : Fin 1024) (f : KC) (h : Hw) (s : State) : Out :=
  .next (s.issue e.val (.c .loopr f) h [] (semLoopr e.val f))
/-- R189. -/
def execRdt (e : Fin 1024) (f : KR) (h : Hw) (s : State) : Out :=
  .next (s.issue e.val (.r .rdt f) h [] (semRdt e.val f))
/-- R190. -/
def execWaitt (e : Fin 1024) (f : KR) (h : Hw) (s : State) : Out :=
  .next (s.issue e.val (.r .waitt f) h [] (semWaitt e.val f))
/-- R190, R261. -/
def execWaittDone (e : Fin 1024) (s : State) : Out := .next (waittEnds e.val s)
/-- R190, R191. -/
def execWaite (e : Fin 1024) (f : KR) (h : Hw) (s : State) : Out :=
  .next (s.issue e.val (.r .waite f) h [] (semWaite e.val f))
/-- R191. -/
def execWaiteDone (e : Fin 1024) (s : State) : Out := .next (waiteEnds e.val s)
/-- R190, R193. -/
def execCue (e : Fin 1024) (f : KR) (h : Hw) (s : State) : Out :=
  .next (s.issue e.val (.r .cue f) h [] (semCue e.val f))
/-- R193. -/
def execUncue (e : Fin 1024) (f : KR) (h : Hw) (s : State) : Out :=
  .next (s.issue e.val (.r .uncue f) h [] (semUncue e.val f))
/-- R193. -/
def execEvclr (e : Fin 1024) (f : KR) (h : Hw) (s : State) : Out :=
  .next (s.issue e.val (.r .evclr f) h [] (semEvclr e.val f))
/-- R184. -/
def execPev (e : Fin 1024) (f : KR) (h : Hw) (s : State) : Out :=
  .next (s.issue e.val (.r .pev f) h [] (semPev e.val f))
/-- R82, R83, R184. -/
def execPrd (e : Fin 1024) (f : KR) (h : Hw) (s : State) : Out :=
  .next (s.issue e.val (.r .prd f) h [] (semPrd e.val f h))
/-- R82, R126, R184. -/
def execPwr (e : Fin 1024) (f : KR) (h : Hw) (s : State) : Out :=
  .next (s.issue e.val (.r .pwr f) h [] (semPwr e.val f))
/-- R187, R206, R212. -/
def execSend (e : Fin 1024) (f : KT) (h : Hw) (s : State) : Out :=
  .next (s.issue e.val (.t .send f) h (s.sendReads e.val f h) (semSend e.val f h))
/-- R188. -/
def execDbell (e : Fin 1024) (f : KR) (h : Hw) (s : State) : Out :=
  .next (s.issue e.val (.r .dbell f) h [] (semDbell e.val f))
/-- R197. -/
def execTxopen (e : Fin 1024) (f : KR) (h : Hw) (s : State) : Out :=
  .next (s.issue e.val (.r .txopen f) h [] (semTxopen e.val f))
/-- R197. -/
def execTxcmt (e : Fin 1024) (f : KR) (h : Hw) (s : State) : Out :=
  .next (s.issue e.val (.r .txcmt f) h [] (semTxcmt e.val f))
/-- R197. -/
def execTxabt (e : Fin 1024) (f : KR) (h : Hw) (s : State) : Out :=
  .next (s.issue e.val (.r .txabt f) h [] (semTxabt e.val f))
/-- R198, R312. -/
def execTxst (e : Fin 1024) (f : KR) (h : Hw) (s : State) : Out :=
  .next (s.issue e.val (.r .txst f) h [] (semTxst e.val f))

end Sys2Proof.Machine
end

