-- ==== Sys2Proof/Machine/Dram.lean ====
section
/-! DEFINITION. DRAM (chapter 12) and memory protection (chapter 13): the address map, line
pieces with their error handling, row counters, training, command/address parity, sparing,
mirroring, protection ranges, sweeps, tags, scrubbing and page retirement. -/

namespace Sys2Proof.Machine

/-! ## The address map (R360, R363 to R366) -/

def State.capacity (s : State) : Nat := s.fld F.MCG_MAP_capacity_gib * 2 ^ 30
def State.ways8 (s : State) : Bool := s.bit F.MCG_MAP_ways8
def State.rowLo (s : State) : Nat := s.fld F.MCG_MAP_row_lo
def State.rowBits (s : State) : Nat := s.fld F.MCG_MAP_row_bits

/-- Where a line lies. -/
structure LineLoc where
  mc : Nat
  sub : Nat
  rank : Nat
  bg : Nat
  ba : Nat
  row : Nat
  col : Nat
  deriving DecidableEq, Repr

def LineLoc.i (l : LineLoc) : Nat := 2 * l.mc + l.sub

/-- The limit of zone `k` in GiB. -/
def State.zoneLimit (s : State) (k : Nat) : Nat := s.fld (F.MCG_ZONE_limit_gib k)

/-- The zone that holds an address, if any: zones end at the first limit of 0. -/
def State.zoneFrom (s : State) (a k : Nat) : Nat → Option Nat
  | 0 => none
  | n + 1 =>
    if s.zoneLimit k = 0 then none
    else if a < s.zoneLimit k * 2 ^ 30 then some k
    else s.zoneFrom a (k + 1) n

def State.zoneOf (s : State) (a : Nat) : Option Nat := s.zoneFrom a 0 8

def State.zoneBase (s : State) (k : Nat) : Nat :=
  if k = 0 then 0 else s.zoneLimit (k - 1) * 2 ^ 30

/-- A layout of Table 12.3: none is HASH, `some o` is STREAM of order `o`. -/
def State.layout (s : State) (k : Nat) : Option Nat :=
  if s.bit (F.MCG_ZONE_cls k) then some (s.fld (F.MCG_ZONE_order k)) else none

/-- The bits `lo + w - 1 : lo` of an address. -/
def slice (a lo w : Nat) : Nat := a >>> lo % 2 ^ w

/-- The position of the ctrl field's lowest bit in a layout. -/
def ctrlLo : Option Nat → Nat
  | none | some 0 | some 3 => 7
  | some 1 => 14
  | some _ => 9

/-- The lower fields of an address in a layout, with `w` ctrl bits (Table 12.3). -/
def lowerFields (lay : Option Nat) (w a : Nat) : LineLoc :=
  let c := ctrlLo lay
  let sub := slice a (c - 1) 1
  let mc := slice a c w
  let u := c + w
  match lay with
  | none => { mc := mc, sub := sub, rank := 0, bg := slice a u 3, col := slice a (u + 3) 7
              ba := slice a (u + 10) 2, row := 0 }
  | some 0 => { mc := mc, sub := sub, rank := 0, col := slice a u 7, bg := slice a (u + 7) 3
                ba := slice a (u + 10) 2, row := 0 }
  | some 1 => { mc := mc, sub := sub, rank := 0, col := slice a 6 7, bg := slice a u 3
                ba := slice a (u + 3) 2, row := 0 }
  | some 2 => { mc := mc, sub := sub, rank := 0, col := slice a 6 2 + 4 * slice a u 5
                bg := slice a (u + 5) 3, ba := slice a (u + 8) 2, row := 0 }
  | some _ => { mc := mc, sub := sub, rank := 0, bg := slice a u 3, ba := slice a (u + 3) 2
                col := slice a (u + 5) 7, row := 0 }

/-- The parity of a number's bits, of the low `k`. -/
def parity (x : Nat) : Nat → Bool
  | 0 => false
  | k + 1 => xor (x.testBit k) (parity x k)

/-- Whether hashed bit `j` is inverted for address `a` (R365). -/
def State.hashBit (s : State) (a j : Nat) : Nat :=
  b2n (parity (a &&& (s.reg (R.MCG_HASH j)).toNat * 2 ^ 16) 48)

/-- The hashed bits of Table 12.4 applied to the lower fields. -/
def State.hashed (s : State) (a : Nat) (l : LineLoc) : LineLoc :=
  let h := s.hashBit a
  { l with
    sub := l.sub ^^^ h 0
    mc := l.mc ^^^ (h 1 + 2 * h 2 + (if s.ways8 then 4 * h 3 else 0))
    bg := l.bg ^^^ (h 4 + 2 * h 5 + 4 * h 6)
    ba := l.ba ^^^ (h 7 + 2 * h 8) }

/-- The place of a line address in a zone's layout, before mirroring. -/
def State.placeIn (s : State) (k a : Nat) : LineLoc :=
  let lay := s.layout k
  let l := lowerFields lay (if s.ways8 then 3 else 2) a
  let l := if lay = none then s.hashed a l else l
  { l with row := slice a s.rowLo s.rowBits, rank := a >>> (s.rowLo + s.rowBits) }

/-- The home position of the top ctrl bit in a zone's layout. -/
def State.topCtrl (s : State) (k : Nat) : Nat := ctrlLo (s.layout k) + (if s.ways8 then 2 else 1)

/-- The place of a line: its copy on the lower-numbered controller, and the place of the other
copy in a mirrored zone (R366). -/
def State.placeOf (s : State) (k a : Nat) : LineLoc × Option LineLoc :=
  if s.bit (F.MCG_ZONE_mirror k) then
    let b := s.zoneBase k
    let t := s.topCtrl k
    let o := a - b
    let o' := (o >>> t) <<< (t + 1) + o % 2 ^ t
    let p := s.placeIn k (b + o')
    let q := s.placeIn k (b + o' + 2 ^ t)
    if p.mc ≤ q.mc then (p, some q) else (q, some p)
  else (s.placeIn k a, none)

/-- Whether an address lies in installed DRAM and not in the upper half of a mirrored zone. -/
def State.dramMapped (s : State) (a : Nat) : Bool :=
  decide (a < s.capacity) &&
    match s.zoneOf a with
    | none => false
    | some k => !s.bit (F.MCG_ZONE_mirror k) ||
        decide (a - s.zoneBase k < (s.zoneLimit k * 2 ^ 30 - s.zoneBase k) / 2)

/-- The address a page retirement remaps (R402); pages keep their place otherwise. -/
def State.remapped (s : State) (a : Nat) : Nat :=
  match s.dram.retired.findIdx? fun p => p == a / 4096 with
  | some i => (Config.poolPage i).toNat + a % 4096
  | none => a

/-! ## Subchannels, lines and marks -/

def noSubch (_ : Nat) : Subch := {}
def noRows (_ : Nat) : List Nat := []
def noCounters (_ : Nat) : List (Nat × Nat) := []
def notSpared (_ : Nat) : Option Nat := none

def State.subch (s : State) (i : Nat) : Subch := Table.get noSubch s.dram.subs i

def State.setSubch (s : State) (i : Nat) (x : Subch) : State :=
  { s with dram := { s.dram with subs := Table.set noSubch s.dram.subs i x } }

def State.dramByte (s : State) (a : Nat) : Byte := Table.get zeroByte s.dram.mem a

def State.setDramByte (s : State) (a : Nat) (v : Byte) : State :=
  { s with dram := { s.dram with mem := Table.set zeroByte s.dram.mem a v } }

/-- Bytes stored from address `a` on. -/
def State.dramStore (s : State) (a : Nat) : List Byte → State
  | [] => s
  | b :: bs => (s.setDramByte a b).dramStore (a + 1) bs

def State.dramLoad (s : State) (a : Nat) : Nat → List Byte
  | 0 => []
  | n + 1 => s.dramByte a :: s.dramLoad (a + 1) n

/-- The poison marking of line `l` (R375). -/
def State.lineMark (s : State) (l : Nat) : Bool := Table.get notMarked s.dram.poison l

def State.setLineMark (s : State) (l : Nat) (p : Bool) : State :=
  { s with dram := { s.dram with poison := Table.set notMarked s.dram.poison l p } }

def State.tagLost (s : State) (l : Nat) : Bool := Table.get notMarked s.dram.badTag l

def State.setTagLost (s : State) (l : Nat) (p : Bool) : State :=
  { s with dram := { s.dram with badTag := Table.set notMarked s.dram.badTag l p } }

/-- The rank that serves a place: the spare where it replaces the rank (R379). -/
def State.servingRank (s : State) (l : LineLoc) : Nat :=
  if Table.get notSpared s.dram.spared l.mc = some l.rank then s.fld (F.MC_STATUS_ranks l.mc) - 1
  else l.rank

/-! ## Protection ranges (R382 to R391) -/

/-- The first and the exclusive last address of a range. -/
def State.rangeBase (s : State) (r : Nat) : Nat := s.fld (F.MP_RANGE_BASE_addr_2m r) * 2 ^ 21
def State.rangeLimit (s : State) (r : Nat) : Nat := s.fld (F.MP_RANGE_LIMIT_addr_2m r) * 2 ^ 21
def State.rangeOn (s : State) (r : Nat) : Bool := s.bit (F.MP_RANGE_CFG_en r)

/-- The enabled range that covers an address. -/
def State.rangeOf (s : State) (a : Nat) : Option Nat :=
  (List.range 32).find? fun r =>
    s.rangeOn r && decide (s.rangeBase r ≤ a) && decide (a < s.rangeLimit r)

def State.sweepPtr (s : State) : Nat := s.pair R.MP_SWEEP_PTR_LO R.MP_SWEEP_PTR_HI

/-- Whether the stored form of a line is tagged (R388, R395): below the sweep pointer, as the
sweep leaves it. -/
def State.lineTagged (s : State) (a : Nat) : Bool :=
  match s.rangeOf a with
  | none => false
  | some r =>
    if s.bit (F.MP_RANGE_STATE_sweeping r) && decide (a < s.sweepPtr) then s.dram.sweepTagged
    else s.bit (F.MP_RANGE_STATE_live_tagged r)

def State.tagBase (s : State) (r : Nat) : Nat := s.fld (F.MP_RANGE_TAG_tag_256k r) * 2 ^ 18

/-- Whether a range has a tag region in use. -/
def State.hasTags (s : State) (r : Nat) : Bool :=
  s.rangeOn r && (s.bit (F.MP_RANGE_STATE_live_tagged r) ||
    (s.bit (F.MP_RANGE_STATE_sweeping r) && s.dram.sweepTagged))

/-- The exclusive end of a range's tag region (R386). -/
def State.tagEnd (s : State) (r : Nat) : Nat :=
  s.tagBase r + (s.rangeLimit r - s.rangeBase r) / 8

/-- The range whose tag region holds an address. -/
def State.tagRegionOf (s : State) (a : Nat) : Option Nat :=
  (List.range 32).find? fun r =>
    s.hasTags r && decide (s.tagBase r ≤ a) && decide (a < s.tagEnd r)

/-- A write of bytes `a` to `a + n - 1` of tag regions: the tags it covers fail (R387). -/
def State.spoilTags (s : State) (a : Nat) : Nat → State
  | 0 => s
  | n + 1 =>
    let s := match s.tagRegionOf a with
      | some r =>
        let x := s.rangeBase r + (a - s.tagBase r) / 8 * 64
        if s.lineTagged x then s.setTagLost (x / 64) true else s
      | none => s
    s.spoilTags (a + 1) n

/-- Whether a line lies in the husk range (R385). -/
def State.inHuskRange (s : State) (a : Nat) : Bool :=
  s.rangeOn 31 && decide (s.rangeBase 31 ≤ a) && decide (a < s.rangeLimit 31)

/-- What a policy field lets through: 0b01 reads, 0b11 reads and writes (R390). -/
def policyAllows (v : Nat) (write : Bool) : Bool := v == 3 || (v == 1 && !write)

/-- Whether an external master may reach a line (R390). -/
def State.externOk (s : State) (m : Master) (a : Nat) (write : Bool) : Bool :=
  if s.inHuskRange a || (s.tagRegionOf a).isSome then false
  else match s.rangeOf a with
    | some r => policyAllows (s.fld (if m = .host then F.MP_RANGE_CFG_ext_host r
        else F.MP_RANGE_CFG_ext_mon r)) write
    | none => policyAllows (s.fld (if m = .host then F.MP_DEFAULT_ext_host
        else F.MP_DEFAULT_ext_mon)) write

/-- The first addresses of the lines that bytes `a` to `a + n - 1` touch. -/
def linesOf (a n : Nat) : List Nat :=
  (List.range ((a % 64 + n + 63) / 64)).map fun i => (a / 64 + i) * 64

/-- A blocked request of an external master (R391). -/
def State.blockedAt (s : State) (m : Master) (a : Nat) : State :=
  let s := match s.rangeOf a with
    | some r => s.satFld (F.MP_RANGE_COUNT_blocked r) (F.MP_RANGE_COUNT_overflow r)
    | none => s
  (s.fault Unit.mp .mpBlocked (.unit m) Code.blockedRange a).error Code.blockedRange

/-- A write to the husk range by another master (R385). -/
def State.fenced (s : State) (m : Master) (a : Nat) : State :=
  (s.fault Unit.mp .mpBlocked (.unit m) Code.notPermitted a).error Code.notPermitted

/-! ## Row counters (R370, R371) -/

def bankKey (i rank bg ba : Nat) : Nat := ((i * 8 + rank) * 8 + bg) * 4 + ba

def BankRef.key (b : BankRef) : Nat := bankKey (2 * b.mc.val + b.sub.val) b.rank.val b.bg.val b.ba.val

def State.bankCounters (s : State) (k : Nat) : List (Nat × Nat) :=
  Table.get noCounters s.dram.counters k
def State.setBankCounters (s : State) (k : Nat) (l : List (Nat × Nat)) : State :=
  { s with dram := { s.dram with counters := Table.set noCounters s.dram.counters k l } }
def State.bankQueue (s : State) (k : Nat) : List Nat := Table.get noRows s.dram.neighbours k
def State.setBankQueue (s : State) (k : Nat) (l : List Nat) : State :=
  { s with dram := { s.dram with neighbours := Table.set noRows s.dram.neighbours k l } }

/-- The count of a row, if it holds a counter. -/
def rowCount (row : Nat) : List (Nat × Nat) → Option Nat
  | [] => none
  | (r, c) :: l => if r = row then some c else rowCount row l

def putCount (row c : Nat) (l : List (Nat × Nat)) : List (Nat × Nat) :=
  l.map fun x => if x.1 = row then (row, c) else x

/-- The first entry with the lowest count replaced by `row` with that count plus 1. -/
def replaceLowest (row : Nat) (l : List (Nat × Nat)) : List (Nat × Nat) × Nat :=
  let m := (l.map (·.2)).foldl min 65535
  match l.findIdx? fun x => x.2 == m with
  | some i => (l.set i (row, min 65535 (m + 1)), min 65535 (m + 1))
  | none => (l, 0)

/-- The counters of a bank after an activate of a row, and the row's count (R370). -/
def activateCounters (row : Nat) (l : List (Nat × Nat)) : List (Nat × Nat) × Nat :=
  match rowCount row l with
  | some c => (putCount row (min 65535 (c + 1)) l, min 65535 (c + 1))
  | none => if l.length < 16 then (l ++ [(row, 1)], 1) else replaceLowest row l

/-- An activate of a row of controller `mc` (R370, R371): a counter at its trigger queues a
neighbour refresh and is reset. -/
def State.activate (s : State) (mc k row : Nat) : State :=
  let r := activateCounters row (s.bankCounters k)
  if s.fld (F.MC_RH_threshold mc) ≤ r.2 ∨ 65535 ≤ r.2 then
    let s := if r.2 < 65535 then s else s.satFld (F.MC_RH_STAT_forced mc) (F.MC_RH_STAT_overflow mc)
    (s.setBankCounters k (putCount row 0 r.1)).setBankQueue k (s.bankQueue k ++ [row])
  else s.setBankCounters k r.1

/-- R369: a bank's refresh delays requests to it alone. -/
def bankRefresh (_b : BankRef) (s : State) : State := s

/-- A queued neighbour refresh runs (R370): the rows at distance 1 and 2 of the bank. -/
def neighbourGo (b : BankRef) (s : State) : State :=
  match s.bankQueue b.key with
  | [] => s
  | _ :: l =>
    (s.setBankQueue b.key l).satFld (F.MC_RH_STAT_refreshes b.mc.val) (F.MC_RH_STAT_overflow b.mc.val)

/-- The refresh window of a bank ends (R370): its counters clear. -/
def windowEnd (b : BankRef) (s : State) : State := s.setBankCounters b.key []

/-! ## Errors of a line (R374, R376) -/

/-- Corrections counted on one device of a rank and subchannel, in MC_CE_DEV. -/
def ceKey (mc j dev : Nat) : Nat := (mc * 16 + j) * 16 + dev

def State.countDevice (s : State) (mc j dev : Nat) : State :=
  let c := Table.get zeroNat s.dram.ceDev (ceKey mc j dev) + 1
  let s := { s with dram := { s.dram with ceDev := Table.set zeroNat s.dram.ceDev (ceKey mc j dev) c } }
  let s := s.satOnly (F.MC_CE_DEV_total mc j)
  let top := s.fld (F.MC_CE_DEV_top_dev mc j)
  if top = dev ∨ Table.get zeroNat s.dram.ceDev (ceKey mc j top) < c then
    (s.setFld (F.MC_CE_DEV_top_dev mc j) dev).setFld (F.MC_CE_DEV_top_count mc j) (min 4095 c)
  else s

/-- A corrected read of the line at `a` (R374). -/
def State.dramCorrected (s : State) (l : LineLoc) (a dev : Nat) : State :=
  let s := s.satFld (F.MC_ECC_COUNT_ce l.mc) (F.MC_ECC_COUNT_overflow l.mc)
  let s := s.countDevice l.mc (2 * s.servingRank l + l.sub) dev
  s.fault (Unit.mc l.mc l.sub) .dramCe (.unit (Unit.mc l.mc l.sub)) 0 (a / 64 * 64 + dev)

/-- An uncorrectable line is counted and latched by its controller (R376, R380). -/
def State.dramLatch (s : State) (l : LineLoc) (a : Nat) (merge : Bool) : State :=
  let s := s.satFld (F.MC_ECC_COUNT_ue l.mc) (F.MC_ECC_COUNT_overflow l.mc)
  let x := a / 64 * 64
  let s := s.setReg (R.MC_UE_ADDR_LO l.mc) (BitVec.ofNat 32 x)
  s.setReg (R.MC_UE_ADDR_HI l.mc)
    (BitVec.ofNat 32 (2 ^ 31 + b2n merge * 2 ^ 30 + x / 2 ^ 32 % 65536))

/-- The record of an uncorrectable read (R376). -/
def State.dramUeRecord (s : State) (l : LineLoc) (a : Nat) : State :=
  s.fault (Unit.mc l.mc l.sub) .dramUe (.unit (Unit.mc l.mc l.sub)) 0 (a / 64 * 64) true

/-- What one copy's code says: its errors are recorded by its own controller. -/
def State.copyErrors (s : State) (l : LineLoc) (a : Nat) (merge : Bool) (dev : Nat) : Ecc → State
  | .clean => s
  | .corrected => s.dramCorrected l a dev
  | .uncorrectable => s.dramLatch l a merge

/-- How a line comes back: good, uncorrectable in every copy, or from no subchannel. -/
inductive LineRead where
  | good
  | bad
  | noChannel
  deriving DecidableEq, Repr

/-- Whether the subchannel of a place serves. -/
def State.serves (s : State) (l : LineLoc) : Bool := (s.subch l.i).up && !(s.subch l.i).down

/-- A read of the stored line, of either copy (R376, R380). -/
def State.readLine (s : State) (p : LineLoc × Option LineLoc) (a : Nat) (merge : Bool) (x : LineHw) :
    LineRead × State :=
  let own := s.serves p.1
  let s1 := if own then s.copyErrors p.1 a merge x.dev.val x.own else s
  if own && x.own != .uncorrectable then (.good, s1)
  else match p.2 with
    | some q =>
      if s.serves q then
        let s2 := s1.copyErrors q a merge x.partnerDev.val x.partner
        if x.partner = .uncorrectable then (.bad, s2.dramUeRecord p.1 a) else (.good, s2)
      else if own then (.bad, s1.dramUeRecord p.1 a) else (.noChannel, s1)
    | none => if own then (.bad, s1.dramUeRecord p.1 a) else (.noChannel, s1)

/-- A failed tag is counted and reported (R388). -/
def State.tagFailed (s : State) (a : Nat) : State :=
  match s.rangeOf a with
  | some r =>
    (s.satFld (F.MP_RANGE_COUNT_tag_fail r) (F.MP_RANGE_COUNT_overflow r)).fault Unit.mp .mpTag
      (.unit Unit.mp) 0 (a / 64 * 64) true
  | none => s

/-! ## Read and write pieces -/

/-- Whether bytes `a` to `a + n - 1` lie in one mapped line. -/
def State.pieceOk (s : State) (a n : Nat) : Bool :=
  decide (0 < n) && decide (a % 64 + n ≤ 64) && s.dramMapped a

/-- The place that serves a line: its zone's map applied to the remapped page. -/
def State.linePlace (s : State) (a : Nat) : LineLoc × Option LineLoc :=
  let b := s.remapped (a / 64 * 64)
  s.placeOf ((s.zoneOf b).getD 0) b

/-- The controller leaves self-refresh for an access (R381). -/
def State.wakeMc (s : State) (mc : Nat) : State :=
  { s with dram := { s.dram with asleep := Table.set notMarked s.dram.asleep mc false } }

/-- The bank of a place, as the key of its counters. -/
def State.bankOf (s : State) (l : LineLoc) : Nat := bankKey l.i (s.servingRank l) l.bg l.ba

/-- Bytes that the spec gives no value, `n` of them, and the state with the values used. -/
def State.freeBytes (s : State) : Nat → List Byte × State
  | 0 => ([], s)
  | n + 1 =>
    let f := s.free
    let r := f.2.freeBytes n
    (BitVec.ofNat 8 f.1 :: r.1, r.2)

/-- The contents of a SCRAMBLE or SEAL range are gone with its key (R392). -/
def State.keyGone (s : State) (a : Nat) : Bool :=
  !s.bit F.MP_STATUS_keys_valid &&
    (match s.rangeOf a with
     | some r => s.fld (F.MP_RANGE_STATE_live_mode r) != 0
     | none => false)

/-- What a read piece returns (R375, R376, R388). -/
def State.readAnswer (s : State) (l : LineLoc) (a n : Nat) (r : LineRead) (tagOk : Bool) : State :=
  let ue := s.bit (F.MC_CTRL_ue_mode l.mc)
  match r with
  | .noChannel => s.error Code.channelDown
  | .bad =>
    if ue then s.error Code.poisoned
    else let f := s.freeBytes n; f.2.reply f.1 true
  | .good =>
    if s.lineMark (a / 64) then s.reply (s.dramLoad a n) true
    else if s.lineTagged a && (!tagOk || s.tagLost (a / 64)) then
      let s := s.tagFailed a
      if ue then s.error Code.tagMismatch else s.reply (s.dramLoad a n) true
    else if (s.tagRegionOf a).isSome || s.keyGone a then
      let f := s.freeBytes n
      f.2.reply f.1
    else s.reply (s.dramLoad a n)

/-- A piece of a read (R362, R370, R376, R380, R388). An activate of a bank whose queue of
neighbour refreshes is full waits (R371). -/
def readPiece (m : Master) (a n : Nat) (x : LineHw) (s : State) : State :=
  if !s.pieceOk a n then s.decodeError (Unit.mc 0 0) m
  else
    let p := s.linePlace a
    let k := s.bankOf p.1
    if x.activate && decide (8 ≤ (s.bankQueue k).length) then s
    else
      let s := s.wakeMc p.1.mc
      let s := if x.activate && s.serves p.1 then s.activate p.1.mc k p.1.row else s
      let marked := s.lineMark (a / 64)
      let r := s.readLine p a false (if marked then { x with own := .clean, partner := .clean } else x)
      r.2.readAnswer p.1 a n r.1 x.tagOk

/-- The line is merged for a partial write (R368, R389): whether the merged line is poisoned. -/
def State.mergeBad (s : State) (p : LineLoc × Option LineLoc) (a : Nat) (x : LineHw) : Bool × State :=
  if s.lineMark (a / 64) then (true, s)
  else
    let r := s.readLine p a true x
    if r.1 = .bad then (true, r.2)
    else if s.lineTagged a && (!x.tagOk || s.tagLost (a / 64)) then (true, r.2.tagFailed a)
    else (false, r.2)

/-- Bytes of a line whose unwritten part is lost are stored over free values. -/
def State.storeLine (s : State) (a : Nat) (bytes : List Byte) (bad : Bool) : State :=
  let s := (s.dramStore a bytes).setLineMark (a / 64) bad
  (s.setTagLost (a / 64) false).spoilTags a bytes.length

/-- A write piece accepted into the write queue (R368, R375, R380, R389): a piece that fails its
CRC check, or is poisoned, is stored poisoned. -/
def State.writeLine (s : State) (p : LineLoc × Option LineLoc) (a : Nat) (bytes : List Byte)
    (poison crcOk : Bool) (x : LineHw) : State :=
  let s := if crcOk then s
    else (s.niCrcFail (Unit.mc p.1.mc p.1.sub).ni).fault (Unit.mc p.1.mc p.1.sub) .crc
  let whole := bytes.length == 64
  let m := if whole then (false, s) else s.mergeBad p a x
  let bad := poison || !crcOk || m.1
  let s := m.2.storeLine a bytes bad
  if !crcOk || m.1 then s.error Code.poisoned else s.ack

/-- A mirrored line held in one copy only (R380). -/
def State.degrade (s : State) (p : LineLoc × Option LineLoc) : State :=
  match p.2 with
  | none => s
  | some q =>
    let mark := fun (s : State) (l : LineLoc) =>
      if s.serves l then s
      else (s.setBit (F.MC_STATUS_mirror_degraded l.mc) true).setSubch l.i { s.subch l.i with resync := true }
    mark (mark s p.1) q

/-- Whether some copy of a line can be written. -/
def State.writable (s : State) (p : LineLoc × Option LineLoc) : Bool :=
  s.serves p.1 || match p.2 with
    | some q => s.serves q
    | none => false

/-- A piece of a write. -/
def writePiece (m : Master) (a : Nat) (bytes : List Byte) (poison crcOk : Bool) (x : LineHw) (s : State) :
    State :=
  if !s.pieceOk a bytes.length then s.decodeError (Unit.mc 0 0) m
  else if s.inHuskRange a && !(m.same .husk) then s.fenced m a
  else
    let p := s.linePlace a
    let k := s.bankOf p.1
    if !s.writable p then s.error Code.channelDown
    else if x.activate && decide (8 ≤ (s.bankQueue k).length) then s
    else
      let s := s.wakeMc p.1.mc
      let s := if x.activate && s.serves p.1 then s.activate p.1.mc k p.1.row else s
      (s.degrade p).writeLine p a bytes poison crcOk x

/-! ## Whole requests (R362, R385, R391) -/

/-- The part of bytes `a` to `a + n - 1` that lies in the line at `l`: address and length. -/
def partIn (a n l : Nat) : Nat × Nat :=
  let lo := max a l
  (lo, min (a + n) (l + 64) - lo)

/-- Read pieces merged in address order; the first error ends the request. -/
def State.readPieces (s : State) (m : Master) (a n : Nat) : List Nat → List Byte → Bool → State
  | [], bytes, poison => s.reply bytes poison
  | l :: ls, bytes, poison =>
    let q := partIn a n l
    let s := readPiece m q.1 q.2 {} s
    match s.response with
    | .data b p => s.readPieces m a n ls (bytes ++ b) (poison || p)
    | _ => s

/-- Write pieces; the first error is the request's response. -/
def State.writePieces (s : State) (m : Master) (a : Nat) (bytes : List Byte) (poison crcOk : Bool) :
    List Nat → Resp → State
  | [], r => { s with response := r }
  | l :: ls, r =>
    let q := partIn a bytes.length l
    let s := writePiece m q.1 ((bytes.drop (q.1 - a)).take q.2) poison crcOk {} s
    s.writePieces m a bytes poison crcOk ls (match r with
      | .error e => .error e
      | _ => s.response)

/-- The line of a request that an external master may not reach, if any. -/
def State.externBlock (s : State) (m : Master) (a n : Nat) (write : Bool) : Option Nat :=
  if m.external then (linesOf a n).find? fun l => !s.externOk m l write else none

/-- A DRAM read of `n` bytes (R18, R362, R391). -/
def dramRead (m : Master) (a n : Nat) (s : State) : State :=
  if n = 0 ∨ !(linesOf a n).all s.dramMapped then s.decodeError (Unit.mc 0 0) m
  else match s.externBlock m a n false with
    | some l => s.blockedAt m l
    | none => s.readPieces m a n (linesOf a n) [] false

/-- A DRAM write (R18, R362, R385, R391). -/
def dramWrite (m : Master) (a : Nat) (bytes : List Byte) (poison crcOk : Bool) (s : State) : State :=
  let ls := linesOf a bytes.length
  if bytes.length = 0 ∨ !ls.all s.dramMapped then s.decodeError (Unit.mc 0 0) m
  else match s.externBlock m a bytes.length true with
    | some l => s.blockedAt m l
    | none =>
      match ls.find? fun l => s.inHuskRange l && !(m.same .husk) with
      | some l => s.fenced m l
      | none => s.writePieces m a bytes poison crcOk ls (.ack 0)

/-! ## Temperature and training (R369, R373) -/

/-- R369. -/
def hot (mc celsius : Nat) (s : State) : State :=
  if 95 < celsius then s.fault (Unit.mc mc 0) .dramHot (.unit (Unit.mc mc 0)) 0 celsius else s

/-- Ranks put into retraining, at step 0; one already in retraining stays where it is. -/
def addTraining (l : List (Nat × Nat)) : List Nat → List (Nat × Nat)
  | [] => l
  | r :: rs => addTraining (if l.any fun x => x.1 == r then l else l ++ [(r, 0)]) rs

/-- MC_TRAIN.busy shows whether a subchannel of the controller retrains. -/
def State.showTraining (s : State) (mc : Nat) : State :=
  s.setBit (F.MC_TRAIN_busy mc)
    (!(s.subch (2 * mc)).training.isEmpty || !(s.subch (2 * mc + 1)).training.isEmpty)

/-- Ranks of a subchannel begin retraining. -/
def State.beginTraining (s : State) (mc sub : Nat) (ranks : List Nat) : State :=
  let i := 2 * mc + sub
  let x := s.subch i
  let x := if x.training.isEmpty then { x with noWindow := [] } else x
  (s.setSubch i { x with training := addTraining x.training ranks }).showTraining mc

/-- The periodic check (R373): a rank whose drift or temperature change is above its limit is
retrained. -/
def checkTraining (mc sub : Nat) (found : List RankDrift) (s : State) : State :=
  if s.serves { mc := mc, sub := sub, rank := 0, bg := 0, ba := 0, row := 0, col := 0 } then
    s.beginTraining mc sub ((found.filter fun f =>
      decide (s.fld (F.MC_TRAIN_drift_ps mc) < f.drift.toNat) ||
        decide (s.fld (F.MC_TRAIN_temp_delta mc) < f.temp.toNat)).map (·.rank.val))
  else s

/-- A write of MC_TRAIN.retrain (R373): every rank. -/
def retrainAll (mc : Nat) (s : State) : State :=
  let ranks := List.range (s.fld (F.MC_STATUS_ranks mc))
  if s.bit (F.MC_STATUS_trained mc) then
    ((s.beginTraining mc 0 ranks).beginTraining mc 1 ranks).ack
  else s.ack

/-- MC_STATUS.sub_up and the fact that a subchannel is down. -/
def State.markSub (s : State) (mc sub : Nat) (down : Bool) : State :=
  let i := 2 * mc + sub
  let s := s.setSubch i { s.subch i with down := down, caTraining := false }
  s.setFld (F.MC_STATUS_sub_up mc) (withBit (s.fld (F.MC_STATUS_sub_up mc)) sub (!down))

/-- A rank's retraining has ended (R373, R377): three failures running mark it degraded, and a
subchannel without a passing window on any rank is down. -/
def State.endTraining (s : State) (mc sub rank : Nat) (ok : Bool) : State :=
  let i := 2 * mc + sub
  let x := s.subch i
  let x := { x with training := x.training.filter fun t => t.1 != rank }
  if ok then
    (s.setSubch i { x with failures := Table.set zeroNat x.failures rank 0 }).showTraining mc
  else
    let n := Table.get zeroNat x.failures rank + 1
    let x := { x with failures := Table.set zeroNat x.failures rank n, noWindow := x.noWindow ++ [rank] }
    let x := if 3 ≤ n ∧ !x.degraded.contains rank then { x with degraded := x.degraded ++ [rank] } else x
    let s := ((s.setSubch i x).showTraining mc).fault (Unit.mc mc sub) .dramTrain
      (.unit (Unit.mc mc sub)) 0 rank
    let s := if 3 ≤ n then s.setBit (F.MC_STATUS_degraded mc) true else s
    if (List.range (s.fld (F.MC_STATUS_ranks mc))).all x.noWindow.contains then s.markSub mc sub true
    else s

/-- A retraining step (R373). -/
def trainStep (mc sub rank : Nat) (result : Option Bool) (s : State) : State :=
  let i := 2 * mc + sub
  let x := s.subch i
  match x.training.find? fun t => t.1 == rank with
  | none => s
  | some t =>
    match result with
    | some ok => s.endTraining mc sub rank ok
    | none =>
      if 40 ≤ t.2 + 1 then s.endTraining mc sub rank true
      else s.setSubch i { x with
        training := x.training.map fun u => if u.1 = rank then (rank, t.2 + 1) else u }

/-! ## Command/address parity (R377) -/

/-- A parity error of the command/address path: a retry, and on failure a retraining of the
path; three failed retries within 1 s take the subchannel down. -/
def caParity (mc sub : Nat) (retryOk : Bool) (s : State) : State :=
  if retryOk then s.satFld (F.MC_CAPAR_retried mc) (F.MC_CAPAR_overflow mc)
  else
    let i := 2 * mc + sub
    let s := s.satFld (F.MC_CAPAR_failed mc) (F.MC_CAPAR_overflow mc)
    let s := s.fault (Unit.mc mc sub) .dramCa
    let x := s.subch i
    let fails := (x.caFails.filter fun t => decide (s.now < t + 1000000000)) ++ [s.now]
    let s := s.setSubch i { x with caTraining := true, caFails := fails }
    s.error Code.caFailed

/-- The path has been retrained, or the subchannel is declared down. -/
def caRetrained (mc sub : Nat) (s : State) : State :=
  let i := 2 * mc + sub
  let x := s.subch i
  if !x.caTraining then s
  else if 3 ≤ x.caFails.length then (s.setSubch i { x with caFails := [] }).markSub mc sub true
  else s.setSubch i { x with caTraining := false }

/-! ## Sparing and mirroring (R379, R380) -/

/-- A refused write or a failure recorded in MC_STATUS. -/
def State.mcStatus (s : State) (mc status : Nat) : State := s.setFld (F.MC_STATUS_last_status mc) status

/-- The MC_SPARE fields a write sets: the copy rate at the nearer limit, and by the husk the
failed rank. -/
def State.spareFields (s : State) (m : Master) (mc : Nat) (w : Word) : State :=
  let s := s.setFld (F.MC_SPARE_copy_mbs mc) (max 500 (min 20000 (bitsOf w 0 16)))
  if m.same .husk then s.setFld (F.MC_SPARE_failed_rank mc) (bitsOf w 24 3) else s

/-- A write of MC_SPARE (R379): the husk starts the copy of a failed rank; a controller uses its
spare once. -/
def spareGo (m : Master) (mc : Nat) (w : Word) (s : State) : State :=
  let s := s.spareFields m mc w
  if !(w.getLsbD 31) then s.ack
  else if !(m.same .husk) then (s.mcStatus mc Code.notPermitted).ack
  else if s.bit (F.MC_SPARE_used mc) || !s.bit F.MCG_MAP_spare_en then
    ((s.mcStatus mc Code.noSpare).fault .husk .repair (.unit (Unit.mc mc 0)) Code.noSpare mc).ack
  else if s.bit (F.MC_SPARE_busy mc) then s.ack
  else ((s.setBit (F.MC_SPARE_busy mc) true).setFld (F.MC_SPARE_progress mc) 0).openSub.ack

/-- Lines copied poisoned. -/
def State.markLines (s : State) : List Nat → State
  | [] => s
  | l :: ls => (s.setLineMark l true).markLines ls

/-- The rank copy is complete, and the remap is staged (R379). -/
def rankCopied (mc : Nat) (bad : List (BitVec 48)) (s : State) : State :=
  if !s.bit (F.MC_SPARE_busy mc) || s.fld (F.MC_SPARE_progress mc) == 100 then s
  else
    let s := (s.markLines (bad.map fun a => a.toNat / 64)).setFld (F.MC_SPARE_progress mc) 100
    (s.huskStage [(Unit.mc mc 0, .remap true (BitVec.ofNat 32 mc))]).2

/-- The remap applies (R379): the spare serves the rank and the substitution closes. -/
def State.spareApply (s : State) (mc : Nat) : State :=
  let r := s.fld (F.MC_SPARE_failed_rank mc)
  let s := { s with dram := { s.dram with spared := Table.set notSpared s.dram.spared mc (some r) } }
  let s := ((s.setBit (F.MC_SPARE_busy mc) false).setBit (F.MC_SPARE_used mc) true).setBit
    (F.MC_STATUS_spare_used mc) true
  s.closeSub (.rank (Fin.ofNat 8 mc) (Fin.ofNat 8 r))

/-- The sparing is abandoned after its transaction has aborted twice (R379). -/
def State.spareAbandon (s : State) (mc : Nat) : State :=
  let s := (s.setBit (F.MC_SPARE_busy mc) false).mcStatus mc Code.repairAbandoned
  (s.fault .husk .repair (.unit (Unit.mc mc 0)) Code.repairAbandoned mc).closeSub
    (.rank (Fin.ofNat 8 mc) (Fin.ofNat 8 (s.fld (F.MC_SPARE_failed_rank mc))))

/-- A subchannel has returned and its mirrored lines have been copied back (R380), as a
substitution of the husk. -/
def resynced (mc sub : Nat) (s : State) : State :=
  let i := 2 * mc + sub
  let x := s.subch i
  if !x.resync then s
  else
    let s := (s.setSubch i { x with resync := false }).markSub mc sub false
    if (s.subch (2 * mc + 1 - sub)).resync then s
    else s.setBit (F.MC_STATUS_mirror_degraded mc) false

/-- R381: 100 µs without an access in DORMANT. -/
def selfRefresh (mc : Nat) (s : State) : State :=
  if s.mode = Mode.dormant then
    { s with dram := { s.dram with asleep := Table.set notMarked s.dram.asleep mc true } }
  else s

/-! ## Range registers (R382, R385, R393) -/

/-- A refusal recorded for a range. -/
def State.rangeStatus (s : State) (r status : Nat) : State :=
  s.setFld (F.MP_RANGE_STATE_last_status r) status

def State.mpStatus (s : State) (status : Nat) : State := s.setFld F.MP_STATUS_last_status status

/-- Whether two address ranges overlap. -/
def overlaps (a b c d : Nat) : Bool := decide (a < d) && decide (c < b)

/-- The rules for an enabled range (R382). -/
def State.rangeValid (s : State) (r : Nat) : Bool :=
  decide (s.rangeBase r < s.rangeLimit r) && decide (s.rangeLimit r ≤ s.capacity) &&
    (List.range 32).all fun q => q == r || !s.rangeOn q ||
      !overlaps (s.rangeBase r) (s.rangeLimit r) (s.rangeBase q) (s.rangeLimit q)

def State.countRanges (s : State) : State :=
  s.setFld F.MP_STATUS_ranges_en ((List.range 32).filter s.rangeOn).length

/-- Whether a range is live PLAIN and untagged, and is not being swept. -/
def State.livePlain (s : State) (r : Nat) : Bool :=
  s.fld (F.MP_RANGE_STATE_live_mode r) == 0 && !s.bit (F.MP_RANGE_STATE_live_tagged r) &&
    !s.bit (F.MP_RANGE_STATE_sweeping r)

/-- The external policies alone. -/
def State.setExt (s : State) (r host mon : Nat) : State :=
  (s.setFld (F.MP_RANGE_CFG_ext_host r) host).setFld (F.MP_RANGE_CFG_ext_mon r) mon

/-- A write of MP_RANGE_CFG (R382, R390, R393). -/
def rangeCfg (m : Master) (r : Nat) (w : Word) (s : State) : State :=
  let host := bitsOf w 26 2
  let mon := bitsOf w 24 2
  let husk := bitsOf w 28 4
  if host = 2 ∨ mon = 2 then (s.rangeStatus r Code.invalidArgument).ack
  else if !(m.same .husk) then
    let s' := s.setExt r host mon
    (if husk = bitsOf (s.reg (R.MP_RANGE_CFG r)) 28 4 then s' else s'.rangeStatus r Code.notPermitted).ack
  else if bitsOf w 28 2 = 3 then (s.rangeStatus r Code.invalidArgument).ack
  else if w.getLsbD 31 && !s.rangeOn r then
    if s.rangeValid r then
      let s := s.setReg (R.MP_RANGE_CFG r) (w &&& 0xFF000000#32)
      (((s.setFld (F.MP_RANGE_STATE_live_mode r) 0).setBit (F.MP_RANGE_STATE_live_tagged r) false).countRanges).ack
    else (s.rangeStatus r Code.invalidArgument).ack
  else if !(w.getLsbD 31) && s.rangeOn r && !s.livePlain r then (s.rangeStatus r Code.notPermitted).ack
  else ((s.setReg (R.MP_RANGE_CFG r) (w &&& 0xFF000000#32)).countRanges).ack

/-- A write of the external policy of a range or of uncovered DRAM (R390, R393). -/
def policyWrite (r : Option Nat) (host mon : Nat) (s : State) : State :=
  match r with
  | some r =>
    if host = 2 ∨ mon = 2 then (s.rangeStatus r Code.invalidArgument).ack else (s.setExt r host mon).ack
  | none =>
    if host = 2 ∨ mon = 2 then (s.mpStatus Code.invalidArgument).ack
    else ((s.setFld F.MP_DEFAULT_ext_host host).setFld F.MP_DEFAULT_ext_mon mon).ack

/-- A write of base, limit or tag_base (R393): by the husk, while en is 0. -/
def rangeWrite (m : Master) (r off : Nat) (mask w : Word) (s : State) : State :=
  if s.reg off = (w &&& mask) then s.ack
  else if m.same .husk && !s.rangeOn r then (s.setReg off (w &&& mask)).ack
  else (s.rangeStatus r Code.notPermitted).ack

/-! ## Sweeps (R386, R394 to R396) -/

/-- Whether a sweep of `r` to a tagged form has a legal tag region (R386). -/
def State.tagRegionOk (s : State) (r : Nat) : Bool :=
  decide (s.tagEnd r ≤ s.capacity) &&
    (List.range 32).all fun q =>
      (!s.rangeOn q || !overlaps (s.tagBase r) (s.tagEnd r) (s.rangeBase q) (s.rangeLimit q) ||
        (q != r && s.livePlain q)) &&
      (q == r || !s.hasTags q || !overlaps (s.tagBase r) (s.tagEnd r) (s.tagBase q) (s.tagEnd q))

/-- The tagging a sweep of `r` to its target leaves. -/
def State.targetTagged (s : State) (r : Nat) : Bool :=
  s.fld (F.MP_RANGE_CFG_mode r) == 2 || (s.fld (F.MP_RANGE_CFG_mode r) == 1 && s.bit (F.MP_RANGE_CFG_tagged r))

/-- A sweep of `r` begins (R394): a fresh key, and the pointer at its base. -/
def State.sweepBegin (s : State) (r : Nat) (init : Bool) (mode : Nat) (tagged : Bool) : State :=
  let s := (s.incFld (F.MP_RANGE_STATE_gen r)).setBit (F.MP_RANGE_STATE_sweeping r) true
  let s := (s.setBit F.MP_SWEEP_busy true).setFld F.MP_SWEEP_range r
  let s := (s.setBit F.MP_SWEEP_init init).setFld F.MP_SWEEP_progress 0
  let s := s.setPair R.MP_SWEEP_PTR_LO R.MP_SWEEP_PTR_HI (s.rangeBase r)
  { s with dram := { s.dram with sweepMode := BitVec.ofNat 2 mode, sweepTagged := tagged } }

/-- A sweep to the form that MP_RANGE_CFG names. -/
def State.sweepTarget (s : State) (r : Nat) (init : Bool) : State :=
  s.sweepBegin r init (s.fld (F.MP_RANGE_CFG_mode r)) (s.targetTagged r)

/-- A write of MP_SWEEP (R393, R394, R396). -/
def sweepGo (m : Master) (w : Word) (s : State) : State :=
  let rate := max 500 (min 20000 (bitsOf w 0 16))
  let s := s.setFld F.MP_SWEEP_rate_mbs rate
  let go := w.getLsbD 31
  if !(m.same .husk) then
    let same := bitsOf w 30 1 = s.fld F.MP_SWEEP_init ∧ bitsOf w 24 5 = s.fld F.MP_SWEEP_range
    (if go = false ∧ same then s else s.mpStatus Code.notPermitted).ack
  else if s.bit F.MP_SWEEP_busy then (if go then s.mpStatus Code.sweepBusy else s).ack
  else
    let r := bitsOf w 24 5
    let s := (s.setFld F.MP_SWEEP_range r).setFld F.MP_SWEEP_init (bitsOf w 30 1)
    if !go then s.ack
    else if !s.rangeOn r || (s.targetTagged r && !s.tagRegionOk r) then (s.mpStatus Code.invalidArgument).ack
    else (s.sweepTarget r (w.getLsbD 30)).ack

/-- The policy's next range is set up and its sweep begins (R394). A range that breaks a rule is
skipped, with the refusal its registers record. -/
def State.bringUpFrom (s : State) : List RangePolicy → State
  | [] => { s with dram := { s.dram with bringUp := [] } }
  | p :: l =>
    let s := { s with dram := { s.dram with bringUp := l } }
    let s := (s.setReg (R.MP_RANGE_BASE p.range) p.base).setReg (R.MP_RANGE_LIMIT p.range) p.limit
    let s := s.setReg (R.MP_RANGE_TAG p.range) p.tag
    let s := rangeCfg .husk p.range (p.cfg ||| 0x80000000#32) s
    if s.rangeOn p.range && (!s.targetTagged p.range || s.tagRegionOk p.range) then
      s.sweepTarget p.range true
    else s.bringUpFrom l

/-- A re-key of a range (R394): a sweep to its live form. -/
def State.rekey (s : State) (r : Nat) : State :=
  s.sweepBegin r false (s.fld (F.MP_RANGE_STATE_live_mode r)) (s.bit (F.MP_RANGE_STATE_live_tagged r))

/-- The next sweep the husk starts once none runs. -/
def State.nextSweep (s : State) : State :=
  let s := s.bringUpFrom s.dram.bringUp
  if s.bit F.MP_SWEEP_busy then s
  else match s.dram.rekeys with
    | [] => s
    | r :: l =>
      let s := { s with dram := { s.dram with rekeys := l } }
      if s.rangeOn r then s.rekey r else s

/-- The sweep has reached the limit of its range (R395): the live fields take the target. -/
def State.sweepEnd (s : State) (r : Nat) : State :=
  let s := s.setFld (F.MP_RANGE_STATE_live_mode r) s.dram.sweepMode.toNat
  let s := s.setBit (F.MP_RANGE_STATE_live_tagged r) s.dram.sweepTagged
  let s := (s.setBit (F.MP_RANGE_STATE_sweeping r) false).setBit F.MP_SWEEP_busy false
  s.nextSweep

/-- The line at the pointer is converted (R394, R395): zeros under init; an uncorrectable line,
or one that fails its tag, is written with the poison marking. -/
def State.convertLine (s : State) (a : Nat) (x : LineHw) : State :=
  if s.bit F.MP_SWEEP_init then
    ((s.dramStore a (List.replicate 64 0)).setLineMark (a / 64) false).setTagLost (a / 64) false
  else
    let r := s.mergeBad (s.linePlace a) a x
    (if r.1 then r.2.setLineMark (a / 64) true else r.2).setTagLost (a / 64) false

/-- One line of a sweep (R395, R396): it pauses in DORMANT. -/
def sweepLine (x : LineHw) (s : State) : State :=
  if !s.bit F.MP_SWEEP_busy || s.mode == Mode.dormant then s
  else
    let r := s.fld F.MP_SWEEP_range
    let a := s.sweepPtr
    let s := s.convertLine a x
    let s := s.setPair R.MP_SWEEP_PTR_LO R.MP_SWEEP_PTR_HI (a + 64)
    let n := s.rangeLimit r - s.rangeBase r
    let s := s.setFld F.MP_SWEEP_progress ((a + 64 - s.rangeBase r) * 100 / n)
    if s.rangeLimit r ≤ a + 64 then s.sweepEnd r else s

/-- rekey_days have passed for a range (R396). -/
def rekeyGo (r : Nat) (s : State) : State :=
  if !s.rangeOn r then s
  else if s.bit F.MP_SWEEP_busy then { s with dram := { s.dram with rekeys := s.dram.rekeys ++ [r] } }
  else s.rekey r

/-! ## Scrubbing and page retirement (R400, R402, R403) -/

/-- A lap of the patrol scrubber ends at its last line, where it starts anew. -/
def State.patrolLap (s : State) (i a : Nat) : State :=
  let x := s.subch i
  if a / 64 * 64 ≠ 0 ∧ s.capacity ≤ a / 64 * 64 + 8192 then
    (s.setReg (R.MP_SCRUB_DRAM0 i) (BitVec.ofNat 32 ((s.now - x.lapStart) / 1000000000))).setSubch i
      { x with lapStart := s.now }
  else s

/-- A patrol read (R397, R400): ECC alone; a corrected line is written back as stored, and an
uncorrectable line is poisoned from then on. -/
def patrol (mc sub a : Nat) (ecc : Ecc) (dev : Nat) (s : State) : State :=
  let l : LineLoc := { (s.linePlace a).1 with mc := mc, sub := sub }
  let i := 2 * mc + sub
  if !s.serves l then s
  else
    let s := match (if s.lineMark (a / 64) then Ecc.clean else ecc) with
      | .clean => s
      | .corrected => (s.dramCorrected l a dev).satFld (F.MP_SCRUB_DRAM1_corrected i) (F.MP_SCRUB_DRAM1_overflow i)
      | .uncorrectable => ((s.dramLatch l a false).dramUeRecord l a).setLineMark (a / 64) true
    s.patrolLap i a

/-- The husk opens a page retirement (R403), unless the pool is exhausted. -/
def retireOpen (page : Nat) (s : State) : State :=
  if s.dram.retired.contains page || s.dram.retiring.any fun r => r.1 == page then s
  else if 1024 ≤ s.dram.retired.length then
    (s.setFld F.MP_RETIRE_STATUS_last_status Code.noSpare).fault .husk .repair (.unit Unit.mp) Code.noSpare page
  else ({ s with dram := { s.dram with retiring := s.dram.retiring ++ [(page, false)] } }).openSub

/-- The page's lines are copied, and the remap is staged (R403). -/
def pageCopied (page : Nat) (bad : List (Fin 64)) (s : State) : State :=
  if s.dram.retiring.contains (page, false) then
    let s := s.markLines (bad.map fun l => page * 64 + l.val)
    let r := s.huskStage [(Unit.mp, .remap false (BitVec.ofNat 32 page))]
    if r.1 = 0 then r.2
    else { r.2 with dram := { r.2.dram with
      retiring := r.2.dram.retiring.map fun x => if x.1 = page then (page, true) else x } }
  else s

/-- The remap of a page applies (R403). -/
def State.retireApply (s : State) (page : Nat) : State :=
  if s.dram.retiring.any fun x => x.1 % 2 ^ 32 == page then
    let p := ((s.dram.retiring.find? fun x => x.1 % 2 ^ 32 == page).map (·.1)).getD page
    let s := { s with dram := { s.dram with
      retiring := s.dram.retiring.filter fun x => x.1 != p
      retired := s.dram.retired ++ [p] } }
    (s.setFld F.MP_RETIRE_STATUS_used s.dram.retired.length).closeSub (.page (BitVec.ofNat 36 p))
  else s

/-- A retirement is abandoned after its transaction has aborted twice (R403). -/
def State.retireAbandon (s : State) (page : Nat) : State :=
  let s := { s with dram := { s.dram with retiring := s.dram.retiring.filter fun x => x.1 % 2 ^ 32 != page } }
  let s := s.setFld F.MP_RETIRE_STATUS_last_status Code.repairAbandoned
  (s.fault .husk .repair (.unit Unit.mp) Code.repairAbandoned page).closeSub (.page (BitVec.ofNat 36 page))

/-! ## Bringing DRAM up (R360, R361, R364, R365, R372, R378, R385, R392, R394) -/

/-- Logical ranks per DIMM, and row bits, of types A to E (Table 12.1). -/
def typeRanks (t : Nat) : Nat := [1, 2, 1, 2, 4].getD t 1
def typeRows (t : Nat) : Nat := if t = 2 ∨ t = 3 then 17 else 16

/-- Whether a zone table is valid (R364): strictly rising limits up to the capacity, and every
mirrored zone a whole number of 2 GiB. -/
def zonesFrom (prev cap : Nat) : List Word → Bool
  | [] => prev == cap
  | z :: zs =>
    let l := bitsOf z 0 12
    if l = 0 then prev == cap
    else decide (prev < l) && (!(z.getLsbD 31) || (l - prev) % 2 == 0) && zonesFrom l cap zs

/-- The default mask j (R365): row bits row_lo + j and row_lo + 9 + j that lie in the row field. -/
def defaultMask (rowLo rowBits j : Nat) : Word :=
  BitVec.ofNat 32 ((2 ^ (rowLo + j) +
    (if 9 + j < rowBits then 2 ^ (rowLo + 9 + j) else 0)) / 65536)

/-- Whether a mask selects row bits alone. -/
def maskOk (rowLo rowBits : Nat) (w : Word) : Bool :=
  let m := w.toNat * 65536
  m % 2 ^ rowLo == 0 && decide (m < 2 ^ (rowLo + rowBits))

/-- The capacity in GiB, spare ranks excluded (R363, R378). -/
def populationGib (ways8 : Bool) (ranks rows : Nat) (spare : Bool) : Nat :=
  2 ^ ((if ways8 then 22 else 21) + rows) * (if spare then ranks - 1 else ranks) / 2 ^ 30

/-- The zone words of a policy, or zone 0 HASH over the whole capacity. -/
def MemPolicy.zoneWords (p : MemPolicy) (gib : Nat) : List Word :=
  if p.zones.isEmpty then [BitVec.ofNat 32 gib] else p.zones

def MemPolicy.hashWords (p : MemPolicy) (rowLo rows : Nat) : List Word :=
  if p.hashes.isEmpty then (List.range 9).map (defaultMask rowLo rows) else p.hashes

/-- Whether the settings fit the population (R361, R364, R365, R378). -/
def MemPolicy.fits (p : MemPolicy) (ways8 : Bool) (ranks rows : Nat) : Bool :=
  let gib := populationGib ways8 ranks rows p.spareEn
  (!p.spareEn || decide (2 ≤ ranks)) && zonesFrom 0 gib (p.zoneWords gib) &&
    (p.hashWords (if ways8 then 22 else 21) rows).all (maskOk (if ways8 then 22 else 21) rows)

/-- Registers written one after another from an offset on. -/
def State.setRegs (s : State) (off : Nat) : List Word → State
  | [] => s
  | w :: ws => (s.setReg off w).setRegs (off + 4) ws

/-- Controllers `k - 1` down to 0 are trained. -/
def State.trainedMc (s : State) (ranks : Nat) (dpc2 : Bool) : Nat → State
  | 0 => s
  | k + 1 =>
    let s := (s.setBit (F.MC_STATUS_trained k) true).setBit (F.MC_STATUS_dpc2 k) dpc2
    let s := (s.setFld (F.MC_STATUS_ranks k) ranks).setFld (F.MC_STATUS_sub_up k) 3
    let s := (s.setSubch (2 * k) { up := true }).setSubch (2 * k + 1) { up := true }
    s.trainedMc ranks dpc2 k

/-- The husk range is enabled and swept to SEAL (R385), and the page remaps are applied again
(R403). -/
def State.huskRange (s : State) (mib : Nat) : State :=
  let cap := s.capacity
  let base := cap - mib * 2 ^ 20
  let s := s.setReg (R.MP_RANGE_BASE 31) (BitVec.ofNat 32 (base / 2 ^ 21))
  let s := s.setReg (R.MP_RANGE_LIMIT 31) (BitVec.ofNat 32 (cap / 2 ^ 21))
  let s := s.setReg (R.MP_RANGE_CFG 31) 0xA0000000#32
  let s := (s.setFld (F.MP_RANGE_STATE_live_mode 31) 2).setBit (F.MP_RANGE_STATE_live_tagged 31) true
  let s := (s.incFld (F.MP_RANGE_STATE_gen 31)).countRanges
  (s.setFld F.MP_RETIRE_STATUS_used s.dram.retired.length)

/-- The husk does not bring DRAM up (R361). -/
def State.dramRefused (s : State) (mc slot : Nat) : State :=
  s.fault (Unit.mc mc 0) .dramConfig (.unit (Unit.mc mc 0)) 0 (2 * mc + slot)

/-- Initial training has completed, with the husk range's first sweep (R30, R372, R385), and the
policy's ranges are brought up one after another (R394). -/
def State.dramUp (s : State) (p : MemPolicy) (ways8 dpc2 : Bool) (type : Nat) : State :=
  let ranks := typeRanks type * (if dpc2 then 2 else 1)
  let rows := typeRows type
  let rowLo := if ways8 then 22 else 21
  if !p.fits ways8 ranks rows then s.dramRefused 0 0
  else
    let gib := populationGib ways8 ranks rows p.spareEn
    let s := s.setFld F.MCG_MAP_capacity_gib gib
    let s := (s.setBit F.MCG_MAP_spare_en p.spareEn).setBit F.MCG_MAP_ways8 ways8
    let s := s.setFld F.MCG_MAP_rank_bits (Nat.log2 ranks)
    let s := (s.setFld F.MCG_MAP_row_bits rows).setFld F.MCG_MAP_row_lo rowLo
    let s := (s.setRegs (R.MCG_ZONE 0) (p.zoneWords gib)).setRegs (R.MCG_HASH 0) (p.hashWords rowLo rows)
    let s := s.trainedMc ranks dpc2 (if ways8 then 8 else 4)
    let s := (s.setBit F.MP_STATUS_keys_valid true).huskRange p.huskMib
    let s := (s.setReg R.MP_RETIRE_POLICY p.retire).setFld F.MP_SCRUB_CFG_lap_h p.lapH
    let s := s.setBit F.DEV_MODE_dram_ready true
    ({ s with dram := { s.dram with bringUp := p.ranges } }).nextSweep

/-- Contents and training are lost in HELD and OFF (R381); the repair log is kept in flash
(R403). -/
def State.dramLost (s : State) : State := { s with dram := { retired := s.dram.retired } }

/-! ## Meanings -/

/-- R362, R363, R365 to R367, R370, R371, R374 to R376, R380, R384, R387, R388, R397, R398. -/
def execDramReadPiece (m : Master) (address : BitVec 48) (size : Fin 65) (x : LineHw) (s : State) : Out :=
  .next (readPiece m address.toNat size.val x s)
/-- R363, R366 to R368, R375, R379, R380, R384, R385, R389. -/
def execDramWritePiece (m : Master) (address : BitVec 48) (bytes : List Byte) (poison crcOk : Bool)
    (x : LineHw) (s : State) : Out := .next (writePiece m address.toNat bytes poison crcOk x s)
/-- R369. -/
def execSameBankRefresh (b : BankRef) (s : State) : Out := .next (bankRefresh b s)
/-- R370, R371. -/
def execNeighbourRefresh (b : BankRef) (s : State) : Out := .next (neighbourGo b s)
/-- R370, R371. -/
def execRefreshWindowEnd (b : BankRef) (s : State) : Out := .next (windowEnd b s)
/-- R369. -/
def execDramHot (mc : Fin 8) (celsius : BitVec 8) (s : State) : Out := .next (hot mc.val celsius.toNat s)
/-- R369, R373. -/
def execTrainCheck (mc : Fin 8) (sub : Fin 2) (found : List RankDrift) (s : State) : Out :=
  .next (checkTraining mc.val sub.val found s)
/-- R373. -/
def execMcRetrain (_m : Master) (mc : Fin 8) (s : State) : Out := .next (retrainAll mc.val s)
/-- R373, R377. -/
def execRetrainStep (mc : Fin 8) (sub : Fin 2) (rank : Fin 8) (result : Option Bool) (s : State) : Out :=
  .next (trainStep mc.val sub.val rank.val result s)
/-- R377. -/
def execCaParityError (mc : Fin 8) (sub : Fin 2) (retryOk : Bool) (s : State) : Out :=
  .next (caParity mc.val sub.val retryOk s)
/-- R377. -/
def execCaRetrainDone (mc : Fin 8) (sub : Fin 2) (s : State) : Out := .next (caRetrained mc.val sub.val s)
/-- R379. -/
def execMcSpareGo (m : Master) (mc : Fin 8) (w : Word) (s : State) : Out := .next (spareGo m mc.val w s)
/-- R379. -/
def execSpareCopyDone (mc : Fin 8) (bad : List (BitVec 48)) (s : State) : Out :=
  .next (rankCopied mc.val bad s)
/-- R380. -/
def execMirrorResyncDone (mc : Fin 8) (sub : Fin 2) (s : State) : Out := .next (resynced mc.val sub.val s)
/-- R381. -/
def execSelfRefreshEnter (mc : Fin 8) (s : State) : Out := .next (selfRefresh mc.val s)
/-- R382, R390, R393. -/
def execMpRangeEnable (m : Master) (r : Fin 32) (w : Word) (s : State) : Out := .next (rangeCfg m r.val w s)
/-- R390, R391, R393. -/
def execMpPolicyWrite (_m : Master) (r : Option (Fin 32)) (extHost extMon : BitVec 2) (s : State) : Out :=
  .next (policyWrite (r.map (·.val)) extHost.toNat extMon.toNat s)
/-- R386, R393, R394, R396. -/
def execMpSweepGo (m : Master) (w : Word) (s : State) : Out := .next (sweepGo m w s)
/-- R385, R387, R394, R395. -/
def execMpSweepLine (x : LineHw) (s : State) : Out := .next (sweepLine x s)
/-- R396. -/
def execRekeyDue (r : Fin 32) (s : State) : Out := .next (rekeyGo r.val s)
/-- R374, R397, R400. -/
def execPatrolScrubRead (mc : Fin 8) (sub : Fin 2) (address : BitVec 48) (ecc : Ecc) (dev : Fin 10) (s : State) :
    Out := .next (patrol mc.val sub.val address.toNat ecc dev.val s)
/-- R402, R403. -/
def execPageRetireOpen (page : BitVec 36) (s : State) : Out := .next (retireOpen page.toNat s)
/-- R403, R511. -/
def execPageCopyDone (page : BitVec 36) (bad : List (Fin 64)) (s : State) : Out :=
  .next (pageCopied page.toNat bad s)

end Sys2Proof.Machine
end

