-- ==== Sys2Proof/Machine/Policy.lean ====
section
/-! DEFINITION. The owner policy (R435, R462, Tables 15.17 and 16.4): reading the settings of a
POLICY image, their ranges, and when each takes effect. -/

namespace Sys2Proof.Machine

/-- A setting record of a POLICY image: id, and the value's bytes (R435). -/
structure Setting where
  id : Nat
  value : List Byte
  deriving DecidableEq, Repr

/-- The setting records of a BLOB, each 8-byte aligned; none where a record does not lie whole in
the BLOB or a byte said to be zero is not. `n` bounds the records left. -/
def settingsOf : Nat → List Byte → Option (List Setting)
  | _, [] => some []
  | 0, _ => none
  | n + 1, b =>
    let len := ofBytes ((b.drop 2).take 2)
    let padded := (len + 7) / 8 * 8
    if b.length < 8 + padded ∨ ofBytes ((b.drop 4).take 4) ≠ 0 ∨
        ofBytes ((b.drop (8 + len)).take (padded - len)) ≠ 0 then none
    else
      (settingsOf n (b.drop (8 + padded))).map
        ({ id := ofBytes (b.take 2), value := (b.drop 8).take len } :: ·)

/-- Word `i` of a value. -/
def Setting.word (x : Setting) (i : Nat) : Nat := ofBytes ((x.value.drop (4 * i)).take 4)

/-- The range of each knob (Table 16.4). -/
def knobOk (i v : Nat) : Bool :=
  let range (lo hi : Nat) : Bool := decide (lo ≤ v) && decide (v ≤ hi)
  match i with
  | 0 => range 0 127
  | 1 => true
  | 2 => range 0 65535
  | 3 => range 2 15
  | 4 => range 1 15
  | 5 => range 1 15
  | 6 => range 10 60000
  | 7 => range 2 255
  | 8 => range 1 255
  | 9 => range 16 4095
  | 10 => range 1 255
  | 11 => range 0 1
  | 12 => range 190 225
  | 13 => range 4 40
  | 14 => range 0 1
  | _ => range 0 75

/-- The default of each knob. -/
def knobDefault (i : Nat) : Nat := [0x7F, 0, 0, 3, 2, 2, 1000, 4, 24, 256, 24, 0, 225, 8, 0, 0].getD i 0

def Policy.knob (p : Policy) (i : Nat) : Nat :=
  ((p.knobs.find? fun k => k.1 == i).map (·.2)).getD (knobDefault i)

/-- The length of a setting's value (Table 15.17); none for an unknown id. -/
def settingLength (id : Nat) : Option Nat :=
  if (1 ≤ id ∧ id ≤ 6) ∨ (0x10 ≤ id ∧ id ≤ 0x24) ∨ (0x30 ≤ id ∧ id ≤ 0x32) ∨ id = 0x34 then some 4
  else if id = 0x25 then some 32
  else if id = 0x26 then some 36
  else if id = 0x27 then some 20
  else if id = 0x33 then some 8
  else none

/-- The words of a value, in order. -/
def Setting.words (x : Setting) : List Word :=
  (List.range (x.value.length / 4)).map fun i => BitVec.ofNat 32 (x.word i)

/-- A policy with one setting taken from an image; none where the value lies outside its range. -/
def Policy.take (p : Policy) (x : Setting) : Option Policy :=
  let v := x.word 0
  let give (ok : Bool) (q : Policy) : Option Policy := if ok then some q else none
  let range (lo hi : Nat) : Bool := decide (lo ≤ v) && decide (v ≤ hi)
  match x.id with
  | 0x01 => give (v == 0 || range 100 60000) { p with loadWait := v }
  | 0x02 => give (v % 65536 == 0 && decide (0x2000000 ≤ v)) { p with acornBase := v }
  | 0x03 => give (range 0 0x3FFFF) { p with wmask := v }
  | 0x04 => give (range 60 86400) { p with fwConfirm := v }
  | 0x05 => give (range 60 86400) { p with password := v }
  | 0x06 => give (range 10000 1000000) { p with cycles := v }
  | 0x20 => give (v &&& 0x7F00FF00 == 0 && decide (1 ≤ bitsOf (BitVec.ofNat 32 v) 16 8))
      { p with mem := { p.mem with retire := BitVec.ofNat 32 v } }
  | 0x21 => give (range 1 255) { p with mem := { p.mem with lapH := v } }
  | 0x22 => give (range 0 3650) { p with rekeyDays := v }
  | 0x23 => give (range 256 2048 && v % 2 == 0) { p with mem := { p.mem with huskMib := v } }
  | 0x24 => give (range 0 1) { p with mem := { p.mem with spareEn := v == 1 } }
  | 0x25 => some { p with mem := { p.mem with zones := x.words } }
  | 0x26 => some { p with mem := { p.mem with hashes := x.words } }
  | 0x27 =>
    let r : RangePolicy := { range := v, base := BitVec.ofNat 32 (x.word 1), limit := BitVec.ofNat 32 (x.word 2)
                             tag := BitVec.ofNat 32 (x.word 3), cfg := BitVec.ofNat 32 (x.word 4) }
    give (decide (v ≤ 30) && x.word 4 % 2 ^ 24 == 0 && !p.mem.ranges.any fun q => q.range == v)
      { p with mem := { p.mem with ranges := p.mem.ranges ++ [r] } }
  | 0x30 => give (range 0 1) { p with uart := v == 1 }
  | 0x31 => give (decide (v % 4 ≠ 3) && v / 4 % 64 == 0 &&
      (v == 0 || (decide (4800 ≤ v / 256) && decide (v / 256 ≤ 921600)))) { p with gnss := v }
  | 0x32 => give (range 0 0xFFFF) { p with synce := v }
  | 0x33 => give (v % 2 ^ 21 == 0 && x.word 1 % 2 ^ 21 == 0)
      { p with sourceA := BitVec.ofNat 32 v, sourceB := BitVec.ofNat 32 (x.word 1) }
  | 0x34 => give (v &&& 0xFFFFFCFF == 0) { p with svc := v }
  | i => give (knobOk (i - 0x10) v) { p with knobs := p.knobs ++ [(i - 0x10, v)] }

/-- A policy from setting records: an unknown id, a wrong length, an id given twice and a value out
of range all refuse it (R435). -/
def Policy.takeAll (p : Policy) : List Setting → List Nat → Option Policy
  | [], _ => some p
  | x :: l, seen =>
    if settingLength x.id ≠ some x.value.length ∨ (x.id ≠ 0x27 ∧ seen.contains x.id) then none
    else (p.take x).bind fun q => q.takeAll l (x.id :: seen)

/-- The target of a policy range is tagged (R386). -/
def RangePolicy.tagged (r : RangePolicy) : Bool :=
  bitsOf r.cfg 28 2 == 2 || (bitsOf r.cfg 28 2 == 1 && r.cfg.getLsbD 30)

def RangePolicy.lo (r : RangePolicy) : Nat := r.base.toNat * 2 ^ 21
def RangePolicy.hi (r : RangePolicy) : Nat := r.limit.toNat * 2 ^ 21
def RangePolicy.tagLo (r : RangePolicy) : Nat := r.tag.toNat * 2 ^ 18
def RangePolicy.tagHi (r : RangePolicy) : Nat := r.tagLo + (r.hi - r.lo) / 8

/-- The ranges of a policy fit a capacity with the husk range at its top (R382, R385, R386). -/
def MemPolicy.rangesOk (p : MemPolicy) (cap : Nat) : Bool :=
  let husk := cap - p.huskMib * 2 ^ 20
  p.ranges.all fun r =>
    decide (r.lo < r.hi) && decide (r.hi ≤ husk) && decide (bitsOf r.cfg 28 2 ≠ 3) &&
      decide (bitsOf r.cfg 26 2 ≠ 2) && decide (bitsOf r.cfg 24 2 ≠ 2) &&
      (p.ranges.all fun q => q.range == r.range || !overlaps r.lo r.hi q.lo q.hi) &&
      (!r.tagged || (decide (r.tagHi ≤ husk) && p.ranges.all fun q =>
        (!overlaps r.tagLo r.tagHi q.lo q.hi || (q.range != r.range && bitsOf q.cfg 28 2 == 0)) &&
        (q.range == r.range || !q.tagged || !overlaps r.tagLo r.tagHi q.tagLo q.tagHi)))

/-- The memory settings fit the population found at the last BOOT (R364, R365, R382, R386); with
none found there is nothing to hold them against. -/
def State.memoryFits (s : State) (p : MemPolicy) : Bool :=
  s.fld F.MCG_MAP_capacity_gib == 0 ||
    (let ranks := 2 ^ s.fld F.MCG_MAP_rank_bits
     let rows := s.fld F.MCG_MAP_row_bits
     let ways8 := s.bit F.MCG_MAP_ways8
     p.fits ways8 ranks rows && p.rangesOk (populationGib ways8 ranks rows p.spareEn * 2 ^ 30))

/-- The policy of a POLICY image's BLOB, or none where it is refused (R435). -/
def State.policyOf (s : State) (blob : List Byte) : Option Policy :=
  match settingsOf blob.length blob with
  | none => none
  | some l =>
    match ({} : Policy).takeAll l [] with
    | some p => if s.memoryFits p.mem then some p else none
    | none => none

/-! ## Settings in force -/

/-- ERR_POLICY and the registers that follow a knob (R273, R462). -/
def State.showKnobs (s : State) (p : Policy) : State :=
  let s := (List.range 16).foldl (fun s i => s.setReg (R.ERR_POLICY i) (BitVec.ofNat 32 (p.knob i))) s
  let ok := p.knob 14 == 1
  (s.setBit (F.TIM_x_SERVO_takeover_ok 0) ok).setBit (F.TIM_x_SERVO_takeover_ok 1) ok

/-- ext_host and ext_mon of the policy's live ranges. -/
def State.policyExts (s : State) : List RangePolicy → State
  | [] => s
  | r :: l =>
    (if s.rangeOn r.range then s.setExt r.range (bitsOf r.cfg 26 2) (bitsOf r.cfg 24 2) else s).policyExts l

/-- Wear of the worst sector from `lo` on, in percent of flash_cycles (R442). -/
def State.wearFrom (s : State) (lo hi : Nat) : Nat :=
  (s.flash.erases.foldl (fun n e => if lo ≤ e.1 ∧ e.1 < hi then max n e.2 else n) 0) * 100 / s.flash.policy.cycles

/-- PCI_FLASH_WEAR's percentages and acorn_locked (R442). -/
def State.showWear (s : State) : State :=
  let a := s.wearFrom (s.flash.policy.acornBase / 65536) 0x100000
  let s := s.setFld F.PCI_FLASH_WEAR_acorn_pct (min 255 a)
  let s := s.setFld F.PCI_FLASH_WEAR_fw_pct (min 255 (s.wearFrom 0x10 0x110))
  s.setBit F.PCI_FLASH_WEAR_acorn_locked (decide (90 < a))

/-- What takes effect at the acceptance of a policy (Table 15.17). -/
def State.policyNow (s : State) (p : Policy) : State :=
  let s := { s with flash := { s.flash with policy := p } }
  let s := (s.setFld F.PCI_HOST_WMASK_mask p.wmask).showKnobs p
  let s := (s.setReg R.MP_RETIRE_POLICY p.mem.retire).setFld F.MP_SCRUB_CFG_lap_h p.mem.lapH
  (s.policyExts p.mem.ranges).showWear

/-- What takes effect at a BOOT: the settings that wait for it, with those already in force; the
GNSS receiver, the time sources and the service switch are the time unit's (R269, R289). -/
def State.policyBoot (s : State) : State :=
  let p := s.flash.policy
  let s := ((s.setFld F.PCI_LDR_CFG_load_wait_ms p.loadWait).setFld F.PCI_HOST_WMASK_mask p.wmask).showKnobs p
  let s := s.setReg (R.TIM_x_CTRL 0) ((s.reg (R.TIM_x_CTRL 0) &&& 0x001FFFFF#32) ||| p.sourceA)
  let s := s.setReg (R.TIM_x_CTRL 1) ((s.reg (R.TIM_x_CTRL 1) &&& 0x001FFFFF#32) ||| p.sourceB)
  let s := s.setReg R.TIM_SVC_CTRL ((s.reg R.TIM_SVC_CTRL &&& 0xFFFFFCFF#32) ||| BitVec.ofNat 32 p.svc)
  let s := if p.uart then s.setHolder (R.DEV_CLAIM 0x1B0) (some .husk) else s.setHolder (R.DEV_CLAIM 0x1B0) none
  s.showWear

end Sys2Proof.Machine
end

