-- ==== Sys2Proof/Machine/Image.lean ====
section
/-! DEFINITION. Images in the loader (R422 to R433): the header and its checks, records and their
checks, and what becomes of an image that is rejected. -/

namespace Sys2Proof.Machine

/-! ## The stream and its header (Table 15.1) -/

/-- The little-endian number of `n` stream bytes from offset `o` on. -/
def Loader.num (l : Loader) (o n : Nat) : Nat := ofBytes ((l.bytes.drop o).take n)

def Loader.kind (l : Loader) : Nat := l.num 6 1
def Loader.keySlot (l : Loader) : Nat := l.num 7 1
def Loader.secVersion (l : Loader) : Nat := l.num 18 2
def Loader.length (l : Loader) : Nat := l.num 20 4

/-- The loader's state (PCI_LDR_STATUS.state): 0 IDLE, 1 STREAMING, 2 VERIFYING, 3 STAGED,
4 ARMED. -/
def State.ldrState (s : State) : Nat := s.fld F.PCI_LDR_STATUS_state

def State.ldrSource (s : State) : Nat := s.fld F.PCI_LDR_STATUS_source

def State.setLoader (s : State) (l : Loader) : State := { s with loader := l }

/-- The bytes of a range are zero. -/
def Loader.zero (l : Loader) (lo hi : Nat) : Bool := l.num lo (hi - lo) == 0

/-- DEV_ID agrees in the bits compared, of which bits 31:12 must be (Table 15.1), and fmax_mhz is
within the grade (R2). -/
def State.deviceOk (s : State) : Bool :=
  let l := s.loader
  let mask := BitVec.ofNat 32 (l.num 12 4)
  l.num 0 4 == 0x39584843 && l.num 12 4 / 2 ^ 12 == 0xFFFFF &&
    (s.reg R.DEV_ID &&& mask) == (BitVec.ofNat 32 (l.num 8 4) &&& mask) &&
    (decide (2 < l.kind) ||
      (decide (0 < l.num 16 2) && decide (l.num 16 2 ≤ if Config.grade2 then 800 else 700)))

/-- Version, kind and key slot are not reserved, and reserved bytes are zero. -/
def Loader.supported (l : Loader) : Bool :=
  l.num 4 2 == 1 && decide (1 ≤ l.kind) && decide (l.kind ≤ 6) &&
    (decide (l.keySlot ≤ 3) || decide (0xFE ≤ l.keySlot)) &&
    (decide (l.kind ≤ 2) || l.zero 16 18) && (l.kind == 2 || l.zero 24 30) && l.zero 30 32 &&
    (l.kind == 1 || l.zero 192 832) && (l.kind == 1 || l.kind == 3 || l.zero 64 192) && l.zero 832 1024

/-- The digest of an owner slot; 0 for an unburned one. -/
def State.ownerDigest (s : State) (k : Nat) : BitVec 512 := Table.get (fun _ => 0) s.fuses.digests k

def State.slotBurned (s : State) (k : Nat) : Bool := decide (k < 4) && s.ownerDigest k != 0

/-- An owner slot is burned and not revoked. -/
def State.slotUsable (s : State) (k : Nat) : Bool := s.slotBurned k && !s.fuses.revoked.getLsbD k

/-- The kind and key slot are permitted in the life-cycle state (Table 15.9). A COMMAND under
Xoelo's key may be the ADVANCE that it permits from any state but BLANK. -/
def State.keyPermitted (s : State) (kind slot : Nat) : Bool :=
  match s.fuses.lifeCycle with
  | 0 => if kind = 4 then slot == 0xFF else slot == 0xFE
  | 1 | 2 =>
    if kind = 4 then slot == 0xFF
    else s.slotUsable slot || (kind == 6 && slot == 0xFF)
  | 3 => slot == 0xFF
  | _ => false

/-- Bytes of the husk range (R385). -/
def State.huskBytes (s : State) : Nat :=
  if s.rangeOn 31 then s.rangeLimit 31 - s.rangeBase 31 else 0

/-- The length is legal and the image fits its destination (R425, R440, R443, Table 15.8). -/
def State.lengthOk (s : State) : Bool :=
  let n := s.loader.length
  decide (8256 ≤ n) && n % 8 == 0 &&
    (match s.loader.kind with
     | 1 => !s.loader.toAcorn ||
        (decide (n ≤ Config.flashSize - s.flash.policy.acornBase) && decide (n ≤ s.huskBytes))
     | 4 => decide (n ≤ 0x400000)
     | 5 | 6 => decide (n ≤ 0x100000)
     | _ => true)

/-! ## Pod tables (R95, R124) -/

/-- Entry `p` of the pod table in a header. -/
def Loader.podEntry (l : Loader) (p : Nat) : PodEntry :=
  let w := BitVec.ofNat 32 (l.num (64 + 16 * p) 4)
  { valid := w.getLsbD 31, spareAware := w.getLsbD 30, twin := w.getLsbD 29
    twinOf := w.extractLsb' 16 6, regions := BitVec.ofNat 96 (l.num (68 + 16 * p) 12) }

def PodEntry.list (e : PodEntry) : List Nat := (List.range 96).filter fun n => e.regions.getLsbD n

/-- The geometry of a twin (R124). -/
def twinOk (prim twin : List Nat) : Bool :=
  let d : Int := (twin.headD 0 : Int) - (prim.headD 0 : Int)
  d != 0 && d % 6 == 0 && !prim.isEmpty && twin.map Int.ofNat == prim.map (fun (n : Nat) => (n : Int) + d) &&
    prim.all fun a => prim.all fun b =>
      decide (a / 48 ≠ b / 48) || ((a : Int) + d) / 48 == ((b : Int) + d) / 48

/-- The pod table is valid (R95). -/
def Loader.podTableOk (l : Loader) : Bool :=
  let e (p : Nat) : PodEntry := l.podEntry p
  let valid := (List.range 48).filter fun p => (e p).valid
  ((List.range 48).all fun p => l.num (64 + 16 * p) 4 % 64 == p) && (e 0).valid &&
    ((List.range 96).all fun n => (valid.filter fun p => (e p).regions.getLsbD n).length == 1) &&
    valid.all fun p => !(e p).twin ||
      ((e (e p).twinOf.toNat).valid && !(e (e p).twinOf.toNat).twin &&
        twinOk (e (e p).twinOf.toNat).list (e p).list)

def noPodEntry (_ : Nat) : PodEntry := {}

/-- The pod table of a header. -/
def Loader.podTable (l : Loader) : Table PodEntry :=
  (List.range 48).foldl (fun t p => Table.set noPodEntry t p (l.podEntry p)) []

/-! ## Conflicts (R96, R431, R433) -/

/-- Engines a BUNDLE names. -/
def Loader.engines (l : Loader) : List Nat :=
  (List.range 1024).filter fun n => (l.bytes.getD (64 + n / 8) 0).getLsbD (n % 8)

/-- Whether a kind is accepted in the mode (Table 15.6, R436, R451). -/
def State.kindAccepted (s : State) (kind : Nat) : Bool :=
  let m := s.mode
  let admin := decide (4 ≤ kind)
  if m = Mode.boot then
    if s.trust.recovery then kind == 4
    else if s.trust.hold then kind == 6
    else kind == 1 || admin
  else if m = Mode.load then kind == 1
  else if m = Mode.rendezvous then kind == 3 || admin
  else if m = Mode.dormant then admin
  else inService m

/-- What the image conflicts with: POD_BUSY, NOT_PERMITTED, or nothing. -/
def State.ldrConflict (s : State) : Nat :=
  let l := s.loader
  if l.kind = 2 ∧ s.ldrPods.any (fun p => s.isTwin p || s.sprout p == Sprout.repairHeld || s.podSwitching p)
  then Code.podBusy
  else if !s.kindAccepted l.kind then Code.notPermitted
  else if l.kind = 1 ∧ l.toAcorn = false ∧ inService s.mode ∧
      (List.range 48).any (fun p => isStaging (s.sprout p) || s.sprout p == Sprout.repairHeld)
  then Code.podBusy
  else if l.kind = 3 ∧ l.engines.any (fun n => !stoppedOrOff (s.engState n)) then Code.notPermitted
  else 0

/-- The header checks in the order of Table 15.5: the status of the first that fails, or 0. -/
def State.headerStatus (s : State) : Nat :=
  let l := s.loader
  if !s.deviceOk then Code.wrongDevice
  else if !l.supported then Code.unsupported
  else if !s.keyPermitted l.kind l.keySlot then Code.badSignature
  else if l.secVersion < s.fuses.floor then Code.rollback
  else if !s.lengthOk then Code.invalidArgument
  else if l.kind = 1 ∧ l.toAcorn = true ∧ s.bit F.PCI_FLASH_WEAR_acorn_locked = true then Code.flashWorn
  else if l.kind = 1 ∧ l.podTableOk = false then Code.badPodTable
  else if s.ldrConflict ≠ 0 then s.ldrConflict
  else if l.kind = 2 ∧ s.ldrPods.any (fun p => !s.bit (F.CFG_POD_STATE_valid p)) then Code.invalidArgument
  else 0

/-! ## Rejection (R426) -/

/-- The memories of a named engine are undefined: every word takes a free value. -/
def State.undefine (s : State) (n : Nat) : State :=
  let k := s.freeCount
  let s := (List.range 4096).foldl (fun s i => s.setInstr n i (Config.freeValue (k + i))) s
  let s := (List.range 16384).foldl (fun s a =>
    let w := Config.freeValue (k + 4096 + a)
    s.setDword n a { w := w.setWidth 36, tagH := w.getLsbD 36, tagL := w.getLsbD 37 }) s
  { s with freeCount := k + 20480 }

/-- A rejected bundle's engines stay STOPPED. -/
def State.bundleLost (s : State) (status : Nat) : List Nat → State
  | [] => s
  | n :: l => ((s.undefine n).engStatus n status).bundleLost status l

/-- The pods of an image return to IDLE (R98, R426). -/
def State.imagePodsIdle (s : State) : State :=
  let s := if s.loader.kind = 2 then
      s.ldrPods.foldl (fun s p => if s.sprout p == Sprout.staging then s.setSprout p Sprout.idle else s) s
    else if s.cfg.fullLive then
      (List.range 48).foldl (fun s p =>
        if s.sprout p == Sprout.staging then s.setFld (F.CFG_POD_STATE_state p) Sprout.idle else s) s
    else s
  ({ s with cfg := { s.cfg with fullLive := false, stagedTable := [] } }).showStaging

/-- What every rejection does. -/
def State.rejectImage (s : State) (status : Nat) : State :=
  let l := s.loader
  let s := if l.begun then s.imagePodsIdle else s
  let s := if l.checked && l.kind == 3 then s.bundleLost status l.engines else s
  s.ldrRefused status

/-- The acorn is rejected too: the device stays in LOAD with its code (R29). -/
def State.rejectAcorn (s : State) (status : Nat) : State :=
  (s.rejectImage status).setFld F.DEV_MODE_CAUSE_status status

/-! ## Receiving (R425, R427) -/

/-- The bytes of memory from an address on: DRAM, then the scratchpad; zero elsewhere
(notes/assumptions/40). -/
def State.memoryBytes (s : State) (a n : Nat) : List Byte :=
  if a + n ≤ s.capacity then s.dramLoad a n
  else if 0x20000000000 ≤ a ∧ a + n ≤ 0x20008000000 then s.spmLoad (a - 0x20000000000) n
  else List.replicate n 0

/-- A memory stream is read up to byte `n`. -/
def State.ldrFill (s : State) (n : Nat) : State :=
  let l := s.loader
  if s.ldrSource = 1 ∧ l.bytes.length < n then
    let l := { l with bytes := l.bytes ++ s.memoryBytes (l.address + l.bytes.length) (n - l.bytes.length) }
    (s.setLoader l).setReg R.PCI_LDR_POS (BitVec.ofNat 32 l.bytes.length)
  else s

/-- A record's header: type, count and address (R423). -/
structure RecHead where
  type : Nat
  count : Nat
  address : Nat
  deriving DecidableEq, Repr

def Loader.recHead (l : Loader) : RecHead :=
  { type := l.num (l.next + 7) 1, count := l.num (l.next + 4) 3, address := l.num l.next 4 }

/-- The bytes of a record's payload with its padding (Table 15.3). -/
def RecHead.size (r : RecHead) : Nat :=
  match r.type with
  | 0x01 => r.count * 384
  | 0x04 => r.count * 2304
  | 0x05 | 0x06 => r.count * 64
  | 0x10 | 0x11 => r.count * 8
  | 0x20 => (r.count + 7) / 8 * 8
  | _ => 0

/-- The type is permitted for the kind (Table 15.2). -/
def typeOk (kind type : Nat) : Bool :=
  type == 0xFF ||
    (match kind with
     | 1 => decide (1 ≤ type) && decide (type ≤ 6)
     | 2 => decide (1 ≤ type) && decide (type ≤ 5)
     | 3 => decide (0x10 ≤ type) && decide (type ≤ 0x12)
     | _ => type == 0x20)

/-- Region and index of a frame address (Table 3.1). -/
def frameRegion (a : Nat) : Nat := a / 8192 % 128
def frameIndex (a : Nat) : Nat := a % 8192

/-- The fields of a record are in range (Table 15.3). A frame address that names no frame is
judged by `regionsOf`. -/
def RecHead.inRange (r : RecHead) (l : Loader) : Bool :=
  let upTo (n : Nat) : Bool := decide (1 ≤ r.count) && decide (r.count ≤ n)
  match r.type with
  | 0x01 | 0x02 | 0x03 =>
    upTo 5120 && decide (r.address < 2 ^ 20) &&
      (decide (5120 ≤ frameIndex r.address) || decide (frameIndex r.address + r.count ≤ 5120))
  | 0x04 =>
    upTo 64 && decide (r.address < 2 ^ 20) && r.address / 512 % 16 == 0 && decide (r.address / 64 % 8 < 6) &&
      decide (r.address % 64 + r.count ≤ 64)
  | 0x05 => decide (r.address < 24) && r.count == 1
  | 0x06 => decide (1 ≤ r.address) && decide (r.address ≤ 3) && r.count == 1
  | 0x10 =>
    upTo 4096 && r.address / 1024 % 64 == 0 && decide (r.address < 2 ^ 28) &&
      decide (r.address / 65536 + r.count ≤ 4096)
  | 0x11 =>
    upTo 16384 && r.address / 1024 % 64 == 0 && decide (r.address < 2 ^ 30) &&
      decide (r.address / 65536 + r.count ≤ 16384)
  | 0x12 => decide (r.address < 1024) && decide (r.count ≤ 8191)
  | 0x20 => upTo 8388608 && r.address == 0 && l.blob.isEmpty
  | _ => r.address == 0 && r.count == 0

/-- The regions fabric PLL `q` serves (R72). -/
def pllRegions (q : Nat) : List Nat :=
  let b := q / 12 * 48 + 12 * (q % 12 / 3) + 2 * (q % 3)
  [b, b + 1, b + 6, b + 7]

/-- The regions a record bears on; none for an address that names no frame (R92). -/
def RecHead.regionsOf (r : RecHead) : List Nat :=
  match r.type with
  | 0x01 | 0x02 | 0x03 =>
    if frameRegion r.address < 96 ∧ frameIndex r.address < 5120 then [frameRegion r.address] else []
  | 0x04 => if frameRegion r.address < 96 then [frameRegion r.address] else []
  | _ => pllRegions r.address

/-- Engine records name an engine of the mask (Table 15.5). -/
def RecHead.engineOk (r : RecHead) (l : Loader) : Bool :=
  decide (r.type < 0x10) || decide (0x12 < r.type) || l.engines.contains (r.address % 1024)

/-- The checks of the next record in the order of Table 15.5: the status of the first that fails,
or 0. No record may reach into the trailer (R424). -/
def State.recordStatus (s : State) : Nat :=
  let l := s.loader
  let r := l.recHead
  if l.length < l.next + 8 + r.size + 7224 ∨ typeOk l.kind r.type = false ∨ r.inRange l = false ∨
      r.engineOk l = false then Code.badRecord
  else if r.type < 6 then
    (if l.kind = 2 then
      if (r.regionsOf.any fun n => s.ldrPods.contains (s.podOf n)) then 0 else Code.frameOutsidePod
     else if r.regionsOf.isEmpty then Code.badRecord else 0)
  else 0

/-- The next record's header is checked as soon as it has come. -/
def State.ldrPeek (s : State) (reject : Nat → State → State) : State :=
  let s := s.ldrFill (s.loader.next + 8)
  if s.loader.ended || decide (s.loader.bytes.length < s.loader.next + 8) then s
  else if s.recordStatus = 0 then s else reject s.recordStatus s

/-- Engines that are OFF and named by a bundle are powered up (R151). -/
def State.powerNamed (s : State) : List Nat → State
  | [] => s
  | n :: l =>
    (if s.engState n = EngState.off then s.setEngine n { s.engine n with powering := true } else s).powerNamed l

/-- The bits of a word that hold steering (R117 to R119). -/
def steerMask (off : Nat) : Word :=
  if off < 0x704000 ∨ 0x704600 ≤ off then 0
  else match off % 16 with
    | 0 => BitVec.ofNat 32 (2 ^ 7 + 2 ^ 6 - 1)
    | 4 | 8 => 0xFFFFFFFF#32
    | _ => 0

/-- At a full image the steering is first restored from the repair log (R430). -/
def State.restoreSteering (s : State) : State :=
  s.flash.repairs.foldl (fun (s : State) e => s.setReg e.1 (s.reg e.1 ||| (e.2 &&& steerMask e.1))) s

/-- The header is complete: it is checked, and the destination prepared (R425). -/
def State.ldrHeader (s : State) (reject : Nat → State → State) : State :=
  let l := s.loader
  let s := (s.setReg R.PCI_LDR_LEN (BitVec.ofNat 32 l.length)).setFld F.PCI_LDR_STATUS_kind l.kind
  let st := s.headerStatus
  if st ≠ 0 then reject st s
  else
    let s := s.setLoader { l with checked := true, next := 1024, bytes := l.bytes.take l.length }
    let s := if l.kind = 1 && !l.toAcorn then s.restoreSteering else s
    (if l.kind = 3 then s.powerNamed l.engines else s).ldrPeek reject

/-- More of a stream has come. The first bytes of a FULL image in BOOT start LOAD, once they give
its kind (R27, Table 15.6). -/
def State.ldrAdvance (s : State) (reject : Nat → State → State) : State :=
  let l := s.loader
  let s := s.setReg R.PCI_LDR_POS (BitVec.ofNat 32 l.bytes.length)
  let s := if s.mode = Mode.boot ∧ 7 ≤ l.bytes.length ∧ l.kind = 1 ∧ l.toAcorn = false ∧
      s.trust.recovery = false ∧ s.trust.hold = false ∧ s.fuses.lifeCycle ≠ 4 then
      ({ s with dev := { s.dev with loadWait := false, leftBoot := true, gsr := true } }).transition 0x03
        Mode.load
    else s
  if l.checked then (s.setLoader { l with bytes := l.bytes.take l.length }).ldrPeek reject
  else if 1024 ≤ l.bytes.length then s.ldrHeader reject
  else s

/-- A stream begins. -/
def State.ldrBegin (s : State) (source : Nat) (l : Loader) : State :=
  let s := (s.setFld F.PCI_LDR_STATUS_source source).setFld F.PCI_LDR_STATUS_state 1
  ((s.setFld F.PCI_LDR_STATUS_kind 0).setReg R.PCI_LDR_LEN 0).setLoader { l with acorn := s.loader.acorn }

/-- The copy of the boot descriptor in force (R441): the valid one with the higher sequence. -/
def Flash.desc (f : Flash) : BootDesc :=
  if !f.desc0.valid then f.desc1
  else if !f.desc1.valid then f.desc0
  else if (f.desc1.sequence - f.desc0.sequence).toNat < 2 ^ 31 ∧ f.desc1.sequence ≠ f.desc0.sequence then f.desc1
  else f.desc0

/-- The husk rewrites the older copy with the sequence number incremented (R441). -/
def Flash.rewriteDesc (f : Flash) (d : BootDesc) : Flash :=
  let d := { d with valid := true, sequence := f.desc.sequence + 1 }
  if f.desc == f.desc0 then { f with desc1 := d } else { f with desc0 := d }

/-- The acorn is read and checked as a FULL image, or NO_IMAGE is given (R438). -/
def State.acornLoad (s : State) : State :=
  let d := s.flash.desc
  if !d.valid || !d.acornValid || s.flash.acorn.isEmpty then (s.ldrBegin 2 {}).rejectAcorn Code.noImage
  else (s.ldrBegin 2 { bytes := s.flash.acorn }).ldrAdvance (fun st s => s.rejectAcorn st)

/-- A rejection: during LOAD, of the image that caused it, transition 0x05 follows and the acorn is
loaded, unless load_wait_ms is 0 (R29, R426, R438). -/
def State.reject (s : State) (status : Nat) : State :=
  let l := s.loader
  if s.ldrSource = 2 then s.rejectAcorn status
  else
    let primary := s.mode == Mode.load && decide (7 ≤ l.bytes.length) && l.kind == 1 && !l.toAcorn
    let s := s.rejectImage status
    if primary then
      let s := s.transition 0x05 Mode.load status
      if s.fld F.PCI_LDR_CFG_load_wait_ms = 0 then s else s.acornLoad
    else s

/-- A rejection in the order the checks take. -/
def rejectWith (status : Nat) (s : State) : State := s.reject status

end Sys2Proof.Machine
end

