-- ==== Sys2Proof/Machine/Digest.lean ====
section
/-! DEFINITION. SHA3-512, the sole digest of the device (R3, FIPS 202): the permutation
Keccak-f[1600] on 25 lanes of 64 bits, and the sponge with a rate of 72 bytes. -/

namespace Sys2Proof.Machine

namespace Keccak

/-- The round constants. -/
def roundConsts : List (BitVec 64) := [
  0x0000000000000001, 0x0000000000008082, 0x800000000000808A, 0x8000000080008000,
  0x000000000000808B, 0x0000000080000001, 0x8000000080008081, 0x8000000000008009,
  0x000000000000008A, 0x0000000000000088, 0x0000000080008009, 0x000000008000000A,
  0x000000008000808B, 0x800000000000008B, 0x8000000000008089, 0x8000000000008003,
  0x8000000000008002, 0x8000000000000080, 0x000000000000800A, 0x800000008000000A,
  0x8000000080008081, 0x8000000000008080, 0x0000000080000001, 0x8000000080008008]

/-- The rotation of lane (x, y), at index x + 5y. -/
def rotations : List Nat := [
  0, 1, 62, 28, 27, 36, 44, 6, 55, 20, 3, 10, 43, 25, 39, 41, 45, 15, 21, 8, 18, 2, 61, 56, 14]

/-- Lane (x, y), its coordinates taken modulo 5. -/
def lane (a : List (BitVec 64)) (x y : Nat) : BitVec 64 := a.getD (x % 5 + 5 * (y % 5)) 0

def eachLane (f : Nat → Nat → BitVec 64) : List (BitVec 64) :=
  (List.range 25).map fun i => f (i % 5) (i / 5)

def theta (a : List (BitVec 64)) : List (BitVec 64) :=
  let c := (List.range 5).map fun x => lane a x 0 ^^^ lane a x 1 ^^^ lane a x 2 ^^^ lane a x 3 ^^^ lane a x 4
  eachLane fun x y => lane a x y ^^^ c.getD ((x + 4) % 5) 0 ^^^ (c.getD ((x + 1) % 5) 0).rotateLeft 1

/-- The steps rho and pi together: each lane is rotated and moves to (y, 2x + 3y). -/
def rhoPi (a : List (BitVec 64)) : List (BitVec 64) :=
  eachLane fun x y =>
    let i := (x + 3 * y) % 5 + 5 * x
    (a.getD i 0).rotateLeft (rotations.getD i 0)

def chi (a : List (BitVec 64)) : List (BitVec 64) :=
  eachLane fun x y => lane a x y ^^^ (~~~lane a (x + 1) y &&& lane a (x + 2) y)

def round (a : List (BitVec 64)) (rc : BitVec 64) : List (BitVec 64) :=
  match chi (rhoPi (theta a)) with
  | [] => []
  | l :: ls => (l ^^^ rc) :: ls

def permute (a : List (BitVec 64)) : List (BitVec 64) := roundConsts.foldl round a

/-- The message padded to a multiple of 72 bytes: the suffix 01 of SHA-3 and pad10*1. -/
def padded (m : List Byte) : List Byte :=
  let k := 72 - m.length % 72
  if k = 1 then m ++ [0x86] else m ++ [0x06] ++ List.replicate (k - 2) 0 ++ [0x80]

def absorb (p : List Byte) (a : List (BitVec 64)) (block : Nat) : List (BitVec 64) :=
  permute (eachLane fun x y =>
    let i := x + 5 * y
    if i < 9 then lane a x y ^^^ BitVec.ofNat 64 (ofBytes ((p.drop (72 * block + 8 * i)).take 8))
    else lane a x y)

end Keccak

/-- SHA3-512 of a byte string; byte 0 of the digest is bits 7:0. -/
@[irreducible] def sha3 (m : List Byte) : BitVec 512 :=
  let p := Keccak.padded m
  let a := (List.range (p.length / 72)).foldl (Keccak.absorb p) (List.replicate 25 0)
  BitVec.ofNat 512 ((a.take 8).foldr (fun l n => l.toNat + 2 ^ 64 * n) 0)

end Sys2Proof.Machine
end

