-- ==== Sys2Proof/Machine/Loader.lean ====
section
/-! DEFINITION. The loader at work (R423 to R435, R440 to R443): the commands that begin and end
streams, the records, verification, acceptance, and the switch of a STAGED full image. -/

namespace Sys2Proof.Machine

/-! ## Streams (R427) -/

/-- A begin that finds the loader busy. -/
def State.ldrBusy (s : State) : State :=
  (s.setFld F.PCI_LDR_STATUS_last_status Code.loaderBusy).setFld F.PCI_STATUS_last_status Code.loaderBusy

/-- Bytes that lie ahead of a gap. -/
def Loader.hold (l : Loader) (k : Nat) : List Byte → Loader
  | [] => l
  | b :: bs => ({ l with ahead := Table.set (fun _ => none) l.ahead k (some b) }).hold (k + 1) bs

/-- Bytes held from the first one not yet received on, as far as they come without a gap. -/
def Loader.gather (l : Loader) : Nat → Loader
  | 0 => l
  | n + 1 =>
    match l.ahead with
    | (k, some b) :: t =>
      if k = l.bytes.length then ({ l with bytes := l.bytes ++ [b], ahead := t }).gather n else l
    | _ => l

/-- A host write within a stream. Bytes beyond the image's length are discarded; a write outside
the reassembly span rejects the stream. While the 4 MiB buffer is full the endpoint withholds
credits, and the write has not arrived. -/
def windowMore (o : Nat) (bytes : List Byte) (s : State) : State :=
  let l := s.loader
  let pos := l.bytes.length
  let k := pos + (o + 0x4000000 - pos % 0x4000000) % 0x4000000
  let past := l.checked && decide (l.length ≤ pos)
  if past then s
  else if l.checked ∧ 0x400000 ≤ pos - l.next then s
  else if pos + 0x400000 < k + bytes.length then s.reject Code.loadSequence
  else
    let l := { l with writeAt := s.tim.uptime }.hold k bytes
    (s.setLoader (l.gather l.ahead.length)).ldrAdvance rejectWith

/-- A host write of the load window (R427, R431). -/
def windowWrite (o : Nat) (bytes : List Byte) (s : State) : State :=
  if s.mode = Mode.off ∨ s.mode = Mode.held ∨ s.mode = Mode.zeroised then s
  else match s.ldrState with
    | 0 =>
      if o = 0 then
        windowMore 0 bytes (s.ldrBegin 0 { toAcorn := s.bit F.PCI_LDR_CTRL_to_acorn })
      else s
    | 1 => if s.ldrSource = 0 then windowMore o bytes s else if o = 0 then s.ldrBusy else s
    | _ => if o = 0 then s.ldrBusy else s

/-- The address of PCI_LDR_SRC. -/
def State.ldrAddress (s : State) : Nat := s.pair R.PCI_LDR_SRC_LO R.PCI_LDR_SRC_HI % 2 ^ 48

/-- A write of src_go (R427): an internal master begins a memory stream. -/
def srcGo (m : Master) (s : State) : State :=
  if m.external then s.setFld F.PCI_STATUS_last_status Code.notPermitted
  else if s.ldrState ≠ 0 then s.ldrBusy
  else
    let s := s.ldrBegin 1 { toAcorn := s.bit F.PCI_LDR_CTRL_to_acorn, address := s.ldrAddress }
    (s.ldrFill 1024).ldrAdvance rejectWith

/-- A write of abort: a stream is TRUNCATED; a STAGED or ARMED full image is cancelled and its pods
return to IDLE (R427, R431). -/
def ldrAbortGo (s : State) : State :=
  match s.ldrState with
  | 1 => s.reject Code.truncated
  | 3 | 4 =>
    let s := (List.range 8).foldl (fun s k =>
      if s.cueAction CueUnit.dev k == CueAction.fullSwitch then s.cueClear CueUnit.dev k else s) s
    let s := (List.range 48).foldl (fun s p =>
      if s.sprout p == Sprout.staged then s.setFld (F.CFG_POD_STATE_state p) Sprout.idle else s) s
    let s := ({ s with cfg := { s.cfg with fullLive := false, stagedTable := [] } }).showStaging
    (s.setFld F.PCI_LDR_STATUS_state 0).setLoader { acorn := s.loader.acorn }
  | _ => s

/-- A host stream is TRUNCATED (R427). -/
def State.truncateHost (s : State) : State :=
  if s.ldrState = 1 ∧ s.ldrSource = 0 then s.reject Code.truncated else s

/-! ## The switch of a STAGED full image (R105, R431, R437) -/

/-- Headers of PF1 to PF3 as a list of records gives them; the rest are placeholders. -/
def pfTable (l : List (Nat × List Byte)) : Table (List Byte) :=
  l.foldl (fun t e => Table.set (fun _ => []) t e.1 e.2) []

/-- The functions answer with given headers: after enumeration a change is announced (R437). -/
def State.setHeaders (s : State) (t : Table (List Byte)) : State :=
  let changed := s.trust.pfSeen && decide (s.trust.pfs ≠ t)
  let s := { s with trust := { s.trust with pfs := t, pfSeen := true } }
  if changed then s.sendMsix 0 3 else s

/-- The digest D of the image in the loader (R424). -/
def Loader.digest (l : Loader) : BitVec 512 := sha3 (l.bytes.take (l.length - 4628))

/-- The image becomes the live full image (Table 15.12). -/
def State.nowLive (s : State) (l : Loader) : State :=
  { s with trust := { s.trust with
      live := l.digest, build := (l.bytes.drop 32).take 32, chain := 0, pfRecords := l.pfs } }

/-- E0 of a full image: every region with RESET. -/
def State.fullSwitch (s : State) : State :=
  let l := s.loader
  if s.ldrState = 3 ∨ s.ldrState = 4 then
    let s := { s with cfg := { s.cfg with
      fullWindow := .e0, fullAcorn := false, plls := l.podPlls, pins := l.podPins } }
    let s := (List.range 48).foldl (fun s p =>
      if s.bit (F.CFG_POD_STATE_valid p) then s.setFld (F.CFG_POD_STATE_state p) Sprout.switching else s) s
    let s := (s.nowLive l).setHeaders (pfTable l.pfs)
    (s.setFld F.PCI_LDR_STATUS_state 0).setLoader { acorn := l.acorn }
  else s

/-- The DEV cue slot the husk uses for a bound activation (notes/assumptions/41). -/
def activateSlot : Nat := 6

/-- A write of activate (R431). -/
def ldrActivateGo (s : State) : State :=
  if s.ldrState ≠ 3 then s.setFld F.PCI_STATUS_last_status Code.notPermitted
  else if !s.bit F.PCI_LDR_CTRL_bind then s.fullSwitch
  else
    let r := s.armCue .husk .dev activateSlot (s.reg R.PCI_LDR_AT) 0 false .fullSwitch
    if r.1 = 0 then r.2.setFld F.PCI_LDR_STATUS_state 4
    else r.2.setFld F.PCI_STATUS_last_status r.1

/-- A write of PCI_LDR_CTRL: its RW fields, then abort, src_go and activate. -/
def ldrCtrl (m : Master) (w : Word) (s : State) : State :=
  let s := (s.setBit F.PCI_LDR_CTRL_to_acorn (w.getLsbD 28)).setBit F.PCI_LDR_CTRL_bind (w.getLsbD 27)
  let s := if w.getLsbD 31 then ldrAbortGo s else s
  let s := if w.getLsbD 29 then srcGo m s else s
  (if w.getLsbD 30 then ldrActivateGo s else s).ack

/-! ## Records (R423, R428, R430) -/

/-- Stored frames are marked essential no longer as their plane is loaded anew (R112). -/
def State.clearEssential (s : State) : List Nat → State
  | [] => s
  | n :: l =>
    let lo := frameKey n (!s.bit (F.CFG_REGION_live_plane n)) 0
    ({ s with cfg := { s.cfg with essential := s.cfg.essential.filter fun e =>
      !(decide (lo ≤ e.1) && decide (e.1 < lo + 5120)) } }).clearEssential l

/-- Regions the image loads: every one, or those of the named pods and their twins. -/
def State.imageRegions (s : State) : List Nat :=
  if s.loader.kind = 1 then List.range 96 else (s.ldrPods.flatMap s.podPair).flatMap s.podRegions

/-- The first record of an image: its pods go STAGING (R97, R105, R432). -/
def State.firstRecord (s : State) : State :=
  let l := s.loader
  if l.begun || l.toAcorn || decide (2 < l.kind) then s.setLoader { l with begun := true }
  else
    let s := (s.setLoader { l with begun := true }).clearEssential s.imageRegions
    if l.kind = 2 then s.ldrPods.foldl (fun s p => s.setSprout p Sprout.staging) s
    else if inService s.mode then
      let s := { s with cfg := { s.cfg with fullLive := true } }
      ((List.range 48).foldl (fun s p =>
        if s.bit (F.CFG_POD_STATE_valid p) then s.setFld (F.CFG_POD_STATE_state p) Sprout.staging else s)
        s).showStaging
    else s

/-- The next record, once it has come whole and is of the type named: it is acted on, and the one
after it checked. `act` may reject the image. -/
def State.ldrRecord (s : State) (types : List Nat) (ready : RecHead → State → Bool)
    (act : RecHead → List Byte → State → State) : State :=
  if s.ldrState ≠ 1 ∨ s.loader.checked = false ∨ s.loader.ended = true then s
  else
    let s := s.ldrFill (s.loader.next + 8)
    let r := s.loader.recHead
    if s.loader.bytes.length < s.loader.next + 8 ∨ types.contains r.type = false ∨ ready r s = false then s
    else
      let s := s.ldrFill (s.loader.next + 8 + r.size)
      let l := s.loader
      if l.bytes.length < l.next + 8 + r.size then s
      else
        let s := act r ((l.bytes.drop (l.next + 8)).take r.size) s.firstRecord
        if s.ldrState ≠ 1 then s
        else (s.setLoader { s.loader with next := l.next + 8 + r.size }).ldrPeek rejectWith

def always (_ : RecHead) (_ : State) : Bool := true

/-- The places a frame or memory of a region is written: the region, and its twin (R125). -/
def State.places (s : State) (n : Nat) : List Nat :=
  let p := s.podOf n
  if s.loader.kind = 2 ∧ s.paired p = true ∧ s.isTwin p = false then [n, s.twinRegion p n] else [n]

/-- A frame goes to the sprout plane, and to the staging copy of the frame store (R430). -/
def State.loadFrame (s : State) (i : Nat) (v : BitVec 3072) : List Nat → State
  | [] => s
  | n :: l =>
    let s := s.writeFrame n (!s.bit (F.CFG_REGION_live_plane n)) i v
    ({ s with cfg := { s.cfg with staging := Table.set noFrame s.cfg.staging (n * 5120 + i) v } }).loadFrame i v l

/-- Frames from an index on, of a region. -/
def State.loadFrames (s : State) (n i : Nat) : Nat → List Byte → State
  | 0, _ => s
  | k + 1, b =>
    (s.loadFrame i (BitVec.ofNat 3072 (ofBytes (b.take 384))) (s.places n)).loadFrames n (i + 1) k (b.drop 384)

/-- A run of frames has been written. -/
def State.noteFrames (s : State) (r : RecHead) : State :=
  s.setLoader { s.loader with
    written := s.loader.written ++ [(frameRegion r.address * 5120 + frameIndex r.address, r.count)] }

/-- FRAMES and ZEROS: the payload of a ZEROS record is empty, so its frames are zero. -/
def framesAct (r : RecHead) (b : List Byte) (s : State) : State :=
  let s := s.noteFrames r
  if s.loader.toAcorn then s else s.loadFrames (frameRegion r.address) (frameIndex r.address) r.count b

def markEssential (n i : Nat) (s : State) : State :=
  { s with cfg := { s.cfg with
      essential := Table.set (fun _ => false) s.cfg.essential
        (frameKey n (!s.bit (F.CFG_REGION_live_plane n)) i) true } }

def essentialAct (r : RecHead) (_ : List Byte) (s : State) : State :=
  if s.loader.toAcorn then s
  else
    (s.places (frameRegion r.address)).foldl (fun s n =>
      (List.range r.count).foldl (fun s i => markEssential n (frameIndex r.address + i) s) s) s

/-- One block memory: data word w in bits 18w + 17 : 18w. -/
def State.loadBram (s : State) (n mem : Nat) (b : List Byte) : State :=
  let v := ofBytes b
  (List.range 1024).foldl (fun s w => s.setBram (bramKey n mem w) { data := BitVec.ofNat 18 (v / 2 ^ (18 * w)) }) s

def bramAct (r : RecHead) (b : List Byte) (s : State) : State :=
  if s.loader.toAcorn then s
  else
    (s.places (frameRegion r.address)).foldl (fun s n =>
      (List.range r.count).foldl (fun s k =>
        s.loadBram n (r.address % 512 + k) ((b.drop (2304 * k)).take 2304)) s) s

/-- The words of a PLL's page (R492): CTRL, FB, OUT 0 to 7, GCLK. -/
def pllWords (b : List Byte) : List Word :=
  (List.range 11).map fun i => BitVec.ofNat 32 (ofBytes ((b.drop (4 * i)).take 4)) &&& (match i with
    | 0 => 0x9000003F#32
    | 1 => 0x01FFFFFF#32
    | 10 => 0xFFFF#32
    | _ => 0x80007FFF#32)

/-- Settings beyond Table 18.4 are a bad record (R492). -/
def pllAct (r : RecHead) (b : List Byte) (s : State) : State :=
  let ws := pllWords b
  if (ws.getD 0 0).getLsbD 31 && !s.fpllOk ws then s.reject Code.badRecord
  else s.setLoader { s.loader with plls := s.loader.plls.filter (fun e => e.1 != r.address) ++ [(r.address, ws)] }

/-- The ranges of Table 15.4. -/
def pfOk (b : List Byte) : Bool :=
  let n (o k : Nat) : Nat := ofBytes ((b.drop o).take k)
  decide (n 6 2 ≤ 1024) && decide (n 8 1 < 6) && n 9 7 == 0 &&
    (List.range 6).all fun k =>
      (n (16 + 8 * k) 1 == 0 || (decide (12 ≤ n (16 + 8 * k) 1) && decide (n (16 + 8 * k) 1 ≤ 30))) &&
        decide (n (17 + 8 * k) 1 < 4) && decide (n (18 + 8 * k) 2 < 192) && n (20 + 8 * k) 4 == 0

def pfAct (r : RecHead) (b : List Byte) (s : State) : State :=
  if pfOk b then
    s.setLoader { s.loader with pfs := s.loader.pfs.filter (fun e => e.1 != r.address) ++ [(r.address, b)] }
  else s.reject Code.badRecord

/-- Engine records wait while the engine powers up (R151). -/
def engineReady (r : RecHead) (s : State) : Bool := s.engState (r.address % 1024) == EngState.stopped

def imemAct (r : RecHead) (b : List Byte) (s : State) : State :=
  let n := r.address % 1024
  let s := (List.range r.count).foldl (fun s i =>
    s.setInstr n (r.address / 65536 + i) (BitVec.ofNat 64 (ofBytes ((b.drop (8 * i)).take 8)))) s
  s.setLoader { s.loader with imem := s.loader.imem ++ [n] }

def dmemAct (r : RecHead) (b : List Byte) (s : State) : State :=
  (List.range r.count).foldl (fun s i =>
    s.setDword (r.address % 1024) (r.address / 65536 + i)
      { w := ofLayout (BitVec.ofNat 64 (ofBytes ((b.drop (8 * i)).take 8))) }) s

def startAct (r : RecHead) (_ : List Byte) (s : State) : State :=
  s.setLoader { s.loader with starts := s.loader.starts ++ [(r.address, r.count)] }

def blobAct (r : RecHead) (b : List Byte) (s : State) : State :=
  if ofBytes (b.drop r.count) ≠ 0 then s.reject Code.badRecord
  else s.setLoader { s.loader with blob := b.take r.count }

/-! ## The end of the records (R425) -/

/-- Two runs of frames are apart. -/
def runsApart (a b : Nat × Nat) : Bool := decide (a.1 + a.2 ≤ b.1) || decide (b.1 + b.2 ≤ a.1)

/-- Every run is apart from every later one. -/
def allApart : List (Nat × Nat) → Bool
  | [] => true
  | a :: l => l.all (runsApart a) && allApart l

/-- Every frame of every region loaded is written exactly once. -/
def State.covered (s : State) : Bool :=
  let regions := if s.loader.kind = 1 then 96 else (s.ldrPods.flatMap s.podRegions).length
  allApart s.loader.written && (s.loader.written.foldl (fun n r => n + r.2) 0) == 5120 * regions

/-- END: the stream must be complete, END directly before the trailer, the coverage complete, and
the BLOB there for a kind that takes one. -/
def endRecord (s : State) : State :=
  if s.ldrState ≠ 1 ∨ s.loader.checked = false ∨ s.loader.ended = true then s
  else
    let s := s.ldrFill s.loader.length
    let l := s.loader
    if l.bytes.length < l.length ∨ l.recHead.type ≠ 0xFF then s
    else if l.next + 8 + 7224 ≠ l.length ∨ (l.kind ≤ 2 ∧ s.covered = false) ∨
        (4 ≤ l.kind ∧ l.blob = []) then s.reject Code.badRecord
    else (s.setLoader { l with ended := true }).setFld F.PCI_LDR_STATUS_state 2

/-! ## Verification and acceptance (R424, R428, R430 to R435, R443) -/

/-- SHA3-512 of the key in the trailer. -/
def Loader.keyDigest (l : Loader) : BitVec 512 :=
  sha3 ((l.bytes.drop (l.length - 7224)).take 2592)

/-- The key is accepted (R424). -/
def State.keyAccepted (s : State) (l : Loader) : Bool :=
  if l.keySlot = 0xFF then l.keyDigest == Config.xoeloDigest l.kind
  else if l.keySlot = 0xFE then s.fuses.lifeCycle == 0
  else s.slotUsable l.keySlot && l.keyDigest == s.ownerDigest l.keySlot

/-- The signature verifies. -/
def Loader.signed (l : Loader) : Bool :=
  let t := l.bytes.drop (l.length - 7224)
  ofBytes ((t.drop 2592).take 4) == 4627 && ofBytes ((t.drop 7223).take 1) == 0 &&
    Config.mlDsaVerify (t.take 2592) (toBytes 64 l.digest.toNat) ((t.drop 2596).take 4627)

/-- A claim the loader makes for a pod (R90, R497): lost where another master holds the resource. -/
def State.imageClaim (s : State) (m : Master) (off : Nat) : State :=
  match s.holder off with
  | none => (s.setHolder off (some m)).setFld (claimStatusField off) 0
  | some h => s.setFld (claimStatusField off) (if h.same m then 0 else Code.claimBusy)

/-- The pod of the image whose region comes first among those a PLL serves. -/
def pllOwner (owner : Nat → Option Nat) (q : Nat) : Option Nat :=
  (pllRegions q).foldl (fun o n => o.or (owner n)) none

/-- The frames of a region's sprout plane. -/
def State.sproutFrames (s : State) (n : Nat) : List (Nat × BitVec 3072) :=
  let lo := frameKey n (!s.bit (F.CFG_REGION_live_plane n)) 0
  (s.cfg.frames.filter fun e => decide (lo ≤ e.1) && decide (e.1 < lo + 5120)).map
    fun e => (e.1 - lo + n * 5120, e.2)

/-- Settings of one pod of an image: its claims are made, and its PLLs and pins noted. -/
def State.podAccept (s : State) (owner : Nat → Option Nat) (p : Nat) (regions : List Nat) : State :=
  let m : Master := .accessPoint (Fin.ofNat 192 (2 * regions.headD 0))
  let plls := s.loader.plls.filter fun e => pllOwner owner e.1 == some p
  let pins := Config.pinUse (regions.flatMap s.sproutFrames)
  let pins := pins.filter fun e => decide (e.1 < 384)
  let s := plls.foldl (fun s e => s.imageClaim m (fpllClaim e.1)) s
  let s := pins.foldl (fun s e => s.imageClaim m (pinClaim e.1)) s
  s.setLoader { s.loader with
    podPlls := Table.set noPlls s.loader.podPlls p plls
    podPins := Table.set noPins s.loader.podPins p pins }

/-- Settings of every pod of a pod table. -/
def State.tableAccept (s : State) (t : Table PodEntry) : State :=
  let owner (n : Nat) : Option Nat :=
    (t.find? fun e => e.2.valid && e.2.regions.getLsbD n).map (·.1)
  (t.filter fun e => e.2.valid).foldl (fun s e => s.podAccept owner e.1 e.2.list) s

/-- The first full image (transition 0x06): every region switches with RESET, under the global
set-reset (R80, R431). -/
def State.acceptFirst (s : State) : State :=
  let t := s.loader.podTable
  let acorn := s.ldrSource == 2
  let s := s.tableAccept t
  let l := s.loader
  let s := { s with cfg := { s.cfg with
    stagedTable := t, plls := l.podPlls, pins := l.podPins, fullWindow := .e0, fullAcorn := acorn } }
  let s := { s with dev := { s.dev with gsr := true, rdvEntry := s.now } }
  let s := (s.nowLive l).setBit F.DEV_MODE_on_acorn acorn
  (s.transition 0x06 Mode.rendezvous).ldrEnd 0

/-- A full image while live: every pod is STAGED (R431). -/
def State.acceptStaged (s : State) : State :=
  let t := s.loader.podTable
  let s := s.tableAccept t
  let s := { s with cfg := { s.cfg with stagedTable := t } }
  let s := ((List.range 48).foldl (fun s p =>
    if s.sprout p == Sprout.staging then s.setFld (F.CFG_POD_STATE_state p) Sprout.staged else s) s).showStaging
  ((s.setFld F.PCI_LDR_STATUS_last_status 0).setFld F.PCI_LDR_STATUS_state 3).sendMsix 0 0

/-- The acorn's valid mark is cleared, and the flash work begins (R443). -/
def State.acceptAcorn (s : State) : State :=
  let s := { s with flash := s.flash.rewriteDesc { s.flash.desc with acornValid := false } }
  let s := (s.setBit F.PCI_FLASH_WEAR_acorn_busy true).setBit F.PCI_FLASH_WEAR_acorn_valid false
  (s.setLoader { s.loader with acorn := s.loader.bytes }).ldrEnd 0

/-- M ← SHA3-512(M ‖ D) (Table 15.12). -/
def State.measure (s : State) : State :=
  { s with trust := { s.trust with
      chain := sha3 (toBytes 64 s.trust.chain.toNat ++ toBytes 64 s.loader.digest.toNat) } }

/-- A partial image: its pods are STAGED (R432). -/
def State.acceptPartial (s : State) : State :=
  let pods := s.ldrPods
  let owner (n : Nat) : Option Nat := if pods.contains (s.podOf n) then some (s.podOf n) else none
  let s := pods.foldl (fun s p => s.podAccept owner p (s.podRegions p)) s
  let l := s.loader
  let s := { s with cfg := { s.cfg with
    plls := pods.foldl (fun t p => Table.set noPlls t p (Table.get noPlls l.podPlls p)) s.cfg.plls
    pins := pods.foldl (fun t p => Table.set noPins t p (Table.get noPins l.podPins p)) s.cfg.pins } }
  let s := pods.foldl (fun s p =>
    if s.sprout p == Sprout.staging then (s.setSprout p Sprout.staged).podStatus p 0 else s) s
  s.measure.ldrEnd 0

/-- A bundle's engines: the old programs are unloaded, the new ones count as loaded, and start_pc
is set (R151, R152, R433). -/
def State.bundleAccept (s : State) (l : Loader) : List Nat → State
  | [] => s
  | n :: ns =>
    let s := s.unloadEngine n
    let s := if l.imem.contains n then s.setEngine n { s.engine n with loaded := true } else s
    let s := match l.starts.reverse.find? fun e => e.1 == n with
      | some e => s.setFld (F.ENG_RUN_start_pc n) e.2
      | none => s
    (s.engStatus n 0).bundleAccept l ns

def State.acceptBundle (s : State) : State := (s.bundleAccept s.loader s.loader.engines).measure.ldrEnd 0

/-- Erases of the sectors from `lo` on, one each. -/
def State.erase (s : State) (lo n : Nat) : State :=
  let t := (List.range n).foldl (fun t k => Table.modify zeroNat t (lo + k) (· + 1)) s.flash.erases
  ({ s with flash := { s.flash with erases := t } }).showWear

/-- Firmware goes to the inactive slot (R434); in recovery to slot 0, and the device is reset
(R436). -/
def State.acceptFirmware (s : State) : State :=
  let l := s.loader
  let f : FwSlot := { verified := true, secVersion := l.secVersion, digest := l.digest }
  let slot := if s.trust.recovery then 0 else 1 - s.trust.slot
  let s := { s with flash := if slot = 0 then { s.flash with fw0 := f } else { s.flash with fw1 := f } }
  let s := s.erase (if slot = 0 then 0x10 else 0x90) ((l.length + 65535) / 65536)
  let s := if s.trust.recovery then { s with trust := { s.trust with resetDue := true } } else s
  s.ldrEnd 0

/-- The policy is replaced as a whole (R434, R435). -/
def State.acceptPolicy (s : State) : State :=
  match s.policyOf s.loader.blob with
  | none => s.reject Code.invalidArgument
  | some p => (s.policyNow { p with digest := s.loader.digest }).ldrEnd 0

/-- The fields of a COMMAND's BLOB (R447). -/
def Loader.signedCmd (l : Loader) : SignedCmd :=
  let b := l.blob
  { code := ofBytes ((b.drop 72).take 2), counter := ofBytes ((b.drop 64).take 8),
    args := List.take (ofBytes ((b.drop 76).take 4)) (b.drop 80),
    slot := l.keySlot, key := l.keyDigest }

/-- A signed command is checked for this device and for its counter, and then waits to be run. -/
def State.acceptCommand (s : State) : State :=
  let c := s.loader.signedCmd
  let b := s.loader.blob
  if ofBytes (b.take 64) ≠ (sha3 Config.identityKey).toNat then s.reject Code.wrongDevice
  else if c.counter ≤ s.flash.counter then s.reject Code.rollback
  else if b.length < 80 ∨ ofBytes ((b.drop 74).take 2) ≠ 0 ∨ b.length < 80 + ofBytes ((b.drop 76).take 4) then
    s.reject Code.invalidArgument
  else if c.code = 0 ∨ 8 < c.code then s.reject Code.unsupported
  else s.setLoader { s.loader with command := some c }

/-- Verification completes (R424, R428). -/
def imageVerified (s : State) : State :=
  let l := s.loader
  if s.ldrState ≠ 2 ∨ l.ended = false ∨ l.command.isSome then s
  else if !l.signed || !s.keyAccepted l then s.reject Code.badSignature
  else match l.kind with
    | 1 => if l.toAcorn then s.acceptAcorn else if s.mode = Mode.load then s.acceptFirst else s.acceptStaged
    | 2 => s.acceptPartial
    | 3 => s.acceptBundle
    | 4 => s.acceptFirmware
    | 5 => s.acceptPolicy
    | _ => s.acceptCommand

/-- A FLASH_WEAR record is sent, once per day, while an acorn sector is past 90 % (R442). -/
def State.wearRecord (s : State) : State :=
  let due := match s.trust.wearAt with
    | none => true
    | some t => decide (t + 86400000000000 ≤ s.now)
  if s.bit F.PCI_FLASH_WEAR_acorn_locked && due then
    let s := { s with trust := { s.trust with wearAt := some s.now } }
    s.fault .husk .flashWear (.unit .husk) Code.flashWorn (s.fld F.PCI_FLASH_WEAR_acorn_pct)
  else s

/-- The acorn area has been erased, programmed and read back (R442, R443). -/
def acornDone (ok : Bool) (s : State) : State :=
  if !s.bit F.PCI_FLASH_WEAR_acorn_busy then s
  else
    let b := s.loader.acorn
    let base := s.flash.policy.acornBase
    let s := (s.setLoader { s.loader with acorn := [] }).setBit F.PCI_FLASH_WEAR_acorn_busy false
    let s := s.erase (base / 65536) ((b.length + 65535) / 65536)
    let s := { s with flash := { s.flash with acorn := b } }
    let s := if ok then
        ({ s with flash := s.flash.rewriteDesc { s.flash.desc with
          acornValid := true, acornLen := b.length, acornBase := base } }).setBit F.PCI_FLASH_WEAR_acorn_valid true
      else s
    s.wearRecord

/-- 100 ms with bytes outstanding and no write truncate a host stream (R427). -/
def streamIdle (s : State) : State :=
  if (s.loader.checked = true ∧ s.loader.length ≤ s.loader.bytes.length) ∨
      s.passed s.loader.writeAt 100000000 = false then s
  else s.truncateHost

/-! ## PF1 to PF3 (R437) -/

/-- 1.0 s after PERST# an unserved function answers with the placeholder header. -/
def pfTimeout (s : State) : State :=
  if s.dev.crs && !s.dev.perst && s.passed s.dev.perstFrom 1000000000 then
    ({ s with dev := { s.dev with crs := false } }).setHeaders []
  else s

/-! ## Meanings -/

/-- R425, R427, R431. -/
def execHostWindowWrite (offset : BitVec 26) (bytes : List Byte) (s : State) : Out :=
  .next (windowWrite offset.toNat bytes s)
/-- R427. -/
def execLdrSrcGo (m : Master) (w : Word) (s : State) : Out := .next (ldrCtrl m (w ||| 0x20000000#32) s)
/-- R427, R431. -/
def execLdrAbort (m : Master) (w : Word) (s : State) : Out := .next (ldrCtrl m (w ||| 0x80000000#32) s)
/-- R105, R431, R437. -/
def execLdrActivate (m : Master) (w : Word) (s : State) : Out := .next (ldrCtrl m (w ||| 0x40000000#32) s)
/-- R427. -/
def execStreamIdleTimeout (s : State) : Out := .next (streamIdle s)
/-- R91, R114, R125, R423, R430. -/
def execFramesRecord (s : State) : Out := .next (s.ldrRecord [1] always framesAct)
/-- R423, R428. -/
def execZerosRecord (s : State) : Out := .next (s.ldrRecord [2] always framesAct)
/-- R112, R423. -/
def execEssentialRecord (s : State) : Out := .next (s.ldrRecord [3] always essentialAct)
/-- R70, R423, R428. -/
def execBramRecord (s : State) : Out := .next (s.ldrRecord [4] always bramAct)
/-- R90, R423, R492. -/
def execPllRecord (s : State) : Out := .next (s.ldrRecord [5] always pllAct)
/-- R423, Table 15.4. -/
def execPciePfRecord (s : State) : Out := .next (s.ldrRecord [6] always pfAct)
/-- R151, R423. -/
def execEngImemRecord (s : State) : Out := .next (s.ldrRecord [0x10] engineReady imemAct)
/-- R20, R151, R423. -/
def execEngDmemRecord (s : State) : Out := .next (s.ldrRecord [0x11] engineReady dmemAct)
/-- R423, R433. -/
def execEngStartRecord (s : State) : Out := .next (s.ldrRecord [0x12] always startAct)
/-- R423. -/
def execBlobRecord (s : State) : Out := .next (s.ldrRecord [0x20] always blobAct)
/-- R425. -/
def execEndRecord (s : State) : Out := .next (endRecord s)
/-- R424, R426, R430 to R435, R443, R447. -/
def execImageVerifyDone (s : State) : Out := .next (imageVerified s)
/-- R442, R443. -/
def execAcornRewriteDone (ok : Bool) (s : State) : Out := .next (acornDone ok s)
/-- R437. -/
def execPfRetryTimeout (s : State) : Out := .next (pfTimeout s)

end Sys2Proof.Machine
end

