-- ==== Sys2Proof/Machine/Converter.lean ====
section
/-! DEFINITION. Converter lanes (chapter 10): link settings, bring-up, SYSREF and the LMFC,
sample blocks, errors and lane faults, eye scans, PRBS and injection. -/

namespace Sys2Proof.Machine

/-! ## Links and groups -/

def noCvLink (_ : Nat) : CvLink := {}
def noCvGroup (_ : Nat) : CvGroup := {}

def State.cvLink (s : State) (g k : Nat) : CvLink := Table.get noCvLink s.cvl.links (8 * g + k)

def State.setCvLink (s : State) (g k : Nat) (l : CvLink) : State :=
  { s with cvl := { s.cvl with links := Table.set noCvLink s.cvl.links (8 * g + k) l } }

def State.cvGroup (s : State) (g : Nat) : CvGroup := Table.get noCvGroup s.cvl.groups g

def State.setCvGroup (s : State) (g : Nat) (x : CvGroup) : State :=
  { s with cvl := { s.cvl with groups := Table.set noCvGroup s.cvl.groups g x } }

def State.cvRefuse (s : State) (g status : Nat) : State := s.refuse (F.CVL_G_STATUS_last_status g) status

/-- The CVL is frozen under HALT (R340). -/
def State.cvlFrozen (s : State) : Bool := s.bit F.DBG_STATUS_frozen && s.bit F.DBG_FREEZE_cvl

/-- The words of a link's settings. -/
structure LinkCfg where
  c0 : Word
  c1 : Word
  dest : Word
  en : Bool
  deriving DecidableEq, Repr

def State.liveCfg (s : State) (g k : Nat) : LinkCfg :=
  { c0 := s.reg (R.CVL_LK_CFG0 g k), c1 := s.reg (R.CVL_LK_CFG1 g k), dest := s.reg (R.CVL_LK_DEST g k)
    en := s.bit (F.CVL_LK_CTRL_en g k) }

def State.shadowCfg (s : State) (g k : Nat) : LinkCfg :=
  { c0 := s.shadow (R.CVL_LK_CFG0 g k), c1 := s.shadow (R.CVL_LK_CFG1 g k)
    dest := s.shadow (R.CVL_LK_DEST g k), en := (s.shadow (R.CVL_LK_CTRL g k)).getLsbD 31 }

namespace LinkCfg
def first (c : LinkCfg) : Nat := bitsOf c.c0 29 3
def l (c : LinkCfg) : Nat := bitsOf c.c0 26 3 + 1
def m (c : LinkCfg) : Nat := bitsOf c.c0 21 5 + 1
def f (c : LinkCfg) : Nat := bitsOf c.c0 17 4 + 1
def s (c : LinkCfg) : Nat := bitsOf c.c0 14 3 + 1
def k (c : LinkCfg) : Nat := bitsOf c.c0 9 5 + 1
def n (c : LinkCfg) : Nat := bitsOf c.c0 5 4 + 1
def cs (c : LinkCfg) : Nat := bitsOf c.c0 3 2
def raw (c : LinkCfg) : Bool := c.c1.getLsbD 31
def sub1 (c : LinkCfg) : Bool := c.c1.getLsbD 30
def errAction (c : LinkCfg) : Nat := bitsOf c.c1 28 2
def realign (c : LinkCfg) : Nat := bitsOf c.c1 26 2
def enforce (c : LinkCfg) : Bool := c.c1.getLsbD 25
def packed (c : LinkCfg) : Bool := c.c1.getLsbD 24
def fill (c : LinkCfg) : Bool := c.c1.getLsbD 23
def b (c : LinkCfg) : Nat := bitsOf c.c1 8 8
def rbd (c : LinkCfg) : Nat := bitsOf c.c1 0 5
def dstNi (c : LinkCfg) : Nat := bitsOf c.dest 22 10
def route (c : LinkCfg) : Nat := bitsOf c.dest 10 12
def prio (c : LinkCfg) : Nat := bitsOf c.dest 7 3
/-- The octets of a multiframe on a lane (R316, R331). -/
def octets (c : LinkCfg) : Nat := c.k * c.f + if c.raw then 2 else 0
/-- The bytes of a block's header and of one frame (Table 10.3). -/
def headBytes (c : LinkCfg) : Nat := if c.packed then 8 else 16
def frameBytes (c : LinkCfg) : Nat := if c.packed then 2 * c.m * c.s else 8 * ((c.m + 1) / 2) * c.s
/-- The lanes of the group a link uses. -/
def lanes (c : LinkCfg) : List Nat := (List.range c.l).map (· + c.first)
def mask (c : LinkCfg) : Nat := c.lanes.foldl (fun x i => x + 2 ^ i) 0
end LinkCfg

/-- One link's settings alone (R315, R316, R318, R321, R326, R334). -/
def LinkCfg.ok (c : LinkCfg) (ratio : Nat) : Bool :=
  let pow := fun n => n == 1 || n == 2 || n == 4 || n == 8
  pow c.l && pow c.s && (pow c.f || c.f == 16) && decide (c.first % c.l = 0) &&
    decide (c.first + c.l ≤ 8) && decide (11 ≤ c.n) && decide (c.cs ≤ 2) &&
    decide (c.n + c.cs ≤ 16) && decide (17 ≤ c.f * c.k) && decide (c.f * c.k ≤ 1024) &&
    c.f * 8 * c.l == c.m * c.s * 16 && decide (1 ≤ c.b) && decide (c.b ≤ 32) && c.k % c.b == 0 &&
    decide (c.headBytes + c.frameBytes * c.b ≤ 512) && decide (c.rbd < c.k) &&
    decide (c.errAction ≤ 1) && decide (c.realign ≤ 2) && decide (c.prio ≤ 5) &&
    10 * c.octets % ratio == 0

/-- The settings of the eight links of a group together: every enabled one is valid, no two of
a direction share a lane, and the multiframes divide the largest (R315, R324). -/
def groupOk (ratio : Nat) (c : List LinkCfg) : Bool :=
  let on := (c.zipIdx).filter fun x => x.1.en
  let top := on.foldl (fun n x => max n x.1.octets) 0
  on.all fun x => x.1.ok ratio && top % x.1.octets == 0 &&
    on.all fun y => x.2 == y.2 || decide (x.2 / 4 ≠ y.2 / 4) ||
      x.1.lanes.all fun i => !y.1.lanes.contains i

/-- The settings of a group with the shadow set of some links made live. -/
def State.candidate (s : State) (g : Nat) (ks : List Nat) : List LinkCfg :=
  (List.range 8).map fun k => if ks.contains k then s.shadowCfg g k else s.liveCfg g k

def State.groupValid (s : State) (g : Nat) (ks : List Nat) : Bool :=
  groupOk (s.fld (F.CVL_G_CTRL_ratio g)) (s.candidate g ks)

/-! ## Starting and resynchronising links (R319, R331, R334) -/

/-! The state codes of CVL_LK_STATUS. -/
namespace LkState
def disabled : Nat := 0
def cgs : Nat := 1
def ilas : Nat := 2
def data : Nat := 3
def aligning : Nat := 4
end LkState

def State.lkState (s : State) (g k : Nat) : Nat := s.fld (F.CVL_LK_STATUS_state g k)
def State.setLk (s : State) (g k v : Nat) : State := s.setFld (F.CVL_LK_STATUS_state g k) v

/-- The lanes of a receive link lose or gain their alignment. -/
def State.alignLanes (s : State) (g : Nat) (b : Bool) : List Nat → State
  | [] => s
  | i :: l => (s.setBit (F.CVL_LANE_STATUS_aligned (8 * g + i)) b).alignLanes g b l

def State.clearCgs (s : State) (g : Nat) : List Nat → State
  | [] => s
  | i :: l => (s.setBit (F.CVL_LANE_STATUS_cgs (8 * g + i)) false).clearCgs g l

/-- A link begins at code-group synchronisation or at raw alignment; what it was making is
gone, and blocks that wait to be sent stay. -/
def State.startLink (s : State) (g k : Nat) : State :=
  let c := s.liveCfg g k
  let l := s.cvLink g k
  let s := s.setCvLink g k { l with syncOut := false, syncIn := false, multiframes := 0, findex := 0, making := none }
  let s := s.setLk g k (if c.raw then LkState.aligning else LkState.cgs)
  let s := s.setFld (F.CVL_LK_STATUS_lanes_ok g k) 0
  if k < 4 then (s.alignLanes g false c.lanes).clearCgs g c.lanes else s

/-- A link resynchronises; the times it does are counted. -/
def State.resync (s : State) (g k : Nat) : State :=
  if (s.liveCfg g k).en then
    (s.satFld (F.CVL_LK_SYNC_resyncs g k) (F.CVL_LK_SYNC_overflow g k)).startLink g k
  else s

/-- The link each lane of a group serves, as its status shows. -/
def State.showLanes (s : State) (g : Nat) : List Nat → State
  | [] => s
  | i :: l =>
    let use := fun (lo : Nat) =>
      (((List.range 4).find? fun k => (s.liveCfg g (lo + k)).en && (s.liveCfg g (lo + k)).lanes.contains i).map
        (· + lo)).getD 15
    let s := s.setFld (F.CVL_LANE_STATUS_link_rx (8 * g + i)) (use 0)
    (s.setFld (F.CVL_LANE_STATUS_link_tx (8 * g + i)) (use 4)).showLanes g l

/-- The shadow set of a link becomes live (R334): the destination alone disturbs nothing. -/
def State.linkLive (s : State) (g k : Nat) : State :=
  let old := s.liveCfg g k
  let new := s.shadowCfg g k
  let s := (s.setReg (R.CVL_LK_CFG0 g k) new.c0).setReg (R.CVL_LK_CFG1 g k) new.c1
  let s := (s.setReg (R.CVL_LK_DEST g k) new.dest).setBit (F.CVL_LK_CTRL_en g k) new.en
  let s := s.showLanes g (List.range 8)
  if !new.en then
    if old.en then
      let t := (s.setLk g k LkState.disabled).setFld (F.CVL_LK_STATUS_lanes_ok g k) 0
      let t := t.setCvLink g k {}
      if k < 4 then t.alignLanes g false old.lanes else t
    else s
  else if !old.en then s.startLink g k
  else if old.c0 = new.c0 ∧ old.c1 = new.c1 then s
  else s.resync g k

def State.linksLive (s : State) (g : Nat) : List Nat → State
  | [] => s
  | k :: l => (s.linkLive g k).linksLive g l

/-- A write of apply (R334). -/
def linkApply (g k : Nat) (s : State) : State :=
  if s.groupValid g [k] then
    ((s.linkLive g k).setFld (F.CVL_LK_STATUS_last_status g k) 0).ack
  else s.refuse (F.CVL_LK_STATUS_last_status g k) Code.invalidArgument

def linkResync (g k : Nat) (s : State) : State := (s.resync g k).ack

/-- A write of CVL_G_CTRL (R316): ratio is writable while the PLL is off, and checked as the
PLL is enabled. -/
def groupPll (g : Nat) (w : Word) (s : State) : State :=
  let on := s.bit (F.CVL_G_CTRL_pll_en g)
  let ratio := if on then s.fld (F.CVL_G_CTRL_ratio g) else bitsOf w 0 8
  if w.getLsbD 31 && (decide (ratio < 8) || decide (200 < ratio)) then s.cvRefuse g Code.invalidArgument
  else
    let s := (s.setFld (F.CVL_G_CTRL_ratio g) ratio).setBit (F.CVL_G_CTRL_pll_en g) (w.getLsbD 31)
    (if w.getLsbD 31 == on then s else s.rejudge (.convPll (Fin.ofNat 8 g))).ack

/-! ## SYSREF and the LMFC (R323 to R325) -/

/-- The claim register of a group's SYSREF generator. -/
def sysrefClaim (g : Nat) : Nat := R.DEV_CLAIM (0x180 + g)

def groupCue (g : Nat) : CueUnit := .cvl (Fin.ofNat 8 g)

/-- Arming needs the slot's claim and the generator's. -/
def cueArmGroup (m : Master) (g : Nat) (w : Word) (s : State) : State :=
  let slot := bitsOf w 0 3
  let s := s.setReg (R.CVL_G_CUE g) (w &&& 0x200000F7#32)
  if !s.holds m (sysrefClaim g) then
    (s.setFld ((groupCue g).statusF slot) Code.claimBusy).ack
  else
    let pin := !w.getLsbD 29 && s.bit (F.CVL_G_SYSREF_pin_en g)
    (s.armCue m (groupCue g) slot (s.reg (R.CVL_G_CUE_AT g)) (bitsOf w 4 4) pin
      (if w.getLsbD 29 then .align else .sysref)).2.ack

def cueDisarmGroup (m : Master) (g : Nat) (w : Word) (s : State) : State :=
  let slot := bitsOf w 0 3
  let s := s.setReg (R.CVL_G_CUE g) (w &&& 0x200000F7#32)
  if s.mayCue m (groupCue g) slot then ((s.cueClear (groupCue g) slot).setFld ((groupCue g).statusF slot) 0).ack
  else (s.setFld ((groupCue g).statusF slot) Code.claimBusy).ack

/-- A pulse on the SYSREF pin. -/
def State.sysrefPulse (s : State) (g : Nat) : State :=
  if s.bit (F.CVL_G_SYSREF_pin_en g) then
    s.setCvGroup g { s.cvGroup g with pulses := (s.cvGroup g).pulses + 1 }
  else s

/-- A group's cue fires: SYSREF drives the pin and, with a period set, goes on under the
generator's claim; ALIGN does not. -/
def State.sysrefFire (s : State) (g : Nat) (align : Bool) : State :=
  let s := s.setCvGroup g { s.cvGroup g with instant := true }
  if align then s
  else
    let s := s.sysrefPulse g
    if s.fld (F.CVL_G_SYSREF_period g) = 0 then s
    else s.setCvGroup g { s.cvGroup g with periodic := s.holder (sysrefClaim g), left := s.fld (F.CVL_G_SYSREF_pulses g) - 1 }

/-- The next pulse of a periodic SYSREF, for as long as the claim is held and pulses are left
(R323). -/
def periodicPulse (g : Nat) (s : State) : State :=
  let x := s.cvGroup g
  match x.periodic with
  | none => s
  | some m =>
    let endless := s.fld (F.CVL_G_SYSREF_pulses g) == 0
    if !s.holds m (sysrefClaim g) || (!endless && x.left == 0) then
      s.setCvGroup g { x with periodic := none, left := 0 }
    else (s.setCvGroup g { x with left := x.left - 1, instant := true }).sysrefPulse g

/-- A SYSREF instant acts on the LMFC as the mode sets (R324). -/
def sysrefAct (g : Nat) (same : Bool) (s : State) : State :=
  let x := s.cvGroup g
  if !x.instant then s
  else
    let s := if x.lmfc && !same then
        (s.setBit (F.CVL_G_SYSREF_misaligned g) true).fault (Unit.cvl g) .cvlAlign
      else s
    let go := match s.fld (F.CVL_G_SYSREF_mode g) with
      | 0 => !x.once
      | 1 => !(x.lmfc && same)
      | _ => false
    s.setCvGroup g { x with instant := false, once := true, restart := if go then some (!(x.lmfc && same)) else none }

/-- Service time to 62.5 ps: the ns and the fraction. -/
def State.stamp (s : State) (ns count fr : Field) : State :=
  let v := s.svc
  let s := s.setFld ns s.now
  (s.incFld count).setFld fr (v.extractLsb' 28 4).toNat

/-- A restart that moves the LMFC forces the subclass 1 and raw links through
resynchronisation. -/
def State.resyncMoved (s : State) (g : Nat) : List Nat → State
  | [] => s
  | k :: l =>
    let c := s.liveCfg g k
    (if c.raw || c.sub1 then s.resync g k else s).resyncMoved g l

/-- The LMFC restarts at the DEVCLK edge (R324, R325). -/
def lmfcGo (g : Nat) (s : State) : State :=
  let x := s.cvGroup g
  match x.restart with
  | none => s
  | some moved =>
    let s := s.setCvGroup g { x with restart := none, lmfc := true }
    let s := s.stamp (F.CVL_G_LMFC_NS_ns g) (F.CVL_G_LMFC_FRAC_count g)
      (F.CVL_G_LMFC_FRAC_frac g)
    if moved then s.resyncMoved g (List.range 8) else s

/-- The first DEVCLK edge of a microsecond is stamped (R325). -/
def devclkEdge (g : Nat) (s : State) : State :=
  s.stamp (F.CVL_G_DEVCLK_NS_ns g) (F.CVL_G_DEVCLK_FRAC_count g)
    (F.CVL_G_DEVCLK_FRAC_frac g)

/-! ## Bring-up (R319, R320, R331) -/

/-- The lanes run in SERVICE, UPDATE, REPAIR, FALLBACK and HALT (R340). -/
def State.lanesRun (s : State) : Bool := inService s.mode

/-- Every lane of a receive link is synchronised. -/
def State.allCgs (s : State) (g k : Nat) : Bool :=
  (s.liveCfg g k).lanes.all fun i => s.bit (F.CVL_LANE_STATUS_cgs (8 * g + i))

/-- The link releases SYNC~ and enters ILAS. -/
def State.enterIlas (s : State) (g k : Nat) : State :=
  let s := s.setCvLink g k { s.cvLink g k with syncOut := true, multiframes := 0 }
  s.setLk g k LkState.ilas

/-- A lane has seen four consecutive /K/ (R319). -/
def laneCgs (lane : Nat) (s : State) : State :=
  let g := lane / 8
  let k := s.fld (F.CVL_LANE_STATUS_link_rx lane)
  if !s.lanesRun || s.bit (F.CVL_LANE_STATUS_fault lane) || decide (3 < k) || s.lkState g k != LkState.cgs then s
  else
    let s := (s.setBit (F.CVL_LANE_STATUS_sig_det lane) true).setBit (F.CVL_LANE_STATUS_cdr_lock lane) true
    let s := s.setBit (F.CVL_LANE_STATUS_cgs lane) true
    if s.allCgs g k && !(s.liveCfg g k).sub1 then s.enterIlas g k else s

/-- The LMFC edge after every lane is synchronised (R319). -/
def syncOutGo (g k : Nat) (s : State) : State :=
  if s.lkState g k == LkState.cgs && (s.liveCfg g k).sub1 && s.allCgs g k && (s.cvGroup g).lmfc then
    s.enterIlas g k
  else s

/-- The link reaches DATA with every lane aligned. -/
def State.enterData (s : State) (g k : Nat) : State :=
  let c := s.liveCfg g k
  let s := s.setCvLink g k { s.cvLink g k with findex := 0, making := none }
  let s := s.setFld (F.CVL_LK_STATUS_lanes_ok g k) c.mask
  (s.setLk g k LkState.data).alignLanes g true c.lanes

/-- An alignment error or a late lane, handled by realign (R332); `near` is the lane where its
marker lies within ±4 octets of its place. -/
def State.linkError (s : State) (g k : Nat) (near : Option Nat) : State :=
  let s := s.fault (Unit.cvl g) .cvlAlign (.unit (Unit.cvl g)) 0 (8 * g + k)
  match (s.liveCfg g k).realign, near with
  | 0, _ => s
  | 1, some _ => s.satFld (F.CVL_LK_SYNC_reports g k) (F.CVL_LK_SYNC_overflow g k)
  | _, _ => s.resync g k

/-- An ILAS multiframe of a receive link (R319, R320). -/
def ilasNext (g k : Nat) (agrees placed : Bool) (s : State) : State :=
  if s.lkState g k != LkState.ilas then s
  else
    let c := s.liveCfg g k
    let n := (s.cvLink g k).multiframes + 1
    let s := s.setCvLink g k { s.cvLink g k with multiframes := n }
    if !placed then s.linkError g k none
    else
      let bad := n == 2 && !agrees
      let s := if bad then (s.setBit (F.CVL_LK_STATUS_ilas_mismatch g k) true).fault (Unit.cvl g) .cvlIlas
          (.unit (Unit.cvl g)) 0 (8 * g + k)
        else s
      if bad && c.enforce then s.startLink g k
      else if n = 4 then s.enterData g k
      else s

/-- A raw receive link is aligned (R331). -/
def rawAlign (g k : Nat) (s : State) : State :=
  if s.lkState g k == LkState.aligning then s.enterData g k else s

/-- A transmit link's SYNC~ input (R319). -/
def syncInGo (g k : Nat) (x : SyncIn) (s : State) : State :=
  let c := s.liveCfg g k
  if !c.en || c.raw then s
  else match x with
    | .report => s.satFld (F.CVL_LK_SYNC_reports g k) (F.CVL_LK_SYNC_overflow g k)
    | .request => s.resync g k
    | .high =>
      if s.lkState g k != LkState.cgs then s
      else
        let s := s.setCvLink g k { s.cvLink g k with syncIn := true, multiframes := 0 }
        if c.sub1 then s else s.setLk g k LkState.ilas

/-- A transmit link at an LMFC edge: ILAS after SYNC~ is seen high, DATA after its four
multiframes; a raw link sends /M/ once it has trained (R319, R331). -/
def State.txEdge (s : State) (g : Nat) (trained : BitVec 4) (k : Nat) : State :=
  let c := s.liveCfg g k
  let l := s.cvLink g k
  let st := s.lkState g k
  if !c.en then s
  else if c.raw then
    if st = LkState.aligning ∧ trained.getLsbD (k - 4) then s.setLk g k LkState.data else s
  else if st = LkState.cgs ∧ c.sub1 ∧ l.syncIn then s.setLk g k LkState.ilas
  else if st = LkState.ilas then
    let s := s.setCvLink g k { l with multiframes := l.multiframes + 1 }
    if l.multiframes + 1 = 4 then s.setLk g k LkState.data else s
  else s

/-! ## Receive blocks (R326 to R328, R332, R333) -/

/-- A link has a lane declared faulted. -/
def State.hasFault (s : State) (g k : Nat) : Bool :=
  (s.liveCfg g k).lanes.any fun i => s.bit (F.CVL_LANE_STATUS_fault (8 * g + i))

/-- A block gains a frame; a block begins at frame indices that are multiples of B. -/
def State.addFrame (s : State) (g k : Nat) (words : List (BitVec 16)) (err poison fill : Bool)
    (time : Word) : State :=
  let c := s.liveCfg g k
  let l := s.cvLink g k
  let i := l.findex
  let blk := if i % c.b = 0 then some { time := time, findex := i } else l.making
  let l := { l with findex := (i + 1) % c.k }
  match blk with
  | none => s.setCvLink g k l
  | some x =>
    let x : RxBlock := { x with frames := x.frames + 1, words := x.words ++ words, err := x.err || err, poison := x.poison || poison, fill := x.fill || fill }
    if x.frames = c.b then s.setCvLink g k { l with making := none, complete := l.complete ++ [x] }
    else s.setCvLink g k { l with making := some x }

/-- Character errors of a frame, counted on their lanes (R317). -/
def State.charErrors (s : State) (g : Nat) : List (Fin 8 × BitVec 16 × BitVec 15) → State
  | [] => s
  | (i, code, disp) :: l =>
    let n := 8 * g + i.val
    let s := s.satFld (F.CVL_LANE_ERR_code n) (F.CVL_LANE_ERR_overflow n) code.toNat
    (s.satFld (F.CVL_LANE_ERR_disparity n) (F.CVL_LANE_ERR_overflow n) disp.toNat).charErrors g l

/-- The samples of a frame: `n` words, zero where they are to be zeroed. -/
def frameWords (n : Nat) (zero : Bool) (w : List (BitVec 16)) : List (BitVec 16) :=
  if zero then List.replicate n 0 else (w ++ List.replicate n 0).take n

/-- The lanes of a link release a frame (R321, R332). -/
def frameGo (g k : Nat) (f : FrameIn) (s : State) : State :=
  let c := s.liveCfg g k
  if s.lkState g k != LkState.data || s.hasFault g k then s
  else
    let s := s.charErrors g f.errors
    let err := !f.errors.isEmpty
    let s := if err then s.satFld (F.CVL_LK_COUNT_err_frames g k) (F.CVL_LK_COUNT_overflow g k) else s
    let zero := err && c.errAction == 1
    let s := s.addFrame g k (frameWords (c.m * c.s) zero f.words) err (err && !zero) false s.now32
    if f.late &&& BitVec.ofNat 8 c.mask ≠ 0 then
      let s := s.setFld (F.CVL_LK_STATUS_lanes_ok g k)
        (BitVec.ofNat 8 (s.fld (F.CVL_LK_STATUS_lanes_ok g k)) &&& ~~~f.late).toNat
      s.linkError g k none
    else match f.astray with
      | some (i, near) => s.linkError g k (if near then some i.val else none)
      | none => s

/-- A 16-bit N′-word placed MSB-aligned in an 18-bit half (R326). -/
def halfOf (w : BitVec 16) : BitVec 18 := w ++ 0#2

/-- The pairs of one sample: converters 2i in .H and 2i + 1 in .L. -/
def pairWords : List (BitVec 16) → List W36
  | [] => []
  | [x] => [(halfOf x ++ 0#18 : BitVec 36)]
  | x :: y :: l => (halfOf x ++ halfOf y : BitVec 36) :: pairWords l

/-- The words of a block cut into samples of `m` converters. -/
def samplesOf (m : Nat) : Nat → List (BitVec 16) → List (List (BitVec 16))
  | 0, _ => []
  | n + 1, l => l.take m :: samplesOf m n (l.drop m)

/-- Header word H1 (Table 10.4). -/
def headWord (link : Nat) (x : RxBlock) : Nat :=
  2 ^ 24 * link + 2 ^ 17 * b2n x.fill + 2 ^ 16 * b2n x.err + 256 * x.findex + x.frames

/-- The payload of a receive block (Table 10.3). -/
def blockBytes (c : LinkCfg) (link : Nat) (x : RxBlock) : List Byte :=
  if c.packed then
    toBytes 4 x.time.toNat ++ toBytes 4 (headWord link x) ++ x.words.flatMap fun w => toBytes 2 w.toNat
  else
    let word := fun (w : W36) => toBytes 8 (toLayout w).toNat
    word (BitVec.ofNat 36 x.time.toNat) ++ word (BitVec.ofNat 36 (headWord link x)) ++
      (samplesOf c.m (c.s * x.frames) x.words).flatMap fun l => (pairWords l).flatMap word

/-- A block sent as one MESSAGE from the group's NI (R327). -/
def State.sendBlock (s : State) (g k : Nat) (x : RxBlock) : State :=
  let c := s.liveCfg g k
  let ni := (Unit.cvl g).ni
  let e := s.route ni c.route
  let bytes := blockBytes c (8 * g + k) x
  if e.usable c.dstNi then
    s.launchPacket {
      kind := 5, prio := BitVec.ofNat 3 c.prio, route := BitVec.ofNat 12 c.route
      src := BitVec.ofNat 10 ni, dst := BitVec.ofNat 10 c.dstNi, txid := 0, poison := x.poison
      integ := true, tag := 0, address := 0, dtag := 0, payload := bytes, crc := crc32c bytes
      fpoison := false } e
  else s.niDiscard ni

/-- A completed receive block is sent, or dropped whole (R327, R328, R340). -/
def blockOut (g k : Nat) (room : Bool) (s : State) : State :=
  let l := s.cvLink g k
  match l.complete with
  | [] => s
  | x :: rest =>
    let s := s.setCvLink g k { l with complete := rest }
    let drop := s.satFld (F.CVL_LK_COUNT_dropped g k) (F.CVL_LK_COUNT_overflow g k)
    if s.cvlFrozen then drop
    else if !room then drop.fault (Unit.cvl g) .cvlOverrun (.unit (Unit.cvl g)) 0 (8 * g + k)
    else s.sendBlock g k x

/-- The zero frames of a multiframe under FILL, from frame index `i` on (R333): frame `i` is
released `rbd + i` frame periods after the edge. -/
def State.fillFrames (s : State) (g k : Nat) (period : Nat) : Nat → State
  | 0 => s
  | n + 1 =>
    let c := s.liveCfg g k
    let i := c.k - (n + 1)
    let t := (s.svc.toNat + (c.rbd + i) * period) / 2 ^ 32
    (s.addFrame g k (List.replicate (c.m * c.s) 0) false false true (BitVec.ofNat 32 t)).fillFrames g k period n

/-- A receive link with a faulted lane and FILL produces zero blocks on schedule. -/
def State.rxEdge (s : State) (g bitTime k : Nat) : State :=
  let c := s.liveCfg g k
  if c.en && c.fill && s.hasFault g k then
    let s := s.setCvLink g k { s.cvLink g k with findex := 0, making := none }
    s.fillFrames g k (10 * c.octets * bitTime / c.k) c.k
  else s

def State.eachLink (s : State) (f : State → Nat → State) : List Nat → State
  | [] => s
  | k :: l => (f s k).eachLink f l

/-- An LMFC edge of a group (R319, R331, R333). -/
def lmfcTick (g : Nat) (trained : BitVec 4) (bitTime : Nat) (s : State) : State :=
  if !(s.cvGroup g).lmfc then s
  else
    let s := s.eachLink (fun s k => s.txEdge g trained k) [4, 5, 6, 7]
    s.eachLink (fun s k => s.rxEdge g bitTime k) [0, 1, 2, 3]

/-! ## Transmit blocks (R329, R330) -/

/-- The bytes of the blocks a group holds to send; its buffer takes 64 KiB. -/
def State.txHeld (s : State) (g : Nat) : Nat :=
  ((List.range 4).map fun k => ((s.cvLink g (4 + k)).queue.map (·.bytes)).sum).sum

/-- The transmit link a block names, if it reads as one in that link's packing: the link, the
due time and the frames. -/
def State.blockFor (s : State) (g : Nat) (packed : Bool) (p : List Byte) : Option (Nat × Word × Nat) :=
  let at_ := fun (i : Nat) => ofBytes ((p.drop i).take 4)
  let word := fun (i : Nat) => (ofLayout (BitVec.ofNat 64 (ofBytes ((p.drop i).take 8)))).toNat % 2 ^ 32
  let t := if packed then at_ 0 else word 0
  let h := if packed then at_ 4 else word 8
  let k := h / 2 ^ 24 % 8
  let c := s.liveCfg g k
  let n := h % 256
  if h / 2 ^ 24 = 8 * g + k ∧ 4 ≤ k ∧ c.en ∧ c.packed = packed ∧
      p.length = c.headBytes + c.frameBytes * n then some (k, BitVec.ofNat 32 t, n)
  else none

/-- The N′-words of a block. -/
def blockWords (c : LinkCfg) (n : Nat) (p : List Byte) : List (BitVec 16) :=
  let d := p.drop c.headBytes
  if c.packed then (List.range (c.m * c.s * n)).map fun i => BitVec.ofNat 16 (ofBytes ((d.drop (2 * i)).take 2))
  else
    let per := (c.m + 1) / 2
    (List.range (c.s * n)).flatMap fun i =>
      ((List.range per).flatMap fun j =>
        let w := ofLayout (BitVec.ofNat 64 (ofBytes ((d.drop (8 * (per * i + j))).take 8)))
        [w.extractLsb' 20 16, w.extractLsb' 2 16]).take c.m

/-- A transmit block is judged as it arrives (R329, R330). -/
def State.judgeBlock (s : State) (g : Nat) (p : List Byte) (poison crcOk : Bool) : State :=
  match (s.blockFor g false p).orElse fun _ => s.blockFor g true p with
  | none => s.fault (Unit.cvl g) .decode
  | some (k, t, n) =>
    if s.classOf t = .outside then
      (s.satFld (F.CVL_LK_COUNT_dropped g k) (F.CVL_LK_COUNT_overflow g k)).fault (Unit.cvl g) .cvlLate
        (.unit (Unit.cvl g)) 0 (8 * g + k)
    else
      let s := if crcOk then (if poison then s.fault (Unit.cvl g) .poison else s)
        else (s.niCrcFail (Unit.cvl g).ni).fault (Unit.cvl g) .crc
      let c := s.liveCfg g k
      let l := s.cvLink g k
      s.setCvLink g k { l with queue := l.queue ++ [
        { due := s.extend t, frames := n, words := blockWords c n p, bad := poison || !crcOk, bytes := p.length }] }

/-- A transmit block arrives; one that does not fit waits by backpressure. -/
def blockIn (g : Nat) (p : List Byte) (poison crcOk : Bool) (s : State) : State :=
  if 65536 < s.txHeld g + p.length ∨ ¬(s.cvGroup g).waiting.isEmpty then
    s.setCvGroup g { s.cvGroup g with waiting := (s.cvGroup g).waiting ++ [(p, poison, crcOk)] }
  else s.judgeBlock g p poison crcOk

/-- Blocks that waited are taken while they fit. -/
def State.letIn (s : State) (g : Nat) : List (List Byte × Bool × Bool) → State
  | [] => s.setCvGroup g { s.cvGroup g with waiting := [] }
  | (p, b, c) :: l =>
    if 65536 < s.txHeld g + p.length then s.setCvGroup g { s.cvGroup g with waiting := (p, b, c) :: l }
    else (s.judgeBlock g p b c).letIn g l

/-- Frames sent as zeros. -/
def State.zeroFrames (s : State) (g k n : Nat) : State :=
  if n = 0 then s else s.satFld (F.CVL_LK_COUNT_err_frames g k) (F.CVL_LK_COUNT_overflow g k) n

/-- The framer at a frame-clock edge (R329, R330, R340): the head block starts if it is due, or
is discarded late. A frozen link sends zeros. -/
def blockStart (g k : Nat) (late : Bool) (idle : Nat) (s : State) : State :=
  if s.lkState g k != LkState.data then
    if late then
      match (s.cvLink g k).queue with
      | x :: rest =>
        if x.due ≤ s.now then
          let s := s.setCvLink g k { s.cvLink g k with queue := rest }
          let s := s.satFld (F.CVL_LK_COUNT_dropped g k) (F.CVL_LK_COUNT_overflow g k)
          (s.fault (Unit.cvl g) .cvlLate (.unit (Unit.cvl g)) 0 (8 * g + k)).letIn g (s.cvGroup g).waiting
        else s
      | [] => s
    else s
  else
    let s := s.zeroFrames g k idle
    let l := s.cvLink g k
    match l.queue with
    | [] => s
    | x :: rest =>
      if s.now < x.due ∨ s.cvlFrozen then s
      else
        let s := s.setCvLink g k { l with queue := rest }
        let s := if late then
            (s.satFld (F.CVL_LK_COUNT_dropped g k) (F.CVL_LK_COUNT_overflow g k)).fault (Unit.cvl g) .cvlLate
              (.unit (Unit.cvl g)) 0 (8 * g + k)
          else
            let s := s.zeroFrames g k (if x.bad then x.frames else 0)
            let w := if x.bad then List.replicate x.words.length 0 else x.words
            s.setCvLink g k { s.cvLink g k with sent := w }
        s.letIn g (s.cvGroup g).waiting

/-! ## Lane faults (R333) -/

/-- The receive link of a lane resynchronises. -/
def State.resyncLane (s : State) (lane : Nat) : State :=
  let k := s.fld (F.CVL_LANE_STATUS_link_rx lane)
  if k < 4 then s.resync (lane / 8) k else s

def laneFaulted (lane : Nat) (s : State) : State :=
  if !s.lanesRun || s.bit (F.CVL_LANE_STATUS_fault lane) then s
  else
    let s := (s.setBit (F.CVL_LANE_STATUS_fault lane) true).setBit (F.CVL_LANE_STATUS_aligned lane) false
    let s := (s.setBit (F.CVL_LANE_STATUS_cgs lane) false).setBit (F.CVL_LANE_STATUS_cdr_lock lane) false
    let s := s.fault (Unit.cvl (lane / 8)) .cvlLane (.unit (Unit.cvl (lane / 8))) 0 lane
    s.resyncLane lane

/-- The husk retries a faulted lane. -/
def laneRetry (lane : Nat) (recovered : Bool) (s : State) : State :=
  if s.bit (F.CVL_LANE_STATUS_fault lane) && recovered then
    (s.setBit (F.CVL_LANE_STATUS_fault lane) false).resyncLane lane
  else s

/-! ## Lane registers (R335 to R339) -/

/-- Some enabled link uses a lane. -/
def State.laneUsed (s : State) (lane : Nat) : Bool :=
  s.fld (F.CVL_LANE_STATUS_link_rx lane) != 15 || s.fld (F.CVL_LANE_STATUS_link_tx lane) != 15

/-- A write of the taps (R335). -/
def tapsWrite (lane : Nat) (w : Word) (s : State) : State :=
  let main := bitsOf w 16 6
  let post := bitsOf w 8 5
  let pre := bitsOf w 0 5
  if pre ≤ 16 ∧ 24 ≤ main ∧ post ≤ 24 ∧ pre + main + post ≤ 63 ∧ 16 + pre + post ≤ main then
    (s.setReg (R.CVL_LANE_TXEQ lane) (w &&& 0x003F1F1F#32)).ack
  else s.cvRefuse (lane / 8) Code.invalidArgument

/-- A write of CVL_LANE_CTRL: loopback is refused on a lane of an enabled link. -/
def laneCtrl (lane : Nat) (w : Word) (s : State) : State :=
  if w.getLsbD 27 && s.laneUsed lane then s.cvRefuse (lane / 8) Code.notPermitted
  else (s.setReg (R.CVL_LANE_CTRL lane) (w &&& 0xF8000000#32)).ack

/-- A write of go of the eye scan (R337). -/
def eyeGo (lane : Nat) (w : Word) (s : State) : State :=
  let dwell := bitsOf w 22 6
  if s.bit (F.CVL_EYE_CTRL_busy lane) then s.ack
  else if s.fld (F.CVL_LANE_STATUS_link_rx lane) = 15 ∧ ¬s.bit (F.CVL_LANE_CTRL_test_rx lane) then
    s.cvRefuse (lane / 8) Code.notPermitted
  else if dwell < 20 ∨ 40 < dwell ∨ bitsOf w 8 7 = 64 then s.cvRefuse (lane / 8) Code.invalidArgument
  else
    let s := s.setReg (R.CVL_EYE_CTRL lane) (w &&& 0x0FFF7F00#32)
    (s.setBit (F.CVL_EYE_CTRL_busy lane) true).ack

/-- A scan point ends (R337): with its count, or aborted with a count that means nothing. -/
def eyeEnd (lane : Nat) (errors : Option Word) (s : State) : State :=
  if !s.bit (F.CVL_EYE_CTRL_busy lane) then s
  else
    let s := s.setBit (F.CVL_EYE_CTRL_busy lane) false
    match errors with
    | some n => (s.setBit (F.CVL_EYE_CTRL_done lane) true).setReg (R.CVL_EYE_ERR lane) n
    | none =>
      let f := s.free
      (f.2.setBit (F.CVL_EYE_CTRL_aborted lane) true).setReg (R.CVL_EYE_ERR lane) (BitVec.ofNat 32 f.1)

/-- Bits inverted by injection (R339), unless an enabled link uses the lane and inj_live is
clear. -/
def State.injectBits (s : State) (lane n : Nat) : State :=
  if s.laneUsed lane && !s.bit (F.CVL_LANE_TEST_inj_live lane) then s.cvRefuse (lane / 8) Code.notPermitted
  else
    ({ s with cvl := { s.cvl with inverted := Table.modify zeroNat s.cvl.inverted lane (· + n) } }).ack

def injOne (lane : Nat) (s : State) : State := s.injectBits lane 1

def injMany (lane : Nat) (s : State) : State :=
  let n := s.fld (F.CVL_LANE_TEST_burst_len lane)
  if n < 2 then s.cvRefuse (lane / 8) Code.invalidArgument else s.injectBits lane n

/-- The generator and checker fields of CVL_LANE_TEST (R338). -/
def prbsWrite (lane : Nat) (w : Word) (s : State) : State :=
  let gen := w.getLsbD 7
  let chk := w.getLsbD 15
  if 4 < bitsOf w 12 3 ∨ 4 < bitsOf w 4 3 then s.cvRefuse (lane / 8) Code.invalidArgument
  else if (gen || chk) && s.laneUsed lane then s.cvRefuse (lane / 8) Code.notPermitted
  else
    let old := s.bit (F.CVL_LANE_TEST_chk_en lane)
    let s := s.setReg (R.CVL_LANE_TEST lane)
      ((s.reg (R.CVL_LANE_TEST lane) &&& ~~~0xF8F8#32) ||| (w &&& 0xF8F8#32))
    (if chk && old then s else s.setBit (F.CVL_LANE_PRBS_ERR_locked lane) false).ack

/-- The checker's lock, and the errors it counted while locked (R338). -/
def checkerLock (lane : Nat) (locked : Bool) (errors : Nat) (s : State) : State :=
  if !s.bit (F.CVL_LANE_TEST_chk_en lane) then s
  else
    let s := if s.bit (F.CVL_LANE_PRBS_ERR_locked lane) && errors != 0 then
        s.satFld (F.CVL_LANE_PRBS_ERR_errors lane) (F.CVL_LANE_PRBS_ERR_overflow lane) errors
      else s
    s.setBit (F.CVL_LANE_PRBS_ERR_locked lane) locked

/-- A write of CVL_LANE_TEST whole: the burst length, inj_live for the monitor alone, the
generator and checker, and one injection (R338, R339). -/
def laneTest (m : Master) (lane : Nat) (w : Word) (s : State) : State :=
  let t := prbsWrite lane w s
  if t.reg (R.CVL_LANE_TEST lane) &&& 0xF8F8#32 ≠ w &&& 0xF8F8#32 then t
  else
    let t := t.setFld (F.CVL_LANE_TEST_burst_len lane) (bitsOf w 18 6)
    let t := if m.same .monitor then t.setBit (F.CVL_LANE_TEST_inj_live lane) (w.getLsbD 29) else t
    if w.getLsbD 30 then injMany lane t else if w.getLsbD 31 then injOne lane t else t

/-! ## Meanings -/

/-- R316. -/
def execCvlPllEnable (_m : Master) (g : Fin 8) (w : Word) (s : State) : Out := .next (groupPll g.val w s)
/-- R315, R316, R318, R334. -/
def execCvlLinkApply (_m : Master) (g k : Fin 8) (s : State) : Out := .next (linkApply g.val k.val s)
/-- R334. -/
def execCvlLinkResync (_m : Master) (g k : Fin 8) (s : State) : Out := .next (linkResync g.val k.val s)
/-- R323. -/
def execCvlCueArm (m : Master) (g : Fin 8) (w : Word) (s : State) : Out := .next (cueArmGroup m g.val w s)
/-- R323. -/
def execCvlCueDisarm (m : Master) (g : Fin 8) (w : Word) (s : State) : Out :=
  .next (cueDisarmGroup m g.val w s)
/-- R324. -/
def execSysrefInstant (g : Fin 8) (same : Bool) (s : State) : Out := .next (sysrefAct g.val same s)
/-- R324, R325. -/
def execLmfcRestart (g : Fin 8) (s : State) : Out := .next (lmfcGo g.val s)
/-- R323. -/
def execPeriodicSysrefPulse (g : Fin 8) (s : State) : Out := .next (periodicPulse g.val s)
/-- R325. -/
def execDevclkStamp (g : Fin 8) (s : State) : Out := .next (devclkEdge g.val s)
/-- R319. -/
def execLaneCgsSync (lane : Fin 64) (s : State) : Out := .next (laneCgs lane.val s)
/-- R319. -/
def execSyncRelease (g : Fin 8) (k : Fin 4) (s : State) : Out := .next (syncOutGo g.val k.val s)
/-- R319, R320. -/
def execIlasMultiframe (g : Fin 8) (k : Fin 4) (agrees placed : Bool) (s : State) : Out :=
  .next (ilasNext g.val k.val agrees placed s)
/-- R331. -/
def execRawAligned (g : Fin 8) (k : Fin 4) (s : State) : Out := .next (rawAlign g.val k.val s)
/-- R319. -/
def execSyncInputChange (g : Fin 8) (k : Fin 4) (x : SyncIn) (s : State) : Out :=
  .next (syncInGo g.val (4 + k.val) x s)
/-- R317, R321, R332. -/
def execFrameRelease (g : Fin 8) (k : Fin 4) (f : FrameIn) (s : State) : Out :=
  .next (frameGo g.val k.val f s)
/-- R326 to R328, R340. -/
def execRxBlockComplete (g : Fin 8) (k : Fin 4) (room : Bool) (s : State) : Out :=
  .next (blockOut g.val k.val room s)
/-- R329, R330. -/
def execTxBlockArrive (g : Fin 8) (payload : List Byte) (poison crcOk : Bool) (s : State) : Out :=
  .next (blockIn g.val payload poison crcOk s)
/-- R329, R330, R340. -/
def execTxBlockStart (g : Fin 8) (k : Fin 4) (late : Bool) (idle : BitVec 16) (s : State) : Out :=
  .next (blockStart g.val (4 + k.val) late idle.toNat s)
/-- R333. -/
def execLaneFault (lane : Fin 64) (s : State) : Out := .next (laneFaulted lane.val s)
/-- R333. -/
def execLaneFaultRetry (lane : Fin 64) (recovered : Bool) (s : State) : Out :=
  .next (laneRetry lane.val recovered s)
/-- R337. -/
def execEyeScanGo (_m : Master) (lane : Fin 64) (w : Word) (s : State) : Out := .next (eyeGo lane.val w s)
/-- R337. -/
def execEyeScanDone (lane : Fin 64) (errors : Option Word) (s : State) : Out := .next (eyeEnd lane.val errors s)
/-- R339. -/
def execInjSingle (_m : Master) (lane : Fin 64) (s : State) : Out := .next (injOne lane.val s)
/-- R339. -/
def execInjBurst (_m : Master) (lane : Fin 64) (s : State) : Out := .next (injMany lane.val s)
/-- R338. -/
def execPrbsEnable (_m : Master) (lane : Fin 64) (w : Word) (s : State) : Out := .next (prbsWrite lane.val w s)
/-- R338. -/
def execPrbsCheckerLock (lane : Fin 64) (locked : Bool) (errors : BitVec 30) (s : State) : Out :=
  .next (checkerLock lane.val locked errors.toNat s)
/-- R319, R331, R333. -/
def execLmfcEdge (g : Fin 8) (trained : BitVec 4) (bitTime : BitVec 40) (s : State) : Out :=
  .next (lmfcTick g.val trained bitTime.toNat s)

end Sys2Proof.Machine
end

