-- ==== Sys2Proof/Machine/Queue.lean ====
section
/-! DEFINITION. The queue engine (chapter 7): queues, granules, assemblies, operations,
drops and lifetimes, launches, schedulers, staged operations and descriptors. -/

namespace Sys2Proof.Machine

/-! ## Queues and their descriptors (R254, Table 7.10) -/

def noQueue (_ : Nat) : Queue := {}

def State.queue (s : State) (q : Nat) : Queue := Table.get noQueue s.qe.queues q

def State.setQueue (s : State) (q : Nat) (x : Queue) : State :=
  { s with qe := { s.qe with queues := Table.set noQueue s.qe.queues q x } }

def Queue.en (x : Queue) : Bool := x.w2.getLsbD 31
def Queue.launch (x : Queue) : Bool := x.w2.getLsbD 30
def Queue.launchHdr (x : Queue) : Bool := x.w2.getLsbD 29
def Queue.reserve (x : Queue) : Bool := x.w2.getLsbD 28
def Queue.dropRule (x : Queue) : Nat := bitsOf x.w2 26 2
def Queue.notify (x : Queue) : Nat := bitsOf x.w2 24 2
def Queue.target (x : Queue) : Nat := bitsOf x.w2 11 13
def Queue.pin (x : Queue) : Bool := x.w2.getLsbD 10
def Queue.life (x : Queue) : Nat := bitsOf x.w3 24 8
def Queue.member (x : Queue) : Bool := x.w6.getLsbD 31
def Queue.sched (x : Queue) : Nat := bitsOf x.w6 26 5
def Queue.group (x : Queue) : Nat := bitsOf x.w6 18 8
def Queue.weight (x : Queue) : Nat := bitsOf x.w6 10 8
def Queue.route (x : Queue) : Nat := bitsOf x.w7 20 12
def Queue.dst (x : Queue) : Nat := bitsOf x.w7 10 10
def Queue.prio (x : Queue) : Nat := bitsOf x.w7 7 3
def Queue.port (x : Queue) : Nat := bitsOf x.w7 5 2

/-- The granules of a chain, head first. -/
def chainOf (l : List QEntry) : List Nat := l.flatMap fun e => e.grans.map (·.num)

/-- Granules held (word 4). -/
def Queue.grans (x : Queue) : Nat := (chainOf x.entries).length

/-- n(L): the granules of an entry of `len` bytes (R230). -/
def granulesFor (len : Nat) : Nat := if len ≤ 232 then 1 else 1 + (len - 232 + 247) / 248

/-- The data bytes of the packet that follows `got` bytes of an entry of `len` (R231). -/
def packetBytes (len got : Nat) : Nat := min (if got = 0 then 232 else 248) (len - got)

/-- The descriptor words, with the RO fields (Table 7.10); head and tail as given. -/
def Queue.words (x : Queue) (head tail : Nat) : List Word :=
  let n := BitVec.ofNat 32
  [n head, n tail,
   x.w2 ||| n (512 * b2n x.broken.isSome + 256 * b2n (x.held != 0) + 2 * (tail / 2 ^ 32 % 2) +
     head / 2 ^ 32 % 2),
   x.w3 ||| n (x.entries.length % 2 ^ 24), n x.grans, x.w5, x.w6, x.w7]

/-- The RW fields of descriptor words put into a queue (R256). -/
def Queue.put (x : Queue) (w : List Word) : Queue :=
  { x with
    w2 := w.getD 2 0 &&& 0xFFFFFC00#32
    w3 := w.getD 3 0 &&& 0xFF000000#32
    w5 := w.getD 5 0
    w6 := w.getD 6 0 &&& 0xFFFFFC00#32
    w7 := w.getD 7 0 &&& 0xFFFFFFE0#32 }

/-! ## Storage in DRAM (R228 to R233) -/

def State.descBase (s : State) : Nat := s.pair R.QE_DESC_BASE_LO R.QE_DESC_BASE_HI % 2 ^ 48
def State.poolBase (s : State) : Nat := s.pair R.QE_POOL_BASE_LO R.QE_POOL_BASE_HI % 2 ^ 48
def State.linkBase (s : State) : Nat := s.pair R.QE_LINK_BASE_LO R.QE_LINK_BASE_HI % 2 ^ 48
/-- G. -/
def State.poolSize (s : State) : Nat := s.pair R.QE_POOL_SIZE_LO R.QE_POOL_SIZE_HI % 2 ^ 34

/-- The granules free: G minus those allocated (R233). -/
def State.poolFree (s : State) : Nat :=
  s.poolSize - s.qe.fresh + s.qe.cache.length + s.qe.freed.length

/-- The QE writes DRAM; the access of the command at work keeps its own response. -/
def State.qeWrite (s : State) (a : Nat) (bytes : List Byte) : State :=
  { dramWrite Unit.qe a bytes false true s with response := s.response }

/-- The QE reads DRAM: bytes and whether they are lost or marked; an error gives free bytes. -/
def State.qeRead (s : State) (a n : Nat) : List Byte × Bool × State :=
  let t := dramRead Unit.qe a n s
  match t.response with
  | .data b p => (b, p, { t with response := s.response })
  | _ => let f := t.freeBytes n; (f.1, true, { f.2 with response := s.response })

/-- A link word (R232). -/
def linkWord : Option Nat → List Byte
  | none => toBytes 8 (2 ^ 63)
  | some g => toBytes 8 g

def State.writeLink (s : State) (g : Nat) (next : Option Nat) : State :=
  s.qeWrite (s.linkBase + 8 * g) (linkWord next)

/-- The links of a run of granules, the last to `after`. -/
def State.linkRun (s : State) (after : Option Nat) : List Nat → State
  | [] => s
  | [g] => s.writeLink g after
  | g :: h :: l => (s.writeLink g (some h)).linkRun after (h :: l)

/-- A granule number taken: from the cache, from the freed chain 256 at a time, or the fresh
mark (R233). -/
def Qe.take (e : Qe) : Nat × Qe :=
  match e.cache with
  | g :: c => (g, { e with cache := c })
  | [] => match e.freed.take 256 with
    | g :: c => (g, { e with cache := c, freed := e.freed.drop 256 })
    | [] => (e.fresh, { e with fresh := e.fresh + 1 })

def Qe.takeN (e : Qe) : Nat → List Nat × Qe
  | 0 => ([], e)
  | n + 1 => let r := e.take; let t := r.2.takeN n; (r.1 :: t.1, t.2)

/-- Granules returned to the cache; surplus spilled to the head of the freed chain. -/
def State.freeGrans (s : State) (l : List Nat) : State :=
  let room := 4096 - s.qe.cache.length
  let s := s.linkRun s.qe.freed.head? (l.drop room)
  { s with qe := { s.qe with cache := l.take room ++ s.qe.cache, freed := l.drop room ++ s.qe.freed } }

/-- A whole chain freed by one link write (R233). -/
def State.freeChain (s : State) (l : List Nat) : State :=
  match l.getLast? with
  | none => s
  | some t =>
    let s := s.writeLink t s.qe.freed.head?
    { s with qe := { s.qe with freed := l ++ s.qe.freed } }

/-- The entry record (Table 7.2). -/
def QEntry.record (e : QEntry) : List Byte :=
  toBytes 4 e.release.toNat ++ toBytes 4 (e.due / 2 ^ 32) ++ toBytes 4 e.flow.toNat ++
    toBytes 2 (e.length - 1) ++ [e.cls] ++ [BitVec.ofNat 8 (b2n (e.grans.any (·.poison)))]

/-- The granule header (Table 7.1). -/
def Granule.header (g : Granule) (first : Bool) : List Byte :=
  toBytes 8 (2 ^ 41 * b2n first + 2 ^ 40 * b2n g.poison + 2 ^ 32 * (g.used - 1) + g.crc.toNat)

/-- Where the data bytes of a granule stand. -/
def State.granData (s : State) (g : Granule) (first : Bool) : Nat :=
  s.poolBase + 256 * g.num + (if first then 24 else 8)

/-- A granule is stored with its link (R230, R232). -/
def State.storeGranule (s : State) (prev : Option Nat) (g : Granule) (bytes : List Byte) : State :=
  let s := s.qeWrite (s.poolBase + 256 * g.num) (g.header prev.isNone)
  let s := s.qeWrite (s.granData g prev.isNone) bytes
  let s := s.writeLink g.num none
  match prev with
  | some p => s.writeLink p (some g.num)
  | none => s

/-- The granules of an entry as they are given out: bytes, code and poison (R231, R257). -/
def State.readGrans (s : State) (first : Bool) : List Granule → List (List Byte × Word × Bool) × State
  | [] => ([], s)
  | g :: l =>
    let r := s.qeRead (s.granData g first) g.used
    let t := r.2.2.readGrans false l
    ((r.1, g.crc, g.poison || r.2.1) :: t.1, t.2)

/-! ## Answers (R234, R243) -/

/-- The QE is frozen under HALT (R258). -/
def State.qeFrozen (s : State) : Bool := s.bit F.DBG_STATUS_frozen && s.bit F.DBG_FREEZE_qe

/-- A RESPONSE that carries a granule: its code and its poison are those stored (R231). -/
def State.respondGranule (s : State) (p : Packet) (g : List Byte × Word × Bool) : State :=
  let e := s.route p.dst.toNat p.src.toNat
  if e.usable p.src.toNat then
    s.launchPacket {
      kind := 6, prio := if p.prio.toNat < 2 then 4 else 5, route := p.src.setWidth 12
      src := p.dst, dst := p.src, txid := 0, poison := g.2.2, integ := true, tag := p.tag
      address := 0, dtag := 0, payload := g.1, crc := g.2.1, fpoison := false } e
  else s.niDiscard p.dst.toNat

def State.respondGranules (s : State) (p : Packet) : List (List Byte × Word × Bool) → State
  | [] => s
  | g :: l => (s.respondGranule p g).respondGranules p l

/-- A refused posted operation (R243). -/
def State.qRefused (s : State) (h : QHead) (status : Nat) : State :=
  let s := s.satFld F.QE_REFUSED_count F.QE_REFUSED_overflow
  let s := s.setReg R.QE_LAST_REFUSED (BitVec.ofNat 32 (status * 65536 + h.queue.toNat % 4096))
  let s := s.setReg R.QE_LAST_REFUSED_Q (BitVec.ofNat 32 h.queue.toNat)
  s.fault Unit.qe .qeRefused (.unit h.src) status h.queue.toNat

/-- An operation ends with a status and the payload of its RESPONSE. -/
def State.qFinish (s : State) (r : QReq) (status : Nat) (body : List Byte)
    (data : List (List Byte × Word × Bool) := []) : State :=
  if r.head.post then (if status = 0 then s else s.qRefused r.head status).ack
  else
    let s := match r.pkt, r.head.src with
      | some p, _ => (s.respondTo p 6 body).respondGranules p data
      | none, .unit 0x60 _ =>
        { s with qe := { s.qe with answers := s.qe.answers ++ [(r.head.src.key, r.head.tag, body)] } }
      | none, _ => s
    s.reply (body ++ data.flatMap (·.1)) (data.any (·.2.2))

/-- The 8-byte payload with a status and a count. -/
def qBytes (status n : Nat) : List Byte := toBytes 4 status ++ toBytes 4 n

/-! ## Heads: release, lifetime, notification (R240, R245, R246) -/

def QEntry.released (e : QEntry) (now : Nat) : Bool := decide (e.due ≤ now)

/-- The lifetime of a released entry has ended before this cycle (R245). -/
def Queue.expired (x : Queue) (e : QEntry) (now : Nat) : Bool :=
  x.life != 0 && decide (e.due + x.life * 100000 < now)

/-- The head entry leaves the queue; its granules are freed. -/
def State.removeHead (s : State) (q : Nat) : State :=
  match (s.queue q).entries with
  | [] => s
  | e :: l => (s.setQueue q { s.queue q with entries := l }).freeGrans (chainOf [e])

/-- A dropped entry, counted by its cause and reported (R244, R245). -/
def State.dropFor (s : State) (q cause : Nat) : State :=
  let s := s.removeHead q
  let s := s.satFld (F.QE_DROPS_entries cause) (F.QE_DROPS_overflow cause)
  s.fault Unit.qe .qeDrop (.unit Unit.qe) cause q

def State.dropMany (s : State) (q cause : Nat) : Nat → State
  | 0 => s
  | k + 1 => (s.dropFor q cause).dropMany q cause k

def State.expireOver (s : State) (q : Nat) : List QEntry → State
  | [] => s
  | e :: l => if (s.queue q).expired e s.now then (s.dropFor q 2).expireOver q l else s

/-- Expired heads are dropped with cause LIFE; a held head stays (R245, R252). -/
def State.expire (s : State) (q : Nat) : State :=
  let x := s.queue q
  if x.held ≠ 0 ∨ x.broken.isSome then s else s.expireOver q x.entries

/-- The notification of a queue that gains a released head (R246). -/
def State.notifyQueue (s : State) (x : Queue) : State :=
  match x.notify with
  | 1 => s.raiseEvent (x.target % 1024) 10
  | 2 => s.ringBell (x.target / 32 % 256) (x.target % 32)
  | _ => s

def Queue.hasReleased (x : Queue) (now : Nat) : Bool :=
  match x.entries with
  | e :: _ => x.broken.isNone && e.released now
  | [] => false

/-- Whether the queue has a released head is brought up to date, and a gain announced. -/
def State.settle (s : State) (q : Nat) : State :=
  let x := s.queue q
  let r := x.hasReleased s.now
  let s := if r && !x.announced then s.notifyQueue x else s
  s.setQueue q { s.queue q with announced := r }

/-- The head of a queue has changed. -/
def State.changed (s : State) (q : Nat) : State := (s.expire q).settle q

/-! ## Broken chains (R257) -/

/-- How many granules of the chain can still be found where something the head's operation
reads is lost: as the hardware finds, or a line of DRAM is marked. -/
def State.chainLost (s : State) (q : Nat) (lost : Option Nat) : Option Nat :=
  match lost with
  | some k => some k
  | none =>
    if s.lineMark ((s.descBase + 32 * q) / 64) then some 0
    else match (s.queue q).entries with
      | [] => none
      | e :: _ =>
        let g := chainOf [e]
        if s.lineMark ((s.poolBase + 256 * g.headD 0) / 64) then some 1
        else (g.findIdx? fun n => s.lineMark ((s.linkBase + 8 * n) / 64)).map (· + 1)

/-- Room reserved for a staged or assembled entry given back. -/
def State.unreserve (s : State) (q grans : Nat) : State :=
  let x := s.queue q
  s.setQueue q { x with roomGrans := x.roomGrans - grans, roomEntries := x.roomEntries - 1 }

/-- The staged moves of a source queue are lost with its chain: their votes go (R307). -/
def State.loseMoves (s : State) (q : Nat) : List (Nat × QStaged) → State
  | [] => s
  | (id, .move src dst g) :: l =>
    (if src = q then (s.unreserve dst g).withdrawVote Unit.qe id else s).loseMoves q l
  | _ :: l => s.loseMoves q l

def QStaged.moves (q : Nat) : QStaged → Bool
  | .move src _ _ => src == q
  | _ => false

/-- The chain is lost (R257). -/
def State.breakChain (s : State) (q k : Nat) : State :=
  let s := s.loseMoves q s.qe.staged
  let s := { s with qe := { s.qe with staged := s.qe.staged.filter fun x => !x.2.moves q } }
  let s := s.setQueue q { s.queue q with broken := some k, held := 0 }
  s.fault Unit.qe .qeChain (.unit Unit.qe) 0 q true

/-! ## Enqueue checks (R236, R241, R244, Table 7.6) -/

/-- The scheduler a queue is the output of (R251). -/
def State.outputOf (s : State) (q : Nat) : Option Nat :=
  (List.range 32).find? fun k => s.bit (F.QE_SCHED_CFG_en k) && s.fld (F.QE_SCHED_CFG_output_q k) == q

/-- Disabled or broken (R241). -/
def State.qGate (s : State) (q : Nat) : Nat :=
  if !(s.queue q).en then Code.queueDisabled
  else if (s.queue q).broken.isSome then Code.queueBroken
  else 0

/-- How many heads must go until an entry fits, over the run of heads that may go. -/
def dropsNeeded (fits : Nat → Nat → Bool) (ok : QEntry → Bool) : List QEntry → Nat → Nat → Option Nat
  | [], g, e => if fits g e then some 0 else none
  | x :: l, g, e =>
    if fits g e then some 0
    else if ok x then (dropsNeeded fits ok l (g - x.grans.length) (e - 1)).map (· + 1)
    else none

/-- Whether a queue of `g` granules and `e` entries takes `n` granules more. -/
def Queue.fits (x : Queue) (n g e : Nat) : Bool :=
  decide (g + x.roomGrans + n ≤ if x.w5 = 0 then 2 ^ 32 - 1 else x.w5.toNat) &&
    decide (e + x.roomEntries + 1 ≤ 2 ^ 24 - 1)

/-- The drops that make room for `n` granules: the cause and their number; none is QUEUE_FULL. -/
def Queue.roomDrops (x : Queue) (n : Nat) : Option (Nat × Nat) :=
  let ok := fun (e : QEntry) => x.held == 0 &&
    (x.dropRule == 1 || (x.dropRule == 2 && e.cls.getLsbD 7))
  (dropsNeeded (x.fits n) ok x.entries x.grans x.entries.length).map fun k =>
    (if x.dropRule = 1 then 0 else 1, k)

/-- The checks of a destination down to room, with the drops made. -/
def State.destCheck (s : State) (q n : Nat) (early : Nat) : Nat × State :=
  if s.qGate q ≠ 0 then (s.qGate q, s)
  else if (s.outputOf q).isSome || ((s.queue q).launch && (s.queue q).w7 == 0) then
    (Code.notPermitted, s)
  else if early ≠ 0 then (early, s)
  else match (s.queue q).roomDrops n with
    | none => (Code.queueFull, s)
    | some (c, k) => (0, s.dropMany q c k)

/-- All checks of Table 7.6. -/
def State.enqCheck (s : State) (q n : Nat) (t : Word) (rest : BitVec 40) : Nat × State :=
  let early := if rest ≠ 0 then Code.invalidArgument
    else if s.classOf t = .outside then Code.farFuture else 0
  let r := s.destCheck q n early
  if r.1 ≠ 0 then r
  else
    let free := r.2.poolFree
    if free < n ∨ (!(s.queue q).reserve ∧ free - n ≤ s.fld F.QE_POOL_RESERVE_reserve) then
      (Code.poolEmpty, r.2)
    else r

/-! ## Assemblies (R235 to R239) -/

def Assembly.at (a : Assembly) (src : Master) (tag : BitVec 8) : Bool :=
  a.head.src.same src && a.head.tag == tag

def State.assembly (s : State) (src : Master) (tag : BitVec 8) : Option Assembly :=
  s.qe.assemblies.find? fun a => a.at src tag

def State.dropAssembly (s : State) (src : Master) (tag : BitVec 8) : State :=
  { s with qe := { s.qe with assemblies := s.qe.assemblies.filter fun a => !a.at src tag } }

def State.putAssembly (s : State) (a : Assembly) : State :=
  let s := s.dropAssembly a.head.src a.head.tag
  { s with qe := { s.qe with assemblies := s.qe.assemblies ++ [a] } }

/-- The granules and the room of an accepted assembly given back. -/
def State.releaseAssembly (s : State) (a : Assembly) : State :=
  if a.status ≠ 0 then s
  else (s.freeGrans (a.entry.grans.map (·.num) ++ a.free)).unreserve a.head.queue.toNat
    (granulesFor a.entry.length)

/-- An assembly is abandoned (R235). -/
def State.abandon (s : State) (a : Assembly) : State :=
  let s := (s.releaseAssembly a).dropAssembly a.head.src a.head.tag
  let s := s.fault Unit.qe .qeAssembly (.unit a.head.src) Code.assemblyLost a.head.queue.toNat
  if a.head.post then s
  else s.qFinish { head := a.head, kind := .drop none, pkt := a.pkt } Code.assemblyLost
    (qBytes Code.assemblyLost (s.queue a.head.queue.toNat).entries.length)

/-- ENQ_BEGIN (R235, R236, R238). -/
def State.runBegin (s : State) (r : QReq) (t flow : Word) (len : BitVec 16) (cls : BitVec 8)
    (rest : BitVec 40) : State :=
  let h := r.head
  let q := h.queue.toNat
  let s := match s.assembly h.src h.tag with
    | some a => s.abandon a
    | none => s
  let s := s.changed q
  let n := granulesFor (len.toNat + 1)
  let c := s.enqCheck q n t rest
  let s := c.2
  let e : QEntry := { release := t, due := s.extend t, flow := flow, length := len.toNat + 1, cls := cls, grans := [] }
  if c.1 ≠ 0 then
    (s.putAssembly { head := h, entry := e, status := c.1, last := s.now, pkt := r.pkt }).ack
  else
    let g := s.qe.takeN n
    let x := s.queue q
    let s := { s with qe := g.2 }
    let s := s.setQueue q { x with roomGrans := x.roomGrans + n, roomEntries := x.roomEntries + 1 }
    (s.putAssembly { head := h, entry := e, free := g.1, last := s.now, pkt := r.pkt }).ack

/-- An entry joins the tail of its queue (R239). -/
def State.joinQueue (s : State) (q : Nat) (e : QEntry) : State :=
  let s := s.expire q
  let x := s.queue q
  let first := (chainOf [e]).headD 0
  let s := s.qeWrite (s.poolBase + 256 * first + 8) e.record
  let s := match (chainOf x.entries).getLast? with
    | some t => s.writeLink t (some first)
    | none => s
  let x := s.queue q
  (s.setQueue q { x with entries := x.entries ++ [e], used := true }).changed q

/-- A participant's refusal noted for its vote (R252, R297). -/
def State.refuseVote (s : State) (id status : Nat) : State :=
  let p := s.store id Unit.qe
  s.setStore id Unit.qe { p with refuse := some (p.refuse.getD (BitVec.ofNat 16 status)) }

/-- A queue operation is staged (R252): the status, and the state. A vote against follows a
full store and a held head. -/
def State.qStage (s : State) (r : QReq) (c : Change) (status : Nat) (body : List Byte) : Nat × State :=
  let id := r.head.txid.toNat
  let x := s.stage id Unit.qe { change := c, src := r.head.src } r.head.post
  match x.1 with
  | .refused st => (st, x.2)
  | .blocked => (Code.notPermitted, s)
  | .held => (status, if status = 0 then x.2 else x.2.refuseVote id status)
  | .joining =>
    let t := if status = 0 then x.2 else x.2.refuseVote id status
    let p := t.store id Unit.qe
    (status, t.setStore id Unit.qe { p with request := r.pkt, body := body })

/-- The first staging's response waits for JOIN_ACK (R296). -/
def State.qStaged (s : State) (r : QReq) (status : Nat) (body : List Byte) : State :=
  if (s.store r.head.txid.toNat Unit.qe).joinSent && status = 0 then s.ack
  else s.qFinish r status body

def State.stagedFull (s : State) : Bool := decide (4096 ≤ s.qe.staged.length)

def State.addStaged (s : State) (id : Nat) (x : QStaged) : State :=
  { s with qe := { s.qe with staged := s.qe.staged ++ [(id, x)] } }

/-- The last ENQ_DATA of an accepted entry: the join, or the staging (R239, R252). -/
def State.enqDone (s : State) (r : QReq) (a : Assembly) : State :=
  let q := a.head.queue.toNat
  let n := granulesFor a.entry.length
  let r := { r with head := a.head }
  if a.head.txid = 0 then
    let s := (s.unreserve q n).joinQueue q a.entry
    s.qFinish r 0 (qBytes 0 (s.queue q).entries.length)
  else
    let st := if s.stagedFull then Code.stageFull else 0
    let body := qBytes st (s.queue q).entries.length
    let x := s.qStage r (.enqueue a.head.queue) st body
    if x.1 ≠ 0 then
      (x.2.releaseAssembly a).qFinish r x.1 (qBytes x.1 (s.queue q).entries.length)
    else (x.2.addStaged a.head.txid.toNat (.enqueue q a.entry)).qStaged r 0 body

/-- A granule of an assembly is stored, or its entry fails its check (R237). -/
def State.storeData (s : State) (a : Assembly) (bytes : List Byte) (crc : Word) (poison : Bool) :
    Assembly × State :=
  if a.status ≠ 0 then (a, s)
  else if crc32c bytes ≠ crc then
    let s := (s.releaseAssembly a).niCrcFail Unit.qe.ni
    ({ a with status := Code.entryCrc, free := [], entry := { a.entry with grans := [] } },
      s.fault Unit.qe .crc (.unit a.head.src))
  else
    let g : Granule := { num := a.free.headD 0, used := bytes.length, crc := crc, poison := poison }
    ({ a with free := a.free.drop 1, entry := { a.entry with grans := a.entry.grans ++ [g] } },
      s.storeGranule (a.entry.grans.getLast?.map (·.num)) g bytes)

/-- ENQ_DATA (R234, R235, R237): one that breaks R231 is malformed; one with no assembly is
counted. -/
def State.runData (s : State) (r : QReq) (bytes : List Byte) (last : Bool) (crc : Word)
    (poison : Bool) : State :=
  match s.assembly r.head.src r.head.tag with
  | none => (s.satFld F.QE_REFUSED_count F.QE_REFUSED_overflow).ack
  | some a =>
    let n := packetBytes a.entry.length a.got
    if bytes.length ≠ n ∨ last ≠ decide (a.got + n = a.entry.length) then
      (s.fault Unit.qe .decode (.unit r.head.src)).ack
    else
      let x := s.storeData a bytes crc poison
      let a : Assembly := { x.1 with got := a.got + n, last := s.now }
      if last then
        let s := x.2.dropAssembly a.head.src a.head.tag
        if a.status ≠ 0 then
          s.qFinish { r with head := a.head } a.status
            (qBytes a.status (s.queue a.head.queue.toNat).entries.length)
        else s.enqDone r a
      else (x.2.putAssembly a).ack

/-! ## Schedulers (R250, R251) -/

def noBand (_ : Nat) : Nat := 0
def noGroup (_ : Nat) : SchedGroup := {}

def State.schedGroup (s : State) (k g : Nat) : SchedGroup := Table.get noGroup s.qe.groups (k * 256 + g)

def State.setGroup (s : State) (k g : Nat) (x : SchedGroup) : State :=
  { s with qe := { s.qe with groups := Table.set noGroup s.qe.groups (k * 256 + g) x } }

def State.bandCur (s : State) (k b : Nat) : Nat := Table.get noBand s.qe.bands (k * 8 + b)

def State.setBand (s : State) (k b g : Nat) : State :=
  { s with qe := { s.qe with bands := Table.set noBand s.qe.bands (k * 8 + b) g } }

/-- The members of a group, in ascending order. -/
def State.members (s : State) (k g : Nat) : List Nat :=
  (s.qe.queues.filter fun x => x.2.member && x.2.sched == k && x.2.group == g).map (·.1)

/-- The head is released, not held and not expired (R250); the queue takes operations. -/
def State.eligible (s : State) (q : Nat) : Bool :=
  let x := s.queue q
  s.qGate q == 0 && x.held == 0 && match x.entries with
    | e :: _ => e.released s.now && !x.expired e s.now
    | [] => false

/-- The enabled groups of a band. -/
def State.bandGroups (s : State) (k b : Nat) : List Nat :=
  (List.range 256).filter fun g => s.bit (F.QE_GROUP_en k g) && s.fld (F.QE_GROUP_band k g) == b

/-- The next of a rising list after `g`, cyclically. -/
def nextIn (l : List Nat) (g : Nat) : Nat := ((l.find? fun x => decide (g < x)).orElse fun _ => l.head?).getD g

/-- The queue whose turn it is, with its entries this turn: `elig` are the eligible members. -/
def State.turnOf (s : State) (x : SchedGroup) (elig : List Nat) : Nat × Nat :=
  if elig.contains x.cur && x.turns != (s.queue x.cur).weight then (x.cur, x.turns)
  else (nextIn elig x.cur, 0)

def State.headLen (s : State) (q : Nat) : Nat :=
  match (s.queue q).entries with
  | e :: _ => e.length
  | [] => 0

/-- The deficit round-robin over the groups of a band, from group `g`: the queue selected and
the selection state. -/
def selectFrom (k b : Nat) (gs : List Nat) : Nat → Nat → State → Option (Nat × State)
  | 0, _, _ => none
  | fuel + 1, g, s =>
    let x := s.schedGroup k g
    let elig := (s.members k g).filter s.eligible
    if elig.isEmpty then
      selectFrom k b gs fuel (nextIn gs g) (s.setGroup k g { x with deficit := 0 })
    else
      let x := if x.fresh then
          { x with deficit := x.deficit + s.fld (F.QE_GROUP_weight k g) * s.fld (F.QE_SCHED_UNIT_unit k)
                   fresh := false }
        else x
      let t := s.turnOf x elig
      let x := { x with cur := t.1, turns := t.2 }
      if s.headLen t.1 ≤ x.deficit then
        some (t.1, (s.setGroup k g { x with deficit := x.deficit - s.headLen t.1, turns := t.2 + 1 }).setBand
          k b g)
      else selectFrom k b gs fuel (nextIn gs g) (s.setGroup k g { x with fresh := true })

/-- The highest band with an eligible member in an enabled group. -/
def State.topBand (s : State) (k : Nat) : Option Nat :=
  (List.range 8).reverse.find? fun b =>
    (s.bandGroups k b).any fun g => (s.members k g).any s.eligible

/-- Expired heads of a scheduler's members are dropped as it considers them (R245). -/
def State.considerAll (s : State) : List Nat → State
  | [] => s
  | q :: l => (s.changed q).considerAll l

/-- One selection of scheduler `k` (R251): enough visits for the smallest quantum to cover the
longest entry. -/
def State.select (s : State) (k : Nat) : Option (Nat × State) :=
  match s.topBand k with
  | none => none
  | some b =>
    let gs := s.bandGroups k b
    let c := s.bandCur k b
    selectFrom k b gs 270000 (if gs.contains c then c else nextIn gs c) s

/-- Every member of scheduler `k`. -/
def State.schedMembers (s : State) (k : Nat) : List Nat :=
  (s.qe.queues.filter fun x => x.2.member && x.2.sched == k).map (·.1)

/-! ## DEQ, QMOV, DROP, FLUSH (R240, R241) -/

/-- The DEQ result block (Table 7.5). -/
def resultBlock (status n : Nat) (e : QEntry) : List Byte :=
  toBytes 2 status ++ toBytes 2 n ++ toBytes 4 e.release.toNat ++ toBytes 4 e.flow.toNat ++
    toBytes 2 (e.length - 1) ++ [e.cls] ++ [BitVec.ofNat 8 (b2n (e.grans.any (·.poison)))]

/-- The result block of a DEQ that gives nothing out: the fields Table 7.5 gives for the
status, the others free. -/
def State.emptyBlock (s : State) (status : Nat) (head : Option QEntry) : List Byte × State :=
  let f := s.freeBytes 12
  let b := f.1
  let rel := match head with
    | some e => if status = Code.notReleased then toBytes 4 e.release.toNat else b.take 4
    | none => b.take 4
  let len := match head with
    | some e => if status = Code.tooLong then toBytes 2 (e.length - 1) else (b.drop 8).take 2
    | none => (b.drop 8).take 2
  (toBytes 2 status ++ toBytes 2 0 ++ rel ++ (b.drop 4).take 4 ++ len ++ b.drop 10, f.2)

/-- The status of a DEQ at the head of `q` (R240). -/
def State.headStatus (s : State) (q most : Nat) : Nat :=
  let x := s.queue q
  match x.entries with
  | [] => Code.queueEmpty
  | e :: _ =>
    if !e.released s.now then Code.notReleased
    else if x.held ≠ 0 then Code.headHeld
    else if most < e.length then Code.tooLong
    else 0

def State.deqFail (s : State) (r : QReq) (q status : Nat) : State :=
  let b := s.emptyBlock status ((s.queue q).entries.head?)
  b.2.qFinish r status b.1

/-- The head is given out: the result block, the granules, and the granules freed. -/
def State.giveHead (s : State) (q : Nat) : List Byte × List (List Byte × Word × Bool) × State :=
  match (s.queue q).entries with
  | [] => ([], [], s)
  | e :: _ =>
    let d := s.readGrans true e.grans
    (resultBlock 0 e.grans.length e, d.1, (d.2.removeHead q).changed q)

/-- DEQ of a queue's own head. -/
def State.deqFrom (s : State) (r : QReq) (q most : Nat) (lost : Option Nat) (keep : State) : State :=
  match s.chainLost q lost with
  | some k => (s.breakChain q k).deqFail r q Code.queueBroken
  | none =>
    let st := s.headStatus q most
    if st ≠ 0 then keep.deqFail r q st
    else
      let g := s.giveHead q
      g.2.2.qFinish r 0 g.1 g.2.1

/-- DEQ (R240, R247, R251, R252). -/
def State.runDeq (s : State) (r : QReq) (most : Nat) (lost : Option Nat) : State :=
  let q := r.head.queue.toNat
  if s.qGate q ≠ 0 then s.deqFail r q (s.qGate q)
  else if r.head.txid ≠ 0 ∨ (s.queue q).launch then s.deqFail r q Code.notPermitted
  else match s.outputOf q with
    | some k =>
      let s := s.considerAll (s.schedMembers k)
      match s.select k with
      | none => s.deqFail r q Code.queueEmpty
      | some (m, t) => t.deqFrom r m most lost s
    | none => let s := s.changed q; s.deqFrom r q most lost s

/-- The status of an operation that takes the head (QMOV, DROP). -/
def State.takeStatus (s : State) (q : Nat) : Nat :=
  if s.qGate q ≠ 0 then s.qGate q
  else if (s.queue q).entries.isEmpty then Code.queueEmpty
  else if (s.queue q).held ≠ 0 then Code.headHeld
  else 0

/-- The head moves from the head of `src` to the tail of `dst` (R241). -/
def State.moveHead (s : State) (src dst : Nat) : State :=
  match (s.queue src).entries with
  | [] => s
  | e :: l =>
    let s := s.setQueue src { s.queue src with entries := l }
    let s := match (chainOf (s.queue dst).entries).getLast? with
      | some t => s.writeLink t ((chainOf [e]).head?)
      | none => s
    let s := match (chainOf [e]).getLast? with
      | some t => s.writeLink t none
      | none => s
    let x := s.queue dst
    ((s.setQueue dst { x with entries := x.entries ++ [{ e with ready := false }], used := true }).changed
      src).changed dst

/-- The destination check of a QMOV, made with the head unlinked: the status, and the state
with the drops made and the head back. -/
def State.moveCheck (s : State) (src dst n : Nat) : Nat × State :=
  let x := s.queue src
  let t := s.setQueue src { x with entries := x.entries.drop 1 }
  let c := t.destCheck dst n 0
  if c.1 ≠ 0 then (c.1, s)
  else (0, c.2.setQueue src { c.2.queue src with entries := x.entries.take 1 ++ (c.2.queue src).entries })

/-- A QMOV staged (R252): the head is held, the room reserved. -/
def State.stageMove (s : State) (r : QReq) (src dst n : Nat) : State :=
  let c := s.moveCheck src dst n
  let held := if s.takeStatus src = Code.headHeld then Code.headHeld
    else if s.stagedFull then Code.stageFull else 0
  let st := if held ≠ 0 then held else c.1
  if held = 0 ∧ c.1 ≠ 0 then s.qFinish r st (qBytes st 0)
  else
    let t := if held = 0 then c.2 else s
    let x := t.qStage r (.qmov (BitVec.ofNat 20 src) (BitVec.ofNat 20 dst)) st (qBytes st 0)
    if x.1 ≠ 0 then x.2.qFinish r x.1 (qBytes x.1 0)
    else
      let d := x.2.queue dst
      let u := x.2.setQueue dst { d with roomGrans := d.roomGrans + n, roomEntries := d.roomEntries + 1 }
      let u := u.setQueue src { u.queue src with held := r.head.txid.toNat }
      (u.addStaged r.head.txid.toNat (.move src dst n)).qStaged r 0 (qBytes 0 0)

/-- QMOV (R241, R252). -/
def State.runQmov (s : State) (r : QReq) (dst : Nat) (lost : Option Nat) : State :=
  let q := r.head.queue.toNat
  let s := s.changed q
  let st := s.takeStatus q
  if st ≠ 0 ∧ ¬(st = Code.headHeld ∧ r.head.txid ≠ 0) then s.qFinish r st (qBytes st 0)
  else match s.chainLost q lost with
    | some k => (s.breakChain q k).qFinish r Code.queueBroken (qBytes Code.queueBroken 0)
    | none =>
      let n := (((s.queue q).entries.head?).map fun e => e.grans.length).getD 0
      let s := s.changed dst
      if r.head.txid ≠ 0 then s.stageMove r q dst n
      else
        let c := s.moveCheck q dst n
        if c.1 ≠ 0 then s.qFinish r c.1 (qBytes c.1 0)
        else (c.2.moveHead q dst).qFinish r 0 (qBytes 0 0)

/-- DROP (R241). -/
def State.runDrop (s : State) (r : QReq) (lost : Option Nat) : State :=
  let q := r.head.queue.toNat
  let s := s.changed q
  let st := if s.qGate q ≠ 0 then s.qGate q
    else if r.head.txid ≠ 0 then Code.notPermitted else s.takeStatus q
  if st ≠ 0 then s.qFinish r st (qBytes st 0)
  else match s.chainLost q lost with
    | some k => (s.breakChain q k).qFinish r Code.queueBroken (qBytes Code.queueBroken 0)
    | none => ((s.removeHead q).changed q).qFinish r 0 (qBytes 0 0)

/-- The whole chain of a queue is freed (R241, R257): the entries freed. A held head stays. -/
def State.flushQueue (s : State) (q : Nat) : Nat × State :=
  let x := s.queue q
  match x.broken with
  | some k =>
    let c := chainOf x.entries
    let s := s.freeChain (c.take k)
    let n := c.length - k
    let s := if n = 0 then s else s.satFld F.QE_POOL_LOST_lost F.QE_POOL_LOST_overflow n
    (x.entries.length, s.setQueue q { roomGrans := x.roomGrans, roomEntries := x.roomEntries })
  | none =>
    let keep := if x.held ≠ 0 then x.entries.take 1 else []
    let gone := x.entries.drop keep.length
    let s := s.freeChain (chainOf gone)
    (gone.length, (s.setQueue q { x with entries := keep }).settle q)

/-- FLUSH (R241). -/
def State.runFlush (s : State) (r : QReq) (lost : Option Nat) : State :=
  let q := r.head.queue.toNat
  if r.head.txid ≠ 0 then s.qFinish r Code.notPermitted (qBytes Code.notPermitted 0)
  else
    let s := match lost, (s.queue q).broken with
      | some k, none => s.breakChain q k
      | _, _ => s
    let x := s.flushQueue q
    x.2.qFinish r 0 (qBytes 0 x.1)

/-! ## The pipeline: descriptors and waiting (R229, R235, R255, R258) -/

def State.runOp (s : State) (r : QReq) : State :=
  match r.kind with
  | .begin t flow len cls rest => s.runBegin r t flow len cls rest
  | .data bytes last crc poison => s.runData r bytes last crc poison
  | .deq most lost => s.runDeq r (most.toNat + 1) lost
  | .qmov dst lost => s.runQmov r dst.toNat lost
  | .drop lost => s.runDrop r lost
  | .flush lost => s.runFlush r lost

/-- The queues whose descriptors an operation needs. -/
def QReq.queues (r : QReq) : List Nat :=
  match r.kind with
  | .qmov dst _ => [r.head.queue.toNat, dst.toNat]
  | _ => [r.head.queue.toNat]

/-- The descriptor's words as the cache writes them back. -/
def State.writeBack (s : State) (q : Nat) : State :=
  let x := s.queue q
  let c := chainOf x.entries
  s.qeWrite (s.descBase + 32 * q) ((x.words (c.headD 0) (c.getLast?.getD 0)).flatMap fun w => toBytes 4 w.toNat)

/-- The least recently used descriptor that is not pinned. -/
def State.victim (s : State) : Option Nat := s.qe.descs.reverse.find? fun q => !(s.queue q).pin

/-- A descriptor comes into the cache or is used (R255): eviction writes back. -/
def State.touch (s : State) (q : Nat) : State :=
  let s := if s.qe.descs.contains q || decide (s.qe.descs.length < 65536) then s
    else match s.victim with
      | some v => let t := s.writeBack v; { t with qe := { t.qe with descs := t.qe.descs.filter (· != v) } }
      | none => s
  { s with qe := { s.qe with descs := q :: s.qe.descs.filter (· != q) } }

/-- The first queue of an operation whose descriptor is absent. -/
def State.missing (s : State) (r : QReq) : Option Nat := r.queues.find? fun q => !s.qe.descs.contains q

/-- An operation waits by backpressure: the QE is not ready or is frozen, an earlier one of
the source waits, a first staging awaits its JOIN_ACK, no assembly is free, or the miss
buffer is full. -/
def State.qBlocked (s : State) (r : QReq) : Bool :=
  !s.bit F.QE_CTRL_ready || s.qeFrozen || (s.qe.waiting.any fun w => w.head.src.same r.head.src) ||
    s.joinBlocked Unit.qe r.head.src ||
    (match r.kind with
     | .begin .. => decide (1024 ≤ s.qe.assemblies.length) && (s.assembly r.head.src r.head.tag).isNone
     | _ => false) ||
    (match s.missing r with
     | some q => decide (256 ≤ s.qe.misses.length) && !(s.qe.misses.any (·.1 == q))
     | none => false)

def addMiss (q : Nat) (r : QReq) : List (Nat × List QReq) → List (Nat × List QReq)
  | [] => [(q, [r])]
  | (k, l) :: t => if k = q then (k, l ++ [r]) :: t else (k, l) :: addMiss q r t

def State.touchAll (s : State) : List Nat → State
  | [] => s
  | q :: l => (s.touch q).touchAll l

/-- An operation is taken, or waits (R242, R255). -/
def State.submit (s : State) (r : QReq) : State :=
  if s.qBlocked r then { s with qe := { s.qe with waiting := s.qe.waiting ++ [r] } }
  else match s.missing r with
    | some q => { s with qe := { s.qe with misses := addMiss q r s.qe.misses } }
    | none => (s.touchAll r.queues).runOp r

def State.submitAll (s : State) : List QReq → State
  | [] => s
  | r :: l => (s.submit r).submitAll l

/-- Operations held by backpressure proceed as far as they can. -/
def State.drain (s : State) : State :=
  let w := s.qe.waiting
  ({ s with qe := { s.qe with waiting := [] } }).submitAll w

/-- An operation arrives at the QE: it is taken after those that wait. -/
def queueOp (r : QReq) (s : State) : State :=
  let s := s.drain
  let t := s.submit r
  if s.qe.waiting ≠ [] ∧ t.qe.waiting.length = s.qe.waiting.length then t.drain else t

/-- A missing descriptor arrives (R255). -/
def descFetched (q : Nat) (s : State) : State :=
  match s.qe.misses.find? (·.1 == q) with
  | none => s
  | some m =>
    let s := (s.touch q)
    let s := { s with qe := { s.qe with misses := s.qe.misses.filter fun x => x.1 != q } }
    (s.submitAll m.2).drain

/-! ## Enable and disable (R228, R229) -/

/-- An area of `n` bytes at `a` of the alignment `al` inside installed DRAM. -/
def State.areaOk (s : State) (a n al : Nat) : Bool :=
  a % al == 0 && decide (a + n ≤ s.capacity)

/-- The areas QE_CTRL.enable is checked with. -/
def State.areasOk (s : State) : Bool :=
  let d := s.descBase
  let p := s.poolBase
  let l := s.linkBase
  let g := s.poolSize
  decide (1024 ≤ g) && decide (g ≤ 2 ^ 33) && s.areaOk d (2 ^ 25) (2 ^ 25) && s.areaOk p (256 * g) 256 &&
    s.areaOk l (8 * g) 8 && !overlaps d (d + 2 ^ 25) p (p + 256 * g) &&
    !overlaps d (d + 2 ^ 25) l (l + 8 * g) && !overlaps p (p + 256 * g) l (l + 8 * g)

/-- The status of a refused write to a QE register, at the writer (R509). -/
def State.qeRefuse (s : State) (m : Master) (status : Nat) : State :=
  (s.setSrcFld m F.QE_DESC_CMD_status status).ack

/-- DRAM zeroed over an area, with its markings. -/
def State.zeroArea (s : State) (a n : Nat) : State :=
  let out := fun (k lo hi : Nat) => decide (k < lo) || decide (hi ≤ k)
  { s with dram := { s.dram with
      mem := s.dram.mem.filter fun e => out e.1 a (a + n)
      poison := s.dram.poison.filter fun e => out e.1 (a / 64) ((a + n) / 64)
      badTag := s.dram.badTag.filter fun e => out e.1 (a / 64) ((a + n) / 64) } }

def qeEnableGo (m : Master) (s : State) : State :=
  if s.bit F.QE_CTRL_enable then s.ack
  else if !s.areasOk then s.qeRefuse m Code.invalidArgument
  else
    let s := s.setBit F.QE_CTRL_enable true
    let s := s.setReg R.QE_POOL_LOST 0
    let s := s.zeroArea s.descBase (2 ^ 25)
    ({ s with qe := { waiting := s.qe.waiting } }).ack

/-- Whether the QE may be disabled (R229). -/
def State.qeIdle (s : State) : Bool :=
  (s.qe.queues.all fun x => x.2.entries.isEmpty) && s.qe.assemblies.isEmpty && s.qe.staged.isEmpty &&
    s.qe.misses.isEmpty

def qeDisableGo (m : Master) (s : State) : State :=
  if !s.bit F.QE_CTRL_enable then s.ack
  else if s.qeIdle then ((s.setBit F.QE_CTRL_enable false).setBit F.QE_CTRL_ready false).ack
  else s.qeRefuse m Code.notPermitted

def qeReadyGo (s : State) : State :=
  if s.bit F.QE_CTRL_enable && !s.bit F.QE_CTRL_ready then (s.setBit F.QE_CTRL_ready true).drain else s

/-- An assembly has received no packet for 64 µs (R235). -/
def assemblyLate (src : Master) (tag : BitVec 8) (s : State) : State :=
  match s.assembly src tag with
  | some a => if a.last + 64000 ≤ s.now ∧ ¬s.qeFrozen then (s.abandon a).drain else s
  | none => s

/-! ## Launches (R247 to R249) -/

def headReleased (q : Nat) (s : State) : State :=
  if s.qeFrozen then s else s.settle q

/-- Granules the launch buffer holds; it has room for 2 MiB. -/
def State.buffered (s : State) : Nat :=
  (s.qe.queues.map fun x =>
    ((x.2.entries.filter (·.ready)).map fun e => 256 * e.grans.length).sum).sum

def prefetchIn (due : Nat) : List QEntry → List QEntry
  | [] => []
  | e :: l =>
    if e.ready then e :: prefetchIn due l
    else if e.due ≤ due then { e with ready := true } :: l else e :: l

/-- The first entry not yet read is read lead_us ahead, if the buffer has room (R248). -/
def prefetch (q : Nat) (s : State) : State :=
  let x := s.queue q
  if s.qeFrozen ∨ !x.launch ∨ s.qGate q ≠ 0 then s
  else
    let t := s.setQueue q
      { x with entries := prefetchIn (s.now + 1000 * s.fld F.QE_LAUNCH_CFG_lead_us) x.entries }
    if 2097152 < t.buffered then s else t

/-- The NI of a launch port: the positions of the QE's block after its own. -/
def launchNi (port : Nat) : Nat := (Master.unit 0x18 (Fin.ofNat 1024 (1 + port))).ni

/-- A MESSAGE of a launch on the port's route (R247). -/
def State.launchMessage (s : State) (x : Queue) (g : List Byte × Word × Bool) : State :=
  let ni := launchNi x.port
  let e := s.route ni x.route
  if e.usable x.dst then
    s.launchPacket {
      kind := 5, prio := BitVec.ofNat 3 x.prio, route := BitVec.ofNat 12 x.route
      src := BitVec.ofNat 10 ni, dst := BitVec.ofNat 10 x.dst, txid := 0, poison := g.2.2
      integ := true, tag := 0, address := 0, dtag := 0, payload := g.1, crc := g.2.1
      fpoison := false } e
  else s.niDiscard ni

def State.launchMessages (s : State) (x : Queue) : List (List Byte × Word × Bool) → State
  | [] => s
  | g :: l => (s.launchMessage x g).launchMessages x l

/-- The instant from which a late launch is dropped, if there is a limit (R249). -/
def State.lateLimit (s : State) (e : QEntry) : Option Nat :=
  let k := s.fld F.QE_LAUNCH_CFG_late_limit_us
  if k = 0 then none else some (e.due + 1000 * k)

/-- A late entry is dropped with cause LATE (R249). -/
def State.dropLate (s : State) (q : Nat) : State :=
  let s := s.removeHead q
  let s := s.satFld F.QE_LAUNCH_STAT_dropped F.QE_LAUNCH_STAT_overflow
  (s.fault Unit.qe .launchLate (.unit Unit.qe) 0 q).changed q

/-- The head entry of a launch queue is sent at its release instant or, late, after it. -/
def launchHead (q : Nat) (lost : Option Nat) (s : State) : State :=
  let x := s.queue q
  if s.qeFrozen ∨ !x.launch ∨ s.qGate q ≠ 0 ∨ x.held ≠ 0 then s
  else match x.entries with
    | [] => s
    | e :: _ =>
      if !e.released s.now then s
      else match s.chainLost q lost with
        | some k => s.breakChain q k
        | none =>
          if (match s.lateLimit e with
              | some t => decide (t < s.now)
              | none => false) then s.dropLate q
          else
            let s := if e.due < s.now then s.satFld F.QE_LAUNCH_STAT_late F.QE_LAUNCH_STAT_overflow else s
            let d := s.readGrans true e.grans
            let hdr := if x.launchHdr then [(e.record, crc32c e.record, false)] else []
            ((d.2.launchMessages x (hdr ++ d.1)).removeHead q).changed q

/-- The limit of a late launch has passed (R249). -/
def launchExpired (q : Nat) (s : State) : State :=
  let x := s.queue q
  if s.qeFrozen ∨ !x.launch ∨ s.qGate q ≠ 0 ∨ x.held ≠ 0 then s
  else match x.entries with
    | [] => s
    | e :: _ => match s.lateLimit e with
      | some t => if t ≤ s.now then s.dropLate q else s
      | none => s

/-! ## Descriptor commands (R252, R254, R256) -/

def State.descSel (s : State) (m : Master) : Nat := s.srcFld m F.QE_DESC_SEL_queue

def State.descStatus (s : State) (m : Master) (status : Nat) : State :=
  (s.setSrcFld m F.QE_DESC_CMD_status status).ack

def State.putWindow (s : State) (m : Master) : Nat → List Word → State
  | _, [] => s
  | i, w :: l => (s.setSrcReg m (R.QE_DESC_W i) w).putWindow m (i + 1) l

/-- READ: the head and the tail of a queue that has become empty are free values. -/
def descRead (m : Master) (s : State) : State :=
  let q := s.descSel m
  let x := s.queue q
  let c := chainOf x.entries
  let f := s.free
  let g := f.2.free
  let r := if c.isEmpty ∧ x.used then (f.1 % 2 ^ 33, g.1 % 2 ^ 33, g.2)
    else (c.headD 0, c.getLast?.getD 0, s)
  (r.2.2.putWindow m 0 (x.words r.1 r.2.1)).descStatus m 0

def State.window (s : State) (m : Master) : List Word :=
  (List.range 8).map fun i => s.srcReg m (R.QE_DESC_W i)

/-- Pinned descriptors. -/
def State.pinned (s : State) : Nat := (s.qe.queues.filter (·.2.pin)).length

/-- The status of a descriptor write (R250, R255, R256). -/
def State.descCheck (s : State) (q : Nat) (w : List Word) : Nat :=
  let x := s.queue q
  let y := x.put w
  if y.dropRule = 3 ∨ y.notify = 3 ∨ (y.member ∧ y.weight = 0) ∨ 5 < y.prio then Code.invalidArgument
  else if y.pin ∧ ¬x.pin ∧ 16384 ≤ s.pinned then Code.invalidArgument
  else if y.launch ∧ y.member then Code.notPermitted
  else if x.launch ≠ y.launch ∧ ¬x.entries.isEmpty then Code.notPermitted
  else 0

def State.descPut (s : State) (q : Nat) (w : List Word) : State := s.setQueue q ((s.queue q).put w)

def descWrite (m : Master) (s : State) : State :=
  let q := s.descSel m
  let w := s.window m
  let st := s.descCheck q w
  (if st = 0 then s.descPut q w else s).descStatus m st

/-- STAGE: the write is staged in the transaction QE_DESC_SEL names. -/
def descStage (m : Master) (s : State) : State :=
  let q := s.descSel m
  let w := s.window m
  let st := s.descCheck q w
  if st ≠ 0 then s.descStatus m st
  else
    let id := s.srcFld m F.QE_DESC_SEL_txid
    let r : QReq := { head := { src := m, tag := 0, queue := BitVec.ofNat 20 q, post := false, txid := BitVec.ofNat 8 id }, kind := .flush none }
    let full := if s.stagedFull then Code.stageFull else 0
    let x := s.qStage r (.descriptor (BitVec.ofNat 20 q) w) full []
    if x.1 ≠ 0 then x.2.descStatus m x.1
    else (x.2.addStaged id (.descriptor q w)).descStatus m 0

def descFlush (m : Master) (s : State) : State :=
  (s.flushQueue (s.descSel m)).2.descStatus m 0

/-! ## Apply and abort of staged operations (R253) -/

/-- One staged operation at the apply. -/
def State.applyStaged (s : State) : QStaged → State
  | .enqueue q e => (s.unreserve q e.grans.length).joinQueue q e
  | .move src dst n =>
    let s := s.unreserve dst n
    (s.setQueue src { s.queue src with held := 0 }).moveHead src dst
  | .descriptor q w => s.descPut q w

def State.undoStaged (s : State) : QStaged → State
  | .enqueue q e => (s.unreserve q e.grans.length).freeGrans (chainOf [e])
  | .move src dst n =>
    let s := s.unreserve dst n
    (s.setQueue src { s.queue src with held := 0 }).changed src
  | .descriptor _ _ => s

def State.eachStaged (s : State) (f : State → QStaged → State) (id : Nat) : List (Nat × QStaged) → State
  | [] => s
  | (k, x) :: l => (if k = id then f s x else s).eachStaged f id l

def State.clearStaged (s : State) (id : Nat) : State :=
  { s with qe := { s.qe with staged := s.qe.staged.filter fun x => x.1 != id } }

/-- The staged operations of a transaction applied in the order they were staged. -/
def State.qeApply (s : State) (id : Nat) : State :=
  (s.eachStaged State.applyStaged id s.qe.staged).clearStaged id

/-- Held entries are unheld and staged entries freed. -/
def State.qeAbort (s : State) (id : Nat) : State :=
  (s.eachStaged State.undoStaged id s.qe.staged).clearStaged id

/-- JOIN_ACK at a participant (R296): at the QE the operations of the source go on. -/
def joinAcked (part : Master) (id : Nat) (s : State) : State :=
  let t := txJoinAckGo part id s
  if part.same Unit.qe then t.drain else t

/-! ## Meanings -/

/-- R296. -/
def execTxJoinAck (part : Master) (id : BitVec 8) (s : State) : Out := .next (joinAcked part id.toNat s)

/-- R228, R229. -/
def execQeEnable (m : Master) (s : State) : Out := .next (qeEnableGo m s)
/-- R229. -/
def execQeDisable (m : Master) (s : State) : Out := .next (qeDisableGo m s)
/-- R229. -/
def execQeReady (s : State) : Out := .next (qeReadyGo s)
/-- R235, R236, R238. -/
def execEnqBegin (h : QHead) (release flow : Word) (len : BitVec 16) (cls : BitVec 8) (rest : BitVec 40)
    (s : State) : Out := .next (queueOp { head := h, kind := .begin release flow len cls rest } s)
/-- R231, R237, R239. -/
def execEnqData (h : QHead) (bytes : List Byte) (last : Bool) (crc : Word) (poison : Bool) (s : State) : Out :=
  .next (queueOp { head := h, kind := .data bytes last crc poison } s)
/-- R235. -/
def execAssemblyTimeout (src : Master) (tag : BitVec 8) (s : State) : Out := .next (assemblyLate src tag s)
/-- R240, R251. -/
def execQeDeq (h : QHead) (most : BitVec 16) (lost : Option Nat) (s : State) : Out :=
  .next (queueOp { head := h, kind := .deq most lost } s)
/-- R241. -/
def execQeQmov (h : QHead) (dst : BitVec 20) (lost : Option Nat) (s : State) : Out :=
  .next (queueOp { head := h, kind := .qmov dst lost } s)
/-- R241. -/
def execQueueDrop (h : QHead) (lost : Option Nat) (s : State) : Out :=
  .next (queueOp { head := h, kind := .drop lost } s)
/-- R241, R257. -/
def execQueueFlush (h : QHead) (lost : Option Nat) (s : State) : Out :=
  .next (queueOp { head := h, kind := .flush lost } s)
/-- R240, R246. -/
def execHeadRelease (q : BitVec 20) (s : State) : Out := .next (headReleased q.toNat s)
/-- R248. -/
def execLaunchPrefetch (q : BitVec 20) (s : State) : Out := .next (prefetch q.toNat s)
/-- R247 to R249. -/
def execLaunchStart (q : BitVec 20) (lost : Option Nat) (s : State) : Out :=
  .next (launchHead q.toNat lost s)
/-- R249. -/
def execLaunchLateDrop (q : BitVec 20) (s : State) : Out := .next (launchExpired q.toNat s)
/-- R255. -/
def execDescFetchDone (q : BitVec 20) (s : State) : Out := .next (descFetched q.toNat s)
/-- R254. -/
def execQeDescRead (m : Master) (s : State) : Out := .next (descRead m s)
/-- R250, R255, R256. -/
def execQeDescWrite (m : Master) (s : State) : Out := .next (descWrite m s)
/-- R252, R256. -/
def execQeDescStage (m : Master) (s : State) : Out := .next (descStage m s)
/-- R241. -/
def execQeDescFlush (m : Master) (s : State) : Out := .next (descFlush m s)

end Sys2Proof.Machine
end

