-- ==== Sys2Proof/Machine/NetPorts.lean ====
section
/-! DEFINITION. Network ports (chapter 11): port blocks, the receive path into the queue
engine, the ring, transmit frames, time stamps and recovered clocks. -/

namespace Sys2Proof.Machine

/-! ## Blocks and ports (R341, R342, R358) -/

def noPortBlock (_ : Nat) : PortBlock := {}
def noNetPort (_ : Nat) : NetPort := {}

def State.portBlock (s : State) (b : Nat) : PortBlock := Table.get noPortBlock s.ntl.blocks b

def State.setPortBlock (s : State) (b : Nat) (x : PortBlock) : State :=
  { s with ntl := { s.ntl with blocks := Table.set noPortBlock s.ntl.blocks b x } }

def State.netPort (s : State) (b p : Nat) : NetPort := Table.get noNetPort s.ntl.ports (4 * b + p)

def State.setNetPort (s : State) (b p : Nat) (x : NetPort) : State :=
  { s with ntl := { s.ntl with ports := Table.set noNetPort s.ntl.ports (4 * b + p) x } }

def State.ntlRefuse (s : State) (b status : Nat) : State :=
  s.refuse (F.NTL_PB_STATUS_last_status b) status

/-- The NTL is frozen under HALT (R359). -/
def State.ntlFrozen (s : State) : Bool := s.bit F.DBG_STATUS_frozen && s.bit F.DBG_FREEZE_ntl

/-- A block's lanes run: in SERVICE and above, and in DORMANT where the block is kept (R359). -/
def State.blockRuns (s : State) (b : Nat) : Bool :=
  s.bit (F.NTL_PB_CTRL_en b) &&
    (inService s.mode || (s.mode == Mode.dormant && bitAt (s.fld F.DEV_DORMANT_keep_ports) b))

/-- A port the block's mode has (Table 11.1). -/
def State.hasPort (s : State) (b p : Nat) : Bool :=
  match s.fld (F.NTL_PB_CTRL_mode b) with
  | 0 => false
  | 1 => p == 0
  | _ => true

def State.portUp (s : State) (b p : Nat) : Bool :=
  s.blockRuns b && bitAt (s.fld (F.NTL_PB_STATUS_link_up b)) p

def State.setLink4 (s : State) (f : Field) (p : Nat) (v : Bool) : State :=
  s.setFld f (withBit (s.fld f) p v)

/-- A port goes down. -/
def State.portDown (s : State) (b p : Nat) : State :=
  (s.setLink4 (F.NTL_PB_STATUS_link_up b) p false).setLink4 (F.NTL_PB_STATUS_fec_lock b) p false

/-- BYPASS_N is released (R358, Table 1.5): in every other case it is asserted. -/
def State.bypassReleased (s : State) : Bool :=
  let a := s.fld F.NTL_RING_port_a / 4
  let c := s.fld F.NTL_RING_port_b / 4
  let keep := s.fld F.DEV_DORMANT_keep_ports
  s.bit F.NTL_RING_en && s.bit (F.NTL_PB_CTRL_en a) && s.bit (F.NTL_PB_CTRL_en c) &&
    (inService s.mode || (s.mode == Mode.dormant && bitAt keep a && bitAt keep c))

/-- A write of NTL_PB_CTRL (R342): what would change mode or fec while the block is enabled is
refused. A block that is disabled forgets the frames it has not sent. -/
def blockCtrl (b : Nat) (w : Word) (s : State) : State :=
  let en := s.bit (F.NTL_PB_CTRL_en b)
  let mode := bitsOf w 29 2
  let fec := bitsOf w 28 1
  let len := bitsOf w 0 14
  if en ∧ (mode ≠ s.fld (F.NTL_PB_CTRL_mode b) ∨ fec ≠ s.fld (F.NTL_PB_CTRL_fec b)) then
    s.ntlRefuse b Code.notPermitted
  else if (fec = 1 ∧ mode = 3) ∨ len < 1518 ∨ 9216 < len then s.ntlRefuse b Code.invalidArgument
  else
    let s := s.setReg (R.NTL_PB_CTRL b) (w &&& 0xFC003FFF#32)
    if w.getLsbD 31 == en then s.ack
    else
      let s := (s.setFld (F.NTL_PB_STATUS_link_up b) 0).setFld (F.NTL_PB_STATUS_fec_lock b) 0
      let s := s.setPortBlock b { s.portBlock b with asm := [], waiting := [] }
      let clear := fun (s : State) (p : Nat) =>
        s.setNetPort b p { s.netPort b p with fifo := [], ring := [] }
      (clear (clear (clear (clear s 0) 1) 2) 3).ack

/-- A port has trained and aligned (R342). -/
def portLink (b p : Nat) (s : State) : State :=
  let lost := (s.portBlock b).lost
  let dark := if s.fld (F.NTL_PB_CTRL_mode b) = 1 then lost != 0 else lost.getLsbD p
  if !s.blockRuns b || !s.hasPort b p || dark then s
  else
    (s.setLink4 (F.NTL_PB_STATUS_link_up b) p true).setLink4 (F.NTL_PB_STATUS_fec_lock b) p
      (s.bit (F.NTL_PB_CTRL_fec b))

/-- A lane has lost its signal or its CDR lock for 10 µs: its port goes down (Table 11.4). -/
def laneLost (lane : Nat) (s : State) : State :=
  let b := lane / 4
  let x := s.portBlock b
  if !s.blockRuns b || x.lost.getLsbD (lane % 4) then s
  else
    let s := s.setPortBlock b { x with lost := x.lost ||| (1#4 <<< (lane % 4)) }
    let s := s.portDown b (if s.fld (F.NTL_PB_CTRL_mode b) = 1 then 0 else lane % 4)
    s.fault (Unit.ntl b) .ntlLink (.unit (Unit.ntl b)) 0 lane

/-- The retraining of a lost lane; the port then comes up as it aligns. -/
def laneTrain (lane : Nat) (recovered : Bool) (s : State) : State :=
  let b := lane / 4
  let x := s.portBlock b
  if recovered then s.setPortBlock b { x with lost := x.lost &&& ~~~(1#4 <<< (lane % 4)) } else s

/-! ## Frames -/

def byteAt (f : List Byte) (i : Nat) : Nat := (f.getD i 0).toNat
/-- A big-endian field of a frame. -/
def be (f : List Byte) (i : Nat) : Nat → Nat
  | 0 => 0
  | n + 1 => byteAt f i * 256 ^ n + be f (i + 1) n

def be16 (f : List Byte) (i : Nat) : Nat := be f i 2

/-- The frame's first VLAN tag's TCI (R346). -/
def vlanTag (f : List Byte) : Option Nat :=
  if be16 f 12 = 0x8100 ∨ be16 f 12 = 0x88A8 then some (be16 f 14) else none

/-- Where the EtherType stands, after at most one VLAN tag. -/
def typeAt (f : List Byte) : Nat := if (vlanTag f).isSome then 16 else 12

/-- A PTP encapsulation of R346: where the UDP header is, if there is one, whether over IPv6,
and where the PTP message begins. -/
structure Ptp where
  udp : Option Nat
  v6 : Bool
  at_ : Nat
  deriving DecidableEq, Repr

def ptpPort (n : Nat) : Bool := n == 319 || n == 320

/-- The PTP message of a frame, if it is a PTP frame (R346). -/
def ptpOf (f : List Byte) : Option Ptp :=
  let t := typeAt f
  let l3 := t + 2
  if be16 f t = 0x88F7 then some { udp := none, v6 := false, at_ := l3 }
  else if be16 f t = 0x0800 ∧ byteAt f (l3 + 9) = 17 then
    let u := l3 + 4 * (byteAt f l3 % 16)
    if ptpPort (be16 f (u + 2)) then some { udp := some u, v6 := false, at_ := u + 8 } else none
  else if be16 f t = 0x86DD ∧ byteAt f (l3 + 6) = 17 then
    let u := l3 + 40
    if ptpPort (be16 f (u + 2)) then some { udp := some u, v6 := true, at_ := u + 8 } else none
  else none

/-! ## Stamps (R352) -/

/-- A delay in ps, signed, in units of 2⁻³² ns. -/
def psUnits (v : Nat) : Int := sextNat 16 v * 2 ^ 32 / 1000

/-- The time of a domain at a stamp point that lies `since` before now, with a correction. -/
def State.stampAt (s : State) (domB : Bool) (since : Nat) (delay : Nat) : BitVec 96 :=
  (s.dom domB).time - BitVec.ofNat 96 since + BitVec.ofInt 96 (psUnits delay)

def stampNs (x : BitVec 96) : Word := x.extractLsb' 32 32
def stampFrac (x : BitVec 96) : BitVec 16 := x.extractLsb' 16 16

/-! ## Receiving (R346 to R348) -/

/-- A frame dropped, with one record per port per millisecond (R348). -/
def State.rxDrop (s : State) (b p : Nat) : State :=
  let s := s.satFld (F.NTL_PB_COUNT0_rx_drop b p) (F.NTL_PB_COUNT0_overflow b p)
  let ms := s.now / 1000000 + 1
  if (s.netPort b p).dropMs = ms then s
  else (s.setNetPort b p { s.netPort b p with dropMs := ms }).fault (Unit.ntl b) .ntlRxDrop
    (.unit (Unit.ntl b)) 0 p

/-- The data packets of an entry cut under R231. -/
def cutPackets (len : Nat) : Nat → Nat → List Byte → List (List Byte)
  | 0, _, _ => []
  | n + 1, got, l =>
    let k := packetBytes len got
    l.take k :: cutPackets len n (got + k) (l.drop k)

/-- A whole entry enqueued by a unit: ENQ_BEGIN and its data packets. -/
def State.enqueueEntry (s : State) (h : QHead) (release flow : Word) (cls : BitVec 8) (bytes : List Byte) :
    State :=
  let s := queueOp { head := h, kind := .begin release flow (BitVec.ofNat 16 (bytes.length - 1)) cls 0 } s
  let ps := cutPackets bytes.length (granulesFor bytes.length) 0 bytes
  (ps.zipIdx).foldl (fun s x =>
    queueOp { head := h, kind := .data x.1 (decide (x.2 + 1 = ps.length)) (crc32c x.1) false } s) s

/-- The receive prefix (Table 11.2). -/
def rxPrefix (t : BitVec 96) (domB ptp bad : Bool) (p : Nat) : List Byte :=
  toBytes 4 (stampNs t).toNat ++ toBytes 2 (stampFrac t).toNat ++
    [BitVec.ofNat 8 (b2n domB + 2 * b2n ptp + 4 * b2n bad), BitVec.ofNat 8 p]

/-- Bytes of the receive buffer held by frames whose enqueue is unanswered. -/
def State.rxHeld (s : State) (b : Nat) : Nat := ((s.portBlock b).rx.map (·.2.2)).sum

/-- A received frame is enqueued, given to the husk, or dropped (R346 to R348). -/
def State.deliverFrame (s : State) (b p : Nat) (frame : List Byte) (good : Bool) (t : BitVec 96)
    (domB : Bool) : State :=
  let len := frame.length
  let bad := !good || decide (len < 64) || decide (s.fld (F.NTL_PB_CTRL_max_len b) < len)
  if bad && !s.bit (F.NTL_PB_CTRL_keep_bad b) then s.rxDrop b p
  else if 262144 < s.rxHeld b + len ∨ len < 5 then s.rxDrop b p
  else
    let ptp := (ptpOf frame).isSome
    let entry := rxPrefix t domB ptp bad p ++ frame.take (len - 4)
    if ptp && s.bit (F.NTL_PB_CTRL_ptp_husk b) then
      { s with ntl := { s.ntl with husk := s.ntl.husk ++ [entry] } }
    else
      let c := match vlanTag frame with
        | some tci => tci / 2 ^ 13
        | none => s.fld (F.NTL_PB_RXQ_def_pcp b p)
      let flow := match vlanTag frame with
        | some tci => 65536 + tci
        | none => 0
      let x := s.portBlock b
      let s := s.setPortBlock b { x with rx := x.rx ++ [(x.nextTag, p, len)], nextTag := x.nextTag + 1 }
      let h : QHead := { src := Unit.ntl b, tag := x.nextTag, queue := BitVec.ofNat 20 (s.fld (F.NTL_PB_RXQ_base b p) + c), post := false, txid := 0 }
      s.enqueueEntry h s.now32 (BitVec.ofNat 32 flow) 0 entry

/-- The stamp of a received frame, with its domain. -/
def State.rxStamp (s : State) (b : Nat) (since : Nat) (old : Bool) : BitVec 96 × Bool :=
  let d := Bool.xor (s.bit (F.NTL_PB_TS_dom b)) old
  (s.stampAt d since (s.fld (F.NTL_PB_DELAY_rx_delay_ps b)), d)

/-- A frame is received on a port (R346, R359). -/
def rxFrame (b p : Nat) (frame : List Byte) (good : Bool) (since : Nat) (old : Bool) (s : State) : State :=
  if !s.portUp b p then s
  else if s.ntlFrozen then s.rxDrop b p
  else
    let t := s.rxStamp b since old
    s.deliverFrame b p frame good t.1 t.2

/-- The response to an enqueue frees the buffer; a refusal drops the frame (R348). -/
def rxAnswer (b : Nat) (tag : BitVec 8) (s : State) : State :=
  let x := s.portBlock b
  let k := (Unit.ntl b).key
  match x.rx.find? (·.1 == tag), s.qe.answers.find? fun a => a.1 == k && a.2.1 == tag with
  | some r, some a =>
    let s := s.setPortBlock b { x with rx := x.rx.filter fun y => y.1 != tag }
    let s := { s with qe := { s.qe with answers := s.qe.answers.filter fun y => !(y.1 == k && y.2.1 == tag) } }
    if ofBytes (a.2.2.take 2) = 0 then s else s.rxDrop b r.2.1
  | _, _ => s

/-! ## The ring (R357) -/

/-- The other ring port, where port `p` of block `b` is one. -/
def State.ringPeer (s : State) (b p : Nat) : Option Nat :=
  let a := s.fld F.NTL_RING_port_a
  let c := s.fld F.NTL_RING_port_b
  if !s.bit F.NTL_RING_en then none
  else if 4 * b + p = a then some c
  else if 4 * b + p = c then some a
  else none

/-- A frame on a ring port (R357, R359). -/
def ringFrame (b p : Nat) (frame : List Byte) (good : Bool) (since : Nat) (old : Bool) (s : State) : State :=
  match s.ringPeer b p with
  | none => rxFrame b p frame good since old s
  | some q =>
    if !s.portUp b p then s
    else if be16 frame 12 ≠ s.fld F.NTL_RING_tpid then rxFrame b p frame good since old s
    else
      let hops := byteAt frame 14 - 1
      let dst := be frame 0 6
      if byteAt frame 15 = s.fld F.NTL_RING_ring_id ∨ hops = 0 then
        s.satFld (F.NTL_PB_COUNT1_ring_drop b p) (F.NTL_PB_COUNT0_overflow b p)
      else
        let bare := frame.take 12 ++ frame.drop 16
        let next := frame.take 14 ++ [BitVec.ofNat 8 hops] ++ frame.drop 15
        let forward := fun (s : State) =>
          s.setNetPort (q / 4) (q % 4) { s.netPort (q / 4) (q % 4) with ring := (s.netPort (q / 4) (q % 4)).ring ++ [(next, good)] }
        if dst = Config.macAddress.toNat then rxFrame b p bare good since old s
        else if byteAt frame 0 % 2 = 1 then forward (rxFrame b p bare good since old s)
        else forward s

/-! ## Transmit frames (R349 to R351) -/

def State.txFrame (s : State) (b : Nat) (src : Master) : Option TxFrame :=
  (s.portBlock b).asm.find? fun a => a.src.same src

def State.dropTx (s : State) (b : Nat) (src : Master) : State :=
  let x := s.portBlock b
  s.setPortBlock b { x with asm := x.asm.filter fun a => !a.src.same src }

def State.putTx (s : State) (b : Nat) (a : TxFrame) : State :=
  let s := s.dropTx b a.src
  let x := s.portBlock b
  s.setPortBlock b { x with asm := x.asm ++ [a] }

def State.txDecode (s : State) (b : Nat) (src : Master) : State :=
  s.fault (Unit.ntl b) .decode (.unit src)

/-- A header message (R349, R350): one that is malformed, or names a port that is down, opens a
frame that is thrown away. -/
def State.txHeader (s : State) (b : Nat) (src : Master) (p : List Byte) (fail : Option Bool) : State :=
  if p.length ≠ 16 then s.txDecode b src
  else
    let flow := ofBytes ((p.drop 8).take 4)
    let len := ofBytes ((p.drop 12).take 2) + 1
    let port := flow / 256 % 4
    let ok := flow / 2 ^ 10 % 64 == 0 && flow / 4 % 64 == 0 && flow % 4 != 3 && s.portUp b port &&
      decide (60 ≤ len) && decide (len + 4 ≤ s.fld (F.NTL_PB_CTRL_max_len b))
    let s := if ok then s else s.txDecode b src
    s.putTx b {
      src := src, port := port, ts := flow % 4, tag := BitVec.ofNat 16 (flow / 65536), length := len
      abort := fail, discard := !ok, last := s.now }

/-- A data message of a frame; the last completes it. -/
def State.txData (s : State) (b : Nat) (a : TxFrame) (p : List Byte) (fail : Option Bool) : State :=
  let n := packetBytes a.length a.bytes.length
  if p.length ≠ n then (if a.discard then s else s.txDecode b a.src).dropTx b a.src
  else
    let a := { a with bytes := a.bytes ++ p, abort := a.abort.orElse fun _ => fail, last := s.now }
    if a.bytes.length < a.length then s.putTx b a
    else
      let s := s.dropTx b a.src
      if a.discard then s
      else
        let x := s.netPort b a.port
        s.setNetPort b a.port { x with fifo := x.fifo ++ [a] }

def State.txTake (s : State) (b : Nat) (src : Master) (p : List Byte) (poison crcOk : Bool) : State :=
  let fail := if !crcOk then some true else if poison then some false else none
  let s := if crcOk then s else s.niCrcFail (Unit.ntl b).ni
  match s.txFrame b src with
  | some a => s.txData b a p fail
  | none => s.txHeader b src p fail

/-- A message waits by backpressure: the block is frozen, an earlier one of its source waits, or
it would open a seventeenth frame. -/
def State.txWaits (s : State) (b : Nat) (src : Master) : Bool :=
  s.ntlFrozen || ((s.portBlock b).waiting.any fun w => w.1.same src) ||
    ((s.txFrame b src).isNone && decide (16 ≤ (s.portBlock b).asm.length))

def State.txOffer (s : State) (b : Nat) (w : Master × List Byte × Bool × Bool) : State :=
  if s.txWaits b w.1 then
    s.setPortBlock b { s.portBlock b with waiting := (s.portBlock b).waiting ++ [w] }
  else s.txTake b w.1 w.2.1 w.2.2.1 w.2.2.2

def State.txOfferAll (s : State) (b : Nat) : List (Master × List Byte × Bool × Bool) → State
  | [] => s
  | w :: l => (s.txOffer b w).txOfferAll b l

/-- Messages that waited are taken as far as they can be. -/
def State.txAdmit (s : State) (b : Nat) : State :=
  let w := (s.portBlock b).waiting
  (s.setPortBlock b { s.portBlock b with waiting := [] }).txOfferAll b w

/-- A MESSAGE arrives at a block's NI (R349 to R351). -/
def txMessage (b : Nat) (src : Master) (p : List Byte) (poison crcOk : Bool) (s : State) : State :=
  ((s.txAdmit b).txOffer b (src, p, poison, crcOk)).txAdmit b

/-- A frame has had no message for 64 µs (R350). -/
def txExpire (b : Nat) (src : Master) (s : State) : State :=
  match s.txFrame b src with
  | some a =>
    if a.last + 64000 ≤ s.now ∧ ¬s.ntlFrozen then
      ((if a.discard then s else s.txDecode b src).dropTx b src).txAdmit b
    else s
  | none => s

/-! ## Sending (R350 to R354) -/

/-- One bit step and one byte of the Ethernet FCS. -/
def fcsStep (c : Word) : Word := if c.getLsbD 0 then (c >>> 1) ^^^ 0xEDB88320#32 else c >>> 1
def fcsByte (c : Word) (b : Byte) : Word :=
  let c := c ^^^ b.setWidth 32
  fcsStep (fcsStep (fcsStep (fcsStep (fcsStep (fcsStep (fcsStep (fcsStep c)))))))

/-- The FCS of a frame (IEEE 802.3 Clause 4), as its four bytes are sent. -/
def fcsOf (f : List Byte) : List Byte := toBytes 4 (f.foldl fcsByte 0xFFFFFFFF#32 ^^^ 0xFFFFFFFF#32).toNat

/-- Big-endian bytes. -/
def beBytes (n v : Nat) : List Byte := (toBytes n v).reverse

def overwrite (f : List Byte) (i : Nat) (b : List Byte) : List Byte :=
  f.take i ++ b ++ f.drop (i + b.length)

/-- The one's complement sum of the 16-bit words of `n` pairs of bytes from `i` on. -/
def sumWords (f : List Byte) (i : Nat) : Nat → Nat
  | 0 => 0
  | n + 1 => be16 f i + sumWords f (i + 2) n

/-- Fold a sum to 16 bits, one's complement. -/
def fold16 (x : Nat) : Nat :=
  let y := x % 65536 + x / 65536
  y % 65536 + y / 65536

/-- The UDP checksum updated for `new` in place of `old` (R354): both ranges of a PTP header that
a one-step stamp writes. -/
def udpUpdate (old new : List Byte) (udp ptp : Nat) : Nat :=
  let n := fun (f : List Byte) => sumWords f (ptp + 8) 4 + sumWords f (ptp + 34) 5
  let inv := fun (x : Nat) => 65535 - fold16 x % 65536
  let c := inv (inv (be16 old (udp + 6)) + inv (n old) + n new)
  if c = 0 then 65535 else c

/-- A one-step Sync (R354): the frame with its timestamp written, or none if it is no Sync. -/
def oneStep (f : List Byte) (d : BitVec 96) : Option (List Byte) :=
  match ptpOf f with
  | none => none
  | some x =>
    if byteAt f x.at_ % 16 ≠ 0 ∨ f.length < x.at_ + 44 then none
    else
      let ns := (d >>> 32).toNat
      let g := overwrite f (x.at_ + 34) (beBytes 6 (ns / 10 ^ 9) ++ beBytes 4 (ns % 10 ^ 9))
      let g := overwrite g (x.at_ + 8) (beBytes 8 (be f (x.at_ + 8) 8 + (stampFrac d).toNat))
      match x.udp with
      | none => some g
      | some u => some (overwrite g (u + 6) (beBytes 2 (if x.v6 then udpUpdate f g u x.at_ else 0)))

/-- A two-step record (R353). -/
def State.stampRecord (s : State) (b p : Nat) (r : StampRec) : State :=
  let x := s.portBlock b
  if 64 ≤ x.stamps.length then
    (s.satFld (F.NTL_PB_COUNT1_ts_lost b p) (F.NTL_PB_COUNT0_overflow b p)).fault (Unit.ntl b) .ntlTsLost
      (.unit (Unit.ntl b)) 0 p
  else
    let s := s.setPortBlock b { x with stamps := x.stamps ++ [r] }
    if s.bit (F.NTL_PB_TS_ts_mbx_en b) then
      s.ringBell (s.fld (F.NTL_PB_TS_mailbox b)) (s.fld (F.NTL_PB_TS_bell b))
    else s

/-- A frame the device originates on the ring carries the ring tag (R357). -/
def State.ringTagged (s : State) (b p : Nat) (f : List Byte) : List Byte :=
  if (s.ringPeer b p).isSome then
    f.take 12 ++ beBytes 2 (s.fld F.NTL_RING_tpid) ++ [7#8, BitVec.ofNat 8 (s.fld F.NTL_RING_ring_id)] ++
      f.drop 12
  else f

/-- A frame goes out with its FCS, inverted where its data failed a check (R351). -/
def State.sendFrame (s : State) (b p : Nat) (f : List Byte) (good : Bool) : State :=
  let fcs := if good then fcsOf f else (fcsOf f).map fun x => ~~~x
  s.setNetPort b p { s.netPort b p with sent := f ++ fcs }

/-- The stamps of a frame: the frame as sent, and the state with the record made (R353, R354). -/
def State.stampFrame (s : State) (b p : Nat) (a : TxFrame) : List Byte × State :=
  let domB := s.bit (F.NTL_PB_TS_dom b)
  let d := s.stampAt domB 0 (s.fld (F.NTL_PB_DELAY_tx_delay_ps b))
  let r : StampRec := { ns := stampNs d, frac := stampFrac d, domB := domB, port := p, tag := a.tag }
  match a.ts with
  | 1 => (a.bytes, s.stampRecord b p r)
  | 2 => match oneStep a.bytes d with
    | some g => (g, s)
    | none =>
      (a.bytes, (s.satFld (F.NTL_PB_COUNT1_onestep_miss b p) (F.NTL_PB_COUNT0_overflow b p)).stampRecord
        b p r)
  | _ => (a.bytes, s)

/-- A frame starts and reaches its stamp point (R350 to R354): what the ring forwards goes
first. -/
def txSend (b p : Nat) (s : State) : State :=
  let x := s.netPort b p
  if !s.portUp b p then s
  else match x.ring, x.fifo with
    | (f, good) :: l, _ => (s.setNetPort b p { x with ring := l }).sendFrame b p (f.take (f.length - 4)) good
    | [], a :: l =>
      let s := s.setNetPort b p { x with fifo := l }
      let t := s.stampFrame b p a
      let s := match a.abort with
        | none => t.2
        | some crc =>
          (t.2.satFld (F.NTL_PB_COUNT0_tx_abort b p) (F.NTL_PB_COUNT0_overflow b p)).fault (Unit.ntl b)
            (if crc then .crc else .poison) (.unit a.src)
      s.sendFrame b p (s.ringTagged b p t.1) a.abort.isNone
    | [], [] => s

/-- A read of NTL_PB_TS2_NS (R353, R480): the oldest record is popped, and its other words are
latched for the reader; the monitor's read leaves it in place. -/
def ts2Read (m : Master) (peek : Bool) (b : Nat) (s : State) : State :=
  let x := s.portBlock b
  let info := R.NTL_PB_TS2_INFO b
  let aux := R.NTL_PB_TS2_AUX b
  match x.stamps with
  | [] => ((s.setLatch m info (some 0)).setLatch m aux (some 0)).reply (toBytes 4 0)
  | r :: l =>
    let rest := if peek then x.stamps else l
    let s := s.setPortBlock b { x with stamps := rest }
    let s := s.setLatch m info (some (r.tag ++ r.frac))
    let s := s.setLatch m aux
      (some (BitVec.ofNat 32 (2 ^ 31 + 2 ^ 30 * b2n r.domB + 2 ^ 28 * r.port + rest.length)))
    s.reply (toBytes 4 r.ns.toNat)

/-! ## Other registers (R344, R355 to R358) -/

/-- A recovered-clock output squelches or is released at the end of a period (R356). -/
def rclkGo (i : Nat) (squelched : Bool) (s : State) : State := s.setBit (F.NTL_RCLK_squelched i) squelched

/-- A write of NTL_RING: both ports in one block are refused. -/
def ringWrite (w : Word) (s : State) : State :=
  if bitsOf w 24 5 / 4 = bitsOf w 19 5 / 4 then s.ntlRefuse (bitsOf w 24 5 / 4) Code.invalidArgument
  else (s.setReg R.NTL_RING (w &&& 0x9FFFFFFF#32)).ack

/-- A write of NTL_PB_RXQ_p. -/
def rxqWrite (b p : Nat) (w : Word) (s : State) : State :=
  if 1048568 < bitsOf w 0 20 then s.ntlRefuse b Code.invalidArgument
  else (s.setReg (R.NTL_PB_RXQ b p) (w &&& 0x7FFFFF#32)).ack

/-- A write of a lane's taps (R335, R344). -/
def ntlTaps (lane : Nat) (w : Word) (s : State) : State :=
  let main := bitsOf w 16 6
  let post := bitsOf w 8 5
  let pre := bitsOf w 0 5
  if pre ≤ 16 ∧ 24 ≤ main ∧ post ≤ 24 ∧ pre + main + post ≤ 63 ∧ 16 + pre + post ≤ main then
    (s.setReg (R.NTL_LANE_TXEQ lane) (w &&& 0x003F1F1F#32)).ack
  else s.ntlRefuse (lane / 4) Code.invalidArgument

/-- A codeword that could not be corrected is counted on a port with FEC (R342). -/
def State.fecBad (s : State) (b p : Nat) (wordsOk : Bool) : State :=
  if !wordsOk && s.bit (F.NTL_PB_CTRL_fec b) then
    s.satFld (F.NTL_PB_FEC_uncorrected b p) (F.NTL_PB_FEC_overflow b p)
  else s

/-! ## Meanings -/

/-- R341, R342, R358. -/
def execNtlBlockEnable (_m : Master) (b : Fin 8) (w : Word) (s : State) : Out := .next (blockCtrl b.val w s)
/-- R345 to R348, R352, R359. -/
def execRxFrameComplete (b : Fin 8) (p : Fin 4) (frame : List Byte) (fcsOk wordsOk : Bool) (since : BitVec 48)
    (old : Bool) (s : State) : Out :=
  .next (rxFrame b.val p.val frame (fcsOk && wordsOk) since.toNat old (s.fecBad b.val p.val wordsOk))
/-- R348. -/
def execRxEnqueueResponse (b : Fin 8) (tag : BitVec 8) (s : State) : Out := .next (rxAnswer b.val tag s)
/-- R357. -/
def execRingFrameReceive (b : Fin 8) (p : Fin 4) (frame : List Byte) (fcsOk wordsOk : Bool)
    (since : BitVec 48) (old : Bool) (s : State) : Out :=
  .next (ringFrame b.val p.val frame (fcsOk && wordsOk) since.toNat old (s.fecBad b.val p.val wordsOk))
/-- R349 to R351. -/
def execTxFrameMessage (b : Fin 8) (src : Master) (payload : List Byte) (poison crcOk : Bool) (s : State) :
    Out := .next (txMessage b.val src payload poison crcOk s)
/-- R350. -/
def execTxFrameAssemblyTimeout (b : Fin 8) (src : Master) (s : State) : Out := .next (txExpire b.val src s)
/-- R350 to R354. -/
def execTxFrameSend (b : Fin 8) (p : Fin 4) (s : State) : Out := .next (txSend b.val p.val s)
/-- R353. -/
def execTs2Pop (m : Master) (b : Fin 8) (s : State) : Out := .next (ts2Read m (m.same .monitor) b.val s)
/-- R356. -/
def execRclkSquelchChange (i : Fin 2) (squelched : Bool) (s : State) : Out := .next (rclkGo i.val squelched s)
/-- R341, Table 11.4. -/
def execNtlLaneLost (lane : Fin 32) (s : State) : Out := .next (laneLost lane.val s)
/-- R341, Table 11.4. -/
def execNtlLaneRetrain (lane : Fin 32) (recovered : Bool) (s : State) : Out :=
  .next (laneTrain lane.val recovered s)
/-- R342. -/
def execPortLinkUp (b : Fin 8) (p : Fin 4) (s : State) : Out := .next (portLink b.val p.val s)

end Sys2Proof.Machine
end

