-- ==== Sys2Proof/Machine/Session.lean ====
section
/-! DEFINITION. Debug sessions and the resume of what a debugger halted (R34, R473, R474,
R483, R486). -/

namespace Sys2Proof.Machine

/-! ## Resume (R483) -/

/-- The extended instant of the first whole microsecond after now. -/
def State.nextMicro (s : State) : Nat := (s.now / 1000 + 1) * 1000

def State.resumeSoon (s : State) : State := { s with mon := { s.mon with resumeAt := s.nextMicro } }

/-- A resume of engine `n` is due at the next whole microsecond; without effect on an engine that
is not halted. -/
def State.markResume (s : State) (n : Nat) : State :=
  let g := s.gov n
  if s.engState g = EngState.halted then
    (s.setEngine g { s.engine g with resuming := true }).resumeSoon
  else s

def State.markAll (s : State) : Nat → State
  | 0 => s
  | k + 1 => (s.markResume k).markAll k

/-- A halt that waits for its boundary is dropped. -/
def State.dropHalts (s : State) : Nat → State
  | 0 => s
  | k + 1 =>
    let e := s.engine k
    (if e.haltReq || e.hitReq.isSome then s.setEngine k { e with haltReq := false, hitReq := none }
     else s).dropHalts k

/-- A resume of the whole device: every halted engine, and the frozen blocks. -/
def State.resumeDevice (s : State) : State :=
  let s := (s.dropHalts 1024).markAll 1024
  if s.bit F.DBG_STATUS_frozen then ({ s with mon := { s.mon with thaw := true } }).resumeSoon else s

/-- An engine restarts in the state it was halted in, or where a start was applied meanwhile; its
watchdog goes on from the larger of its count and 10 µs (R141, R150, R482). -/
def State.restart (s : State) (g : Nat) : State :=
  let e := s.engine g
  let e := { e with resuming := false, wdLeft := if e.wdAt.isNone then max e.wdLeft 10 else e.wdLeft }
  let s := s.setEngine g e
  match e.startReq with
  | some pc => if e.under = EngState.stopped then s.startAt g pc else s.enter g e.under
  | none => s.enter g e.under

def State.restartAll (s : State) : Nat → State
  | 0 => s
  | k + 1 =>
    (if (s.engine k).resuming && s.engState k == EngState.halted then s.restart k else s).restartAll k

/-- Whether an engine is HALTED, or runs a step. -/
def State.anyHalted (s : State) : Bool :=
  s.mon.stepping.isSome || (List.range 1024).any fun n => s.engState n == EngState.halted

/-- HALT is reported while an engine is halted or a block is frozen (R25, R482): transition 0x0F
when the last one resumes. -/
def State.refreshHalt (s : State) : State :=
  let h := s.anyHalted || s.bit F.DBG_STATUS_frozen
  if s.dev.halted && !h then ({ s with dev := { s.dev with halted := false } }).rerank 0x0F else s

def State.admitBlocks (s : State) : Nat → State
  | 0 => s
  | b + 1 => (s.txAdmit b).admitBlocks b

/-! ## Sessions (R449, R473, R474) -/

def State.sessionOpen (s : State) : Bool := s.bit F.DBG_STATUS_session

/-- A session opens, and the debug domain is powered. -/
def State.openSession (s : State) (scope : Nat) (sessionEnd : Option Nat) : State :=
  let s := (s.setBit F.DBG_STATUS_session true).setFld F.DBG_STATUS_scope scope
  { s with
    trust := { s.trust with sessionEnd := sessionEnd, expired := false }
    mon := { s.mon with powered := true, ready := s.mon.powered && s.mon.ready } }

def State.clearBreaks (s : State) : Nat → State
  | 0 => s
  | k + 1 =>
    (if (s.engine k).breaks.isEmpty then s else s.setEngine k { s.engine k with breaks := [] }).clearBreaks k

def State.clearLive (s : State) : Nat → State
  | 0 => s
  | k + 1 => (s.setBit (F.CVL_LANE_TEST_inj_live k) false).clearLive k

/-- Every DBG register returns to its reset value. -/
def State.dbgReset (s : State) : State :=
  (((s.setReg R.DBG_STATUS (resetWord R.DBG_STATUS)).setReg R.DBG_FREEZE
    (resetWord R.DBG_FREEZE)).setReg R.DBG_FREEZE_PODS_LO 0).setReg R.DBG_FREEZE_PODS_HI 0

/-- Steps 2 to 6 of R474, once the device has resumed; the domain stays on for a session opened
since. -/
def State.finishSession (s : State) : State :=
  let s := { s with mon := { s.mon with ending := false } }
  let s := ((s.clearBreaks 1024).setReg R.DBG_FREEZE (resetWord R.DBG_FREEZE)).setBit F.TXU_CFG_tx_hold false
  let s := (s.refreshHold).clearLive 64
  if s.sessionOpen then s
  else
    { s.dbgReset with mon := { s.mon with
        powered := false, ready := false, reply := [], capture := [], stepping := none, away := none } }

/-- The session ends by LOCK or expiry (R474): first the device resumes. -/
def State.endSession (s : State) : State :=
  let s := (s.setBit F.DBG_STATUS_session false).setFld F.DBG_STATUS_scope 0
  let s := { s with
    trust := { s.trust with sessionEnd := none }
    mon := { s.mon with stepping := none } }
  if s.anyHalted || s.bit F.DBG_STATUS_frozen then
    let s := s.resumeDevice
    { s with mon := { s.mon with ending := true } }
  else s.refreshHalt.finishSession

/-- The session ends with a transition to HELD or ZEROISED, which leaves nothing to resume. -/
def State.cutSession (s : State) : State :=
  let s := (s.setBit F.DBG_STATUS_session false).setBit F.DBG_STATUS_frozen false
  ({ s with
    trust := { s.trust with sessionEnd := none }
    dev := { s.dev with halted := false }
    mon := { s.mon with thaw := false } }).finishSession

/-- The resume tick (R483): every engine and block resumed restarts. -/
def resumeNow (s : State) : State :=
  if s.now < s.mon.resumeAt then s
  else
    let s := s.restartAll 1024
    let s := if s.mon.thaw then
        let s := s.setBit F.DBG_STATUS_frozen false
        (({ s with mon := { s.mon with thaw := false } }).drain).admitBlocks 8
      else s
    let s := s.refreshHalt.refreshHold
    if s.mon.ending && !s.anyHalted && !s.bit F.DBG_STATUS_frozen then s.finishSession else s

/-- The session's time has passed (R449, R474). -/
def sessionExpire (s : State) : State :=
  match s.trust.sessionEnd with
  | some t =>
    if s.sessionOpen && decide (t ≤ s.now) then
      ({ s with trust := { s.trust with expired := true } }).endSession
    else s
  | none => s

/-! ## Meanings -/

/-- R483. -/
def execResumeTick (s : State) : Out := .next (resumeNow s)
/-- R449, R474. -/
def execSessionExpiry (s : State) : Out := .next (sessionExpire s)

end Sys2Proof.Machine
end

