-- ==== Sys2Proof/Machine/Trust.lean ====
section
/-! DEFINITION. Trust (chapter 15): fuses and the life cycle, signed commands, husk commands,
identity and attestation, debug unlock, and tamper events. -/

namespace Sys2Proof.Machine

/-! ## Fuses (R444) -/

/-- A burn reads back, at once or after its one repeat. -/
def Burn.ok (b : Burn) : Bool := b.first || b.second

def State.setFuses (s : State) (f : Fuses) : State := { s with fuses := f }

/-- Slots whose digest is burned, and those neither empty nor revoked. -/
def State.burnedSlots (s : State) : List Nat := (List.range 4).filter s.slotBurned
def State.usableSlots (s : State) : List Nat := (List.range 4).filter s.slotUsable

/-- The tamper count exceeds the acknowledged count (PCI_TRUST.tamper_unacked). -/
def State.unacked (s : State) : Bool := decide (s.flash.ack < s.fuses.tamperCount)

/-- An entry of the event log for an event that the husk logs itself. -/
def State.logEvent (s : State) (cls : FaultClass) (subject : Subject) (status detail : Nat) : State :=
  { s with err := { s.err with log := s.err.log ++ [{
      subject := subject, cls := cls, reporter := .husk, status := BitVec.ofNat 16 status,
      detail := BitVec.ofNat 48 detail, first := s.now, last := s.now, count := 1,
      severity := cls.severity }] } }

/-- Every MP key is erased (R392, R445, R451). -/
def State.eraseKeys (s : State) : State := s.setBit F.MP_STATUS_keys_valid false

/-! ## Signed commands (R445 to R447, Table 15.11) -/

/-- The owner's key signed the command, or Xoelo's in RETURNED. -/
def State.ownerSigned (s : State) (c : SignedCmd) : Bool :=
  if s.fuses.lifeCycle = 3 then c.slot == 0xFF else decide (c.slot ≤ 3)

/-- The command ends with a status: an accepted one stores its counter (R447). -/
def State.commandEnd (s : State) (c : SignedCmd) (status : Nat) : State :=
  let s := if status = 0 then { s with flash := { s.flash with counter := c.counter } } else s
  (s.fault .husk .trustCmd (.unit .husk) status c.code).ldrEnd status

/-- The verified command of code `code`, if it is the one that waits, is checked for the life-cycle
states that permit it and for its signer, and run. -/
def State.signedRun (s : State) (code : Nat) (states : List Nat) (signer : SignedCmd → Bool)
    (run : SignedCmd → State → Nat × State) : State :=
  match s.loader.command with
  | none => s
  | some c =>
    if c.code ≠ code then s
    else
      let s := s.setLoader { s.loader with command := none }
      if !states.contains s.fuses.lifeCycle then s.commandEnd c Code.notPermitted
      else if !signer c then s.commandEnd c Code.badSignature
      else let r := run c s; r.2.commandEnd c r.1

/-- A life-cycle change (R445): the wipe and the key erasure precede the burn, and the whole-device
reset follows. -/
def State.lifeChange (s : State) (b : Burn) (f : Fuses → Fuses) : Nat × State :=
  let s := s.wipeBegin.eraseKeys
  if b.ok then (0, { s.setFuses (f s.fuses) with trust := { s.trust with resetDue := true } })
  else (Code.fuseFail, s)

/-- A burn of a field by a command. -/
def State.burnFuse (s : State) (b : Burn) (f : Fuses → Fuses) : Nat × State :=
  if b.ok then (0, s.setFuses (f s.fuses)) else (Code.fuseFail, s)

/-- The 64-byte digests of a command's arguments. -/
def digestsOf : Nat → List Byte → List (BitVec 512)
  | 0, _ => []
  | n + 1, b => BitVec.ofNat 512 (ofBytes (b.take 64)) :: digestsOf n (b.drop 64)

def setDigest (f : Fuses) (k : Nat) (d : BitVec 512) : Fuses :=
  { f with digests := Table.set (fun _ => 0) f.digests k d }

def setDigests (f : Fuses) : Nat → List (BitVec 512) → Fuses
  | _, [] => f
  | k, d :: l => setDigests (setDigest f k d) (k + 1) l

def provisionRun (b : Burn) (c : SignedCmd) (s : State) : Nat × State :=
  let n := c.args.length / 64
  let l := digestsOf n c.args
  if c.args.length % 64 ≠ 0 ∨ n = 0 ∨ 4 < n ∨ l.head? ≠ some c.key then (Code.invalidArgument, s)
  else s.lifeChange b fun f => { setDigests f 0 l with lifeCycle := 1 }

def addKeyRun (b : Burn) (c : SignedCmd) (s : State) : Nat × State :=
  if c.args.length ≠ 64 then (Code.invalidArgument, s)
  else match (List.range 4).find? fun k => !s.slotBurned k with
    | none => (Code.notPermitted, s)
    | some k => s.burnFuse b fun f => setDigest f k (BitVec.ofNat 512 (ofBytes c.args))

def revokeRun (b : Burn) (c : SignedCmd) (s : State) : Nat × State :=
  let k := ofBytes c.args
  if c.args.length ≠ 1 ∨ s.slotBurned k = false then (Code.invalidArgument, s)
  else if k = c.slot ∨ (s.usableSlots.filter (· != k)) = [] then (Code.notPermitted, s)
  else s.burnFuse b fun f => { f with revoked := f.revoked ||| BitVec.ofNat 4 (2 ^ k) }

/-- ADVANCE (Table 15.9): the next state, or SCRAPPED when the argument is 1. In PROVISIONED and
DEPLOYED Xoelo's key signs SCRAPPED alone. -/
def advanceRun (b : Burn) (c : SignedCmd) (s : State) : Nat × State :=
  let n := ofBytes c.args
  let state := if n = 1 then 4 else s.fuses.lifeCycle + 1
  if 4 < c.args.length ∨ 1 < n then (Code.invalidArgument, s)
  else if state ≠ 4 ∧ s.ownerSigned c = false then (Code.badSignature, s)
  else s.lifeChange b fun f => { f with lifeCycle := state }

/-- The security version of the valid acorn. -/
def State.acornVersion (s : State) : Option Nat :=
  let d := s.flash.desc
  if d.valid && d.acornValid then some (ofBytes ((s.flash.acorn.drop 18).take 2)) else none

/-- RAISE_FLOOR (R446). -/
def raiseRun (b : Burn) (c : SignedCmd) (s : State) : Nat × State :=
  let v := ofBytes (c.args.take 4)
  let force := (c.args.getD 4 0).getLsbD 0
  if c.args.length ≠ 5 ∨ v ≤ s.fuses.floor then (Code.invalidArgument, s)
  else if s.fuses.floor = 255 then
    (Code.floorExhausted, s.logEvent .trustCmd (.unit .husk) Code.floorExhausted c.code)
  else if !force && (match s.acornVersion with | some a => decide (a < v) | none => false) then
    (Code.rollback, s)
  else s.burnFuse b fun f => { f with floor := min v 255 }

def passwordRun (c : SignedCmd) (s : State) : Nat × State :=
  if c.args.length ≠ 64 then (Code.invalidArgument, s)
  else (0, { s with flash := { s.flash with password := BitVec.ofNat 512 (ofBytes c.args) } })

/-- TAMPER_ACK (R451): a count that covers the current one resumes a held boot, and LOAD_WAIT
starts from then. -/
def ackRun (c : SignedCmd) (s : State) : Nat × State :=
  if c.args.length ≠ 2 then (Code.invalidArgument, s)
  else
    let s := { s with flash := { s.flash with ack := ofBytes c.args, ackKey := c.slot } }
    if s.trust.hold && !s.unacked then
      let run := s.fld F.PCI_LDR_CFG_load_wait_ms != 0 && s.mode == Mode.boot
      (0, { s with
        trust := { s.trust with hold := false }
        dev := { s.dev with loadWait := run, waitFrom := s.tim.uptime } })
    else (0, s)

/-! ## Husk commands (R448 to R450, Table 15.13) -/

def State.cmdStatus (s : State) (status : Nat) : State := s.setFld F.PCI_CMD_status status

/-- A write of PCI_CMD with go set (R449). -/
def cmdGo (w : Word) (s : State) : State :=
  if s.bit F.PCI_CMD_busy then s.refuse F.PCI_STATUS_last_status Code.notPermitted
  else
    let code := bitsOf w 16 8
    let s := s.setFld F.PCI_CMD_code code
    if code = 0 ∨ 6 < code then (s.cmdStatus Code.unsupported).ack
    else if 16384 < s.fld F.PCI_CMD_LEN_in_len then (s.cmdStatus Code.invalidArgument).ack
    else (s.setBit F.PCI_CMD_busy true).ack

def State.bufferBytes (s : State) (n : Nat) : List Byte :=
  (List.range n).map fun i => Table.get zeroByte s.trust.buffer i

def fillBuffer (t : Table Byte) : Nat → List Byte → Table Byte
  | _, [] => t
  | o, b :: l => fillBuffer (Table.set zeroByte t o b) (o + 1) l

def State.setBuffer (s : State) (o : Nat) (bytes : List Byte) : State :=
  { s with trust := { s.trust with buffer := fillBuffer s.trust.buffer o bytes } }

/-- A husk command runs, from PCI_CMD or over the monitor's transports. Only attestation is served
in SCRAPPED (R436); while a core takes over or restarts the command waits (R465). -/
def State.huskRun (s : State) (code : Nat) (input : Option (MonVia × List Byte))
    (run : List Byte → State → Nat × List Byte × State) : State :=
  let go (b : List Byte) (s : State) : Nat × List Byte × State :=
    if s.fuses.lifeCycle = 4 ∧ 2 < code then (Code.notPermitted, [], s) else run b s
  if s.husk.takeover || s.husk.restart then s
  else match input with
  | none =>
    if s.bit F.PCI_CMD_busy && s.fld F.PCI_CMD_code == code then
      let r := go (s.bufferBytes (s.fld F.PCI_CMD_LEN_in_len)) s
      let s := (r.2.2.setBuffer 0 r.2.1).setFld F.PCI_CMD_LEN_out_len r.2.1.length
      (s.cmdStatus r.1).setBit F.PCI_CMD_busy false
    else s
  | some (via, b) =>
    if s.monOpen via then let r := go b s; r.2.2.monReply via code r.1 r.2.1 else s

def identityDigest : BitVec 512 := sha3 Config.identityKey

def gradeByte : Nat := 0x10 + if Config.grade2 then 2 else 1

/-- Debug is open by state or by a session (PCI_TRUST.debug_open). -/
def State.debugOpen (s : State) : Bool := decide (s.fuses.lifeCycle ≤ 1) || s.sessionOpen

/-- The report of Table 15.12, 512 bytes. -/
def State.report (s : State) (nonce : List Byte) : List Byte :=
  let f := s.fuses
  let d := s.flash.desc
  let acorn := d.valid && d.acornValid
  let l := s.flash.acorn
  let d512 (x : BitVec 512) : List Byte := toBytes 64 x.toNat
  toBytes 4 0x39545441 ++ toBytes 2 1 ++ toBytes 1 f.lifeCycle ++
    toBytes 1 (b2n s.sessionOpen + 2 * b2n (s.bit F.DEV_MODE_on_acorn) + 4 * b2n f.tamperLock + 8 * b2n s.unacked) ++
    toBytes 4 (s.reg R.DEV_ID).toNat ++ toBytes 1 gradeByte ++
    toBytes 1 ((s.burnedSlots.foldl (fun n k => n + 2 ^ k) 0) + 16 * f.revoked.toNat) ++
    toBytes 2 f.floor ++ toBytes 2 f.tamperCount ++ toBytes 2 s.trust.class1 ++ toBytes 8 s.now ++
    toBytes 4 (s.reg R.DEV_MODE).toNat ++
    (s.trust.build ++ List.replicate 32 0).take 32 ++ nonce ++ d512 s.trust.firmware ++ d512 s.trust.live ++
    d512 (if acorn then sha3 (l.take (l.length - 4628)) else 0) ++ d512 s.flash.policy.digest ++
    d512 s.trust.chain ++ d512 identityDigest

/-- ATTEST (R448). -/
def attestRun (b : List Byte) (s : State) : Nat × List Byte × State :=
  if b.length ≠ 64 then (Code.invalidArgument, [], s)
  else
    let r := s.report b
    let sig := Config.mlDsaSign 0 (toBytes 64 (sha3 r).toNat)
    (0, r ++ (sig ++ List.replicate 4627 0).take 4627, s)

def certRun (_ : List Byte) (s : State) : Nat × List Byte × State := (0, Config.certificate, s)

/-- UNLOCK_CHALLENGE: the nonce comes from the TRNG, and its bytes are free values. -/
def challengeRun (_ : List Byte) (s : State) : Nat × List Byte × State :=
  let r := s.freeBytes 64
  (0, r.1, { r.2 with trust := { r.2.trust with nonce := some (r.1, r.2.now) } })

/-- The wait after the `n`th consecutive failure has not passed (R450). -/
def State.backingOff (s : State) : Bool :=
  let n := s.flash.failures
  match s.trust.failAt with
  | some t => decide (4 ≤ n) && decide (s.now < t + min (2 ^ (n - 4)) 1024 * 1000000000)
  | none => false

def State.setFailures (s : State) (n : Nat) : State :=
  ({ s with flash := { s.flash with failures := n } }).setFld F.PCI_UNLOCK_failures n

/-- A failed unlock (R450); the 64th in a row is a class-2 tamper. -/
def State.unlockFail (s : State) : Nat × List Byte × State :=
  let n := min 127 (s.flash.failures + 1)
  let s := { s with trust := { s.trust with failAt := some s.now, class2 := s.trust.class2 || n == 64 } }
  (Code.debugLocked, [], s.setFailures n)

/-- An unlock that succeeds opens the session (R449, R450). -/
def State.unlockDone (s : State) (scope seconds : Nat) : Nat × List Byte × State :=
  (0, [], (s.setFailures 0).openSession scope (some (s.now + seconds * 1000000000)))

/-- What every unlock attempt is held against first: the life-cycle state, then the back-off. -/
def State.unlockGuard (s : State) (go : State → Nat × List Byte × State) : Nat × List Byte × State :=
  if s.fuses.lifeCycle ≠ 2 ∧ s.fuses.lifeCycle ≠ 3 then (Code.notPermitted, [], s)
  else if s.backingOff then (Code.unlockBackoff, [], s)
  else go s

/-- The key of a response is permitted (Table 15.9). -/
def State.unlockKey (s : State) (slot : Nat) (key : List Byte) : Bool :=
  let d := sha3 key
  if s.fuses.lifeCycle = 3 then slot == 0xFF && d == Config.xoeloDigest 6
  else s.slotUsable slot && d == s.ownerDigest slot

/-- UNLOCK_RESPONSE: the nonce is the latest issued, at most 60 s old and not used before. -/
def responseGo (b : List Byte) (s : State) : Nat × List Byte × State :=
  let seconds := ofBytes ((b.drop 1).take 4)
  let scope := ofBytes ((b.drop 5).take 4)
  if b.length ≠ 7228 ∨ seconds = 0 ∨ 86400 < seconds ∨ 63 < scope then (Code.invalidArgument, [], s)
  else
    let key := (b.drop 9).take 2592
    let good := match s.trust.nonce with
      | some (n, t) =>
        decide (s.now ≤ t + 60000000000) && s.unlockKey (ofBytes (b.take 1)) key &&
          Config.mlDsaVerify key
            (toBytes 64 (sha3 (n ++ toBytes 64 identityDigest.toNat ++ (b.drop 1).take 8)).toNat)
            ((b.drop 2601).take 4627)
      | none => false
    let s := { s with trust := { s.trust with nonce := none } }
    if good then s.unlockDone scope seconds else s.unlockFail

def responseRun (b : List Byte) (s : State) : Nat × List Byte × State := s.unlockGuard (responseGo b)

/-- UNLOCK_PASSWORD: in RETURNED, and with password unlock disabled, it fails. -/
def passwordGo (b : List Byte) (s : State) : Nat × List Byte × State :=
  if b.isEmpty ∨ 64 < b.length then (Code.invalidArgument, [], s)
  else if s.fuses.lifeCycle = 2 ∧ s.flash.password ≠ 0 ∧ sha3 b = s.flash.password then
    s.unlockDone 63 s.flash.policy.password
  else s.unlockFail

def unlockPasswordRun (b : List Byte) (s : State) : Nat × List Byte × State := s.unlockGuard (passwordGo b)

/-- LOCK (R449, R474). -/
def lockRun (_ : List Byte) (s : State) : Nat × List Byte × State :=
  (0, [], if s.sessionOpen then s.endSession else s)

/-! ## Tamper (R451) -/

/-- An event at a glitch detector: the third within 1 s is a class-2 tamper. -/
def glitch (s : State) : State :=
  if s.mode = Mode.off then s
  else
    let l := (s.trust.glitches.filter fun t => decide (s.now < t + 1000000000)) ++ [s.now]
    { s with trust := { s.trust with glitches := l, class2 := s.trust.class2 || decide (3 ≤ l.length) } }

/-! ## Meanings -/

/-- R445, R447. -/
def execProvision (b : Burn) (s : State) : Out :=
  .next (s.signedRun 1 [0] (fun c => c.slot == 0xFE) (provisionRun b))
/-- R447. -/
def execAddKey (b : Burn) (s : State) : Out :=
  .next (s.signedRun 2 [1, 2] s.ownerSigned (addKeyRun b))
/-- R447. -/
def execRevokeKey (b : Burn) (s : State) : Out :=
  .next (s.signedRun 3 [1, 2] s.ownerSigned (revokeRun b))
/-- R444, R445, R447. -/
def execAdvance (b : Burn) (s : State) : Out :=
  .next (s.signedRun 4 [1, 2, 3] (fun _ => true) (advanceRun b))
/-- R446, R447. -/
def execRaiseFloor (b : Burn) (s : State) : Out :=
  .next (s.signedRun 5 [1, 2] s.ownerSigned (raiseRun b))
/-- R447. -/
def execSetPassword (s : State) : Out := .next (s.signedRun 6 [1, 2] s.ownerSigned passwordRun)
/-- R447, R451. -/
def execTamperAck (s : State) : Out := .next (s.signedRun 7 [0, 1, 2, 3] s.ownerSigned ackRun)
/-- R444, R447. -/
def execTamperLock (b : Burn) (s : State) : Out :=
  .next (s.signedRun 8 [1, 2] s.ownerSigned fun _ s => s.burnFuse b fun f => { f with tamperLock := true })
/-- R449. -/
def execPciCmdGo (_m : Master) (w : Word) (s : State) : Out := .next (cmdGo w s)
/-- R448. -/
def execAttest (input : Option (MonVia × List Byte)) (s : State) : Out := .next (s.huskRun 1 input attestRun)
/-- R448. -/
def execIdentityCert (input : Option (MonVia × List Byte)) (s : State) : Out :=
  .next (s.huskRun 2 input certRun)
/-- R449. -/
def execUnlockChallenge (input : Option (MonVia × List Byte)) (s : State) : Out :=
  .next (s.huskRun 3 input challengeRun)
/-- R449, R450, R477. -/
def execUnlockResponse (input : Option (MonVia × List Byte)) (s : State) : Out :=
  .next (s.huskRun 4 input responseRun)
/-- R449, R450. -/
def execUnlockPassword (input : Option (MonVia × List Byte)) (s : State) : Out :=
  .next (s.huskRun 5 input unlockPasswordRun)
/-- R449, R474. -/
def execDebugLock (input : Option (MonVia × List Byte)) (s : State) : Out := .next (s.huskRun 6 input lockRun)
/-- R451. -/
def execTamperClass1 (detail : BitVec 48) (s : State) : Out := .next (s.tamper1 detail.toNat)
/-- R451. -/
def execGlitchEvent (s : State) : Out := .next (glitch s)

end Sys2Proof.Machine
end

