-- ==== Sys2Proof/Machine/Husk.lean ====
section
/-! DEFINITION. The husk's own service (chapter 16): fault records on their way, the error
collector, notifications and the event log, the repair policy, the management cores, and the
governor with surge and its wear ledger. -/

namespace Sys2Proof.Machine

/-! ## Fault records (R455, R510) -/

/-- The oldest record in an NI's buffer leaves, with a REPORT_LOST record for the events lost since.
Where the default entry to the collector is unusable, it is lost and counted. The transport of
records is not shown (notes/assumptions/50). -/
def recordSend (u : Master) (s : State) : State :=
  match Table.get noFaults s.faults u.key with
  | [] => s
  | r :: rs =>
    let s := { s with faults := Table.set noFaults s.faults u.key rs }
    let c := Unit.err.ni
    if !((s.route u.ni c).usable c) then
      let s := (s.niDiscard u.ni).satFld F.ERR_LOST_lost F.ERR_LOST_overflow
      { s with faultLost := Table.modify zeroNat s.faultLost u.key (· + 1) }
    else
      let n := Table.get zeroNat s.faultLost u.key
      let lost : List FaultRec := if n = 0 then [] else [{
        reporter := u, subject := .unit u, cls := .reportLost, severity := FaultClass.reportLost.severity
        count := 1, status := 0, detail := BitVec.ofNat 48 (n % 2 ^ 32), time := s.now32 }]
      { s with
        err := { s.err with arriving := s.err.arriving ++ r :: lost }
        faultLost := Table.set zeroNat s.faultLost u.key 0 }

/-! ## The collector (R456, R457, R459) -/

/-- The extended time of a record. -/
def State.recordTime (s : State) (t : Word) : Nat := if s.classOf t == .reached then s.extend t else s.now

/-- The key of a fault: its subject and its class. -/
def faultKey (subject : Subject) (cls : FaultClass) : Nat := subject.key * 256 + cls.code

def ErrEntry.key (e : ErrEntry) : Nat := faultKey e.subject e.cls

/-- The index of the entry with a key. -/
def findKey (k : Nat) : List (Nat × Option ErrEntry) → Option Nat
  | [] => none
  | (i, some e) :: l => if e.key = k then some i else findKey k l
  | _ :: l => findKey k l

/-- The RESOLVED entry whose last time is the oldest. -/
def oldestResolved : List (Nat × Option ErrEntry) → Option (Nat × Nat)
  | [] => none
  | (i, some e) :: l =>
    match oldestResolved l with
    | some (j, t) => if e.resolved && decide (e.last ≤ t) then some (i, e.last) else some (j, t)
    | none => if e.resolved then some (i, e.last) else none
  | _ :: l => oldestResolved l

/-- The place of a new entry: the lowest free one, or that of an evicted entry. -/
def State.errPlace (s : State) : Option Nat :=
  match (List.range 512).find? fun i => (s.errEntry i).isNone with
  | some i => some i
  | none => (oldestResolved s.err.entries).map (·.1)

/-- A record that finds no place is counted for its class (R459). -/
def State.summarise (s : State) (r : FaultRec) : State :=
  let k := r.cls.code
  let s := (s.satFld (F.ERR_CLASS_summarised k) (F.ERR_CLASS_overflow k) r.count).setBit F.ERR_STATUS_summarising true
  if s.err.summaryDue.contains k then s
  else { s with err := { s.err with summaryDue := s.err.summaryDue ++ [k] } }

/-- The count of an entry after `n` more events. -/
def ErrEntry.addCount (e : ErrEntry) (n : Nat) : ErrEntry :=
  if e.count + n < 2 ^ 31 then { e with count := e.count + n }
  else { e with count := 2 ^ 31 - 1, overflow := true }

/-- A record is taken into the table. -/
def State.takeRecord (s : State) (r : FaultRec) : State :=
  let t := s.recordTime r.time
  match findKey (faultKey r.subject r.cls) s.err.entries with
  | some i =>
    match s.errEntry i with
    | some e => s.setEntry i (some { e.addCount r.count with
        last := t, severity := max e.severity r.severity, resolved := false, notify := true })
    | none => s
  | none =>
    match s.errPlace with
    | some i => s.setEntry i (some {
        subject := r.subject, cls := r.cls, reporter := r.reporter, status := r.status, detail := r.detail
        first := t, last := t, count := r.count, severity := r.severity, notify := true })
    | none => s.summarise r

/-! ## Confirming faults (R122, R153, R221, R402, R462, R463) -/

/-- A knob of Table 16.4 in force. -/
def State.knob (s : State) (i : Nat) : Nat := (s.reg (R.ERR_POLICY i)).toNat

def noHistory (_ : Nat) : List Nat := []

def State.history (s : State) (k : Nat) : List Nat := Table.get noHistory s.err.history k

def State.setHistory (s : State) (k : Nat) (l : List Nat) : State :=
  { s with err := { s.err with history := Table.set noHistory s.err.history k l } }

/-- The bit of auto_mask for a substitution. -/
def Fix.kind : Fix → Nat
  | .fabric (.tile _ _) => 0
  | .fabric (.slice _ _ _) => 1
  | .fabric (.memory _ _ _) => 2
  | .engine _ => 3
  | .link _ _ => 4
  | .page _ => 5
  | .rank _ _ => 6

/-- What ERR_REPAIR_PEND.index shows of a substitution. -/
def State.fixIndex (s : State) : Fix → Nat
  | .fabric f => f.region
  | .engine n => n.val
  | .link r _ => r.val
  | .page p => (s.linePlace (p.toNat * 4096)).1.mc
  | .rank mc _ => mc.val

/-- Whether a substitution stalls a pod that pod_exclude names. -/
def State.fixExcluded (s : State) : Fix → Bool
  | .fabric f => (s.podPair (s.podOf f.region)).any fun p => bitAt (s.knob 1 + 2 ^ 32 * (s.knob 2 % 2 ^ 16)) p
  | _ => false

def noFix (_ : Nat) : Option Fix := none

def State.deferredAt (s : State) (j : Nat) : Option Fix := Table.get noFix s.err.deferred j

/-- The place of a deferred fault is taken or freed, and ERR_REPAIR_PEND shows it. -/
def State.setDeferred (s : State) (j : Nat) (f : Option Fix) (subject : Nat) : State :=
  let s := { s with err := { s.err with deferred := Table.set noFix s.err.deferred j f } }
  s.setReg (R.ERR_REPAIR_PEND j) (match f with
    | some x => BitVec.ofNat 32 (2 ^ 31 + x.kind * 2 ^ 28 + subject % 1024 * 2 ^ 16 + s.fixIndex x % 2 ^ 16)
    | none => 0)

/-- A deferred fault is reported and takes the first free of the 16 places (R463). -/
def State.defer (s : State) (f : Fix) (subject : Subject) : State :=
  let s := s.fault .husk .repair subject Code.repairDeferred (s.fixIndex f)
  match (List.range 16).find? fun j => (s.deferredAt j).isNone with
  | some j => s.setDeferred j (some f) subject.number
  | none => s

/-- A fault is confirmed: its substitution is to be opened, or is deferred. -/
def State.confirm (s : State) (f : Fix) (subject : Subject) (cls : FaultClass) : State :=
  if (s.err.confirmed.any fun c => c.1 == f) || (s.err.deferred.any fun e => e.2 == some f) then s
  else if !bitAt (s.knob 0) f.kind || s.fixExcluded f then s.defer f subject
  else { s with err := { s.err with confirmed := s.err.confirmed ++ [(f, faultKey subject cls)] } }

/-- An event at a site: with `need` of them within `window` ns the fault is confirmed. -/
def State.countSite (s : State) (site need window : Nat) (t : Nat) (f : Fix) (r : FaultRec) : State :=
  let l := ((s.history site).filter fun x => decide (t < x + window)) ++ [t]
  if need ≤ l.length then (s.setHistory site []).confirm f r.subject r.cls else s.setHistory site l

/-- Events at a site, whenever they came. -/
def State.countEver (s : State) (site need : Nat) (f : Fix) (r : FaultRec) : State :=
  let n := (s.history site).length + 1
  if need ≤ n then (s.setHistory site []).confirm f r.subject r.cls
  else s.setHistory site (List.replicate n 0)

/-- A correction in one more lap: `need` consecutive laps confirm the fault. -/
def State.countLap (s : State) (site need lap : Nat) (f : Fix) (r : FaultRec) : State :=
  let l := s.history site
  if l.getLast? = some lap then s
  else
    let l := if l.getLast? = some (lap - 1) then l ++ [lap] else [lap]
    if need ≤ l.length then (s.setHistory site []).confirm f r.subject r.cls else s.setHistory site l

/-- The substitution for a recurring fault of a frame (Tables 3.2 and 3.8). -/
def frameFix (region major minor : Nat) : Option Fix :=
  let r := Fin.ofNat 96 region
  if major < 64 then some (.fabric (.tile r (Fin.ofNat 64 major)))
  else if major < 66 then some (.fabric (.slice r (Fin.ofNat 2 (major - 64)) (Fin.ofNat 64 minor)))
  else if major < 72 then some (.fabric (.memory r (Fin.ofNat 6 (major - 66)) (Fin.ofNat 64 minor)))
  else none

/-- The block memory fix of a word's key. -/
def bramFix (k : Nat) : Fix :=
  .fabric (.memory (Fin.ofNat 96 (k / 1024 / 384)) (Fin.ofNat 6 (k / 1024 % 384 / 64)) (Fin.ofNat 64 (k / 1024)))

def hours (n : Nat) : Nat := n * 3600000000000

/-- The sites of the husk's histories, apart for each kind of event. -/
def siteOf (kind n : Nat) : Nat := n * 16 + kind

/-- Corrections and failures of DRAM: pages and ranks. -/
def State.dramConfirm (s : State) (r : FaultRec) (t : Nat) : State :=
  let a := r.detail.toNat / 64 * 64
  let page : Fix := .page (BitVec.ofNat 36 (a / 4096))
  if r.cls = .dramUe then (if s.bit F.MP_RETIRE_POLICY_ue_retire then s.confirm page r.subject r.cls else s)
  else
    let l := (s.linePlace a).1
    let rank := s.servingRank l
    let dev := r.detail.toNat % 64
    let s := s.countSite (siteOf 6 ((l.i * 8 + rank) * 64 + dev)) (s.knob 9) (hours (s.knob 10)) t
      (.rank (Fin.ofNat 8 l.mc) (Fin.ofNat 8 rank)) r
    let n := s.fld F.MP_RETIRE_POLICY_ce_count
    if n = 0 then s
    else s.countSite (siteOf 7 (a / 4096)) n (hours (s.fld F.MP_RETIRE_POLICY_ce_window_h)) t page r

/-- FAULT_CONFIRM: what a record counts towards. -/
def State.faultConfirm (s : State) (r : FaultRec) : State :=
  let t := s.recordTime r.time
  let d := r.detail.toNat
  match r.cls with
  | .cfgCe | .cfgUe =>
    let region := d / 8192
    let major := d % 8192 / 64
    match frameFix region major (d % 64) with
    | none => s
    | some f =>
      if r.cls = .cfgUe then s.countEver (siteOf 1 d) (s.knob 4) f r
      else
        let site := if major < 64 then siteOf 2 (region * 64 + major) else siteOf 3 d
        s.countLap site (s.knob 3) (s.fld (F.CFG_SCRUB_COUNT_laps (region / 48))) f r
  | .bramCe => s.countSite (siteOf 4 d) (s.knob 7) (hours (s.knob 8)) t (bramFix d) r
  | .bramUe => s.countEver (siteOf 5 d) 2 (bramFix d) r
  | .engCe => s.countSite (siteOf 8 d) (s.knob 7) (hours (s.knob 8)) t (.engine (Fin.ofNat 1024 (d / 32768))) r
  | .engUe => s.countEver (siteOf 9 d) 2 (.engine (Fin.ofNat 1024 (d / 32768))) r
  | .engRes =>
    s.countSite (siteOf 10 (d / 8192)) (s.knob 5) (s.knob 6 * 1000000) t (.engine (Fin.ofNat 1024 (d / 8192))) r
  | .linkMarginal | .linkDown =>
    match r.subject with
    | .router x => s.confirm (.link (Fin.ofNat 192 x.toNat) (Fin.ofNat 4 (d % 4))) r.subject r.cls
    | _ => s
  | .dramCe | .dramUe => s.dramConfirm r t
  | _ => s

/-- The collector takes a record. -/
def collectorTake (s : State) : State :=
  match s.err.arriving with
  | [] => s
  | r :: rs => (({ s with err := { s.err with arriving := rs } }).takeRecord r).faultConfirm r

/-! ## Notifications and the event log (R458, R461) -/

def millis (t : Nat) : Nat := t / 1000000

/-- Entries of 32 bytes that the 9 MiB of the event log hold. -/
def logSize : Nat := 294912

/-- An entry is written to the log, over the oldest in a full ring. -/
def appendLog (l : List ErrEntry) (e : ErrEntry) : List ErrEntry :=
  (if logSize ≤ l.length then l.drop 1 else l) ++ [e]

/-- A notification goes out: to the husk firmware, PF0 vector 2, the doorbell and the log. -/
def State.sendNotice (s : State) (e : ErrEntry) : State :=
  let s := { s with err := { s.err with notified := s.err.notified ++ [e] } }
  let s := s.sendMsix 0 2
  let s := if s.bit F.ERR_NOTIFY_mbx_en then s.ringBell (s.fld F.ERR_NOTIFY_mailbox) (s.fld F.ERR_NOTIFY_bell) else s
  if s.fld F.ERR_CFG_log_min ≤ e.severity then
    { s with err := { s.err with log := appendLog s.err.log e } }
  else s

/-- An entry for whose change a notification may go out in this millisecond. -/
def dueEntry (ms : Nat) : List (Nat × Option ErrEntry) → Option (Nat × ErrEntry)
  | [] => none
  | (i, some e) :: l => if e.notify && e.notifiedMs != some ms then some (i, e) else dueEntry ms l
  | _ :: l => dueEntry ms l

def noMs (_ : Nat) : Option Nat := none

/-- The ERR_SUMMARY notification of a class (R459). -/
def State.summaryNotice (s : State) (k : Nat) : State :=
  let ms := millis s.now
  let s := { s with err := { s.err with
    summaryDue := s.err.summaryDue.filter (· != k), summaryMs := Table.set noMs s.err.summaryMs k (some ms) } }
  if s.fld F.ERR_CFG_notify_min ≤ FaultClass.errSummary.severity then
    s.sendNotice {
      subject := .unit Unit.err, cls := .errSummary, reporter := Unit.err, status := 0, detail := BitVec.ofNat 48 k
      first := s.now, last := s.now, count := 1, severity := FaultClass.errSummary.severity }
  else s

/-- The next notification that is due. -/
def notice (s : State) : State :=
  let ms := millis s.now
  match dueEntry ms s.err.entries with
  | some (i, e) =>
    if s.fld F.ERR_CFG_notify_min ≤ e.severity then
      (s.setEntry i (some { e with notify := false, notifiedMs := some ms })).sendNotice e
    else s.setEntry i (some { e with notify := false })
  | none =>
    match s.err.summaryDue.find? fun k => Table.get noMs s.err.summaryMs k != some ms with
    | some k => s.summaryNotice k
    | none => s

/-! ## Resolution (R460) -/

def State.resolveAll (s : State) : List (Nat × Option ErrEntry) → State
  | [] => s
  | (i, some e) :: l => (if e.severity < 4 then s.resolveEntry i else s).resolveAll l
  | _ :: l => s.resolveAll l

/-- A write of ERR_ACK. -/
def ackErr (w : Word) (s : State) : State :=
  if w.getLsbD 30 then (s.resolveAll s.err.entries).ack
  else if w.getLsbD 31 then
    let i := bitsOf w 0 9
    if (s.errEntry i).isNone then s.refuse F.ERR_STATUS_last_status Code.invalidArgument
    else (s.resolveEntry i).ack
  else s.ack

/-- An entry below ERROR has had no record for quiet_s seconds. -/
def quiet (i : Nat) (s : State) : State :=
  match s.errEntry i with
  | some e =>
    let q := s.fld F.ERR_CFG_quiet_s
    if q ≠ 0 ∧ e.severity < 3 ∧ e.resolved = false ∧ e.last + q * 1000000000 ≤ s.now then s.resolveEntry i else s
  | none => s

/-! ## Opening substitutions (R121, R153, R221, R379, R403, R463) -/

/-- A cluster's spare slot is in use or unusable. -/
def State.spareGone (s : State) (c : Nat) : Bool :=
  let x := s.spare c
  x.bad || x.sub.isSome || (List.range 8).any fun j => s.bit (F.ENG_MAP_moved (c * 8 + j))

/-- The substitution of an engine opens (R153, R155): it waits while the engine is frozen. -/
def engineOpen (n : Fin 1024) (s : State) : Nat × State :=
  if s.spareGone (n.val / 8) then
    (Code.noSpare, s.fault .husk .repair (.unit (engUnit n.val)) Code.noSpare n.val)
  else if s.engState n.val = EngState.halted then (Code.notPermitted, s)
  else (0, (s.setSpare (n.val / 8) { sub := some n }).openSub)

/-- The husk begins to compute routes that avoid a link (R221). -/
def linkOpen (r d : Nat) (s : State) : Nat × State :=
  if s.err.links.any fun l => l.1 == r && l.2.1 == d then (0, s)
  else (0, ({ s with err := { s.err with links := s.err.links ++ [(r, d, 0)] } }).openSub)

/-- A substitution opens under its own rules: the status of the attempt (ERR_REPAIR_CTRL.status). -/
def openFix (f : Fix) (s : State) : Nat × State :=
  if !inService s.mode then (Code.notPermitted, s)
  else match f with
    | .fabric x =>
      (if !s.bit (F.CFG_POD_STATE_spare_aware (s.podOf x.region)) || s.spareSpent x then Code.noSpare else 0, subOpen x s)
    | .engine n => engineOpen n s
    | .link r d => linkOpen r.val d.val s
    | .page p => (if 1024 ≤ s.dram.retired.length then Code.noSpare else 0, retireOpen p.toNat s)
    | .rank mc k =>
      let used := s.bit (F.MC_SPARE_used mc.val) || !s.bit F.MCG_MAP_spare_en
      let w := BitVec.ofNat 32 (2 ^ 31 + k.val * 2 ^ 24 + s.fld (F.MC_SPARE_copy_mbs mc.val))
      (if used then Code.noSpare else 0, { spareGo .husk mc.val w s with response := s.response })

/-- A write of ERR_REPAIR_CTRL (R463). -/
def repairCtrl (w : Word) (s : State) : State :=
  let go := w.getLsbD 31
  let drop := w.getLsbD 30
  let j := bitsOf w 16 4
  if !go && !drop then s.ack
  else match s.deferredAt j with
    | none => (s.setFld F.ERR_REPAIR_CTRL_status Code.invalidArgument).ack
    | some f =>
      if go && drop then (s.setFld F.ERR_REPAIR_CTRL_status Code.invalidArgument).ack
      else
        let s := s.setDeferred j none 0
        if drop then (s.setFld F.ERR_REPAIR_CTRL_status 0).ack
        else
          let r := openFix f s
          (r.2.setFld F.ERR_REPAIR_CTRL_status r.1).ack

/-! ## Management cores (R464 to R467) -/

/-! States of the standby (ERR_HUSK.standby). -/
namespace Standby
def absent : Nat := 0
def booting : Nat := 1
def syncing : Nat := 2
def ready : Nat := 3
end Standby

def State.standby (s : State) : Nat := s.fld F.ERR_HUSK_standby
def State.setStandby (s : State) (x : Nat) : State := s.setFld F.ERR_HUSK_standby x

def State.setHusk (s : State) (h : Husk) : State := { s with husk := h }

/-- The firmware in a slot of the flash. -/
def State.fwSlot (s : State) (k : Nat) : FwSlot := if k = 0 then s.flash.fw0 else s.flash.fw1

/-- The active core runs the firmware of a slot. -/
def State.runSlot (s : State) (k : Nat) : State :=
  { s with trust := { s.trust with slot := k, firmware := (s.fwSlot k).digest } }

/-- The roles of the cores swap. -/
def State.swapCores (s : State) : State :=
  (s.setBit F.ERR_HUSK_active_core (!s.bit F.ERR_HUSK_active_core)).incFld F.ERR_HUSK_handovers

/-- Firmware that is not confirmed gives way to the old firmware (R467). -/
def State.revertFirmware (s : State) : State :=
  if s.bit F.ERR_HUSK_confirming then
    let k := s.trust.slot
    let s := (s.setBit F.ERR_HUSK_confirming false).runSlot (1 - k)
    s.fault .husk .handover (.unit .husk) 0 k
  else s

/-- Substitutions whose transaction is not decided are abandoned by a restart of both cores, and
confirmed again (R466). -/
def State.abandonOpen (s : State) : State :=
  let decided (part : Master) : Bool := s.txu.txs.any fun e =>
    e.2.state == .committed && e.2.sub.any fun c => c.1.same part
  let again := s.err.confirmed
  let s := s.txu.txs.foldl (fun (s : State) e =>
    if !e.2.sub.isEmpty && e.2.undecided then s.txAbortWith e.1 Code.repairAbandoned else s) s
  let s := (List.range 48).foldl (fun (s : State) p => if decided Unit.cfg then s else s.subAbandon p false) s
  let s := (List.range 128).foldl (fun (s : State) c =>
    match (s.spare c).sub with
    | some n => if decided (engUnit n.val) || (s.spare c).applied then s else s.abandonMove c n.val false
    | none => s) s
  let s := (List.range 8).foldl (fun (s : State) mc =>
    if s.bit (F.MC_SPARE_busy mc) && !decided (Unit.mc mc 0) then s.spareAbandon mc else s) s
  let s := if decided Unit.mp then s
    else s.dram.retiring.foldl (fun (s : State) x => s.retireAbandon x.1) s
  let s := s.err.links.foldl (fun (s : State) l =>
    if l.2.2 = 0 then s.closeSub (.link (Fin.ofNat 192 l.1) (Fin.ofNat 4 l.2.1)) else s) s
  let s := { s with err := { s.err with links := s.err.links.filter fun l => l.2.2 != 0 } }
  { s with err := { s.err with confirmed := again } }

/-- Both cores restart from the active firmware slot (R466). -/
def restartCores (s : State) : State :=
  if s.standby = Standby.ready ∨ s.husk.restart = true then s
  else
    let core := s.fld F.ERR_HUSK_active_core
    let s := s.fault .husk .huskCore (.code (BitVec.ofNat 10 (966 + core)))
    let s := (s.setStandby Standby.absent).abandonOpen
    s.setHusk { s.husk with restart := true, takeover := false, handover := none }

/-- The active core fails: the standby takes over at once, or both cores restart (R465, R466). -/
def coreFails (s : State) : State :=
  if s.husk.takeover || s.husk.restart then s
  else if s.standby = Standby.ready then
    let core := s.fld F.ERR_HUSK_active_core
    let s := s.fault .husk .huskCore (.code (BitVec.ofNat 10 (966 + core)))
    (s.setStandby Standby.absent).setHusk { s.husk with takeover := true, handover := none }
  else restartCores s

/-- The takeover is complete; the failed core restarts as the new standby (R465, R467). -/
def takeoverGo (s : State) : State :=
  if s.husk.takeover then
    let s := (s.setHusk { s.husk with takeover := false }).swapCores
    (s.setStandby Standby.booting).revertFirmware
  else s

/-- The standby has started and has copied the husk state. -/
def standbyGo (s : State) : State :=
  if (s.standby = Standby.booting ∨ s.standby = Standby.syncing) ∧ s.husk.handover = none then
    s.setStandby Standby.ready
  else s

/-- Both cores have restarted; unconfirmed firmware is left (R436, R466). -/
def restartGo (s : State) : State :=
  if s.husk.restart then
    let s := (s.setHusk { s.husk with restart := false }).setStandby Standby.booting
    let s := s.setBit F.ERR_HUSK_confirming false
    s.runSlot s.flash.desc.slot
  else s

/-- A life-cycle command runs. -/
def State.lifeCycleRuns (s : State) : Bool :=
  s.trust.resetDue || (match s.loader.command with | some c => c.code == 1 || c.code == 4 | none => false)

/-- A write of ERR_HUSK_CTRL with handover set (R467). -/
def handoverGo (w : Word) (s : State) : State :=
  let toNew := w.getLsbD 30
  let s := s.setBit F.ERR_HUSK_CTRL_to_new toNew
  if !(inService s.mode || s.mode == Mode.dormant) then
    s.refuse F.ERR_HUSK_last_status Code.notPermitted
  else if s.standby ≠ Standby.ready ∨ s.lifeCycleRuns = true ∨ s.husk.takeover = true ∨ s.husk.handover ≠ none ∨
      (toNew = true ∧ (s.fwSlot (1 - s.trust.slot)).verified = false) then
    s.refuse F.ERR_HUSK_last_status Code.handoverRefused
  else
    let s := (s.setFld F.ERR_HUSK_last_status 0).setHusk { s.husk with handover := some toNew }
    (if toNew then s.setStandby Standby.booting else s).ack

/-- The standby has copied the state: the roles swap, unless the new firmware cannot read it. -/
def handoverSwap (readable : Bool) (s : State) : State :=
  match s.husk.handover with
  | none => s
  | some toNew =>
    let s := s.setHusk { s.husk with handover := none }
    if toNew && !readable then
      (s.setFld F.ERR_HUSK_last_status Code.handoverRefused).setStandby Standby.booting
    else
      let s := s.swapCores.setStandby Standby.ready
      if toNew then
        let s := (s.runSlot (1 - s.trust.slot)).setBit F.ERR_HUSK_confirming true
        s.setHusk { s.husk with servedFrom := s.now }
      else s

/-- New firmware has served for fw_confirm_s without a husk fault: its slot becomes the active one
in the boot descriptor, and the standby reloads from it (R436, R467). -/
def firmwareConfirmGo (s : State) : State :=
  if s.bit F.ERR_HUSK_confirming && !s.husk.takeover && !s.husk.restart &&
      decide (s.husk.servedFrom + s.flash.policy.fwConfirm * 1000000000 ≤ s.now) then
    let s := { s with flash := s.flash.rewriteDesc { s.flash.desc with slot := s.trust.slot } }
    (s.setBit F.ERR_HUSK_confirming false).setStandby Standby.booting
  else s

/-! ## The governor (R468 to R472) -/

/-! Governor states, end causes and refuse causes (ERR_GOV_STATUS). -/
namespace Gov
def nominal : Nat := 0
def entering : Nat := 1
def surge : Nat := 2
def leaving : Nat := 3
def endDuration : Nat := 1
def endCancel : Nat := 2
def endThermal : Nat := 3
def endCurrent : Nat := 4
def endPower : Nat := 5
def endLedger : Nat := 6
def endVeng : Nat := 7
def endMode : Nat := 8
end Gov

def State.govState (s : State) : Nat := s.fld F.ERR_GOV_STATUS_state
def State.setGov (s : State) (x : Nat) : State := s.setFld F.ERR_GOV_STATUS_state x

/-- The hottest sensor of die `d`, in 1/128 °C. -/
def State.dieTemp (s : State) (d : Nat) : Int := sextNat 16 (s.fld (F.ERR_GOV_TEMP_now d))

def State.anyDie (s : State) (p : Int → Bool) : Bool := [0, 1, 2].any fun d => p (s.dieTemp d)

def State.surgeRecord (s : State) (detail : Nat) : State := s.fault .husk .surge (.code 965) 0 detail

/-- The surge has ended: the ledger's copy in flash is what is left (R472). -/
def State.surgeOver (s : State) : State :=
  let s := (s.setGov Gov.nominal).surgeRecord (s.fld F.ERR_GOV_STATUS_end_cause)
  let s := s.setHusk { s.husk with surgeEnd := none, writing := false, charged := 0 }
  { s with flash := { s.flash with ledger := s.husk.ledger } }

def State.engMhz (s : State) : Nat := s.fld F.CLK_ENG_eng_mhz

/-- A surge leaves with the cause of the first condition that holds (R471). -/
def State.leave (s : State) (cause : Nat) : State :=
  if s.govState = Gov.entering ∨ s.govState = Gov.surge then
    let s := (s.setGov Gov.leaving).setFld F.ERR_GOV_STATUS_end_cause cause
    let s := s.setHusk { s.husk with writing := false }
    if s.husk.veng = 750 ∧ s.engMhz = 1600 then s.surgeOver else s
  else s

def setDie (s : State) (d : Nat) (t : BitVec 16) : State :=
  let s := s.setFld (F.ERR_GOV_TEMP_now d) t.toNat
  if !s.husk.sampled || decide (sextNat 16 (s.fld (F.ERR_GOV_TEMP_peak d)) < t.toInt) then
    s.setFld (F.ERR_GOV_TEMP_peak d) t.toNat
  else s

/-- The first die at a temperature. -/
def State.hotDie (s : State) : Nat :=
  if s.dieTemp 1 ≤ s.dieTemp 0 ∧ s.dieTemp 2 ≤ s.dieTemp 0 then 0
  else if s.dieTemp 2 ≤ s.dieTemp 1 then 1 else 2

/-- A TEMP_HIGH record once per second while a die is above 100 °C (R468). -/
def State.tempRecord (s : State) : State :=
  let sec := s.now / 1000000000
  if s.anyDie (fun t => decide (12800 < t)) && s.husk.hotAt != some sec then
    let s := s.setHusk { s.husk with hotAt := some sec }
    let d := s.hotDie
    s.fault .husk .tempHigh (.code (BitVec.ofNat 10 (962 + d))) 0 (s.fld (F.ERR_GOV_TEMP_now d))
      (s.anyDie fun t => decide (14080 < t))
  else s

/-- A junction outside −45 to +115 °C is a class-1 tamper, once for each excursion (R504). -/
def State.junction (s : State) : State :=
  let out := s.anyDie fun t => decide (14720 < t) || decide (t < -5760)
  let t := s.setHusk { s.husk with outside := out }
  if out && !s.husk.outside then t.tamper1 (512 + s.hotDie) else t

/-- The governor reads its sensors (R468, R471). -/
def govSample (g : GovSample) (s : State) : State :=
  let s := setDie (setDie (setDie s 0 g.west) 1 g.hub) 2 g.east
  let s := s.setHusk { s.husk with sampled := true }
  let s := ((s.setFld F.ERR_GOV_POWER_veng_mv g.mv.toNat).setFld F.ERR_GOV_POWER_veng_da g.amps.toNat).setFld
    F.ERR_GOV_POWER_pkg_w g.watts.toNat
  let s := s.tempRecord.junction
  let excess := decide (1200 < g.amps.toNat)
  let s := if excess then s.fault .husk .vengLimit (.code 965) 0 g.amps.toNat else s
  if s.anyDie fun t => decide ((13440 : Int) - 16 * s.knob 13 ≤ t) then s.leave Gov.endThermal
  else if excess then s.leave Gov.endCurrent
  else if s.knob 12 < g.watts.toNat then s.leave Gov.endPower
  else s

/-- Why a surge is refused (R469), or 0. -/
def State.surgeCause (s : State) : Nat :=
  if s.knob 11 = 0 then 1
  else if s.husk.ledger = 0 then 2
  else if s.anyDie fun t => decide (12800 < t) then 3
  else if !inService s.mode then 4
  else if s.govState ≠ Gov.nominal then 5
  else 0

/-- A surge is requested: it is refused, or entered by writing the ledger ahead (R469, R470). -/
def State.surgeAsk (s : State) : State :=
  let c := s.surgeCause
  let s := s.setFld F.ERR_GOV_STATUS_refuse_cause c
  if c ≠ 0 then s.setFld F.ERR_GOV_STATUS_last_status Code.notPermitted
  else
    let d := s.fld F.ERR_GOV_CTRL_duration_s
    let s := (s.setFld F.ERR_GOV_STATUS_last_status 0).setFld F.ERR_GOV_STATUS_end_cause 0
    let s := s.setHusk { s.husk with
      writing := true, charged := 0, surgeEnd := if d = 0 then none else some (s.now + d * 1000000000) }
    (s.setGov Gov.entering).surgeRecord 0

/-- A write of ERR_GOV_CTRL: cancel, then surge. -/
def govCtrl (w : Word) (s : State) : State :=
  let s := s.setFld F.ERR_GOV_CTRL_duration_s (bitsOf w 0 16)
  let s := if w.getLsbD 30 then s.leave Gov.endCancel else s
  (if w.getLsbD 31 then s.surgeAsk else s).ack

/-- The ledger has been written to flash less 60 s in advance (R470): the steps begin. -/
def ledgerWritten (s : State) : State :=
  if s.govState = Gov.entering ∧ s.husk.writing = true then
    let s := { s with flash := { s.flash with ledger := s.husk.ledger - 6000 } }
    s.setHusk { s.husk with writing := false, surgeAt := s.now }
  else s

/-- VENG moves by 10 mV (R470, R471). -/
def vengGo (confirmed : Bool) (s : State) : State :=
  let v := s.husk.veng
  if s.govState = Gov.entering ∧ s.husk.writing = false ∧ v < 820 then
    if confirmed then s.setHusk { s.husk with veng := v + 10 } else s.leave Gov.endVeng
  else if s.govState = Gov.leaving ∧ s.engMhz = 1600 ∧ 750 < v then
    let s := s.setHusk { s.husk with veng := v - 10 }
    if v ≤ 760 then s.surgeOver else s
  else s

/-- System PLL 2 steps the engine clock by 100 MHz (R470, R471, R492). -/
def clockGo (s : State) : State :=
  let f := s.engMhz
  if s.govState = Gov.entering ∧ s.husk.veng = 820 ∧ f < 1800 then
    let s := s.setFld F.CLK_ENG_eng_mhz (f + 100)
    if f + 100 = 1800 then s.setGov Gov.surge else s
  else if s.govState = Gov.leaving ∧ 1600 < f then
    let s := s.setFld F.CLK_ENG_eng_mhz (f - 100)
    if f - 100 = 1600 ∧ s.husk.veng = 750 then s.surgeOver else s
  else s

/-- An ending condition holds: the duration has passed, or the ledger holds 10 ms or less. -/
def surgeEnds (s : State) : State :=
  match s.husk.surgeEnd with
  | some t => if t ≤ s.now then s.leave Gov.endDuration
    else if s.husk.ledger ≤ 1 then s.leave Gov.endLedger else s
  | none => if s.husk.ledger ≤ 1 then s.leave Gov.endLedger else s

/-- Each started 10 ms from the first VENG step to the end charges one unit (R472). -/
def chargeGo (s : State) : State :=
  let h := s.husk
  if s.govState = Gov.nominal ∨ h.writing = true ∨ h.ledger = 0 ∨ (s.now - h.surgeAt) / 10000000 < h.charged then s
  else
    let n := h.ledger - 1
    let s := s.setHusk { h with ledger := n, charged := h.charged + 1 }
    let s := if n ≤ s.flash.ledger then { s with flash := { s.flash with ledger := n - 6000 } } else s
    let s := if n = 0 then s.fault .husk .wearSpent (.code 965) else s
    if n ≤ 1 then s.leave Gov.endLedger else s

/-! ## Meanings -/

/-- R121, R153, R155, R221, R379, R403. -/
def execSubstitutionOpen (fix : Fix) (s : State) : Out := .next (openFix fix s).2
/-- R452, R453, R455, R510. -/
def execFaultRecordSend (u : Master) (s : State) : Out := .next (recordSend u s)
/-- R456, R457, R459, R463. -/
def execCollectorRecord (s : State) : Out := .next (collectorTake s)
/-- R458, R459, R461. -/
def execNotification (s : State) : Out := .next (notice s)
/-- R460. -/
def execErrAck (_m : Master) (w : Word) (s : State) : Out := .next (ackErr w s)
/-- R460. -/
def execQuietResolve (index : Fin 512) (s : State) : Out := .next (quiet index.val s)
/-- R463. -/
def execRepairGo (_m : Master) (w : Word) (s : State) : Out := .next (repairCtrl (w ||| 0x80000000#32) s)
/-- R463. -/
def execRepairDrop (_m : Master) (w : Word) (s : State) : Out := .next (repairCtrl (w ||| 0x40000000#32) s)
/-- R464 to R466. -/
def execHuskWatchdogExpiry (s : State) : Out := .next (coreFails s)
/-- R464 to R466. -/
def execHeartbeatMissed (s : State) : Out := .next (coreFails s)
/-- R465, R467. -/
def execTakeoverDone (s : State) : Out := .next (takeoverGo s)
/-- R464, R465, R467. -/
def execStandbyReady (s : State) : Out := .next (standbyGo s)
/-- R466. -/
def execHuskRestart (s : State) : Out := .next (restartCores s)
/-- R466. -/
def execHuskRestartDone (s : State) : Out := .next (restartGo s)
/-- R467. -/
def execHandover (_m : Master) (w : Word) (s : State) : Out := .next (handoverGo w s)
/-- R467. -/
def execHandoverSwap (readable : Bool) (s : State) : Out := .next (handoverSwap readable s)
/-- R436, R467. -/
def execFirmwareConfirm (s : State) : Out := .next (firmwareConfirmGo s)
/-- R468, R471, R504. -/
def execGovernorSample (g : GovSample) (s : State) : Out := .next (govSample g s)
/-- R469, R470. -/
def execSurge (_m : Master) (w : Word) (s : State) : Out := .next (govCtrl (w ||| 0x80000000#32) s)
/-- R471. -/
def execSurgeCancel (_m : Master) (w : Word) (s : State) : Out := .next (govCtrl (w ||| 0x40000000#32) s)
/-- R470, R472. -/
def execLedgerFlashWriteDone (s : State) : Out := .next (ledgerWritten s)
/-- R470, R471. -/
def execVengStep (confirmed : Bool) (s : State) : Out := .next (vengGo confirmed s)
/-- R140, R470, R471, R492. -/
def execEngineClockStep (s : State) : Out := .next (clockGo s)
/-- R471, R472. -/
def execSurgeEnd (s : State) : Out := .next (surgeEnds s)
/-- R472. -/
def execLedgerCharge (s : State) : Out := .next (chargeGo s)

end Sys2Proof.Machine
end

