-- ==== Sys2Proof/Machine/Message.lean ====
section
/-! DEFINITION. Where an address lies (Table 1.2), and messages at their destination: message
areas, access points, transmit blocks and frames (R86, R213, R226, R227). -/

namespace Sys2Proof.Machine

/-! ## The address map (R17, R18, R20) -/

/-- What an address names: its row of Table 1.2 and the offset in it. -/
inductive Place where
  | dram (a : Nat)
  | spm (o : Nat)
  | engine (n o : Nat)
  | point (p o : Nat)
  | control (o : Nat)
  | unmapped
  deriving DecidableEq, Repr

/-- The row of Table 1.2 that holds an address (R17). -/
def placeOfAddr (a : Nat) : Place :=
  if a < 0x20000000000 then .dram a
  else if a < 0x20008000000 then .spm (a - 0x20000000000)
  else if 0x21000000000 ≤ a ∧ a < 0x21010000000 then
    .engine ((a - 0x21000000000) / 0x40000) ((a - 0x21000000000) % 0x40000)
  else if 0x22000000000 ≤ a ∧ a < 0x25000000000 then
    .point ((a - 0x22000000000) / 0x40000000) ((a - 0x22000000000) % 0x40000000)
  else if 0x3F000000000 ≤ a ∧ a < 0x3F001400000 then .control (a - 0x3F000000000)
  else .unmapped

/-- The end of the row of Table 1.2 that holds an address; the two scratchpad parts are rows. -/
def rowEnd (a : Nat) : Nat :=
  if a < 0x20000000000 then 0x20000000000
  else if a < 0x20007800000 then 0x20007800000
  else if a < 0x20008000000 then 0x20008000000
  else if a < 0x21010000000 then 0x21010000000
  else if a < 0x25000000000 then 0x25000000000
  else 0x3F001400000

/-- The place of `n` bytes at an address: unmapped where they cross a row's boundary (R18). -/
def addrPlace (a n : Nat) : Place :=
  if n = 0 ∨ rowEnd a < a + n then .unmapped else placeOfAddr a

/-- The unit whose NI receives an access of a place. -/
def State.placeUnit (s : State) : Place → Master
  | .dram a => Unit.mc (s.linePlace a).1.mc (s.linePlace a).1.sub
  | .spm o => Unit.spm (o / 0x800000)
  | .engine n _ => engUnit n
  | .point p _ => .accessPoint (Fin.ofNat 192 p)
  | .control o => regUnit o
  | .unmapped => Unit.dev

/-! ## Messages -/

/-- What a unit makes of a message: taken, without room, or of no use to it. -/
inductive Taken where
  | taken (s : State)
  | full
  | useless

/-- The logical engine of a cluster that a message goes to (R226). -/
def msgEngine (n : Nat) (p : Packet) : Nat := n / 8 * 8 + p.dtag.toNat % 8

def Packet.bad (p : Packet) : Bool := p.poison || p.fpoison

def Packet.crcBad (p : Packet) : Bool := p.integ && crc32c p.payload != p.crc

/-- A failed check at the NI of a unit (R224). -/
def State.crcFailed (s : State) (u : Master) (p : Packet) : State :=
  (s.niCrcFail u.ni).fault u .crc (.unit (masterAt p.src.toNat))

/-- A message at a cluster's NI (R226, R227). -/
def State.engineMessage (s : State) (n : Nat) (p : Packet) (poisoned crcFail : Bool) : Taken :=
  let e := msgEngine n p
  if s.fld (F.ENG_MSG_CFG_slots e) = 0 then .useless
  else if s.msgUsed e < s.fld (F.ENG_MSG_CFG_slots e) then .taken (s.msgStore e p poisoned crcFail)
  else .full

/-- The channel of an access point a packet arrives on (Table 2.11). -/
def Packet.channel (p : Packet) : Nat :=
  if p.kind = 5 then 2 else if p.kind = 6 ∨ p.kind = 7 then 1 else 0

/-- Beats of one channel's inbound FIFO in use. -/
def State.beatsHeld (s : State) (a ch : Nat) : Nat :=
  (((s.ap a).inbound.filter fun q => q.channel == ch).map fun q => (q.payload.length + 31) / 32).sum

/-- A packet into an access point's 16-beat inbound FIFO (R86, R102, R126). -/
def State.pointTake (s : State) (a : Nat) (p : Packet) : Taken :=
  if !s.hasDesign a || s.isTwin (s.apPod a) then .useless
  else if (s.podHeld (s.apPod a) && decide (p.prio.toNat < 4)) ||
      decide (16 < s.beatsHeld a p.channel + (p.payload.length + 31) / 32) then .full
  else .taken (s.setAp a { s.ap a with inbound := (s.ap a).inbound ++ [p] })

/-- A message at its destination NI (R227): which unit takes it. -/
def State.messageAt (s : State) (u : Master) (p : Packet) (poisoned crcFail : Bool) : Taken :=
  match u with
  | .engine n => s.engineMessage n.val p poisoned crcFail
  | .accessPoint a => s.pointTake a.val p
  | .husk => .taken s
  | .monitor => .taken s
  | .unit b i =>
    if b = 0x50 then
      (if p.prio.toNat < 4 ∨ (s.txHeld i.val + p.payload.length ≤ 65536 ∧ (s.cvGroup i.val).waiting = []) then
        .taken (blockIn (i.val % 8) p.payload poisoned (!crcFail) s)
       else .full)
    else if b = 0x60 then
      (if p.prio.toNat < 4 ∨ s.txWaits (i.val % 8) (masterAt p.src.toNat) = false then
        .taken (txMessage (i.val % 8) (masterAt p.src.toNat) p.payload poisoned (!crcFail) s)
       else .full)
    else .useless
  | _ => .useless

/-- A packet discarded as malformed, or as a message of no use, with a DECODE record (R204, R227). -/
def State.discardDecode (s : State) (u : Master) (p : Packet) : State :=
  s.fault u .decode (.unit (masterAt p.src.toNat))

/-- A VC2 packet that cannot be stored at once (R213). -/
def State.overrun (s : State) (u : Master) (p : Packet) : State :=
  (s.niDiscard u.ni).fault u .msgOverrun (.unit (masterAt p.src.toNat))

/-- The records of a message whose payload an engine stores (R224, R398). -/
def State.messageRecords (s : State) (u : Master) (p : Packet) (crcFail : Bool) : State :=
  match u with
  | .engine _ => if crcFail then s.crcFailed u p else s
  | _ => s

/-- The packet of a staged message (Table 9.3), as its source and transaction are shown. -/
def stagedPacket (src dest : Master) (id : Nat) (dtag : BitVec 16) (payload : List Byte) (poison crcFail : Bool) :
    Packet :=
  { kind := 5, prio := 0, route := 0, src := BitVec.ofNat 10 src.ni, dst := BitVec.ofNat 10 dest.ni
    txid := BitVec.ofNat 8 id, poison := poison, integ := true, tag := 0, address := 0, dtag := dtag
    payload := payload, crc := if crcFail then ~~~(crc32c payload) else crc32c payload, fpoison := false }

/-- A staged message at its apply: delivered, or, without room, ejected and waiting at the NI. -/
def State.messageApply (s : State) (dest : Master) (p : Packet) : State :=
  match s.messageAt dest p p.bad p.crcBad with
  | .taken t => t
  | .useless => s.discardDecode dest p
  | .full =>
    let f : Flight := {
      id := s.noc.nextId, pkt := p, hops := 0, router := niRouter p.dst.toNat, ejected := true, released := true }
    { s with noc := { s.noc with flight := s.noc.flight ++ [f], nextId := s.noc.nextId + 1 } }

end Sys2Proof.Machine
end

