-- ==== Sys2Proof/Machine/Apply.lean ====
section
/-! DEFINITION. Participants of transactions (chapter 9): the checks before a vote, the apply
at the launch tick, aborts and orphans, and staging through TXU_STAGE_DATA. -/

namespace Sys2Proof.Machine

/-! ## Converter link settings as staged words (R334) -/

/-- The link whose SH set a register belongs to. -/
def linkOf (off : Nat) : Option (Nat × Nat) :=
  let o := (off - 0x500000) % 0x8000
  if 0x500000 ≤ off ∧ off < 0x540000 ∧ 0x900 ≤ o ∧ o < 0xB00 ∧ o % 0x40 < 0x10 then
    some ((off - 0x500000) / 0x8000, (o - 0x900) / 0x40)
  else none

/-- The staged words of link registers among a participant's changes. -/
def linkWords (l : List Staged) : List (Nat × Word) :=
  l.filterMap fun c => match c.change with
    | .reg off w => (linkOf off.toNat).map fun _ => (off.toNat, w)
    | _ => none

/-- The links of a group that the staged words concern. -/
def linksIn (g : Nat) (l : List (Nat × Word)) : List Nat :=
  (List.range 8).filter fun k => l.any fun x => linkOf x.1 == some (g, k)

/-- The shadow set of a link as it stands live. -/
def State.shadowLive (s : State) (g : Nat) : List Nat → State
  | [] => s
  | k :: l =>
    ((((s.setShadow (R.CVL_LK_CFG0 g k) (s.reg (R.CVL_LK_CFG0 g k))).setShadow (R.CVL_LK_CFG1 g k)
      (s.reg (R.CVL_LK_CFG1 g k))).setShadow (R.CVL_LK_DEST g k) (s.reg (R.CVL_LK_DEST g k))).setShadow
      (R.CVL_LK_CTRL g k) (s.reg (R.CVL_LK_CTRL g k))).shadowLive g l

def State.shadowWords (s : State) : List (Nat × Word) → State
  | [] => s
  | (off, w) :: l => (s.setShadow off w).shadowWords l

/-- The state in which the shadow sets of the links concerned are the live sets with the staged
words in place. -/
def State.linkShadow (s : State) (l : List (Nat × Word)) : State :=
  ((List.range 8).foldl (fun (s : State) g => s.shadowLive g (linksIn g l)) s).shadowWords l

/-- Whether the staged sets are valid (R315, R316, R318, R326). -/
def State.linksOk (s : State) (l : List (Nat × Word)) : Bool :=
  (List.range 8).all fun g => (linksIn g l).isEmpty || (s.linkShadow l).groupValid g (linksIn g l)

/-- The staged sets become live; the block's direct shadow is unchanged (Table 9.3). -/
def State.linksApply (s : State) (l : List (Nat × Word)) : State :=
  if l.isEmpty then s
  else
    let t := (List.range 8).foldl (fun (t : State) g => t.linksLive g (linksIn g l)) (s.linkShadow l)
    { t with ctrl := { t.ctrl with shadow := s.ctrl.shadow } }

/-! ## Pins and pods as staged words -/

/-- The pin whose PIN_FUNC register is at an offset. -/
def pinOf (off : Nat) : Option Nat :=
  if 0x21000 ≤ off ∧ off < 0x21C00 ∧ off % 8 = 0 then some ((off - 0x21000) / 8) else none

/-- The engine whose ENG_RUN register is at an offset. -/
def runOf (off : Nat) : Option Nat :=
  if 0x1000000 ≤ off ∧ off % 0x1000 = 0xC then some ((off - 0x1000000) / 0x1000) else none

/-- The holder a staged PIN_FUNC names (R41). -/
def namedHolder (w : Word) : Option Master :=
  match bitsOf w 30 2 with
  | 0 => none
  | 1 => some .husk
  | 2 => some .txu
  | _ => some (masterAt (bitsOf w 16 10))

/-! ## Votes (R301, Table 9.3) -/

/-- The held words of a staged route entry. -/
def routeHeld (ni : BitVec 10) (e : BitVec 12) (w1 w2 w3 : Option Word) : HeldRoute :=
  { ni := ni.toNat, entry := e.toNat, w1 := w1, w2 := w2, w3 := w3 }

/-- The entry a staged word 0 leaves (R209). -/
def State.routeStaged (s : State) (ni : BitVec 10) (e : BitVec 12) (w0 : Word) (w1 w2 w3 : Option Word) :
    RouteEntry :=
  routeWritten ni.toNat (some (routeHeld ni e w1 w2 w3)) (s.route ni.toNat e.toNat) e.toNat w0

/-- The detail with which one staged change is refused at the vote, if it is. -/
def State.voteRefusal (s : State) (c : Staged) : Option Nat :=
  match c.change with
  | .reg off w =>
    match podOfCtrl off.toNat, pinOf off.toNat with
    | some p, _ => match s.switchRefusal p with
      | none => if s.isTwin p then some Code.notStaged else none
      | some d => some (if d = Code.notPermitted ∧ s.fullStaged = true then d else Code.notStaged)
    | none, some k =>
      if !s.holds c.src (pinClaim k) then some Code.claimBusy
      else if !pinFuncOk k (bitsOf w 0 4) then some Code.invalidArgument else none
    | none, none =>
      if off.toNat = R.TIM_SVC_CTRL ∧ s.noSource (w.getLsbD 0) then some Code.noSource else none
  | .route ni e w0 w1 w2 w3 =>
    if (s.routeStaged ni e w0 w1 w2 w3).okBit then none else some Code.invalidArgument
  | .substitution p => if (s.pod p.val).repair.isSome then none else some Code.notStaged
  | _ => none

def State.voteFirst (s : State) : List Staged → Option Nat
  | [] => none
  | c :: l => match s.voteRefusal c with
    | some d => some d
    | none => s.voteFirst l

/-- What a participant's vote says. -/
def State.voteOf (s : State) (p : PartStore) : Vote :=
  match p.refuse with
  | some d => .refuse d
  | none => match s.voteFirst p.changes with
    | some d => .refuse (BitVec.ofNat 16 d)
    | none => if s.linksOk (linkWords p.changes) then .prepared else .refuse (BitVec.ofNat 16 Code.invalidArgument)

/-- The pods and pins a PREPARED vote takes: a pod goes ARMED, a pin's claim passes to the TXU
(R41, R108). -/
def State.voteTakes (s : State) (id : Nat) : List Staged → State × List (Nat × Option Master) × List (Nat × Nat)
  | [] => (s, [], [])
  | c :: l =>
    match c.change with
    | .reg off w =>
      match podOfCtrl off.toNat, pinOf off.toNat with
      | some p, _ =>
        let st := s.sprout p
        let s := s.setPod p { s.pod p with
          armedFrom := st, slot := none, tx := id, txCarry := w.getLsbD 8, txQuiesce := bitsOf w 0 8 }
        let s := (s.setBit (F.CFG_POD_STATE_txu_armed p) true).setSprout p Sprout.armed
        let r := s.voteTakes id l
        (r.1, r.2.1, (p, st) :: r.2.2)
      | none, some k =>
        let h := s.holder (pinClaim k)
        let r := (s.setHolder (pinClaim k) (some .txu)).voteTakes id l
        (r.1, (pinClaim k, h) :: r.2.1, r.2.2)
      | none, none => s.voteTakes id l
    | _ => s.voteTakes id l

/-- The message the TXU has sent to a participant, if it has not been received. -/
def State.txMsg (s : State) (id : Nat) (part : Master) (m : TxMsg) : Bool :=
  match findPart part (s.tx id).parts with
  | some p => p.msg == some m
  | none => false

/-- The message is received. -/
def State.takeMsg (s : State) (id : Nat) (part : Master) : State :=
  let t := s.tx id
  s.setTx id { t with parts := updPart part (fun p => { p with msg := none }) t.parts }

/-- PREPARE at a participant (R301, R307): it checks its changes and votes. -/
def txPrepareGo (part : Master) (id : Nat) (s : State) : State :=
  if !s.txMsg id part .prepare then s
  else
    let s := s.takeMsg id part
    let p := s.store id part
    match s.voteOf p with
    | .refuse d => s.setStore id part { p with vote := some (.refuse d) }
    | .prepared =>
      let r := s.voteTakes id p.changes
      r.1.setStore id part { p with vote := some .prepared, votedAt := s.tim.uptime, claims := r.2.1, pods := r.2.2 }

/-! ## What a participant releases (R41, R108, R253, R306) -/

/-- Claims return to their holders before the transaction. -/
def State.returnClaims (s : State) : List (Nat × Option Master) → State
  | [] => s
  | (off, h) :: l => (if s.holder off == some .txu then s.setHolder off h else s).returnClaims l

/-- Pods return to the state they were in before the vote. -/
def State.returnPods (s : State) (id : Nat) : List (Nat × Nat) → State
  | [] => s
  | (p, _) :: l =>
    (if s.sprout p = Sprout.armed ∧ (s.pod p).tx = id then s.podDisarm p else s).returnPods id l

/-- Staged changes are discarded and all they held is released. -/
def State.discardStaged (s : State) (id : Nat) (part : Master) : State :=
  let p := s.store id part
  let s := (s.returnClaims p.claims).returnPods id p.pods
  let s := if part.same Unit.qe then s.qeAbort id else s
  s.setStore id part { p with changes := [], claims := [], pods := [] }

/-! ## Substitutions whose transaction did not apply (R122, R155, R221, R379, R403) -/

def dropLink (id : Nat) (l : List (Nat × Nat × Nat)) : List (Nat × Nat × Nat) := l.filter fun x => x.2.2 != id

/-- The link substitutions of a transaction close. -/
def State.closeLinks (s : State) : List (Nat × Nat × Nat) → State
  | [] => s
  | (r, d, _) :: l => (s.closeSub (.link (Fin.ofNat 192 r) (Fin.ofNat 4 d))).closeLinks l

/-- The link substitutions a transaction carries. -/
def State.linksOfTx (s : State) (id : Nat) : List (Nat × Nat × Nat) := s.err.links.filter fun x => x.2.2 == id

/-- The moves of routes off a link are abandoned. -/
def State.abandonLinks (s : State) (id : Nat) : State :=
  let l := s.linksOfTx id
  let s := { s with err := { s.err with links := dropLink id s.err.links } }
  (l.foldl (fun (s : State) x => s.fault .husk .repair (linkSubject x.1 x.2.1) Code.repairAbandoned
    (linkDir x.1 x.2.1)) s).closeLinks l

/-- The routes off a link are staged again after the first abort. -/
def State.retryLinks (s : State) (id : Nat) (sub : List (Master × Change)) : State :=
  let r := s.huskStage sub 1
  { r.2 with err := { r.2.err with links := r.2.err.links.map fun x =>
    if x.2.2 = id then (x.1, x.2.1, r.1) else x } }

/-- One of the husk's substitutions finds that its transaction has not applied: staged again
after the first abort, abandoned after the second. -/
def State.subRetry (s : State) (id tries : Nat) (sub : List (Master × Change)) : State :=
  match sub with
  | [(_, .substitution p)] => if tries = 0 then s.subStage p.val 1 else s.subAbandon p.val
  | [(_, .engineMove c)] =>
    (match (s.spare c.val).sub with
      | some n =>
        if tries = 0 then
          let r := s.huskStage sub 1
          r.2.setSpare c.val { r.2.spare c.val with staged := r.1 != 0 }
        else s.abandonMove c.val n.val
      | none => s)
  | [(_, .remap true k)] => if tries = 0 then (s.huskStage sub 1).2 else s.spareAbandon k.toNat
  | [(_, .remap false k)] => if tries = 0 then (s.huskStage sub 1).2 else s.retireAbandon k.toNat
  | [] => s
  | _ => if tries = 0 then s.retryLinks id sub else s.abandonLinks id

/-- Whether every participant of a transaction has answered, or has its answer on the way. -/
def State.allAnswered (s : State) (id : Nat) : Bool :=
  (s.tx id).parts.all fun p => p.answered || (s.store id p.who).answer.isSome

/-- After the last answer to an abort, or one marked not applied, of a husk substitution. -/
def State.subSettle (s : State) (id : Nat) : State :=
  if (s.tx id).sub.isEmpty || !s.allAnswered id then s
  else s.subRetry id (s.tx id).tries (s.tx id).sub

/-! ## The decision at a participant (R303, R304, R306) -/

/-- The launch has passed as the participant learns of it: nothing applies (R304). -/
def State.tooLate (s : State) (id : Nat) (part : Master) : State :=
  let s := s.discardStaged id part
  (s.setStore id part { s.store id part with answer := some .notApplied, commit := none }).subSettle id

/-- A participant learns the launch tick. -/
def State.learnLaunch (s : State) (id : Nat) (part : Master) (tick : Word) : State :=
  let p := s.store id part
  if p.answer.isSome || p.commit.isSome then s
  else if p.vote != some .prepared || s.isReached tick then s.tooLate id part
  else s.setStore id part { p with commit := some tick }

/-- COMMIT at a participant (R302, R304). -/
def txCommitTake (part : Master) (id : Nat) (s : State) : State :=
  if !s.txMsg id part .commit then s
  else (s.takeMsg id part).learnLaunch id part (s.tx id).tick

/-- ABORT at a participant (R306): the ABORT_ACK is on its way; a substitution is staged again,
or is abandoned after its second abort. -/
def txAbortTake (part : Master) (id : Nat) (s : State) : State :=
  if !s.txMsg id part .abort then s
  else
    let s := s.takeMsg id part
    if (s.store id part).answer.isSome then s
    else
      let s := s.discardStaged id part
      (s.setStore id part { s.store id part with answer := some .abortAck }).subSettle id

/-- A participant has heard nothing for 2.000 s after its vote (R306). -/
def txOrphanGo (part : Master) (id : Nat) (s : State) : State :=
  let p := s.store id part
  if p.vote = some .prepared ∧ p.commit = none ∧ p.answer = none ∧ s.passed p.votedAt 2000000000 = true then
    (((s.discardStaged id part).setStore id part {}).fault part .txOrphan (.unit .txu) 0 id)
  else s

/-! ## The apply (R304, R309, Table 9.3) -/

/-- A staged register word becomes live. The second part says whether it applied. -/
def State.regApply (s : State) (id off : Nat) (w : Word) : State × Bool :=
  match podOfCtrl off, pinOf off, runOf off with
  | some p, _, _ =>
    if s.sprout p = Sprout.armed ∧ (s.pod p).tx = id then (s.podE0 p (!(s.pod p).txCarry), true) else (s, false)
  | none, some k, _ =>
    ((s.commitFunc k (bitsOf w 0 4)).setHolder (pinClaim k) (namedHolder w), true)
  | none, none, some n => (s.applyRun n w, true)
  | none, none, none =>
    if off = R.TIM_SVC_CTRL then (s.switchService (w.getLsbD 0), true) else (s, true)

/-- A staged scratchpad word is written, or lost in a bank that does not serve (R410). -/
def State.scratchApply (s : State) (o : Nat) (bytes : List Byte) (poison : Bool) : State × Bool :=
  if s.spmServes (s.spmGlobalBank o) then
    ((s.spmMark o bytes.length poison (spmOffsets o bytes.length)).spmStore o bytes, true)
  else (s, false)

def State.changeApply (s : State) (id : Nat) (c : Staged) : State × Bool :=
  match c.change with
  | .reg off w => s.regApply id off.toNat w
  | .route ni e w0 w1 w2 w3 => (s.setRoute ni.toNat e.toNat (s.routeStaged ni e w0 w1 w2 w3), true)
  | .scratch a eight d p => s.scratchApply (a.toNat - 0x20000000000) (toBytes (if eight then 8 else 4) d.toNat) p
  | .message dest dtag payload poison crcFail =>
    (s.messageApply dest (stagedPacket c.src dest id dtag payload poison crcFail), true)
  | .substitution p => (s.subApply p.val, true)
  | .engineMove k => (s.setSpare k.val { s.spare k.val with applied := true }, true)
  | .remap kind k => (if kind then s.spareApply k.toNat else s.retireApply k.toNat, true)
  | _ => (s, true)

/-- All changes in the order staged, and whether every one applied. -/
def State.changesApply (s : State) (id : Nat) : List Staged → State × Bool
  | [] => (s, true)
  | c :: l =>
    let r := s.changeApply id c
    let q := r.1.changesApply id l
    (q.1, r.2 && q.2)

/-- The apply at the launch tick (R304): a participant whose time copy is lost waits (R275). -/
def txApplyGo (part : Master) (id : Nat) (s : State) : State :=
  let p := s.store id part
  match p.commit with
  | none => s
  | some tick =>
    if p.answer.isSome || !s.isReached tick || s.copyLost part then s
    else
      let r := s.changesApply id p.changes
      let s := r.1.linksApply (linkWords p.changes)
      let s := if part.same Unit.qe then s.qeApply id else s
      let ok := r.2 && !p.withdrawn
      let s := s.setStore id part { p with
        changes := [], claims := [], pods := [], answer := some (if ok then .applied else .notApplied) }
      if s.allAnswered id then
        let l := s.linksOfTx id
        ({ s with err := { s.err with links := dropLink id s.err.links } }).closeLinks l
      else s

/-! ## Synchronisation words (R259, R275, R303) -/

/-- The participants of an ASAP commit learn its launch from the word of its boundary. -/
def State.wordTo (s : State) (id : Nat) (tick : Word) : List Part → State
  | [] => s
  | p :: l => (s.learnLaunch id p.who tick).wordTo id tick l

def State.wordCommits (s : State) : List (Nat × Tx) → State
  | [] => s
  | (id, t) :: l =>
    (if t.state == .committed && t.launch == .asap && s.classOf t.tick == .ahead &&
        decide (s.extend t.tick ≤ s.nextMicro) then s.wordTo id t.tick t.parts
     else s).wordCommits l

def State.diverge (s : State) : List Master → State
  | [] => s
  | u :: l => (s.fault u .timeDist (.unit Unit.tim)).diverge l

/-- A synchronisation word: lost copies are regained, copies that differ are corrected with a
record, and ASAP commits reach their participants. -/
def syncWord (diverged : List Master) (s : State) : State :=
  (({ s with tim := { s.tim with lost := [] } }).diverge diverged).wordCommits s.txu.txs

/-! ## Staged writes by address (R209, R295, R297) -/

/-- The change a staged write makes, with its participant; none where the access is in error.
Word 0 of a route entry takes the source's held words along. -/
def State.stagedWrite (s : State) (m : Master) (a n : Nat) (v : DWord) (poison : Bool := false) : Option (Master × Change) :=
  match addrPlace a n with
  | .control o =>
    if n ≠ 4 ∨ o % 4 ≠ 0 then none
    else if 0x200000 + 0x10000 ≤ o ∧ o < 0x200000 + 0x20000 then
      let ni := s.srcFld m F.NOC_RT_SEL_ni
      let e := (o - 0x210000) / 16
      if o % 16 ≠ 0 then some (masterAt ni, .unstageable)
      else
        let h := match s.heldRoute m with
          | some h => if h.ni = ni ∧ h.entry = e then some h else none
          | none => none
        some (masterAt ni, .route (BitVec.ofNat 10 ni) (BitVec.ofNat 12 e) (v.setWidth 32)
          (h.bind (·.w1)) (h.bind (·.w2)) (h.bind (·.w3)))
    else if (rowAt o).isNone || (decide (0x900000 ≤ o) && decide (o < 0x1000000) && !(m == .monitor)) then none
    else some (regUnit o, .reg (BitVec.ofNat 25 o) (v.setWidth 32))
  | .spm o =>
    if (n = 4 ∨ n = 8) ∧ a % n = 0 then some (.txu, .scratch (BitVec.ofNat 48 a) (n == 8) v poison)
    else some (Unit.spm (o / 0x800000), .unstageable)
  | .engine e o => some (s.placeUnit (.engine e o), .unstageable)
  | .point p o => if s.hasDesign p && !s.isTwin (s.apPod p) then some (s.placeUnit (.point p o), .unstageable) else none
  | .dram b => if s.dramMapped b then some (s.placeUnit (.dram b), .unstageable) else none
  | .unmapped => none

/-- Held route words that a staged word 0 takes with it leave the source's set (R209). -/
def State.takeHeld (s : State) (m : Master) : Change → State
  | .route .. => s.setHeldRoute m none
  | _ => s

/-- A write of TXU_STAGE_DATA (R295): the TXU forwards it as a 4-byte WRITE_ACK. -/
def stageData (m : Master) (data : Word) (s : State) : State :=
  let hi := s.srcReg m R.TXU_STAGE_ADDR_HI
  let a := (s.srcReg m R.TXU_STAGE_ADDR_LO).toNat + 2 ^ 32 * bitsOf hi 0 16
  let id := bitsOf hi 24 8
  let done (s : State) (st : Nat) : State := (s.setSrcFld m F.TXU_CMD_RESULT_status st).ack
  if a % 4 ≠ 0 then done s Code.invalidArgument
  else match s.stagedWrite m a 4 (data.setWidth 64) with
    | none => done (s.fault (s.placeUnit (addrPlace a 4)) .decode (.unit m)) Code.invalidArgument
    | some (part, c) =>
      let r := (s.takeHeld m c).stage id part { change := c, src := m } false
      match r.1 with
      | .blocked => s
      | .joining => r.2.setStore id part { r.2.store id part with viaData := true }
      | .held => done r.2 0
      | .refused st => done r.2 st

/-! ## Meanings -/

/-- R41, R108, R284, R299, R301, R307, R334, R495. -/
def execTxPrepare (part : Master) (id : BitVec 8) (s : State) : Out := .next (txPrepareGo part id.toNat s)
/-- R302 to R304. -/
def execTxCommitReceive (part : Master) (id : BitVec 8) (s : State) : Out := .next (txCommitTake part id.toNat s)
/-- R41, R108, R109, R120, R121, R141, R209, R221, R253, R282, R304, R309, R334, R410, R498. -/
def execTxApply (part : Master) (id : BitVec 8) (s : State) : Out := .next (txApplyGo part id.toNat s)
/-- R41, R108, R122, R155, R253, R306. -/
def execTxAbortReceive (part : Master) (id : BitVec 8) (s : State) : Out := .next (txAbortTake part id.toNat s)
/-- R306. -/
def execTxOrphan (part : Master) (id : BitVec 8) (s : State) : Out := .next (txOrphanGo part id.toNat s)
/-- R295 to R299. -/
def execTxuStageData (m : Master) (data : Word) (s : State) : Out := .next (stageData m data s)
/-- R259, R275, R303. -/
def execSyncWord (diverged : List Master) (s : State) : Out := .next (syncWord diverged s)

end Sys2Proof.Machine
end

