-- ==== Sys2Proof/Machine/Modes.lean ====
section
/-! DEFINITION. Modes and their transitions (R24 to R38), start-up (R436, R437), resets, DORMANT,
the confirmation of a class-2 tamper (R451), and the firing of cues (R290 to R292). -/

namespace Sys2Proof.Machine

/-! ## What survives a reset -/

/-- The bits of a control register that a whole-device reset keeps: RWS fields (Table 0.4), the
record of transitions (R27), the repair log's steering and moves, the count of wipes and the peak
temperatures. -/
def keptMask (off : Nat) : Word :=
  let rws : Word := match rowAt off with
    | some r => BitVec.ofNat 32 r.rws
    | none => 0
  if off = R.DEV_MODE then 0xFF0F000F#32
  else if off = R.DEV_MODE_CAUSE ∨ off = R.DEV_MODE_TIME then 0xFFFFFFFF#32
  else if 0x1000000 ≤ off ∧ off % 0x1000 = 0x2C then 0xFFFFFFFF#32
  else if off = F.SPM_STATUS_wipes.off then F.SPM_STATUS_wipes.put rws 0xFFFFFFFF
  else if (List.range 3).any (fun d => (F.ERR_GOV_TEMP_peak d).off == off) then
    rws ||| (F.ERR_GOV_TEMP_peak 0).put 0 0xFFFFFFFF
  else rws ||| steerMask off

/-- A word with only the bits of its mask kept; the others are at their reset value. -/
def keptWord (mask : Nat → Word) (off : Nat) (w : Word) : Word :=
  (w &&& mask off) ||| (resetWord off &&& ~~~mask off)

/-- The words of a register table with only the bits of a mask kept. -/
def keepWords (mask : Nat → Word) : Table Word → Table Word
  | [] => []
  | e :: t => Table.set resetWord (keepWords mask t) e.1 (keptWord mask e.1 e.2)

/-- What no reset and no loss of supply changes: fuses and flash, with what the husk keeps there
(the event log, the holdover model, the repair log), the commands that wait, and the level of the
PERST# pin. -/
def State.keepFlash (s : State) : State :=
  { State.reset with
    pending := s.pending
    freeCount := s.freeCount
    fuses := s.fuses
    flash := s.flash
    err := { log := s.err.log }
    tim := { modelSaved := s.tim.modelSaved, uptime := s.tim.uptime }
    dram := { retired := s.dram.retired }
    cfg := { badSpare := s.cfg.badSpare }
    spares := s.spares.filterMap fun e => if e.2.bad then some (e.1, { bad := true }) else none
    dev := { perst := s.dev.perst, perstFrom := s.dev.perstFrom } }

/-- The words the repair log holds: ENG_MAP and steering. -/
def repairMask (off : Nat) : Word :=
  if 0x1000000 ≤ off ∧ off % 0x1000 = 0x2C then 0xFFFFFFFF#32 else steerMask off

/-- The repair log, brought up to the registers. -/
def State.repairLog (s : State) : Table Word :=
  let now := s.ctrl.regs.filterMap fun e =>
    if e.2 &&& repairMask e.1 = 0 then none else some (e.1, e.2 &&& repairMask e.1)
  now.foldl (fun t e => Table.set resetWord t e.1 e.2) s.flash.repairs

/-- VHUSK falls below its range: OFF (Table 1.6). -/
def huskPowerLost (s : State) : State :=
  let t := s.repairLog
  let s := s.keepFlash
  let s := { s with flash := { s.flash with repairs := t } }
  s.setFld F.DEV_MODE_mode Mode.off

/-- VHUSK comes into range: HELD, as transition 0x01 leaves it (R27); the moves of engines are
restored from the repair log (R153). -/
def huskPowerGood (s : State) : State :=
  if s.mode = Mode.off then
    let s := s.keepFlash
    let s := { s with husk := { s.husk with ledger := s.flash.ledger } }
    s.flash.repairs.foldl (fun (s : State) e => if e.1 < 0x1000000 then s else s.setReg e.1 e.2) s
  else s

/-- A whole-device reset: transition 0x14 (R27). It has no effect in OFF and ZEROISED. -/
def State.wholeReset (s : State) : State :=
  if s.mode = Mode.off ∨ s.mode = Mode.zeroised then s
  else
    let s := s.transition 0x14 Mode.held
    let r := s.keepFlash
    { r with
      ctrl := { regs := keepWords keptMask s.ctrl.regs }
      dev := { perst := s.dev.perst, leftBoot := s.dev.leftBoot, perstFrom := s.dev.perstFrom }
      husk := { ledger := s.husk.ledger } }

/-! ## Start-up (R28 to R30, R436, R437) -/

/-- Firmware in a slot passes the ROM's check; otherwise the failure's code. -/
def State.slotStatus (s : State) (k : Nat) : Nat :=
  if !(s.fwSlot k).verified then Code.badSignature
  else if (s.fwSlot k).secVersion < s.fuses.floor then Code.rollback else 0

/-- The ROM chooses the firmware slot; if both fail it enters recovery (R436). -/
def State.romSlot (s : State) : State :=
  let k := if s.flash.desc.slot = 0 then 0 else 1
  if s.slotStatus k = 0 then s.runSlot k
  else
    let s := s.fault .husk .fwSlot (.unit .husk) (s.slotStatus k) k
    if s.slotStatus (1 - k) = 0 then s.runSlot (1 - k)
    else
      let s := s.fault .husk .fwSlot (.unit .husk) (s.slotStatus (1 - k)) (1 - k)
      let s := s.setFld F.DEV_MODE_CAUSE_status (s.slotStatus (1 - k))
      { s with trust := { s.trust with recovery := true } }

/-- An unacknowledged class-2 tamper holds BOOT (R451); a stored acknowledgement counts only while
its key is usable. -/
def State.tamperHolds (s : State) : Bool :=
  let ack := if s.slotUsable s.flash.ackKey then s.flash.ack else 0
  s.fuses.tamperLock && decide (ack < s.fuses.tamperCount)

/-- PERST# of whole-device scope (R28). -/
def State.perstWhole (s : State) : Bool :=
  !s.dev.leftBoot || s.bit F.DEV_RESET_POLICY_perst_scope

/-- The reset is released: HELD to BOOT, transition 0x02, and the ROM stage (R27, R289, R436). -/
def bootStart (s : State) : State :=
  if s.mode ≠ Mode.held ∨ (s.dev.perst = true ∧ s.perstWhole = true) then s
  else
    let s := s.timeBoot.transition 0x02 Mode.boot
    if s.fuses.lifeCycle = 4 then s
    else
      let s := { s with trust := { s.trust with hold := s.tamperHolds } }
      s.romSlot

/-- The pins of the GNSS receiver (R269) are claimed by the husk, where the policy has one. -/
def State.gnssPins (s : State) : State :=
  if s.flash.policy.gnss = 0 then s
  else (List.range 6).foldl (fun (s : State) k => s.setHolder (pinClaim (336 + k)) (some .husk)) s

/-- The firmware starts its services: the owner's policy, the holdover model, the standby core. -/
def firmwareStart (s : State) : State :=
  if s.mode ≠ Mode.boot ∨ s.trust.recovery = true ∨ s.fuses.lifeCycle = 4 ∨ s.standby ≠ Standby.absent then s
  else s.policyBoot.gnssPins.modelRestore.setStandby Standby.booting

/-- PF0 is ready, and LOAD_WAIT runs (R29); not under an unacknowledged tamper (R451), in recovery
or in SCRAPPED (R436), and not where LOAD_WAIT is 0 (R438). -/
def pf0Up (s : State) : State :=
  if s.mode ≠ Mode.boot ∨ s.dev.pf0Ready = true then s
  else
    let run := s.fld F.PCI_LDR_CFG_load_wait_ms != 0 && !s.trust.hold && !s.trust.recovery &&
      s.fuses.lifeCycle != 4
    { s with dev := { s.dev with pf0Ready := true, loadWait := run, waitFrom := s.tim.uptime } }

/-- LOAD_WAIT expires load_wait_ms after it began: transition 0x04 and the acorn (R29, R438). -/
def loadWaitEnd (s : State) : State :=
  if s.dev.loadWait = true ∧ s.mode = Mode.boot ∧
      s.passed s.dev.waitFrom (1000000 * s.fld F.PCI_LDR_CFG_load_wait_ms) = true then
    let s := { s with dev := { s.dev with loadWait := false, leftBoot := true, gsr := true } }
    (s.transition 0x04 Mode.load).acornLoad
  else s

/-- Initial training ends, or DRAM is not brought up (R30, R361, R372). -/
def trained (p : Population) (s : State) : State :=
  let m := s.mode
  if s.dev.dramTrained = true ∨ (m ≠ Mode.boot ∧ m ≠ Mode.load ∧ m ≠ Mode.rendezvous) ∨
      s.fuses.lifeCycle = 4 ∨ s.trust.recovery = true then s
  else
    let s := { s with dev := { s.dev with dramTrained := true } }
    match p with
    | .found w d t => s.dramUp s.flash.policy.mem w d t.val
    | .refused mc slot => s.dramRefused mc.val slot.val

/-- PCIe endpoint reset: a host stream is truncated, the link is down, and the functions are
configured anew, with retries until the launch tick (R28, R427, R437). -/
def State.endpointReset (s : State) : State :=
  let s := s.truncateHost.setBit F.PCI_STATUS_link_up false
  let s := (s.setFld F.PCI_STATUS_width 0).setFld F.PCI_STATUS_speed 0
  { s with
    msix := {}, trust := { s.trust with pfSeen := false }
    dev := { s.dev with crs := s.dev.crs || !s.dev.launched } }

/-- PERST# is asserted (R28). -/
def perstOn (s : State) : State :=
  let s := { s with dev := { s.dev with perst := true } }
  if s.mode = Mode.off ∨ s.mode = Mode.zeroised then s
  else
    let s := if s.perstWhole then s.wholeReset else s.endpointReset
    s.setBit F.PCI_STATUS_perst true

/-- PERST# is released (R437). -/
def perstOff (s : State) : State :=
  { s with dev := { s.dev with perst := false, perstFrom := s.tim.uptime } }.setBit F.PCI_STATUS_perst false

/-- The link is lost (R427, Table 14.4). -/
def linkLoss (s : State) : State :=
  if s.bit F.PCI_STATUS_link_up then s.truncateHost.setBit F.PCI_STATUS_link_up false else s

/-- The link trains. -/
def linkTrained (width speed : Nat) (s : State) : State :=
  if s.mode = Mode.off ∨ s.mode = Mode.held ∨ s.mode = Mode.zeroised ∨ s.dev.perst = true then s
  else ((s.setBit F.PCI_STATUS_link_up true).setFld F.PCI_STATUS_width width).setFld F.PCI_STATUS_speed speed

/-! ## Rendezvous (R31, R32) -/

/-- The launch is armed on DEV cue slot 7. -/
def State.launchArmed (s : State) : Bool := s.cueArmed .dev 7

/-- The first whole millisecond of extended service time at least 100 µs ahead. -/
def State.launchTime (s : State) : Nat := (s.now + 100000 + 999999) / 1000000 * 1000000

/-- The launch is armed with its trigger. -/
def State.armLaunch (s : State) (trigger : Nat) : State :=
  s.cueHold .dev 7 (BitVec.ofNat 32 s.launchTime) 0 false (.launch (BitVec.ofNat 8 trigger))

/-- DONE is sampled high with DRAM ready; this device has then released it (R30, R31). -/
def doneHigh (s : State) : State :=
  if s.mode = Mode.rendezvous ∧ s.bit F.DEV_MODE_dram_ready = true ∧ s.launchArmed = false then
    s.armLaunch (if s.bit F.DEV_MODE_on_acorn then 0x08 else 0x07)
  else s

/-- The launch tick (R31): the global set-reset releases, pins take their functions, PF1 to PF3
answer with the headers of the live image, and the base mode is reported. -/
def State.launch (s : State) (trigger : Nat) : State :=
  let s := { s with dev := { s.dev with gsr := false, launched := true, crs := false } }
  let s := s.setHeaders (pfTable s.trust.pfRecords)
  let s := (List.range 48).foldl (fun (s : State) p =>
    s.applyPins (s.podPoint p) (Table.get noPins s.cfg.pins p)) s
  let s := s.setBit F.DEV_RDV_timed_out false
  s.transition trigger s.baseMode

/-- RDV_TIMEOUT has expired (R32). -/
def State.rdvExpired (s : State) : Bool :=
  s.fld F.DEV_RDV_timeout_ms != 0 &&
    decide (s.dev.rdvEntry + s.fld F.DEV_RDV_timeout_ms * 1000000 ≤ s.now)

/-- The timeout expires before DONE rises (R32). -/
def rdvTimeout (s : State) : State :=
  if s.mode = Mode.rendezvous ∧ s.rdvExpired = true ∧ s.bit F.DEV_RDV_timed_out = false ∧
      s.launchArmed = false then
    (s.setBit F.DEV_RDV_timed_out true).fault .husk .rendezvous (.code 960)
  else s

/-- A write of DEV_RDV.force (R32). -/
def rdvForce (s : State) : State :=
  if s.mode = Mode.rendezvous ∧ s.bit F.DEV_RDV_timed_out = true then
    let s := if s.launchArmed then s else s.armLaunch 0x09
    (s.setFld F.DEV_REQ_STATUS_status 0).ack
  else s.refuse F.DEV_REQ_STATUS_status Code.notPermitted

/-- A write of DEV_RDV.timeout_ms: it may expire the timeout at once (R32). -/
def rdvWrite (ms : Nat) (s : State) : State := (rdvTimeout (s.setFld F.DEV_RDV_timeout_ms ms)).ack

/-! ## DORMANT (R35, R36, R143, R289, R381, R413) -/

/-- The queue engine holds an entry that waits on its release time. -/
def State.queueWaits (s : State) : Bool :=
  s.qe.queues.any fun q => q.2.entries.any fun e => decide (s.now < e.due)

/-- A cue is armed in a unit other than the husk's. -/
def State.cueElsewhere (s : State) : Bool := s.cues.any fun c => decide (8 ≤ c.1)

/-- The conditions of R35. -/
def State.mayDormant (s : State) : Bool :=
  s.mode == Mode.service && !s.bit F.DEV_MODE_update_active && !s.bit F.DEV_MODE_repair_active &&
    s.dev.subs == 0 && !s.anyTx && !s.queueWaits && !s.cueElsewhere

/-- The wake time in force. -/
def State.wakeTime (s : State) : Nat := s.pair R.DEV_WAKE_LO R.DEV_WAKE_HI

/-- A wake time that is less than 10 ms ahead, or reached. -/
def State.wakeSoon (s : State) : Bool := s.wakeTime != 0 && decide (s.wakeTime < s.now + 10000000)

/-- An engine that runs or waits is stopped, saved and OFF (R143). -/
def State.engineSleep (s : State) (n : Nat) : State :=
  let st := s.engState n
  if st = EngState.running ∨ st = EngState.waiting then
    let s := s.setEngine n { s.engine n with asleep := true, under := st }
    s.enter n EngState.off
  else s

def State.enginesSleep (s : State) : Nat → State
  | 0 => s
  | n + 1 => (if s.oddOfPair n then s else s.engineSleep n).enginesSleep n

/-- A saved engine is restored and resumes (R143). -/
def State.engineWake (s : State) (n : Nat) : State :=
  let e := s.engine n
  if e.asleep then (s.setEngine n { e with asleep := false }).enter n e.under else s

def State.enginesWake (s : State) : Nat → State
  | 0 => s
  | n + 1 => (s.engineWake n).enginesWake n

/-- The port block that carries a source of a domain, if any (Table 8.3). -/
def State.sourceBlocks (s : State) (b : Bool) : List Nat :=
  let p := s.fld (F.TIM_x_CTRL_phase_src (b2n b))
  let f := s.fld (F.TIM_x_CTRL_freq_src (b2n b))
  (if 1 ≤ p ∧ p ≤ 8 then [p - 1] else []) ++ (if 0x20 ≤ f ∧ f ≤ 0x3F then [(f - 0x20) / 4] else [])

/-- A domain whose PTP or SyncE source is on a block not kept enters HOLDOVER at entry (R289). The
offset of the last 64 s is not stated here: a free value. -/
def State.domainSleep (s : State) (b : Bool) : State :=
  let keep := s.fld F.DEV_DORMANT_keep_ports
  let st := s.domState b
  if (st = DomState.locked ∨ st = DomState.acquiring) ∧ (s.sourceBlocks b).any (fun k => !bitAt keep k) then
    let r := s.free
    r.2.enterHoldover b (BitVec.ofNat 32 r.1)
  else s

/-- A write of DEV_DORMANT.enter (R35, R36). -/
def dormantGo (s : State) : State :=
  if !s.mayDormant then s.refuse F.DEV_REQ_STATUS_status Code.notPermitted
  else if s.wakeSoon then s.refuse F.DEV_REQ_STATUS_status Code.invalidArgument
  else
    let s := ((s.enginesSleep 1024).spmDormant.domainSleep false).domainSleep true
    let s := s.leave Gov.endMode
    let asleep := (List.range 8).foldl (fun t k => Table.set notMarked t k true) s.dram.asleep
    let s := { s with dram := { s.dram with asleep := asleep }, dev := { s.dev with waking := false } }
    ((s.transition 0x10 Mode.dormant).setFld F.DEV_REQ_STATUS_status 0).ack

/-- A write of DEV_DORMANT.exit; ignored in other modes. -/
def dormantEnd (s : State) : State :=
  if s.mode = Mode.dormant then
    ({ s with dev := { s.dev with waking := true } }.setFld F.DEV_REQ_STATUS_status 0).ack
  else (s.setFld F.DEV_REQ_STATUS_status 0).ack

/-- The wake time less 10 ms is reached. -/
def wakeBegin (s : State) : State :=
  if s.mode = Mode.dormant ∧ s.wakeTime ≠ 0 ∧ s.wakeTime ≤ s.now + 10000000 then
    { s with dev := { s.dev with waking := true } }
  else s

/-- Waking is complete: transition 0x11. -/
def restored (s : State) : State :=
  if s.mode = Mode.dormant ∧ s.dev.waking = true then
    let s := (s.enginesWake 1024).spmWake
    let s := { s with dram := { s.dram with asleep := [] }, dev := { s.dev with waking := false } }
    s.transition 0x11 Mode.service
  else s

/-- A write of DEV_WAKE_HI with the held low half (R11, R36). -/
def wakeWrite (m : Master) (hi : Word) (s : State) : State :=
  let s := s.writePair m R.DEV_WAKE_LO R.DEV_WAKE_HI hi
  let s := if s.mode = Mode.dormant ∧ s.wakeSoon = true then { s with dev := { s.dev with waking := true } }
    else s
  s.ack

/-! ## Class-2 tamper (R38, R451) -/

/-- Every cue slot is disarmed. -/
def State.disarmAll (s : State) : State :=
  let units : List CueUnit := [.dev, .tim, .cfg] ++ (List.range 8).map (fun g => CueUnit.cvl (Fin.ofNat 8 g))
  let s := units.foldl (fun (s : State) u =>
    (List.range 8).foldl (fun (s : State) k => s.setBit (u.armedF k) false) s) s
  let s := s.cues.foldl (fun (s : State) c =>
    if 128 ≤ c.1 then s.setBit ((CueUnit.eng (Fin.ofNat 1024 ((c.1 - 128) / 8))).armedF (c.1 % 8)) false
    else s) s
  { s with cues := [] }

/-- Loads, switches, substitutions and transactions are abandoned, and none applies (R38). -/
def State.abandonAll (s : State) : State :=
  let s := (s.setLoader {}).setFld F.PCI_LDR_STATUS_state 0
  let s := (List.range 48).foldl (fun (s : State) p =>
    (s.setPod p {}).setFld (F.CFG_POD_STATE_state p) Sprout.idle) s
  let s := { s with cfg := { s.cfg with fullLive := false, fullWindow := .none, stagedTable := [] } }
  let s := (s.setBit F.DEV_MODE_repair_active false).setBit F.DEV_MODE_update_active false
  let s := { s with dev := { s.dev with subs := 0, halted := false, loadWait := false, gsr := true, launched := false } }
  s.txClear.disarmAll

def State.enginesOff (s : State) : Nat → State
  | 0 => s
  | n + 1 =>
    let s := if s.engState n = EngState.off then s else s.powerDown n
    s.enginesOff n

/-- One tamper_count bit is burned while unburned bits remain. -/
def State.countTamper (s : State) (b : Burn) : State :=
  if s.fuses.tamperCount < 16 ∧ b.ok = true then
    s.setFuses { s.fuses with tamperCount := s.fuses.tamperCount + 1 }
  else s

/-- A class-2 tamper is confirmed: transition 0x13. -/
def zeroise (shield : Bool) (b : Burn) (s : State) : State :=
  if s.mode = Mode.off ∨ s.mode = Mode.zeroised ∨ (shield = false ∧ s.trust.class2 = false) then s
  else
    let s := { s with trust := { s.trust with class2 := false } }
    let s := (s.fault .husk .tamper2 (.unit .husk) 0 (s.fuses.tamperCount + 1)).logEvent .tamper2
      (.unit .husk) 0 (s.fuses.tamperCount + 1)
    let s := s.wipeBegin.eraseKeys.cutSession.countTamper b
    let s := (s.leave Gov.endMode).transition 0x13 Mode.zeroised
    let s := (((s.abandonAll).enginesOff 1024).servoBack .a).servoBack .b
    s.closeBypass.timeStop

/-- The whole-device reset of a life-cycle change (R445), or of recovered firmware (R436). -/
def lifeReset (s : State) : State := if s.trust.resetDue then s.wholeReset else s

/-! ## Cues (R290 to R293) -/

/-- Whether a unit's cue slots take an action (Table 9.1). -/
def CueAction.fits : CueAction → CueUnit → Bool
  | .launch _, .dev => true
  | .husk, .dev => true
  | .serviceSwitch, .tim => true
  | .domainStep _, .tim => true
  | .podSwitch _, .cfg => true
  | .fullSwitch, .dev => true
  | .event, .eng _ => true
  | .sysref, .cvl _ => true
  | .align, .cvl _ => true
  | _, _ => false

/-- A cue slot is armed (R290): held, or refused with a status. -/
def cueArmGo (m : Master) (u : CueUnit) (slot : Nat) (t : Word) (frac : Nat) (a : CueAction) (s : State) :
    State :=
  if a.fits u then
    let r := s.armCue m u slot t frac (a == CueAction.sysref) a
    r.2.ack r.1
  else s.ack Code.unsupported

/-- A cue slot is disarmed by its holder (R290). -/
def cueDisarmGo (m : Master) (u : CueUnit) (slot : Nat) (s : State) : State :=
  if s.mayCue m u slot then ((s.cueClear u slot).settleSlots).ack
  else (s.setFld (u.statusF slot) Code.claimBusy).ack Code.claimBusy

/-- The action of a slot that fires. -/
def State.cueAct (s : State) (u : CueUnit) (slot : Nat) : CueAction → State
  | .launch t => if s.mode = Mode.rendezvous then s.launch t.toNat else s
  | .serviceSwitch => s.boundSwitch
  | .domainStep b => s.boundStep b
  | .podSwitch p => s.podDue p.val
  | .fullSwitch => s.fullSwitch
  | .event => (match u with
    | .eng n => s.raiseEvent n.val (2 + slot)
    | _ => s)
  | .sysref => (match u with
    | .cvl g => s.sysrefFire g.val false
    | _ => s)
  | .align => (match u with
    | .cvl g => s.sysrefFire g.val true
    | _ => s)
  | .husk => s
  | .none => s

/-- A held cue's time is reached: the slot performs its action and disarms (R291, R292). A unit
whose time copy is lost fires nothing (R275). -/
def cueFireGo (u : CueUnit) (slot : Nat) (s : State) : State :=
  if s.cueArmed u slot = true ∧ s.isReached (s.reg (u.timeField slot)) = true ∧
      s.copyLost u.master = false then
    let a := s.cueAction u slot
    let s := (s.cueClear u slot).incFld (u.firedF slot)
    s.cueAct u slot a
  else s

/-- RENDEZVOUS_LAUNCH is the firing of DEV slot 7 with its launch (R31). -/
def launchGo (s : State) : State :=
  match s.cueAction .dev 7 with
  | .launch _ => cueFireGo .dev 7 s
  | _ => s

/-! ## Scrubbers (R401) -/

/-- The scratchpad scrubber of a bank reads its next word. -/
def spmScrub (bank : Nat) (ecc : Ecc) (s : State) : State :=
  if s.spmPower bank = 0 ∧ s.spmChanging bank = false then
    let k := bank * 32768 + (s.lap (lapSpm bank)).next
    (s.spmCheck (bank / 32) k ecc).lapStep (lapSpm bank) 32768
  else s

/-- Whether a lap has been completed within the last second. -/
def Lap.recent (l : Lap) (now : Nat) : Bool :=
  match l.last with
  | some e => decide (now < e.2 + 1000000000)
  | none => false

/-- Memories that have completed no lap in the last second are counted. -/
def stallCheck (s : State) : State :=
  let n (lo hi : Nat) : Nat :=
    (s.laps.filter fun e => decide (lo ≤ e.1) && decide (e.1 < hi) && e.2.recent s.now).length
  let s := s.setFld F.MP_SCRUB_STALLED_engines (1024 - n 4096 5120)
  s.setFld F.MP_SCRUB_STALLED_brams (min 65535 (96 * 384 - n 65536 (65536 + 96 * 384)))

/-! ## Meanings -/

/-- R27. -/
def execVhuskWithinRange (s : State) : Out := .next (huskPowerGood s)
/-- R27. -/
def execVhuskBelowRange (s : State) : Out := .next (huskPowerLost s)
/-- R27, R436. -/
def execWholeDeviceResetReleased (s : State) : Out := .next (bootStart s)
/-- R27. -/
def execWholeDeviceReset (s : State) : Out := .next s.wholeReset
/-- R27, R289, R435. -/
def execFirmwareVerified (s : State) : Out := .next (firmwareStart s)
/-- R29. -/
def execPf0Ready (s : State) : Out := .next (pf0Up s)
/-- R28. -/
def execPerstAsserted (s : State) : Out := .next (perstOn s)
/-- R437. -/
def execPerstDeasserted (s : State) : Out := .next (perstOff s)
/-- R29. -/
def execLoadWaitExpiry (s : State) : Out := .next (loadWaitEnd s)
/-- R30, R361, R372. -/
def execDramTrainingDone (p : Population) (s : State) : Out := .next (trained p s)
/-- R31. -/
def execDoneSampledHigh (s : State) : Out := .next (doneHigh s)
/-- R31. -/
def execRendezvousLaunch (s : State) : Out := .next (launchGo s)
/-- R32. -/
def execRdvTimeoutExpiry (s : State) : Out := .next (rdvTimeout s)
/-- R32. -/
def execDevRdvForce (_m : Master) (s : State) : Out := .next (rdvForce s)
/-- R32. -/
def execDevRdvTimeoutWrite (_m : Master) (ms : BitVec 16) (s : State) : Out := .next (rdvWrite ms.toNat s)
/-- R35, R36. -/
def execDormantEnter (_m : Master) (s : State) : Out := .next (dormantGo s)
/-- R36. -/
def execDormantExit (_m : Master) (s : State) : Out := .next (dormantEnd s)
/-- R36. -/
def execDormantWakeBegin (s : State) : Out := .next (wakeBegin s)
/-- R36, R143. -/
def execServiceRestored (s : State) : Out := .next (restored s)
/-- R36. -/
def execDevWakeWrite (m : Master) (hi : Word) (s : State) : Out := .next (wakeWrite m hi s)
/-- R445. -/
def execLifecycleReset (s : State) : Out := .next (lifeReset s)
/-- R38, R451. -/
def execTamperClass2Confirm (shield : Bool) (b : Burn) (s : State) : Out := .next (zeroise shield b s)
/-- R427. -/
def execPcieLinkLoss (s : State) : Out := .next (linkLoss s)
/-- R3. -/
def execPcieLinkUp (width : Fin 5) (speed : Fin 6) (s : State) : Out :=
  .next (linkTrained width.val speed.val s)
/-- R290, R291. -/
def execCueArm (m : Master) (u : CueUnit) (slot : Fin 8) (t : Word) (frac : BitVec 4) (a : CueAction)
    (s : State) : Out := .next (cueArmGo m u slot.val t frac.toNat a s)
/-- R290. -/
def execCueDisarm (m : Master) (u : CueUnit) (slot : Fin 8) (s : State) : Out :=
  .next (cueDisarmGo m u slot.val s)
/-- R291, R292. -/
def execCueFire (u : CueUnit) (slot : Fin 8) (s : State) : Out := .next (cueFireGo u slot.val s)
/-- R401. -/
def execSpmScrubCycle (bank : Fin 512) (ecc : Ecc) (s : State) : Out := .next (spmScrub bank.val ecc s)
/-- R401. -/
def execScrubStallCheck (s : State) : Out := .next (stallCheck s)

end Sys2Proof.Machine
end

