-- ==== Sys2Proof/Machine/Bus.lean ====
section
/-! DEFINITION. Access to control register space (R7 to R11, R18, R22, R23, Table 0.4): what a
write of each register does, and what a read returns. -/

namespace Sys2Proof.Machine

/-! ## Wide values (R11) -/

/-- The _LO registers of wide values, and the first words of the pairs that are read as one:
offset, count and stride. -/
def wideRows : List (Nat × Nat × Nat) :=
  [(R.DEV_WAKE_LO, 1, 4), (R.TIM_SVC_NS_LO, 1, 4), (R.TIM_SVC_OFFSET_LO, 1, 4),
   (R.TIM_x_ADJ_LO 0, 2, 0x100), (R.TIM_x_NS_LO 0, 2, 0x100), (R.TIM_x_PPS_NS_LO 0, 2, 0x100),
   (R.TIM_x_PPS_TOD_LO 0, 2, 0x100), (R.TXU_STAGE_ADDR_LO, 1, 4), (R.QE_DESC_BASE_LO, 5, 8),
   (R.MC_UE_ADDR_LO 0, 8, 0x10000), (R.MP_SWEEP_PTR_LO, 1, 4), (R.CVL_G_LMFC_NS 0, 8, 0x8000),
   (R.CVL_G_DEVCLK_NS 0, 8, 0x8000), (R.PCI_LDR_SRC_LO, 1, 4), (R.PCI_APERTURE_LO, 1, 4),
   (R.DBG_FREEZE_PODS_LO, 1, 4)]

/-- Whether `off` is the low half of a wide value. -/
def isLo (off : Nat) : Bool :=
  wideRows.any fun r => decide (r.1 ≤ off) && decide ((off - r.1) / r.2.2 < r.2.1) && (off - r.1) % r.2.2 == 0

/-- Whether `off` is the high half of a wide value. -/
def isHi (off : Nat) : Bool := decide (4 ≤ off) && isLo (off - 4)

/-- The other words that a read of `off` latches: the high half, and the fraction of a time. -/
def latchedWith (off : Nat) : List Nat :=
  if off = R.TIM_SVC_NS_LO ∨ off = R.TIM_x_NS_LO 0 ∨ off = R.TIM_x_NS_LO 1 then [off + 4, off + 8]
  else if isLo off then [off + 4] else []

/-- The writable bits of a row that go with a wide value whose two words share one heading. -/
def wideMask (off rw : Nat) : Nat :=
  if off = R.TXU_STAGE_ADDR_HI then 0xFF00FFFF
  else if off = R.QE_DESC_BASE_HI ∨ off = R.QE_POOL_BASE_HI ∨ off = R.QE_LINK_BASE_HI then 0xFFFF
  else if off = R.QE_POOL_SIZE_HI then 0x3
  else if off = R.DBG_FREEZE_PODS_HI then 0xFFFF
  else rw

/-! ## Plain writes (R8) -/

def ofMask (n : Nat) : Word := BitVec.ofNat 32 n

/-- A word after a write of `w`: RW and RWS bits are set, W1C bits cleared, W1S bits set; the
other bits are as they were (R8, R10). -/
def RegRow.written (r : RegRow) (off : Nat) (old w : Word) : Word :=
  let rw := ofMask (wideMask off (r.rw ||| r.rws))
  ((((old &&& ~~~rw) ||| (w &&& rw)) &&& ~~~(w &&& ofMask r.w1c)) ||| (w &&& ofMask r.w1s))

/-- A write of a register that has no effect beyond its access codes (R8); a low half is held
until the high half is written by the same source (R11). -/
def plainWrite (m : Master) (r : RegRow) (off : Nat) (w : Word) (s : State) : State :=
  let s := if r.sh = 0 then s else s.setShadow off (w &&& ofMask r.sh)
  if isLo off then
    (if (r.rw ||| r.rws) = 0 then s.ack else (s.setHeld m off (some (w &&& ofMask (r.rw ||| r.rws)))).ack)
  else if isHi off then
    (if (r.rw ||| r.rws) = 0 then s.ack
     else if r.src then
       let s := match s.heldLo m (off - 4) with
         | some l => (s.setSrcReg m (off - 4) l).setHeld m (off - 4) none
         | none => s
       (s.setSrcReg m off (r.written off (s.srcReg m off) w)).ack
     else (s.writePair m (off - 4) off (r.written off (s.reg off) w)).ack)
  else if r.src then (s.setSrcReg m off (r.written off (s.srcReg m off) w)).ack
  else (s.setReg off (r.written off (s.reg off) w)).ack

/-- A write of a claim register (R39, R42): a release is processed before a claim. -/
def claimWrite (m : Master) (off : Nat) (w : Word) (s : State) : State :=
  let s := if w.getLsbD 30 then (releaseAt m off s).settleSlots else s
  if w.getLsbD 31 then claimAt m off s else s.ack

/-! ## DEV, CLK and PIN -/

/-- DEV_DORMANT: enter and exit (R35, R36); keep_ports is part of a write that is not refused. -/
def dormantWrite (w : Word) (s : State) : State :=
  let put := fun (s : State) => s.setFld F.DEV_DORMANT_keep_ports (bitsOf w 8 8)
  if w.getLsbD 31 then
    (let t := dormantGo (put s)
     if t.fld F.DEV_REQ_STATUS_status = 0 then t
     else t.setFld F.DEV_DORMANT_keep_ports (s.fld F.DEV_DORMANT_keep_ports))
  else if w.getLsbD 30 then dormantEnd (put s)
  else (put s).ack

def busDev (m : Master) (r : RegRow) (off : Nat) (w : Word) (s : State) : State :=
  if 0x1000 ≤ off then
    (if claimIndexOk ((off - 0x1000) / 4) then claimWrite m off w s else s.decodeError Unit.dev m)
  else if off = R.DEV_DORMANT then dormantWrite w s
  else if off = R.DEV_WAKE_HI then wakeWrite m w s
  else if off = R.DEV_RESET_POLICY then
    ((s.setFld F.DEV_RESET_POLICY_perst_scope (bitsOf w 0 1)).setFld F.DEV_REQ_STATUS_status 0).ack
  else if off = R.DEV_RDV then
    (if w.getLsbD 31 then
       (if s.mode = Mode.rendezvous ∧ s.bit F.DEV_RDV_timed_out = true then rdvForce (rdvWrite (bitsOf w 0 16) s)
        else rdvForce s)
     else (rdvWrite (bitsOf w 0 16) s).setFld F.DEV_REQ_STATUS_status 0)
  else plainWrite m r off w s

def busClk (m : Master) (r : RegRow) (off : Nat) (w : Word) (s : State) : State :=
  if off = R.CLK_SYS then
    (if m.same .husk then plainWrite m r off w s
     else s.refuse F.CLK_SRC_STATUS_last_status Code.claimBusy)
  else if 0x11000 ≤ off then
    (let i := (off - 0x11000) % 64 / 4
     if i ≤ 10 then fpllWrite m ((off - 0x11000) / 64) i w s else s.ack)
  else s.ack

def busPin (m : Master) (off : Nat) (w : Word) (s : State) : State :=
  if 0x21000 ≤ off then
    (let k := (off - 0x21000) / 8
     if off % 8 = 0 then pinFuncWrite m k w s else pinElec m k w s)
  else if 0x20300 ≤ off then
    (let b := (off - 0x20300) / 16
     let d := BitVec.ofNat 24 w.toNat
     if off % 16 = 0 then pinOut m b .out d s
     else if off % 16 = 4 then pinOut m b .set d s
     else pinOut m b .clr d s)
  else if off = R.PIN_APPLY then (if w.getLsbD 31 then pinApplyGo m (bitsOf w 0 9) s else s.ack)
  else s.ack

/-! ## TIM -/

/-- Whether Table 8.3 names both source codes. -/
def sourceCodesOk (w : Word) : Bool :=
  decide (bitsOf w 28 4 ≤ 9) && (bitsOf w 22 6 == 0 || decide (32 ≤ bitsOf w 22 6))

/-- TIM_x_CTRL (R268, R273). -/
def timCtrl (m : Master) (x : Dom) (w : Word) (s : State) : State :=
  if !s.isServo m x.isB then s.refuse x.statusF Code.servoHeld
  else if !sourceCodesOk w then s.refuse x.statusF Code.invalidArgument
  else
    let s := s.setReg (R.TIM_x_CTRL x.idx) (w &&& 0xFFE00000#32)
    let p := bitsOf w 28 4
    if 1 ≤ p ∧ p ≤ 8 ∧ s.bit (F.NTL_PB_TS_dom (p - 1)) ≠ x.isB then
      ((s.setBit (F.TIM_x_STATE_src_ok x.idx) false).setFld x.statusF Code.noSource).ack
    else s.ack

/-- TIM_x_ADJ_CTRL (R266). -/
def adjCtrl (m : Master) (x : Dom) (w : Word) (s : State) : State :=
  if !s.isServo m x.isB then s.refuse x.statusF Code.servoHeld
  else
    let s := if w.getLsbD 30 then adjustCancelGo m x s else s
    if w.getLsbD 31 then
      (if w.getLsbD 28 then adjustSlewGo m x (bitsOf w 0 20) s
       else
         let t := adjustStepGo m x (w.getLsbD 27) (Fin.ofNat 8 (bitsOf w 24 3)) s
         if t.fld x.statusF = 0 then t.setFld (F.TIM_x_ADJ_CTRL_rate_ns_s x.idx) (bitsOf w 0 20) else t)
    else
      let f := R.TIM_x_ADJ_CTRL x.idx
      (s.setReg f ((s.reg f &&& 0xE0000000#32) ||| (w &&& 0x1F0FFFFF#32))).ack

/-- A domain's state set by the holder of its servo (R273); a bound of LOCKED and ACQUIRING is
the holder's to know, and a free value here. -/
def ownerState (x : Dom) (st : Nat) (s : State) : State :=
  if s.domState x.isB = st then s
  else
    let f := s.free
    if st = DomState.holdover then f.2.enterHoldover x.isB (BitVec.ofNat 32 f.1)
    else
      let t := f.2.setDomState x.isB st
      if st = DomState.free then t.unknownTeb x.isB else t.setTeb x.isB (f.1 % 2 ^ 32)

/-- TIM_x_OWNER (R273, R274). -/
def ownerWrite (m : Master) (x : Dom) (w : Word) (s : State) : State :=
  let st := bitsOf w 0 4
  let taken := (s.dom x.isB).holder.isSome
  let own := F.TIM_x_OWNER_owner_state x.idx
  if !s.isServo m x.isB && (w.getLsbD 31 || s.fld own != st) then s.refuse x.statusF Code.servoHeld
  else if taken ∧ DomState.holdover < st then s.refuse x.statusF Code.invalidArgument
  else
    let s := (s.setFld (F.TIM_x_OWNER_wd_ms x.idx) (bitsOf w 4 16)).setFld own st
    let s := if w.getLsbD 31 then s.wdRestart x else s
    (if taken && s.isServo m x.isB then ownerState x st s else s).ack

/-- The pages of the domains. -/
def busDomain (m : Master) (r : RegRow) (x : Dom) (o off : Nat) (w : Word) (s : State) : State :=
  let held := fun (f : State → State) => if s.isServo m x.isB then f s else s.refuse x.statusF Code.servoHeld
  if o = 0 then timCtrl m x w s
  else if o = 8 then incrWrite m x w s
  else if o = 0xC then fineWrite m x (BitVec.ofNat 16 w.toNat) s
  else if o = 0x10 ∨ o = 0x14 ∨ o = 0x54 ∨ o = 0x3C then held (plainWrite m r off w)
  else if o = 0x18 then adjCtrl m x w s
  else if o = 0x34 then
    (let s := if w.getLsbD 30 then servoGiveGo m x s else s
     if w.getLsbD 31 then servoTakeGo m x s else s.ack)
  else if o = 0x38 then ownerWrite m x w s
  else if o = 0x4C then
    (if m.same .husk || s.isServo m x.isB then plainWrite m r off w s else s.refuse x.statusF Code.servoHeld)
  else if o = 0x50 then todArm m x w s
  else s.ack

/-- The pages of the general timers (R288). -/
def busTimer (m : Master) (r : RegRow) (k off : Nat) (w : Word) (s : State) : State :=
  if !s.holds m (R.DEV_CLAIM (0x1C0 + k)) then s.refuse (tmrStatusF k) Code.claimBusy
  else if off % 32 = 0 ∧ (w.getLsbD 30 || w.getLsbD 31) = true then
    let s := if w.getLsbD 30 then timerStop m k s else s
    if w.getLsbD 31 then
      timerStart m k (bitsOf w 24 3) (bitsOf w 16 8) (bitsOf w 11 5) (bitsOf w 4 4) s
    else s
  else if off % 32 = 8 ∧ 1 ≤ w.toNat ∧ w.toNat < 100 then plainWrite m r off 100#32 s
  else plainWrite m r off w s

/-- Whether a PPS offset in 1/16 ns is within ±100 ms. -/
def ppsOffsetOk (w : Word) : Bool := decide (-1600000000 ≤ w.toInt) && decide (w.toInt ≤ 1600000000)

def busTim (m : Master) (r : RegRow) (off : Nat) (w : Word) (s : State) : State :=
  if 0x100800 ≤ off then busTimer m r ((off - 0x100800) / 32) off w s
  else if 0x100400 ≤ off then plainWrite m r off w s
  else if 0x100320 ≤ off then s.ack
  else if 0x100300 ≤ off then claimWrite m off w s
  else if 0x100100 ≤ off then
    busDomain m r (domOf (decide (0x100200 ≤ off))) (off % 0x100) off w s
  else if off = R.TIM_SVC_CTRL then
    (if w.getLsbD 31 then
       selectApply m (w.getLsbD 0) (w.getLsbD 1) (w.getLsbD 8) (w.getLsbD 9) (w.getLsbD 16)
         (Fin.ofNat 8 (bitsOf w 12 3)) s
     else plainWrite m r off w s)
  else if off = R.TIM_SVC_SLEW then plainWrite m r off (BitVec.ofNat 32 (min 100000 (bitsOf w 0 20))) s
  else if off = R.TIM_PPS_CTRL then
    (if bitsOf w 24 2 = 3 ∨ bitsOf w 0 20 = 0 ∨ 500000 < bitsOf w 0 20 then
       s.refuse F.TIM_SVC_REQ_status Code.invalidArgument
     else (plainWrite m r off w s).showPps)
  else if off = R.TIM_PPS_OFFSET then
    (if ppsOffsetOk w then plainWrite m r off w s else s.refuse F.TIM_SVC_REQ_status Code.invalidArgument)
  else if off = R.TIM_PPS_TEB then (plainWrite m r off w s).showPps
  else if off = R.TIM_TEB_LIMIT then (plainWrite m r off w s).showService
  else plainWrite m r off w s

/-! ## TXU and QE -/

def busTxu (m : Master) (r : RegRow) (off : Nat) (w : Word) (s : State) : State :=
  if off = R.TXU_CFG then
    (if bitsOf w 0 16 = 0 then (s.setSrcFld m F.TXU_CMD_RESULT_status Code.invalidArgument).ack
     else
       let s := s.setFld F.TXU_CFG_deadline_us (bitsOf w 0 16)
       let s := if m.same .monitor then (s.setBit F.TXU_CFG_tx_hold (w.getLsbD 31)).refreshHold else s
       s.ack)
  else if off = R.TXU_CMD then
    (let id := bitsOf w 16 8
     match bitsOf w 28 4 with
     | 1 => txOpenGo m (bitsOf w 0 16) true s
     | 2 =>
       let l := if w.getLsbD 27 then Launch.asap else Launch.at (s.srcReg m R.TXU_CMD_LAUNCH)
       txCommitGo m id l true s
     | 3 => txAbortGo m id true s
     | 4 => txQueryGo m id true s
     | 5 => txReleaseGo m id true s
     | _ => s.txResult m true Code.unsupported id)
  else if off = R.TXU_STAGE_DATA then stageData m w s
  else plainWrite m r off w s

/-- The word with its low `n` bits at least `lo`. -/
def atLeast (w : Word) (n lo : Nat) : Word := putBits w 0 n (max lo (bitsOf w 0 n))

/-- Whether queue `q` may be a scheduler's output: empty, no member, no launch queue. -/
def State.outputOk (s : State) (q : Nat) : Bool :=
  let x := s.queue q
  x.entries.isEmpty && !x.member && !x.launch

def busQe (m : Master) (r : RegRow) (off : Nat) (w : Word) (s : State) : State :=
  if 0x1C0000 ≤ off then
    (if w.getLsbD 31 && bitsOf w 0 8 == 0 then s.qeRefuse m Code.invalidArgument else plainWrite m r off w s)
  else if 0x181000 ≤ off then
    (if off % 8 = 4 then plainWrite m r off (atLeast w 16 64) s
     else if w.getLsbD 31 && !s.outputOk (bitsOf w 0 20) then s.qeRefuse m Code.invalidArgument
     else plainWrite m r off w s)
  else if off = R.QE_CTRL then (if w.getLsbD 0 then qeEnableGo m s else qeDisableGo m s)
  else if R.QE_DESC_BASE_LO ≤ off ∧ off ≤ R.QE_POOL_SIZE_HI then
    (if s.bit F.QE_CTRL_enable then s.qeRefuse m Code.notPermitted else plainWrite m r off w s)
  else if off = R.QE_LAUNCH_CFG then plainWrite m r off (atLeast w 8 2) s
  else if off = R.QE_DESC_CMD then
    match bitsOf w 0 3 with
    | 1 => descRead m s
    | 2 => descWrite m s
    | 3 => descStage m s
    | 4 => descFlush m s
    | _ => s.qeRefuse m Code.unsupported
  else plainWrite m r off w s

/-! ## NOC, MC, MP and SPM -/

/-- NOC_LINK (R216, R218): the down link retrains, the marginal mark is cleared. -/
def linkWrite (l : Nat) (w : Word) (s : State) : State :=
  let s := s.setFld (F.NOC_LINK_ce_limit l) (bitsOf w 0 16)
  let s := if w.getLsbD 30 && s.bit (F.NOC_LINK_marginal l) then
      (s.setBit (F.NOC_LINK_marginal l) false).setFld F.NOC_STATUS_links_marginal
        (s.fld F.NOC_STATUS_links_marginal - 1)
    else s
  if w.getLsbD 29 then linkRetrain (l / 4) (l % 4) s else s.ack

def busNoc (m : Master) (r : RegRow) (off : Nat) (w : Word) (s : State) : State :=
  if off = R.NOC_REQ_TIMEOUT then plainWrite m r off (atLeast w 16 16) s
  else if off = R.NOC_RT_SEL then plainWrite m r off w (s.setHeldRoute m none)
  else if 0x210000 ≤ off ∧ off < 0x220000 then
    (let e := (off - 0x210000) / 16
     let i := off % 16 / 4
     if i = 0 then routeValidate m e w s else routeWord m e (i - 1) w s)
  else if 0x230000 ≤ off ∧ off < 0x231000 then linkWrite ((off - 0x230000) / 4) w s
  else plainWrite m r off w s

/-- A controller that a 4-way population leaves unpopulated. -/
def State.mcAbsent (s : State) (mc : Nat) : Bool :=
  decide (4 ≤ mc) && s.fld F.MCG_MAP_capacity_gib != 0 && !s.ways8

/-- The mapping registers, in MC0's page (R363 to R365). -/
def busMcg (m : Master) (r : RegRow) (off : Nat) (w : Word) (s : State) : State :=
  if !(m.same .husk) || s.bit F.DEV_MODE_dram_ready then (s.mcStatus 0 Code.notPermitted).ack
  else if R.MCG_HASH 0 ≤ off ∧ !maskOk s.rowLo s.rowBits w then (s.mcStatus 0 Code.invalidArgument).ack
  else plainWrite m r off w s

def busMc (m : Master) (r : RegRow) (off : Nat) (w : Word) (s : State) : State :=
  let mc := (off - 0x300000) / 0x10000
  let o := off % 0x10000
  if s.mcAbsent mc then s.ack
  else if 0x8000 ≤ o then busMcg m r off w s
  else if o = 0x10 then
    let s := plainWrite m r off (atLeast w 8 1) s
    if w.getLsbD 31 then retrainAll mc s else s
  else if o = 0x20 then plainWrite m r off (atLeast w 16 256) s
  else if o = 0x34 then s.ack
  else if o = 0x38 then
    (if w.getLsbD 31 then s.setReg off (s.reg off &&& 0x7FFFFFFF#32) else s).ack
  else if o = 0x50 then spareGo m mc w s
  else plainWrite m r off w s

def busMp (m : Master) (r : RegRow) (off : Nat) (w : Word) (s : State) : State :=
  if 0x381000 ≤ off then
    (let k := (off - 0x381000) / 32
     let o := off % 32
     if o = 0 ∨ o = 4 then rangeWrite m k off 0x07FFFFFF#32 w s
     else if o = 8 then rangeCfg m k w s
     else if o = 0x10 then rangeWrite m k off 0x3FFFFFFF#32 w s
     else s.ack)
  else if off = R.MP_DEFAULT then policyWrite none (bitsOf w 26 2) (bitsOf w 24 2) s
  else if off = R.MP_SWEEP then sweepGo m w s
  else if off = R.MP_RETIRE_POLICY then
    (if m.same .husk then plainWrite m r off w s else (s.mpStatus Code.notPermitted).ack)
  else if off = R.MP_SCRUB_CFG then plainWrite m r off (atLeast w 8 1) s
  else plainWrite m r off w s

/-- SPM_SET_CFG (R409 to R411): a refused mode or power leaves the whole word. -/
def setCfgWrite (set : Nat) (w : Word) (s : State) : State :=
  let lin := w.getLsbD 31
  let t := spmSetMode set lin s
  if t.spmLinear set ≠ lin then t
  else
    let t := t.setBit (F.SPM_SET_CFG_keep_on set) (w.getLsbD 30)
    if lin || s.fld (F.SPM_SET_CFG_power set) == bitsOf w 0 2 then t.ack
    else
      let u := spmSetPower set (bitsOf w 0 2) t
      if u.fld (F.SPM_SET_CFG_power set) = bitsOf w 0 2 then u
      else s.spmRefuse (u.fld F.SPM_STATUS_last_status)

def busSpm (off : Nat) (w : Word) (s : State) : State :=
  if 0x401000 ≤ off then spmBankPower ((off - 0x401000) / 4) (bitsOf w 0 2) s
  else if 0x400100 ≤ off ∧ off < 0x400200 then setCfgWrite ((off - 0x400100) / 4) w s
  else s.ack

/-! ## MBX -/

/-- A write of MBX_SEND.go; a fragment of a monitor request is acknowledged at once (R476). -/
def mbxSendWrite (m : Master) (k : Nat) (s : State) : State :=
  let t := mbxSendGo m k s
  if s.mbxIsPending k then t else t.monFragment k

def busMbx (m : Master) (r : RegRow) (off : Nat) (w : Word) (s : State) : State :=
  let k := (off - 0x440000) / 0x100
  let o := off % 0x100
  if 0x40 ≤ o then mbxMessage m k ((o - 0x40) / 4) w s
  else if o = 0 then mbxConfig m k w s
  else if o = 8 then (if w.getLsbD 31 then mbxSendWrite m k s else s.ack)
  else if o = 0xC then mbxAckWrite m k (bitsOf w 16 16) (bitsOf w 0 16) s
  else if o = 0x14 then (mbxClear k w s).ack
  else if o = 0x18 then (mbxRing k w s).ack
  else if o = 0x1C then (mbxMask k w s).ack
  else plainWrite m r off w s

/-! ## CVL and NTL -/

/-- CVL_G_SYSREF: a write begins its mode anew (R324). -/
def sysrefWrite (m : Master) (r : RegRow) (g off : Nat) (w : Word) (s : State) : State :=
  let s := s.setCvGroup g { s.cvGroup g with once := false }
  plainWrite m r off w s

def busLink (m : Master) (r : RegRow) (g k o off : Nat) (w : Word) (s : State) : State :=
  if o = 0xC then
    let s := plainWrite m r off w s
    let s := if w.getLsbD 30 then linkApply g k s else s
    if w.getLsbD 29 then linkResync g k s else s
  else plainWrite m r off w s

def busCvl (m : Master) (r : RegRow) (off : Nat) (w : Word) (s : State) : State :=
  let lane := (off - 0x500000) / 0x1000
  let g := (off - 0x500000) / 0x8000
  let o := off % 0x1000
  if o = 0 then laneCtrl lane w s
  else if o = 8 then tapsWrite lane w s
  else if o = 0x20 then laneTest m lane w s
  else if o = 0x30 then (if w.getLsbD 31 then eyeGo lane w s else plainWrite m r off w s)
  else if 0x300 ≤ o ∧ o < 0x320 then claimWrite m off w s
  else if o = 0x800 then groupPll g w s
  else if o = 0x808 then sysrefWrite m r g off w s
  else if o = 0x80C then
    (if w.getLsbD 30 then cueDisarmGroup m g w s
     else if w.getLsbD 31 then cueArmGroup m g w s
     else plainWrite m r off w s)
  else if 0x900 ≤ o then busLink m r g ((o - 0x900) / 64) (o % 64) off w s
  else plainWrite m r off w s

def busNtl (m : Master) (r : RegRow) (off : Nat) (w : Word) (s : State) : State :=
  if 0x610000 ≤ off then
    (let lane := (off - 0x610000) / 0x100
     if off % 0x100 = 0 then ntlTaps lane w s else plainWrite m r off w s)
  else if 0x601000 ≤ off then
    (let b := (off - 0x601000) / 0x1000
     let o := off % 0x1000
     if o = 0 then blockCtrl b w s
     else if 8 ≤ o ∧ o < 0x18 then rxqWrite b ((o - 8) / 4) w s
     else plainWrite m r off w s)
  else if off = R.NTL_RING then ringWrite w s
  else plainWrite m r off w s

/-! ## PCI, CFG, ERR and DBG -/

def busPci (m : Master) (r : RegRow) (off : Nat) (w : Word) (s : State) : State :=
  if off = R.PCI_LDR_CTRL then ldrCtrl m w s
  else if off = R.PCI_CMD then (if w.getLsbD 31 then cmdGo w s else plainWrite m r off w s)
  else plainWrite m r off w s

/-- CFG_POD_CTRL (R103 to R107): a twin's is not writable (R123). -/
def podCtrl (m : Master) (p : Nat) (w : Word) (s : State) : State :=
  let bind := w.getLsbD 16
  let slot := bitsOf w 12 3
  let carry := w.getLsbD 8
  let q := bitsOf w 0 8
  if !s.podWritable p then s.podRefuse p Code.podBusy
  else if w.getLsbD 30 then podCancelGo p s
  else if w.getLsbD 29 then podResetGo p s
  else if w.getLsbD 31 then podSwitchGo m p bind (Fin.ofNat 8 slot) carry q s
  else (s.podFields p bind slot carry q).ack

def busCfg (m : Master) (r : RegRow) (off : Nat) (w : Word) (s : State) : State :=
  if off = R.CFG_SCRUB_CTRL then
    let s := plainWrite m r off w s
    if w.getLsbD 31 then (priorityGo (bitsOf w 16 7) s).ack else s
  else if 0x700300 ≤ off ∧ off < 0x700320 then claimWrite m off w s
  else if 0x701000 ≤ off ∧ off < 0x704000 ∧ off % 64 = 4 then podCtrl m ((off - 0x701000) / 64) w s
  else plainWrite m r off w s

def busErr (m : Master) (r : RegRow) (off : Nat) (w : Word) (s : State) : State :=
  if off = R.ERR_ACK then ackErr w s
  else if off = R.ERR_REPAIR_CTRL then repairCtrl w s
  else if off = R.ERR_HUSK_CTRL then (if w.getLsbD 31 then handoverGo w s else plainWrite m r off w s)
  else if off = R.ERR_GOV_CTRL then govCtrl w s
  else plainWrite m r off w s

/-- DBG: written only while no block is frozen (R486). -/
def busDbg (m : Master) (r : RegRow) (off : Nat) (w : Word) (s : State) : State :=
  if (r.rw ||| r.rws) = 0 then s.ack
  else if s.bit F.DBG_STATUS_frozen then s.ack Code.notPermitted
  else plainWrite m r off w s

/-! ## ENG -/

/-- The action bits of ENG_CTRL, in the order stop, clear_fault, power_off, power_on. -/
def engActions (n : Nat) (w : Word) (s : State) : State :=
  let s := if w.getLsbD 31 then engStopGo n s else s
  let s := if w.getLsbD 30 then clearFault n s else s
  let s := if w.getLsbD 29 then powerOff n s else s
  (if w.getLsbD 28 then powerOn n s else s).ack

/-- ENG_CTRL (R136, R137, R141). -/
def engCtrl (n : Nat) (w : Word) (s : State) : State :=
  if s.oddOfPair n then (if w.getLsbD 31 then engStopGo n s else s.engRefuse n Code.notPermitted)
  else
    let t := wideWrite n (w.getLsbD 0) s
    if n % 2 = 0 ∧ s.bit (F.ENG_CTRL_wide n) ≠ w.getLsbD 0 ∧ t.bit (F.ENG_CTRL_wide n) ≠ w.getLsbD 0 then t
    else
      let t := if n % 2 = 0 ∧ s.bit (F.ENG_CTRL_wide n) ≠ w.getLsbD 0 then t else s
      let t := (t.setBit (F.ENG_CTRL_wd_action n) (w.getLsbD 9)).setBit (F.ENG_CTRL_exc_action n) (w.getLsbD 8)
      engActions n w t

def busEng (m : Master) (r : RegRow) (off : Nat) (w : Word) (s : State) : State :=
  let n := (off - 0x1000000) / 0x1000
  let o := off % 0x1000
  if o = 0x8 then engCtrl n w s
  else if o = 0xC then (if s.oddOfPair n then s.engRefuse n Code.notPermitted else plainWrite m r off w s)
  else if o = 0x10 then (if w.getLsbD 0 then engApplyGo n s else s.ack)
  else if o = 0x1C then evtClear n (BitVec.ofNat 16 w.toNat) s
  else if o = 0x24 then wdWrite n w s
  else if o = 0x2C then (if m.same .husk then plainWrite m r off w s else s.engRefuse n Code.notPermitted)
  else if o = 0x40 then msgCfg n (bitsOf w 16 6) (bitsOf w 0 14) s
  else if o = 0x48 then msgFree n (bitsOf w 0 6) s
  else if 0x300 ≤ o ∧ o < 0x320 then claimWrite m off w s
  else plainWrite m r off w s

/-! ## Writes -/

/-- A write of the register at `off` in the block that holds it (Table 1.4). -/
def blockWrite (m : Master) (r : RegRow) (off : Nat) (w : Word) (s : State) : State :=
  if 0x1000000 ≤ off then busEng m r off w s
  else if 0x900000 ≤ off then busDbg m r off w s
  else if 0x800000 ≤ off then busErr m r off w s
  else if 0x700000 ≤ off then busCfg m r off w s
  else if 0x680000 ≤ off then busPci m r off w s
  else if 0x600000 ≤ off then busNtl m r off w s
  else if 0x500000 ≤ off then busCvl m r off w s
  else if 0x440000 ≤ off then busMbx m r off w s
  else if 0x400000 ≤ off then busSpm off w s
  else if 0x380000 ≤ off then busMp m r off w s
  else if 0x300000 ≤ off then busMc m r off w s
  else if 0x200000 ≤ off then busNoc m r off w s
  else if 0x180000 ≤ off then busQe m r off w s
  else if 0x140000 ≤ off then busTxu m r off w s
  else if 0x100000 ≤ off then busTim m r off w s
  else if 0x20000 ≤ off then busPin m off w s
  else if 0x10000 ≤ off then busClk m r off w s
  else busDev m r off w s

/-- Whether `off` lies in the DBG block, which the monitor alone reaches (R23). -/
def isDbg (off : Nat) : Bool := decide (0x900000 ≤ off) && decide (off < 0x1000000)

/-- Whether `off` lies in the capture buffer (R487). -/
def inCapture (off : Nat) : Bool := decide (0x910000 ≤ off) && decide (off < 0x918000)

/-- A write of a 32-bit word to control register space (R7, R8, R18, R23); a device without
power answers nothing. -/
def busWrite (m : Master) (off : Nat) (w : Word) (s : State) : State :=
  if s.mode = Mode.off then s
  else if off % 4 ≠ 0 then s.error
  else if isDbg off && m.key != Master.monitor.key then s.decodeError (regUnit off) m
  else if inCapture off then s.ack
  else match rowAt off with
    | none => s.decodeError (regUnit off) m
    | some r => blockWrite m r off w s

/-- R7, R8, R10, R11, R509. -/
def execRegisterWrite (m : Master) (off : BitVec 25) (w : Word) (s : State) : Out :=
  .next (busWrite m off.toNat w s)

end Sys2Proof.Machine
end

