-- ==== Sys2Proof/Machine/View.lean ====
section
/-! DEFINITION. Reading control register space (R7, R8, R11, R18, R23, R480): the value that a
register returns, and what reading it does. -/

namespace Sys2Proof.Machine

/-! ## Values that the block computes -/

/-- The word with bits `lo + n - 1 : lo` showing `v`. -/
def showBits (w : Word) (lo n v : Nat) : Word := putBits w lo n v

/-- A claim register (DEV_CLAIM): the holder's kind and NI over the last status. -/
def State.claimShown (s : State) (off : Nat) : Word :=
  match s.holder off with
  | some h => showBits (showBits (s.reg off) 28 2 h.claimKind) 16 10 h.ni
  | none => s.reg off

/-- PIN_FUNC_k: the live claim state (R496). -/
def State.pinFuncShown (s : State) (k : Nat) : Word :=
  let w := s.reg (R.PIN_FUNC k)
  match s.holder (pinClaim k) with
  | some h => showBits (showBits w 30 2 h.claimKind) 16 10 h.ni
  | none => w

/-- O in nanoseconds, its fraction truncated towards zero. -/
def State.offsetNs (s : State) : BitVec 64 := BitVec.ofInt 64 (s.tim.offset.tdiv (2 ^ 32))

def hiWord (n : Nat) : Word := BitVec.ofNat 32 (n / 2 ^ 32)
def loWord (n : Nat) : Word := BitVec.ofNat 32 n

def viewTim (s : State) (off : Nat) : Word :=
  if off = R.TIM_SVC_NS_LO then s.now32
  else if off = R.TIM_SVC_NS_HI then hiWord s.now
  else if off = R.TIM_SVC_FRAC then loWord s.svc.toNat
  else if off = R.TIM_SVC_OFFSET_LO then loWord s.offsetNs.toNat
  else if off = R.TIM_SVC_OFFSET_HI then hiWord s.offsetNs.toNat
  else if 0x100300 ≤ off ∧ off < 0x100320 then s.claimShown off
  else if 0x100100 ≤ off ∧ off < 0x100300 then
    let d := s.dom (decide (0x100200 ≤ off))
    let o := off % 0x100
    if o = 0x20 then loWord (d.time.toNat / 2 ^ 32)
    else if o = 0x24 then loWord (d.time.toNat / 2 ^ 64)
    else if o = 0x28 then loWord d.time.toNat
    else if o = 0x34 then showBits (s.reg off) 16 10 (d.holder.getD .husk).ni
    else s.reg off
  else s.reg off

/-- The code of a transaction's state (Table 9.2). -/
def TxState.code : TxState → Nat
  | .free => 0
  | .staging => 1
  | .preparing => 2
  | .committed => 3
  | .ended => 4

/-- TXU_TX_STATE: the four words of a transaction. -/
def Tx.word (t : Tx) (i : Nat) : Word :=
  if t.state = .free then 0
  else match i with
    | 0 => BitVec.ofNat 32 (t.state.code * 2 ^ 28 + t.opener.ni * 2 ^ 16 + t.parts.length)
    | 1 => BitVec.ofNat 32 (t.outcome.toNat * 2 ^ 16 + t.detail.toNat)
    | 2 => BitVec.ofNat 32 ((t.subject.map Master.ni).getD 0 * 2 ^ 22 + t.staged)
    | _ => t.tick

def viewTxu (s : State) (off : Nat) : Word :=
  if off = R.TXU_STATUS then
    BitVec.ofNat 32 ((s.txu.txs.filter fun e => e.2.state != .free).length * 2 ^ 16 +
      b2n (s.txu.txs.any fun e => e.2.frozen))
  else if 0x141000 ≤ off then (s.tx ((off - 0x141000) / 16)).word (off % 16 / 4)
  else s.reg off

def viewQe (s : State) (off : Nat) : Word :=
  if off = R.QE_STATUS then BitVec.ofNat 32 (s.qe.assemblies.length * 2 ^ 12 + s.qe.staged.length)
  else if off = R.QE_POOL_FREE_LO then loWord s.poolFree
  else if off = R.QE_POOL_FREE_HI then hiWord s.poolFree
  else s.reg off

/-- The route windows show the entry of the NI the source selected (R209); the directory and the
links' absent bits are fixed (R200). -/
def viewNoc (m : Master) (s : State) (off : Nat) : Word :=
  if 0x210000 ≤ off ∧ off < 0x220000 then
    let e := s.route (s.srcFld m F.NOC_RT_SEL_ni) ((off - 0x210000) / 16)
    match off % 16 / 4 with
    | 0 => e.w0
    | 1 => e.w1
    | 2 => e.w2
    | _ => e.w3
  else if 0x220000 ≤ off ∧ off < 0x221000 then
    let d := Config.niDir ((off - 0x220000) / 4)
    BitVec.ofNat 32 (d.2.toNat * 2 ^ 16 + d.1.toNat)
  else if 0x221000 ≤ off ∧ off < 0x230000 then
    let i := (off - 0x221000) / 4
    BitVec.ofNat 32 (niOfKey (if i < 192 then 0xF0 * 1024 + i else 0xF1 * 1024 + (i - 192)))
  else if 0x230000 ≤ off ∧ off < 0x231000 then
    let l := (off - 0x230000) / 4
    showBits (s.reg off) 28 1 (b2n (neighbour (l / 4) (l % 4)).isNone)
  else s.reg off

/-- The longest last lap among the powered scratchpad banks, in ms (MP_SCRUB_SPM). -/
def State.spmLap (s : State) : Nat :=
  (List.range 512).foldl (fun n b =>
    if s.spmPower b = 0 then max n (((s.lap (lapSpm b)).last.map (·.1)).getD 0 / 1000000) else n) 0

/-- The memory MP_SCRUB_SEL names. -/
def State.scrubSel (s : State) (m : Master) : Nat :=
  let r := s.srcFld m F.MP_SCRUB_SEL_region
  let i := s.srcFld m F.MP_SCRUB_SEL_index
  if s.srcFld m F.MP_SCRUB_SEL_kind = 0 then lapEngine (i + 512 * (r % 2)) else lapBram r i

def viewMp (m : Master) (s : State) (off : Nat) : Word :=
  if off = R.MP_SCRUB_SPM then loWord s.spmLap
  else if off = R.MP_SCRUB_DETAIL then
    let l := s.lap (s.scrubSel m)
    if l.recent s.now then loWord (((l.last.map (·.1)).getD 0) / 1000) else 0xFFFFFFFF#32
  else s.reg off

def viewMbx (s : State) (off : Nat) : Word :=
  if off % 0x100 = 4 then
    showBits (s.reg off) 6 10 (((s.mailbox ((off - 0x440000) / 0x100)).sender.map Master.ni).getD 0)
  else s.reg off

/-- Whole seconds left in the session, a begun second counted whole. -/
def State.sessionLeft (s : State) : Nat :=
  match s.trust.sessionEnd with
  | some t => if s.sessionOpen then min 131071 ((t - s.now + 999999999) / 1000000000) else 0
  | none => 0

def State.trustWord (s : State) : Nat :=
  let burned := (List.range 4).foldl (fun n k => n + 2 ^ k * b2n (s.slotBurned k)) 0
  s.fuses.floor * 2 ^ 24 + s.fuses.tamperCount * 2 ^ 19 + b2n s.fuses.tamperLock * 2 ^ 18 +
    b2n s.unacked * 2 ^ 17 + b2n s.debugOpen * 2 ^ 16 + s.fuses.revoked.toNat * 2 ^ 12 + burned * 2 ^ 8 +
    s.fuses.lifeCycle

def viewPci (s : State) (off : Nat) : Word :=
  if off = R.PCI_TRUST then BitVec.ofNat 32 s.trustWord
  else if off = R.PCI_UNLOCK then showBits (s.reg off) 15 17 s.sessionLeft
  else s.reg off

def viewCfg (s : State) (off : Nat) : Word :=
  if off = R.CFG_STATUS then showBits (s.reg off) 0 1 (b2n s.scrubOn)
  else if 0x700300 ≤ off ∧ off < 0x700320 then s.claimShown off
  else s.reg off

/-- The words of an entry of the collector's table (ERR_ENTRY). -/
def ErrEntry.word (e : ErrEntry) : Nat → Nat
  | 0 => 2 ^ 31 + b2n e.resolved * 2 ^ 30 + e.severity * 2 ^ 26 + e.subject.number * 2 ^ 16 + e.cls.code * 2 ^ 8
  | 1 => e.reporter.ni
  | 2 => b2n e.overflow * 2 ^ 31 + e.count
  | 3 => e.first
  | 4 => e.last
  | 5 => e.detail.toNat
  | _ => e.detail.toNat / 2 ^ 32

def viewErr (m : Master) (s : State) (off : Nat) : Word :=
  if R.ERR_ENTRY0 ≤ off ∧ off ≤ R.ERR_ENTRY6 then
    match s.errEntry (s.srcFld m F.ERR_SEL_index) with
    | some e => loWord (e.word ((off - R.ERR_ENTRY0) / 4))
    | none => 0
  else if off = R.ERR_GOV_LEDGER then loWord s.husk.ledger
  else s.reg off

/-- The page of a pair's odd engine shows the pair's state (R137); ENG_MAP is fixed unless the
engine has moved. -/
def viewEng (s : State) (off : Nat) : Word :=
  let n := (off - 0x1000000) / 0x1000
  let o := off % 0x1000
  let g := s.gov n
  if o = 0 then showBits (s.reg off) 1 1 (b2n (decide (0 < (s.engine g).lock)))
  else if o = 4 then
    showBits (showBits (showBits (s.reg off) 0 4 (s.engState g)) 6 1 (b2n (stInHandler (s.engine g).st))) 7 1
      (b2n (s.isWide n))
  else if o = 0x28 then BitVec.ofNat 32 (s.wdRemain n)
  else if o = 0x2C then
    let w := showBits (s.reg off) 8 8 (n / 8)
    if w.getLsbD 31 then w else showBits w 0 4 (n % 8)
  else if 0x300 ≤ o ∧ o < 0x320 then s.claimShown off
  else s.reg off

def viewPin (s : State) (off : Nat) : Word :=
  if 0x21000 ≤ off ∧ off % 8 = 0 then s.pinFuncShown ((off - 0x21000) / 8)
  else if 0x20300 ≤ off ∧ off < 0x21000 then s.reg (off / 16 * 16)
  else if 0x20100 ≤ off ∧ off < 0x20200 then showBits (s.reg off) 30 1 (b2n (decide (14 ≤ (off - 0x20100) / 4)))
  else s.reg off

def viewCvl (s : State) (off : Nat) : Word :=
  if 0x300 ≤ off % 0x1000 ∧ off % 0x1000 < 0x320 then s.claimShown off else s.reg off

/-- The live value of the register at `off`, as `m` reads it. -/
def shown (m : Master) (off : Nat) (s : State) : Word :=
  if perSource off && !(0x210000 ≤ off && off < 0x220000) then s.srcReg m off
  else if 0x1000000 ≤ off then viewEng s off
  else if 0x900000 ≤ off then s.reg off
  else if 0x800000 ≤ off then viewErr m s off
  else if 0x700000 ≤ off then viewCfg s off
  else if 0x680000 ≤ off then viewPci s off
  else if 0x600000 ≤ off then s.reg off
  else if 0x500000 ≤ off then viewCvl s off
  else if 0x440000 ≤ off then viewMbx s off
  else if 0x400000 ≤ off then s.reg off
  else if 0x380000 ≤ off then viewMp m s off
  else if 0x300000 ≤ off then (if s.mcAbsent ((off - 0x300000) / 0x10000) then resetWord off else s.reg off)
  else if 0x200000 ≤ off then viewNoc m s off
  else if 0x180000 ≤ off then viewQe s off
  else if 0x140000 ≤ off then viewTxu s off
  else if 0x100000 ≤ off then viewTim s off
  else if 0x20000 ≤ off then viewPin s off
  else if 0x10000 ≤ off then s.reg off
  else if 0x1000 ≤ off then s.claimShown off
  else if off = R.DEV_GRADE then BitVec.ofNat 32 gradeByte
  else s.reg off

/-- The value read, with the bits that the block does not set taken from a free value: the
levels of pins driven from outside, the peaking that an adaptive receiver has found (R336), and
the DFE taps. -/
def shownFree (m : Master) (off : Nat) (s : State) : Word × State :=
  let w := shown m off s
  if 0x20200 ≤ off ∧ off < 0x20300 then
    let r := s.bankLevels ((off - 0x20200) / 4)
    (BitVec.ofNat 32 r.1, r.2)
  else if (0x500000 ≤ off ∧ off < 0x540000 ∧ off % 0x1000 = 0xC) ∨ (0x610000 ≤ off ∧ off < 0x680000 ∧ off % 0x100 = 4) then
    if w.getLsbD 31 then
      let f := s.free
      (showBits w 8 4 f.1, f.2)
    else (showBits w 8 4 (bitsOf w 0 4), s)
  else if 0x610000 ≤ off ∧ off < 0x680000 ∧ 0x10 ≤ off % 0x100 then
    let f := s.free
    (showBits w 0 8 f.1, f.2)
  else (w, s)

/-! ## Reads -/

/-- What a read with its side effect leaves of the RC bits of a register (R8). -/
def clearRead (r : RegRow) (off : Nat) (s : State) : State :=
  if r.rc = 0 then s
  else
    let s := s.setReg off (s.reg off &&& ~~~(ofMask r.rc))
    if 0x300100 ≤ off ∧ off < 0x380000 ∧ 0x100 ≤ off % 0x10000 ∧ off % 0x10000 < 0x140 then
      let k := ((off - 0x300000) / 0x10000) * 16 + (off % 0x10000 - 0x100) / 4
      let t := (List.range 16).foldl (fun t d => Table.set zeroNat t (k * 16 + d) 0) s.dram.ceDev
      { s with dram := { s.dram with ceDev := t } }
    else s

/-- A read latches the words that go with the one read, for the reader's NI (R11). -/
def latchAll (m : Master) (s : State) : List Nat → State
  | [] => s
  | o :: l => latchAll m (s.setLatch m o (some (shown m o s))) l

/-- A read of a register that latches nothing for it and has none latched. -/
def readPlain (m : Master) (peek : Bool) (r : RegRow) (off : Nat) (s : State) : State :=
  let s := latchAll m s (latchedWith off)
  let v := shownFree m off s
  let t := if peek then v.2 else clearRead r off v.2
  t.reply (toBytes 4 v.1.toNat)

/-- A read of a register; a word that has been latched for the reader is returned, and the latch
is used up (R11). -/
def readRow (m : Master) (peek : Bool) (r : RegRow) (off : Nat) (s : State) : State :=
  if 0x601000 ≤ off ∧ off < 0x609000 ∧ off % 0x1000 = 0x30 then ts2Read m peek ((off - 0x601000) / 0x1000) s
  else if 0x601000 ≤ off ∧ off < 0x609000 ∧ (off % 0x1000 = 0x34 ∨ off % 0x1000 = 0x38) then
    s.reply (toBytes 4 ((s.latched m off).getD 0).toNat)
  else match s.latched m off with
    | some w => (s.setLatch m off none).reply (toBytes 4 w.toNat)
    | none => readPlain m peek r off s

/-- A word of the capture buffer (R487). -/
def State.captureWord (s : State) (o : Nat) : List Byte :=
  (List.range 4).map fun i => Table.get zeroByte s.mon.capture (o + i)

/-- Whether the register at `off` is one the spec defines: the claim indices of Table 1.8 and no
other. -/
def claimDefined (off : Nat) : Bool :=
  decide (off < 0x1000) || decide (0x10000 ≤ off) || claimIndexOk ((off - 0x1000) / 4)

/-- A read of a 32-bit word of control register space (R7, R8, R18, R23); with `peek` it has no
side effect (R480). -/
def busReadWord (m : Master) (peek : Bool) (off : Nat) (s : State) : State :=
  if s.mode = Mode.off then s
  else if off % 4 ≠ 0 then s.error
  else if isDbg off && m.key != Master.monitor.key then s.decodeError (regUnit off) m
  else if inCapture off then s.reply (s.captureWord (off - 0x910000))
  else match rowAt off with
    | none => s.decodeError (regUnit off) m
    | some r =>
      if !claimDefined off then s.decodeError Unit.dev m
      else if 0x210000 ≤ off ∧ off < 0x220000 ∧ !niPresent (s.srcFld m F.NOC_RT_SEL_ni) then s.error
      else readRow m peek r off s

/-- An ordinary read: the monitor's is a peek (R8). -/
def busRead (m : Master) (off : Nat) (s : State) : State := busReadWord m (m.key == Master.monitor.key) off s

/-- R7, R8, R11. -/
def execRegisterRead (m : Master) (off : BitVec 25) (s : State) : Out := .next (busRead m off.toNat s)

end Sys2Proof.Machine
end

