-- ==== Sys2Proof/Machine/KotinFar.lean ====
section
/-! DEFINITION. Kotin instructions that act on the rest of the device by request packets (R185,
R186, R194 to R196): far loads and stores, atomics and queue operations, and what their responses
do; and the time-out of a request (R223). -/

namespace Sys2Proof.Machine

/-! ## Requests -/

/-- The NI of an engine's cluster. -/
def engNi (n : Nat) : Nat := (engUnit n).ni

/-- A tag that no request or packet of an NI uses; none while all 256 are in use. -/
def State.farTag (s : State) (ni : Nat) : Option (BitVec 8) :=
  ((List.range 256).find? fun t =>
    !(s.noc.requests.any fun q => q.ni.toNat == ni && q.tag.toNat == t) &&
    !(s.noc.flight.any fun f => f.pkt.src.toNat == ni && f.pkt.tag.toNat == t)).map (BitVec.ofNat 8)

/-- A request of an engine on the default entry of its destination, at priority 0. -/
def farPacket (n dst kind : Nat) (tag : BitVec 8) (txid : BitVec 8) (address : Nat) (payload : List Byte)
    (poison : Bool) : Packet :=
  { kind := BitVec.ofNat 4 kind, prio := 0, route := BitVec.ofNat 12 dst, src := BitVec.ofNat 10 (engNi n)
    dst := BitVec.ofNat 10 dst, txid := txid, poison := poison, integ := kindInteg kind
    tag := tag, address := BitVec.ofNat 48 address, dtag := 0, payload := payload
    crc := if kindInteg kind then crc32c payload else 0, fpoison := false }

/-- Packets injected in order; none if the NI sends one of them not. -/
def State.injectAll (s : State) : List Packet → Option State
  | [] => some s
  | p :: l => (s.inject p).bind fun t => t.injectAll l

/-- Engine `n` waits for a response. -/
def State.farWait (s : State) (n : Nat) (x : FarLoad) : State := s.setEngine n { s.engine n with far := some x }

/-- The 48-bit address of a far access (R185). -/
def farAddr (f : KT) (ga : Nat) : Nat := f.imm.toNat % 2 ^ 16 * 2 ^ 32 + ga

/-- Bytes of a far access. -/
def farSize (f : KT) : Nat := if f.mod.getLsbD 0 then 8 else 4

/-- An address that nothing stands at is refused where it is decoded (R18). -/
def State.farUnmapped (s : State) (n : Nat) : State := s.fault (engUnit n) .decode (.unit (engUnit n))

/-- A request that waits for its response: sent with a fresh tag, or stalled until a tag is
free; an address that is unmapped raises BUS_ERROR. -/
def farRequest (n : Nat) (pl : Place) (op : FarOp) (rd : BitVec 6) (mk : Nat → BitVec 8 → Packet) (s : State) :
    Issued :=
  match pl with
  | .unmapped => .ok { state := (s.farUnmapped n).raise n Exc.busError, flow := .wait }
  | _ =>
    match s.farTag (engNi n) with
    | none => .ok { state := s, flow := .stall }
    | some t =>
      match s.inject (mk (s.placeUnit pl).ni t) with
      | none => .error Exc.busError
      | some u => .ok { state := u.farWait n { op := op, rd := rd, tag := t }, flow := .wait }

/-- LDF (R185). -/
def semLdf (n : Nat) (f : KT) (s : State) : Issued := do
  s.gOk n f.a.toNat
  s.gOk n f.d.toNat
  let a := farAddr f (← s.use32 n f.a.toNat)
  let k := farSize f
  need Exc.busError (a % k == 0)
  farRequest n (addrPlace a k) (.load (f.mod.getLsbD 0)) f.d
    (fun dst t => farPacket n dst 2 t 0 a (toBytes 8 (k - 1)) false) s

/-- STF (R185): posted; its response is awaited without a stall. -/
def semStf (n : Nat) (f : KT) (s : State) : Issued := do
  s.gOk n f.a.toNat
  s.gOk n f.d.toNat
  let a := farAddr f (← s.use32 n f.a.toNat)
  let k := farSize f
  need Exc.busError (a % k == 0)
  let g := s.getG n f.d.toNat
  let data := if f.mod.getLsbD 0 then toBytes 8 (toLayout g.w).toNat else toBytes 4 g.w.toNat
  let txid := if f.mod.getLsbD 1 then f.imm.extractLsb' 16 8 else 0#8
  let e := s.engine n
  match addrPlace a k with
  | .unmapped =>
    return { state := (s.farUnmapped n).setEngine n { e with lateErrors := e.lateErrors ++ [e.pc] } }
  | pl =>
    match s.farTag (engNi n) with
    | none => return { state := s, flow := .stall }
    | some t =>
      match s.inject (farPacket n (s.placeUnit pl).ni 1 t txid a data (!g.clean)) with
      | none => .error Exc.busError
      | some u => return { state := u.setEngine n { u.engine n with posted := e.posted ++ [(t, e.pc)] } }

/-- AADD and ASWP (R186): the address must lie in scratchpad. -/
def semAtomic (kind n : Nat) (f : KT) (s : State) : Issued := do
  s.gOk n f.a.toNat
  s.gOk n f.d.toNat
  let a := farAddr f (← s.use32 n f.a.toNat)
  need Exc.busError (a % 4 == 0)
  let g := s.getG n f.d.toNat
  let mk := fun dst t => farPacket n dst kind t 0 a (toBytes 4 g.w.toNat) (!g.clean)
  match addrPlace a 4 with
  | .spm o => farRequest n (.spm o) .atomic f.d mk s
  | _ => .error Exc.busError

/-! ## Queue operations (R194 to R196) -/

/-- Bytes per data word of a packing (Table 5.8). -/
def packBytes (p : Nat) : Nat := if p = 0 then 8 else 4

/-- The bytes of one data word (Table 5.8). -/
def packWord (p : Nat) (w : W36) : List Byte :=
  match p with
  | 0 => toBytes 8 (toLayout w).toNat
  | 1 => toBytes 4 w.toNat
  | _ => toBytes 2 (w.toNat / 4) ++ toBytes 2 (w.toNat / 2 ^ 20)

/-- The data word that bytes spell (Table 5.8). -/
def unpackWord (p : Nat) (b : List Byte) : W36 :=
  match p with
  | 0 => ofLayout (BitVec.ofNat 64 (ofBytes b))
  | 1 => BitVec.ofNat 36 (ofBytes (b.take 4))
  | _ => BitVec.ofNat 36 (ofBytes (b.take 2) * 4 + ofBytes ((b.drop 2).take 2) * 2 ^ 20)

/-- The address field of a QUEUE packet (Table 7.3). -/
def queueAddr (op queue : Nat) (post last : Bool) : Nat := b2n last * 2 ^ 25 + b2n post * 2 ^ 24 + op * 2 ^ 20 + queue

/-- The queue parameters that an instruction takes from Ge (R194). -/
structure QParams where
  queue : Nat
  cls : Nat
  packing : Nat
  len : Nat
  txid : BitVec 8
  post : Bool

def qParams (f : KT) (ge : Nat) : QParams :=
  { queue := ge % 2 ^ 20, cls := ge / 2 ^ 20 % 2 ^ 8, packing := ge / 2 ^ 28 % 4, len := f.imm.toNat % 2 ^ 17
    txid := f.imm.extractLsb' 24 8, post := f.mod.getLsbD 0 }

/-- A packing that is not reserved and a byte length of 1 to 65,536. -/
def QParams.ok (q : QParams) : Bool := q.packing != 3 && decide (1 ≤ q.len) && decide (q.len ≤ 65536)

/-- Data words of `len` bytes. -/
def QParams.words (q : QParams) : Nat := (q.len + packBytes q.packing - 1) / packBytes q.packing

/-- The words an ENQ reads. -/
def State.enqReads (s : State) (n : Nat) (f : KT) (h : Hw) : List DataRead :=
  let q := qParams f ((s.getG n f.a.toNat).w.toNat % 2 ^ 32)
  if q.ok then s.payloadReads n f.p.toNat q.words h else []

/-- The packets of an ENQ: ENQ_BEGIN and the data packets, each poisoned if a word it carries a
part of is (R195, R225, R231). -/
def enqPackets (n dst : Nat) (t : BitVec 8) (q : QParams) (release flow : Nat) (ws : List GReg) : List Packet :=
  let bytes := (ws.flatMap fun w => packWord q.packing w.w).take q.len
  let marks := (ws.flatMap fun w => List.replicate (packBytes q.packing) (!w.clean)).take q.len
  let cut := cutPackets q.len (granulesFor q.len) 0 bytes
  let starts := cut.scanl (fun k b => k + b.length) 0
  let head := toBytes 4 release ++ toBytes 4 flow ++ toBytes 2 (q.len - 1) ++ toBytes 1 q.cls ++ toBytes 5 0
  farPacket n dst 9 t q.txid (queueAddr 0 q.queue q.post false) head false ::
    (cut.zip starts).zipIdx.map fun x =>
      farPacket n dst 9 t q.txid (queueAddr 1 q.queue q.post (x.2 + 1 == cut.length)) x.1.1
        (((marks.drop x.1.2).take x.1.1.length).any id)

/-- Packets sent with a fresh tag; with `wait` the engine waits for the response. -/
def queueRequest (n : Nat) (wait : Option (FarOp × BitVec 6)) (mk : Nat → BitVec 8 → List Packet)
    (after : State → State) (s : State) : Issued :=
  match s.farTag (engNi n) with
  | none => .ok { state := s, flow := .stall }
  | some t =>
    match s.injectAll (mk Unit.qe.ni t) with
    | none => .error Exc.busError
    | some u =>
      match wait with
      | some w => .ok { state := (after u).farWait n { op := w.1, rd := w.2, tag := t }, flow := .wait }
      | none => .ok { state := after u }

/-- ENQ (R194, R195). -/
def semEnq (n : Nat) (f : KT) (h : Hw) (s : State) : Issued := do
  s.gOk n f.a.toNat 3
  s.payloadOk n f
  let q := qParams f (← s.use32 n f.a.toNat)
  let release ← s.use32 n (f.a.toNat + 1)
  let flow ← s.use32 n (f.a.toNat + 2)
  if !q.post then s.gOk n f.d.toNat
  if !q.ok then
    return { state := if q.post then s else s.put32 n f.d.toNat Code.invalidArgument }
  let ws := (s.enqReads n f h).map s.dataAt
  queueRequest n (if q.post then none else some (.status, f.d))
    (fun dst t => enqPackets n dst t q release flow ws) (fun u => u.payloadStep n f q.words) s

/-- QMOV (R194, R195). -/
def semQmov (n : Nat) (f : KT) (s : State) : Issued := do
  s.gOk n f.a.toNat 3
  let q := qParams f (← s.use32 n f.a.toNat)
  let dest := (← s.use32 n (f.a.toNat + 1)) % 2 ^ 20
  if !q.post then s.gOk n f.d.toNat
  queueRequest n (if q.post then none else some (.status, f.d))
    (fun dst t => [farPacket n dst 9 t q.txid (queueAddr 3 q.queue q.post false) (toBytes 8 dest) false]) id s

/-- DEQ (R194, R196). -/
def semDeq (n : Nat) (f : KT) (s : State) : Issued := do
  s.gOk n f.a.toNat 3
  s.gOk n f.d.toNat 4
  s.payloadOk n f
  let q := qParams f (← s.use32 n f.a.toNat)
  if !q.ok then return { state := s.put32 n f.d.toNat Code.invalidArgument }
  queueRequest n (some (.deq f.p f.pm (BitVec.ofNat 2 q.packing), f.d))
    (fun dst t => [farPacket n dst 9 t q.txid (queueAddr 2 q.queue false false) (toBytes 8 (q.len - 1)) false]) id s

/-! ## Responses -/

/-- A halt that waited for the instruction is taken at its boundary (R482). -/
def State.haltLate (s : State) (n : Nat) : State :=
  let e := s.engine n
  if e.haltReq && e.lock == 0 && e.far.isNone then (s.setEngine n { e with haltReq := false }).haltEngine n else s

/-- The instruction that waited completes. -/
def State.farEnd (s : State) (n : Nat) (writes : List (Nat × Nat)) : State :=
  (s.completeAt n 0 .seq [] writes).haltLate n

/-- Data words written by a DEQ, with their tags. -/
def State.putWords (s : State) (x : Nat) : List (Nat × GReg) → State
  | [] => s
  | (a, w) :: l => (s.setDword x a w).putWords x l

/-- The words of a DEQ: a word is poisoned if a granule it takes bytes from is, and every word
if a check fails. -/
def deqWords (packing : Nat) (bytes : List Byte) (marks : List Bool) (bad : Bool) : Nat → List GReg
  | 0 => []
  | k + 1 =>
    let n := packBytes packing
    let p := bad || (marks.take n).any id
    { w := unpackWord packing (bytes.take n), tagH := p, tagL := p } ::
      deqWords packing (bytes.drop n) (marks.drop n) bad k

/-- A DEQ with its result block and all its granules (R196); bytes past the entry's end in the
last word are free. -/
def State.deqEnd (s : State) (n : Nat) (x : FarLoad) (p : BitVec 4) (pm : BitVec 2) (packing : Nat) : State :=
  let st := ofBytes (x.block.take 2)
  if st ≠ 0 then (s.put32 n x.rd.toNat st).farEnd n []
  else
    let num (i k : Nat) : Nat := ofBytes ((x.block.drop i).take k)
    let len := num 12 2 + 1
    let k := (len + packBytes packing - 1) / packBytes packing
    let pad := s.freeBytes (k * packBytes packing - len)
    let s := pad.2
    let bytes := (x.grans.flatMap (·.1)).take len ++ pad.1
    let marks := x.grans.flatMap fun g => List.replicate g.1.length g.2.1
    let ws := deqWords packing bytes marks (x.grans.any (·.2.2)) k
    let addrs := s.ptrRun n p.toNat (s.ptr n p.toNat) k
    let s := s.putWords (ptrEng n p.toNat) (addrs.zip ws)
    let s := if pm = 2 then s.setPtr n p.toNat (s.ptrAhead n p.toNat (s.ptr n p.toNat) k) else s
    let s := s.put32 n x.rd.toNat (k * 65536)
    let s := s.put32 n (x.rd.toNat + 1) (num 4 4)
    let s := s.put32 n (x.rd.toNat + 2) (num 8 4)
    let s := s.put32 n (x.rd.toNat + 3) (num 14 1 * 2 ^ 24 + len)
    s.farEnd n (addrs.map fun a => (ptrEng n p.toNat, a))

/-- The response of a request that engine `n` waits for: its bytes, and whether they are
poisoned or failed their check. -/
def State.farData (s : State) (n : Nat) (x : FarLoad) (bytes : List Byte) (poison crcFail : Bool) : State :=
  let t := s.setEngine n { s.engine n with far := none }
  match x.op with
  | .load eight =>
    let w := if eight then ofLayout (BitVec.ofNat 64 (ofBytes bytes)) else BitVec.ofNat 36 (ofBytes (bytes.take 4))
    (t.putW n x.rd.toNat w (poison || crcFail)).farEnd n []
  | .atomic => (t.putW n x.rd.toNat (BitVec.ofNat 36 (ofBytes (bytes.take 4))) (poison || crcFail)).farEnd n []
  | .status => (t.put32 n x.rd.toNat (ofBytes (bytes.take 2))).farEnd n []
  | .deq p pm k =>
    let y := if x.block = [] then { x with block := bytes } else { x with grans := x.grans ++ [(bytes, poison, crcFail)] }
    if y.grans.length < ofBytes ((y.block.drop 2).take 2) then s.setEngine n { s.engine n with far := some y }
    else t.deqEnd n y p pm k.toNat

/-- An error response to a request that engine `n` waits for (R160, R222). -/
def State.farError (s : State) (n : Nat) : State :=
  ((s.setEngine n { s.engine n with far := none }).raise n Exc.busError).haltLate n

/-- The engine of a cluster whose instruction waits for the response with a tag. -/
def State.farOwner (s : State) (c : Nat) (tag : BitVec 8) : Option (Nat × FarLoad) :=
  ((List.range 8).map (8 * c + ·)).findSome? fun n =>
    match (s.engine n).far with
    | some x => if x.tag = tag then some (n, x) else none
    | none => none

/-- The engine of a cluster that posted the store with a tag, and the store's address. -/
def State.postOwner (s : State) (c : Nat) (tag : BitVec 8) : Option (Nat × BitVec 13) :=
  ((List.range 8).map (8 * c + ·)).findSome? fun n =>
    ((s.engine n).posted.find? fun x => x.1 == tag).map fun x => (n, x.2)

/-- The response to a request of an engine cluster (R185). -/
def State.engineAnswer (s : State) (c : Nat) (tag : BitVec 8) (r : Resp) (crcFail : Bool) : State :=
  match s.farOwner c tag with
  | some (n, x) =>
    (match r with
     | .data b p => s.farData n x b p crcFail
     | _ => s.farError n)
  | none =>
    match s.postOwner c tag with
    | none => s
    | some (n, pc) =>
      let e := s.engine n
      let late := match r with
        | .error _ => e.lateErrors ++ [pc]
        | _ => e.lateErrors
      s.setEngine n { e with posted := e.posted.filter fun x => x.1 != tag, lateErrors := late }

/-- The late error of a posted store, at an instruction boundary (R185). -/
def stfLate (n : Nat) (s : State) : State :=
  let e := s.engine n
  match e.lateErrors with
  | [] => s
  | pc :: l =>
    if s.engState n = EngState.running ∧ e.far = none then
      ((s.setEngine n { e with lateErrors := l }).raiseAt n Exc.busError pc).haltLate n
    else s

/-- A request that has had no response in time completes with an error response (R223), which is
BUS_ERROR for an engine. -/
def requestLate (ni tag : Nat) (s : State) : State :=
  match s.findReq ni tag with
  | none => s
  | some q =>
    if !s.passed q.sent (1000 * s.fld F.NOC_REQ_TIMEOUT_timeout_us) then s
    else
      let s := requestTimeout ni tag s
      match masterAt ni with
      | .engine n => s.engineAnswer (n.val / 8) (BitVec.ofNat 8 tag) (.error 0) false
      | .monitor => s.monAnswer (BitVec.ofNat 8 tag) (.error 0)
      | _ => s

/-! ## Meanings -/

/-- R185. -/
def execLdf (e : Fin 1024) (f : KT) (h : Hw) (s : State) : Out :=
  .next (s.issue e.val (.t .ldf f) h [] (semLdf e.val f))
/-- R185, R295. -/
def execStf (e : Fin 1024) (f : KT) (h : Hw) (s : State) : Out :=
  .next (s.issue e.val (.t .stf f) h [] (semStf e.val f))
/-- R185. -/
def execStfLateError (e : Fin 1024) (s : State) : Out := .next (stfLate e.val s)
/-- R186. -/
def execAadd (e : Fin 1024) (f : KT) (h : Hw) (s : State) : Out :=
  .next (s.issue e.val (.t .aadd f) h [] (semAtomic 3 e.val f))
/-- R186. -/
def execAswp (e : Fin 1024) (f : KT) (h : Hw) (s : State) : Out :=
  .next (s.issue e.val (.t .aswp f) h [] (semAtomic 4 e.val f))
/-- R194, R195. -/
def execEnq (e : Fin 1024) (f : KT) (h : Hw) (s : State) : Out :=
  .next (s.issue e.val (.t .enq f) h (s.enqReads e.val f h) (semEnq e.val f h))
/-- R194, R196. -/
def execDeq (e : Fin 1024) (f : KT) (h : Hw) (s : State) : Out :=
  .next (s.issue e.val (.t .deq f) h [] (semDeq e.val f))
/-- R194, R195. -/
def execQmov (e : Fin 1024) (f : KT) (h : Hw) (s : State) : Out :=
  .next (s.issue e.val (.t .qmov f) h [] (semQmov e.val f))
/-- R223. -/
def execReqTimeout (ni : Fin 768) (tag : BitVec 8) (s : State) : Out :=
  .next (requestLate ni.val tag.toNat s)

end Sys2Proof.Machine
end

