-- ==== Sys2Proof/Machine/Packet.lean ====
section
/-! DEFINITION. Packets at the ends of the NoC: injection by a unit or a design (R87, R205, R206,
R212), delivery at a destination NI (R204, R213, R224 to R227, R234, R295, R313), and responses
(R222, R223); routes moved off a link (R221). -/

namespace Sys2Proof.Machine

/-! ## Injection -/

/-- The packet as its NI forms it: the address of the kinds that have one, and the CRC, generated
or carried (R87, R203). -/
def Packet.formed (p : Packet) (bare keep : Bool) : Packet :=
  let k := p.kind.toNat
  let integ := kindInteg k && !bare
  { p with
    integ := integ, fpoison := false
    address := if k ≤ 4 ∨ k = 9 ∨ k = 0xA then p.address else 0
    crc := if !integ then 0 else if keep then p.crc else crc32c p.payload }

/-- A packet sent, or an error response to its sender. -/
def State.sendOr (s : State) (p : Packet) : State :=
  match s.inject p with
  | some t => t.ack
  | none => s.error

/-- Whether the payload has 1 to 512 bytes (R203). -/
def Packet.sized (p : Packet) : Bool := decide (1 ≤ p.payload.length) && decide (p.payload.length ≤ 512)

/-- The design's answer to a target request: it leaves on VC2 on the default entry (R205, R212); an
answer that comes after 64 µs is discarded (R89). -/
def pointAnswer (a : Nat) (p : Packet) (keep : Bool) (s : State) : State :=
  let x := s.ap a
  let of := fun (q : Packet) => q.src == p.dst && q.tag == p.tag
  match x.opened.find? of with
  | some q =>
    let s := s.setAp a { x with
      opened := x.opened.filter fun r => !of r
      since := x.since.filter fun e => !(e.1 == p.dst && e.2.1 == p.tag) }
    let p := { p with
      prio := if q.prio.toNat < 2 then 4 else 5, route := q.src.setWidth 12, txid := 0 }
    s.sendOr (p.formed (q.kind == 1) keep)
  | none =>
    if x.expired.contains (p.dst, p.tag) then
      (s.setAp a { x with expired := x.expired.filter fun e => e != (p.dst, p.tag) }).ack
    else s.error

/-- A packet that the design sends through access point `a` (R86 to R89, R126, R127). -/
def pointSend (a : Nat) (p : Packet) (keep : Bool) (s : State) : State :=
  let pod := s.apPod a
  let outstanding := (s.noc.requests.filter fun q => q.ni == p.src).length
  if s.podStopped pod || !s.hasDesign a then s
  else if !p.sized || p.kind == 8 then s.error
  else if p.expects && decide (64 ≤ outstanding) then s
  else if s.paired pod && s.isTwin pod then s.twinCompare (s.primaryPoint a) true p.beats
  else
    let t := if s.paired pod then s.twinCompare a false p.beats else s
    let p := { p with poison := p.poison || (t.pod pod).silenced }
    if p.kind == 6 || p.kind == 7 then pointAnswer a p keep t else t.sendOr (p.formed false keep)

/-- A packet that the unit at its source NI sends. -/
def packetGo (p : Packet) (keep : Bool) (s : State) : State :=
  match masterAt p.src.toNat with
  | .accessPoint a => pointSend a.val p keep s
  | .engine _ => if !p.sized || p.kind == 8 then s.error else s.sendOr (p.formed false false)
  | _ => if !p.sized then s.error else s.sendOr (p.formed (p.kind == 6 && !p.integ) false)

/-! ## What becomes of a request -/

/-- The answer to a request whose access has been made: the response of the access as a packet.
An access still without one waits by backpressure; an error code that no rule states is free. -/
def State.answered (s : State) (f : Flight) : State :=
  let p := f.pkt
  let reply := fun (t : State) => { (t.dropFlight f.id) with response := .none }
  match s.response with
  | .none => s
  | r =>
    if !p.expects then reply s
    else match r with
      | .data b poison => reply (s.respondTo p 6 b poison)
      | .ack st => reply (if st = 0 then s.respondBare p else s.errorTo p st.toNat)
      | .error st =>
        if st = 0 then
          let v := s.free
          reply (v.2.errorTo p (v.1 % 65536))
        else reply (s.errorTo p st.toNat)
      | _ => s

/-- A packet discarded with a DECODE record (R204, R227). -/
def State.malformed (s : State) (u : Master) (f : Flight) : State :=
  (s.dropFlight f.id).discardDecode u f.pkt

/-! ## Accesses by address -/

/-- Whether the NI of `u` is one that a place is reached at. -/
def ownsPlace (s : State) (u : Master) : Place → Bool
  | .unmapped => false
  | .dram _ => decide (0x30 ≤ u.key / 1024) && decide (u.key / 1024 < 0x38)
  | .control o =>
    (match regUnit o with
     | .engine n => u.key == (Master.engine n).key
     | v => u.key / 1024 == v.key / 1024)
  | pl => u.key == (s.placeUnit pl).key

/-- Pieces of 8 or 4 bytes of an access of an engine window: the offset of each. -/
def windowPieces (o n : Nat) : Option (Bool × List Nat) :=
  if o % 8 = 0 ∧ n % 8 = 0 then some (true, (List.range (n / 8)).map fun i => o + 8 * i)
  else if o % 4 = 0 ∧ n % 4 = 0 then some (false, (List.range (n / 4)).map fun i => o + 4 * i)
  else none

/-- A read of an engine window, piece by piece; the first error is the response (R20). -/
def State.windowReads (s : State) (m : Master) (e : Nat) (eight : Bool) : List Nat → List Byte → Bool → State
  | [], b, p => s.reply b p
  | o :: l, b, p =>
    let t := windowAccess m e o eight none false .clean .clean s
    match t.response with
    | .data d q => { t with response := .none }.windowReads m e eight l (b ++ d) (p || q)
    | _ => t

def State.windowWrites (s : State) (m : Master) (e : Nat) (eight poison : Bool) : List Nat → List Byte → State
  | [], _ => s.ack
  | o :: l, b =>
    let n := if eight then 8 else 4
    let t := windowAccess m e o eight (some (BitVec.ofNat 64 (ofBytes (b.take n)))) poison .clean .clean s
    match t.response with
    | .ack _ => { t with response := .none }.windowWrites m e eight poison l (b.drop n)
    | _ => t

/-- An access of an engine window (Table 1.3); a failed check leaves data memory poisoned and
discards a write of instruction memory or registers (R224). -/
def windowRequest (u m : Master) (e o n : Nat) (write : Option (List Byte)) (poison crcOk : Bool) (s : State) :
    State :=
  match windowPieces o n with
  | none => s.decodeError u m
  | some (eight, l) =>
    match write with
    | none => s.windowReads m e eight l [] false
    | some b =>
      if !crcOk && decide (0x20000 ≤ o) then s.error Code.invalidArgument
      else s.windowWrites m e eight (poison || !crcOk) l b

/-- A read or write of a control register by a packet (R7, R224): a failed check or poison
discards a write. -/
def controlRequest (u m : Master) (o n : Nat) (write : Option (List Byte)) (poison crcOk : Bool) (s : State) :
    State :=
  if n ≠ 4 ∨ o % 4 ≠ 0 then s.error
  else match write with
    | none => busRead m o s
    | some b =>
      if !crcOk then s.error Code.invalidArgument
      else if poison then (s.fault u .poison (.unit m) Code.poisoned).error Code.poisoned
      else busWrite m o (BitVec.ofNat 32 (ofBytes b)) s

/-- An access by address at the unit `u` (R17 to R21, R224, R225). -/
def placeAccess (u m : Master) (pl : Place) (n : Nat) (write : Option (List Byte)) (poison crcOk : Bool)
    (s : State) : State :=
  match pl with
  | .unmapped => s.decodeError u m
  | .point _ _ => s.decodeError u m
  | .control o => controlRequest u m o n write poison crcOk s
  | .engine e o => windowRequest u m e o n write poison crcOk s
  | .spm o => spmAccess m o n write poison crcOk .clean s
  | .dram a =>
    (match write with
     | none => dramRead m a n s
     | some b => dramWrite m a b poison crcOk s)

/-- Whether a request's check fails where nothing but the packet's own record is to be made; the
DRAM controller and the scratchpad make their own. -/
def State.requestCrc (s : State) (u : Master) (p : Packet) (pl : Place) : State :=
  if !p.crcBad then s
  else match pl with
    | .dram _ => s.niCrcFail u.ni
    | .spm _ => s.niCrcFail u.ni
    | .point _ _ => s
    | _ => s.crcFailed u p

/-! ## Staged writes and messages (R295 to R297) -/

/-- A change carried by a packet is staged: the first one's response waits for JOIN_ACK. -/
def stagePacket (f : Flight) (part m : Master) (c : Change) (s : State) : State :=
  let p := f.pkt
  let id := p.txid.toNat
  let posted := !p.expects
  let r := (s.takeHeld m c).stage id part { change := c, src := m } posted
  match r.1 with
  | .blocked => s
  | .joining =>
    let t := r.2.dropFlight f.id
    t.setStore id part { t.store id part with request := if posted then none else some p }
  | .held => { r.2 with response := .ack 0 }.answered f
  | .refused st => { r.2 with response := .error (BitVec.ofNat 16 st) }.answered f

/-- A WRITE or WRITE_ACK with a transaction ID. -/
def stageWrite (f : Flight) (u m : Master) (s : State) : State :=
  let p := f.pkt
  let n := p.payload.length
  let bad := p.crcBad
  let s := if bad then s.crcFailed u p else s
  match s.stagedWrite m p.address.toNat n (BitVec.ofNat 64 (ofBytes p.payload)) (p.bad || bad) with
  | none => (s.decodeError u m).answered f
  | some (part, c) =>
    match c with
    | .scratch .. => stagePacket f part m c s
    | _ =>
      if bad then (s.error Code.invalidArgument).answered f
      else if p.bad then ((s.fault u .poison (.unit m) Code.poisoned).error Code.poisoned).answered f
      else stagePacket f part m c s

/-! ## Delivery by kind -/

/-- WRITE, WRITE_ACK and READ. -/
def deliverAccess (f : Flight) (u m : Master) (s : State) : State :=
  let p := f.pkt
  let read := p.kind == 2
  let n := if read then ofBytes (p.payload.take 2) + 1 else p.payload.length
  let pl := addrPlace p.address.toNat n
  if read && (p.payload.length != 8 || (p.payload.drop 2).any (· != 0) || decide (512 < n)) then s.malformed u f
  else if !ownsPlace s u pl then (s.decodeError u m).answered f
  else match pl with
    | .point a _ =>
      if p.txid ≠ 0 ∧ !read then stageWrite f u m s
      else
        (match s.pointTake a p with
         | .taken t => t.dropFlight f.id
         | .full => if p.prio.toNat < 4 then s else (s.overrun u p).dropFlight f.id
         | .useless => (s.decodeError u m).answered f)
    | _ =>
      if p.txid ≠ 0 ∧ !read then stageWrite f u m s
      else
        let t := s.requestCrc u p pl
        (placeAccess u m pl n (if read then none else some p.payload) p.bad (!p.crcBad) t).answered f

/-- ATOMIC_ADD and ATOMIC_SWAP (R409): at a scratchpad; a failed check poisons the word. -/
def deliverAtomic (f : Flight) (u m : Master) (s : State) : State :=
  let p := f.pkt
  if p.payload.length ≠ 4 then s.malformed u f
  else
    let s := if p.crcBad then s.crcFailed u p else s
    (spmAtomicOp m p.address.toNat (p.kind == 4) (BitVec.ofNat 32 (ofBytes p.payload)) (p.bad || p.crcBad) .clean
      s).answered f

/-- MESSAGE (R213, R226, R227, Table 9.3). -/
def deliverMessage (f : Flight) (u m : Master) (s : State) : State :=
  let p := f.pkt
  let staged := p.txid ≠ 0 && !f.released &&
    (match u with
     | .engine _ => true
     | .accessPoint _ => true
     | _ => false)
  if staged then
    let r := s.stage p.txid.toNat u
      { change := .message u p.dtag p.payload p.bad p.crcBad, src := m } true
    match r.1 with
    | .blocked => s
    | _ => r.2.dropFlight f.id
  else match s.messageAt u p p.bad p.crcBad with
    | .taken t => (t.messageRecords u p p.crcBad).dropFlight f.id
    | .useless => s.malformed u f
    | .full => if p.prio.toNat < 4 then s else (s.overrun u p).dropFlight f.id

/-- The operation a QUEUE packet names (Tables 7.3 and 7.4); none for a malformed one. The length
of an ENQ_DATA is checked against its assembly by the operation itself. -/
def queueKind (p : Packet) : Option QKind :=
  let b := p.payload
  let num (i k : Nat) : Nat := ofBytes ((b.drop i).take k)
  let last := p.address.getLsbD 25
  let zero := fun (i : Nat) => (b.drop i).all (· == 0)
  let eight := b.length == 8
  match (p.address.toNat / 2 ^ 20) % 16 with
  | 0 =>
    if b.length = 16 ∧ !last then
      some (.begin (BitVec.ofNat 32 (num 0 4)) (BitVec.ofNat 32 (num 4 4)) (BitVec.ofNat 16 (num 8 2))
        (BitVec.ofNat 8 (num 10 1)) (BitVec.ofNat 40 (num 11 5)))
    else none
  | 1 => some (.data b last p.crc p.bad)
  | 2 => if eight && zero 2 && !last then some (.deq (BitVec.ofNat 16 (num 0 2)) none) else none
  | 3 => if eight && !last && decide (num 0 8 < 2 ^ 20) then some (.qmov (BitVec.ofNat 20 (num 0 3)) none) else none
  | 4 => if eight && zero 0 && !last then some (.drop none) else none
  | 5 => if eight && zero 0 && !last then some (.flush none) else none
  | _ => none

/-- QUEUE at the queue engine (R234). -/
def deliverQueue (f : Flight) (u m : Master) (s : State) : State :=
  let p := f.pkt
  let head : QHead :=
    { src := m, tag := p.tag, queue := p.address.extractLsb' 0 20, post := p.address.getLsbD 24, txid := p.txid }
  if !(u.same Unit.qe) || decide (2 ^ 26 ≤ p.address.toNat) then s.malformed u f
  else match queueKind p with
    | none => s.malformed u f
    | some (.data b l c x) =>
      { queueOp { head := head, kind := .data b l c x, pkt := some p } (s.dropFlight f.id) with response := .none }
    | some k =>
      if p.crcBad then (s.crcFailed u p).dropFlight f.id
      else { queueOp { head := head, kind := k, pkt := some p } (s.dropFlight f.id) with response := .none }

/-- TRANSACTION at the TXU (R313). -/
def deliverTx (f : Flight) (u m : Master) (s : State) : State :=
  let p := f.pkt
  let op := p.address.toNat / 2 ^ 20
  let id := p.address.toNat / 2 ^ 12 % 256
  let b := p.payload
  let zero := fun (i : Nat) => (b.drop i).all (· == 0)
  let bad := b.length ≠ 8 ∨ p.address.toNat % 2 ^ 12 ≠ 0
  if !(u.same .txu) || decide bad then s.malformed u f
  else if p.crcBad then (s.crcFailed u p).dropFlight f.id
  else match op with
    | 1 => if zero 2 then (txOpenGo m (ofBytes (b.take 2)) false s).answered f else s.malformed u f
    | 2 =>
      if !zero 5 || decide (2 ≤ ofBytes ((b.drop 4).take 1)) then s.malformed u f
      else
        let l := if ofBytes ((b.drop 4).take 1) = 1 then Launch.asap else .at (BitVec.ofNat 32 (ofBytes (b.take 4)))
        (txCommitGo m id l false s).answered f
    | 3 => if zero 0 then (txAbortGo m id false s).answered f else s.malformed u f
    | 4 => if zero 0 then (txQueryGo m id false s).answered f else s.malformed u f
    | 5 => if zero 0 then (txReleaseGo m id false s).answered f else s.malformed u f
    | _ => s.malformed u f

/-! ## Responses (R222, R223) -/

/-- A response at an access point: taken into the room reserved for it (R213). -/
def State.pointResponse (s : State) (a : Nat) (p : Packet) : State :=
  s.setAp a { s.ap a with inbound := (s.ap a).inbound ++ [p] }

/-- A response given to the unit that sent the request. -/
def State.toRequester (s : State) (p : Packet) : State :=
  match masterAt p.dst.toNat with
  | .accessPoint a => s.pointResponse a.val p
  | .engine n =>
    let t := if p.crcBad then s.crcFailed (.engine n) p else s
    t.engineAnswer (n.val / 8) p.tag p.result p.crcBad
  | .monitor => (if p.crcBad then s.crcFailed .monitor p else s).monAnswer p.tag p.result
  | u =>
    let t := if p.crcBad then s.crcFailed u p else s
    { t with noc := { t.noc with answered := t.noc.answered ++ [(p.dst, p.tag, p.result)] } }

/-- The responses of a DEQ that still follow (Table 7.5). -/
def PendingReq.left (q : PendingReq) (p : Packet) : Nat :=
  if !q.deq || p.kind == 7 then 0
  else if q.more = 0 then ofBytes ((p.payload.drop 2).take 2)
  else q.more - 1

/-- A RESPONSE or ERROR packet at its requester. -/
def responseTake (f : Flight) (s : State) : State :=
  let p := f.pkt
  let n := p.dst.toNat
  let s := s.dropFlight f.id
  match s.findReq n p.tag.toNat with
  | none => s.niLate n
  | some q =>
    let rest := q.left p
    let t := s.dropReq n p.tag.toNat
    let t := if rest = 0 then t
      else { t with noc := { t.noc with requests := t.noc.requests ++ [{ q with more := rest }] } }
    match masterAt n with
    | .accessPoint a =>
      if ((s.ap a.val).lateTags).contains p.tag then
        let x := t.ap a.val
        let t := if rest = 0 then t.setAp a.val { x with lateTags := x.lateTags.filter (· != p.tag) } else t
        t.satFld (F.CFG_POD_DROP_late (t.apPod a.val)) (F.CFG_POD_DROP_overflow (t.apPod a.val))
      else t.toRequester p
    | _ => t.toRequester p

/-! ## Delivery -/

/-- A packet ejected at its destination NI is checked and handed to the unit (R204). While a first
staging of its source waits for JOIN_ACK there, nothing further from it is processed (R296). -/
def deliver (f : Flight) (s : State) : State :=
  let p := f.pkt
  let u := masterAt p.dst.toNat
  let m := masterAt p.src.toNat
  if p.kind == 6 || p.kind == 7 then responseTake f s
  else if s.joinBlocked u m then s
  else match p.kind.toNat with
    | 0 => deliverAccess f u m s
    | 1 => deliverAccess f u m s
    | 2 => deliverAccess f u m s
    | 3 => deliverAtomic f u m s
    | 4 => deliverAtomic f u m s
    | 5 => deliverMessage f u m s
    | 8 => s.dropFlight f.id
    | 9 => deliverQueue f u m s
    | 10 => deliverTx f u m s
    | _ => s.malformed u f

def deliverId (id : Nat) (s : State) : State :=
  match s.findFlight id with
  | some f => if f.ejected then deliver f { s with response := .none } else s
  | none => s

def responseId (id : Nat) (s : State) : State :=
  match s.findFlight id with
  | some f => if f.ejected && (f.pkt.kind == 6 || f.pkt.kind == 7) then responseTake f s else s
  | none => s

/-! ## Routes moved off a link (R221) -/

/-- The change of one entry: the detour's hop words, or en clear where there is none. -/
def State.routeMove (s : State) (c : RouteChange) : Master × Change :=
  let w0 := (s.route c.ni.toNat c.entry.toNat).w0 &&& 0x83FFFFFF#32
  (masterAt c.ni.toNat,
    match c.hops with
    | some h => .route c.ni c.entry w0 (some h.1) (some h.2.1) (some h.2.2)
    | none => .route c.ni c.entry (w0 &&& 0x7FFFFFFF#32) none none none)

/-- NO_SPARE for each route without a detour, with its pair of NIs. -/
def State.noDetours (s : State) : List RouteChange → State
  | [] => s
  | c :: l =>
    (match c.hops with
     | some _ => s
     | none => s.fault .husk .repair (.unit (masterAt c.ni.toNat)) Code.noSpare
        (c.ni.toNat * 1024 + (s.route c.ni.toNat c.entry.toNat).dst)).noDetours l

/-- The husk has computed the new routes: they are staged in one transaction with the ASAP launch;
with no route to move the substitution closes. -/
def rerouteDone (r d : Nat) (changes : List RouteChange) (s : State) : State :=
  if !(s.err.links.any fun l => l.1 == r && l.2.1 == d && l.2.2 == 0) then s
  else if changes.isEmpty then
    let s := { s with err := { s.err with links := s.err.links.filter fun l => !(l.1 == r && l.2.1 == d) } }
    s.closeSub (.link (Fin.ofNat 192 r) (Fin.ofNat 4 d))
  else
    let x := s.huskStage (changes.map s.routeMove)
    if x.1 = 0 then s
    else
      let t := x.2.noDetours changes
      { t with err := { t.err with links := t.err.links.map fun l =>
        if l.1 == r && l.2.1 == d then (r, d, x.1) else l } }

/-! ## Meanings -/

/-- R87, R203, R205, R206, R212, R510. -/
def execPacketInject (p : Packet) (crcKeep : Bool) (s : State) : Out := .next (packetGo p crcKeep s)
/-- R17, R18, R204, R213, R224 to R227, R234, R295 to R297, R313. -/
def execPacketDeliver (id : Nat) (s : State) : Out := .next (deliverId id s)
/-- R213, R222, R223. -/
def execResponseReceive (id : Nat) (s : State) : Out := .next (responseId id s)
/-- R221, R511. -/
def execRerouteComputeDone (r : Fin 192) (d : Fin 4) (changes : List RouteChange) (s : State) : Out :=
  .next (rerouteDone r.val d.val changes s)

end Sys2Proof.Machine
end

