-- ==== Sys2Proof/Machine/Debug.lean ====
section
/-! DEFINITION. The Shoxo monitor's commands (chapter 17): the session and its scope (R449, R473,
R477), reads and writes (R478 to R481), run control (R482 to R486), capture (R487) and the UART
transport (R475, R476). -/

namespace Sys2Proof.Machine

/-! ## Codes and scopes (Table 17.2) -/

def MonCmd.op : MonCmd → Nat
  | .next => 0x00
  | .status => 0x10
  | .read .. => 0x11
  | .take _ => 0x12
  | .write .. => 0x13
  | .halt _ => 0x14
  | .resume _ => 0x15
  | .step .. => 0x16
  | .setBreak .. => 0x17
  | .freeze .. => 0x18
  | .txHold _ => 0x19
  | .capture _ => 0x1A
  | .inject .. => 0x1B
  | .setBaud _ => 0x1C

/-- The bit of the scope that a command needs. -/
def MonCmd.scope : MonCmd → Option Nat
  | .read .. => some 0
  | .write .. => some 1
  | .take _ => some 2
  | .halt _ | .resume _ | .step .. | .setBreak .. | .freeze .. | .txHold _ => some 3
  | .capture _ => some 4
  | .inject .. => some 5
  | .next | .status | .setBaud _ => none

/-! ## Memory and registers (R478, R480, R481) -/

/-- One piece of a READ: a peek of 4 or 8 bytes (R480). -/
def monPeek (a n : Nat) (s : State) : State :=
  match addrPlace a n with
  | .control o => if n = 4 then busReadWord .monitor true o s else s.error
  | .engine e o => windowAccess .monitor e o (n == 8) none false .clean .clean s
  | .spm o => spmAccess .monitor o n none false true .clean s
  | .dram d => dramRead .monitor d n s
  | .point p _ => s.decodeError (.accessPoint (Fin.ofNat 192 p)) .monitor
  | .unmapped => s.decodeError .monitor .monitor

/-- One piece of a WRITE. -/
def monPut (a : Nat) (b : List Byte) (s : State) : State :=
  let n := b.length
  match addrPlace a n with
  | .control o => if n = 4 then busWrite .monitor o (BitVec.ofNat 32 (ofBytes b)) s else s.error
  | .engine e o =>
    if n = 4 ∨ n = 8 then
      windowAccess .monitor e o (n == 8) (some (BitVec.ofNat 64 (ofBytes b))) false .clean .clean s
    else s.error
  | .spm o => spmAccess .monitor o n (some b) false true .clean s
  | .dram d => dramWrite .monitor d b false true s
  | .point p _ => s.decodeError (.accessPoint (Fin.ofNat 192 p)) .monitor
  | .unmapped => s.decodeError .monitor .monitor

/-- The pieces of a READ in order: the status, the bytes and their poison; none while a piece waits. -/
def monPeeks (a n : Nat) : Nat → State → Option (Nat × List Byte × Bool × State)
  | 0, s => some (0, [], false, s)
  | k + 1, s =>
    let t := monPeek a n { s with response := .none }
    match t.response with
    | .data b p => (monPeeks (a + n) n k t).map fun r => (r.1, b ++ r.2.1, p || r.2.2.1, r.2.2.2)
    | .error st => if st = 0 then let v := t.free; some (v.1 % 65536, [], false, v.2) else some (st.toNat, [], false, t)
    | _ => none

/-- The pieces of a WRITE in order, up to the first error. -/
def monPuts (a n : Nat) (b : List Byte) : Nat → State → Option (Nat × State)
  | 0, s => some (0, s)
  | k + 1, s =>
    let t := monPut a (b.take n) { s with response := .none }
    match t.response with
    | .ack st => if st = 0 then monPuts (a + n) n (b.drop n) k t else some (st.toNat, t)
    | .error st => if st = 0 then let v := t.free; some (v.1 % 65536, v.2) else some (st.toNat, t)
    | _ => none

/-- The access point with a design whose window holds an address. -/
def State.monPoint (s : State) (a n : Nat) : Option Nat :=
  match addrPlace a n with
  | .point p _ => if s.hasDesign p && !s.isTwin (s.apPod p) then some p else none
  | _ => none

/-- READ and WRITE of a design's window go out as packets; the reply follows the last answer. -/
def State.monAway (s : State) (x : MonAway) (p : Nat) : Option State :=
  (s.farTag Master.monitor.ni).map fun t => s.monSend p { x with tag := t }

/-- READ. -/
def monReadGo (via : MonVia) (a : Nat) (eight : Bool) (len : Nat) (s : State) : Option State :=
  let n := if eight then 8 else 4
  if len = 0 ∨ 8192 < len ∨ a % n ≠ 0 then some (s.monReply via 0x11 Code.invalidArgument)
  else match s.monPoint a len with
    | some p => s.monAway { via := via, op := 0x11, tag := 0, address := BitVec.ofNat 48 a, left := len } p
    | none => (monPeeks a n ((len + n - 1) / n) s).map fun r =>
        r.2.2.2.monReply via 0x11 r.1 (if r.1 = 0 then r.2.1.take len else []) r.2.2.1

/-- WRITE. -/
def monWriteGo (via : MonVia) (a : Nat) (eight : Bool) (b : List Byte) (s : State) : Option State :=
  let n := if eight then 8 else 4
  if b = [] ∨ 8192 < b.length ∨ a % n ≠ 0 then some (s.monReply via 0x13 Code.invalidArgument)
  else match s.monPoint a b.length with
    | some p => s.monAway { via := via, op := 0x13, tag := 0, address := BitVec.ofNat 48 a, data := b } p
    | none => (monPuts a n b ((b.length + n - 1) / n) s).map fun r => r.2.monReply via 0x13 r.1

/-- TAKE (R481). -/
def monTakeGo (via : MonVia) (a : Nat) (s : State) : State :=
  match addrPlace a 4 with
  | .control o =>
    if o % 4 ≠ 0 then s.monReply via 0x12 Code.invalidArgument
    else
      let t := busReadWord .monitor false o s
      (match t.response with
       | .data b p => t.monReply via 0x12 0 b p
       | .error st =>
         if st = 0 then
           let v := t.free
           v.2.monReply via 0x12 (v.1 % 65536)
         else t.monReply via 0x12 st.toNat
       | _ => t.monReply via 0x12 0)
  | _ => s.monReply via 0x12 Code.invalidArgument

/-! ## Run control (R34, R482 to R486) -/

/-- The modes HALT is entered from, and HALT itself (R34). -/
def haltMode (m : Nat) : Bool :=
  m == Mode.service || m == Mode.fallback || m == Mode.update || m == Mode.repair || m == Mode.halt

/-- HALT. -/
def monHaltGo (via : MonVia) (t : Word) (s : State) : State :=
  if !haltMode s.mode then s.monReply via 0x14 Code.notPermitted
  else if t = 0xFFFFFFFF#32 then s.haltDevice.monReply via 0x14 0
  else if t.toNat < 1024 then (s.haltEngine t.toNat).monReply via 0x14 0
  else s.monReply via 0x14 Code.invalidArgument

/-- RESUME. -/
def monResumeGo (via : MonVia) (t : Word) (s : State) : State :=
  if t = 0xFFFFFFFF#32 then s.resumeDevice.monReply via 0x15 0
  else if t.toNat < 1024 then (s.markResume t.toNat).monReply via 0x15 0
  else s.monReply via 0x15 Code.invalidArgument

/-- A step begins: the engine takes up the state it was halted in, or a start applied meanwhile. -/
def State.stepStart (s : State) (g count : Nat) (via : MonVia) : State :=
  let e := s.engine g
  let s := s.setEngine g { e with passBreak := true, resuming := false }
  let s := match e.startReq with
    | some pc => if e.under = EngState.stopped then s.startAt g pc else s.enter g e.under
    | none => s.enter g e.under
  let s := { s with mon := { s.mon with stepping := some (g, count, via) } }
  let st := s.engState g
  if st = EngState.running ∨ st = EngState.waiting then s.refreshHold else s.haltNow g

/-- STEP (R484): the reply follows when the engine halts again. -/
def monStepGo (via : MonVia) (t : Word) (count : Nat) (s : State) : State :=
  if 1024 ≤ t.toNat ∨ count = 0 then s.monReply via 0x16 Code.invalidArgument
  else
    let g := s.gov t.toNat
    if s.engState g ≠ EngState.halted then s.monReply via 0x16 Code.notHalted
    else s.stepStart g count via

/-- BREAK (R485): an instruction breakpoint names a PC, a watchpoint a range of word addresses. -/
def monBreakGo (via : MonVia) (t : Word) (b : BreakArgs) (s : State) : State :=
  let ok := if b.slot.val < 4 then decide (b.lo.toNat < 8192)
    else decide (b.lo.toNat ≤ b.hi.toNat) && decide (b.hi.toNat < 16384)
  if 1024 ≤ t.toNat ∨ ok = false then s.monReply via 0x17 Code.invalidArgument
  else
    let e := s.engine t.toNat
    let x : Break := {
      enabled := b.enable, kind := BitVec.ofNat 2 (b.kind.val + 1), device := b.device
      lo := b.lo.setWidth 14, hi := b.hi.setWidth 14 }
    (s.setEngine t.toNat { e with breaks := Table.set (fun _ => ({} : Break)) e.breaks b.slot.val x }).monReply via
      0x17 0

/-- FREEZE (R486). -/
def monFreezeGo (via : MonVia) (w lo hi : Word) (s : State) : State :=
  if s.bit F.DBG_STATUS_frozen then s.monReply via 0x18 Code.notPermitted
  else
    (((s.setReg R.DBG_FREEZE (w &&& 0x1E#32)).setReg R.DBG_FREEZE_PODS_LO lo).setReg R.DBG_FREEZE_PODS_HI
      (hi &&& 0xFFFF#32)).monReply via 0x18 0

/-- TX_HOLD (R308). -/
def monHoldGo (via : MonVia) (on : Bool) (s : State) : State :=
  ((s.setBit F.TXU_CFG_tx_hold on).refreshHold).monReply via 0x19 0

/-! ## Capture and injection (R339, R487) -/

/-- The bytes of a list that are not zero, with their places from `o` on. -/
def bytesAt (o : Nat) : List Byte → Table Byte
  | [] => []
  | b :: l => if b = 0 then bytesAt (o + 1) l else (o, b) :: bytesAt (o + 1) l

/-- CAPTURE: the flip-flops and the registers of the region are values of the design, which the model
does not hold. The reply gives the words written. -/
def monCaptureGo (via : MonVia) (r : Word) (s : State) : State :=
  if 96 ≤ r.toNat then s.monReply via 0x1A Code.invalidArgument
  else if !s.podFrozen (s.podOf r.toNat) then s.monReply via 0x1A Code.notHalted
  else
    let v := s.freeBytes 0x5400
    let n := (v.2.mon.captures + 1) % 65536
    let all := v.1 ++ toBytes 4 (n * 65536 + r.toNat)
    { v.2 with mon := { v.2.mon with capture := bytesAt 0 all, captures := n } }.monReply via 0x1A 0
      (toBytes 4 (all.length / 4))

/-- INJECT. -/
def monInjectGo (via : MonVia) (lane : Word) (on : Bool) (s : State) : State :=
  if 64 ≤ lane.toNat then s.monReply via 0x1B Code.invalidArgument
  else (s.setBit (F.CVL_LANE_TEST_inj_live lane.toNat) on).monReply via 0x1B 0

/-- SET_BAUD: the rate changes after the reply. -/
def monBaudGo (via : MonVia) (rate : Word) (s : State) : State :=
  if rate.toNat < 9600 ∨ 3000000 < rate.toNat then s.monReply via 0x1C Code.invalidArgument
  else
    let t := s.monReply via 0x1C 0
    { t with mon := { t.mon with baud := rate.toNat } }

/-! ## Sessions and the order of commands (R449, R473, R475) -/

/-- CONTINUE: the next fragment of the reply that is pending. -/
def monNextGo (via : MonVia) (s : State) : State :=
  if s.mon.reply = [] then s.monReply via 0 Code.invalidArgument else s.monNext via 0

/-- STATUS. -/
def monStatusGo (via : MonVia) (s : State) : State :=
  let word (off : Nat) : List Byte := toBytes 4 (shown .monitor off s).toNat
  s.monReply via 0x10 0 (word R.DBG_STATUS ++ word R.DEV_MODE ++ word R.PCI_UNLOCK)

/-- A command within its session; none while an access of it waits. -/
def monServed (via : MonVia) (c : MonCmd) (s : State) : Option State :=
  match c with
  | .next => some (monNextGo via s)
  | .status => some (monStatusGo via s)
  | .read a e n => monReadGo via a.toNat e n.toNat s
  | .take a => some (monTakeGo via a.toNat s)
  | .write a e b => monWriteGo via a.toNat e b s
  | .halt t => some (monHaltGo via t s)
  | .resume t => some (monResumeGo via t s)
  | .step t n => some (monStepGo via t n.toNat s)
  | .setBreak t b => some (monBreakGo via t b s)
  | .freeze w lo hi => some (monFreezeGo via w lo hi s)
  | .txHold on => some (monHoldGo via on s)
  | .capture r => some (monCaptureGo via r s)
  | .inject l on => some (monInjectGo via l on s)
  | .setBaud r => some (monBaudGo via r s)

/-- A command: outside a session, and outside its scope, it is refused. -/
def monRun (via : MonVia) (c : MonCmd) (s : State) : Option State :=
  if !s.sessionOpen then
    (if s.trust.expired then
       some ({ s with trust := { s.trust with expired := false } }.monReply via c.op Code.sessionExpired)
     else some (s.monReply via c.op Code.debugLocked))
  else match c.scope with
    | some b =>
      if bitAt (s.fld F.DBG_STATUS_scope) b then monServed via c s else some (s.monReply via c.op Code.outOfScope)
    | none => monServed via c s

/-- Whether the next command must wait: for the debug domain, for a step, or for an answer. -/
def State.monBusy (s : State) : Bool :=
  s.mon.stepping.isSome || s.mon.away.isSome || (s.mon.powered && !s.mon.ready)

/-- Commands that wait are executed one at a time in order of arrival. -/
def State.monServe (s : State) : Nat → State
  | 0 => s
  | k + 1 =>
    match s.mon.waiting with
    | [] => s
    | (via, c) :: l =>
      if s.monBusy then s
      else match monRun via c { s with mon := { s.mon with waiting := l } } with
        | some t => t.monServe k
        | none => s

def State.monServeAll (s : State) : State := s.monServe s.mon.waiting.length

/-- In BLANK and PROVISIONED a session of full scope opens at the first command (R473). -/
def State.openByState (s : State) : State :=
  if !s.sessionOpen && decide (s.fuses.lifeCycle ≤ 1) && s.mode != Mode.zeroised then s.openSession 0x3F none else s

/-- A command arrives over a transport. -/
def monDo (via : MonVia) (c : MonCmd) (s : State) : State :=
  if !s.monOpen via || s.mode == Mode.off || s.mode == Mode.held then s
  else
    let t := s.openByState
    { t with mon := { t.mon with waiting := t.mon.waiting ++ [(via, c)] } }.monServeAll

/-- The debug domain operates (R473). -/
def domainReady (s : State) : State :=
  if s.mon.powered && !s.mon.ready then { s with mon := { s.mon with ready := true } }.monServeAll else s

/-! ## UART frames (R475, R476) -/

/-- The operands of a command in the order of Table 17.2: a width that the table does not give is 4
bytes. -/
def monArgs (op : Nat) (b : List Byte) : Option MonCmd :=
  let w (i : Nat) : Word := BitVec.ofNat 32 (ofBytes ((b.drop (4 * i)).take 4))
  let a : BitVec 64 := BitVec.ofNat 64 (ofBytes (b.take 8))
  let n := b.length
  let flag (x : Word) : Bool := decide (x.toNat ≤ 1)
  let size (x : Word) : Bool := x == 4#32 || x == 8#32
  match op with
  | 0x00 => if n = 0 then some .next else none
  | 0x10 => if n = 0 then some .status else none
  | 0x11 =>
    if n = 16 ∧ size (w 2) = true ∧ (w 3).toNat < 65536 then some (.read a (w 2 == 8#32) ((w 3).setWidth 16)) else none
  | 0x12 => if n = 8 then some (.take a) else none
  | 0x13 => if 12 ≤ n ∧ size (w 2) = true then some (.write a (w 2 == 8#32) (b.drop 12)) else none
  | 0x14 => if n = 4 then some (.halt (w 0)) else none
  | 0x15 => if n = 4 then some (.resume (w 0)) else none
  | 0x16 => if n = 8 ∧ (w 1).toNat < 65536 then some (.step (w 0) ((w 1).setWidth 16)) else none
  | 0x17 =>
    if n = 28 ∧ (w 1).toNat < 6 ∧ flag (w 2) = true ∧ (w 3).toNat < 3 ∧ flag (w 4) = true ∧ (w 5).toNat < 65536 ∧
        (w 6).toNat < 65536 then
      let args : BreakArgs := {
        slot := Fin.ofNat 6 (w 1).toNat, enable := w 2 == 1#32, kind := Fin.ofNat 3 (w 3).toNat, device := w 4 == 1#32
        lo := (w 5).setWidth 16, hi := (w 6).setWidth 16 }
      some (.setBreak (w 0) args)
    else none
  | 0x18 => if n = 12 then some (.freeze (w 0) (w 1) (w 2)) else none
  | 0x19 => if n = 4 ∧ flag (w 0) = true then some (.txHold (w 0 == 1#32)) else none
  | 0x1A => if n = 4 then some (.capture (w 0)) else none
  | 0x1B => if n = 8 ∧ flag (w 1) = true then some (.inject (w 0) (w 1 == 1#32)) else none
  | 0x1C => if n = 4 then some (.setBaud (w 0)) else none
  | _ => none

/-- The command of a frame runs: a husk command, or one of the monitor's. -/
def frameRun (via : MonVia) (op : Nat) (b : List Byte) (s : State) : State :=
  let input := some (via, b)
  match op with
  | 1 => s.huskRun 1 input attestRun
  | 2 => s.huskRun 2 input certRun
  | 3 => s.huskRun 3 input challengeRun
  | 4 => s.huskRun 4 input responseRun
  | 5 => s.huskRun 5 input unlockPasswordRun
  | 6 => s.huskRun 6 input lockRun
  | _ =>
    match monArgs op b with
    | some c => monDo via c s
    | none =>
      if op = 0 ∨ (0x10 ≤ op ∧ op ≤ 0x1C) then s.monReply via op Code.invalidArgument
      else s.monReply via op Code.unsupported

/-- A UART frame: 0x7E, the length of header and payload, these two, and the code (Table 17.1). A code that
fails is answered with INVALID_ARGUMENT. -/
def frameTake (f : List Byte) (s : State) : State :=
  let body := (f.drop 3).take (f.length - 7)
  let header := ofBytes (body.take 4)
  let op := header / 2 ^ 24
  let via : MonVia := { uart := true, tag := BitVec.ofNat 8 (header / 2 ^ 16) }
  let len := ofBytes ((f.drop 1).take 2)
  if f.head? ≠ some 0x7E#8 ∨ len < 4 ∨ f.length ≠ len + 7 ∨ 4100 < len then s
  else if !s.monOpen via then s
  else if ofBytes (f.drop (f.length - 4)) ≠ (crc32c body).toNat then s.monReply via op Code.invalidArgument
  else frameRun via op (body.drop 4) s

/-! ## Meanings -/

/-- R476. -/
def execMonContinue (via : MonVia) (s : State) : Out := .next (monDo via .next s)
/-- R477. -/
def execMonStatus (via : MonVia) (s : State) : Out := .next (monDo via .status s)
/-- R478, R480. -/
def execMonRead (via : MonVia) (address : BitVec 64) (eight : Bool) (length : BitVec 16) (s : State) : Out :=
  .next (monDo via (.read address eight length) s)
/-- R481. -/
def execMonTake (via : MonVia) (address : BitVec 64) (s : State) : Out := .next (monDo via (.take address) s)
/-- R478. -/
def execMonWrite (via : MonVia) (address : BitVec 64) (eight : Bool) (data : List Byte) (s : State) : Out :=
  .next (monDo via (.write address eight data) s)
/-- R34, R482. -/
def execMonHalt (via : MonVia) (target : Word) (s : State) : Out := .next (monDo via (.halt target) s)
/-- R483. -/
def execMonResume (via : MonVia) (target : Word) (s : State) : Out := .next (monDo via (.resume target) s)
/-- R484. -/
def execMonStep (via : MonVia) (e : Word) (count : BitVec 16) (s : State) : Out := .next (monDo via (.step e count) s)
/-- R485. -/
def execMonBreak (via : MonVia) (e : Word) (b : BreakArgs) (s : State) : Out := .next (monDo via (.setBreak e b) s)
/-- R486. -/
def execMonFreeze (via : MonVia) (w lo hi : Word) (s : State) : Out := .next (monDo via (.freeze w lo hi) s)
/-- R308. -/
def execMonTxHold (via : MonVia) (on : Bool) (s : State) : Out := .next (monDo via (.txHold on) s)
/-- R487. -/
def execMonCapture (via : MonVia) (region : Word) (s : State) : Out := .next (monDo via (.capture region) s)
/-- R339. -/
def execMonInject (via : MonVia) (lane : Word) (on : Bool) (s : State) : Out := .next (monDo via (.inject lane on) s)
/-- R475. -/
def execMonSetBaud (via : MonVia) (rate : Word) (s : State) : Out := .next (monDo via (.setBaud rate) s)
/-- R475, R476. -/
def execUartFrameReceive (frame : List Byte) (s : State) : Out := .next (frameTake frame s)
/-- R473. -/
def execDebugDomainReady (s : State) : Out := .next (domainReady s)

end Sys2Proof.Machine
end

