-- ==== Sys2Proof/Machine/Host.lean ====
section
/-! DEFINITION. What the host reaches through PF0 (R390, R391, R427, R439, Tables 15.7 and 15.8A). -/

namespace Sys2Proof.Machine

/-- The row of Table 1.4 that a control offset lies in, counted from 0 (R439). -/
def blockRow (off : Nat) : Nat :=
  let starts := [0x10000, 0x20000, 0x100000, 0x140000, 0x180000, 0x200000, 0x300000, 0x380000, 0x400000, 0x440000,
    0x500000, 0x600000, 0x680000, 0x700000, 0x800000, 0x900000, 0x1000000]
  (starts.filter fun b => decide (b ≤ off)).length

/-- A request that the endpoint turns away: an Unsupported Request, or a posted write dropped with a
HOST_ACCESS record. -/
def State.hostDenied (s : State) (write : Bool) : State :=
  if write then { (s.fault .host .hostAccess) with response := .none }
  else { s with response := .unsupportedRequest }

/-- The completion of a request: the data, with EP where it is poisoned or fails its check; any
error response is a Completer Abort. A posted write has none. -/
def State.hostDone (s : State) (write crcOk : Bool) : State :=
  if write then { s with response := .none }
  else match s.response with
    | .data b p =>
      let s := if p then s.fault .host .pciPoison else s
      let s := if crcOk then s else s.fault .host .crc
      s.reply b (p || !crcOk)
    | .error _ => { s with response := .completerAbort }
    | _ => s

/-- Control space (BAR0): read everywhere but DBG, written where host_wmask allows. -/
def hostControl (off n : Nat) (write : Option (List Byte)) (poison : Bool) (s : State) : State :=
  if isDbg off || ((rowAt off).isNone && off % 4 == 0) || !claimDefined off then s.hostDenied write.isSome
  else match write with
    | none => if n ≠ 4 then s.error else busRead .host off s
    | some b =>
      if !bitAt (s.fld F.PCI_HOST_WMASK_mask) (blockRow off) then s.hostDenied true
      else if n ≠ 4 then s.error
      else if poison then s.fault (regUnit off) .poison (.unit .host) Code.poisoned
      else busWrite .host off (BitVec.ofNat 32 (ofBytes b)) s

/-- The command buffer. -/
def hostBuffer (o n : Nat) (write : Option (List Byte)) (s : State) : State :=
  match write with
  | none => s.reply (((s.bufferBytes (o + n)).drop o))
  | some b => s.setBuffer o b

def noWordAt (_ : Nat) : Word := 0

/-- A word of PF0's MSI-X table: the fourth of an entry is its vector control, whose bit 0 masks. -/
def State.msixWord (s : State) (k : Nat) : Word := Table.get noWordAt s.msix.table k

def State.setMsixWord (s : State) (k : Nat) (w : Word) : State :=
  let t := { s with msix := { s.msix with table := Table.set noWordAt s.msix.table k w } }
  if k % 4 = 3 then
    { t with msix := { t.msix with unmasked := Table.set (fun _ => false) t.msix.unmasked (k / 4) (!w.getLsbD 0) } }
  else t

def State.setMsixWords (s : State) (k : Nat) (b : List Byte) : Nat → State
  | 0 => s
  | n + 1 => (s.setMsixWord k (BitVec.ofNat 32 (ofBytes (b.take 4)))).setMsixWords (k + 1) (b.drop 4) n

/-- The MSI-X table. -/
def hostMsix (o n : Nat) (write : Option (List Byte)) (s : State) : State :=
  if o % 4 ≠ 0 ∨ n % 4 ≠ 0 then s.error
  else match write with
    | none => s.reply ((List.range (n / 4)).flatMap fun i => toBytes 4 (s.msixWord (o / 4 + i)).toNat)
    | some b => s.setMsixWords (o / 4) b (n / 4)

/-- BAR0 (Table 15.7). -/
def hostBar0 (o n : Nat) (write : Option (List Byte)) (poison : Bool) (s : State) : State :=
  if o + n ≤ 0x1400000 then hostControl o n write poison s
  else if 0x1400000 ≤ o ∧ o + n ≤ 0x1404000 then hostBuffer (o - 0x1400000) n write s
  else if 0x1F00000 ≤ o ∧ o + n ≤ 0x1F04000 then hostMsix (o - 0x1F00000) n write s
  else if 0x1F04000 ≤ o ∧ o + n ≤ 0x1F04080 then
    match write with
    | none =>
      let v := s.freeBytes n
      v.2.reply v.1
    | some _ => s
  else s.hostDenied write.isSome

/-- The aperture (BAR4): DRAM and the general scratchpad only, under R390 and R391. -/
def hostAperture (a n : Nat) (write : Option (List Byte)) (poison : Bool) (s : State) : State :=
  match addrPlace a n with
  | .dram d =>
    if !(linesOf d n).all s.dramMapped then s.hostDenied write.isSome
    else match write with
      | none => dramRead .host d n s
      | some b => dramWrite .host d b poison true s
  | .spm o => spmAccess .host o n write poison true .clean s
  | _ => s.hostDenied write.isSome

/-- The aperture's base. -/
def State.aperture (s : State) : Nat := s.pair R.PCI_APERTURE_LO R.PCI_APERTURE_HI

/-- A host request through PF0. -/
def hostGo (r : HostReq) (s : State) : State :=
  let n := match r.write with
    | some b => b.length
    | none => r.size.toNat
  let o := r.offset.toNat
  let w := r.write.isSome
  let s := { s with response := .none }
  if s.mode = Mode.off ∨ !s.bit F.PCI_STATUS_link_up ∨ n = 0 ∨ 4096 < n then s
  else
    let t := match r.bar.val with
      | 0 => hostBar0 o n r.write r.poison s
      | 2 =>
        (match r.write with
         | some b => if o + n ≤ 0x4000000 then windowWrite o b s else s.hostDenied true
         | none =>
          let v := s.freeBytes n
          if o + n ≤ 0x4000000 then v.2.reply v.1 else s.hostDenied false)
      | 4 => hostAperture (s.aperture + o) n r.write r.poison s
      | _ => s.hostDenied w
    t.hostDone w r.crcOk

/-- R19, R391, R427, R437, R439. -/
def execHostRequest (r : HostReq) (s : State) : Out := .next (hostGo r s)

end Sys2Proof.Machine
end

