-- ==== Sys2Proof/Machine/Dispatch.lean ====
section
/-! DEFINITION. Each command of the opcode table and its meaning. -/

namespace Sys2Proof.Machine

/-- The effect of a command on everything but the queue. -/
def exec (i : Instr) (s : State) : Host.Outcome State Fault Refusal :=
  match i with
  | .vhuskWithinRange => Sys2Proof.Machine.execVhuskWithinRange s
  | .vhuskBelowRange => Sys2Proof.Machine.execVhuskBelowRange s
  | .wholeDeviceResetReleased => Sys2Proof.Machine.execWholeDeviceResetReleased s
  | .wholeDeviceReset => Sys2Proof.Machine.execWholeDeviceReset s
  | .firmwareVerified => Sys2Proof.Machine.execFirmwareVerified s
  | .pf0Ready => Sys2Proof.Machine.execPf0Ready s
  | .perstAsserted => Sys2Proof.Machine.execPerstAsserted s
  | .perstDeasserted => Sys2Proof.Machine.execPerstDeasserted s
  | .loadWaitExpiry => Sys2Proof.Machine.execLoadWaitExpiry s
  | .dramTrainingDone p => Sys2Proof.Machine.execDramTrainingDone p s
  | .doneSampledHigh => Sys2Proof.Machine.execDoneSampledHigh s
  | .rendezvousLaunch => Sys2Proof.Machine.execRendezvousLaunch s
  | .rdvTimeoutExpiry => Sys2Proof.Machine.execRdvTimeoutExpiry s
  | .devRdvForce m => Sys2Proof.Machine.execDevRdvForce m s
  | .devRdvTimeoutWrite m ms => Sys2Proof.Machine.execDevRdvTimeoutWrite m ms s
  | .dormantEnter m => Sys2Proof.Machine.execDormantEnter m s
  | .dormantExit m => Sys2Proof.Machine.execDormantExit m s
  | .dormantWakeBegin => Sys2Proof.Machine.execDormantWakeBegin s
  | .serviceRestored => Sys2Proof.Machine.execServiceRestored s
  | .devWakeWrite m hi => Sys2Proof.Machine.execDevWakeWrite m hi s
  | .claim m c => Sys2Proof.Machine.execClaim m c s
  | .claimRelease m c => Sys2Proof.Machine.execClaimRelease m c s
  | .registerWrite m off w => Sys2Proof.Machine.execRegisterWrite m off w s
  | .registerRead m off => Sys2Proof.Machine.execRegisterRead m off s
  | .treeSwitch region tree sel => Sys2Proof.Machine.execTreeSwitch region tree sel s
  | .treeSwitchDone region tree => Sys2Proof.Machine.execTreeSwitchDone region tree s
  | .treeOldSourceTimeout region tree => Sys2Proof.Machine.execTreeOldSourceTimeout region tree s
  | .fabricPllLockLoss q => Sys2Proof.Machine.execFabricPllLockLoss q s
  | .bramWriteback region mem addr word superseded => Sys2Proof.Machine.execBramWriteback region mem addr word superseded s
  | .bramScrubCycle region mem ecc => Sys2Proof.Machine.execBramScrubCycle region mem ecc s
  | .accessPointDeliver p => Sys2Proof.Machine.execAccessPointDeliver p s
  | .fabricTimeout p src tag => Sys2Proof.Machine.execFabricTimeout p src tag s
  | .podSwitch m p bind slot carry quiesce => Sys2Proof.Machine.execPodSwitch m p bind slot carry quiesce s
  | .podCancel m p => Sys2Proof.Machine.execPodCancel m p s
  | .podReset m p => Sys2Proof.Machine.execPodReset m p s
  | .quiesceStart p => Sys2Proof.Machine.execQuiesceStart p s
  | .switchE1 p => Sys2Proof.Machine.execSwitchE1 p s
  | .switchTreeForce p region tree => Sys2Proof.Machine.execSwitchTreeForce p region tree s
  | .switchE2 p => Sys2Proof.Machine.execSwitchE2 p s
  | .switchE3 p => Sys2Proof.Machine.execSwitchE3 p s
  | .scrubFrameRead east ecc => Sys2Proof.Machine.execScrubFrameRead east ecc s
  | .essentialScrubRead east ecc => Sys2Proof.Machine.execEssentialScrubRead east ecc s
  | .sproutScrubRead east ecc => Sys2Proof.Machine.execSproutScrubRead east ecc s
  | .scrubWriteback east => Sys2Proof.Machine.execScrubWriteback east s
  | .frameStoreRewrite east => Sys2Proof.Machine.execFrameStoreRewrite east s
  | .priorityGo m region => Sys2Proof.Machine.execPriorityGo m region s
  | .substitutionOpen fix => Sys2Proof.Machine.execSubstitutionOpen fix s
  | .sproutRebuildDone p ok => Sys2Proof.Machine.execSproutRebuildDone p ok s
  | .memorySpareCopyDone p ok bad => Sys2Proof.Machine.execMemorySpareCopyDone p ok bad s
  | .interruptEntry e => Sys2Proof.Machine.execInterruptEntry e s
  | .lockTimeout e => Sys2Proof.Machine.execLockTimeout e s
  | .watchdogExpiry e => Sys2Proof.Machine.execWatchdogExpiry e s
  | .engStop m e => Sys2Proof.Machine.execEngStop m e s
  | .engineStopBoundary e => Sys2Proof.Machine.execEngineStopBoundary e s
  | .engClearFault m e => Sys2Proof.Machine.execEngClearFault m e s
  | .engPowerOff m e => Sys2Proof.Machine.execEngPowerOff m e s
  | .engPowerOn m e => Sys2Proof.Machine.execEngPowerOn m e s
  | .enginePowerUpDone e => Sys2Proof.Machine.execEnginePowerUpDone e s
  | .engWideWrite m e wide => Sys2Proof.Machine.execEngWideWrite m e wide s
  | .engApply m e => Sys2Proof.Machine.execEngApply m e s
  | .engWdKick m e => Sys2Proof.Machine.execEngWdKick m e s
  | .engEvtClear m e flags => Sys2Proof.Machine.execEngEvtClear m e flags s
  | .engMsgCfgWrite m e slots base => Sys2Proof.Machine.execEngMsgCfgWrite m e slots base s
  | .engMsgFree m e count => Sys2Proof.Machine.execEngMsgFree m e count s
  | .engineWindowAccess m e o eight write poison hi lo => Sys2Proof.Machine.execEngineWindowAccess m e o eight write poison hi lo s
  | .engineMoveCopyDone e spareOk => Sys2Proof.Machine.execEngineMoveCopyDone e spareOk s
  | .engineMoveStop e => Sys2Proof.Machine.execEngineMoveStop e s
  | .contextCopyDone e => Sys2Proof.Machine.execContextCopyDone e s
  | .evInRisingEdge e => Sys2Proof.Machine.execEvInRisingEdge e s
  | .enginePortWord e give parityOk => Sys2Proof.Machine.execEnginePortWord e give parityOk s
  | .engineScrubCycle e hi lo => Sys2Proof.Machine.execEngineScrubCycle e hi lo s
  | .nop e f h => Sys2Proof.Machine.execNop e f h s
  | .kend e f h => Sys2Proof.Machine.execEnd e f h s
  | .lock e f h => Sys2Proof.Machine.execLock e f h s
  | .kick e f h => Sys2Proof.Machine.execKick e f h s
  | .rti e f h => Sys2Proof.Machine.execRti e f h s
  | .stm e f h => Sys2Proof.Machine.execStm e f h s
  | .rdst e f h => Sys2Proof.Machine.execRdst e f h s
  | .wrst e f h => Sys2Proof.Machine.execWrst e f h s
  | .ldi e f h => Sys2Proof.Machine.execLdi e f h s
  | .mov e f h => Sys2Proof.Machine.execMov e f h s
  | .rda e f h => Sys2Proof.Machine.execRda e f h s
  | .wra e f h => Sys2Proof.Machine.execWra e f h s
  | .swp e f h => Sys2Proof.Machine.execSwp e f h s
  | .cnj e f h => Sys2Proof.Machine.execCnj e f h s
  | .add e f h => Sys2Proof.Machine.execAdd e f h s
  | .sub e f h => Sys2Proof.Machine.execSub e f h s
  | .kand e f h => Sys2Proof.Machine.execAnd e f h s
  | .kor e f h => Sys2Proof.Machine.execOr e f h s
  | .xor e f h => Sys2Proof.Machine.execXor e f h s
  | .shl e f h => Sys2Proof.Machine.execShl e f h s
  | .shr e f h => Sys2Proof.Machine.execShr e f h s
  | .shru e f h => Sys2Proof.Machine.execShru e f h s
  | .cmp e f h => Sys2Proof.Machine.execCmp e f h s
  | .neg e f h => Sys2Proof.Machine.execNeg e f h s
  | .kabs e f h => Sys2Proof.Machine.execAbs e f h s
  | .kmin e f h => Sys2Proof.Machine.execMin e f h s
  | .kmax e f h => Sys2Proof.Machine.execMax e f h s
  | .ld e f h => Sys2Proof.Machine.execLd e f h s
  | .kst e f h => Sys2Proof.Machine.execSt e f h s
  | .clra e f h => Sys2Proof.Machine.execClra e f h s
  | .mova e f h => Sys2Proof.Machine.execMova e f h s
  | .lda e f h => Sys2Proof.Machine.execLda e f h s
  | .adda e f h => Sys2Proof.Machine.execAdda e f h s
  | .macm e f h => Sys2Proof.Machine.execMacm e f h s
  | .cmacm e f h => Sys2Proof.Machine.execCmacm e f h s
  | .cmac2 e f h => Sys2Proof.Machine.execCmac2 e f h s
  | .ftap e f h => Sys2Proof.Machine.execFtap e f h s
  | .mac e f h => Sys2Proof.Machine.execMac e f h s
  | .cmac e f h => Sys2Proof.Machine.execCmac e f h s
  | .bfly e f h => Sys2Proof.Machine.execBfly e f h s
  | .br e f h => Sys2Proof.Machine.execBr e f h s
  | .call e f h => Sys2Proof.Machine.execCall e f h s
  | .ret e f h => Sys2Proof.Machine.execRet e f h s
  | .jr e f h => Sys2Proof.Machine.execJr e f h s
  | .loop e f h => Sys2Proof.Machine.execLoop e f h s
  | .loopr e f h => Sys2Proof.Machine.execLoopr e f h s
  | .rdt e f h => Sys2Proof.Machine.execRdt e f h s
  | .waitt e f h => Sys2Proof.Machine.execWaitt e f h s
  | .waittDone e => Sys2Proof.Machine.execWaittDone e s
  | .waite e f h => Sys2Proof.Machine.execWaite e f h s
  | .waiteDone e => Sys2Proof.Machine.execWaiteDone e s
  | .cue e f h => Sys2Proof.Machine.execCue e f h s
  | .uncue e f h => Sys2Proof.Machine.execUncue e f h s
  | .evclr e f h => Sys2Proof.Machine.execEvclr e f h s
  | .pev e f h => Sys2Proof.Machine.execPev e f h s
  | .prd e f h => Sys2Proof.Machine.execPrd e f h s
  | .pwr e f h => Sys2Proof.Machine.execPwr e f h s
  | .ldf e f h => Sys2Proof.Machine.execLdf e f h s
  | .stf e f h => Sys2Proof.Machine.execStf e f h s
  | .stfLateError e => Sys2Proof.Machine.execStfLateError e s
  | .aadd e f h => Sys2Proof.Machine.execAadd e f h s
  | .aswp e f h => Sys2Proof.Machine.execAswp e f h s
  | .send e f h => Sys2Proof.Machine.execSend e f h s
  | .dbell e f h => Sys2Proof.Machine.execDbell e f h s
  | .enq e f h => Sys2Proof.Machine.execEnq e f h s
  | .deq e f h => Sys2Proof.Machine.execDeq e f h s
  | .qmov e f h => Sys2Proof.Machine.execQmov e f h s
  | .txopen e f h => Sys2Proof.Machine.execTxopen e f h s
  | .txcmt e f h => Sys2Proof.Machine.execTxcmt e f h s
  | .txabt e f h => Sys2Proof.Machine.execTxabt e f h s
  | .txst e f h => Sys2Proof.Machine.execTxst e f h s
  | .packetInject p crcKeep => Sys2Proof.Machine.execPacketInject p crcKeep s
  | .routerForward id corrected => Sys2Proof.Machine.execRouterForward id corrected s
  | .flitReplay r d same cut => Sys2Proof.Machine.execFlitReplay r d same cut s
  | .linkIdleTimeout r d cut => Sys2Proof.Machine.execLinkIdleTimeout r d cut s
  | .packetDeliver id => Sys2Proof.Machine.execPacketDeliver id s
  | .responseReceive id => Sys2Proof.Machine.execResponseReceive id s
  | .reqTimeout ni tag => Sys2Proof.Machine.execReqTimeout ni tag s
  | .routeWordWrite m entry w v => Sys2Proof.Machine.execRouteWordWrite m entry w v s
  | .routeEntryValidate m entry v => Sys2Proof.Machine.execRouteEntryValidate m entry v s
  | .nocLinkRetrain m r d => Sys2Proof.Machine.execNocLinkRetrain m r d s
  | .linkRetrainDone r d success => Sys2Proof.Machine.execLinkRetrainDone r d success s
  | .rerouteComputeDone r d changes => Sys2Proof.Machine.execRerouteComputeDone r d changes s
  | .qeEnable m => Sys2Proof.Machine.execQeEnable m s
  | .qeDisable m => Sys2Proof.Machine.execQeDisable m s
  | .qeReady => Sys2Proof.Machine.execQeReady s
  | .enqBegin h release flow len cls rest => Sys2Proof.Machine.execEnqBegin h release flow len cls rest s
  | .enqData h bytes last crc poison => Sys2Proof.Machine.execEnqData h bytes last crc poison s
  | .assemblyTimeout src tag => Sys2Proof.Machine.execAssemblyTimeout src tag s
  | .qeDeq h most lost => Sys2Proof.Machine.execQeDeq h most lost s
  | .qeQmov h dst lost => Sys2Proof.Machine.execQeQmov h dst lost s
  | .queueDrop h lost => Sys2Proof.Machine.execQueueDrop h lost s
  | .queueFlush h lost => Sys2Proof.Machine.execQueueFlush h lost s
  | .headRelease q => Sys2Proof.Machine.execHeadRelease q s
  | .launchPrefetch q => Sys2Proof.Machine.execLaunchPrefetch q s
  | .launchStart q lost => Sys2Proof.Machine.execLaunchStart q lost s
  | .launchLateDrop q => Sys2Proof.Machine.execLaunchLateDrop q s
  | .descFetchDone q => Sys2Proof.Machine.execDescFetchDone q s
  | .qeDescRead m => Sys2Proof.Machine.execQeDescRead m s
  | .qeDescWrite m => Sys2Proof.Machine.execQeDescWrite m s
  | .qeDescStage m => Sys2Proof.Machine.execQeDescStage m s
  | .qeDescFlush m => Sys2Proof.Machine.execQeDescFlush m s
  | .wrapDoorbell step => Sys2Proof.Machine.execWrapDoorbell step s
  | .syncWord diverged => Sys2Proof.Machine.execSyncWord diverged s
  | .timeCopyLost u => Sys2Proof.Machine.execTimeCopyLost u s
  | .timIncrWrite m x v => Sys2Proof.Machine.execTimIncrWrite m x v s
  | .timIncrFineWrite m x v => Sys2Proof.Machine.execTimIncrFineWrite m x v s
  | .adjustStep m x bind slot => Sys2Proof.Machine.execAdjustStep m x bind slot s
  | .adjustSlew m x rate => Sys2Proof.Machine.execAdjustSlew m x rate s
  | .adjustCancel m x => Sys2Proof.Machine.execAdjustCancel m x s
  | .slewComplete x => Sys2Proof.Machine.execSlewComplete x s
  | .ppsInEdge => Sys2Proof.Machine.execPpsInEdge s
  | .ppsTodArm m x hi => Sys2Proof.Machine.execPpsTodArm m x hi s
  | .synceGate x offset => Sys2Proof.Machine.execSynceGate x offset s
  | .sourcePresent x phase err => Sys2Proof.Machine.execSourcePresent x phase err s
  | .domainLock x meanErr => Sys2Proof.Machine.execDomainLock x meanErr s
  | .domainUnlock x err => Sys2Proof.Machine.execDomainUnlock x err s
  | .sourceLoss x c0 => Sys2Proof.Machine.execSourceLoss x c0 s
  | .holdoverUpdate x => Sys2Proof.Machine.execHoldoverUpdate x s
  | .servoCorrection x err incr fine => Sys2Proof.Machine.execServoCorrection x err incr fine s
  | .modelBin accepted terms => Sys2Proof.Machine.execModelBin accepted terms s
  | .modelSave => Sys2Proof.Machine.execModelSave s
  | .servoTake m x => Sys2Proof.Machine.execServoTake m x s
  | .servoGive m x => Sys2Proof.Machine.execServoGive m x s
  | .servoWdKick m x => Sys2Proof.Machine.execServoWdKick m x s
  | .servoWdExpiry x c0 => Sys2Proof.Machine.execServoWdExpiry x c0 s
  | .serviceSelectApply m select force auto revert bind slot => Sys2Proof.Machine.execServiceSelectApply m select force auto revert bind slot s
  | .offsetSlewDone => Sys2Proof.Machine.execOffsetSlewDone s
  | .ppsOutEdge falling => Sys2Proof.Machine.execPpsOutEdge falling s
  | .midSecondBypass => Sys2Proof.Machine.execMidSecondBypass s
  | .tmrStart m k action mailbox bell frac => Sys2Proof.Machine.execTmrStart m k action mailbox bell frac s
  | .tmrStop m k => Sys2Proof.Machine.execTmrStop m k s
  | .tmrExpiry k => Sys2Proof.Machine.execTmrExpiry k s
  | .cueArm m u slot t frac a => Sys2Proof.Machine.execCueArm m u slot t frac a s
  | .cueDisarm m u slot => Sys2Proof.Machine.execCueDisarm m u slot s
  | .cueFire u slot => Sys2Proof.Machine.execCueFire u slot s
  | .txOpen m deadline cmd => Sys2Proof.Machine.execTxOpen m deadline cmd s
  | .txCommit m id launch cmd => Sys2Proof.Machine.execTxCommit m id launch cmd s
  | .txAbort m id cmd => Sys2Proof.Machine.execTxAbort m id cmd s
  | .txQuery m id cmd => Sys2Proof.Machine.execTxQuery m id cmd s
  | .txRelease m id cmd => Sys2Proof.Machine.execTxRelease m id cmd s
  | .txuStageData m data => Sys2Proof.Machine.execTxuStageData m data s
  | .txStage part m change id posted => Sys2Proof.Machine.execTxStage part m change id posted s
  | .txJoin part id => Sys2Proof.Machine.execTxJoin part id s
  | .txJoinAck part id => Sys2Proof.Machine.execTxJoinAck part id s
  | .txPrepare part id => Sys2Proof.Machine.execTxPrepare part id s
  | .txVote part id => Sys2Proof.Machine.execTxVote part id s
  | .txWithdraw part id => Sys2Proof.Machine.execTxWithdraw part id s
  | .prepareDeadlineExpiry id => Sys2Proof.Machine.execPrepareDeadlineExpiry id s
  | .txCommitReceive part id => Sys2Proof.Machine.execTxCommitReceive part id s
  | .txApply part id => Sys2Proof.Machine.execTxApply part id s
  | .txAbortReceive part id => Sys2Proof.Machine.execTxAbortReceive part id s
  | .txDone part id => Sys2Proof.Machine.execTxDone part id s
  | .txResend id => Sys2Proof.Machine.execTxResend id s
  | .txDoneTimeout id => Sys2Proof.Machine.execTxDoneTimeout id s
  | .txOrphan part id => Sys2Proof.Machine.execTxOrphan part id s
  | .txEndedTimeout id => Sys2Proof.Machine.execTxEndedTimeout id s
  | .cvlPllEnable m g w => Sys2Proof.Machine.execCvlPllEnable m g w s
  | .cvlLinkApply m g k => Sys2Proof.Machine.execCvlLinkApply m g k s
  | .cvlLinkResync m g k => Sys2Proof.Machine.execCvlLinkResync m g k s
  | .cvlCueArm m g w => Sys2Proof.Machine.execCvlCueArm m g w s
  | .cvlCueDisarm m g w => Sys2Proof.Machine.execCvlCueDisarm m g w s
  | .sysrefInstant g same => Sys2Proof.Machine.execSysrefInstant g same s
  | .lmfcRestart g => Sys2Proof.Machine.execLmfcRestart g s
  | .periodicSysrefPulse g => Sys2Proof.Machine.execPeriodicSysrefPulse g s
  | .devclkStamp g => Sys2Proof.Machine.execDevclkStamp g s
  | .laneCgsSync lane => Sys2Proof.Machine.execLaneCgsSync lane s
  | .syncRelease g k => Sys2Proof.Machine.execSyncRelease g k s
  | .ilasMultiframe g k agrees placed => Sys2Proof.Machine.execIlasMultiframe g k agrees placed s
  | .rawAligned g k => Sys2Proof.Machine.execRawAligned g k s
  | .syncInputChange g k x => Sys2Proof.Machine.execSyncInputChange g k x s
  | .frameRelease g k f => Sys2Proof.Machine.execFrameRelease g k f s
  | .rxBlockComplete g k room => Sys2Proof.Machine.execRxBlockComplete g k room s
  | .txBlockArrive g payload poison crcOk => Sys2Proof.Machine.execTxBlockArrive g payload poison crcOk s
  | .txBlockStart g k late idle => Sys2Proof.Machine.execTxBlockStart g k late idle s
  | .laneFault lane => Sys2Proof.Machine.execLaneFault lane s
  | .laneFaultRetry lane recovered => Sys2Proof.Machine.execLaneFaultRetry lane recovered s
  | .eyeScanGo m lane w => Sys2Proof.Machine.execEyeScanGo m lane w s
  | .eyeScanDone lane errors => Sys2Proof.Machine.execEyeScanDone lane errors s
  | .injSingle m lane => Sys2Proof.Machine.execInjSingle m lane s
  | .injBurst m lane => Sys2Proof.Machine.execInjBurst m lane s
  | .prbsEnable m lane w => Sys2Proof.Machine.execPrbsEnable m lane w s
  | .prbsCheckerLock lane locked errors => Sys2Proof.Machine.execPrbsCheckerLock lane locked errors s
  | .lmfcEdge g trained bitTime => Sys2Proof.Machine.execLmfcEdge g trained bitTime s
  | .ntlBlockEnable m b w => Sys2Proof.Machine.execNtlBlockEnable m b w s
  | .rxFrameComplete b p frame fcsOk wordsOk since old => Sys2Proof.Machine.execRxFrameComplete b p frame fcsOk wordsOk since old s
  | .rxEnqueueResponse b tag => Sys2Proof.Machine.execRxEnqueueResponse b tag s
  | .ringFrameReceive b p frame fcsOk wordsOk since old => Sys2Proof.Machine.execRingFrameReceive b p frame fcsOk wordsOk since old s
  | .txFrameMessage b src payload poison crcOk => Sys2Proof.Machine.execTxFrameMessage b src payload poison crcOk s
  | .txFrameAssemblyTimeout b src => Sys2Proof.Machine.execTxFrameAssemblyTimeout b src s
  | .txFrameSend b p => Sys2Proof.Machine.execTxFrameSend b p s
  | .ts2Pop m b => Sys2Proof.Machine.execTs2Pop m b s
  | .rclkSquelchChange idx squelched => Sys2Proof.Machine.execRclkSquelchChange idx squelched s
  | .ntlLaneLost lane => Sys2Proof.Machine.execNtlLaneLost lane s
  | .ntlLaneRetrain lane recovered => Sys2Proof.Machine.execNtlLaneRetrain lane recovered s
  | .portLinkUp b p => Sys2Proof.Machine.execPortLinkUp b p s
  | .dramReadPiece m address size x => Sys2Proof.Machine.execDramReadPiece m address size x s
  | .dramWritePiece m address bytes poison crcOk x => Sys2Proof.Machine.execDramWritePiece m address bytes poison crcOk x s
  | .sameBankRefresh b => Sys2Proof.Machine.execSameBankRefresh b s
  | .neighbourRefresh b => Sys2Proof.Machine.execNeighbourRefresh b s
  | .refreshWindowEnd b => Sys2Proof.Machine.execRefreshWindowEnd b s
  | .dramHot mc celsius => Sys2Proof.Machine.execDramHot mc celsius s
  | .trainCheck mc sub found => Sys2Proof.Machine.execTrainCheck mc sub found s
  | .mcRetrain m mc => Sys2Proof.Machine.execMcRetrain m mc s
  | .retrainStep mc sub rank result => Sys2Proof.Machine.execRetrainStep mc sub rank result s
  | .caParityError mc sub retryOk => Sys2Proof.Machine.execCaParityError mc sub retryOk s
  | .caRetrainDone mc sub => Sys2Proof.Machine.execCaRetrainDone mc sub s
  | .mcSpareGo m mc w => Sys2Proof.Machine.execMcSpareGo m mc w s
  | .spareCopyDone mc bad => Sys2Proof.Machine.execSpareCopyDone mc bad s
  | .mirrorResyncDone mc sub => Sys2Proof.Machine.execMirrorResyncDone mc sub s
  | .selfRefreshEnter mc => Sys2Proof.Machine.execSelfRefreshEnter mc s
  | .mpRangeEnable m r w => Sys2Proof.Machine.execMpRangeEnable m r w s
  | .mpPolicyWrite m r extHost extMon => Sys2Proof.Machine.execMpPolicyWrite m r extHost extMon s
  | .mpSweepGo m w => Sys2Proof.Machine.execMpSweepGo m w s
  | .mpSweepLine x => Sys2Proof.Machine.execMpSweepLine x s
  | .rekeyDue r => Sys2Proof.Machine.execRekeyDue r s
  | .patrolScrubRead mc sub address ecc dev => Sys2Proof.Machine.execPatrolScrubRead mc sub address ecc dev s
  | .pageRetireOpen page => Sys2Proof.Machine.execPageRetireOpen page s
  | .pageCopyDone page bad => Sys2Proof.Machine.execPageCopyDone page bad s
  | .spmAccess m o size write poison crcOk ecc => Sys2Proof.Machine.execSpmAccess m o size write poison crcOk ecc s
  | .spmAtomic m address swap operand poison ecc => Sys2Proof.Machine.execSpmAtomic m address swap operand poison ecc s
  | .spmSetModeWrite m set linear => Sys2Proof.Machine.execSpmSetModeWrite m set linear s
  | .spmSetPowerWrite m set power => Sys2Proof.Machine.execSpmSetPowerWrite m set power s
  | .spmBankPowerWrite m bank power => Sys2Proof.Machine.execSpmBankPowerWrite m bank power s
  | .powerChangeDone bank => Sys2Proof.Machine.execPowerChangeDone bank s
  | .secureWipeDone => Sys2Proof.Machine.execSecureWipeDone s
  | .mbxDbSet m mbx bells => Sys2Proof.Machine.execMbxDbSet m mbx bells s
  | .mbxDbClear m mbx bells => Sys2Proof.Machine.execMbxDbClear m mbx bells s
  | .mbxMaskWrite m mbx mask => Sys2Proof.Machine.execMbxMaskWrite m mbx mask s
  | .mbxSend m mbx => Sys2Proof.Machine.execMbxSend m mbx s
  | .mbxAck m mbx seq code => Sys2Proof.Machine.execMbxAck m mbx seq code s
  | .mbxTimeout mbx => Sys2Proof.Machine.execMbxTimeout mbx s
  | .mbxMsgWrite m mbx idx w => Sys2Proof.Machine.execMbxMsgWrite m mbx idx w s
  | .mbxCfgWrite m mbx w => Sys2Proof.Machine.execMbxCfgWrite m mbx w s
  | .hostWindowWrite offset bytes => Sys2Proof.Machine.execHostWindowWrite offset bytes s
  | .ldrSrcGo m w => Sys2Proof.Machine.execLdrSrcGo m w s
  | .ldrAbort m w => Sys2Proof.Machine.execLdrAbort m w s
  | .ldrActivate m w => Sys2Proof.Machine.execLdrActivate m w s
  | .streamIdleTimeout => Sys2Proof.Machine.execStreamIdleTimeout s
  | .framesRecord => Sys2Proof.Machine.execFramesRecord s
  | .zerosRecord => Sys2Proof.Machine.execZerosRecord s
  | .essentialRecord => Sys2Proof.Machine.execEssentialRecord s
  | .bramRecord => Sys2Proof.Machine.execBramRecord s
  | .pllRecord => Sys2Proof.Machine.execPllRecord s
  | .pciePfRecord => Sys2Proof.Machine.execPciePfRecord s
  | .engImemRecord => Sys2Proof.Machine.execEngImemRecord s
  | .engDmemRecord => Sys2Proof.Machine.execEngDmemRecord s
  | .engStartRecord => Sys2Proof.Machine.execEngStartRecord s
  | .blobRecord => Sys2Proof.Machine.execBlobRecord s
  | .endRecord => Sys2Proof.Machine.execEndRecord s
  | .imageVerifyDone => Sys2Proof.Machine.execImageVerifyDone s
  | .acornRewriteDone ok => Sys2Proof.Machine.execAcornRewriteDone ok s
  | .firmwareConfirm => Sys2Proof.Machine.execFirmwareConfirm s
  | .pfRetryTimeout => Sys2Proof.Machine.execPfRetryTimeout s
  | .provision b => Sys2Proof.Machine.execProvision b s
  | .addKey b => Sys2Proof.Machine.execAddKey b s
  | .revokeKey b => Sys2Proof.Machine.execRevokeKey b s
  | .advance b => Sys2Proof.Machine.execAdvance b s
  | .lifecycleReset => Sys2Proof.Machine.execLifecycleReset s
  | .raiseFloor b => Sys2Proof.Machine.execRaiseFloor b s
  | .setPassword => Sys2Proof.Machine.execSetPassword s
  | .tamperAck => Sys2Proof.Machine.execTamperAck s
  | .tamperLock b => Sys2Proof.Machine.execTamperLock b s
  | .pciCmdGo m w => Sys2Proof.Machine.execPciCmdGo m w s
  | .attest input => Sys2Proof.Machine.execAttest input s
  | .identityCert input => Sys2Proof.Machine.execIdentityCert input s
  | .unlockChallenge input => Sys2Proof.Machine.execUnlockChallenge input s
  | .unlockResponse input => Sys2Proof.Machine.execUnlockResponse input s
  | .unlockPassword input => Sys2Proof.Machine.execUnlockPassword input s
  | .debugLock input => Sys2Proof.Machine.execDebugLock input s
  | .sessionExpiry => Sys2Proof.Machine.execSessionExpiry s
  | .tamperClass1 detail => Sys2Proof.Machine.execTamperClass1 detail s
  | .glitchEvent => Sys2Proof.Machine.execGlitchEvent s
  | .tamperClass2Confirm shield b => Sys2Proof.Machine.execTamperClass2Confirm shield b s
  | .hostRequest r => Sys2Proof.Machine.execHostRequest r s
  | .pcieLinkLoss => Sys2Proof.Machine.execPcieLinkLoss s
  | .pcieLinkUp width speed => Sys2Proof.Machine.execPcieLinkUp width speed s
  | .faultRecordSend u => Sys2Proof.Machine.execFaultRecordSend u s
  | .collectorRecord => Sys2Proof.Machine.execCollectorRecord s
  | .notification => Sys2Proof.Machine.execNotification s
  | .errAck m w => Sys2Proof.Machine.execErrAck m w s
  | .quietResolve index => Sys2Proof.Machine.execQuietResolve index s
  | .repairGo m w => Sys2Proof.Machine.execRepairGo m w s
  | .repairDrop m w => Sys2Proof.Machine.execRepairDrop m w s
  | .huskWatchdogExpiry => Sys2Proof.Machine.execHuskWatchdogExpiry s
  | .heartbeatMissed => Sys2Proof.Machine.execHeartbeatMissed s
  | .takeoverDone => Sys2Proof.Machine.execTakeoverDone s
  | .standbyReady => Sys2Proof.Machine.execStandbyReady s
  | .huskRestart => Sys2Proof.Machine.execHuskRestart s
  | .huskRestartDone => Sys2Proof.Machine.execHuskRestartDone s
  | .handover m w => Sys2Proof.Machine.execHandover m w s
  | .handoverSwap readable => Sys2Proof.Machine.execHandoverSwap readable s
  | .governorSample g => Sys2Proof.Machine.execGovernorSample g s
  | .surge m w => Sys2Proof.Machine.execSurge m w s
  | .surgeCancel m w => Sys2Proof.Machine.execSurgeCancel m w s
  | .ledgerFlashWriteDone => Sys2Proof.Machine.execLedgerFlashWriteDone s
  | .vengStep confirmed => Sys2Proof.Machine.execVengStep confirmed s
  | .engineClockStep => Sys2Proof.Machine.execEngineClockStep s
  | .surgeEnd => Sys2Proof.Machine.execSurgeEnd s
  | .ledgerCharge => Sys2Proof.Machine.execLedgerCharge s
  | .monContinue via => Sys2Proof.Machine.execMonContinue via s
  | .monStatus via => Sys2Proof.Machine.execMonStatus via s
  | .monRead via address eight length => Sys2Proof.Machine.execMonRead via address eight length s
  | .monTake via address => Sys2Proof.Machine.execMonTake via address s
  | .monWrite via address eight data => Sys2Proof.Machine.execMonWrite via address eight data s
  | .monHalt via target => Sys2Proof.Machine.execMonHalt via target s
  | .monResume via target => Sys2Proof.Machine.execMonResume via target s
  | .resumeTick => Sys2Proof.Machine.execResumeTick s
  | .monStep via e count => Sys2Proof.Machine.execMonStep via e count s
  | .monBreak via e b => Sys2Proof.Machine.execMonBreak via e b s
  | .monFreeze via w lo hi => Sys2Proof.Machine.execMonFreeze via w lo hi s
  | .monTxHold via on => Sys2Proof.Machine.execMonTxHold via on s
  | .monCapture via region => Sys2Proof.Machine.execMonCapture via region s
  | .monInject via lane on => Sys2Proof.Machine.execMonInject via lane on s
  | .monSetBaud via rate => Sys2Proof.Machine.execMonSetBaud via rate s
  | .uartFrameReceive frame => Sys2Proof.Machine.execUartFrameReceive frame s
  | .debugDomainReady => Sys2Proof.Machine.execDebugDomainReady s
  | .spmScrubCycle bank ecc => Sys2Proof.Machine.execSpmScrubCycle bank ecc s
  | .scrubStallCheck => Sys2Proof.Machine.execScrubStallCheck s
  | .clockStabilityWindow c agrees => Sys2Proof.Machine.execClockStabilityWindow c agrees s
  | .referenceSwitchBack c => Sys2Proof.Machine.execReferenceSwitchBack c s
  | .oscRatioCheck ratio => Sys2Proof.Machine.execOscRatioCheck ratio s
  | .fpllEnable m q w => Sys2Proof.Machine.execFpllEnable m q w s
  | .pinApply m pin => Sys2Proof.Machine.execPinApply m pin s
  | .pinCommitEdge pin => Sys2Proof.Machine.execPinCommitEdge pin s
  | .pinOutWrite m bank r data => Sys2Proof.Machine.execPinOutWrite m bank r data s
  | .pinElecWrite m pin w => Sys2Proof.Machine.execPinElecWrite m pin w s
  | .vioChange bank mv => Sys2Proof.Machine.execVioChange bank mv s
  | .railOutOfRange rail => Sys2Proof.Machine.execRailOutOfRange rail s
  | .tapBypass => Sys2Proof.Machine.execTapBypass s
  | .tapIdcode => Sys2Proof.Machine.execTapIdcode s
  | .tapSamplePreload data => Sys2Proof.Machine.execTapSamplePreload data s
  | .tapExtest => Sys2Proof.Machine.execTapExtest s
  | .tapClamp => Sys2Proof.Machine.execTapClamp s
  | .tapHighz => Sys2Proof.Machine.execTapHighz s
  | .tapExtestPulse => Sys2Proof.Machine.execTapExtestPulse s
  | .tapExtestTrain => Sys2Proof.Machine.execTapExtestTrain s
  | .tsenseSample mv die hub => Sys2Proof.Machine.execTsenseSample mv die hub s

end Sys2Proof.Machine
end

