-- ==== Sys2Proof/Machine/Idle.lean ====
section
/-! DEFINITION. What the block does when no command waits: one nanosecond of service time passes,
and the work that waits for the time goes on (R259, R442, R475). -/

namespace Sys2Proof.Machine

/-- The idle step. -/
def State.idle (s : State) : State := s.tick.wearRecord.monServeAll

end Sys2Proof.Machine
end

