-- ==== Sys2Proof/Laws/Table.lean ====
section
/-! SUPPORT. Laws of sparse tables: a read after a write, the canonical form, and the fields of a
register word. -/

namespace Sys2Proof.Machine

variable {α : Type}

/-! ## Reads after writes -/

theorem Table.get_drop_same (d : Nat → α) (t : Table α) (k : Nat) : Table.get d (t.drop k) k = d k := by
  induction t with
  | nil => rfl
  | cons e t ih =>
    by_cases h : e.1 = k
    · simpa [Table.drop, h] using ih
    · simpa [Table.drop, Table.get, h] using ih

theorem Table.get_drop_ne (d : Nat → α) (t : Table α) {k j : Nat} (h : j ≠ k) :
    Table.get d (t.drop k) j = Table.get d t j := by
  induction t with
  | nil => rfl
  | cons e t ih =>
    have ih : Table.get d (List.filter (fun e => e.1 != k) t) j = Table.get d t j := ih
    by_cases hk : e.1 = k
    · simp [Table.drop, Table.get, hk, Ne.symm h, ih]
    · simp [Table.drop, Table.get, hk, ih]

theorem Table.get_place_same (d : Nat → α) (t : Table α) (k : Nat) (v : α)
    (h : ∀ e ∈ t, e.1 ≠ k) : Table.get d (Table.place k v t) k = v := by
  induction t with
  | nil => simp [Table.place, Table.get]
  | cons e t ih =>
    simp only [Table.place]
    split
    · simp [Table.get]
    · simp [Table.get, h e (by simp), ih (fun x hx => h x (by simp [hx]))]

theorem Table.get_place_ne (d : Nat → α) (t : Table α) {k j : Nat} (v : α) (h : j ≠ k) :
    Table.get d (Table.place k v t) j = Table.get d t j := by
  induction t with
  | nil => simp [Table.place, Table.get, Ne.symm h]
  | cons e t ih =>
    simp only [Table.place]
    split
    · simp [Table.get, Ne.symm h]
    · simp [Table.get, ih]

theorem Table.drop_keys (t : Table α) (k : Nat) : ∀ e ∈ t.drop k, e.1 ≠ k := by
  intro e he
  simpa [Table.drop] using (List.mem_filter.mp he).2

/-- What a table holds at a key after a write at that key. -/
@[simp] theorem Table.get_set_same [DecidableEq α] (d : Nat → α) (t : Table α) (k : Nat) (v : α) :
    Table.get d (Table.set d t k v) k = v := by
  unfold Table.set
  split
  · next h => rw [Table.get_drop_same, h]
  · exact Table.get_place_same d _ k v (Table.drop_keys t k)

/-- A write at one key leaves what the table holds at every other. -/
@[simp] theorem Table.get_set_ne [DecidableEq α] (d : Nat → α) (t : Table α) {k j : Nat} (v : α) (h : j ≠ k) :
    Table.get d (Table.set d t k v) j = Table.get d t j := by
  unfold Table.set
  split
  · exact Table.get_drop_ne d t h
  · rw [Table.get_place_ne d _ v h, Table.get_drop_ne d t h]

theorem Table.get_set [DecidableEq α] (d : Nat → α) (t : Table α) (k j : Nat) (v : α) :
    Table.get d (Table.set d t k v) j = if j = k then v else Table.get d t j := by
  by_cases h : j = k
  · subst h; simp
  · simp [h]

/-! ## The canonical form -/

theorem Table.wfFrom_mono [DecidableEq α] (d : Nat → α) (t : Table α) {a b : Nat} (hab : a ≤ b)
    (h : Table.wfFrom d (some b) t = true) : Table.wfFrom d (some a) t = true := by
  cases t with
  | nil => rfl
  | cons e t =>
    simp only [Table.wfFrom, Bool.and_eq_true, decide_eq_true_eq] at h ⊢
    exact ⟨⟨by omega, h.1.2⟩, h.2⟩

theorem Table.wfFrom_none [DecidableEq α] (d : Nat → α) (t : Table α) {a : Nat}
    (h : Table.wfFrom d (some a) t = true) : Table.wfFrom d none t = true := by
  cases t with
  | nil => rfl
  | cons e t =>
    simp only [Table.wfFrom, Bool.and_eq_true, decide_eq_true_eq] at h ⊢
    exact ⟨⟨trivial, h.1.2⟩, h.2⟩

/-- Removing entries keeps the canonical form. -/
theorem Table.wfFrom_filter [DecidableEq α] (d : Nat → α) (p : Nat × α → Bool) (t : Table α) :
    ∀ lo, Table.wfFrom d lo t = true → Table.wfFrom d lo (t.filter p) = true := by
  induction t with
  | nil => intro lo h; exact h
  | cons e t ih =>
    intro lo h
    simp only [Table.wfFrom, Bool.and_eq_true, decide_eq_true_eq] at h
    have ht := ih (some e.1) h.2
    by_cases hp : p e = true
    · rw [List.filter_cons_of_pos hp]
      simp only [Table.wfFrom, Bool.and_eq_true, decide_eq_true_eq]
      exact ⟨h.1, ht⟩
    · rw [List.filter_cons_of_neg hp]
      cases lo with
      | none => exact Table.wfFrom_none d _ ht
      | some a =>
        have : a < e.1 := by simpa using h.1.1
        exact Table.wfFrom_mono d _ (by omega) ht

theorem Table.wfFrom_place [DecidableEq α] (d : Nat → α) (k : Nat) (v : α) (hv : v ≠ d k) (t : Table α) :
    ∀ lo, (∀ a, lo = some a → a < k) → (∀ e ∈ t, e.1 ≠ k) → Table.wfFrom d lo t = true →
      Table.wfFrom d lo (Table.place k v t) = true := by
  induction t with
  | nil =>
    intro lo hlo _ _
    cases lo with
    | none => simp [Table.place, Table.wfFrom, hv]
    | some a => simp [Table.place, Table.wfFrom, hv, hlo a rfl]
  | cons e t ih =>
    intro lo hlo hk h
    simp only [Table.wfFrom, Bool.and_eq_true, decide_eq_true_eq] at h
    simp only [Table.place]
    split
    · next hlt =>
      simp only [Table.wfFrom, Bool.and_eq_true, decide_eq_true_eq]
      refine ⟨⟨?_, hv⟩, ⟨hlt, h.1.2⟩, h.2⟩
      cases lo with
      | none => rfl
      | some a => simpa using hlo a rfl
    · next hge =>
      simp only [Table.wfFrom, Bool.and_eq_true, decide_eq_true_eq]
      refine ⟨h.1, ih (some e.1) ?_ (fun x hx => hk x (by simp [hx])) h.2⟩
      intro a ha
      have hne := hk e (by simp)
      have : a = e.1 := by simpa using ha.symm
      omega

/-- A write keeps the canonical form. -/
theorem Table.wf_set [DecidableEq α] (d : Nat → α) (t : Table α) (k : Nat) (v : α)
    (h : Table.wf d t = true) : Table.wf d (Table.set d t k v) = true := by
  unfold Table.set
  split
  · exact Table.wfFrom_filter d _ t none h
  · next hv =>
    exact Table.wfFrom_place d k v hv _ none (by simp) (Table.drop_keys t k)
      (Table.wfFrom_filter d _ t none h)

/-! ## Fields of a word -/

theorem getLsbD_onesMask (w i : Nat) (hi : i < 32) : (onesMask w).getLsbD i = decide (i < w) := by
  rw [onesMask, BitVec.getLsbD_ofNat, Nat.testBit_two_pow_sub_one]
  simp only [hi, decide_true, Bool.true_and]

theorem getLsbD_putBits (x : Word) (lo w v i : Nat) (hi : i < 32) :
    (putBits x lo w v).getLsbD i =
      if lo ≤ i ∧ i < lo + w then v.testBit (i - lo) else x.getLsbD i := by
  have hn : i - lo < 32 := by omega
  simp only [putBits, BitVec.getLsbD_or, BitVec.getLsbD_and, BitVec.getLsbD_not, BitVec.getLsbD_shiftLeft, hi,
    getLsbD_onesMask _ _ hn, BitVec.getLsbD_ofNat, hn, Nat.testBit_mod_two_pow, decide_true, Bool.true_and]
  by_cases h1 : i < lo
  · have h2 : ¬ (lo ≤ i) := by omega
    simp only [h1, h2, decide_true, Bool.not_true, Bool.false_and, Bool.not_false, Bool.and_true, Bool.or_false,
      false_and, if_false]
  · have h2 : lo ≤ i := by omega
    by_cases h3 : i < lo + w
    · have h4 : i - lo < w := by omega
      simp [h1, h2, h3, h4]
    · have h4 : ¬ (i - lo < w) := by omega
      simp [h1, h3, h4]

theorem testBit_bitsOf (x : Word) (lo w j : Nat) :
    (bitsOf x lo w).testBit j = (decide (j < w) && x.getLsbD (lo + j)) := by
  simp [bitsOf, Nat.testBit_mod_two_pow, Nat.testBit_shiftRight, BitVec.getLsbD]

/-- A field reads as what was put into it, modulo its width. -/
theorem bitsOf_putBits_same (x : Word) (lo w v : Nat) (h : lo + w ≤ 32) :
    bitsOf (putBits x lo w v) lo w = v % 2 ^ w := by
  apply Nat.eq_of_testBit_eq
  intro j
  rw [testBit_bitsOf, Nat.testBit_mod_two_pow]
  by_cases hj : j < w
  · have h1 : lo + j < 32 := by omega
    simp [hj, getLsbD_putBits _ _ _ _ _ h1]
  · simp [hj]

/-- A field that shares no bit with the one written is unchanged. -/
theorem bitsOf_putBits_disjoint (x : Word) (lo w v lo' w' : Nat) (h' : lo' + w' ≤ 32)
    (hd : lo' + w' ≤ lo ∨ lo + w ≤ lo') : bitsOf (putBits x lo w v) lo' w' = bitsOf x lo' w' := by
  apply Nat.eq_of_testBit_eq
  intro j
  rw [testBit_bitsOf, testBit_bitsOf]
  by_cases hj : j < w'
  · have h1 : lo' + j < 32 := by omega
    have h2 : ¬ (lo ≤ lo' + j ∧ lo' + j < lo + w) := by omega
    simp [hj, getLsbD_putBits _ _ _ _ _ h1, h2]
  · simp [hj]

end Sys2Proof.Machine
end

