-- ==== Sys2Proof/Laws/State.lean ====
section
/-! SUPPORT. What each update of the state leaves: one lemma per field and update. -/

namespace Sys2Proof.Machine

variable (s : State)

/-! setReg -/
@[simp] theorem State.setReg_pending (o : Nat) (w : Word) : (s.setReg o w).pending = s.pending := by rw [State.setReg]
@[simp] theorem State.setReg_response (o : Nat) (w : Word) : (s.setReg o w).response = s.response := by rw [State.setReg]
@[simp] theorem State.setReg_freeCount (o : Nat) (w : Word) : (s.setReg o w).freeCount = s.freeCount := by rw [State.setReg]
@[simp] theorem State.setReg_faults (o : Nat) (w : Word) : (s.setReg o w).faults = s.faults := by rw [State.setReg]
@[simp] theorem State.setReg_faultLost (o : Nat) (w : Word) : (s.setReg o w).faultLost = s.faultLost := by rw [State.setReg]
@[simp] theorem State.setReg_claims (o : Nat) (w : Word) : (s.setReg o w).claims = s.claims := by rw [State.setReg]
@[simp] theorem State.setReg_cues (o : Nat) (w : Word) : (s.setReg o w).cues = s.cues := by rw [State.setReg]
@[simp] theorem State.setReg_dev (o : Nat) (w : Word) : (s.setReg o w).dev = s.dev := by rw [State.setReg]
@[simp] theorem State.setReg_tim (o : Nat) (w : Word) : (s.setReg o w).tim = s.tim := by rw [State.setReg]
@[simp] theorem State.setReg_txu (o : Nat) (w : Word) : (s.setReg o w).txu = s.txu := by rw [State.setReg]
@[simp] theorem State.setReg_cfg (o : Nat) (w : Word) : (s.setReg o w).cfg = s.cfg := by rw [State.setReg]
@[simp] theorem State.setReg_fabric (o : Nat) (w : Word) : (s.setReg o w).fabric = s.fabric := by rw [State.setReg]
@[simp] theorem State.setReg_mbx (o : Nat) (w : Word) : (s.setReg o w).mbx = s.mbx := by rw [State.setReg]
@[simp] theorem State.setReg_spm (o : Nat) (w : Word) : (s.setReg o w).spm = s.spm := by rw [State.setReg]
@[simp] theorem State.setReg_noc (o : Nat) (w : Word) : (s.setReg o w).noc = s.noc := by rw [State.setReg]
@[simp] theorem State.setReg_msix (o : Nat) (w : Word) : (s.setReg o w).msix = s.msix := by rw [State.setReg]
@[simp] theorem State.setReg_waits (o : Nat) (w : Word) : (s.setReg o w).waits = s.waits := by rw [State.setReg]
@[simp] theorem State.setReg_eng (o : Nat) (w : Word) : (s.setReg o w).eng = s.eng := by rw [State.setReg]
@[simp] theorem State.setReg_spares (o : Nat) (w : Word) : (s.setReg o w).spares = s.spares := by rw [State.setReg]
@[simp] theorem State.setReg_laps (o : Nat) (w : Word) : (s.setReg o w).laps = s.laps := by rw [State.setReg]
@[simp] theorem State.setReg_dram (o : Nat) (w : Word) : (s.setReg o w).dram = s.dram := by rw [State.setReg]
@[simp] theorem State.setReg_qe (o : Nat) (w : Word) : (s.setReg o w).qe = s.qe := by rw [State.setReg]
@[simp] theorem State.setReg_cvl (o : Nat) (w : Word) : (s.setReg o w).cvl = s.cvl := by rw [State.setReg]
@[simp] theorem State.setReg_ntl (o : Nat) (w : Word) : (s.setReg o w).ntl = s.ntl := by rw [State.setReg]
@[simp] theorem State.setReg_fuses (o : Nat) (w : Word) : (s.setReg o w).fuses = s.fuses := by rw [State.setReg]
@[simp] theorem State.setReg_flash (o : Nat) (w : Word) : (s.setReg o w).flash = s.flash := by rw [State.setReg]
@[simp] theorem State.setReg_loader (o : Nat) (w : Word) : (s.setReg o w).loader = s.loader := by rw [State.setReg]
@[simp] theorem State.setReg_trust (o : Nat) (w : Word) : (s.setReg o w).trust = s.trust := by rw [State.setReg]
@[simp] theorem State.setReg_err (o : Nat) (w : Word) : (s.setReg o w).err = s.err := by rw [State.setReg]
@[simp] theorem State.setReg_husk (o : Nat) (w : Word) : (s.setReg o w).husk = s.husk := by rw [State.setReg]
@[simp] theorem State.setReg_mon (o : Nat) (w : Word) : (s.setReg o w).mon = s.mon := by rw [State.setReg]
@[simp] theorem State.setReg_clk (o : Nat) (w : Word) : (s.setReg o w).clk = s.clk := by rw [State.setReg]
@[simp] theorem State.setReg_pads (o : Nat) (w : Word) : (s.setReg o w).pads = s.pads := by rw [State.setReg]
@[simp] theorem State.setReg_tap (o : Nat) (w : Word) : (s.setReg o w).tap = s.tap := by rw [State.setReg]
@[simp] theorem State.setReg_engine (o : Nat) (w : Word) (q : Nat) : (s.setReg o w).engine q = s.engine q := by unfold State.engine; rw [State.setReg_eng]
@[simp] theorem State.setReg_holder (o : Nat) (w : Word) (q : Nat) : (s.setReg o w).holder q = s.holder q := by unfold State.holder; rw [State.setReg_claims]

/-! setFld -/
@[simp] theorem State.setFld_pending (f : Field) (v : Nat) : (s.setFld f v).pending = s.pending := by rw [State.setFld, State.setReg_pending]
@[simp] theorem State.setFld_response (f : Field) (v : Nat) : (s.setFld f v).response = s.response := by rw [State.setFld, State.setReg_response]
@[simp] theorem State.setFld_freeCount (f : Field) (v : Nat) : (s.setFld f v).freeCount = s.freeCount := by rw [State.setFld, State.setReg_freeCount]
@[simp] theorem State.setFld_faults (f : Field) (v : Nat) : (s.setFld f v).faults = s.faults := by rw [State.setFld, State.setReg_faults]
@[simp] theorem State.setFld_faultLost (f : Field) (v : Nat) : (s.setFld f v).faultLost = s.faultLost := by rw [State.setFld, State.setReg_faultLost]
@[simp] theorem State.setFld_claims (f : Field) (v : Nat) : (s.setFld f v).claims = s.claims := by rw [State.setFld, State.setReg_claims]
@[simp] theorem State.setFld_cues (f : Field) (v : Nat) : (s.setFld f v).cues = s.cues := by rw [State.setFld, State.setReg_cues]
@[simp] theorem State.setFld_dev (f : Field) (v : Nat) : (s.setFld f v).dev = s.dev := by rw [State.setFld, State.setReg_dev]
@[simp] theorem State.setFld_tim (f : Field) (v : Nat) : (s.setFld f v).tim = s.tim := by rw [State.setFld, State.setReg_tim]
@[simp] theorem State.setFld_txu (f : Field) (v : Nat) : (s.setFld f v).txu = s.txu := by rw [State.setFld, State.setReg_txu]
@[simp] theorem State.setFld_cfg (f : Field) (v : Nat) : (s.setFld f v).cfg = s.cfg := by rw [State.setFld, State.setReg_cfg]
@[simp] theorem State.setFld_fabric (f : Field) (v : Nat) : (s.setFld f v).fabric = s.fabric := by rw [State.setFld, State.setReg_fabric]
@[simp] theorem State.setFld_mbx (f : Field) (v : Nat) : (s.setFld f v).mbx = s.mbx := by rw [State.setFld, State.setReg_mbx]
@[simp] theorem State.setFld_spm (f : Field) (v : Nat) : (s.setFld f v).spm = s.spm := by rw [State.setFld, State.setReg_spm]
@[simp] theorem State.setFld_noc (f : Field) (v : Nat) : (s.setFld f v).noc = s.noc := by rw [State.setFld, State.setReg_noc]
@[simp] theorem State.setFld_msix (f : Field) (v : Nat) : (s.setFld f v).msix = s.msix := by rw [State.setFld, State.setReg_msix]
@[simp] theorem State.setFld_waits (f : Field) (v : Nat) : (s.setFld f v).waits = s.waits := by rw [State.setFld, State.setReg_waits]
@[simp] theorem State.setFld_eng (f : Field) (v : Nat) : (s.setFld f v).eng = s.eng := by rw [State.setFld, State.setReg_eng]
@[simp] theorem State.setFld_spares (f : Field) (v : Nat) : (s.setFld f v).spares = s.spares := by rw [State.setFld, State.setReg_spares]
@[simp] theorem State.setFld_laps (f : Field) (v : Nat) : (s.setFld f v).laps = s.laps := by rw [State.setFld, State.setReg_laps]
@[simp] theorem State.setFld_dram (f : Field) (v : Nat) : (s.setFld f v).dram = s.dram := by rw [State.setFld, State.setReg_dram]
@[simp] theorem State.setFld_qe (f : Field) (v : Nat) : (s.setFld f v).qe = s.qe := by rw [State.setFld, State.setReg_qe]
@[simp] theorem State.setFld_cvl (f : Field) (v : Nat) : (s.setFld f v).cvl = s.cvl := by rw [State.setFld, State.setReg_cvl]
@[simp] theorem State.setFld_ntl (f : Field) (v : Nat) : (s.setFld f v).ntl = s.ntl := by rw [State.setFld, State.setReg_ntl]
@[simp] theorem State.setFld_fuses (f : Field) (v : Nat) : (s.setFld f v).fuses = s.fuses := by rw [State.setFld, State.setReg_fuses]
@[simp] theorem State.setFld_flash (f : Field) (v : Nat) : (s.setFld f v).flash = s.flash := by rw [State.setFld, State.setReg_flash]
@[simp] theorem State.setFld_loader (f : Field) (v : Nat) : (s.setFld f v).loader = s.loader := by rw [State.setFld, State.setReg_loader]
@[simp] theorem State.setFld_trust (f : Field) (v : Nat) : (s.setFld f v).trust = s.trust := by rw [State.setFld, State.setReg_trust]
@[simp] theorem State.setFld_err (f : Field) (v : Nat) : (s.setFld f v).err = s.err := by rw [State.setFld, State.setReg_err]
@[simp] theorem State.setFld_husk (f : Field) (v : Nat) : (s.setFld f v).husk = s.husk := by rw [State.setFld, State.setReg_husk]
@[simp] theorem State.setFld_mon (f : Field) (v : Nat) : (s.setFld f v).mon = s.mon := by rw [State.setFld, State.setReg_mon]
@[simp] theorem State.setFld_clk (f : Field) (v : Nat) : (s.setFld f v).clk = s.clk := by rw [State.setFld, State.setReg_clk]
@[simp] theorem State.setFld_pads (f : Field) (v : Nat) : (s.setFld f v).pads = s.pads := by rw [State.setFld, State.setReg_pads]
@[simp] theorem State.setFld_tap (f : Field) (v : Nat) : (s.setFld f v).tap = s.tap := by rw [State.setFld, State.setReg_tap]
@[simp] theorem State.setFld_engine (f : Field) (v : Nat) (q : Nat) : (s.setFld f v).engine q = s.engine q := by unfold State.engine; rw [State.setFld_eng]
@[simp] theorem State.setFld_holder (f : Field) (v : Nat) (q : Nat) : (s.setFld f v).holder q = s.holder q := by unfold State.holder; rw [State.setFld_claims]

/-! setBit -/
@[simp] theorem State.setBit_pending (f : Field) (b : Bool) : (s.setBit f b).pending = s.pending := by rw [State.setBit, State.setFld_pending]
@[simp] theorem State.setBit_response (f : Field) (b : Bool) : (s.setBit f b).response = s.response := by rw [State.setBit, State.setFld_response]
@[simp] theorem State.setBit_freeCount (f : Field) (b : Bool) : (s.setBit f b).freeCount = s.freeCount := by rw [State.setBit, State.setFld_freeCount]
@[simp] theorem State.setBit_faults (f : Field) (b : Bool) : (s.setBit f b).faults = s.faults := by rw [State.setBit, State.setFld_faults]
@[simp] theorem State.setBit_faultLost (f : Field) (b : Bool) : (s.setBit f b).faultLost = s.faultLost := by rw [State.setBit, State.setFld_faultLost]
@[simp] theorem State.setBit_claims (f : Field) (b : Bool) : (s.setBit f b).claims = s.claims := by rw [State.setBit, State.setFld_claims]
@[simp] theorem State.setBit_cues (f : Field) (b : Bool) : (s.setBit f b).cues = s.cues := by rw [State.setBit, State.setFld_cues]
@[simp] theorem State.setBit_dev (f : Field) (b : Bool) : (s.setBit f b).dev = s.dev := by rw [State.setBit, State.setFld_dev]
@[simp] theorem State.setBit_tim (f : Field) (b : Bool) : (s.setBit f b).tim = s.tim := by rw [State.setBit, State.setFld_tim]
@[simp] theorem State.setBit_txu (f : Field) (b : Bool) : (s.setBit f b).txu = s.txu := by rw [State.setBit, State.setFld_txu]
@[simp] theorem State.setBit_cfg (f : Field) (b : Bool) : (s.setBit f b).cfg = s.cfg := by rw [State.setBit, State.setFld_cfg]
@[simp] theorem State.setBit_fabric (f : Field) (b : Bool) : (s.setBit f b).fabric = s.fabric := by rw [State.setBit, State.setFld_fabric]
@[simp] theorem State.setBit_mbx (f : Field) (b : Bool) : (s.setBit f b).mbx = s.mbx := by rw [State.setBit, State.setFld_mbx]
@[simp] theorem State.setBit_spm (f : Field) (b : Bool) : (s.setBit f b).spm = s.spm := by rw [State.setBit, State.setFld_spm]
@[simp] theorem State.setBit_noc (f : Field) (b : Bool) : (s.setBit f b).noc = s.noc := by rw [State.setBit, State.setFld_noc]
@[simp] theorem State.setBit_msix (f : Field) (b : Bool) : (s.setBit f b).msix = s.msix := by rw [State.setBit, State.setFld_msix]
@[simp] theorem State.setBit_waits (f : Field) (b : Bool) : (s.setBit f b).waits = s.waits := by rw [State.setBit, State.setFld_waits]
@[simp] theorem State.setBit_eng (f : Field) (b : Bool) : (s.setBit f b).eng = s.eng := by rw [State.setBit, State.setFld_eng]
@[simp] theorem State.setBit_spares (f : Field) (b : Bool) : (s.setBit f b).spares = s.spares := by rw [State.setBit, State.setFld_spares]
@[simp] theorem State.setBit_laps (f : Field) (b : Bool) : (s.setBit f b).laps = s.laps := by rw [State.setBit, State.setFld_laps]
@[simp] theorem State.setBit_dram (f : Field) (b : Bool) : (s.setBit f b).dram = s.dram := by rw [State.setBit, State.setFld_dram]
@[simp] theorem State.setBit_qe (f : Field) (b : Bool) : (s.setBit f b).qe = s.qe := by rw [State.setBit, State.setFld_qe]
@[simp] theorem State.setBit_cvl (f : Field) (b : Bool) : (s.setBit f b).cvl = s.cvl := by rw [State.setBit, State.setFld_cvl]
@[simp] theorem State.setBit_ntl (f : Field) (b : Bool) : (s.setBit f b).ntl = s.ntl := by rw [State.setBit, State.setFld_ntl]
@[simp] theorem State.setBit_fuses (f : Field) (b : Bool) : (s.setBit f b).fuses = s.fuses := by rw [State.setBit, State.setFld_fuses]
@[simp] theorem State.setBit_flash (f : Field) (b : Bool) : (s.setBit f b).flash = s.flash := by rw [State.setBit, State.setFld_flash]
@[simp] theorem State.setBit_loader (f : Field) (b : Bool) : (s.setBit f b).loader = s.loader := by rw [State.setBit, State.setFld_loader]
@[simp] theorem State.setBit_trust (f : Field) (b : Bool) : (s.setBit f b).trust = s.trust := by rw [State.setBit, State.setFld_trust]
@[simp] theorem State.setBit_err (f : Field) (b : Bool) : (s.setBit f b).err = s.err := by rw [State.setBit, State.setFld_err]
@[simp] theorem State.setBit_husk (f : Field) (b : Bool) : (s.setBit f b).husk = s.husk := by rw [State.setBit, State.setFld_husk]
@[simp] theorem State.setBit_mon (f : Field) (b : Bool) : (s.setBit f b).mon = s.mon := by rw [State.setBit, State.setFld_mon]
@[simp] theorem State.setBit_clk (f : Field) (b : Bool) : (s.setBit f b).clk = s.clk := by rw [State.setBit, State.setFld_clk]
@[simp] theorem State.setBit_pads (f : Field) (b : Bool) : (s.setBit f b).pads = s.pads := by rw [State.setBit, State.setFld_pads]
@[simp] theorem State.setBit_tap (f : Field) (b : Bool) : (s.setBit f b).tap = s.tap := by rw [State.setBit, State.setFld_tap]
@[simp] theorem State.setBit_engine (f : Field) (b : Bool) (q : Nat) : (s.setBit f b).engine q = s.engine q := by unfold State.engine; rw [State.setBit_eng]
@[simp] theorem State.setBit_holder (f : Field) (b : Bool) (q : Nat) : (s.setBit f b).holder q = s.holder q := by unfold State.holder; rw [State.setBit_claims]

/-! setSrcReg -/
@[simp] theorem State.setSrcReg_pending (m : Master) (o : Nat) (w : Word) : (s.setSrcReg m o w).pending = s.pending := by rw [State.setSrcReg]
@[simp] theorem State.setSrcReg_response (m : Master) (o : Nat) (w : Word) : (s.setSrcReg m o w).response = s.response := by rw [State.setSrcReg]
@[simp] theorem State.setSrcReg_freeCount (m : Master) (o : Nat) (w : Word) : (s.setSrcReg m o w).freeCount = s.freeCount := by rw [State.setSrcReg]
@[simp] theorem State.setSrcReg_faults (m : Master) (o : Nat) (w : Word) : (s.setSrcReg m o w).faults = s.faults := by rw [State.setSrcReg]
@[simp] theorem State.setSrcReg_faultLost (m : Master) (o : Nat) (w : Word) : (s.setSrcReg m o w).faultLost = s.faultLost := by rw [State.setSrcReg]
@[simp] theorem State.setSrcReg_claims (m : Master) (o : Nat) (w : Word) : (s.setSrcReg m o w).claims = s.claims := by rw [State.setSrcReg]
@[simp] theorem State.setSrcReg_cues (m : Master) (o : Nat) (w : Word) : (s.setSrcReg m o w).cues = s.cues := by rw [State.setSrcReg]
@[simp] theorem State.setSrcReg_dev (m : Master) (o : Nat) (w : Word) : (s.setSrcReg m o w).dev = s.dev := by rw [State.setSrcReg]
@[simp] theorem State.setSrcReg_tim (m : Master) (o : Nat) (w : Word) : (s.setSrcReg m o w).tim = s.tim := by rw [State.setSrcReg]
@[simp] theorem State.setSrcReg_txu (m : Master) (o : Nat) (w : Word) : (s.setSrcReg m o w).txu = s.txu := by rw [State.setSrcReg]
@[simp] theorem State.setSrcReg_cfg (m : Master) (o : Nat) (w : Word) : (s.setSrcReg m o w).cfg = s.cfg := by rw [State.setSrcReg]
@[simp] theorem State.setSrcReg_fabric (m : Master) (o : Nat) (w : Word) : (s.setSrcReg m o w).fabric = s.fabric := by rw [State.setSrcReg]
@[simp] theorem State.setSrcReg_mbx (m : Master) (o : Nat) (w : Word) : (s.setSrcReg m o w).mbx = s.mbx := by rw [State.setSrcReg]
@[simp] theorem State.setSrcReg_spm (m : Master) (o : Nat) (w : Word) : (s.setSrcReg m o w).spm = s.spm := by rw [State.setSrcReg]
@[simp] theorem State.setSrcReg_noc (m : Master) (o : Nat) (w : Word) : (s.setSrcReg m o w).noc = s.noc := by rw [State.setSrcReg]
@[simp] theorem State.setSrcReg_msix (m : Master) (o : Nat) (w : Word) : (s.setSrcReg m o w).msix = s.msix := by rw [State.setSrcReg]
@[simp] theorem State.setSrcReg_waits (m : Master) (o : Nat) (w : Word) : (s.setSrcReg m o w).waits = s.waits := by rw [State.setSrcReg]
@[simp] theorem State.setSrcReg_eng (m : Master) (o : Nat) (w : Word) : (s.setSrcReg m o w).eng = s.eng := by rw [State.setSrcReg]
@[simp] theorem State.setSrcReg_spares (m : Master) (o : Nat) (w : Word) : (s.setSrcReg m o w).spares = s.spares := by rw [State.setSrcReg]
@[simp] theorem State.setSrcReg_laps (m : Master) (o : Nat) (w : Word) : (s.setSrcReg m o w).laps = s.laps := by rw [State.setSrcReg]
@[simp] theorem State.setSrcReg_dram (m : Master) (o : Nat) (w : Word) : (s.setSrcReg m o w).dram = s.dram := by rw [State.setSrcReg]
@[simp] theorem State.setSrcReg_qe (m : Master) (o : Nat) (w : Word) : (s.setSrcReg m o w).qe = s.qe := by rw [State.setSrcReg]
@[simp] theorem State.setSrcReg_cvl (m : Master) (o : Nat) (w : Word) : (s.setSrcReg m o w).cvl = s.cvl := by rw [State.setSrcReg]
@[simp] theorem State.setSrcReg_ntl (m : Master) (o : Nat) (w : Word) : (s.setSrcReg m o w).ntl = s.ntl := by rw [State.setSrcReg]
@[simp] theorem State.setSrcReg_fuses (m : Master) (o : Nat) (w : Word) : (s.setSrcReg m o w).fuses = s.fuses := by rw [State.setSrcReg]
@[simp] theorem State.setSrcReg_flash (m : Master) (o : Nat) (w : Word) : (s.setSrcReg m o w).flash = s.flash := by rw [State.setSrcReg]
@[simp] theorem State.setSrcReg_loader (m : Master) (o : Nat) (w : Word) : (s.setSrcReg m o w).loader = s.loader := by rw [State.setSrcReg]
@[simp] theorem State.setSrcReg_trust (m : Master) (o : Nat) (w : Word) : (s.setSrcReg m o w).trust = s.trust := by rw [State.setSrcReg]
@[simp] theorem State.setSrcReg_err (m : Master) (o : Nat) (w : Word) : (s.setSrcReg m o w).err = s.err := by rw [State.setSrcReg]
@[simp] theorem State.setSrcReg_husk (m : Master) (o : Nat) (w : Word) : (s.setSrcReg m o w).husk = s.husk := by rw [State.setSrcReg]
@[simp] theorem State.setSrcReg_mon (m : Master) (o : Nat) (w : Word) : (s.setSrcReg m o w).mon = s.mon := by rw [State.setSrcReg]
@[simp] theorem State.setSrcReg_clk (m : Master) (o : Nat) (w : Word) : (s.setSrcReg m o w).clk = s.clk := by rw [State.setSrcReg]
@[simp] theorem State.setSrcReg_pads (m : Master) (o : Nat) (w : Word) : (s.setSrcReg m o w).pads = s.pads := by rw [State.setSrcReg]
@[simp] theorem State.setSrcReg_tap (m : Master) (o : Nat) (w : Word) : (s.setSrcReg m o w).tap = s.tap := by rw [State.setSrcReg]
@[simp] theorem State.setSrcReg_engine (m : Master) (o : Nat) (w : Word) (q : Nat) : (s.setSrcReg m o w).engine q = s.engine q := by unfold State.engine; rw [State.setSrcReg_eng]
@[simp] theorem State.setSrcReg_holder (m : Master) (o : Nat) (w : Word) (q : Nat) : (s.setSrcReg m o w).holder q = s.holder q := by unfold State.holder; rw [State.setSrcReg_claims]

/-! setSrcFld -/
@[simp] theorem State.setSrcFld_pending (m : Master) (f : Field) (v : Nat) : (s.setSrcFld m f v).pending = s.pending := by rw [State.setSrcFld, State.setSrcReg_pending]
@[simp] theorem State.setSrcFld_response (m : Master) (f : Field) (v : Nat) : (s.setSrcFld m f v).response = s.response := by rw [State.setSrcFld, State.setSrcReg_response]
@[simp] theorem State.setSrcFld_freeCount (m : Master) (f : Field) (v : Nat) : (s.setSrcFld m f v).freeCount = s.freeCount := by rw [State.setSrcFld, State.setSrcReg_freeCount]
@[simp] theorem State.setSrcFld_faults (m : Master) (f : Field) (v : Nat) : (s.setSrcFld m f v).faults = s.faults := by rw [State.setSrcFld, State.setSrcReg_faults]
@[simp] theorem State.setSrcFld_faultLost (m : Master) (f : Field) (v : Nat) : (s.setSrcFld m f v).faultLost = s.faultLost := by rw [State.setSrcFld, State.setSrcReg_faultLost]
@[simp] theorem State.setSrcFld_claims (m : Master) (f : Field) (v : Nat) : (s.setSrcFld m f v).claims = s.claims := by rw [State.setSrcFld, State.setSrcReg_claims]
@[simp] theorem State.setSrcFld_cues (m : Master) (f : Field) (v : Nat) : (s.setSrcFld m f v).cues = s.cues := by rw [State.setSrcFld, State.setSrcReg_cues]
@[simp] theorem State.setSrcFld_dev (m : Master) (f : Field) (v : Nat) : (s.setSrcFld m f v).dev = s.dev := by rw [State.setSrcFld, State.setSrcReg_dev]
@[simp] theorem State.setSrcFld_tim (m : Master) (f : Field) (v : Nat) : (s.setSrcFld m f v).tim = s.tim := by rw [State.setSrcFld, State.setSrcReg_tim]
@[simp] theorem State.setSrcFld_txu (m : Master) (f : Field) (v : Nat) : (s.setSrcFld m f v).txu = s.txu := by rw [State.setSrcFld, State.setSrcReg_txu]
@[simp] theorem State.setSrcFld_cfg (m : Master) (f : Field) (v : Nat) : (s.setSrcFld m f v).cfg = s.cfg := by rw [State.setSrcFld, State.setSrcReg_cfg]
@[simp] theorem State.setSrcFld_fabric (m : Master) (f : Field) (v : Nat) : (s.setSrcFld m f v).fabric = s.fabric := by rw [State.setSrcFld, State.setSrcReg_fabric]
@[simp] theorem State.setSrcFld_mbx (m : Master) (f : Field) (v : Nat) : (s.setSrcFld m f v).mbx = s.mbx := by rw [State.setSrcFld, State.setSrcReg_mbx]
@[simp] theorem State.setSrcFld_spm (m : Master) (f : Field) (v : Nat) : (s.setSrcFld m f v).spm = s.spm := by rw [State.setSrcFld, State.setSrcReg_spm]
@[simp] theorem State.setSrcFld_noc (m : Master) (f : Field) (v : Nat) : (s.setSrcFld m f v).noc = s.noc := by rw [State.setSrcFld, State.setSrcReg_noc]
@[simp] theorem State.setSrcFld_msix (m : Master) (f : Field) (v : Nat) : (s.setSrcFld m f v).msix = s.msix := by rw [State.setSrcFld, State.setSrcReg_msix]
@[simp] theorem State.setSrcFld_waits (m : Master) (f : Field) (v : Nat) : (s.setSrcFld m f v).waits = s.waits := by rw [State.setSrcFld, State.setSrcReg_waits]
@[simp] theorem State.setSrcFld_eng (m : Master) (f : Field) (v : Nat) : (s.setSrcFld m f v).eng = s.eng := by rw [State.setSrcFld, State.setSrcReg_eng]
@[simp] theorem State.setSrcFld_spares (m : Master) (f : Field) (v : Nat) : (s.setSrcFld m f v).spares = s.spares := by rw [State.setSrcFld, State.setSrcReg_spares]
@[simp] theorem State.setSrcFld_laps (m : Master) (f : Field) (v : Nat) : (s.setSrcFld m f v).laps = s.laps := by rw [State.setSrcFld, State.setSrcReg_laps]
@[simp] theorem State.setSrcFld_dram (m : Master) (f : Field) (v : Nat) : (s.setSrcFld m f v).dram = s.dram := by rw [State.setSrcFld, State.setSrcReg_dram]
@[simp] theorem State.setSrcFld_qe (m : Master) (f : Field) (v : Nat) : (s.setSrcFld m f v).qe = s.qe := by rw [State.setSrcFld, State.setSrcReg_qe]
@[simp] theorem State.setSrcFld_cvl (m : Master) (f : Field) (v : Nat) : (s.setSrcFld m f v).cvl = s.cvl := by rw [State.setSrcFld, State.setSrcReg_cvl]
@[simp] theorem State.setSrcFld_ntl (m : Master) (f : Field) (v : Nat) : (s.setSrcFld m f v).ntl = s.ntl := by rw [State.setSrcFld, State.setSrcReg_ntl]
@[simp] theorem State.setSrcFld_fuses (m : Master) (f : Field) (v : Nat) : (s.setSrcFld m f v).fuses = s.fuses := by rw [State.setSrcFld, State.setSrcReg_fuses]
@[simp] theorem State.setSrcFld_flash (m : Master) (f : Field) (v : Nat) : (s.setSrcFld m f v).flash = s.flash := by rw [State.setSrcFld, State.setSrcReg_flash]
@[simp] theorem State.setSrcFld_loader (m : Master) (f : Field) (v : Nat) : (s.setSrcFld m f v).loader = s.loader := by rw [State.setSrcFld, State.setSrcReg_loader]
@[simp] theorem State.setSrcFld_trust (m : Master) (f : Field) (v : Nat) : (s.setSrcFld m f v).trust = s.trust := by rw [State.setSrcFld, State.setSrcReg_trust]
@[simp] theorem State.setSrcFld_err (m : Master) (f : Field) (v : Nat) : (s.setSrcFld m f v).err = s.err := by rw [State.setSrcFld, State.setSrcReg_err]
@[simp] theorem State.setSrcFld_husk (m : Master) (f : Field) (v : Nat) : (s.setSrcFld m f v).husk = s.husk := by rw [State.setSrcFld, State.setSrcReg_husk]
@[simp] theorem State.setSrcFld_mon (m : Master) (f : Field) (v : Nat) : (s.setSrcFld m f v).mon = s.mon := by rw [State.setSrcFld, State.setSrcReg_mon]
@[simp] theorem State.setSrcFld_clk (m : Master) (f : Field) (v : Nat) : (s.setSrcFld m f v).clk = s.clk := by rw [State.setSrcFld, State.setSrcReg_clk]
@[simp] theorem State.setSrcFld_pads (m : Master) (f : Field) (v : Nat) : (s.setSrcFld m f v).pads = s.pads := by rw [State.setSrcFld, State.setSrcReg_pads]
@[simp] theorem State.setSrcFld_tap (m : Master) (f : Field) (v : Nat) : (s.setSrcFld m f v).tap = s.tap := by rw [State.setSrcFld, State.setSrcReg_tap]
@[simp] theorem State.setSrcFld_engine (m : Master) (f : Field) (v : Nat) (q : Nat) : (s.setSrcFld m f v).engine q = s.engine q := by unfold State.engine; rw [State.setSrcFld_eng]
@[simp] theorem State.setSrcFld_holder (m : Master) (f : Field) (v : Nat) (q : Nat) : (s.setSrcFld m f v).holder q = s.holder q := by unfold State.holder; rw [State.setSrcFld_claims]

/-! setShadow -/
@[simp] theorem State.setShadow_pending (o : Nat) (w : Word) : (s.setShadow o w).pending = s.pending := by rw [State.setShadow]
@[simp] theorem State.setShadow_response (o : Nat) (w : Word) : (s.setShadow o w).response = s.response := by rw [State.setShadow]
@[simp] theorem State.setShadow_freeCount (o : Nat) (w : Word) : (s.setShadow o w).freeCount = s.freeCount := by rw [State.setShadow]
@[simp] theorem State.setShadow_faults (o : Nat) (w : Word) : (s.setShadow o w).faults = s.faults := by rw [State.setShadow]
@[simp] theorem State.setShadow_faultLost (o : Nat) (w : Word) : (s.setShadow o w).faultLost = s.faultLost := by rw [State.setShadow]
@[simp] theorem State.setShadow_claims (o : Nat) (w : Word) : (s.setShadow o w).claims = s.claims := by rw [State.setShadow]
@[simp] theorem State.setShadow_cues (o : Nat) (w : Word) : (s.setShadow o w).cues = s.cues := by rw [State.setShadow]
@[simp] theorem State.setShadow_dev (o : Nat) (w : Word) : (s.setShadow o w).dev = s.dev := by rw [State.setShadow]
@[simp] theorem State.setShadow_tim (o : Nat) (w : Word) : (s.setShadow o w).tim = s.tim := by rw [State.setShadow]
@[simp] theorem State.setShadow_txu (o : Nat) (w : Word) : (s.setShadow o w).txu = s.txu := by rw [State.setShadow]
@[simp] theorem State.setShadow_cfg (o : Nat) (w : Word) : (s.setShadow o w).cfg = s.cfg := by rw [State.setShadow]
@[simp] theorem State.setShadow_fabric (o : Nat) (w : Word) : (s.setShadow o w).fabric = s.fabric := by rw [State.setShadow]
@[simp] theorem State.setShadow_mbx (o : Nat) (w : Word) : (s.setShadow o w).mbx = s.mbx := by rw [State.setShadow]
@[simp] theorem State.setShadow_spm (o : Nat) (w : Word) : (s.setShadow o w).spm = s.spm := by rw [State.setShadow]
@[simp] theorem State.setShadow_noc (o : Nat) (w : Word) : (s.setShadow o w).noc = s.noc := by rw [State.setShadow]
@[simp] theorem State.setShadow_msix (o : Nat) (w : Word) : (s.setShadow o w).msix = s.msix := by rw [State.setShadow]
@[simp] theorem State.setShadow_waits (o : Nat) (w : Word) : (s.setShadow o w).waits = s.waits := by rw [State.setShadow]
@[simp] theorem State.setShadow_eng (o : Nat) (w : Word) : (s.setShadow o w).eng = s.eng := by rw [State.setShadow]
@[simp] theorem State.setShadow_spares (o : Nat) (w : Word) : (s.setShadow o w).spares = s.spares := by rw [State.setShadow]
@[simp] theorem State.setShadow_laps (o : Nat) (w : Word) : (s.setShadow o w).laps = s.laps := by rw [State.setShadow]
@[simp] theorem State.setShadow_dram (o : Nat) (w : Word) : (s.setShadow o w).dram = s.dram := by rw [State.setShadow]
@[simp] theorem State.setShadow_qe (o : Nat) (w : Word) : (s.setShadow o w).qe = s.qe := by rw [State.setShadow]
@[simp] theorem State.setShadow_cvl (o : Nat) (w : Word) : (s.setShadow o w).cvl = s.cvl := by rw [State.setShadow]
@[simp] theorem State.setShadow_ntl (o : Nat) (w : Word) : (s.setShadow o w).ntl = s.ntl := by rw [State.setShadow]
@[simp] theorem State.setShadow_fuses (o : Nat) (w : Word) : (s.setShadow o w).fuses = s.fuses := by rw [State.setShadow]
@[simp] theorem State.setShadow_flash (o : Nat) (w : Word) : (s.setShadow o w).flash = s.flash := by rw [State.setShadow]
@[simp] theorem State.setShadow_loader (o : Nat) (w : Word) : (s.setShadow o w).loader = s.loader := by rw [State.setShadow]
@[simp] theorem State.setShadow_trust (o : Nat) (w : Word) : (s.setShadow o w).trust = s.trust := by rw [State.setShadow]
@[simp] theorem State.setShadow_err (o : Nat) (w : Word) : (s.setShadow o w).err = s.err := by rw [State.setShadow]
@[simp] theorem State.setShadow_husk (o : Nat) (w : Word) : (s.setShadow o w).husk = s.husk := by rw [State.setShadow]
@[simp] theorem State.setShadow_mon (o : Nat) (w : Word) : (s.setShadow o w).mon = s.mon := by rw [State.setShadow]
@[simp] theorem State.setShadow_clk (o : Nat) (w : Word) : (s.setShadow o w).clk = s.clk := by rw [State.setShadow]
@[simp] theorem State.setShadow_pads (o : Nat) (w : Word) : (s.setShadow o w).pads = s.pads := by rw [State.setShadow]
@[simp] theorem State.setShadow_tap (o : Nat) (w : Word) : (s.setShadow o w).tap = s.tap := by rw [State.setShadow]
@[simp] theorem State.setShadow_engine (o : Nat) (w : Word) (q : Nat) : (s.setShadow o w).engine q = s.engine q := by unfold State.engine; rw [State.setShadow_eng]
@[simp] theorem State.setShadow_holder (o : Nat) (w : Word) (q : Nat) : (s.setShadow o w).holder q = s.holder q := by unfold State.holder; rw [State.setShadow_claims]

/-! setLatch -/
@[simp] theorem State.setLatch_pending (m : Master) (o : Nat) (w : Option Word) : (s.setLatch m o w).pending = s.pending := by rw [State.setLatch]
@[simp] theorem State.setLatch_response (m : Master) (o : Nat) (w : Option Word) : (s.setLatch m o w).response = s.response := by rw [State.setLatch]
@[simp] theorem State.setLatch_freeCount (m : Master) (o : Nat) (w : Option Word) : (s.setLatch m o w).freeCount = s.freeCount := by rw [State.setLatch]
@[simp] theorem State.setLatch_faults (m : Master) (o : Nat) (w : Option Word) : (s.setLatch m o w).faults = s.faults := by rw [State.setLatch]
@[simp] theorem State.setLatch_faultLost (m : Master) (o : Nat) (w : Option Word) : (s.setLatch m o w).faultLost = s.faultLost := by rw [State.setLatch]
@[simp] theorem State.setLatch_claims (m : Master) (o : Nat) (w : Option Word) : (s.setLatch m o w).claims = s.claims := by rw [State.setLatch]
@[simp] theorem State.setLatch_cues (m : Master) (o : Nat) (w : Option Word) : (s.setLatch m o w).cues = s.cues := by rw [State.setLatch]
@[simp] theorem State.setLatch_dev (m : Master) (o : Nat) (w : Option Word) : (s.setLatch m o w).dev = s.dev := by rw [State.setLatch]
@[simp] theorem State.setLatch_tim (m : Master) (o : Nat) (w : Option Word) : (s.setLatch m o w).tim = s.tim := by rw [State.setLatch]
@[simp] theorem State.setLatch_txu (m : Master) (o : Nat) (w : Option Word) : (s.setLatch m o w).txu = s.txu := by rw [State.setLatch]
@[simp] theorem State.setLatch_cfg (m : Master) (o : Nat) (w : Option Word) : (s.setLatch m o w).cfg = s.cfg := by rw [State.setLatch]
@[simp] theorem State.setLatch_fabric (m : Master) (o : Nat) (w : Option Word) : (s.setLatch m o w).fabric = s.fabric := by rw [State.setLatch]
@[simp] theorem State.setLatch_mbx (m : Master) (o : Nat) (w : Option Word) : (s.setLatch m o w).mbx = s.mbx := by rw [State.setLatch]
@[simp] theorem State.setLatch_spm (m : Master) (o : Nat) (w : Option Word) : (s.setLatch m o w).spm = s.spm := by rw [State.setLatch]
@[simp] theorem State.setLatch_noc (m : Master) (o : Nat) (w : Option Word) : (s.setLatch m o w).noc = s.noc := by rw [State.setLatch]
@[simp] theorem State.setLatch_msix (m : Master) (o : Nat) (w : Option Word) : (s.setLatch m o w).msix = s.msix := by rw [State.setLatch]
@[simp] theorem State.setLatch_waits (m : Master) (o : Nat) (w : Option Word) : (s.setLatch m o w).waits = s.waits := by rw [State.setLatch]
@[simp] theorem State.setLatch_eng (m : Master) (o : Nat) (w : Option Word) : (s.setLatch m o w).eng = s.eng := by rw [State.setLatch]
@[simp] theorem State.setLatch_spares (m : Master) (o : Nat) (w : Option Word) : (s.setLatch m o w).spares = s.spares := by rw [State.setLatch]
@[simp] theorem State.setLatch_laps (m : Master) (o : Nat) (w : Option Word) : (s.setLatch m o w).laps = s.laps := by rw [State.setLatch]
@[simp] theorem State.setLatch_dram (m : Master) (o : Nat) (w : Option Word) : (s.setLatch m o w).dram = s.dram := by rw [State.setLatch]
@[simp] theorem State.setLatch_qe (m : Master) (o : Nat) (w : Option Word) : (s.setLatch m o w).qe = s.qe := by rw [State.setLatch]
@[simp] theorem State.setLatch_cvl (m : Master) (o : Nat) (w : Option Word) : (s.setLatch m o w).cvl = s.cvl := by rw [State.setLatch]
@[simp] theorem State.setLatch_ntl (m : Master) (o : Nat) (w : Option Word) : (s.setLatch m o w).ntl = s.ntl := by rw [State.setLatch]
@[simp] theorem State.setLatch_fuses (m : Master) (o : Nat) (w : Option Word) : (s.setLatch m o w).fuses = s.fuses := by rw [State.setLatch]
@[simp] theorem State.setLatch_flash (m : Master) (o : Nat) (w : Option Word) : (s.setLatch m o w).flash = s.flash := by rw [State.setLatch]
@[simp] theorem State.setLatch_loader (m : Master) (o : Nat) (w : Option Word) : (s.setLatch m o w).loader = s.loader := by rw [State.setLatch]
@[simp] theorem State.setLatch_trust (m : Master) (o : Nat) (w : Option Word) : (s.setLatch m o w).trust = s.trust := by rw [State.setLatch]
@[simp] theorem State.setLatch_err (m : Master) (o : Nat) (w : Option Word) : (s.setLatch m o w).err = s.err := by rw [State.setLatch]
@[simp] theorem State.setLatch_husk (m : Master) (o : Nat) (w : Option Word) : (s.setLatch m o w).husk = s.husk := by rw [State.setLatch]
@[simp] theorem State.setLatch_mon (m : Master) (o : Nat) (w : Option Word) : (s.setLatch m o w).mon = s.mon := by rw [State.setLatch]
@[simp] theorem State.setLatch_clk (m : Master) (o : Nat) (w : Option Word) : (s.setLatch m o w).clk = s.clk := by rw [State.setLatch]
@[simp] theorem State.setLatch_pads (m : Master) (o : Nat) (w : Option Word) : (s.setLatch m o w).pads = s.pads := by rw [State.setLatch]
@[simp] theorem State.setLatch_tap (m : Master) (o : Nat) (w : Option Word) : (s.setLatch m o w).tap = s.tap := by rw [State.setLatch]
@[simp] theorem State.setLatch_engine (m : Master) (o : Nat) (w : Option Word) (q : Nat) : (s.setLatch m o w).engine q = s.engine q := by unfold State.engine; rw [State.setLatch_eng]
@[simp] theorem State.setLatch_holder (m : Master) (o : Nat) (w : Option Word) (q : Nat) : (s.setLatch m o w).holder q = s.holder q := by unfold State.holder; rw [State.setLatch_claims]

/-! setHeld -/
@[simp] theorem State.setHeld_pending (m : Master) (o : Nat) (w : Option Word) : (s.setHeld m o w).pending = s.pending := by rw [State.setHeld]
@[simp] theorem State.setHeld_response (m : Master) (o : Nat) (w : Option Word) : (s.setHeld m o w).response = s.response := by rw [State.setHeld]
@[simp] theorem State.setHeld_freeCount (m : Master) (o : Nat) (w : Option Word) : (s.setHeld m o w).freeCount = s.freeCount := by rw [State.setHeld]
@[simp] theorem State.setHeld_faults (m : Master) (o : Nat) (w : Option Word) : (s.setHeld m o w).faults = s.faults := by rw [State.setHeld]
@[simp] theorem State.setHeld_faultLost (m : Master) (o : Nat) (w : Option Word) : (s.setHeld m o w).faultLost = s.faultLost := by rw [State.setHeld]
@[simp] theorem State.setHeld_claims (m : Master) (o : Nat) (w : Option Word) : (s.setHeld m o w).claims = s.claims := by rw [State.setHeld]
@[simp] theorem State.setHeld_cues (m : Master) (o : Nat) (w : Option Word) : (s.setHeld m o w).cues = s.cues := by rw [State.setHeld]
@[simp] theorem State.setHeld_dev (m : Master) (o : Nat) (w : Option Word) : (s.setHeld m o w).dev = s.dev := by rw [State.setHeld]
@[simp] theorem State.setHeld_tim (m : Master) (o : Nat) (w : Option Word) : (s.setHeld m o w).tim = s.tim := by rw [State.setHeld]
@[simp] theorem State.setHeld_txu (m : Master) (o : Nat) (w : Option Word) : (s.setHeld m o w).txu = s.txu := by rw [State.setHeld]
@[simp] theorem State.setHeld_cfg (m : Master) (o : Nat) (w : Option Word) : (s.setHeld m o w).cfg = s.cfg := by rw [State.setHeld]
@[simp] theorem State.setHeld_fabric (m : Master) (o : Nat) (w : Option Word) : (s.setHeld m o w).fabric = s.fabric := by rw [State.setHeld]
@[simp] theorem State.setHeld_mbx (m : Master) (o : Nat) (w : Option Word) : (s.setHeld m o w).mbx = s.mbx := by rw [State.setHeld]
@[simp] theorem State.setHeld_spm (m : Master) (o : Nat) (w : Option Word) : (s.setHeld m o w).spm = s.spm := by rw [State.setHeld]
@[simp] theorem State.setHeld_noc (m : Master) (o : Nat) (w : Option Word) : (s.setHeld m o w).noc = s.noc := by rw [State.setHeld]
@[simp] theorem State.setHeld_msix (m : Master) (o : Nat) (w : Option Word) : (s.setHeld m o w).msix = s.msix := by rw [State.setHeld]
@[simp] theorem State.setHeld_waits (m : Master) (o : Nat) (w : Option Word) : (s.setHeld m o w).waits = s.waits := by rw [State.setHeld]
@[simp] theorem State.setHeld_eng (m : Master) (o : Nat) (w : Option Word) : (s.setHeld m o w).eng = s.eng := by rw [State.setHeld]
@[simp] theorem State.setHeld_spares (m : Master) (o : Nat) (w : Option Word) : (s.setHeld m o w).spares = s.spares := by rw [State.setHeld]
@[simp] theorem State.setHeld_laps (m : Master) (o : Nat) (w : Option Word) : (s.setHeld m o w).laps = s.laps := by rw [State.setHeld]
@[simp] theorem State.setHeld_dram (m : Master) (o : Nat) (w : Option Word) : (s.setHeld m o w).dram = s.dram := by rw [State.setHeld]
@[simp] theorem State.setHeld_qe (m : Master) (o : Nat) (w : Option Word) : (s.setHeld m o w).qe = s.qe := by rw [State.setHeld]
@[simp] theorem State.setHeld_cvl (m : Master) (o : Nat) (w : Option Word) : (s.setHeld m o w).cvl = s.cvl := by rw [State.setHeld]
@[simp] theorem State.setHeld_ntl (m : Master) (o : Nat) (w : Option Word) : (s.setHeld m o w).ntl = s.ntl := by rw [State.setHeld]
@[simp] theorem State.setHeld_fuses (m : Master) (o : Nat) (w : Option Word) : (s.setHeld m o w).fuses = s.fuses := by rw [State.setHeld]
@[simp] theorem State.setHeld_flash (m : Master) (o : Nat) (w : Option Word) : (s.setHeld m o w).flash = s.flash := by rw [State.setHeld]
@[simp] theorem State.setHeld_loader (m : Master) (o : Nat) (w : Option Word) : (s.setHeld m o w).loader = s.loader := by rw [State.setHeld]
@[simp] theorem State.setHeld_trust (m : Master) (o : Nat) (w : Option Word) : (s.setHeld m o w).trust = s.trust := by rw [State.setHeld]
@[simp] theorem State.setHeld_err (m : Master) (o : Nat) (w : Option Word) : (s.setHeld m o w).err = s.err := by rw [State.setHeld]
@[simp] theorem State.setHeld_husk (m : Master) (o : Nat) (w : Option Word) : (s.setHeld m o w).husk = s.husk := by rw [State.setHeld]
@[simp] theorem State.setHeld_mon (m : Master) (o : Nat) (w : Option Word) : (s.setHeld m o w).mon = s.mon := by rw [State.setHeld]
@[simp] theorem State.setHeld_clk (m : Master) (o : Nat) (w : Option Word) : (s.setHeld m o w).clk = s.clk := by rw [State.setHeld]
@[simp] theorem State.setHeld_pads (m : Master) (o : Nat) (w : Option Word) : (s.setHeld m o w).pads = s.pads := by rw [State.setHeld]
@[simp] theorem State.setHeld_tap (m : Master) (o : Nat) (w : Option Word) : (s.setHeld m o w).tap = s.tap := by rw [State.setHeld]
@[simp] theorem State.setHeld_engine (m : Master) (o : Nat) (w : Option Word) (q : Nat) : (s.setHeld m o w).engine q = s.engine q := by unfold State.engine; rw [State.setHeld_eng]
@[simp] theorem State.setHeld_holder (m : Master) (o : Nat) (w : Option Word) (q : Nat) : (s.setHeld m o w).holder q = s.holder q := by unfold State.holder; rw [State.setHeld_claims]

/-! ack -/
@[simp] theorem State.ack_pending (x : Nat) : (s.ack x).pending = s.pending := by rw [State.ack]
@[simp] theorem State.ack_ctrl (x : Nat) : (s.ack x).ctrl = s.ctrl := by rw [State.ack]
@[simp] theorem State.ack_freeCount (x : Nat) : (s.ack x).freeCount = s.freeCount := by rw [State.ack]
@[simp] theorem State.ack_faults (x : Nat) : (s.ack x).faults = s.faults := by rw [State.ack]
@[simp] theorem State.ack_faultLost (x : Nat) : (s.ack x).faultLost = s.faultLost := by rw [State.ack]
@[simp] theorem State.ack_claims (x : Nat) : (s.ack x).claims = s.claims := by rw [State.ack]
@[simp] theorem State.ack_cues (x : Nat) : (s.ack x).cues = s.cues := by rw [State.ack]
@[simp] theorem State.ack_dev (x : Nat) : (s.ack x).dev = s.dev := by rw [State.ack]
@[simp] theorem State.ack_tim (x : Nat) : (s.ack x).tim = s.tim := by rw [State.ack]
@[simp] theorem State.ack_txu (x : Nat) : (s.ack x).txu = s.txu := by rw [State.ack]
@[simp] theorem State.ack_cfg (x : Nat) : (s.ack x).cfg = s.cfg := by rw [State.ack]
@[simp] theorem State.ack_fabric (x : Nat) : (s.ack x).fabric = s.fabric := by rw [State.ack]
@[simp] theorem State.ack_mbx (x : Nat) : (s.ack x).mbx = s.mbx := by rw [State.ack]
@[simp] theorem State.ack_spm (x : Nat) : (s.ack x).spm = s.spm := by rw [State.ack]
@[simp] theorem State.ack_noc (x : Nat) : (s.ack x).noc = s.noc := by rw [State.ack]
@[simp] theorem State.ack_msix (x : Nat) : (s.ack x).msix = s.msix := by rw [State.ack]
@[simp] theorem State.ack_waits (x : Nat) : (s.ack x).waits = s.waits := by rw [State.ack]
@[simp] theorem State.ack_eng (x : Nat) : (s.ack x).eng = s.eng := by rw [State.ack]
@[simp] theorem State.ack_spares (x : Nat) : (s.ack x).spares = s.spares := by rw [State.ack]
@[simp] theorem State.ack_laps (x : Nat) : (s.ack x).laps = s.laps := by rw [State.ack]
@[simp] theorem State.ack_dram (x : Nat) : (s.ack x).dram = s.dram := by rw [State.ack]
@[simp] theorem State.ack_qe (x : Nat) : (s.ack x).qe = s.qe := by rw [State.ack]
@[simp] theorem State.ack_cvl (x : Nat) : (s.ack x).cvl = s.cvl := by rw [State.ack]
@[simp] theorem State.ack_ntl (x : Nat) : (s.ack x).ntl = s.ntl := by rw [State.ack]
@[simp] theorem State.ack_fuses (x : Nat) : (s.ack x).fuses = s.fuses := by rw [State.ack]
@[simp] theorem State.ack_flash (x : Nat) : (s.ack x).flash = s.flash := by rw [State.ack]
@[simp] theorem State.ack_loader (x : Nat) : (s.ack x).loader = s.loader := by rw [State.ack]
@[simp] theorem State.ack_trust (x : Nat) : (s.ack x).trust = s.trust := by rw [State.ack]
@[simp] theorem State.ack_err (x : Nat) : (s.ack x).err = s.err := by rw [State.ack]
@[simp] theorem State.ack_husk (x : Nat) : (s.ack x).husk = s.husk := by rw [State.ack]
@[simp] theorem State.ack_mon (x : Nat) : (s.ack x).mon = s.mon := by rw [State.ack]
@[simp] theorem State.ack_clk (x : Nat) : (s.ack x).clk = s.clk := by rw [State.ack]
@[simp] theorem State.ack_pads (x : Nat) : (s.ack x).pads = s.pads := by rw [State.ack]
@[simp] theorem State.ack_tap (x : Nat) : (s.ack x).tap = s.tap := by rw [State.ack]
@[simp] theorem State.ack_reg (x : Nat) (q : Nat) : (s.ack x).reg q = s.reg q := by unfold State.reg; rw [State.ack_ctrl]
@[simp] theorem State.ack_fld (x : Nat) (q : Field) : (s.ack x).fld q = s.fld q := by unfold State.fld; rw [State.ack_reg]
@[simp] theorem State.ack_bit (x : Nat) (q : Field) : (s.ack x).bit q = s.bit q := by unfold State.bit; rw [State.ack_fld]
@[simp] theorem State.ack_engine (x : Nat) (q : Nat) : (s.ack x).engine q = s.engine q := by unfold State.engine; rw [State.ack_eng]
@[simp] theorem State.ack_holder (x : Nat) (q : Nat) : (s.ack x).holder q = s.holder q := by unfold State.holder; rw [State.ack_claims]

/-! error -/
@[simp] theorem State.error_pending (x : Nat) : (s.error x).pending = s.pending := by rw [State.error]
@[simp] theorem State.error_ctrl (x : Nat) : (s.error x).ctrl = s.ctrl := by rw [State.error]
@[simp] theorem State.error_freeCount (x : Nat) : (s.error x).freeCount = s.freeCount := by rw [State.error]
@[simp] theorem State.error_faults (x : Nat) : (s.error x).faults = s.faults := by rw [State.error]
@[simp] theorem State.error_faultLost (x : Nat) : (s.error x).faultLost = s.faultLost := by rw [State.error]
@[simp] theorem State.error_claims (x : Nat) : (s.error x).claims = s.claims := by rw [State.error]
@[simp] theorem State.error_cues (x : Nat) : (s.error x).cues = s.cues := by rw [State.error]
@[simp] theorem State.error_dev (x : Nat) : (s.error x).dev = s.dev := by rw [State.error]
@[simp] theorem State.error_tim (x : Nat) : (s.error x).tim = s.tim := by rw [State.error]
@[simp] theorem State.error_txu (x : Nat) : (s.error x).txu = s.txu := by rw [State.error]
@[simp] theorem State.error_cfg (x : Nat) : (s.error x).cfg = s.cfg := by rw [State.error]
@[simp] theorem State.error_fabric (x : Nat) : (s.error x).fabric = s.fabric := by rw [State.error]
@[simp] theorem State.error_mbx (x : Nat) : (s.error x).mbx = s.mbx := by rw [State.error]
@[simp] theorem State.error_spm (x : Nat) : (s.error x).spm = s.spm := by rw [State.error]
@[simp] theorem State.error_noc (x : Nat) : (s.error x).noc = s.noc := by rw [State.error]
@[simp] theorem State.error_msix (x : Nat) : (s.error x).msix = s.msix := by rw [State.error]
@[simp] theorem State.error_waits (x : Nat) : (s.error x).waits = s.waits := by rw [State.error]
@[simp] theorem State.error_eng (x : Nat) : (s.error x).eng = s.eng := by rw [State.error]
@[simp] theorem State.error_spares (x : Nat) : (s.error x).spares = s.spares := by rw [State.error]
@[simp] theorem State.error_laps (x : Nat) : (s.error x).laps = s.laps := by rw [State.error]
@[simp] theorem State.error_dram (x : Nat) : (s.error x).dram = s.dram := by rw [State.error]
@[simp] theorem State.error_qe (x : Nat) : (s.error x).qe = s.qe := by rw [State.error]
@[simp] theorem State.error_cvl (x : Nat) : (s.error x).cvl = s.cvl := by rw [State.error]
@[simp] theorem State.error_ntl (x : Nat) : (s.error x).ntl = s.ntl := by rw [State.error]
@[simp] theorem State.error_fuses (x : Nat) : (s.error x).fuses = s.fuses := by rw [State.error]
@[simp] theorem State.error_flash (x : Nat) : (s.error x).flash = s.flash := by rw [State.error]
@[simp] theorem State.error_loader (x : Nat) : (s.error x).loader = s.loader := by rw [State.error]
@[simp] theorem State.error_trust (x : Nat) : (s.error x).trust = s.trust := by rw [State.error]
@[simp] theorem State.error_err (x : Nat) : (s.error x).err = s.err := by rw [State.error]
@[simp] theorem State.error_husk (x : Nat) : (s.error x).husk = s.husk := by rw [State.error]
@[simp] theorem State.error_mon (x : Nat) : (s.error x).mon = s.mon := by rw [State.error]
@[simp] theorem State.error_clk (x : Nat) : (s.error x).clk = s.clk := by rw [State.error]
@[simp] theorem State.error_pads (x : Nat) : (s.error x).pads = s.pads := by rw [State.error]
@[simp] theorem State.error_tap (x : Nat) : (s.error x).tap = s.tap := by rw [State.error]
@[simp] theorem State.error_reg (x : Nat) (q : Nat) : (s.error x).reg q = s.reg q := by unfold State.reg; rw [State.error_ctrl]
@[simp] theorem State.error_fld (x : Nat) (q : Field) : (s.error x).fld q = s.fld q := by unfold State.fld; rw [State.error_reg]
@[simp] theorem State.error_bit (x : Nat) (q : Field) : (s.error x).bit q = s.bit q := by unfold State.bit; rw [State.error_fld]
@[simp] theorem State.error_engine (x : Nat) (q : Nat) : (s.error x).engine q = s.engine q := by unfold State.engine; rw [State.error_eng]
@[simp] theorem State.error_holder (x : Nat) (q : Nat) : (s.error x).holder q = s.holder q := by unfold State.holder; rw [State.error_claims]

/-! reply -/
@[simp] theorem State.reply_pending (b : List Byte) (p : Bool) : (s.reply b p).pending = s.pending := by rw [State.reply]
@[simp] theorem State.reply_ctrl (b : List Byte) (p : Bool) : (s.reply b p).ctrl = s.ctrl := by rw [State.reply]
@[simp] theorem State.reply_freeCount (b : List Byte) (p : Bool) : (s.reply b p).freeCount = s.freeCount := by rw [State.reply]
@[simp] theorem State.reply_faults (b : List Byte) (p : Bool) : (s.reply b p).faults = s.faults := by rw [State.reply]
@[simp] theorem State.reply_faultLost (b : List Byte) (p : Bool) : (s.reply b p).faultLost = s.faultLost := by rw [State.reply]
@[simp] theorem State.reply_claims (b : List Byte) (p : Bool) : (s.reply b p).claims = s.claims := by rw [State.reply]
@[simp] theorem State.reply_cues (b : List Byte) (p : Bool) : (s.reply b p).cues = s.cues := by rw [State.reply]
@[simp] theorem State.reply_dev (b : List Byte) (p : Bool) : (s.reply b p).dev = s.dev := by rw [State.reply]
@[simp] theorem State.reply_tim (b : List Byte) (p : Bool) : (s.reply b p).tim = s.tim := by rw [State.reply]
@[simp] theorem State.reply_txu (b : List Byte) (p : Bool) : (s.reply b p).txu = s.txu := by rw [State.reply]
@[simp] theorem State.reply_cfg (b : List Byte) (p : Bool) : (s.reply b p).cfg = s.cfg := by rw [State.reply]
@[simp] theorem State.reply_fabric (b : List Byte) (p : Bool) : (s.reply b p).fabric = s.fabric := by rw [State.reply]
@[simp] theorem State.reply_mbx (b : List Byte) (p : Bool) : (s.reply b p).mbx = s.mbx := by rw [State.reply]
@[simp] theorem State.reply_spm (b : List Byte) (p : Bool) : (s.reply b p).spm = s.spm := by rw [State.reply]
@[simp] theorem State.reply_noc (b : List Byte) (p : Bool) : (s.reply b p).noc = s.noc := by rw [State.reply]
@[simp] theorem State.reply_msix (b : List Byte) (p : Bool) : (s.reply b p).msix = s.msix := by rw [State.reply]
@[simp] theorem State.reply_waits (b : List Byte) (p : Bool) : (s.reply b p).waits = s.waits := by rw [State.reply]
@[simp] theorem State.reply_eng (b : List Byte) (p : Bool) : (s.reply b p).eng = s.eng := by rw [State.reply]
@[simp] theorem State.reply_spares (b : List Byte) (p : Bool) : (s.reply b p).spares = s.spares := by rw [State.reply]
@[simp] theorem State.reply_laps (b : List Byte) (p : Bool) : (s.reply b p).laps = s.laps := by rw [State.reply]
@[simp] theorem State.reply_dram (b : List Byte) (p : Bool) : (s.reply b p).dram = s.dram := by rw [State.reply]
@[simp] theorem State.reply_qe (b : List Byte) (p : Bool) : (s.reply b p).qe = s.qe := by rw [State.reply]
@[simp] theorem State.reply_cvl (b : List Byte) (p : Bool) : (s.reply b p).cvl = s.cvl := by rw [State.reply]
@[simp] theorem State.reply_ntl (b : List Byte) (p : Bool) : (s.reply b p).ntl = s.ntl := by rw [State.reply]
@[simp] theorem State.reply_fuses (b : List Byte) (p : Bool) : (s.reply b p).fuses = s.fuses := by rw [State.reply]
@[simp] theorem State.reply_flash (b : List Byte) (p : Bool) : (s.reply b p).flash = s.flash := by rw [State.reply]
@[simp] theorem State.reply_loader (b : List Byte) (p : Bool) : (s.reply b p).loader = s.loader := by rw [State.reply]
@[simp] theorem State.reply_trust (b : List Byte) (p : Bool) : (s.reply b p).trust = s.trust := by rw [State.reply]
@[simp] theorem State.reply_err (b : List Byte) (p : Bool) : (s.reply b p).err = s.err := by rw [State.reply]
@[simp] theorem State.reply_husk (b : List Byte) (p : Bool) : (s.reply b p).husk = s.husk := by rw [State.reply]
@[simp] theorem State.reply_mon (b : List Byte) (p : Bool) : (s.reply b p).mon = s.mon := by rw [State.reply]
@[simp] theorem State.reply_clk (b : List Byte) (p : Bool) : (s.reply b p).clk = s.clk := by rw [State.reply]
@[simp] theorem State.reply_pads (b : List Byte) (p : Bool) : (s.reply b p).pads = s.pads := by rw [State.reply]
@[simp] theorem State.reply_tap (b : List Byte) (p : Bool) : (s.reply b p).tap = s.tap := by rw [State.reply]
@[simp] theorem State.reply_reg (b : List Byte) (p : Bool) (q : Nat) : (s.reply b p).reg q = s.reg q := by unfold State.reg; rw [State.reply_ctrl]
@[simp] theorem State.reply_fld (b : List Byte) (p : Bool) (q : Field) : (s.reply b p).fld q = s.fld q := by unfold State.fld; rw [State.reply_reg]
@[simp] theorem State.reply_bit (b : List Byte) (p : Bool) (q : Field) : (s.reply b p).bit q = s.bit q := by unfold State.bit; rw [State.reply_fld]
@[simp] theorem State.reply_engine (b : List Byte) (p : Bool) (q : Nat) : (s.reply b p).engine q = s.engine q := by unfold State.engine; rw [State.reply_eng]
@[simp] theorem State.reply_holder (b : List Byte) (p : Bool) (q : Nat) : (s.reply b p).holder q = s.holder q := by unfold State.holder; rw [State.reply_claims]

/-! setHolder -/
@[simp] theorem State.setHolder_pending (o : Nat) (h : Option Master) : (s.setHolder o h).pending = s.pending := by rw [State.setHolder]
@[simp] theorem State.setHolder_ctrl (o : Nat) (h : Option Master) : (s.setHolder o h).ctrl = s.ctrl := by rw [State.setHolder]
@[simp] theorem State.setHolder_response (o : Nat) (h : Option Master) : (s.setHolder o h).response = s.response := by rw [State.setHolder]
@[simp] theorem State.setHolder_freeCount (o : Nat) (h : Option Master) : (s.setHolder o h).freeCount = s.freeCount := by rw [State.setHolder]
@[simp] theorem State.setHolder_faults (o : Nat) (h : Option Master) : (s.setHolder o h).faults = s.faults := by rw [State.setHolder]
@[simp] theorem State.setHolder_faultLost (o : Nat) (h : Option Master) : (s.setHolder o h).faultLost = s.faultLost := by rw [State.setHolder]
@[simp] theorem State.setHolder_cues (o : Nat) (h : Option Master) : (s.setHolder o h).cues = s.cues := by rw [State.setHolder]
@[simp] theorem State.setHolder_dev (o : Nat) (h : Option Master) : (s.setHolder o h).dev = s.dev := by rw [State.setHolder]
@[simp] theorem State.setHolder_tim (o : Nat) (h : Option Master) : (s.setHolder o h).tim = s.tim := by rw [State.setHolder]
@[simp] theorem State.setHolder_txu (o : Nat) (h : Option Master) : (s.setHolder o h).txu = s.txu := by rw [State.setHolder]
@[simp] theorem State.setHolder_cfg (o : Nat) (h : Option Master) : (s.setHolder o h).cfg = s.cfg := by rw [State.setHolder]
@[simp] theorem State.setHolder_fabric (o : Nat) (h : Option Master) : (s.setHolder o h).fabric = s.fabric := by rw [State.setHolder]
@[simp] theorem State.setHolder_mbx (o : Nat) (h : Option Master) : (s.setHolder o h).mbx = s.mbx := by rw [State.setHolder]
@[simp] theorem State.setHolder_spm (o : Nat) (h : Option Master) : (s.setHolder o h).spm = s.spm := by rw [State.setHolder]
@[simp] theorem State.setHolder_noc (o : Nat) (h : Option Master) : (s.setHolder o h).noc = s.noc := by rw [State.setHolder]
@[simp] theorem State.setHolder_msix (o : Nat) (h : Option Master) : (s.setHolder o h).msix = s.msix := by rw [State.setHolder]
@[simp] theorem State.setHolder_waits (o : Nat) (h : Option Master) : (s.setHolder o h).waits = s.waits := by rw [State.setHolder]
@[simp] theorem State.setHolder_eng (o : Nat) (h : Option Master) : (s.setHolder o h).eng = s.eng := by rw [State.setHolder]
@[simp] theorem State.setHolder_spares (o : Nat) (h : Option Master) : (s.setHolder o h).spares = s.spares := by rw [State.setHolder]
@[simp] theorem State.setHolder_laps (o : Nat) (h : Option Master) : (s.setHolder o h).laps = s.laps := by rw [State.setHolder]
@[simp] theorem State.setHolder_dram (o : Nat) (h : Option Master) : (s.setHolder o h).dram = s.dram := by rw [State.setHolder]
@[simp] theorem State.setHolder_qe (o : Nat) (h : Option Master) : (s.setHolder o h).qe = s.qe := by rw [State.setHolder]
@[simp] theorem State.setHolder_cvl (o : Nat) (h : Option Master) : (s.setHolder o h).cvl = s.cvl := by rw [State.setHolder]
@[simp] theorem State.setHolder_ntl (o : Nat) (h : Option Master) : (s.setHolder o h).ntl = s.ntl := by rw [State.setHolder]
@[simp] theorem State.setHolder_fuses (o : Nat) (h : Option Master) : (s.setHolder o h).fuses = s.fuses := by rw [State.setHolder]
@[simp] theorem State.setHolder_flash (o : Nat) (h : Option Master) : (s.setHolder o h).flash = s.flash := by rw [State.setHolder]
@[simp] theorem State.setHolder_loader (o : Nat) (h : Option Master) : (s.setHolder o h).loader = s.loader := by rw [State.setHolder]
@[simp] theorem State.setHolder_trust (o : Nat) (h : Option Master) : (s.setHolder o h).trust = s.trust := by rw [State.setHolder]
@[simp] theorem State.setHolder_err (o : Nat) (h : Option Master) : (s.setHolder o h).err = s.err := by rw [State.setHolder]
@[simp] theorem State.setHolder_husk (o : Nat) (h : Option Master) : (s.setHolder o h).husk = s.husk := by rw [State.setHolder]
@[simp] theorem State.setHolder_mon (o : Nat) (h : Option Master) : (s.setHolder o h).mon = s.mon := by rw [State.setHolder]
@[simp] theorem State.setHolder_clk (o : Nat) (h : Option Master) : (s.setHolder o h).clk = s.clk := by rw [State.setHolder]
@[simp] theorem State.setHolder_pads (o : Nat) (h : Option Master) : (s.setHolder o h).pads = s.pads := by rw [State.setHolder]
@[simp] theorem State.setHolder_tap (o : Nat) (h : Option Master) : (s.setHolder o h).tap = s.tap := by rw [State.setHolder]
@[simp] theorem State.setHolder_reg (o : Nat) (h : Option Master) (q : Nat) : (s.setHolder o h).reg q = s.reg q := by unfold State.reg; rw [State.setHolder_ctrl]
@[simp] theorem State.setHolder_fld (o : Nat) (h : Option Master) (q : Field) : (s.setHolder o h).fld q = s.fld q := by unfold State.fld; rw [State.setHolder_reg]
@[simp] theorem State.setHolder_bit (o : Nat) (h : Option Master) (q : Field) : (s.setHolder o h).bit q = s.bit q := by unfold State.bit; rw [State.setHolder_fld]
@[simp] theorem State.setHolder_engine (o : Nat) (h : Option Master) (q : Nat) : (s.setHolder o h).engine q = s.engine q := by unfold State.engine; rw [State.setHolder_eng]

/-! setDom -/
@[simp] theorem State.setDom_pending (b : Bool) (d : Domain) : (s.setDom b d).pending = s.pending := by rw [State.setDom]
@[simp] theorem State.setDom_ctrl (b : Bool) (d : Domain) : (s.setDom b d).ctrl = s.ctrl := by rw [State.setDom]
@[simp] theorem State.setDom_response (b : Bool) (d : Domain) : (s.setDom b d).response = s.response := by rw [State.setDom]
@[simp] theorem State.setDom_freeCount (b : Bool) (d : Domain) : (s.setDom b d).freeCount = s.freeCount := by rw [State.setDom]
@[simp] theorem State.setDom_faults (b : Bool) (d : Domain) : (s.setDom b d).faults = s.faults := by rw [State.setDom]
@[simp] theorem State.setDom_faultLost (b : Bool) (d : Domain) : (s.setDom b d).faultLost = s.faultLost := by rw [State.setDom]
@[simp] theorem State.setDom_claims (b : Bool) (d : Domain) : (s.setDom b d).claims = s.claims := by rw [State.setDom]
@[simp] theorem State.setDom_cues (b : Bool) (d : Domain) : (s.setDom b d).cues = s.cues := by rw [State.setDom]
@[simp] theorem State.setDom_dev (b : Bool) (d : Domain) : (s.setDom b d).dev = s.dev := by rw [State.setDom]
@[simp] theorem State.setDom_txu (b : Bool) (d : Domain) : (s.setDom b d).txu = s.txu := by rw [State.setDom]
@[simp] theorem State.setDom_cfg (b : Bool) (d : Domain) : (s.setDom b d).cfg = s.cfg := by rw [State.setDom]
@[simp] theorem State.setDom_fabric (b : Bool) (d : Domain) : (s.setDom b d).fabric = s.fabric := by rw [State.setDom]
@[simp] theorem State.setDom_mbx (b : Bool) (d : Domain) : (s.setDom b d).mbx = s.mbx := by rw [State.setDom]
@[simp] theorem State.setDom_spm (b : Bool) (d : Domain) : (s.setDom b d).spm = s.spm := by rw [State.setDom]
@[simp] theorem State.setDom_noc (b : Bool) (d : Domain) : (s.setDom b d).noc = s.noc := by rw [State.setDom]
@[simp] theorem State.setDom_msix (b : Bool) (d : Domain) : (s.setDom b d).msix = s.msix := by rw [State.setDom]
@[simp] theorem State.setDom_waits (b : Bool) (d : Domain) : (s.setDom b d).waits = s.waits := by rw [State.setDom]
@[simp] theorem State.setDom_eng (b : Bool) (d : Domain) : (s.setDom b d).eng = s.eng := by rw [State.setDom]
@[simp] theorem State.setDom_spares (b : Bool) (d : Domain) : (s.setDom b d).spares = s.spares := by rw [State.setDom]
@[simp] theorem State.setDom_laps (b : Bool) (d : Domain) : (s.setDom b d).laps = s.laps := by rw [State.setDom]
@[simp] theorem State.setDom_dram (b : Bool) (d : Domain) : (s.setDom b d).dram = s.dram := by rw [State.setDom]
@[simp] theorem State.setDom_qe (b : Bool) (d : Domain) : (s.setDom b d).qe = s.qe := by rw [State.setDom]
@[simp] theorem State.setDom_cvl (b : Bool) (d : Domain) : (s.setDom b d).cvl = s.cvl := by rw [State.setDom]
@[simp] theorem State.setDom_ntl (b : Bool) (d : Domain) : (s.setDom b d).ntl = s.ntl := by rw [State.setDom]
@[simp] theorem State.setDom_fuses (b : Bool) (d : Domain) : (s.setDom b d).fuses = s.fuses := by rw [State.setDom]
@[simp] theorem State.setDom_flash (b : Bool) (d : Domain) : (s.setDom b d).flash = s.flash := by rw [State.setDom]
@[simp] theorem State.setDom_loader (b : Bool) (d : Domain) : (s.setDom b d).loader = s.loader := by rw [State.setDom]
@[simp] theorem State.setDom_trust (b : Bool) (d : Domain) : (s.setDom b d).trust = s.trust := by rw [State.setDom]
@[simp] theorem State.setDom_err (b : Bool) (d : Domain) : (s.setDom b d).err = s.err := by rw [State.setDom]
@[simp] theorem State.setDom_husk (b : Bool) (d : Domain) : (s.setDom b d).husk = s.husk := by rw [State.setDom]
@[simp] theorem State.setDom_mon (b : Bool) (d : Domain) : (s.setDom b d).mon = s.mon := by rw [State.setDom]
@[simp] theorem State.setDom_clk (b : Bool) (d : Domain) : (s.setDom b d).clk = s.clk := by rw [State.setDom]
@[simp] theorem State.setDom_pads (b : Bool) (d : Domain) : (s.setDom b d).pads = s.pads := by rw [State.setDom]
@[simp] theorem State.setDom_tap (b : Bool) (d : Domain) : (s.setDom b d).tap = s.tap := by rw [State.setDom]
@[simp] theorem State.setDom_reg (b : Bool) (d : Domain) (q : Nat) : (s.setDom b d).reg q = s.reg q := by unfold State.reg; rw [State.setDom_ctrl]
@[simp] theorem State.setDom_fld (b : Bool) (d : Domain) (q : Field) : (s.setDom b d).fld q = s.fld q := by unfold State.fld; rw [State.setDom_reg]
@[simp] theorem State.setDom_bit (b : Bool) (d : Domain) (q : Field) : (s.setDom b d).bit q = s.bit q := by unfold State.bit; rw [State.setDom_fld]
@[simp] theorem State.setDom_engine (b : Bool) (d : Domain) (q : Nat) : (s.setDom b d).engine q = s.engine q := by unfold State.engine; rw [State.setDom_eng]
@[simp] theorem State.setDom_holder (b : Bool) (d : Domain) (q : Nat) : (s.setDom b d).holder q = s.holder q := by unfold State.holder; rw [State.setDom_claims]

/-! setEngine -/
@[simp] theorem State.setEngine_pending (n : Nat) (e : Engine) : (s.setEngine n e).pending = s.pending := by rw [State.setEngine]
@[simp] theorem State.setEngine_ctrl (n : Nat) (e : Engine) : (s.setEngine n e).ctrl = s.ctrl := by rw [State.setEngine]
@[simp] theorem State.setEngine_response (n : Nat) (e : Engine) : (s.setEngine n e).response = s.response := by rw [State.setEngine]
@[simp] theorem State.setEngine_freeCount (n : Nat) (e : Engine) : (s.setEngine n e).freeCount = s.freeCount := by rw [State.setEngine]
@[simp] theorem State.setEngine_faults (n : Nat) (e : Engine) : (s.setEngine n e).faults = s.faults := by rw [State.setEngine]
@[simp] theorem State.setEngine_faultLost (n : Nat) (e : Engine) : (s.setEngine n e).faultLost = s.faultLost := by rw [State.setEngine]
@[simp] theorem State.setEngine_claims (n : Nat) (e : Engine) : (s.setEngine n e).claims = s.claims := by rw [State.setEngine]
@[simp] theorem State.setEngine_cues (n : Nat) (e : Engine) : (s.setEngine n e).cues = s.cues := by rw [State.setEngine]
@[simp] theorem State.setEngine_dev (n : Nat) (e : Engine) : (s.setEngine n e).dev = s.dev := by rw [State.setEngine]
@[simp] theorem State.setEngine_tim (n : Nat) (e : Engine) : (s.setEngine n e).tim = s.tim := by rw [State.setEngine]
@[simp] theorem State.setEngine_txu (n : Nat) (e : Engine) : (s.setEngine n e).txu = s.txu := by rw [State.setEngine]
@[simp] theorem State.setEngine_cfg (n : Nat) (e : Engine) : (s.setEngine n e).cfg = s.cfg := by rw [State.setEngine]
@[simp] theorem State.setEngine_fabric (n : Nat) (e : Engine) : (s.setEngine n e).fabric = s.fabric := by rw [State.setEngine]
@[simp] theorem State.setEngine_mbx (n : Nat) (e : Engine) : (s.setEngine n e).mbx = s.mbx := by rw [State.setEngine]
@[simp] theorem State.setEngine_spm (n : Nat) (e : Engine) : (s.setEngine n e).spm = s.spm := by rw [State.setEngine]
@[simp] theorem State.setEngine_noc (n : Nat) (e : Engine) : (s.setEngine n e).noc = s.noc := by rw [State.setEngine]
@[simp] theorem State.setEngine_msix (n : Nat) (e : Engine) : (s.setEngine n e).msix = s.msix := by rw [State.setEngine]
@[simp] theorem State.setEngine_waits (n : Nat) (e : Engine) : (s.setEngine n e).waits = s.waits := by rw [State.setEngine]
@[simp] theorem State.setEngine_spares (n : Nat) (e : Engine) : (s.setEngine n e).spares = s.spares := by rw [State.setEngine]
@[simp] theorem State.setEngine_laps (n : Nat) (e : Engine) : (s.setEngine n e).laps = s.laps := by rw [State.setEngine]
@[simp] theorem State.setEngine_dram (n : Nat) (e : Engine) : (s.setEngine n e).dram = s.dram := by rw [State.setEngine]
@[simp] theorem State.setEngine_qe (n : Nat) (e : Engine) : (s.setEngine n e).qe = s.qe := by rw [State.setEngine]
@[simp] theorem State.setEngine_cvl (n : Nat) (e : Engine) : (s.setEngine n e).cvl = s.cvl := by rw [State.setEngine]
@[simp] theorem State.setEngine_ntl (n : Nat) (e : Engine) : (s.setEngine n e).ntl = s.ntl := by rw [State.setEngine]
@[simp] theorem State.setEngine_fuses (n : Nat) (e : Engine) : (s.setEngine n e).fuses = s.fuses := by rw [State.setEngine]
@[simp] theorem State.setEngine_flash (n : Nat) (e : Engine) : (s.setEngine n e).flash = s.flash := by rw [State.setEngine]
@[simp] theorem State.setEngine_loader (n : Nat) (e : Engine) : (s.setEngine n e).loader = s.loader := by rw [State.setEngine]
@[simp] theorem State.setEngine_trust (n : Nat) (e : Engine) : (s.setEngine n e).trust = s.trust := by rw [State.setEngine]
@[simp] theorem State.setEngine_err (n : Nat) (e : Engine) : (s.setEngine n e).err = s.err := by rw [State.setEngine]
@[simp] theorem State.setEngine_husk (n : Nat) (e : Engine) : (s.setEngine n e).husk = s.husk := by rw [State.setEngine]
@[simp] theorem State.setEngine_mon (n : Nat) (e : Engine) : (s.setEngine n e).mon = s.mon := by rw [State.setEngine]
@[simp] theorem State.setEngine_clk (n : Nat) (e : Engine) : (s.setEngine n e).clk = s.clk := by rw [State.setEngine]
@[simp] theorem State.setEngine_pads (n : Nat) (e : Engine) : (s.setEngine n e).pads = s.pads := by rw [State.setEngine]
@[simp] theorem State.setEngine_tap (n : Nat) (e : Engine) : (s.setEngine n e).tap = s.tap := by rw [State.setEngine]
@[simp] theorem State.setEngine_reg (n : Nat) (e : Engine) (q : Nat) : (s.setEngine n e).reg q = s.reg q := by unfold State.reg; rw [State.setEngine_ctrl]
@[simp] theorem State.setEngine_fld (n : Nat) (e : Engine) (q : Field) : (s.setEngine n e).fld q = s.fld q := by unfold State.fld; rw [State.setEngine_reg]
@[simp] theorem State.setEngine_bit (n : Nat) (e : Engine) (q : Field) : (s.setEngine n e).bit q = s.bit q := by unfold State.bit; rw [State.setEngine_fld]
@[simp] theorem State.setEngine_holder (n : Nat) (e : Engine) (q : Nat) : (s.setEngine n e).holder q = s.holder q := by unfold State.holder; rw [State.setEngine_claims]

/-! setWait -/
@[simp] theorem State.setWait_pending (n : Nat) (w : Wait) : (s.setWait n w).pending = s.pending := by rw [State.setWait]
@[simp] theorem State.setWait_ctrl (n : Nat) (w : Wait) : (s.setWait n w).ctrl = s.ctrl := by rw [State.setWait]
@[simp] theorem State.setWait_response (n : Nat) (w : Wait) : (s.setWait n w).response = s.response := by rw [State.setWait]
@[simp] theorem State.setWait_freeCount (n : Nat) (w : Wait) : (s.setWait n w).freeCount = s.freeCount := by rw [State.setWait]
@[simp] theorem State.setWait_faults (n : Nat) (w : Wait) : (s.setWait n w).faults = s.faults := by rw [State.setWait]
@[simp] theorem State.setWait_faultLost (n : Nat) (w : Wait) : (s.setWait n w).faultLost = s.faultLost := by rw [State.setWait]
@[simp] theorem State.setWait_claims (n : Nat) (w : Wait) : (s.setWait n w).claims = s.claims := by rw [State.setWait]
@[simp] theorem State.setWait_cues (n : Nat) (w : Wait) : (s.setWait n w).cues = s.cues := by rw [State.setWait]
@[simp] theorem State.setWait_dev (n : Nat) (w : Wait) : (s.setWait n w).dev = s.dev := by rw [State.setWait]
@[simp] theorem State.setWait_tim (n : Nat) (w : Wait) : (s.setWait n w).tim = s.tim := by rw [State.setWait]
@[simp] theorem State.setWait_txu (n : Nat) (w : Wait) : (s.setWait n w).txu = s.txu := by rw [State.setWait]
@[simp] theorem State.setWait_cfg (n : Nat) (w : Wait) : (s.setWait n w).cfg = s.cfg := by rw [State.setWait]
@[simp] theorem State.setWait_fabric (n : Nat) (w : Wait) : (s.setWait n w).fabric = s.fabric := by rw [State.setWait]
@[simp] theorem State.setWait_mbx (n : Nat) (w : Wait) : (s.setWait n w).mbx = s.mbx := by rw [State.setWait]
@[simp] theorem State.setWait_spm (n : Nat) (w : Wait) : (s.setWait n w).spm = s.spm := by rw [State.setWait]
@[simp] theorem State.setWait_noc (n : Nat) (w : Wait) : (s.setWait n w).noc = s.noc := by rw [State.setWait]
@[simp] theorem State.setWait_msix (n : Nat) (w : Wait) : (s.setWait n w).msix = s.msix := by rw [State.setWait]
@[simp] theorem State.setWait_eng (n : Nat) (w : Wait) : (s.setWait n w).eng = s.eng := by rw [State.setWait]
@[simp] theorem State.setWait_spares (n : Nat) (w : Wait) : (s.setWait n w).spares = s.spares := by rw [State.setWait]
@[simp] theorem State.setWait_laps (n : Nat) (w : Wait) : (s.setWait n w).laps = s.laps := by rw [State.setWait]
@[simp] theorem State.setWait_dram (n : Nat) (w : Wait) : (s.setWait n w).dram = s.dram := by rw [State.setWait]
@[simp] theorem State.setWait_qe (n : Nat) (w : Wait) : (s.setWait n w).qe = s.qe := by rw [State.setWait]
@[simp] theorem State.setWait_cvl (n : Nat) (w : Wait) : (s.setWait n w).cvl = s.cvl := by rw [State.setWait]
@[simp] theorem State.setWait_ntl (n : Nat) (w : Wait) : (s.setWait n w).ntl = s.ntl := by rw [State.setWait]
@[simp] theorem State.setWait_fuses (n : Nat) (w : Wait) : (s.setWait n w).fuses = s.fuses := by rw [State.setWait]
@[simp] theorem State.setWait_flash (n : Nat) (w : Wait) : (s.setWait n w).flash = s.flash := by rw [State.setWait]
@[simp] theorem State.setWait_loader (n : Nat) (w : Wait) : (s.setWait n w).loader = s.loader := by rw [State.setWait]
@[simp] theorem State.setWait_trust (n : Nat) (w : Wait) : (s.setWait n w).trust = s.trust := by rw [State.setWait]
@[simp] theorem State.setWait_err (n : Nat) (w : Wait) : (s.setWait n w).err = s.err := by rw [State.setWait]
@[simp] theorem State.setWait_husk (n : Nat) (w : Wait) : (s.setWait n w).husk = s.husk := by rw [State.setWait]
@[simp] theorem State.setWait_mon (n : Nat) (w : Wait) : (s.setWait n w).mon = s.mon := by rw [State.setWait]
@[simp] theorem State.setWait_clk (n : Nat) (w : Wait) : (s.setWait n w).clk = s.clk := by rw [State.setWait]
@[simp] theorem State.setWait_pads (n : Nat) (w : Wait) : (s.setWait n w).pads = s.pads := by rw [State.setWait]
@[simp] theorem State.setWait_tap (n : Nat) (w : Wait) : (s.setWait n w).tap = s.tap := by rw [State.setWait]
@[simp] theorem State.setWait_reg (n : Nat) (w : Wait) (q : Nat) : (s.setWait n w).reg q = s.reg q := by unfold State.reg; rw [State.setWait_ctrl]
@[simp] theorem State.setWait_fld (n : Nat) (w : Wait) (q : Field) : (s.setWait n w).fld q = s.fld q := by unfold State.fld; rw [State.setWait_reg]
@[simp] theorem State.setWait_bit (n : Nat) (w : Wait) (q : Field) : (s.setWait n w).bit q = s.bit q := by unfold State.bit; rw [State.setWait_fld]
@[simp] theorem State.setWait_engine (n : Nat) (w : Wait) (q : Nat) : (s.setWait n w).engine q = s.engine q := by unfold State.engine; rw [State.setWait_eng]
@[simp] theorem State.setWait_holder (n : Nat) (w : Wait) (q : Nat) : (s.setWait n w).holder q = s.holder q := by unfold State.holder; rw [State.setWait_claims]

/-! setMailbox -/
@[simp] theorem State.setMailbox_pending (m : Nat) (b : Mailbox) : (s.setMailbox m b).pending = s.pending := by rw [State.setMailbox]
@[simp] theorem State.setMailbox_ctrl (m : Nat) (b : Mailbox) : (s.setMailbox m b).ctrl = s.ctrl := by rw [State.setMailbox]
@[simp] theorem State.setMailbox_response (m : Nat) (b : Mailbox) : (s.setMailbox m b).response = s.response := by rw [State.setMailbox]
@[simp] theorem State.setMailbox_freeCount (m : Nat) (b : Mailbox) : (s.setMailbox m b).freeCount = s.freeCount := by rw [State.setMailbox]
@[simp] theorem State.setMailbox_faults (m : Nat) (b : Mailbox) : (s.setMailbox m b).faults = s.faults := by rw [State.setMailbox]
@[simp] theorem State.setMailbox_faultLost (m : Nat) (b : Mailbox) : (s.setMailbox m b).faultLost = s.faultLost := by rw [State.setMailbox]
@[simp] theorem State.setMailbox_claims (m : Nat) (b : Mailbox) : (s.setMailbox m b).claims = s.claims := by rw [State.setMailbox]
@[simp] theorem State.setMailbox_cues (m : Nat) (b : Mailbox) : (s.setMailbox m b).cues = s.cues := by rw [State.setMailbox]
@[simp] theorem State.setMailbox_dev (m : Nat) (b : Mailbox) : (s.setMailbox m b).dev = s.dev := by rw [State.setMailbox]
@[simp] theorem State.setMailbox_tim (m : Nat) (b : Mailbox) : (s.setMailbox m b).tim = s.tim := by rw [State.setMailbox]
@[simp] theorem State.setMailbox_txu (m : Nat) (b : Mailbox) : (s.setMailbox m b).txu = s.txu := by rw [State.setMailbox]
@[simp] theorem State.setMailbox_cfg (m : Nat) (b : Mailbox) : (s.setMailbox m b).cfg = s.cfg := by rw [State.setMailbox]
@[simp] theorem State.setMailbox_fabric (m : Nat) (b : Mailbox) : (s.setMailbox m b).fabric = s.fabric := by rw [State.setMailbox]
@[simp] theorem State.setMailbox_spm (m : Nat) (b : Mailbox) : (s.setMailbox m b).spm = s.spm := by rw [State.setMailbox]
@[simp] theorem State.setMailbox_noc (m : Nat) (b : Mailbox) : (s.setMailbox m b).noc = s.noc := by rw [State.setMailbox]
@[simp] theorem State.setMailbox_msix (m : Nat) (b : Mailbox) : (s.setMailbox m b).msix = s.msix := by rw [State.setMailbox]
@[simp] theorem State.setMailbox_waits (m : Nat) (b : Mailbox) : (s.setMailbox m b).waits = s.waits := by rw [State.setMailbox]
@[simp] theorem State.setMailbox_eng (m : Nat) (b : Mailbox) : (s.setMailbox m b).eng = s.eng := by rw [State.setMailbox]
@[simp] theorem State.setMailbox_spares (m : Nat) (b : Mailbox) : (s.setMailbox m b).spares = s.spares := by rw [State.setMailbox]
@[simp] theorem State.setMailbox_laps (m : Nat) (b : Mailbox) : (s.setMailbox m b).laps = s.laps := by rw [State.setMailbox]
@[simp] theorem State.setMailbox_dram (m : Nat) (b : Mailbox) : (s.setMailbox m b).dram = s.dram := by rw [State.setMailbox]
@[simp] theorem State.setMailbox_qe (m : Nat) (b : Mailbox) : (s.setMailbox m b).qe = s.qe := by rw [State.setMailbox]
@[simp] theorem State.setMailbox_cvl (m : Nat) (b : Mailbox) : (s.setMailbox m b).cvl = s.cvl := by rw [State.setMailbox]
@[simp] theorem State.setMailbox_ntl (m : Nat) (b : Mailbox) : (s.setMailbox m b).ntl = s.ntl := by rw [State.setMailbox]
@[simp] theorem State.setMailbox_fuses (m : Nat) (b : Mailbox) : (s.setMailbox m b).fuses = s.fuses := by rw [State.setMailbox]
@[simp] theorem State.setMailbox_flash (m : Nat) (b : Mailbox) : (s.setMailbox m b).flash = s.flash := by rw [State.setMailbox]
@[simp] theorem State.setMailbox_loader (m : Nat) (b : Mailbox) : (s.setMailbox m b).loader = s.loader := by rw [State.setMailbox]
@[simp] theorem State.setMailbox_trust (m : Nat) (b : Mailbox) : (s.setMailbox m b).trust = s.trust := by rw [State.setMailbox]
@[simp] theorem State.setMailbox_err (m : Nat) (b : Mailbox) : (s.setMailbox m b).err = s.err := by rw [State.setMailbox]
@[simp] theorem State.setMailbox_husk (m : Nat) (b : Mailbox) : (s.setMailbox m b).husk = s.husk := by rw [State.setMailbox]
@[simp] theorem State.setMailbox_mon (m : Nat) (b : Mailbox) : (s.setMailbox m b).mon = s.mon := by rw [State.setMailbox]
@[simp] theorem State.setMailbox_clk (m : Nat) (b : Mailbox) : (s.setMailbox m b).clk = s.clk := by rw [State.setMailbox]
@[simp] theorem State.setMailbox_pads (m : Nat) (b : Mailbox) : (s.setMailbox m b).pads = s.pads := by rw [State.setMailbox]
@[simp] theorem State.setMailbox_tap (m : Nat) (b : Mailbox) : (s.setMailbox m b).tap = s.tap := by rw [State.setMailbox]
@[simp] theorem State.setMailbox_reg (m : Nat) (b : Mailbox) (q : Nat) : (s.setMailbox m b).reg q = s.reg q := by unfold State.reg; rw [State.setMailbox_ctrl]
@[simp] theorem State.setMailbox_fld (m : Nat) (b : Mailbox) (q : Field) : (s.setMailbox m b).fld q = s.fld q := by unfold State.fld; rw [State.setMailbox_reg]
@[simp] theorem State.setMailbox_bit (m : Nat) (b : Mailbox) (q : Field) : (s.setMailbox m b).bit q = s.bit q := by unfold State.bit; rw [State.setMailbox_fld]
@[simp] theorem State.setMailbox_engine (m : Nat) (b : Mailbox) (q : Nat) : (s.setMailbox m b).engine q = s.engine q := by unfold State.engine; rw [State.setMailbox_eng]
@[simp] theorem State.setMailbox_holder (m : Nat) (b : Mailbox) (q : Nat) : (s.setMailbox m b).holder q = s.holder q := by unfold State.holder; rw [State.setMailbox_claims]

/-! setTx -/
@[simp] theorem State.setTx_pending (id : Nat) (t : Tx) : (s.setTx id t).pending = s.pending := by rw [State.setTx]
@[simp] theorem State.setTx_ctrl (id : Nat) (t : Tx) : (s.setTx id t).ctrl = s.ctrl := by rw [State.setTx]
@[simp] theorem State.setTx_response (id : Nat) (t : Tx) : (s.setTx id t).response = s.response := by rw [State.setTx]
@[simp] theorem State.setTx_freeCount (id : Nat) (t : Tx) : (s.setTx id t).freeCount = s.freeCount := by rw [State.setTx]
@[simp] theorem State.setTx_faults (id : Nat) (t : Tx) : (s.setTx id t).faults = s.faults := by rw [State.setTx]
@[simp] theorem State.setTx_faultLost (id : Nat) (t : Tx) : (s.setTx id t).faultLost = s.faultLost := by rw [State.setTx]
@[simp] theorem State.setTx_claims (id : Nat) (t : Tx) : (s.setTx id t).claims = s.claims := by rw [State.setTx]
@[simp] theorem State.setTx_cues (id : Nat) (t : Tx) : (s.setTx id t).cues = s.cues := by rw [State.setTx]
@[simp] theorem State.setTx_dev (id : Nat) (t : Tx) : (s.setTx id t).dev = s.dev := by rw [State.setTx]
@[simp] theorem State.setTx_tim (id : Nat) (t : Tx) : (s.setTx id t).tim = s.tim := by rw [State.setTx]
@[simp] theorem State.setTx_cfg (id : Nat) (t : Tx) : (s.setTx id t).cfg = s.cfg := by rw [State.setTx]
@[simp] theorem State.setTx_fabric (id : Nat) (t : Tx) : (s.setTx id t).fabric = s.fabric := by rw [State.setTx]
@[simp] theorem State.setTx_mbx (id : Nat) (t : Tx) : (s.setTx id t).mbx = s.mbx := by rw [State.setTx]
@[simp] theorem State.setTx_spm (id : Nat) (t : Tx) : (s.setTx id t).spm = s.spm := by rw [State.setTx]
@[simp] theorem State.setTx_noc (id : Nat) (t : Tx) : (s.setTx id t).noc = s.noc := by rw [State.setTx]
@[simp] theorem State.setTx_msix (id : Nat) (t : Tx) : (s.setTx id t).msix = s.msix := by rw [State.setTx]
@[simp] theorem State.setTx_waits (id : Nat) (t : Tx) : (s.setTx id t).waits = s.waits := by rw [State.setTx]
@[simp] theorem State.setTx_eng (id : Nat) (t : Tx) : (s.setTx id t).eng = s.eng := by rw [State.setTx]
@[simp] theorem State.setTx_spares (id : Nat) (t : Tx) : (s.setTx id t).spares = s.spares := by rw [State.setTx]
@[simp] theorem State.setTx_laps (id : Nat) (t : Tx) : (s.setTx id t).laps = s.laps := by rw [State.setTx]
@[simp] theorem State.setTx_dram (id : Nat) (t : Tx) : (s.setTx id t).dram = s.dram := by rw [State.setTx]
@[simp] theorem State.setTx_qe (id : Nat) (t : Tx) : (s.setTx id t).qe = s.qe := by rw [State.setTx]
@[simp] theorem State.setTx_cvl (id : Nat) (t : Tx) : (s.setTx id t).cvl = s.cvl := by rw [State.setTx]
@[simp] theorem State.setTx_ntl (id : Nat) (t : Tx) : (s.setTx id t).ntl = s.ntl := by rw [State.setTx]
@[simp] theorem State.setTx_fuses (id : Nat) (t : Tx) : (s.setTx id t).fuses = s.fuses := by rw [State.setTx]
@[simp] theorem State.setTx_flash (id : Nat) (t : Tx) : (s.setTx id t).flash = s.flash := by rw [State.setTx]
@[simp] theorem State.setTx_loader (id : Nat) (t : Tx) : (s.setTx id t).loader = s.loader := by rw [State.setTx]
@[simp] theorem State.setTx_trust (id : Nat) (t : Tx) : (s.setTx id t).trust = s.trust := by rw [State.setTx]
@[simp] theorem State.setTx_err (id : Nat) (t : Tx) : (s.setTx id t).err = s.err := by rw [State.setTx]
@[simp] theorem State.setTx_husk (id : Nat) (t : Tx) : (s.setTx id t).husk = s.husk := by rw [State.setTx]
@[simp] theorem State.setTx_mon (id : Nat) (t : Tx) : (s.setTx id t).mon = s.mon := by rw [State.setTx]
@[simp] theorem State.setTx_clk (id : Nat) (t : Tx) : (s.setTx id t).clk = s.clk := by rw [State.setTx]
@[simp] theorem State.setTx_pads (id : Nat) (t : Tx) : (s.setTx id t).pads = s.pads := by rw [State.setTx]
@[simp] theorem State.setTx_tap (id : Nat) (t : Tx) : (s.setTx id t).tap = s.tap := by rw [State.setTx]
@[simp] theorem State.setTx_reg (id : Nat) (t : Tx) (q : Nat) : (s.setTx id t).reg q = s.reg q := by unfold State.reg; rw [State.setTx_ctrl]
@[simp] theorem State.setTx_fld (id : Nat) (t : Tx) (q : Field) : (s.setTx id t).fld q = s.fld q := by unfold State.fld; rw [State.setTx_reg]
@[simp] theorem State.setTx_bit (id : Nat) (t : Tx) (q : Field) : (s.setTx id t).bit q = s.bit q := by unfold State.bit; rw [State.setTx_fld]
@[simp] theorem State.setTx_engine (id : Nat) (t : Tx) (q : Nat) : (s.setTx id t).engine q = s.engine q := by unfold State.engine; rw [State.setTx_eng]
@[simp] theorem State.setTx_holder (id : Nat) (t : Tx) (q : Nat) : (s.setTx id t).holder q = s.holder q := by unfold State.holder; rw [State.setTx_claims]

/-! setStore -/
@[simp] theorem State.setStore_pending (id : Nat) (part : Master) (p : PartStore) : (s.setStore id part p).pending = s.pending := by rw [State.setStore]
@[simp] theorem State.setStore_ctrl (id : Nat) (part : Master) (p : PartStore) : (s.setStore id part p).ctrl = s.ctrl := by rw [State.setStore]
@[simp] theorem State.setStore_response (id : Nat) (part : Master) (p : PartStore) : (s.setStore id part p).response = s.response := by rw [State.setStore]
@[simp] theorem State.setStore_freeCount (id : Nat) (part : Master) (p : PartStore) : (s.setStore id part p).freeCount = s.freeCount := by rw [State.setStore]
@[simp] theorem State.setStore_faults (id : Nat) (part : Master) (p : PartStore) : (s.setStore id part p).faults = s.faults := by rw [State.setStore]
@[simp] theorem State.setStore_faultLost (id : Nat) (part : Master) (p : PartStore) : (s.setStore id part p).faultLost = s.faultLost := by rw [State.setStore]
@[simp] theorem State.setStore_claims (id : Nat) (part : Master) (p : PartStore) : (s.setStore id part p).claims = s.claims := by rw [State.setStore]
@[simp] theorem State.setStore_cues (id : Nat) (part : Master) (p : PartStore) : (s.setStore id part p).cues = s.cues := by rw [State.setStore]
@[simp] theorem State.setStore_dev (id : Nat) (part : Master) (p : PartStore) : (s.setStore id part p).dev = s.dev := by rw [State.setStore]
@[simp] theorem State.setStore_tim (id : Nat) (part : Master) (p : PartStore) : (s.setStore id part p).tim = s.tim := by rw [State.setStore]
@[simp] theorem State.setStore_cfg (id : Nat) (part : Master) (p : PartStore) : (s.setStore id part p).cfg = s.cfg := by rw [State.setStore]
@[simp] theorem State.setStore_fabric (id : Nat) (part : Master) (p : PartStore) : (s.setStore id part p).fabric = s.fabric := by rw [State.setStore]
@[simp] theorem State.setStore_mbx (id : Nat) (part : Master) (p : PartStore) : (s.setStore id part p).mbx = s.mbx := by rw [State.setStore]
@[simp] theorem State.setStore_spm (id : Nat) (part : Master) (p : PartStore) : (s.setStore id part p).spm = s.spm := by rw [State.setStore]
@[simp] theorem State.setStore_noc (id : Nat) (part : Master) (p : PartStore) : (s.setStore id part p).noc = s.noc := by rw [State.setStore]
@[simp] theorem State.setStore_msix (id : Nat) (part : Master) (p : PartStore) : (s.setStore id part p).msix = s.msix := by rw [State.setStore]
@[simp] theorem State.setStore_waits (id : Nat) (part : Master) (p : PartStore) : (s.setStore id part p).waits = s.waits := by rw [State.setStore]
@[simp] theorem State.setStore_eng (id : Nat) (part : Master) (p : PartStore) : (s.setStore id part p).eng = s.eng := by rw [State.setStore]
@[simp] theorem State.setStore_spares (id : Nat) (part : Master) (p : PartStore) : (s.setStore id part p).spares = s.spares := by rw [State.setStore]
@[simp] theorem State.setStore_laps (id : Nat) (part : Master) (p : PartStore) : (s.setStore id part p).laps = s.laps := by rw [State.setStore]
@[simp] theorem State.setStore_dram (id : Nat) (part : Master) (p : PartStore) : (s.setStore id part p).dram = s.dram := by rw [State.setStore]
@[simp] theorem State.setStore_qe (id : Nat) (part : Master) (p : PartStore) : (s.setStore id part p).qe = s.qe := by rw [State.setStore]
@[simp] theorem State.setStore_cvl (id : Nat) (part : Master) (p : PartStore) : (s.setStore id part p).cvl = s.cvl := by rw [State.setStore]
@[simp] theorem State.setStore_ntl (id : Nat) (part : Master) (p : PartStore) : (s.setStore id part p).ntl = s.ntl := by rw [State.setStore]
@[simp] theorem State.setStore_fuses (id : Nat) (part : Master) (p : PartStore) : (s.setStore id part p).fuses = s.fuses := by rw [State.setStore]
@[simp] theorem State.setStore_flash (id : Nat) (part : Master) (p : PartStore) : (s.setStore id part p).flash = s.flash := by rw [State.setStore]
@[simp] theorem State.setStore_loader (id : Nat) (part : Master) (p : PartStore) : (s.setStore id part p).loader = s.loader := by rw [State.setStore]
@[simp] theorem State.setStore_trust (id : Nat) (part : Master) (p : PartStore) : (s.setStore id part p).trust = s.trust := by rw [State.setStore]
@[simp] theorem State.setStore_err (id : Nat) (part : Master) (p : PartStore) : (s.setStore id part p).err = s.err := by rw [State.setStore]
@[simp] theorem State.setStore_husk (id : Nat) (part : Master) (p : PartStore) : (s.setStore id part p).husk = s.husk := by rw [State.setStore]
@[simp] theorem State.setStore_mon (id : Nat) (part : Master) (p : PartStore) : (s.setStore id part p).mon = s.mon := by rw [State.setStore]
@[simp] theorem State.setStore_clk (id : Nat) (part : Master) (p : PartStore) : (s.setStore id part p).clk = s.clk := by rw [State.setStore]
@[simp] theorem State.setStore_pads (id : Nat) (part : Master) (p : PartStore) : (s.setStore id part p).pads = s.pads := by rw [State.setStore]
@[simp] theorem State.setStore_tap (id : Nat) (part : Master) (p : PartStore) : (s.setStore id part p).tap = s.tap := by rw [State.setStore]
@[simp] theorem State.setStore_reg (id : Nat) (part : Master) (p : PartStore) (q : Nat) : (s.setStore id part p).reg q = s.reg q := by unfold State.reg; rw [State.setStore_ctrl]
@[simp] theorem State.setStore_fld (id : Nat) (part : Master) (p : PartStore) (q : Field) : (s.setStore id part p).fld q = s.fld q := by unfold State.fld; rw [State.setStore_reg]
@[simp] theorem State.setStore_bit (id : Nat) (part : Master) (p : PartStore) (q : Field) : (s.setStore id part p).bit q = s.bit q := by unfold State.bit; rw [State.setStore_fld]
@[simp] theorem State.setStore_engine (id : Nat) (part : Master) (p : PartStore) (q : Nat) : (s.setStore id part p).engine q = s.engine q := by unfold State.engine; rw [State.setStore_eng]
@[simp] theorem State.setStore_holder (id : Nat) (part : Master) (p : PartStore) (q : Nat) : (s.setStore id part p).holder q = s.holder q := by unfold State.holder; rw [State.setStore_claims]

/-! setAp -/
@[simp] theorem State.setAp_pending (p : Nat) (x : AccessPoint) : (s.setAp p x).pending = s.pending := by rw [State.setAp]
@[simp] theorem State.setAp_ctrl (p : Nat) (x : AccessPoint) : (s.setAp p x).ctrl = s.ctrl := by rw [State.setAp]
@[simp] theorem State.setAp_response (p : Nat) (x : AccessPoint) : (s.setAp p x).response = s.response := by rw [State.setAp]
@[simp] theorem State.setAp_freeCount (p : Nat) (x : AccessPoint) : (s.setAp p x).freeCount = s.freeCount := by rw [State.setAp]
@[simp] theorem State.setAp_faults (p : Nat) (x : AccessPoint) : (s.setAp p x).faults = s.faults := by rw [State.setAp]
@[simp] theorem State.setAp_faultLost (p : Nat) (x : AccessPoint) : (s.setAp p x).faultLost = s.faultLost := by rw [State.setAp]
@[simp] theorem State.setAp_claims (p : Nat) (x : AccessPoint) : (s.setAp p x).claims = s.claims := by rw [State.setAp]
@[simp] theorem State.setAp_cues (p : Nat) (x : AccessPoint) : (s.setAp p x).cues = s.cues := by rw [State.setAp]
@[simp] theorem State.setAp_dev (p : Nat) (x : AccessPoint) : (s.setAp p x).dev = s.dev := by rw [State.setAp]
@[simp] theorem State.setAp_tim (p : Nat) (x : AccessPoint) : (s.setAp p x).tim = s.tim := by rw [State.setAp]
@[simp] theorem State.setAp_txu (p : Nat) (x : AccessPoint) : (s.setAp p x).txu = s.txu := by rw [State.setAp]
@[simp] theorem State.setAp_cfg (p : Nat) (x : AccessPoint) : (s.setAp p x).cfg = s.cfg := by rw [State.setAp]
@[simp] theorem State.setAp_mbx (p : Nat) (x : AccessPoint) : (s.setAp p x).mbx = s.mbx := by rw [State.setAp]
@[simp] theorem State.setAp_spm (p : Nat) (x : AccessPoint) : (s.setAp p x).spm = s.spm := by rw [State.setAp]
@[simp] theorem State.setAp_noc (p : Nat) (x : AccessPoint) : (s.setAp p x).noc = s.noc := by rw [State.setAp]
@[simp] theorem State.setAp_msix (p : Nat) (x : AccessPoint) : (s.setAp p x).msix = s.msix := by rw [State.setAp]
@[simp] theorem State.setAp_waits (p : Nat) (x : AccessPoint) : (s.setAp p x).waits = s.waits := by rw [State.setAp]
@[simp] theorem State.setAp_eng (p : Nat) (x : AccessPoint) : (s.setAp p x).eng = s.eng := by rw [State.setAp]
@[simp] theorem State.setAp_spares (p : Nat) (x : AccessPoint) : (s.setAp p x).spares = s.spares := by rw [State.setAp]
@[simp] theorem State.setAp_laps (p : Nat) (x : AccessPoint) : (s.setAp p x).laps = s.laps := by rw [State.setAp]
@[simp] theorem State.setAp_dram (p : Nat) (x : AccessPoint) : (s.setAp p x).dram = s.dram := by rw [State.setAp]
@[simp] theorem State.setAp_qe (p : Nat) (x : AccessPoint) : (s.setAp p x).qe = s.qe := by rw [State.setAp]
@[simp] theorem State.setAp_cvl (p : Nat) (x : AccessPoint) : (s.setAp p x).cvl = s.cvl := by rw [State.setAp]
@[simp] theorem State.setAp_ntl (p : Nat) (x : AccessPoint) : (s.setAp p x).ntl = s.ntl := by rw [State.setAp]
@[simp] theorem State.setAp_fuses (p : Nat) (x : AccessPoint) : (s.setAp p x).fuses = s.fuses := by rw [State.setAp]
@[simp] theorem State.setAp_flash (p : Nat) (x : AccessPoint) : (s.setAp p x).flash = s.flash := by rw [State.setAp]
@[simp] theorem State.setAp_loader (p : Nat) (x : AccessPoint) : (s.setAp p x).loader = s.loader := by rw [State.setAp]
@[simp] theorem State.setAp_trust (p : Nat) (x : AccessPoint) : (s.setAp p x).trust = s.trust := by rw [State.setAp]
@[simp] theorem State.setAp_err (p : Nat) (x : AccessPoint) : (s.setAp p x).err = s.err := by rw [State.setAp]
@[simp] theorem State.setAp_husk (p : Nat) (x : AccessPoint) : (s.setAp p x).husk = s.husk := by rw [State.setAp]
@[simp] theorem State.setAp_mon (p : Nat) (x : AccessPoint) : (s.setAp p x).mon = s.mon := by rw [State.setAp]
@[simp] theorem State.setAp_clk (p : Nat) (x : AccessPoint) : (s.setAp p x).clk = s.clk := by rw [State.setAp]
@[simp] theorem State.setAp_pads (p : Nat) (x : AccessPoint) : (s.setAp p x).pads = s.pads := by rw [State.setAp]
@[simp] theorem State.setAp_tap (p : Nat) (x : AccessPoint) : (s.setAp p x).tap = s.tap := by rw [State.setAp]
@[simp] theorem State.setAp_reg (p : Nat) (x : AccessPoint) (q : Nat) : (s.setAp p x).reg q = s.reg q := by unfold State.reg; rw [State.setAp_ctrl]
@[simp] theorem State.setAp_fld (p : Nat) (x : AccessPoint) (q : Field) : (s.setAp p x).fld q = s.fld q := by unfold State.fld; rw [State.setAp_reg]
@[simp] theorem State.setAp_bit (p : Nat) (x : AccessPoint) (q : Field) : (s.setAp p x).bit q = s.bit q := by unfold State.bit; rw [State.setAp_fld]
@[simp] theorem State.setAp_engine (p : Nat) (x : AccessPoint) (q : Nat) : (s.setAp p x).engine q = s.engine q := by unfold State.engine; rw [State.setAp_eng]
@[simp] theorem State.setAp_holder (p : Nat) (x : AccessPoint) (q : Nat) : (s.setAp p x).holder q = s.holder q := by unfold State.holder; rw [State.setAp_claims]

/-! setTree -/
@[simp] theorem State.setTree_pending (k : Nat) (t : Tree) : (s.setTree k t).pending = s.pending := by rw [State.setTree]
@[simp] theorem State.setTree_ctrl (k : Nat) (t : Tree) : (s.setTree k t).ctrl = s.ctrl := by rw [State.setTree]
@[simp] theorem State.setTree_response (k : Nat) (t : Tree) : (s.setTree k t).response = s.response := by rw [State.setTree]
@[simp] theorem State.setTree_freeCount (k : Nat) (t : Tree) : (s.setTree k t).freeCount = s.freeCount := by rw [State.setTree]
@[simp] theorem State.setTree_faults (k : Nat) (t : Tree) : (s.setTree k t).faults = s.faults := by rw [State.setTree]
@[simp] theorem State.setTree_faultLost (k : Nat) (t : Tree) : (s.setTree k t).faultLost = s.faultLost := by rw [State.setTree]
@[simp] theorem State.setTree_claims (k : Nat) (t : Tree) : (s.setTree k t).claims = s.claims := by rw [State.setTree]
@[simp] theorem State.setTree_cues (k : Nat) (t : Tree) : (s.setTree k t).cues = s.cues := by rw [State.setTree]
@[simp] theorem State.setTree_dev (k : Nat) (t : Tree) : (s.setTree k t).dev = s.dev := by rw [State.setTree]
@[simp] theorem State.setTree_tim (k : Nat) (t : Tree) : (s.setTree k t).tim = s.tim := by rw [State.setTree]
@[simp] theorem State.setTree_txu (k : Nat) (t : Tree) : (s.setTree k t).txu = s.txu := by rw [State.setTree]
@[simp] theorem State.setTree_cfg (k : Nat) (t : Tree) : (s.setTree k t).cfg = s.cfg := by rw [State.setTree]
@[simp] theorem State.setTree_mbx (k : Nat) (t : Tree) : (s.setTree k t).mbx = s.mbx := by rw [State.setTree]
@[simp] theorem State.setTree_spm (k : Nat) (t : Tree) : (s.setTree k t).spm = s.spm := by rw [State.setTree]
@[simp] theorem State.setTree_noc (k : Nat) (t : Tree) : (s.setTree k t).noc = s.noc := by rw [State.setTree]
@[simp] theorem State.setTree_msix (k : Nat) (t : Tree) : (s.setTree k t).msix = s.msix := by rw [State.setTree]
@[simp] theorem State.setTree_waits (k : Nat) (t : Tree) : (s.setTree k t).waits = s.waits := by rw [State.setTree]
@[simp] theorem State.setTree_eng (k : Nat) (t : Tree) : (s.setTree k t).eng = s.eng := by rw [State.setTree]
@[simp] theorem State.setTree_spares (k : Nat) (t : Tree) : (s.setTree k t).spares = s.spares := by rw [State.setTree]
@[simp] theorem State.setTree_laps (k : Nat) (t : Tree) : (s.setTree k t).laps = s.laps := by rw [State.setTree]
@[simp] theorem State.setTree_dram (k : Nat) (t : Tree) : (s.setTree k t).dram = s.dram := by rw [State.setTree]
@[simp] theorem State.setTree_qe (k : Nat) (t : Tree) : (s.setTree k t).qe = s.qe := by rw [State.setTree]
@[simp] theorem State.setTree_cvl (k : Nat) (t : Tree) : (s.setTree k t).cvl = s.cvl := by rw [State.setTree]
@[simp] theorem State.setTree_ntl (k : Nat) (t : Tree) : (s.setTree k t).ntl = s.ntl := by rw [State.setTree]
@[simp] theorem State.setTree_fuses (k : Nat) (t : Tree) : (s.setTree k t).fuses = s.fuses := by rw [State.setTree]
@[simp] theorem State.setTree_flash (k : Nat) (t : Tree) : (s.setTree k t).flash = s.flash := by rw [State.setTree]
@[simp] theorem State.setTree_loader (k : Nat) (t : Tree) : (s.setTree k t).loader = s.loader := by rw [State.setTree]
@[simp] theorem State.setTree_trust (k : Nat) (t : Tree) : (s.setTree k t).trust = s.trust := by rw [State.setTree]
@[simp] theorem State.setTree_err (k : Nat) (t : Tree) : (s.setTree k t).err = s.err := by rw [State.setTree]
@[simp] theorem State.setTree_husk (k : Nat) (t : Tree) : (s.setTree k t).husk = s.husk := by rw [State.setTree]
@[simp] theorem State.setTree_mon (k : Nat) (t : Tree) : (s.setTree k t).mon = s.mon := by rw [State.setTree]
@[simp] theorem State.setTree_clk (k : Nat) (t : Tree) : (s.setTree k t).clk = s.clk := by rw [State.setTree]
@[simp] theorem State.setTree_pads (k : Nat) (t : Tree) : (s.setTree k t).pads = s.pads := by rw [State.setTree]
@[simp] theorem State.setTree_tap (k : Nat) (t : Tree) : (s.setTree k t).tap = s.tap := by rw [State.setTree]
@[simp] theorem State.setTree_reg (k : Nat) (t : Tree) (q : Nat) : (s.setTree k t).reg q = s.reg q := by unfold State.reg; rw [State.setTree_ctrl]
@[simp] theorem State.setTree_fld (k : Nat) (t : Tree) (q : Field) : (s.setTree k t).fld q = s.fld q := by unfold State.fld; rw [State.setTree_reg]
@[simp] theorem State.setTree_bit (k : Nat) (t : Tree) (q : Field) : (s.setTree k t).bit q = s.bit q := by unfold State.bit; rw [State.setTree_fld]
@[simp] theorem State.setTree_engine (k : Nat) (t : Tree) (q : Nat) : (s.setTree k t).engine q = s.engine q := by unfold State.engine; rw [State.setTree_eng]
@[simp] theorem State.setTree_holder (k : Nat) (t : Tree) (q : Nat) : (s.setTree k t).holder q = s.holder q := by unfold State.holder; rw [State.setTree_claims]

/-! setBram -/
@[simp] theorem State.setBram_pending (k : Nat) (w : BramWord) : (s.setBram k w).pending = s.pending := by rw [State.setBram]
@[simp] theorem State.setBram_ctrl (k : Nat) (w : BramWord) : (s.setBram k w).ctrl = s.ctrl := by rw [State.setBram]
@[simp] theorem State.setBram_response (k : Nat) (w : BramWord) : (s.setBram k w).response = s.response := by rw [State.setBram]
@[simp] theorem State.setBram_freeCount (k : Nat) (w : BramWord) : (s.setBram k w).freeCount = s.freeCount := by rw [State.setBram]
@[simp] theorem State.setBram_faults (k : Nat) (w : BramWord) : (s.setBram k w).faults = s.faults := by rw [State.setBram]
@[simp] theorem State.setBram_faultLost (k : Nat) (w : BramWord) : (s.setBram k w).faultLost = s.faultLost := by rw [State.setBram]
@[simp] theorem State.setBram_claims (k : Nat) (w : BramWord) : (s.setBram k w).claims = s.claims := by rw [State.setBram]
@[simp] theorem State.setBram_cues (k : Nat) (w : BramWord) : (s.setBram k w).cues = s.cues := by rw [State.setBram]
@[simp] theorem State.setBram_dev (k : Nat) (w : BramWord) : (s.setBram k w).dev = s.dev := by rw [State.setBram]
@[simp] theorem State.setBram_tim (k : Nat) (w : BramWord) : (s.setBram k w).tim = s.tim := by rw [State.setBram]
@[simp] theorem State.setBram_txu (k : Nat) (w : BramWord) : (s.setBram k w).txu = s.txu := by rw [State.setBram]
@[simp] theorem State.setBram_cfg (k : Nat) (w : BramWord) : (s.setBram k w).cfg = s.cfg := by rw [State.setBram]
@[simp] theorem State.setBram_mbx (k : Nat) (w : BramWord) : (s.setBram k w).mbx = s.mbx := by rw [State.setBram]
@[simp] theorem State.setBram_spm (k : Nat) (w : BramWord) : (s.setBram k w).spm = s.spm := by rw [State.setBram]
@[simp] theorem State.setBram_noc (k : Nat) (w : BramWord) : (s.setBram k w).noc = s.noc := by rw [State.setBram]
@[simp] theorem State.setBram_msix (k : Nat) (w : BramWord) : (s.setBram k w).msix = s.msix := by rw [State.setBram]
@[simp] theorem State.setBram_waits (k : Nat) (w : BramWord) : (s.setBram k w).waits = s.waits := by rw [State.setBram]
@[simp] theorem State.setBram_eng (k : Nat) (w : BramWord) : (s.setBram k w).eng = s.eng := by rw [State.setBram]
@[simp] theorem State.setBram_spares (k : Nat) (w : BramWord) : (s.setBram k w).spares = s.spares := by rw [State.setBram]
@[simp] theorem State.setBram_laps (k : Nat) (w : BramWord) : (s.setBram k w).laps = s.laps := by rw [State.setBram]
@[simp] theorem State.setBram_dram (k : Nat) (w : BramWord) : (s.setBram k w).dram = s.dram := by rw [State.setBram]
@[simp] theorem State.setBram_qe (k : Nat) (w : BramWord) : (s.setBram k w).qe = s.qe := by rw [State.setBram]
@[simp] theorem State.setBram_cvl (k : Nat) (w : BramWord) : (s.setBram k w).cvl = s.cvl := by rw [State.setBram]
@[simp] theorem State.setBram_ntl (k : Nat) (w : BramWord) : (s.setBram k w).ntl = s.ntl := by rw [State.setBram]
@[simp] theorem State.setBram_fuses (k : Nat) (w : BramWord) : (s.setBram k w).fuses = s.fuses := by rw [State.setBram]
@[simp] theorem State.setBram_flash (k : Nat) (w : BramWord) : (s.setBram k w).flash = s.flash := by rw [State.setBram]
@[simp] theorem State.setBram_loader (k : Nat) (w : BramWord) : (s.setBram k w).loader = s.loader := by rw [State.setBram]
@[simp] theorem State.setBram_trust (k : Nat) (w : BramWord) : (s.setBram k w).trust = s.trust := by rw [State.setBram]
@[simp] theorem State.setBram_err (k : Nat) (w : BramWord) : (s.setBram k w).err = s.err := by rw [State.setBram]
@[simp] theorem State.setBram_husk (k : Nat) (w : BramWord) : (s.setBram k w).husk = s.husk := by rw [State.setBram]
@[simp] theorem State.setBram_mon (k : Nat) (w : BramWord) : (s.setBram k w).mon = s.mon := by rw [State.setBram]
@[simp] theorem State.setBram_clk (k : Nat) (w : BramWord) : (s.setBram k w).clk = s.clk := by rw [State.setBram]
@[simp] theorem State.setBram_pads (k : Nat) (w : BramWord) : (s.setBram k w).pads = s.pads := by rw [State.setBram]
@[simp] theorem State.setBram_tap (k : Nat) (w : BramWord) : (s.setBram k w).tap = s.tap := by rw [State.setBram]
@[simp] theorem State.setBram_reg (k : Nat) (w : BramWord) (q : Nat) : (s.setBram k w).reg q = s.reg q := by unfold State.reg; rw [State.setBram_ctrl]
@[simp] theorem State.setBram_fld (k : Nat) (w : BramWord) (q : Field) : (s.setBram k w).fld q = s.fld q := by unfold State.fld; rw [State.setBram_reg]
@[simp] theorem State.setBram_bit (k : Nat) (w : BramWord) (q : Field) : (s.setBram k w).bit q = s.bit q := by unfold State.bit; rw [State.setBram_fld]
@[simp] theorem State.setBram_engine (k : Nat) (w : BramWord) (q : Nat) : (s.setBram k w).engine q = s.engine q := by unfold State.engine; rw [State.setBram_eng]
@[simp] theorem State.setBram_holder (k : Nat) (w : BramWord) (q : Nat) : (s.setBram k w).holder q = s.holder q := by unfold State.holder; rw [State.setBram_claims]

/-! setPod -/
@[simp] theorem State.setPod_pending (p : Nat) (x : Pod) : (s.setPod p x).pending = s.pending := by rw [State.setPod]
@[simp] theorem State.setPod_ctrl (p : Nat) (x : Pod) : (s.setPod p x).ctrl = s.ctrl := by rw [State.setPod]
@[simp] theorem State.setPod_response (p : Nat) (x : Pod) : (s.setPod p x).response = s.response := by rw [State.setPod]
@[simp] theorem State.setPod_freeCount (p : Nat) (x : Pod) : (s.setPod p x).freeCount = s.freeCount := by rw [State.setPod]
@[simp] theorem State.setPod_faults (p : Nat) (x : Pod) : (s.setPod p x).faults = s.faults := by rw [State.setPod]
@[simp] theorem State.setPod_faultLost (p : Nat) (x : Pod) : (s.setPod p x).faultLost = s.faultLost := by rw [State.setPod]
@[simp] theorem State.setPod_claims (p : Nat) (x : Pod) : (s.setPod p x).claims = s.claims := by rw [State.setPod]
@[simp] theorem State.setPod_cues (p : Nat) (x : Pod) : (s.setPod p x).cues = s.cues := by rw [State.setPod]
@[simp] theorem State.setPod_dev (p : Nat) (x : Pod) : (s.setPod p x).dev = s.dev := by rw [State.setPod]
@[simp] theorem State.setPod_tim (p : Nat) (x : Pod) : (s.setPod p x).tim = s.tim := by rw [State.setPod]
@[simp] theorem State.setPod_txu (p : Nat) (x : Pod) : (s.setPod p x).txu = s.txu := by rw [State.setPod]
@[simp] theorem State.setPod_fabric (p : Nat) (x : Pod) : (s.setPod p x).fabric = s.fabric := by rw [State.setPod]
@[simp] theorem State.setPod_mbx (p : Nat) (x : Pod) : (s.setPod p x).mbx = s.mbx := by rw [State.setPod]
@[simp] theorem State.setPod_spm (p : Nat) (x : Pod) : (s.setPod p x).spm = s.spm := by rw [State.setPod]
@[simp] theorem State.setPod_noc (p : Nat) (x : Pod) : (s.setPod p x).noc = s.noc := by rw [State.setPod]
@[simp] theorem State.setPod_msix (p : Nat) (x : Pod) : (s.setPod p x).msix = s.msix := by rw [State.setPod]
@[simp] theorem State.setPod_waits (p : Nat) (x : Pod) : (s.setPod p x).waits = s.waits := by rw [State.setPod]
@[simp] theorem State.setPod_eng (p : Nat) (x : Pod) : (s.setPod p x).eng = s.eng := by rw [State.setPod]
@[simp] theorem State.setPod_spares (p : Nat) (x : Pod) : (s.setPod p x).spares = s.spares := by rw [State.setPod]
@[simp] theorem State.setPod_laps (p : Nat) (x : Pod) : (s.setPod p x).laps = s.laps := by rw [State.setPod]
@[simp] theorem State.setPod_dram (p : Nat) (x : Pod) : (s.setPod p x).dram = s.dram := by rw [State.setPod]
@[simp] theorem State.setPod_qe (p : Nat) (x : Pod) : (s.setPod p x).qe = s.qe := by rw [State.setPod]
@[simp] theorem State.setPod_cvl (p : Nat) (x : Pod) : (s.setPod p x).cvl = s.cvl := by rw [State.setPod]
@[simp] theorem State.setPod_ntl (p : Nat) (x : Pod) : (s.setPod p x).ntl = s.ntl := by rw [State.setPod]
@[simp] theorem State.setPod_fuses (p : Nat) (x : Pod) : (s.setPod p x).fuses = s.fuses := by rw [State.setPod]
@[simp] theorem State.setPod_flash (p : Nat) (x : Pod) : (s.setPod p x).flash = s.flash := by rw [State.setPod]
@[simp] theorem State.setPod_loader (p : Nat) (x : Pod) : (s.setPod p x).loader = s.loader := by rw [State.setPod]
@[simp] theorem State.setPod_trust (p : Nat) (x : Pod) : (s.setPod p x).trust = s.trust := by rw [State.setPod]
@[simp] theorem State.setPod_err (p : Nat) (x : Pod) : (s.setPod p x).err = s.err := by rw [State.setPod]
@[simp] theorem State.setPod_husk (p : Nat) (x : Pod) : (s.setPod p x).husk = s.husk := by rw [State.setPod]
@[simp] theorem State.setPod_mon (p : Nat) (x : Pod) : (s.setPod p x).mon = s.mon := by rw [State.setPod]
@[simp] theorem State.setPod_clk (p : Nat) (x : Pod) : (s.setPod p x).clk = s.clk := by rw [State.setPod]
@[simp] theorem State.setPod_pads (p : Nat) (x : Pod) : (s.setPod p x).pads = s.pads := by rw [State.setPod]
@[simp] theorem State.setPod_tap (p : Nat) (x : Pod) : (s.setPod p x).tap = s.tap := by rw [State.setPod]
@[simp] theorem State.setPod_reg (p : Nat) (x : Pod) (q : Nat) : (s.setPod p x).reg q = s.reg q := by unfold State.reg; rw [State.setPod_ctrl]
@[simp] theorem State.setPod_fld (p : Nat) (x : Pod) (q : Field) : (s.setPod p x).fld q = s.fld q := by unfold State.fld; rw [State.setPod_reg]
@[simp] theorem State.setPod_bit (p : Nat) (x : Pod) (q : Field) : (s.setPod p x).bit q = s.bit q := by unfold State.bit; rw [State.setPod_fld]
@[simp] theorem State.setPod_engine (p : Nat) (x : Pod) (q : Nat) : (s.setPod p x).engine q = s.engine q := by unfold State.engine; rw [State.setPod_eng]
@[simp] theorem State.setPod_holder (p : Nat) (x : Pod) (q : Nat) : (s.setPod p x).holder q = s.holder q := by unfold State.holder; rw [State.setPod_claims]

/-! setSpmByte -/
@[simp] theorem State.setSpmByte_pending (k b : Nat) (v : Byte) : (s.setSpmByte k b v).pending = s.pending := by rw [State.setSpmByte]
@[simp] theorem State.setSpmByte_ctrl (k b : Nat) (v : Byte) : (s.setSpmByte k b v).ctrl = s.ctrl := by rw [State.setSpmByte]
@[simp] theorem State.setSpmByte_response (k b : Nat) (v : Byte) : (s.setSpmByte k b v).response = s.response := by rw [State.setSpmByte]
@[simp] theorem State.setSpmByte_freeCount (k b : Nat) (v : Byte) : (s.setSpmByte k b v).freeCount = s.freeCount := by rw [State.setSpmByte]
@[simp] theorem State.setSpmByte_faults (k b : Nat) (v : Byte) : (s.setSpmByte k b v).faults = s.faults := by rw [State.setSpmByte]
@[simp] theorem State.setSpmByte_faultLost (k b : Nat) (v : Byte) : (s.setSpmByte k b v).faultLost = s.faultLost := by rw [State.setSpmByte]
@[simp] theorem State.setSpmByte_claims (k b : Nat) (v : Byte) : (s.setSpmByte k b v).claims = s.claims := by rw [State.setSpmByte]
@[simp] theorem State.setSpmByte_cues (k b : Nat) (v : Byte) : (s.setSpmByte k b v).cues = s.cues := by rw [State.setSpmByte]
@[simp] theorem State.setSpmByte_dev (k b : Nat) (v : Byte) : (s.setSpmByte k b v).dev = s.dev := by rw [State.setSpmByte]
@[simp] theorem State.setSpmByte_tim (k b : Nat) (v : Byte) : (s.setSpmByte k b v).tim = s.tim := by rw [State.setSpmByte]
@[simp] theorem State.setSpmByte_txu (k b : Nat) (v : Byte) : (s.setSpmByte k b v).txu = s.txu := by rw [State.setSpmByte]
@[simp] theorem State.setSpmByte_cfg (k b : Nat) (v : Byte) : (s.setSpmByte k b v).cfg = s.cfg := by rw [State.setSpmByte]
@[simp] theorem State.setSpmByte_fabric (k b : Nat) (v : Byte) : (s.setSpmByte k b v).fabric = s.fabric := by rw [State.setSpmByte]
@[simp] theorem State.setSpmByte_mbx (k b : Nat) (v : Byte) : (s.setSpmByte k b v).mbx = s.mbx := by rw [State.setSpmByte]
@[simp] theorem State.setSpmByte_noc (k b : Nat) (v : Byte) : (s.setSpmByte k b v).noc = s.noc := by rw [State.setSpmByte]
@[simp] theorem State.setSpmByte_msix (k b : Nat) (v : Byte) : (s.setSpmByte k b v).msix = s.msix := by rw [State.setSpmByte]
@[simp] theorem State.setSpmByte_waits (k b : Nat) (v : Byte) : (s.setSpmByte k b v).waits = s.waits := by rw [State.setSpmByte]
@[simp] theorem State.setSpmByte_eng (k b : Nat) (v : Byte) : (s.setSpmByte k b v).eng = s.eng := by rw [State.setSpmByte]
@[simp] theorem State.setSpmByte_spares (k b : Nat) (v : Byte) : (s.setSpmByte k b v).spares = s.spares := by rw [State.setSpmByte]
@[simp] theorem State.setSpmByte_laps (k b : Nat) (v : Byte) : (s.setSpmByte k b v).laps = s.laps := by rw [State.setSpmByte]
@[simp] theorem State.setSpmByte_dram (k b : Nat) (v : Byte) : (s.setSpmByte k b v).dram = s.dram := by rw [State.setSpmByte]
@[simp] theorem State.setSpmByte_qe (k b : Nat) (v : Byte) : (s.setSpmByte k b v).qe = s.qe := by rw [State.setSpmByte]
@[simp] theorem State.setSpmByte_cvl (k b : Nat) (v : Byte) : (s.setSpmByte k b v).cvl = s.cvl := by rw [State.setSpmByte]
@[simp] theorem State.setSpmByte_ntl (k b : Nat) (v : Byte) : (s.setSpmByte k b v).ntl = s.ntl := by rw [State.setSpmByte]
@[simp] theorem State.setSpmByte_fuses (k b : Nat) (v : Byte) : (s.setSpmByte k b v).fuses = s.fuses := by rw [State.setSpmByte]
@[simp] theorem State.setSpmByte_flash (k b : Nat) (v : Byte) : (s.setSpmByte k b v).flash = s.flash := by rw [State.setSpmByte]
@[simp] theorem State.setSpmByte_loader (k b : Nat) (v : Byte) : (s.setSpmByte k b v).loader = s.loader := by rw [State.setSpmByte]
@[simp] theorem State.setSpmByte_trust (k b : Nat) (v : Byte) : (s.setSpmByte k b v).trust = s.trust := by rw [State.setSpmByte]
@[simp] theorem State.setSpmByte_err (k b : Nat) (v : Byte) : (s.setSpmByte k b v).err = s.err := by rw [State.setSpmByte]
@[simp] theorem State.setSpmByte_husk (k b : Nat) (v : Byte) : (s.setSpmByte k b v).husk = s.husk := by rw [State.setSpmByte]
@[simp] theorem State.setSpmByte_mon (k b : Nat) (v : Byte) : (s.setSpmByte k b v).mon = s.mon := by rw [State.setSpmByte]
@[simp] theorem State.setSpmByte_clk (k b : Nat) (v : Byte) : (s.setSpmByte k b v).clk = s.clk := by rw [State.setSpmByte]
@[simp] theorem State.setSpmByte_pads (k b : Nat) (v : Byte) : (s.setSpmByte k b v).pads = s.pads := by rw [State.setSpmByte]
@[simp] theorem State.setSpmByte_tap (k b : Nat) (v : Byte) : (s.setSpmByte k b v).tap = s.tap := by rw [State.setSpmByte]
@[simp] theorem State.setSpmByte_reg (k b : Nat) (v : Byte) (q : Nat) : (s.setSpmByte k b v).reg q = s.reg q := by unfold State.reg; rw [State.setSpmByte_ctrl]
@[simp] theorem State.setSpmByte_fld (k b : Nat) (v : Byte) (q : Field) : (s.setSpmByte k b v).fld q = s.fld q := by unfold State.fld; rw [State.setSpmByte_reg]
@[simp] theorem State.setSpmByte_bit (k b : Nat) (v : Byte) (q : Field) : (s.setSpmByte k b v).bit q = s.bit q := by unfold State.bit; rw [State.setSpmByte_fld]
@[simp] theorem State.setSpmByte_engine (k b : Nat) (v : Byte) (q : Nat) : (s.setSpmByte k b v).engine q = s.engine q := by unfold State.engine; rw [State.setSpmByte_eng]
@[simp] theorem State.setSpmByte_holder (k b : Nat) (v : Byte) (q : Nat) : (s.setSpmByte k b v).holder q = s.holder q := by unfold State.holder; rw [State.setSpmByte_claims]

/-! setSpmPoison -/
@[simp] theorem State.setSpmPoison_pending (k : Nat) (p : Bool) : (s.setSpmPoison k p).pending = s.pending := by rw [State.setSpmPoison]
@[simp] theorem State.setSpmPoison_ctrl (k : Nat) (p : Bool) : (s.setSpmPoison k p).ctrl = s.ctrl := by rw [State.setSpmPoison]
@[simp] theorem State.setSpmPoison_response (k : Nat) (p : Bool) : (s.setSpmPoison k p).response = s.response := by rw [State.setSpmPoison]
@[simp] theorem State.setSpmPoison_freeCount (k : Nat) (p : Bool) : (s.setSpmPoison k p).freeCount = s.freeCount := by rw [State.setSpmPoison]
@[simp] theorem State.setSpmPoison_faults (k : Nat) (p : Bool) : (s.setSpmPoison k p).faults = s.faults := by rw [State.setSpmPoison]
@[simp] theorem State.setSpmPoison_faultLost (k : Nat) (p : Bool) : (s.setSpmPoison k p).faultLost = s.faultLost := by rw [State.setSpmPoison]
@[simp] theorem State.setSpmPoison_claims (k : Nat) (p : Bool) : (s.setSpmPoison k p).claims = s.claims := by rw [State.setSpmPoison]
@[simp] theorem State.setSpmPoison_cues (k : Nat) (p : Bool) : (s.setSpmPoison k p).cues = s.cues := by rw [State.setSpmPoison]
@[simp] theorem State.setSpmPoison_dev (k : Nat) (p : Bool) : (s.setSpmPoison k p).dev = s.dev := by rw [State.setSpmPoison]
@[simp] theorem State.setSpmPoison_tim (k : Nat) (p : Bool) : (s.setSpmPoison k p).tim = s.tim := by rw [State.setSpmPoison]
@[simp] theorem State.setSpmPoison_txu (k : Nat) (p : Bool) : (s.setSpmPoison k p).txu = s.txu := by rw [State.setSpmPoison]
@[simp] theorem State.setSpmPoison_cfg (k : Nat) (p : Bool) : (s.setSpmPoison k p).cfg = s.cfg := by rw [State.setSpmPoison]
@[simp] theorem State.setSpmPoison_fabric (k : Nat) (p : Bool) : (s.setSpmPoison k p).fabric = s.fabric := by rw [State.setSpmPoison]
@[simp] theorem State.setSpmPoison_mbx (k : Nat) (p : Bool) : (s.setSpmPoison k p).mbx = s.mbx := by rw [State.setSpmPoison]
@[simp] theorem State.setSpmPoison_noc (k : Nat) (p : Bool) : (s.setSpmPoison k p).noc = s.noc := by rw [State.setSpmPoison]
@[simp] theorem State.setSpmPoison_msix (k : Nat) (p : Bool) : (s.setSpmPoison k p).msix = s.msix := by rw [State.setSpmPoison]
@[simp] theorem State.setSpmPoison_waits (k : Nat) (p : Bool) : (s.setSpmPoison k p).waits = s.waits := by rw [State.setSpmPoison]
@[simp] theorem State.setSpmPoison_eng (k : Nat) (p : Bool) : (s.setSpmPoison k p).eng = s.eng := by rw [State.setSpmPoison]
@[simp] theorem State.setSpmPoison_spares (k : Nat) (p : Bool) : (s.setSpmPoison k p).spares = s.spares := by rw [State.setSpmPoison]
@[simp] theorem State.setSpmPoison_laps (k : Nat) (p : Bool) : (s.setSpmPoison k p).laps = s.laps := by rw [State.setSpmPoison]
@[simp] theorem State.setSpmPoison_dram (k : Nat) (p : Bool) : (s.setSpmPoison k p).dram = s.dram := by rw [State.setSpmPoison]
@[simp] theorem State.setSpmPoison_qe (k : Nat) (p : Bool) : (s.setSpmPoison k p).qe = s.qe := by rw [State.setSpmPoison]
@[simp] theorem State.setSpmPoison_cvl (k : Nat) (p : Bool) : (s.setSpmPoison k p).cvl = s.cvl := by rw [State.setSpmPoison]
@[simp] theorem State.setSpmPoison_ntl (k : Nat) (p : Bool) : (s.setSpmPoison k p).ntl = s.ntl := by rw [State.setSpmPoison]
@[simp] theorem State.setSpmPoison_fuses (k : Nat) (p : Bool) : (s.setSpmPoison k p).fuses = s.fuses := by rw [State.setSpmPoison]
@[simp] theorem State.setSpmPoison_flash (k : Nat) (p : Bool) : (s.setSpmPoison k p).flash = s.flash := by rw [State.setSpmPoison]
@[simp] theorem State.setSpmPoison_loader (k : Nat) (p : Bool) : (s.setSpmPoison k p).loader = s.loader := by rw [State.setSpmPoison]
@[simp] theorem State.setSpmPoison_trust (k : Nat) (p : Bool) : (s.setSpmPoison k p).trust = s.trust := by rw [State.setSpmPoison]
@[simp] theorem State.setSpmPoison_err (k : Nat) (p : Bool) : (s.setSpmPoison k p).err = s.err := by rw [State.setSpmPoison]
@[simp] theorem State.setSpmPoison_husk (k : Nat) (p : Bool) : (s.setSpmPoison k p).husk = s.husk := by rw [State.setSpmPoison]
@[simp] theorem State.setSpmPoison_mon (k : Nat) (p : Bool) : (s.setSpmPoison k p).mon = s.mon := by rw [State.setSpmPoison]
@[simp] theorem State.setSpmPoison_clk (k : Nat) (p : Bool) : (s.setSpmPoison k p).clk = s.clk := by rw [State.setSpmPoison]
@[simp] theorem State.setSpmPoison_pads (k : Nat) (p : Bool) : (s.setSpmPoison k p).pads = s.pads := by rw [State.setSpmPoison]
@[simp] theorem State.setSpmPoison_tap (k : Nat) (p : Bool) : (s.setSpmPoison k p).tap = s.tap := by rw [State.setSpmPoison]
@[simp] theorem State.setSpmPoison_reg (k : Nat) (p : Bool) (q : Nat) : (s.setSpmPoison k p).reg q = s.reg q := by unfold State.reg; rw [State.setSpmPoison_ctrl]
@[simp] theorem State.setSpmPoison_fld (k : Nat) (p : Bool) (q : Field) : (s.setSpmPoison k p).fld q = s.fld q := by unfold State.fld; rw [State.setSpmPoison_reg]
@[simp] theorem State.setSpmPoison_bit (k : Nat) (p : Bool) (q : Field) : (s.setSpmPoison k p).bit q = s.bit q := by unfold State.bit; rw [State.setSpmPoison_fld]
@[simp] theorem State.setSpmPoison_engine (k : Nat) (p : Bool) (q : Nat) : (s.setSpmPoison k p).engine q = s.engine q := by unfold State.engine; rw [State.setSpmPoison_eng]
@[simp] theorem State.setSpmPoison_holder (k : Nat) (p : Bool) (q : Nat) : (s.setSpmPoison k p).holder q = s.holder q := by unfold State.holder; rw [State.setSpmPoison_claims]

/-! setQueue -/
@[simp] theorem State.setQueue_pending (k : Nat) (x : Queue) : (s.setQueue k x).pending = s.pending := by rw [State.setQueue]
@[simp] theorem State.setQueue_ctrl (k : Nat) (x : Queue) : (s.setQueue k x).ctrl = s.ctrl := by rw [State.setQueue]
@[simp] theorem State.setQueue_response (k : Nat) (x : Queue) : (s.setQueue k x).response = s.response := by rw [State.setQueue]
@[simp] theorem State.setQueue_freeCount (k : Nat) (x : Queue) : (s.setQueue k x).freeCount = s.freeCount := by rw [State.setQueue]
@[simp] theorem State.setQueue_faults (k : Nat) (x : Queue) : (s.setQueue k x).faults = s.faults := by rw [State.setQueue]
@[simp] theorem State.setQueue_faultLost (k : Nat) (x : Queue) : (s.setQueue k x).faultLost = s.faultLost := by rw [State.setQueue]
@[simp] theorem State.setQueue_claims (k : Nat) (x : Queue) : (s.setQueue k x).claims = s.claims := by rw [State.setQueue]
@[simp] theorem State.setQueue_cues (k : Nat) (x : Queue) : (s.setQueue k x).cues = s.cues := by rw [State.setQueue]
@[simp] theorem State.setQueue_dev (k : Nat) (x : Queue) : (s.setQueue k x).dev = s.dev := by rw [State.setQueue]
@[simp] theorem State.setQueue_tim (k : Nat) (x : Queue) : (s.setQueue k x).tim = s.tim := by rw [State.setQueue]
@[simp] theorem State.setQueue_txu (k : Nat) (x : Queue) : (s.setQueue k x).txu = s.txu := by rw [State.setQueue]
@[simp] theorem State.setQueue_cfg (k : Nat) (x : Queue) : (s.setQueue k x).cfg = s.cfg := by rw [State.setQueue]
@[simp] theorem State.setQueue_fabric (k : Nat) (x : Queue) : (s.setQueue k x).fabric = s.fabric := by rw [State.setQueue]
@[simp] theorem State.setQueue_mbx (k : Nat) (x : Queue) : (s.setQueue k x).mbx = s.mbx := by rw [State.setQueue]
@[simp] theorem State.setQueue_spm (k : Nat) (x : Queue) : (s.setQueue k x).spm = s.spm := by rw [State.setQueue]
@[simp] theorem State.setQueue_noc (k : Nat) (x : Queue) : (s.setQueue k x).noc = s.noc := by rw [State.setQueue]
@[simp] theorem State.setQueue_msix (k : Nat) (x : Queue) : (s.setQueue k x).msix = s.msix := by rw [State.setQueue]
@[simp] theorem State.setQueue_waits (k : Nat) (x : Queue) : (s.setQueue k x).waits = s.waits := by rw [State.setQueue]
@[simp] theorem State.setQueue_eng (k : Nat) (x : Queue) : (s.setQueue k x).eng = s.eng := by rw [State.setQueue]
@[simp] theorem State.setQueue_spares (k : Nat) (x : Queue) : (s.setQueue k x).spares = s.spares := by rw [State.setQueue]
@[simp] theorem State.setQueue_laps (k : Nat) (x : Queue) : (s.setQueue k x).laps = s.laps := by rw [State.setQueue]
@[simp] theorem State.setQueue_dram (k : Nat) (x : Queue) : (s.setQueue k x).dram = s.dram := by rw [State.setQueue]
@[simp] theorem State.setQueue_cvl (k : Nat) (x : Queue) : (s.setQueue k x).cvl = s.cvl := by rw [State.setQueue]
@[simp] theorem State.setQueue_ntl (k : Nat) (x : Queue) : (s.setQueue k x).ntl = s.ntl := by rw [State.setQueue]
@[simp] theorem State.setQueue_fuses (k : Nat) (x : Queue) : (s.setQueue k x).fuses = s.fuses := by rw [State.setQueue]
@[simp] theorem State.setQueue_flash (k : Nat) (x : Queue) : (s.setQueue k x).flash = s.flash := by rw [State.setQueue]
@[simp] theorem State.setQueue_loader (k : Nat) (x : Queue) : (s.setQueue k x).loader = s.loader := by rw [State.setQueue]
@[simp] theorem State.setQueue_trust (k : Nat) (x : Queue) : (s.setQueue k x).trust = s.trust := by rw [State.setQueue]
@[simp] theorem State.setQueue_err (k : Nat) (x : Queue) : (s.setQueue k x).err = s.err := by rw [State.setQueue]
@[simp] theorem State.setQueue_husk (k : Nat) (x : Queue) : (s.setQueue k x).husk = s.husk := by rw [State.setQueue]
@[simp] theorem State.setQueue_mon (k : Nat) (x : Queue) : (s.setQueue k x).mon = s.mon := by rw [State.setQueue]
@[simp] theorem State.setQueue_clk (k : Nat) (x : Queue) : (s.setQueue k x).clk = s.clk := by rw [State.setQueue]
@[simp] theorem State.setQueue_pads (k : Nat) (x : Queue) : (s.setQueue k x).pads = s.pads := by rw [State.setQueue]
@[simp] theorem State.setQueue_tap (k : Nat) (x : Queue) : (s.setQueue k x).tap = s.tap := by rw [State.setQueue]
@[simp] theorem State.setQueue_reg (k : Nat) (x : Queue) (q : Nat) : (s.setQueue k x).reg q = s.reg q := by unfold State.reg; rw [State.setQueue_ctrl]
@[simp] theorem State.setQueue_fld (k : Nat) (x : Queue) (q : Field) : (s.setQueue k x).fld q = s.fld q := by unfold State.fld; rw [State.setQueue_reg]
@[simp] theorem State.setQueue_bit (k : Nat) (x : Queue) (q : Field) : (s.setQueue k x).bit q = s.bit q := by unfold State.bit; rw [State.setQueue_fld]
@[simp] theorem State.setQueue_engine (k : Nat) (x : Queue) (q : Nat) : (s.setQueue k x).engine q = s.engine q := by unfold State.engine; rw [State.setQueue_eng]
@[simp] theorem State.setQueue_holder (k : Nat) (x : Queue) (q : Nat) : (s.setQueue k x).holder q = s.holder q := by unfold State.holder; rw [State.setQueue_claims]

/-! setRoute -/
@[simp] theorem State.setRoute_pending (ni e : Nat) (r : RouteEntry) : (s.setRoute ni e r).pending = s.pending := by rw [State.setRoute]
@[simp] theorem State.setRoute_ctrl (ni e : Nat) (r : RouteEntry) : (s.setRoute ni e r).ctrl = s.ctrl := by rw [State.setRoute]
@[simp] theorem State.setRoute_response (ni e : Nat) (r : RouteEntry) : (s.setRoute ni e r).response = s.response := by rw [State.setRoute]
@[simp] theorem State.setRoute_freeCount (ni e : Nat) (r : RouteEntry) : (s.setRoute ni e r).freeCount = s.freeCount := by rw [State.setRoute]
@[simp] theorem State.setRoute_faults (ni e : Nat) (r : RouteEntry) : (s.setRoute ni e r).faults = s.faults := by rw [State.setRoute]
@[simp] theorem State.setRoute_faultLost (ni e : Nat) (r : RouteEntry) : (s.setRoute ni e r).faultLost = s.faultLost := by rw [State.setRoute]
@[simp] theorem State.setRoute_claims (ni e : Nat) (r : RouteEntry) : (s.setRoute ni e r).claims = s.claims := by rw [State.setRoute]
@[simp] theorem State.setRoute_cues (ni e : Nat) (r : RouteEntry) : (s.setRoute ni e r).cues = s.cues := by rw [State.setRoute]
@[simp] theorem State.setRoute_dev (ni e : Nat) (r : RouteEntry) : (s.setRoute ni e r).dev = s.dev := by rw [State.setRoute]
@[simp] theorem State.setRoute_tim (ni e : Nat) (r : RouteEntry) : (s.setRoute ni e r).tim = s.tim := by rw [State.setRoute]
@[simp] theorem State.setRoute_txu (ni e : Nat) (r : RouteEntry) : (s.setRoute ni e r).txu = s.txu := by rw [State.setRoute]
@[simp] theorem State.setRoute_cfg (ni e : Nat) (r : RouteEntry) : (s.setRoute ni e r).cfg = s.cfg := by rw [State.setRoute]
@[simp] theorem State.setRoute_fabric (ni e : Nat) (r : RouteEntry) : (s.setRoute ni e r).fabric = s.fabric := by rw [State.setRoute]
@[simp] theorem State.setRoute_mbx (ni e : Nat) (r : RouteEntry) : (s.setRoute ni e r).mbx = s.mbx := by rw [State.setRoute]
@[simp] theorem State.setRoute_spm (ni e : Nat) (r : RouteEntry) : (s.setRoute ni e r).spm = s.spm := by rw [State.setRoute]
@[simp] theorem State.setRoute_msix (ni e : Nat) (r : RouteEntry) : (s.setRoute ni e r).msix = s.msix := by rw [State.setRoute]
@[simp] theorem State.setRoute_waits (ni e : Nat) (r : RouteEntry) : (s.setRoute ni e r).waits = s.waits := by rw [State.setRoute]
@[simp] theorem State.setRoute_eng (ni e : Nat) (r : RouteEntry) : (s.setRoute ni e r).eng = s.eng := by rw [State.setRoute]
@[simp] theorem State.setRoute_spares (ni e : Nat) (r : RouteEntry) : (s.setRoute ni e r).spares = s.spares := by rw [State.setRoute]
@[simp] theorem State.setRoute_laps (ni e : Nat) (r : RouteEntry) : (s.setRoute ni e r).laps = s.laps := by rw [State.setRoute]
@[simp] theorem State.setRoute_dram (ni e : Nat) (r : RouteEntry) : (s.setRoute ni e r).dram = s.dram := by rw [State.setRoute]
@[simp] theorem State.setRoute_qe (ni e : Nat) (r : RouteEntry) : (s.setRoute ni e r).qe = s.qe := by rw [State.setRoute]
@[simp] theorem State.setRoute_cvl (ni e : Nat) (r : RouteEntry) : (s.setRoute ni e r).cvl = s.cvl := by rw [State.setRoute]
@[simp] theorem State.setRoute_ntl (ni e : Nat) (r : RouteEntry) : (s.setRoute ni e r).ntl = s.ntl := by rw [State.setRoute]
@[simp] theorem State.setRoute_fuses (ni e : Nat) (r : RouteEntry) : (s.setRoute ni e r).fuses = s.fuses := by rw [State.setRoute]
@[simp] theorem State.setRoute_flash (ni e : Nat) (r : RouteEntry) : (s.setRoute ni e r).flash = s.flash := by rw [State.setRoute]
@[simp] theorem State.setRoute_loader (ni e : Nat) (r : RouteEntry) : (s.setRoute ni e r).loader = s.loader := by rw [State.setRoute]
@[simp] theorem State.setRoute_trust (ni e : Nat) (r : RouteEntry) : (s.setRoute ni e r).trust = s.trust := by rw [State.setRoute]
@[simp] theorem State.setRoute_err (ni e : Nat) (r : RouteEntry) : (s.setRoute ni e r).err = s.err := by rw [State.setRoute]
@[simp] theorem State.setRoute_husk (ni e : Nat) (r : RouteEntry) : (s.setRoute ni e r).husk = s.husk := by rw [State.setRoute]
@[simp] theorem State.setRoute_mon (ni e : Nat) (r : RouteEntry) : (s.setRoute ni e r).mon = s.mon := by rw [State.setRoute]
@[simp] theorem State.setRoute_clk (ni e : Nat) (r : RouteEntry) : (s.setRoute ni e r).clk = s.clk := by rw [State.setRoute]
@[simp] theorem State.setRoute_pads (ni e : Nat) (r : RouteEntry) : (s.setRoute ni e r).pads = s.pads := by rw [State.setRoute]
@[simp] theorem State.setRoute_tap (ni e : Nat) (r : RouteEntry) : (s.setRoute ni e r).tap = s.tap := by rw [State.setRoute]
@[simp] theorem State.setRoute_reg (ni e : Nat) (r : RouteEntry) (q : Nat) : (s.setRoute ni e r).reg q = s.reg q := by unfold State.reg; rw [State.setRoute_ctrl]
@[simp] theorem State.setRoute_fld (ni e : Nat) (r : RouteEntry) (q : Field) : (s.setRoute ni e r).fld q = s.fld q := by unfold State.fld; rw [State.setRoute_reg]
@[simp] theorem State.setRoute_bit (ni e : Nat) (r : RouteEntry) (q : Field) : (s.setRoute ni e r).bit q = s.bit q := by unfold State.bit; rw [State.setRoute_fld]
@[simp] theorem State.setRoute_engine (ni e : Nat) (r : RouteEntry) (q : Nat) : (s.setRoute ni e r).engine q = s.engine q := by unfold State.engine; rw [State.setRoute_eng]
@[simp] theorem State.setRoute_holder (ni e : Nat) (r : RouteEntry) (q : Nat) : (s.setRoute ni e r).holder q = s.holder q := by unfold State.holder; rw [State.setRoute_claims]

/-! setHeldRoute -/
@[simp] theorem State.setHeldRoute_pending (m : Master) (h : Option HeldRoute) : (s.setHeldRoute m h).pending = s.pending := by rw [State.setHeldRoute]
@[simp] theorem State.setHeldRoute_ctrl (m : Master) (h : Option HeldRoute) : (s.setHeldRoute m h).ctrl = s.ctrl := by rw [State.setHeldRoute]
@[simp] theorem State.setHeldRoute_response (m : Master) (h : Option HeldRoute) : (s.setHeldRoute m h).response = s.response := by rw [State.setHeldRoute]
@[simp] theorem State.setHeldRoute_freeCount (m : Master) (h : Option HeldRoute) : (s.setHeldRoute m h).freeCount = s.freeCount := by rw [State.setHeldRoute]
@[simp] theorem State.setHeldRoute_faults (m : Master) (h : Option HeldRoute) : (s.setHeldRoute m h).faults = s.faults := by rw [State.setHeldRoute]
@[simp] theorem State.setHeldRoute_faultLost (m : Master) (h : Option HeldRoute) : (s.setHeldRoute m h).faultLost = s.faultLost := by rw [State.setHeldRoute]
@[simp] theorem State.setHeldRoute_claims (m : Master) (h : Option HeldRoute) : (s.setHeldRoute m h).claims = s.claims := by rw [State.setHeldRoute]
@[simp] theorem State.setHeldRoute_cues (m : Master) (h : Option HeldRoute) : (s.setHeldRoute m h).cues = s.cues := by rw [State.setHeldRoute]
@[simp] theorem State.setHeldRoute_dev (m : Master) (h : Option HeldRoute) : (s.setHeldRoute m h).dev = s.dev := by rw [State.setHeldRoute]
@[simp] theorem State.setHeldRoute_tim (m : Master) (h : Option HeldRoute) : (s.setHeldRoute m h).tim = s.tim := by rw [State.setHeldRoute]
@[simp] theorem State.setHeldRoute_txu (m : Master) (h : Option HeldRoute) : (s.setHeldRoute m h).txu = s.txu := by rw [State.setHeldRoute]
@[simp] theorem State.setHeldRoute_cfg (m : Master) (h : Option HeldRoute) : (s.setHeldRoute m h).cfg = s.cfg := by rw [State.setHeldRoute]
@[simp] theorem State.setHeldRoute_fabric (m : Master) (h : Option HeldRoute) : (s.setHeldRoute m h).fabric = s.fabric := by rw [State.setHeldRoute]
@[simp] theorem State.setHeldRoute_mbx (m : Master) (h : Option HeldRoute) : (s.setHeldRoute m h).mbx = s.mbx := by rw [State.setHeldRoute]
@[simp] theorem State.setHeldRoute_spm (m : Master) (h : Option HeldRoute) : (s.setHeldRoute m h).spm = s.spm := by rw [State.setHeldRoute]
@[simp] theorem State.setHeldRoute_msix (m : Master) (h : Option HeldRoute) : (s.setHeldRoute m h).msix = s.msix := by rw [State.setHeldRoute]
@[simp] theorem State.setHeldRoute_waits (m : Master) (h : Option HeldRoute) : (s.setHeldRoute m h).waits = s.waits := by rw [State.setHeldRoute]
@[simp] theorem State.setHeldRoute_eng (m : Master) (h : Option HeldRoute) : (s.setHeldRoute m h).eng = s.eng := by rw [State.setHeldRoute]
@[simp] theorem State.setHeldRoute_spares (m : Master) (h : Option HeldRoute) : (s.setHeldRoute m h).spares = s.spares := by rw [State.setHeldRoute]
@[simp] theorem State.setHeldRoute_laps (m : Master) (h : Option HeldRoute) : (s.setHeldRoute m h).laps = s.laps := by rw [State.setHeldRoute]
@[simp] theorem State.setHeldRoute_dram (m : Master) (h : Option HeldRoute) : (s.setHeldRoute m h).dram = s.dram := by rw [State.setHeldRoute]
@[simp] theorem State.setHeldRoute_qe (m : Master) (h : Option HeldRoute) : (s.setHeldRoute m h).qe = s.qe := by rw [State.setHeldRoute]
@[simp] theorem State.setHeldRoute_cvl (m : Master) (h : Option HeldRoute) : (s.setHeldRoute m h).cvl = s.cvl := by rw [State.setHeldRoute]
@[simp] theorem State.setHeldRoute_ntl (m : Master) (h : Option HeldRoute) : (s.setHeldRoute m h).ntl = s.ntl := by rw [State.setHeldRoute]
@[simp] theorem State.setHeldRoute_fuses (m : Master) (h : Option HeldRoute) : (s.setHeldRoute m h).fuses = s.fuses := by rw [State.setHeldRoute]
@[simp] theorem State.setHeldRoute_flash (m : Master) (h : Option HeldRoute) : (s.setHeldRoute m h).flash = s.flash := by rw [State.setHeldRoute]
@[simp] theorem State.setHeldRoute_loader (m : Master) (h : Option HeldRoute) : (s.setHeldRoute m h).loader = s.loader := by rw [State.setHeldRoute]
@[simp] theorem State.setHeldRoute_trust (m : Master) (h : Option HeldRoute) : (s.setHeldRoute m h).trust = s.trust := by rw [State.setHeldRoute]
@[simp] theorem State.setHeldRoute_err (m : Master) (h : Option HeldRoute) : (s.setHeldRoute m h).err = s.err := by rw [State.setHeldRoute]
@[simp] theorem State.setHeldRoute_husk (m : Master) (h : Option HeldRoute) : (s.setHeldRoute m h).husk = s.husk := by rw [State.setHeldRoute]
@[simp] theorem State.setHeldRoute_mon (m : Master) (h : Option HeldRoute) : (s.setHeldRoute m h).mon = s.mon := by rw [State.setHeldRoute]
@[simp] theorem State.setHeldRoute_clk (m : Master) (h : Option HeldRoute) : (s.setHeldRoute m h).clk = s.clk := by rw [State.setHeldRoute]
@[simp] theorem State.setHeldRoute_pads (m : Master) (h : Option HeldRoute) : (s.setHeldRoute m h).pads = s.pads := by rw [State.setHeldRoute]
@[simp] theorem State.setHeldRoute_tap (m : Master) (h : Option HeldRoute) : (s.setHeldRoute m h).tap = s.tap := by rw [State.setHeldRoute]
@[simp] theorem State.setHeldRoute_reg (m : Master) (h : Option HeldRoute) (q : Nat) : (s.setHeldRoute m h).reg q = s.reg q := by unfold State.reg; rw [State.setHeldRoute_ctrl]
@[simp] theorem State.setHeldRoute_fld (m : Master) (h : Option HeldRoute) (q : Field) : (s.setHeldRoute m h).fld q = s.fld q := by unfold State.fld; rw [State.setHeldRoute_reg]
@[simp] theorem State.setHeldRoute_bit (m : Master) (h : Option HeldRoute) (q : Field) : (s.setHeldRoute m h).bit q = s.bit q := by unfold State.bit; rw [State.setHeldRoute_fld]
@[simp] theorem State.setHeldRoute_engine (m : Master) (h : Option HeldRoute) (q : Nat) : (s.setHeldRoute m h).engine q = s.engine q := by unfold State.engine; rw [State.setHeldRoute_eng]
@[simp] theorem State.setHeldRoute_holder (m : Master) (h : Option HeldRoute) (q : Nat) : (s.setHeldRoute m h).holder q = s.holder q := by unfold State.holder; rw [State.setHeldRoute_claims]

/-! setLink -/
@[simp] theorem State.setLink_pending (l : Nat) (k : Link) : (s.setLink l k).pending = s.pending := by rw [State.setLink]
@[simp] theorem State.setLink_ctrl (l : Nat) (k : Link) : (s.setLink l k).ctrl = s.ctrl := by rw [State.setLink]
@[simp] theorem State.setLink_response (l : Nat) (k : Link) : (s.setLink l k).response = s.response := by rw [State.setLink]
@[simp] theorem State.setLink_freeCount (l : Nat) (k : Link) : (s.setLink l k).freeCount = s.freeCount := by rw [State.setLink]
@[simp] theorem State.setLink_faults (l : Nat) (k : Link) : (s.setLink l k).faults = s.faults := by rw [State.setLink]
@[simp] theorem State.setLink_faultLost (l : Nat) (k : Link) : (s.setLink l k).faultLost = s.faultLost := by rw [State.setLink]
@[simp] theorem State.setLink_claims (l : Nat) (k : Link) : (s.setLink l k).claims = s.claims := by rw [State.setLink]
@[simp] theorem State.setLink_cues (l : Nat) (k : Link) : (s.setLink l k).cues = s.cues := by rw [State.setLink]
@[simp] theorem State.setLink_dev (l : Nat) (k : Link) : (s.setLink l k).dev = s.dev := by rw [State.setLink]
@[simp] theorem State.setLink_tim (l : Nat) (k : Link) : (s.setLink l k).tim = s.tim := by rw [State.setLink]
@[simp] theorem State.setLink_txu (l : Nat) (k : Link) : (s.setLink l k).txu = s.txu := by rw [State.setLink]
@[simp] theorem State.setLink_cfg (l : Nat) (k : Link) : (s.setLink l k).cfg = s.cfg := by rw [State.setLink]
@[simp] theorem State.setLink_fabric (l : Nat) (k : Link) : (s.setLink l k).fabric = s.fabric := by rw [State.setLink]
@[simp] theorem State.setLink_mbx (l : Nat) (k : Link) : (s.setLink l k).mbx = s.mbx := by rw [State.setLink]
@[simp] theorem State.setLink_spm (l : Nat) (k : Link) : (s.setLink l k).spm = s.spm := by rw [State.setLink]
@[simp] theorem State.setLink_msix (l : Nat) (k : Link) : (s.setLink l k).msix = s.msix := by rw [State.setLink]
@[simp] theorem State.setLink_waits (l : Nat) (k : Link) : (s.setLink l k).waits = s.waits := by rw [State.setLink]
@[simp] theorem State.setLink_eng (l : Nat) (k : Link) : (s.setLink l k).eng = s.eng := by rw [State.setLink]
@[simp] theorem State.setLink_spares (l : Nat) (k : Link) : (s.setLink l k).spares = s.spares := by rw [State.setLink]
@[simp] theorem State.setLink_laps (l : Nat) (k : Link) : (s.setLink l k).laps = s.laps := by rw [State.setLink]
@[simp] theorem State.setLink_dram (l : Nat) (k : Link) : (s.setLink l k).dram = s.dram := by rw [State.setLink]
@[simp] theorem State.setLink_qe (l : Nat) (k : Link) : (s.setLink l k).qe = s.qe := by rw [State.setLink]
@[simp] theorem State.setLink_cvl (l : Nat) (k : Link) : (s.setLink l k).cvl = s.cvl := by rw [State.setLink]
@[simp] theorem State.setLink_ntl (l : Nat) (k : Link) : (s.setLink l k).ntl = s.ntl := by rw [State.setLink]
@[simp] theorem State.setLink_fuses (l : Nat) (k : Link) : (s.setLink l k).fuses = s.fuses := by rw [State.setLink]
@[simp] theorem State.setLink_flash (l : Nat) (k : Link) : (s.setLink l k).flash = s.flash := by rw [State.setLink]
@[simp] theorem State.setLink_loader (l : Nat) (k : Link) : (s.setLink l k).loader = s.loader := by rw [State.setLink]
@[simp] theorem State.setLink_trust (l : Nat) (k : Link) : (s.setLink l k).trust = s.trust := by rw [State.setLink]
@[simp] theorem State.setLink_err (l : Nat) (k : Link) : (s.setLink l k).err = s.err := by rw [State.setLink]
@[simp] theorem State.setLink_husk (l : Nat) (k : Link) : (s.setLink l k).husk = s.husk := by rw [State.setLink]
@[simp] theorem State.setLink_mon (l : Nat) (k : Link) : (s.setLink l k).mon = s.mon := by rw [State.setLink]
@[simp] theorem State.setLink_clk (l : Nat) (k : Link) : (s.setLink l k).clk = s.clk := by rw [State.setLink]
@[simp] theorem State.setLink_pads (l : Nat) (k : Link) : (s.setLink l k).pads = s.pads := by rw [State.setLink]
@[simp] theorem State.setLink_tap (l : Nat) (k : Link) : (s.setLink l k).tap = s.tap := by rw [State.setLink]
@[simp] theorem State.setLink_reg (l : Nat) (k : Link) (q : Nat) : (s.setLink l k).reg q = s.reg q := by unfold State.reg; rw [State.setLink_ctrl]
@[simp] theorem State.setLink_fld (l : Nat) (k : Link) (q : Field) : (s.setLink l k).fld q = s.fld q := by unfold State.fld; rw [State.setLink_reg]
@[simp] theorem State.setLink_bit (l : Nat) (k : Link) (q : Field) : (s.setLink l k).bit q = s.bit q := by unfold State.bit; rw [State.setLink_fld]
@[simp] theorem State.setLink_engine (l : Nat) (k : Link) (q : Nat) : (s.setLink l k).engine q = s.engine q := by unfold State.engine; rw [State.setLink_eng]
@[simp] theorem State.setLink_holder (l : Nat) (k : Link) (q : Nat) : (s.setLink l k).holder q = s.holder q := by unfold State.holder; rw [State.setLink_claims]

/-! setPad -/
@[simp] theorem State.setPad_pending (k : Nat) (p : Pad) : (s.setPad k p).pending = s.pending := by rw [State.setPad]
@[simp] theorem State.setPad_ctrl (k : Nat) (p : Pad) : (s.setPad k p).ctrl = s.ctrl := by rw [State.setPad]
@[simp] theorem State.setPad_response (k : Nat) (p : Pad) : (s.setPad k p).response = s.response := by rw [State.setPad]
@[simp] theorem State.setPad_freeCount (k : Nat) (p : Pad) : (s.setPad k p).freeCount = s.freeCount := by rw [State.setPad]
@[simp] theorem State.setPad_faults (k : Nat) (p : Pad) : (s.setPad k p).faults = s.faults := by rw [State.setPad]
@[simp] theorem State.setPad_faultLost (k : Nat) (p : Pad) : (s.setPad k p).faultLost = s.faultLost := by rw [State.setPad]
@[simp] theorem State.setPad_claims (k : Nat) (p : Pad) : (s.setPad k p).claims = s.claims := by rw [State.setPad]
@[simp] theorem State.setPad_cues (k : Nat) (p : Pad) : (s.setPad k p).cues = s.cues := by rw [State.setPad]
@[simp] theorem State.setPad_dev (k : Nat) (p : Pad) : (s.setPad k p).dev = s.dev := by rw [State.setPad]
@[simp] theorem State.setPad_tim (k : Nat) (p : Pad) : (s.setPad k p).tim = s.tim := by rw [State.setPad]
@[simp] theorem State.setPad_txu (k : Nat) (p : Pad) : (s.setPad k p).txu = s.txu := by rw [State.setPad]
@[simp] theorem State.setPad_cfg (k : Nat) (p : Pad) : (s.setPad k p).cfg = s.cfg := by rw [State.setPad]
@[simp] theorem State.setPad_fabric (k : Nat) (p : Pad) : (s.setPad k p).fabric = s.fabric := by rw [State.setPad]
@[simp] theorem State.setPad_mbx (k : Nat) (p : Pad) : (s.setPad k p).mbx = s.mbx := by rw [State.setPad]
@[simp] theorem State.setPad_spm (k : Nat) (p : Pad) : (s.setPad k p).spm = s.spm := by rw [State.setPad]
@[simp] theorem State.setPad_noc (k : Nat) (p : Pad) : (s.setPad k p).noc = s.noc := by rw [State.setPad]
@[simp] theorem State.setPad_msix (k : Nat) (p : Pad) : (s.setPad k p).msix = s.msix := by rw [State.setPad]
@[simp] theorem State.setPad_waits (k : Nat) (p : Pad) : (s.setPad k p).waits = s.waits := by rw [State.setPad]
@[simp] theorem State.setPad_eng (k : Nat) (p : Pad) : (s.setPad k p).eng = s.eng := by rw [State.setPad]
@[simp] theorem State.setPad_spares (k : Nat) (p : Pad) : (s.setPad k p).spares = s.spares := by rw [State.setPad]
@[simp] theorem State.setPad_laps (k : Nat) (p : Pad) : (s.setPad k p).laps = s.laps := by rw [State.setPad]
@[simp] theorem State.setPad_dram (k : Nat) (p : Pad) : (s.setPad k p).dram = s.dram := by rw [State.setPad]
@[simp] theorem State.setPad_qe (k : Nat) (p : Pad) : (s.setPad k p).qe = s.qe := by rw [State.setPad]
@[simp] theorem State.setPad_cvl (k : Nat) (p : Pad) : (s.setPad k p).cvl = s.cvl := by rw [State.setPad]
@[simp] theorem State.setPad_ntl (k : Nat) (p : Pad) : (s.setPad k p).ntl = s.ntl := by rw [State.setPad]
@[simp] theorem State.setPad_fuses (k : Nat) (p : Pad) : (s.setPad k p).fuses = s.fuses := by rw [State.setPad]
@[simp] theorem State.setPad_flash (k : Nat) (p : Pad) : (s.setPad k p).flash = s.flash := by rw [State.setPad]
@[simp] theorem State.setPad_loader (k : Nat) (p : Pad) : (s.setPad k p).loader = s.loader := by rw [State.setPad]
@[simp] theorem State.setPad_trust (k : Nat) (p : Pad) : (s.setPad k p).trust = s.trust := by rw [State.setPad]
@[simp] theorem State.setPad_err (k : Nat) (p : Pad) : (s.setPad k p).err = s.err := by rw [State.setPad]
@[simp] theorem State.setPad_husk (k : Nat) (p : Pad) : (s.setPad k p).husk = s.husk := by rw [State.setPad]
@[simp] theorem State.setPad_mon (k : Nat) (p : Pad) : (s.setPad k p).mon = s.mon := by rw [State.setPad]
@[simp] theorem State.setPad_clk (k : Nat) (p : Pad) : (s.setPad k p).clk = s.clk := by rw [State.setPad]
@[simp] theorem State.setPad_tap (k : Nat) (p : Pad) : (s.setPad k p).tap = s.tap := by rw [State.setPad]
@[simp] theorem State.setPad_reg (k : Nat) (p : Pad) (q : Nat) : (s.setPad k p).reg q = s.reg q := by unfold State.reg; rw [State.setPad_ctrl]
@[simp] theorem State.setPad_fld (k : Nat) (p : Pad) (q : Field) : (s.setPad k p).fld q = s.fld q := by unfold State.fld; rw [State.setPad_reg]
@[simp] theorem State.setPad_bit (k : Nat) (p : Pad) (q : Field) : (s.setPad k p).bit q = s.bit q := by unfold State.bit; rw [State.setPad_fld]
@[simp] theorem State.setPad_engine (k : Nat) (p : Pad) (q : Nat) : (s.setPad k p).engine q = s.engine q := by unfold State.engine; rw [State.setPad_eng]
@[simp] theorem State.setPad_holder (k : Nat) (p : Pad) (q : Nat) : (s.setPad k p).holder q = s.holder q := by unfold State.holder; rw [State.setPad_claims]

/-! setSpare -/
@[simp] theorem State.setSpare_pending (c : Nat) (x : Spare) : (s.setSpare c x).pending = s.pending := by rw [State.setSpare]
@[simp] theorem State.setSpare_ctrl (c : Nat) (x : Spare) : (s.setSpare c x).ctrl = s.ctrl := by rw [State.setSpare]
@[simp] theorem State.setSpare_response (c : Nat) (x : Spare) : (s.setSpare c x).response = s.response := by rw [State.setSpare]
@[simp] theorem State.setSpare_freeCount (c : Nat) (x : Spare) : (s.setSpare c x).freeCount = s.freeCount := by rw [State.setSpare]
@[simp] theorem State.setSpare_faults (c : Nat) (x : Spare) : (s.setSpare c x).faults = s.faults := by rw [State.setSpare]
@[simp] theorem State.setSpare_faultLost (c : Nat) (x : Spare) : (s.setSpare c x).faultLost = s.faultLost := by rw [State.setSpare]
@[simp] theorem State.setSpare_claims (c : Nat) (x : Spare) : (s.setSpare c x).claims = s.claims := by rw [State.setSpare]
@[simp] theorem State.setSpare_cues (c : Nat) (x : Spare) : (s.setSpare c x).cues = s.cues := by rw [State.setSpare]
@[simp] theorem State.setSpare_dev (c : Nat) (x : Spare) : (s.setSpare c x).dev = s.dev := by rw [State.setSpare]
@[simp] theorem State.setSpare_tim (c : Nat) (x : Spare) : (s.setSpare c x).tim = s.tim := by rw [State.setSpare]
@[simp] theorem State.setSpare_txu (c : Nat) (x : Spare) : (s.setSpare c x).txu = s.txu := by rw [State.setSpare]
@[simp] theorem State.setSpare_cfg (c : Nat) (x : Spare) : (s.setSpare c x).cfg = s.cfg := by rw [State.setSpare]
@[simp] theorem State.setSpare_fabric (c : Nat) (x : Spare) : (s.setSpare c x).fabric = s.fabric := by rw [State.setSpare]
@[simp] theorem State.setSpare_mbx (c : Nat) (x : Spare) : (s.setSpare c x).mbx = s.mbx := by rw [State.setSpare]
@[simp] theorem State.setSpare_spm (c : Nat) (x : Spare) : (s.setSpare c x).spm = s.spm := by rw [State.setSpare]
@[simp] theorem State.setSpare_noc (c : Nat) (x : Spare) : (s.setSpare c x).noc = s.noc := by rw [State.setSpare]
@[simp] theorem State.setSpare_msix (c : Nat) (x : Spare) : (s.setSpare c x).msix = s.msix := by rw [State.setSpare]
@[simp] theorem State.setSpare_waits (c : Nat) (x : Spare) : (s.setSpare c x).waits = s.waits := by rw [State.setSpare]
@[simp] theorem State.setSpare_eng (c : Nat) (x : Spare) : (s.setSpare c x).eng = s.eng := by rw [State.setSpare]
@[simp] theorem State.setSpare_laps (c : Nat) (x : Spare) : (s.setSpare c x).laps = s.laps := by rw [State.setSpare]
@[simp] theorem State.setSpare_dram (c : Nat) (x : Spare) : (s.setSpare c x).dram = s.dram := by rw [State.setSpare]
@[simp] theorem State.setSpare_qe (c : Nat) (x : Spare) : (s.setSpare c x).qe = s.qe := by rw [State.setSpare]
@[simp] theorem State.setSpare_cvl (c : Nat) (x : Spare) : (s.setSpare c x).cvl = s.cvl := by rw [State.setSpare]
@[simp] theorem State.setSpare_ntl (c : Nat) (x : Spare) : (s.setSpare c x).ntl = s.ntl := by rw [State.setSpare]
@[simp] theorem State.setSpare_fuses (c : Nat) (x : Spare) : (s.setSpare c x).fuses = s.fuses := by rw [State.setSpare]
@[simp] theorem State.setSpare_flash (c : Nat) (x : Spare) : (s.setSpare c x).flash = s.flash := by rw [State.setSpare]
@[simp] theorem State.setSpare_loader (c : Nat) (x : Spare) : (s.setSpare c x).loader = s.loader := by rw [State.setSpare]
@[simp] theorem State.setSpare_trust (c : Nat) (x : Spare) : (s.setSpare c x).trust = s.trust := by rw [State.setSpare]
@[simp] theorem State.setSpare_err (c : Nat) (x : Spare) : (s.setSpare c x).err = s.err := by rw [State.setSpare]
@[simp] theorem State.setSpare_husk (c : Nat) (x : Spare) : (s.setSpare c x).husk = s.husk := by rw [State.setSpare]
@[simp] theorem State.setSpare_mon (c : Nat) (x : Spare) : (s.setSpare c x).mon = s.mon := by rw [State.setSpare]
@[simp] theorem State.setSpare_clk (c : Nat) (x : Spare) : (s.setSpare c x).clk = s.clk := by rw [State.setSpare]
@[simp] theorem State.setSpare_pads (c : Nat) (x : Spare) : (s.setSpare c x).pads = s.pads := by rw [State.setSpare]
@[simp] theorem State.setSpare_tap (c : Nat) (x : Spare) : (s.setSpare c x).tap = s.tap := by rw [State.setSpare]
@[simp] theorem State.setSpare_reg (c : Nat) (x : Spare) (q : Nat) : (s.setSpare c x).reg q = s.reg q := by unfold State.reg; rw [State.setSpare_ctrl]
@[simp] theorem State.setSpare_fld (c : Nat) (x : Spare) (q : Field) : (s.setSpare c x).fld q = s.fld q := by unfold State.fld; rw [State.setSpare_reg]
@[simp] theorem State.setSpare_bit (c : Nat) (x : Spare) (q : Field) : (s.setSpare c x).bit q = s.bit q := by unfold State.bit; rw [State.setSpare_fld]
@[simp] theorem State.setSpare_engine (c : Nat) (x : Spare) (q : Nat) : (s.setSpare c x).engine q = s.engine q := by unfold State.engine; rw [State.setSpare_eng]
@[simp] theorem State.setSpare_holder (c : Nat) (x : Spare) (q : Nat) : (s.setSpare c x).holder q = s.holder q := by unfold State.holder; rw [State.setSpare_claims]

/-! setFuses -/
@[simp] theorem State.setFuses_pending (f : Fuses) : (s.setFuses f).pending = s.pending := by rw [State.setFuses]
@[simp] theorem State.setFuses_ctrl (f : Fuses) : (s.setFuses f).ctrl = s.ctrl := by rw [State.setFuses]
@[simp] theorem State.setFuses_response (f : Fuses) : (s.setFuses f).response = s.response := by rw [State.setFuses]
@[simp] theorem State.setFuses_freeCount (f : Fuses) : (s.setFuses f).freeCount = s.freeCount := by rw [State.setFuses]
@[simp] theorem State.setFuses_faults (f : Fuses) : (s.setFuses f).faults = s.faults := by rw [State.setFuses]
@[simp] theorem State.setFuses_faultLost (f : Fuses) : (s.setFuses f).faultLost = s.faultLost := by rw [State.setFuses]
@[simp] theorem State.setFuses_claims (f : Fuses) : (s.setFuses f).claims = s.claims := by rw [State.setFuses]
@[simp] theorem State.setFuses_cues (f : Fuses) : (s.setFuses f).cues = s.cues := by rw [State.setFuses]
@[simp] theorem State.setFuses_dev (f : Fuses) : (s.setFuses f).dev = s.dev := by rw [State.setFuses]
@[simp] theorem State.setFuses_tim (f : Fuses) : (s.setFuses f).tim = s.tim := by rw [State.setFuses]
@[simp] theorem State.setFuses_txu (f : Fuses) : (s.setFuses f).txu = s.txu := by rw [State.setFuses]
@[simp] theorem State.setFuses_cfg (f : Fuses) : (s.setFuses f).cfg = s.cfg := by rw [State.setFuses]
@[simp] theorem State.setFuses_fabric (f : Fuses) : (s.setFuses f).fabric = s.fabric := by rw [State.setFuses]
@[simp] theorem State.setFuses_mbx (f : Fuses) : (s.setFuses f).mbx = s.mbx := by rw [State.setFuses]
@[simp] theorem State.setFuses_spm (f : Fuses) : (s.setFuses f).spm = s.spm := by rw [State.setFuses]
@[simp] theorem State.setFuses_noc (f : Fuses) : (s.setFuses f).noc = s.noc := by rw [State.setFuses]
@[simp] theorem State.setFuses_msix (f : Fuses) : (s.setFuses f).msix = s.msix := by rw [State.setFuses]
@[simp] theorem State.setFuses_waits (f : Fuses) : (s.setFuses f).waits = s.waits := by rw [State.setFuses]
@[simp] theorem State.setFuses_eng (f : Fuses) : (s.setFuses f).eng = s.eng := by rw [State.setFuses]
@[simp] theorem State.setFuses_spares (f : Fuses) : (s.setFuses f).spares = s.spares := by rw [State.setFuses]
@[simp] theorem State.setFuses_laps (f : Fuses) : (s.setFuses f).laps = s.laps := by rw [State.setFuses]
@[simp] theorem State.setFuses_dram (f : Fuses) : (s.setFuses f).dram = s.dram := by rw [State.setFuses]
@[simp] theorem State.setFuses_qe (f : Fuses) : (s.setFuses f).qe = s.qe := by rw [State.setFuses]
@[simp] theorem State.setFuses_cvl (f : Fuses) : (s.setFuses f).cvl = s.cvl := by rw [State.setFuses]
@[simp] theorem State.setFuses_ntl (f : Fuses) : (s.setFuses f).ntl = s.ntl := by rw [State.setFuses]
@[simp] theorem State.setFuses_flash (f : Fuses) : (s.setFuses f).flash = s.flash := by rw [State.setFuses]
@[simp] theorem State.setFuses_loader (f : Fuses) : (s.setFuses f).loader = s.loader := by rw [State.setFuses]
@[simp] theorem State.setFuses_trust (f : Fuses) : (s.setFuses f).trust = s.trust := by rw [State.setFuses]
@[simp] theorem State.setFuses_err (f : Fuses) : (s.setFuses f).err = s.err := by rw [State.setFuses]
@[simp] theorem State.setFuses_husk (f : Fuses) : (s.setFuses f).husk = s.husk := by rw [State.setFuses]
@[simp] theorem State.setFuses_mon (f : Fuses) : (s.setFuses f).mon = s.mon := by rw [State.setFuses]
@[simp] theorem State.setFuses_clk (f : Fuses) : (s.setFuses f).clk = s.clk := by rw [State.setFuses]
@[simp] theorem State.setFuses_pads (f : Fuses) : (s.setFuses f).pads = s.pads := by rw [State.setFuses]
@[simp] theorem State.setFuses_tap (f : Fuses) : (s.setFuses f).tap = s.tap := by rw [State.setFuses]
@[simp] theorem State.setFuses_reg (f : Fuses) (q : Nat) : (s.setFuses f).reg q = s.reg q := by unfold State.reg; rw [State.setFuses_ctrl]
@[simp] theorem State.setFuses_fld (f : Fuses) (q : Field) : (s.setFuses f).fld q = s.fld q := by unfold State.fld; rw [State.setFuses_reg]
@[simp] theorem State.setFuses_bit (f : Fuses) (q : Field) : (s.setFuses f).bit q = s.bit q := by unfold State.bit; rw [State.setFuses_fld]
@[simp] theorem State.setFuses_engine (f : Fuses) (q : Nat) : (s.setFuses f).engine q = s.engine q := by unfold State.engine; rw [State.setFuses_eng]
@[simp] theorem State.setFuses_holder (f : Fuses) (q : Nat) : (s.setFuses f).holder q = s.holder q := by unfold State.holder; rw [State.setFuses_claims]

/-! setLoader -/
@[simp] theorem State.setLoader_pending (l : Loader) : (s.setLoader l).pending = s.pending := by rw [State.setLoader]
@[simp] theorem State.setLoader_ctrl (l : Loader) : (s.setLoader l).ctrl = s.ctrl := by rw [State.setLoader]
@[simp] theorem State.setLoader_response (l : Loader) : (s.setLoader l).response = s.response := by rw [State.setLoader]
@[simp] theorem State.setLoader_freeCount (l : Loader) : (s.setLoader l).freeCount = s.freeCount := by rw [State.setLoader]
@[simp] theorem State.setLoader_faults (l : Loader) : (s.setLoader l).faults = s.faults := by rw [State.setLoader]
@[simp] theorem State.setLoader_faultLost (l : Loader) : (s.setLoader l).faultLost = s.faultLost := by rw [State.setLoader]
@[simp] theorem State.setLoader_claims (l : Loader) : (s.setLoader l).claims = s.claims := by rw [State.setLoader]
@[simp] theorem State.setLoader_cues (l : Loader) : (s.setLoader l).cues = s.cues := by rw [State.setLoader]
@[simp] theorem State.setLoader_dev (l : Loader) : (s.setLoader l).dev = s.dev := by rw [State.setLoader]
@[simp] theorem State.setLoader_tim (l : Loader) : (s.setLoader l).tim = s.tim := by rw [State.setLoader]
@[simp] theorem State.setLoader_txu (l : Loader) : (s.setLoader l).txu = s.txu := by rw [State.setLoader]
@[simp] theorem State.setLoader_cfg (l : Loader) : (s.setLoader l).cfg = s.cfg := by rw [State.setLoader]
@[simp] theorem State.setLoader_fabric (l : Loader) : (s.setLoader l).fabric = s.fabric := by rw [State.setLoader]
@[simp] theorem State.setLoader_mbx (l : Loader) : (s.setLoader l).mbx = s.mbx := by rw [State.setLoader]
@[simp] theorem State.setLoader_spm (l : Loader) : (s.setLoader l).spm = s.spm := by rw [State.setLoader]
@[simp] theorem State.setLoader_noc (l : Loader) : (s.setLoader l).noc = s.noc := by rw [State.setLoader]
@[simp] theorem State.setLoader_msix (l : Loader) : (s.setLoader l).msix = s.msix := by rw [State.setLoader]
@[simp] theorem State.setLoader_waits (l : Loader) : (s.setLoader l).waits = s.waits := by rw [State.setLoader]
@[simp] theorem State.setLoader_eng (l : Loader) : (s.setLoader l).eng = s.eng := by rw [State.setLoader]
@[simp] theorem State.setLoader_spares (l : Loader) : (s.setLoader l).spares = s.spares := by rw [State.setLoader]
@[simp] theorem State.setLoader_laps (l : Loader) : (s.setLoader l).laps = s.laps := by rw [State.setLoader]
@[simp] theorem State.setLoader_dram (l : Loader) : (s.setLoader l).dram = s.dram := by rw [State.setLoader]
@[simp] theorem State.setLoader_qe (l : Loader) : (s.setLoader l).qe = s.qe := by rw [State.setLoader]
@[simp] theorem State.setLoader_cvl (l : Loader) : (s.setLoader l).cvl = s.cvl := by rw [State.setLoader]
@[simp] theorem State.setLoader_ntl (l : Loader) : (s.setLoader l).ntl = s.ntl := by rw [State.setLoader]
@[simp] theorem State.setLoader_fuses (l : Loader) : (s.setLoader l).fuses = s.fuses := by rw [State.setLoader]
@[simp] theorem State.setLoader_flash (l : Loader) : (s.setLoader l).flash = s.flash := by rw [State.setLoader]
@[simp] theorem State.setLoader_trust (l : Loader) : (s.setLoader l).trust = s.trust := by rw [State.setLoader]
@[simp] theorem State.setLoader_err (l : Loader) : (s.setLoader l).err = s.err := by rw [State.setLoader]
@[simp] theorem State.setLoader_husk (l : Loader) : (s.setLoader l).husk = s.husk := by rw [State.setLoader]
@[simp] theorem State.setLoader_mon (l : Loader) : (s.setLoader l).mon = s.mon := by rw [State.setLoader]
@[simp] theorem State.setLoader_clk (l : Loader) : (s.setLoader l).clk = s.clk := by rw [State.setLoader]
@[simp] theorem State.setLoader_pads (l : Loader) : (s.setLoader l).pads = s.pads := by rw [State.setLoader]
@[simp] theorem State.setLoader_tap (l : Loader) : (s.setLoader l).tap = s.tap := by rw [State.setLoader]
@[simp] theorem State.setLoader_reg (l : Loader) (q : Nat) : (s.setLoader l).reg q = s.reg q := by unfold State.reg; rw [State.setLoader_ctrl]
@[simp] theorem State.setLoader_fld (l : Loader) (q : Field) : (s.setLoader l).fld q = s.fld q := by unfold State.fld; rw [State.setLoader_reg]
@[simp] theorem State.setLoader_bit (l : Loader) (q : Field) : (s.setLoader l).bit q = s.bit q := by unfold State.bit; rw [State.setLoader_fld]
@[simp] theorem State.setLoader_engine (l : Loader) (q : Nat) : (s.setLoader l).engine q = s.engine q := by unfold State.engine; rw [State.setLoader_eng]
@[simp] theorem State.setLoader_holder (l : Loader) (q : Nat) : (s.setLoader l).holder q = s.holder q := by unfold State.holder; rw [State.setLoader_claims]

/-! setHusk -/
@[simp] theorem State.setHusk_pending (h : Husk) : (s.setHusk h).pending = s.pending := by rw [State.setHusk]
@[simp] theorem State.setHusk_ctrl (h : Husk) : (s.setHusk h).ctrl = s.ctrl := by rw [State.setHusk]
@[simp] theorem State.setHusk_response (h : Husk) : (s.setHusk h).response = s.response := by rw [State.setHusk]
@[simp] theorem State.setHusk_freeCount (h : Husk) : (s.setHusk h).freeCount = s.freeCount := by rw [State.setHusk]
@[simp] theorem State.setHusk_faults (h : Husk) : (s.setHusk h).faults = s.faults := by rw [State.setHusk]
@[simp] theorem State.setHusk_faultLost (h : Husk) : (s.setHusk h).faultLost = s.faultLost := by rw [State.setHusk]
@[simp] theorem State.setHusk_claims (h : Husk) : (s.setHusk h).claims = s.claims := by rw [State.setHusk]
@[simp] theorem State.setHusk_cues (h : Husk) : (s.setHusk h).cues = s.cues := by rw [State.setHusk]
@[simp] theorem State.setHusk_dev (h : Husk) : (s.setHusk h).dev = s.dev := by rw [State.setHusk]
@[simp] theorem State.setHusk_tim (h : Husk) : (s.setHusk h).tim = s.tim := by rw [State.setHusk]
@[simp] theorem State.setHusk_txu (h : Husk) : (s.setHusk h).txu = s.txu := by rw [State.setHusk]
@[simp] theorem State.setHusk_cfg (h : Husk) : (s.setHusk h).cfg = s.cfg := by rw [State.setHusk]
@[simp] theorem State.setHusk_fabric (h : Husk) : (s.setHusk h).fabric = s.fabric := by rw [State.setHusk]
@[simp] theorem State.setHusk_mbx (h : Husk) : (s.setHusk h).mbx = s.mbx := by rw [State.setHusk]
@[simp] theorem State.setHusk_spm (h : Husk) : (s.setHusk h).spm = s.spm := by rw [State.setHusk]
@[simp] theorem State.setHusk_noc (h : Husk) : (s.setHusk h).noc = s.noc := by rw [State.setHusk]
@[simp] theorem State.setHusk_msix (h : Husk) : (s.setHusk h).msix = s.msix := by rw [State.setHusk]
@[simp] theorem State.setHusk_waits (h : Husk) : (s.setHusk h).waits = s.waits := by rw [State.setHusk]
@[simp] theorem State.setHusk_eng (h : Husk) : (s.setHusk h).eng = s.eng := by rw [State.setHusk]
@[simp] theorem State.setHusk_spares (h : Husk) : (s.setHusk h).spares = s.spares := by rw [State.setHusk]
@[simp] theorem State.setHusk_laps (h : Husk) : (s.setHusk h).laps = s.laps := by rw [State.setHusk]
@[simp] theorem State.setHusk_dram (h : Husk) : (s.setHusk h).dram = s.dram := by rw [State.setHusk]
@[simp] theorem State.setHusk_qe (h : Husk) : (s.setHusk h).qe = s.qe := by rw [State.setHusk]
@[simp] theorem State.setHusk_cvl (h : Husk) : (s.setHusk h).cvl = s.cvl := by rw [State.setHusk]
@[simp] theorem State.setHusk_ntl (h : Husk) : (s.setHusk h).ntl = s.ntl := by rw [State.setHusk]
@[simp] theorem State.setHusk_fuses (h : Husk) : (s.setHusk h).fuses = s.fuses := by rw [State.setHusk]
@[simp] theorem State.setHusk_flash (h : Husk) : (s.setHusk h).flash = s.flash := by rw [State.setHusk]
@[simp] theorem State.setHusk_loader (h : Husk) : (s.setHusk h).loader = s.loader := by rw [State.setHusk]
@[simp] theorem State.setHusk_trust (h : Husk) : (s.setHusk h).trust = s.trust := by rw [State.setHusk]
@[simp] theorem State.setHusk_err (h : Husk) : (s.setHusk h).err = s.err := by rw [State.setHusk]
@[simp] theorem State.setHusk_mon (h : Husk) : (s.setHusk h).mon = s.mon := by rw [State.setHusk]
@[simp] theorem State.setHusk_clk (h : Husk) : (s.setHusk h).clk = s.clk := by rw [State.setHusk]
@[simp] theorem State.setHusk_pads (h : Husk) : (s.setHusk h).pads = s.pads := by rw [State.setHusk]
@[simp] theorem State.setHusk_tap (h : Husk) : (s.setHusk h).tap = s.tap := by rw [State.setHusk]
@[simp] theorem State.setHusk_reg (h : Husk) (q : Nat) : (s.setHusk h).reg q = s.reg q := by unfold State.reg; rw [State.setHusk_ctrl]
@[simp] theorem State.setHusk_fld (h : Husk) (q : Field) : (s.setHusk h).fld q = s.fld q := by unfold State.fld; rw [State.setHusk_reg]
@[simp] theorem State.setHusk_bit (h : Husk) (q : Field) : (s.setHusk h).bit q = s.bit q := by unfold State.bit; rw [State.setHusk_fld]
@[simp] theorem State.setHusk_engine (h : Husk) (q : Nat) : (s.setHusk h).engine q = s.engine q := by unfold State.engine; rw [State.setHusk_eng]
@[simp] theorem State.setHusk_holder (h : Husk) (q : Nat) : (s.setHusk h).holder q = s.holder q := by unfold State.holder; rw [State.setHusk_claims]

/-! setPortBlock -/
@[simp] theorem State.setPortBlock_pending (b : Nat) (x : PortBlock) : (s.setPortBlock b x).pending = s.pending := by rw [State.setPortBlock]
@[simp] theorem State.setPortBlock_ctrl (b : Nat) (x : PortBlock) : (s.setPortBlock b x).ctrl = s.ctrl := by rw [State.setPortBlock]
@[simp] theorem State.setPortBlock_response (b : Nat) (x : PortBlock) : (s.setPortBlock b x).response = s.response := by rw [State.setPortBlock]
@[simp] theorem State.setPortBlock_freeCount (b : Nat) (x : PortBlock) : (s.setPortBlock b x).freeCount = s.freeCount := by rw [State.setPortBlock]
@[simp] theorem State.setPortBlock_faults (b : Nat) (x : PortBlock) : (s.setPortBlock b x).faults = s.faults := by rw [State.setPortBlock]
@[simp] theorem State.setPortBlock_faultLost (b : Nat) (x : PortBlock) : (s.setPortBlock b x).faultLost = s.faultLost := by rw [State.setPortBlock]
@[simp] theorem State.setPortBlock_claims (b : Nat) (x : PortBlock) : (s.setPortBlock b x).claims = s.claims := by rw [State.setPortBlock]
@[simp] theorem State.setPortBlock_cues (b : Nat) (x : PortBlock) : (s.setPortBlock b x).cues = s.cues := by rw [State.setPortBlock]
@[simp] theorem State.setPortBlock_dev (b : Nat) (x : PortBlock) : (s.setPortBlock b x).dev = s.dev := by rw [State.setPortBlock]
@[simp] theorem State.setPortBlock_tim (b : Nat) (x : PortBlock) : (s.setPortBlock b x).tim = s.tim := by rw [State.setPortBlock]
@[simp] theorem State.setPortBlock_txu (b : Nat) (x : PortBlock) : (s.setPortBlock b x).txu = s.txu := by rw [State.setPortBlock]
@[simp] theorem State.setPortBlock_cfg (b : Nat) (x : PortBlock) : (s.setPortBlock b x).cfg = s.cfg := by rw [State.setPortBlock]
@[simp] theorem State.setPortBlock_fabric (b : Nat) (x : PortBlock) : (s.setPortBlock b x).fabric = s.fabric := by rw [State.setPortBlock]
@[simp] theorem State.setPortBlock_mbx (b : Nat) (x : PortBlock) : (s.setPortBlock b x).mbx = s.mbx := by rw [State.setPortBlock]
@[simp] theorem State.setPortBlock_spm (b : Nat) (x : PortBlock) : (s.setPortBlock b x).spm = s.spm := by rw [State.setPortBlock]
@[simp] theorem State.setPortBlock_noc (b : Nat) (x : PortBlock) : (s.setPortBlock b x).noc = s.noc := by rw [State.setPortBlock]
@[simp] theorem State.setPortBlock_msix (b : Nat) (x : PortBlock) : (s.setPortBlock b x).msix = s.msix := by rw [State.setPortBlock]
@[simp] theorem State.setPortBlock_waits (b : Nat) (x : PortBlock) : (s.setPortBlock b x).waits = s.waits := by rw [State.setPortBlock]
@[simp] theorem State.setPortBlock_eng (b : Nat) (x : PortBlock) : (s.setPortBlock b x).eng = s.eng := by rw [State.setPortBlock]
@[simp] theorem State.setPortBlock_spares (b : Nat) (x : PortBlock) : (s.setPortBlock b x).spares = s.spares := by rw [State.setPortBlock]
@[simp] theorem State.setPortBlock_laps (b : Nat) (x : PortBlock) : (s.setPortBlock b x).laps = s.laps := by rw [State.setPortBlock]
@[simp] theorem State.setPortBlock_dram (b : Nat) (x : PortBlock) : (s.setPortBlock b x).dram = s.dram := by rw [State.setPortBlock]
@[simp] theorem State.setPortBlock_qe (b : Nat) (x : PortBlock) : (s.setPortBlock b x).qe = s.qe := by rw [State.setPortBlock]
@[simp] theorem State.setPortBlock_cvl (b : Nat) (x : PortBlock) : (s.setPortBlock b x).cvl = s.cvl := by rw [State.setPortBlock]
@[simp] theorem State.setPortBlock_fuses (b : Nat) (x : PortBlock) : (s.setPortBlock b x).fuses = s.fuses := by rw [State.setPortBlock]
@[simp] theorem State.setPortBlock_flash (b : Nat) (x : PortBlock) : (s.setPortBlock b x).flash = s.flash := by rw [State.setPortBlock]
@[simp] theorem State.setPortBlock_loader (b : Nat) (x : PortBlock) : (s.setPortBlock b x).loader = s.loader := by rw [State.setPortBlock]
@[simp] theorem State.setPortBlock_trust (b : Nat) (x : PortBlock) : (s.setPortBlock b x).trust = s.trust := by rw [State.setPortBlock]
@[simp] theorem State.setPortBlock_err (b : Nat) (x : PortBlock) : (s.setPortBlock b x).err = s.err := by rw [State.setPortBlock]
@[simp] theorem State.setPortBlock_husk (b : Nat) (x : PortBlock) : (s.setPortBlock b x).husk = s.husk := by rw [State.setPortBlock]
@[simp] theorem State.setPortBlock_mon (b : Nat) (x : PortBlock) : (s.setPortBlock b x).mon = s.mon := by rw [State.setPortBlock]
@[simp] theorem State.setPortBlock_clk (b : Nat) (x : PortBlock) : (s.setPortBlock b x).clk = s.clk := by rw [State.setPortBlock]
@[simp] theorem State.setPortBlock_pads (b : Nat) (x : PortBlock) : (s.setPortBlock b x).pads = s.pads := by rw [State.setPortBlock]
@[simp] theorem State.setPortBlock_tap (b : Nat) (x : PortBlock) : (s.setPortBlock b x).tap = s.tap := by rw [State.setPortBlock]
@[simp] theorem State.setPortBlock_reg (b : Nat) (x : PortBlock) (q : Nat) : (s.setPortBlock b x).reg q = s.reg q := by unfold State.reg; rw [State.setPortBlock_ctrl]
@[simp] theorem State.setPortBlock_fld (b : Nat) (x : PortBlock) (q : Field) : (s.setPortBlock b x).fld q = s.fld q := by unfold State.fld; rw [State.setPortBlock_reg]
@[simp] theorem State.setPortBlock_bit (b : Nat) (x : PortBlock) (q : Field) : (s.setPortBlock b x).bit q = s.bit q := by unfold State.bit; rw [State.setPortBlock_fld]
@[simp] theorem State.setPortBlock_engine (b : Nat) (x : PortBlock) (q : Nat) : (s.setPortBlock b x).engine q = s.engine q := by unfold State.engine; rw [State.setPortBlock_eng]
@[simp] theorem State.setPortBlock_holder (b : Nat) (x : PortBlock) (q : Nat) : (s.setPortBlock b x).holder q = s.holder q := by unfold State.holder; rw [State.setPortBlock_claims]

/-! setCvGroup -/
@[simp] theorem State.setCvGroup_pending (g : Nat) (x : CvGroup) : (s.setCvGroup g x).pending = s.pending := by rw [State.setCvGroup]
@[simp] theorem State.setCvGroup_ctrl (g : Nat) (x : CvGroup) : (s.setCvGroup g x).ctrl = s.ctrl := by rw [State.setCvGroup]
@[simp] theorem State.setCvGroup_response (g : Nat) (x : CvGroup) : (s.setCvGroup g x).response = s.response := by rw [State.setCvGroup]
@[simp] theorem State.setCvGroup_freeCount (g : Nat) (x : CvGroup) : (s.setCvGroup g x).freeCount = s.freeCount := by rw [State.setCvGroup]
@[simp] theorem State.setCvGroup_faults (g : Nat) (x : CvGroup) : (s.setCvGroup g x).faults = s.faults := by rw [State.setCvGroup]
@[simp] theorem State.setCvGroup_faultLost (g : Nat) (x : CvGroup) : (s.setCvGroup g x).faultLost = s.faultLost := by rw [State.setCvGroup]
@[simp] theorem State.setCvGroup_claims (g : Nat) (x : CvGroup) : (s.setCvGroup g x).claims = s.claims := by rw [State.setCvGroup]
@[simp] theorem State.setCvGroup_cues (g : Nat) (x : CvGroup) : (s.setCvGroup g x).cues = s.cues := by rw [State.setCvGroup]
@[simp] theorem State.setCvGroup_dev (g : Nat) (x : CvGroup) : (s.setCvGroup g x).dev = s.dev := by rw [State.setCvGroup]
@[simp] theorem State.setCvGroup_tim (g : Nat) (x : CvGroup) : (s.setCvGroup g x).tim = s.tim := by rw [State.setCvGroup]
@[simp] theorem State.setCvGroup_txu (g : Nat) (x : CvGroup) : (s.setCvGroup g x).txu = s.txu := by rw [State.setCvGroup]
@[simp] theorem State.setCvGroup_cfg (g : Nat) (x : CvGroup) : (s.setCvGroup g x).cfg = s.cfg := by rw [State.setCvGroup]
@[simp] theorem State.setCvGroup_fabric (g : Nat) (x : CvGroup) : (s.setCvGroup g x).fabric = s.fabric := by rw [State.setCvGroup]
@[simp] theorem State.setCvGroup_mbx (g : Nat) (x : CvGroup) : (s.setCvGroup g x).mbx = s.mbx := by rw [State.setCvGroup]
@[simp] theorem State.setCvGroup_spm (g : Nat) (x : CvGroup) : (s.setCvGroup g x).spm = s.spm := by rw [State.setCvGroup]
@[simp] theorem State.setCvGroup_noc (g : Nat) (x : CvGroup) : (s.setCvGroup g x).noc = s.noc := by rw [State.setCvGroup]
@[simp] theorem State.setCvGroup_msix (g : Nat) (x : CvGroup) : (s.setCvGroup g x).msix = s.msix := by rw [State.setCvGroup]
@[simp] theorem State.setCvGroup_waits (g : Nat) (x : CvGroup) : (s.setCvGroup g x).waits = s.waits := by rw [State.setCvGroup]
@[simp] theorem State.setCvGroup_eng (g : Nat) (x : CvGroup) : (s.setCvGroup g x).eng = s.eng := by rw [State.setCvGroup]
@[simp] theorem State.setCvGroup_spares (g : Nat) (x : CvGroup) : (s.setCvGroup g x).spares = s.spares := by rw [State.setCvGroup]
@[simp] theorem State.setCvGroup_laps (g : Nat) (x : CvGroup) : (s.setCvGroup g x).laps = s.laps := by rw [State.setCvGroup]
@[simp] theorem State.setCvGroup_dram (g : Nat) (x : CvGroup) : (s.setCvGroup g x).dram = s.dram := by rw [State.setCvGroup]
@[simp] theorem State.setCvGroup_qe (g : Nat) (x : CvGroup) : (s.setCvGroup g x).qe = s.qe := by rw [State.setCvGroup]
@[simp] theorem State.setCvGroup_ntl (g : Nat) (x : CvGroup) : (s.setCvGroup g x).ntl = s.ntl := by rw [State.setCvGroup]
@[simp] theorem State.setCvGroup_fuses (g : Nat) (x : CvGroup) : (s.setCvGroup g x).fuses = s.fuses := by rw [State.setCvGroup]
@[simp] theorem State.setCvGroup_flash (g : Nat) (x : CvGroup) : (s.setCvGroup g x).flash = s.flash := by rw [State.setCvGroup]
@[simp] theorem State.setCvGroup_loader (g : Nat) (x : CvGroup) : (s.setCvGroup g x).loader = s.loader := by rw [State.setCvGroup]
@[simp] theorem State.setCvGroup_trust (g : Nat) (x : CvGroup) : (s.setCvGroup g x).trust = s.trust := by rw [State.setCvGroup]
@[simp] theorem State.setCvGroup_err (g : Nat) (x : CvGroup) : (s.setCvGroup g x).err = s.err := by rw [State.setCvGroup]
@[simp] theorem State.setCvGroup_husk (g : Nat) (x : CvGroup) : (s.setCvGroup g x).husk = s.husk := by rw [State.setCvGroup]
@[simp] theorem State.setCvGroup_mon (g : Nat) (x : CvGroup) : (s.setCvGroup g x).mon = s.mon := by rw [State.setCvGroup]
@[simp] theorem State.setCvGroup_clk (g : Nat) (x : CvGroup) : (s.setCvGroup g x).clk = s.clk := by rw [State.setCvGroup]
@[simp] theorem State.setCvGroup_pads (g : Nat) (x : CvGroup) : (s.setCvGroup g x).pads = s.pads := by rw [State.setCvGroup]
@[simp] theorem State.setCvGroup_tap (g : Nat) (x : CvGroup) : (s.setCvGroup g x).tap = s.tap := by rw [State.setCvGroup]
@[simp] theorem State.setCvGroup_reg (g : Nat) (x : CvGroup) (q : Nat) : (s.setCvGroup g x).reg q = s.reg q := by unfold State.reg; rw [State.setCvGroup_ctrl]
@[simp] theorem State.setCvGroup_fld (g : Nat) (x : CvGroup) (q : Field) : (s.setCvGroup g x).fld q = s.fld q := by unfold State.fld; rw [State.setCvGroup_reg]
@[simp] theorem State.setCvGroup_bit (g : Nat) (x : CvGroup) (q : Field) : (s.setCvGroup g x).bit q = s.bit q := by unfold State.bit; rw [State.setCvGroup_fld]
@[simp] theorem State.setCvGroup_engine (g : Nat) (x : CvGroup) (q : Nat) : (s.setCvGroup g x).engine q = s.engine q := by unfold State.engine; rw [State.setCvGroup_eng]
@[simp] theorem State.setCvGroup_holder (g : Nat) (x : CvGroup) (q : Nat) : (s.setCvGroup g x).holder q = s.holder q := by unfold State.holder; rw [State.setCvGroup_claims]

/-! setSubch -/
@[simp] theorem State.setSubch_pending (i : Nat) (x : Subch) : (s.setSubch i x).pending = s.pending := by rw [State.setSubch]
@[simp] theorem State.setSubch_ctrl (i : Nat) (x : Subch) : (s.setSubch i x).ctrl = s.ctrl := by rw [State.setSubch]
@[simp] theorem State.setSubch_response (i : Nat) (x : Subch) : (s.setSubch i x).response = s.response := by rw [State.setSubch]
@[simp] theorem State.setSubch_freeCount (i : Nat) (x : Subch) : (s.setSubch i x).freeCount = s.freeCount := by rw [State.setSubch]
@[simp] theorem State.setSubch_faults (i : Nat) (x : Subch) : (s.setSubch i x).faults = s.faults := by rw [State.setSubch]
@[simp] theorem State.setSubch_faultLost (i : Nat) (x : Subch) : (s.setSubch i x).faultLost = s.faultLost := by rw [State.setSubch]
@[simp] theorem State.setSubch_claims (i : Nat) (x : Subch) : (s.setSubch i x).claims = s.claims := by rw [State.setSubch]
@[simp] theorem State.setSubch_cues (i : Nat) (x : Subch) : (s.setSubch i x).cues = s.cues := by rw [State.setSubch]
@[simp] theorem State.setSubch_dev (i : Nat) (x : Subch) : (s.setSubch i x).dev = s.dev := by rw [State.setSubch]
@[simp] theorem State.setSubch_tim (i : Nat) (x : Subch) : (s.setSubch i x).tim = s.tim := by rw [State.setSubch]
@[simp] theorem State.setSubch_txu (i : Nat) (x : Subch) : (s.setSubch i x).txu = s.txu := by rw [State.setSubch]
@[simp] theorem State.setSubch_cfg (i : Nat) (x : Subch) : (s.setSubch i x).cfg = s.cfg := by rw [State.setSubch]
@[simp] theorem State.setSubch_fabric (i : Nat) (x : Subch) : (s.setSubch i x).fabric = s.fabric := by rw [State.setSubch]
@[simp] theorem State.setSubch_mbx (i : Nat) (x : Subch) : (s.setSubch i x).mbx = s.mbx := by rw [State.setSubch]
@[simp] theorem State.setSubch_spm (i : Nat) (x : Subch) : (s.setSubch i x).spm = s.spm := by rw [State.setSubch]
@[simp] theorem State.setSubch_noc (i : Nat) (x : Subch) : (s.setSubch i x).noc = s.noc := by rw [State.setSubch]
@[simp] theorem State.setSubch_msix (i : Nat) (x : Subch) : (s.setSubch i x).msix = s.msix := by rw [State.setSubch]
@[simp] theorem State.setSubch_waits (i : Nat) (x : Subch) : (s.setSubch i x).waits = s.waits := by rw [State.setSubch]
@[simp] theorem State.setSubch_eng (i : Nat) (x : Subch) : (s.setSubch i x).eng = s.eng := by rw [State.setSubch]
@[simp] theorem State.setSubch_spares (i : Nat) (x : Subch) : (s.setSubch i x).spares = s.spares := by rw [State.setSubch]
@[simp] theorem State.setSubch_laps (i : Nat) (x : Subch) : (s.setSubch i x).laps = s.laps := by rw [State.setSubch]
@[simp] theorem State.setSubch_qe (i : Nat) (x : Subch) : (s.setSubch i x).qe = s.qe := by rw [State.setSubch]
@[simp] theorem State.setSubch_cvl (i : Nat) (x : Subch) : (s.setSubch i x).cvl = s.cvl := by rw [State.setSubch]
@[simp] theorem State.setSubch_ntl (i : Nat) (x : Subch) : (s.setSubch i x).ntl = s.ntl := by rw [State.setSubch]
@[simp] theorem State.setSubch_fuses (i : Nat) (x : Subch) : (s.setSubch i x).fuses = s.fuses := by rw [State.setSubch]
@[simp] theorem State.setSubch_flash (i : Nat) (x : Subch) : (s.setSubch i x).flash = s.flash := by rw [State.setSubch]
@[simp] theorem State.setSubch_loader (i : Nat) (x : Subch) : (s.setSubch i x).loader = s.loader := by rw [State.setSubch]
@[simp] theorem State.setSubch_trust (i : Nat) (x : Subch) : (s.setSubch i x).trust = s.trust := by rw [State.setSubch]
@[simp] theorem State.setSubch_err (i : Nat) (x : Subch) : (s.setSubch i x).err = s.err := by rw [State.setSubch]
@[simp] theorem State.setSubch_husk (i : Nat) (x : Subch) : (s.setSubch i x).husk = s.husk := by rw [State.setSubch]
@[simp] theorem State.setSubch_mon (i : Nat) (x : Subch) : (s.setSubch i x).mon = s.mon := by rw [State.setSubch]
@[simp] theorem State.setSubch_clk (i : Nat) (x : Subch) : (s.setSubch i x).clk = s.clk := by rw [State.setSubch]
@[simp] theorem State.setSubch_pads (i : Nat) (x : Subch) : (s.setSubch i x).pads = s.pads := by rw [State.setSubch]
@[simp] theorem State.setSubch_tap (i : Nat) (x : Subch) : (s.setSubch i x).tap = s.tap := by rw [State.setSubch]
@[simp] theorem State.setSubch_reg (i : Nat) (x : Subch) (q : Nat) : (s.setSubch i x).reg q = s.reg q := by unfold State.reg; rw [State.setSubch_ctrl]
@[simp] theorem State.setSubch_fld (i : Nat) (x : Subch) (q : Field) : (s.setSubch i x).fld q = s.fld q := by unfold State.fld; rw [State.setSubch_reg]
@[simp] theorem State.setSubch_bit (i : Nat) (x : Subch) (q : Field) : (s.setSubch i x).bit q = s.bit q := by unfold State.bit; rw [State.setSubch_fld]
@[simp] theorem State.setSubch_engine (i : Nat) (x : Subch) (q : Nat) : (s.setSubch i x).engine q = s.engine q := by unfold State.engine; rw [State.setSubch_eng]
@[simp] theorem State.setSubch_holder (i : Nat) (x : Subch) (q : Nat) : (s.setSubch i x).holder q = s.holder q := by unfold State.holder; rw [State.setSubch_claims]

/-! setDramByte -/
@[simp] theorem State.setDramByte_pending (a : Nat) (v : Byte) : (s.setDramByte a v).pending = s.pending := by rw [State.setDramByte]
@[simp] theorem State.setDramByte_ctrl (a : Nat) (v : Byte) : (s.setDramByte a v).ctrl = s.ctrl := by rw [State.setDramByte]
@[simp] theorem State.setDramByte_response (a : Nat) (v : Byte) : (s.setDramByte a v).response = s.response := by rw [State.setDramByte]
@[simp] theorem State.setDramByte_freeCount (a : Nat) (v : Byte) : (s.setDramByte a v).freeCount = s.freeCount := by rw [State.setDramByte]
@[simp] theorem State.setDramByte_faults (a : Nat) (v : Byte) : (s.setDramByte a v).faults = s.faults := by rw [State.setDramByte]
@[simp] theorem State.setDramByte_faultLost (a : Nat) (v : Byte) : (s.setDramByte a v).faultLost = s.faultLost := by rw [State.setDramByte]
@[simp] theorem State.setDramByte_claims (a : Nat) (v : Byte) : (s.setDramByte a v).claims = s.claims := by rw [State.setDramByte]
@[simp] theorem State.setDramByte_cues (a : Nat) (v : Byte) : (s.setDramByte a v).cues = s.cues := by rw [State.setDramByte]
@[simp] theorem State.setDramByte_dev (a : Nat) (v : Byte) : (s.setDramByte a v).dev = s.dev := by rw [State.setDramByte]
@[simp] theorem State.setDramByte_tim (a : Nat) (v : Byte) : (s.setDramByte a v).tim = s.tim := by rw [State.setDramByte]
@[simp] theorem State.setDramByte_txu (a : Nat) (v : Byte) : (s.setDramByte a v).txu = s.txu := by rw [State.setDramByte]
@[simp] theorem State.setDramByte_cfg (a : Nat) (v : Byte) : (s.setDramByte a v).cfg = s.cfg := by rw [State.setDramByte]
@[simp] theorem State.setDramByte_fabric (a : Nat) (v : Byte) : (s.setDramByte a v).fabric = s.fabric := by rw [State.setDramByte]
@[simp] theorem State.setDramByte_mbx (a : Nat) (v : Byte) : (s.setDramByte a v).mbx = s.mbx := by rw [State.setDramByte]
@[simp] theorem State.setDramByte_spm (a : Nat) (v : Byte) : (s.setDramByte a v).spm = s.spm := by rw [State.setDramByte]
@[simp] theorem State.setDramByte_noc (a : Nat) (v : Byte) : (s.setDramByte a v).noc = s.noc := by rw [State.setDramByte]
@[simp] theorem State.setDramByte_msix (a : Nat) (v : Byte) : (s.setDramByte a v).msix = s.msix := by rw [State.setDramByte]
@[simp] theorem State.setDramByte_waits (a : Nat) (v : Byte) : (s.setDramByte a v).waits = s.waits := by rw [State.setDramByte]
@[simp] theorem State.setDramByte_eng (a : Nat) (v : Byte) : (s.setDramByte a v).eng = s.eng := by rw [State.setDramByte]
@[simp] theorem State.setDramByte_spares (a : Nat) (v : Byte) : (s.setDramByte a v).spares = s.spares := by rw [State.setDramByte]
@[simp] theorem State.setDramByte_laps (a : Nat) (v : Byte) : (s.setDramByte a v).laps = s.laps := by rw [State.setDramByte]
@[simp] theorem State.setDramByte_qe (a : Nat) (v : Byte) : (s.setDramByte a v).qe = s.qe := by rw [State.setDramByte]
@[simp] theorem State.setDramByte_cvl (a : Nat) (v : Byte) : (s.setDramByte a v).cvl = s.cvl := by rw [State.setDramByte]
@[simp] theorem State.setDramByte_ntl (a : Nat) (v : Byte) : (s.setDramByte a v).ntl = s.ntl := by rw [State.setDramByte]
@[simp] theorem State.setDramByte_fuses (a : Nat) (v : Byte) : (s.setDramByte a v).fuses = s.fuses := by rw [State.setDramByte]
@[simp] theorem State.setDramByte_flash (a : Nat) (v : Byte) : (s.setDramByte a v).flash = s.flash := by rw [State.setDramByte]
@[simp] theorem State.setDramByte_loader (a : Nat) (v : Byte) : (s.setDramByte a v).loader = s.loader := by rw [State.setDramByte]
@[simp] theorem State.setDramByte_trust (a : Nat) (v : Byte) : (s.setDramByte a v).trust = s.trust := by rw [State.setDramByte]
@[simp] theorem State.setDramByte_err (a : Nat) (v : Byte) : (s.setDramByte a v).err = s.err := by rw [State.setDramByte]
@[simp] theorem State.setDramByte_husk (a : Nat) (v : Byte) : (s.setDramByte a v).husk = s.husk := by rw [State.setDramByte]
@[simp] theorem State.setDramByte_mon (a : Nat) (v : Byte) : (s.setDramByte a v).mon = s.mon := by rw [State.setDramByte]
@[simp] theorem State.setDramByte_clk (a : Nat) (v : Byte) : (s.setDramByte a v).clk = s.clk := by rw [State.setDramByte]
@[simp] theorem State.setDramByte_pads (a : Nat) (v : Byte) : (s.setDramByte a v).pads = s.pads := by rw [State.setDramByte]
@[simp] theorem State.setDramByte_tap (a : Nat) (v : Byte) : (s.setDramByte a v).tap = s.tap := by rw [State.setDramByte]
@[simp] theorem State.setDramByte_reg (a : Nat) (v : Byte) (q : Nat) : (s.setDramByte a v).reg q = s.reg q := by unfold State.reg; rw [State.setDramByte_ctrl]
@[simp] theorem State.setDramByte_fld (a : Nat) (v : Byte) (q : Field) : (s.setDramByte a v).fld q = s.fld q := by unfold State.fld; rw [State.setDramByte_reg]
@[simp] theorem State.setDramByte_bit (a : Nat) (v : Byte) (q : Field) : (s.setDramByte a v).bit q = s.bit q := by unfold State.bit; rw [State.setDramByte_fld]
@[simp] theorem State.setDramByte_engine (a : Nat) (v : Byte) (q : Nat) : (s.setDramByte a v).engine q = s.engine q := by unfold State.engine; rw [State.setDramByte_eng]
@[simp] theorem State.setDramByte_holder (a : Nat) (v : Byte) (q : Nat) : (s.setDramByte a v).holder q = s.holder q := by unfold State.holder; rw [State.setDramByte_claims]

/-! ## Reads after writes -/

@[simp] theorem State.reg_setReg_same (o : Nat) (w : Word) : (s.setReg o w).reg o = w := by
  simp [State.reg, State.setReg]

@[simp] theorem State.reg_setReg_ne {o k : Nat} (w : Word) (h : k ≠ o) : (s.setReg o w).reg k = s.reg k := by
  simp [State.reg, State.setReg, h]

theorem State.fld_setReg_ne {o : Nat} {k : Field} (w : Word) (h : k.off ≠ o) : (s.setReg o w).fld k = s.fld k := by
  simp [State.fld, h]

theorem State.reg_setFld_ne {f : Field} {k : Nat} (v : Nat) (h : k ≠ f.off) : (s.setFld f v).reg k = s.reg k := by
  simp [State.setFld, h]

/-- A field reads as what was written, modulo its width. -/
theorem State.fld_setFld_same (f : Field) (v : Nat) (h : f.lo + f.width ≤ 32) :
    (s.setFld f v).fld f = v % 2 ^ f.width := by
  simp [State.fld, State.setFld, Field.get, Field.put, bitsOf_putBits_same _ _ _ _ h]

/-- A field of another register, or of the same one without a bit in common, is unchanged. -/
theorem State.fld_setFld_disjoint (f k : Field) (v : Nat) (hk : k.lo + k.width ≤ 32)
    (h : k.off ≠ f.off ∨ k.lo + k.width ≤ f.lo ∨ f.lo + f.width ≤ k.lo) : (s.setFld f v).fld k = s.fld k := by
  by_cases ho : k.off = f.off
  · have h' := h.resolve_left (by simpa using ho)
    simp [State.fld, State.setFld, ho, Field.get, Field.put, bitsOf_putBits_disjoint _ _ _ _ _ _ hk h']
  · simp [State.fld, State.setFld, ho]

@[simp] theorem State.engine_setEngine_same (n : Nat) (e : Engine) : (s.setEngine n e).engine n = e := by
  simp [State.engine, State.setEngine]

@[simp] theorem State.engine_setEngine_ne {n k : Nat} (e : Engine) (h : k ≠ n) :
    (s.setEngine n e).engine k = s.engine k := by
  simp [State.engine, State.setEngine, h]

@[simp] theorem State.holder_setHolder_same (o : Nat) (h : Option Master) : (s.setHolder o h).holder o = h := by
  simp [State.holder, State.setHolder]

@[simp] theorem State.holder_setHolder_ne {o k : Nat} (h : Option Master) (hk : k ≠ o) :
    (s.setHolder o h).holder k = s.holder k := by
  simp [State.holder, State.setHolder, hk]

@[simp] theorem State.tx_setTx_same (id : Nat) (t : Tx) : (s.setTx id t).tx id = t := by
  simp [State.tx, State.setTx]

@[simp] theorem State.pod_setPod_same (p : Nat) (x : Pod) : (s.setPod p x).pod p = x := by
  simp [State.pod, State.setPod]

@[simp] theorem State.spmByte_setSpmByte_same (k b : Nat) (v : Byte) : (s.setSpmByte k b v).spmByte k b = v := by
  simp [State.spmByte, State.setSpmByte]

theorem State.setSpmByte_wf (k b : Nat) (v : Byte) (h : Table.wf zeroByte s.spm.mem = true) :
    Table.wf zeroByte (s.setSpmByte k b v).spm.mem = true := Table.wf_set _ _ _ _ h

end Sys2Proof.Machine
end

