-- ==== Sys2Proof/Laws/Ops.lean ====
section
/-! SUPPORT. What the shared operations leave and what they write: fault records, mode transitions,
cues, MSI-X messages and counters. -/

namespace Sys2Proof.Machine

variable (s : State)

/-! incFld -/
@[simp] theorem State.incFld_pending (f : Field) (n : Nat) : (s.incFld f n).pending = s.pending := by rw [State.incFld, State.setFld_pending]
@[simp] theorem State.incFld_response (f : Field) (n : Nat) : (s.incFld f n).response = s.response := by rw [State.incFld, State.setFld_response]
@[simp] theorem State.incFld_freeCount (f : Field) (n : Nat) : (s.incFld f n).freeCount = s.freeCount := by rw [State.incFld, State.setFld_freeCount]
@[simp] theorem State.incFld_faults (f : Field) (n : Nat) : (s.incFld f n).faults = s.faults := by rw [State.incFld, State.setFld_faults]
@[simp] theorem State.incFld_faultLost (f : Field) (n : Nat) : (s.incFld f n).faultLost = s.faultLost := by rw [State.incFld, State.setFld_faultLost]
@[simp] theorem State.incFld_claims (f : Field) (n : Nat) : (s.incFld f n).claims = s.claims := by rw [State.incFld, State.setFld_claims]
@[simp] theorem State.incFld_cues (f : Field) (n : Nat) : (s.incFld f n).cues = s.cues := by rw [State.incFld, State.setFld_cues]
@[simp] theorem State.incFld_dev (f : Field) (n : Nat) : (s.incFld f n).dev = s.dev := by rw [State.incFld, State.setFld_dev]
@[simp] theorem State.incFld_tim (f : Field) (n : Nat) : (s.incFld f n).tim = s.tim := by rw [State.incFld, State.setFld_tim]
@[simp] theorem State.incFld_txu (f : Field) (n : Nat) : (s.incFld f n).txu = s.txu := by rw [State.incFld, State.setFld_txu]
@[simp] theorem State.incFld_cfg (f : Field) (n : Nat) : (s.incFld f n).cfg = s.cfg := by rw [State.incFld, State.setFld_cfg]
@[simp] theorem State.incFld_fabric (f : Field) (n : Nat) : (s.incFld f n).fabric = s.fabric := by rw [State.incFld, State.setFld_fabric]
@[simp] theorem State.incFld_mbx (f : Field) (n : Nat) : (s.incFld f n).mbx = s.mbx := by rw [State.incFld, State.setFld_mbx]
@[simp] theorem State.incFld_spm (f : Field) (n : Nat) : (s.incFld f n).spm = s.spm := by rw [State.incFld, State.setFld_spm]
@[simp] theorem State.incFld_noc (f : Field) (n : Nat) : (s.incFld f n).noc = s.noc := by rw [State.incFld, State.setFld_noc]
@[simp] theorem State.incFld_msix (f : Field) (n : Nat) : (s.incFld f n).msix = s.msix := by rw [State.incFld, State.setFld_msix]
@[simp] theorem State.incFld_waits (f : Field) (n : Nat) : (s.incFld f n).waits = s.waits := by rw [State.incFld, State.setFld_waits]
@[simp] theorem State.incFld_eng (f : Field) (n : Nat) : (s.incFld f n).eng = s.eng := by rw [State.incFld, State.setFld_eng]
@[simp] theorem State.incFld_spares (f : Field) (n : Nat) : (s.incFld f n).spares = s.spares := by rw [State.incFld, State.setFld_spares]
@[simp] theorem State.incFld_laps (f : Field) (n : Nat) : (s.incFld f n).laps = s.laps := by rw [State.incFld, State.setFld_laps]
@[simp] theorem State.incFld_dram (f : Field) (n : Nat) : (s.incFld f n).dram = s.dram := by rw [State.incFld, State.setFld_dram]
@[simp] theorem State.incFld_qe (f : Field) (n : Nat) : (s.incFld f n).qe = s.qe := by rw [State.incFld, State.setFld_qe]
@[simp] theorem State.incFld_cvl (f : Field) (n : Nat) : (s.incFld f n).cvl = s.cvl := by rw [State.incFld, State.setFld_cvl]
@[simp] theorem State.incFld_ntl (f : Field) (n : Nat) : (s.incFld f n).ntl = s.ntl := by rw [State.incFld, State.setFld_ntl]
@[simp] theorem State.incFld_fuses (f : Field) (n : Nat) : (s.incFld f n).fuses = s.fuses := by rw [State.incFld, State.setFld_fuses]
@[simp] theorem State.incFld_flash (f : Field) (n : Nat) : (s.incFld f n).flash = s.flash := by rw [State.incFld, State.setFld_flash]
@[simp] theorem State.incFld_loader (f : Field) (n : Nat) : (s.incFld f n).loader = s.loader := by rw [State.incFld, State.setFld_loader]
@[simp] theorem State.incFld_trust (f : Field) (n : Nat) : (s.incFld f n).trust = s.trust := by rw [State.incFld, State.setFld_trust]
@[simp] theorem State.incFld_err (f : Field) (n : Nat) : (s.incFld f n).err = s.err := by rw [State.incFld, State.setFld_err]
@[simp] theorem State.incFld_husk (f : Field) (n : Nat) : (s.incFld f n).husk = s.husk := by rw [State.incFld, State.setFld_husk]
@[simp] theorem State.incFld_mon (f : Field) (n : Nat) : (s.incFld f n).mon = s.mon := by rw [State.incFld, State.setFld_mon]
@[simp] theorem State.incFld_clk (f : Field) (n : Nat) : (s.incFld f n).clk = s.clk := by rw [State.incFld, State.setFld_clk]
@[simp] theorem State.incFld_pads (f : Field) (n : Nat) : (s.incFld f n).pads = s.pads := by rw [State.incFld, State.setFld_pads]
@[simp] theorem State.incFld_tap (f : Field) (n : Nat) : (s.incFld f n).tap = s.tap := by rw [State.incFld, State.setFld_tap]
@[simp] theorem State.incFld_engine (f : Field) (n : Nat) (q : Nat) : (s.incFld f n).engine q = s.engine q := by unfold State.engine; rw [State.incFld_eng]
@[simp] theorem State.incFld_holder (f : Field) (n : Nat) (q : Nat) : (s.incFld f n).holder q = s.holder q := by unfold State.holder; rw [State.incFld_claims]

/-! satFld -/
@[simp] theorem State.satFld_pending (f o : Field) (n : Nat) : (s.satFld f o n).pending = s.pending := by unfold State.satFld; split <;> simp
@[simp] theorem State.satFld_response (f o : Field) (n : Nat) : (s.satFld f o n).response = s.response := by unfold State.satFld; split <;> simp
@[simp] theorem State.satFld_freeCount (f o : Field) (n : Nat) : (s.satFld f o n).freeCount = s.freeCount := by unfold State.satFld; split <;> simp
@[simp] theorem State.satFld_faults (f o : Field) (n : Nat) : (s.satFld f o n).faults = s.faults := by unfold State.satFld; split <;> simp
@[simp] theorem State.satFld_faultLost (f o : Field) (n : Nat) : (s.satFld f o n).faultLost = s.faultLost := by unfold State.satFld; split <;> simp
@[simp] theorem State.satFld_claims (f o : Field) (n : Nat) : (s.satFld f o n).claims = s.claims := by unfold State.satFld; split <;> simp
@[simp] theorem State.satFld_cues (f o : Field) (n : Nat) : (s.satFld f o n).cues = s.cues := by unfold State.satFld; split <;> simp
@[simp] theorem State.satFld_dev (f o : Field) (n : Nat) : (s.satFld f o n).dev = s.dev := by unfold State.satFld; split <;> simp
@[simp] theorem State.satFld_tim (f o : Field) (n : Nat) : (s.satFld f o n).tim = s.tim := by unfold State.satFld; split <;> simp
@[simp] theorem State.satFld_txu (f o : Field) (n : Nat) : (s.satFld f o n).txu = s.txu := by unfold State.satFld; split <;> simp
@[simp] theorem State.satFld_cfg (f o : Field) (n : Nat) : (s.satFld f o n).cfg = s.cfg := by unfold State.satFld; split <;> simp
@[simp] theorem State.satFld_fabric (f o : Field) (n : Nat) : (s.satFld f o n).fabric = s.fabric := by unfold State.satFld; split <;> simp
@[simp] theorem State.satFld_mbx (f o : Field) (n : Nat) : (s.satFld f o n).mbx = s.mbx := by unfold State.satFld; split <;> simp
@[simp] theorem State.satFld_spm (f o : Field) (n : Nat) : (s.satFld f o n).spm = s.spm := by unfold State.satFld; split <;> simp
@[simp] theorem State.satFld_noc (f o : Field) (n : Nat) : (s.satFld f o n).noc = s.noc := by unfold State.satFld; split <;> simp
@[simp] theorem State.satFld_msix (f o : Field) (n : Nat) : (s.satFld f o n).msix = s.msix := by unfold State.satFld; split <;> simp
@[simp] theorem State.satFld_waits (f o : Field) (n : Nat) : (s.satFld f o n).waits = s.waits := by unfold State.satFld; split <;> simp
@[simp] theorem State.satFld_eng (f o : Field) (n : Nat) : (s.satFld f o n).eng = s.eng := by unfold State.satFld; split <;> simp
@[simp] theorem State.satFld_spares (f o : Field) (n : Nat) : (s.satFld f o n).spares = s.spares := by unfold State.satFld; split <;> simp
@[simp] theorem State.satFld_laps (f o : Field) (n : Nat) : (s.satFld f o n).laps = s.laps := by unfold State.satFld; split <;> simp
@[simp] theorem State.satFld_dram (f o : Field) (n : Nat) : (s.satFld f o n).dram = s.dram := by unfold State.satFld; split <;> simp
@[simp] theorem State.satFld_qe (f o : Field) (n : Nat) : (s.satFld f o n).qe = s.qe := by unfold State.satFld; split <;> simp
@[simp] theorem State.satFld_cvl (f o : Field) (n : Nat) : (s.satFld f o n).cvl = s.cvl := by unfold State.satFld; split <;> simp
@[simp] theorem State.satFld_ntl (f o : Field) (n : Nat) : (s.satFld f o n).ntl = s.ntl := by unfold State.satFld; split <;> simp
@[simp] theorem State.satFld_fuses (f o : Field) (n : Nat) : (s.satFld f o n).fuses = s.fuses := by unfold State.satFld; split <;> simp
@[simp] theorem State.satFld_flash (f o : Field) (n : Nat) : (s.satFld f o n).flash = s.flash := by unfold State.satFld; split <;> simp
@[simp] theorem State.satFld_loader (f o : Field) (n : Nat) : (s.satFld f o n).loader = s.loader := by unfold State.satFld; split <;> simp
@[simp] theorem State.satFld_trust (f o : Field) (n : Nat) : (s.satFld f o n).trust = s.trust := by unfold State.satFld; split <;> simp
@[simp] theorem State.satFld_err (f o : Field) (n : Nat) : (s.satFld f o n).err = s.err := by unfold State.satFld; split <;> simp
@[simp] theorem State.satFld_husk (f o : Field) (n : Nat) : (s.satFld f o n).husk = s.husk := by unfold State.satFld; split <;> simp
@[simp] theorem State.satFld_mon (f o : Field) (n : Nat) : (s.satFld f o n).mon = s.mon := by unfold State.satFld; split <;> simp
@[simp] theorem State.satFld_clk (f o : Field) (n : Nat) : (s.satFld f o n).clk = s.clk := by unfold State.satFld; split <;> simp
@[simp] theorem State.satFld_pads (f o : Field) (n : Nat) : (s.satFld f o n).pads = s.pads := by unfold State.satFld; split <;> simp
@[simp] theorem State.satFld_tap (f o : Field) (n : Nat) : (s.satFld f o n).tap = s.tap := by unfold State.satFld; split <;> simp
@[simp] theorem State.satFld_engine (f o : Field) (n : Nat) (q : Nat) : (s.satFld f o n).engine q = s.engine q := by unfold State.engine; rw [State.satFld_eng]
@[simp] theorem State.satFld_holder (f o : Field) (n : Nat) (q : Nat) : (s.satFld f o n).holder q = s.holder q := by unfold State.holder; rw [State.satFld_claims]

/-! satOnly -/
@[simp] theorem State.satOnly_pending (f : Field) (n : Nat) : (s.satOnly f n).pending = s.pending := by rw [State.satOnly, State.setFld_pending]
@[simp] theorem State.satOnly_response (f : Field) (n : Nat) : (s.satOnly f n).response = s.response := by rw [State.satOnly, State.setFld_response]
@[simp] theorem State.satOnly_freeCount (f : Field) (n : Nat) : (s.satOnly f n).freeCount = s.freeCount := by rw [State.satOnly, State.setFld_freeCount]
@[simp] theorem State.satOnly_faults (f : Field) (n : Nat) : (s.satOnly f n).faults = s.faults := by rw [State.satOnly, State.setFld_faults]
@[simp] theorem State.satOnly_faultLost (f : Field) (n : Nat) : (s.satOnly f n).faultLost = s.faultLost := by rw [State.satOnly, State.setFld_faultLost]
@[simp] theorem State.satOnly_claims (f : Field) (n : Nat) : (s.satOnly f n).claims = s.claims := by rw [State.satOnly, State.setFld_claims]
@[simp] theorem State.satOnly_cues (f : Field) (n : Nat) : (s.satOnly f n).cues = s.cues := by rw [State.satOnly, State.setFld_cues]
@[simp] theorem State.satOnly_dev (f : Field) (n : Nat) : (s.satOnly f n).dev = s.dev := by rw [State.satOnly, State.setFld_dev]
@[simp] theorem State.satOnly_tim (f : Field) (n : Nat) : (s.satOnly f n).tim = s.tim := by rw [State.satOnly, State.setFld_tim]
@[simp] theorem State.satOnly_txu (f : Field) (n : Nat) : (s.satOnly f n).txu = s.txu := by rw [State.satOnly, State.setFld_txu]
@[simp] theorem State.satOnly_cfg (f : Field) (n : Nat) : (s.satOnly f n).cfg = s.cfg := by rw [State.satOnly, State.setFld_cfg]
@[simp] theorem State.satOnly_fabric (f : Field) (n : Nat) : (s.satOnly f n).fabric = s.fabric := by rw [State.satOnly, State.setFld_fabric]
@[simp] theorem State.satOnly_mbx (f : Field) (n : Nat) : (s.satOnly f n).mbx = s.mbx := by rw [State.satOnly, State.setFld_mbx]
@[simp] theorem State.satOnly_spm (f : Field) (n : Nat) : (s.satOnly f n).spm = s.spm := by rw [State.satOnly, State.setFld_spm]
@[simp] theorem State.satOnly_noc (f : Field) (n : Nat) : (s.satOnly f n).noc = s.noc := by rw [State.satOnly, State.setFld_noc]
@[simp] theorem State.satOnly_msix (f : Field) (n : Nat) : (s.satOnly f n).msix = s.msix := by rw [State.satOnly, State.setFld_msix]
@[simp] theorem State.satOnly_waits (f : Field) (n : Nat) : (s.satOnly f n).waits = s.waits := by rw [State.satOnly, State.setFld_waits]
@[simp] theorem State.satOnly_eng (f : Field) (n : Nat) : (s.satOnly f n).eng = s.eng := by rw [State.satOnly, State.setFld_eng]
@[simp] theorem State.satOnly_spares (f : Field) (n : Nat) : (s.satOnly f n).spares = s.spares := by rw [State.satOnly, State.setFld_spares]
@[simp] theorem State.satOnly_laps (f : Field) (n : Nat) : (s.satOnly f n).laps = s.laps := by rw [State.satOnly, State.setFld_laps]
@[simp] theorem State.satOnly_dram (f : Field) (n : Nat) : (s.satOnly f n).dram = s.dram := by rw [State.satOnly, State.setFld_dram]
@[simp] theorem State.satOnly_qe (f : Field) (n : Nat) : (s.satOnly f n).qe = s.qe := by rw [State.satOnly, State.setFld_qe]
@[simp] theorem State.satOnly_cvl (f : Field) (n : Nat) : (s.satOnly f n).cvl = s.cvl := by rw [State.satOnly, State.setFld_cvl]
@[simp] theorem State.satOnly_ntl (f : Field) (n : Nat) : (s.satOnly f n).ntl = s.ntl := by rw [State.satOnly, State.setFld_ntl]
@[simp] theorem State.satOnly_fuses (f : Field) (n : Nat) : (s.satOnly f n).fuses = s.fuses := by rw [State.satOnly, State.setFld_fuses]
@[simp] theorem State.satOnly_flash (f : Field) (n : Nat) : (s.satOnly f n).flash = s.flash := by rw [State.satOnly, State.setFld_flash]
@[simp] theorem State.satOnly_loader (f : Field) (n : Nat) : (s.satOnly f n).loader = s.loader := by rw [State.satOnly, State.setFld_loader]
@[simp] theorem State.satOnly_trust (f : Field) (n : Nat) : (s.satOnly f n).trust = s.trust := by rw [State.satOnly, State.setFld_trust]
@[simp] theorem State.satOnly_err (f : Field) (n : Nat) : (s.satOnly f n).err = s.err := by rw [State.satOnly, State.setFld_err]
@[simp] theorem State.satOnly_husk (f : Field) (n : Nat) : (s.satOnly f n).husk = s.husk := by rw [State.satOnly, State.setFld_husk]
@[simp] theorem State.satOnly_mon (f : Field) (n : Nat) : (s.satOnly f n).mon = s.mon := by rw [State.satOnly, State.setFld_mon]
@[simp] theorem State.satOnly_clk (f : Field) (n : Nat) : (s.satOnly f n).clk = s.clk := by rw [State.satOnly, State.setFld_clk]
@[simp] theorem State.satOnly_pads (f : Field) (n : Nat) : (s.satOnly f n).pads = s.pads := by rw [State.satOnly, State.setFld_pads]
@[simp] theorem State.satOnly_tap (f : Field) (n : Nat) : (s.satOnly f n).tap = s.tap := by rw [State.satOnly, State.setFld_tap]
@[simp] theorem State.satOnly_engine (f : Field) (n : Nat) (q : Nat) : (s.satOnly f n).engine q = s.engine q := by unfold State.engine; rw [State.satOnly_eng]
@[simp] theorem State.satOnly_holder (f : Field) (n : Nat) (q : Nat) : (s.satOnly f n).holder q = s.holder q := by unfold State.holder; rw [State.satOnly_claims]

/-! sendMsix -/
@[simp] theorem State.sendMsix_pending (p v : Nat) : (s.sendMsix p v).pending = s.pending := by unfold State.sendMsix; split <;> rfl
@[simp] theorem State.sendMsix_ctrl (p v : Nat) : (s.sendMsix p v).ctrl = s.ctrl := by unfold State.sendMsix; split <;> rfl
@[simp] theorem State.sendMsix_response (p v : Nat) : (s.sendMsix p v).response = s.response := by unfold State.sendMsix; split <;> rfl
@[simp] theorem State.sendMsix_freeCount (p v : Nat) : (s.sendMsix p v).freeCount = s.freeCount := by unfold State.sendMsix; split <;> rfl
@[simp] theorem State.sendMsix_faults (p v : Nat) : (s.sendMsix p v).faults = s.faults := by unfold State.sendMsix; split <;> rfl
@[simp] theorem State.sendMsix_faultLost (p v : Nat) : (s.sendMsix p v).faultLost = s.faultLost := by unfold State.sendMsix; split <;> rfl
@[simp] theorem State.sendMsix_claims (p v : Nat) : (s.sendMsix p v).claims = s.claims := by unfold State.sendMsix; split <;> rfl
@[simp] theorem State.sendMsix_cues (p v : Nat) : (s.sendMsix p v).cues = s.cues := by unfold State.sendMsix; split <;> rfl
@[simp] theorem State.sendMsix_dev (p v : Nat) : (s.sendMsix p v).dev = s.dev := by unfold State.sendMsix; split <;> rfl
@[simp] theorem State.sendMsix_tim (p v : Nat) : (s.sendMsix p v).tim = s.tim := by unfold State.sendMsix; split <;> rfl
@[simp] theorem State.sendMsix_txu (p v : Nat) : (s.sendMsix p v).txu = s.txu := by unfold State.sendMsix; split <;> rfl
@[simp] theorem State.sendMsix_cfg (p v : Nat) : (s.sendMsix p v).cfg = s.cfg := by unfold State.sendMsix; split <;> rfl
@[simp] theorem State.sendMsix_fabric (p v : Nat) : (s.sendMsix p v).fabric = s.fabric := by unfold State.sendMsix; split <;> rfl
@[simp] theorem State.sendMsix_mbx (p v : Nat) : (s.sendMsix p v).mbx = s.mbx := by unfold State.sendMsix; split <;> rfl
@[simp] theorem State.sendMsix_spm (p v : Nat) : (s.sendMsix p v).spm = s.spm := by unfold State.sendMsix; split <;> rfl
@[simp] theorem State.sendMsix_noc (p v : Nat) : (s.sendMsix p v).noc = s.noc := by unfold State.sendMsix; split <;> rfl
@[simp] theorem State.sendMsix_waits (p v : Nat) : (s.sendMsix p v).waits = s.waits := by unfold State.sendMsix; split <;> rfl
@[simp] theorem State.sendMsix_eng (p v : Nat) : (s.sendMsix p v).eng = s.eng := by unfold State.sendMsix; split <;> rfl
@[simp] theorem State.sendMsix_spares (p v : Nat) : (s.sendMsix p v).spares = s.spares := by unfold State.sendMsix; split <;> rfl
@[simp] theorem State.sendMsix_laps (p v : Nat) : (s.sendMsix p v).laps = s.laps := by unfold State.sendMsix; split <;> rfl
@[simp] theorem State.sendMsix_dram (p v : Nat) : (s.sendMsix p v).dram = s.dram := by unfold State.sendMsix; split <;> rfl
@[simp] theorem State.sendMsix_qe (p v : Nat) : (s.sendMsix p v).qe = s.qe := by unfold State.sendMsix; split <;> rfl
@[simp] theorem State.sendMsix_cvl (p v : Nat) : (s.sendMsix p v).cvl = s.cvl := by unfold State.sendMsix; split <;> rfl
@[simp] theorem State.sendMsix_ntl (p v : Nat) : (s.sendMsix p v).ntl = s.ntl := by unfold State.sendMsix; split <;> rfl
@[simp] theorem State.sendMsix_fuses (p v : Nat) : (s.sendMsix p v).fuses = s.fuses := by unfold State.sendMsix; split <;> rfl
@[simp] theorem State.sendMsix_flash (p v : Nat) : (s.sendMsix p v).flash = s.flash := by unfold State.sendMsix; split <;> rfl
@[simp] theorem State.sendMsix_loader (p v : Nat) : (s.sendMsix p v).loader = s.loader := by unfold State.sendMsix; split <;> rfl
@[simp] theorem State.sendMsix_trust (p v : Nat) : (s.sendMsix p v).trust = s.trust := by unfold State.sendMsix; split <;> rfl
@[simp] theorem State.sendMsix_err (p v : Nat) : (s.sendMsix p v).err = s.err := by unfold State.sendMsix; split <;> rfl
@[simp] theorem State.sendMsix_husk (p v : Nat) : (s.sendMsix p v).husk = s.husk := by unfold State.sendMsix; split <;> rfl
@[simp] theorem State.sendMsix_mon (p v : Nat) : (s.sendMsix p v).mon = s.mon := by unfold State.sendMsix; split <;> rfl
@[simp] theorem State.sendMsix_clk (p v : Nat) : (s.sendMsix p v).clk = s.clk := by unfold State.sendMsix; split <;> rfl
@[simp] theorem State.sendMsix_pads (p v : Nat) : (s.sendMsix p v).pads = s.pads := by unfold State.sendMsix; split <;> rfl
@[simp] theorem State.sendMsix_tap (p v : Nat) : (s.sendMsix p v).tap = s.tap := by unfold State.sendMsix; split <;> rfl
@[simp] theorem State.sendMsix_reg (p v : Nat) (q : Nat) : (s.sendMsix p v).reg q = s.reg q := by unfold State.reg; rw [State.sendMsix_ctrl]
@[simp] theorem State.sendMsix_fld (p v : Nat) (q : Field) : (s.sendMsix p v).fld q = s.fld q := by unfold State.fld; rw [State.sendMsix_reg]
@[simp] theorem State.sendMsix_bit (p v : Nat) (q : Field) : (s.sendMsix p v).bit q = s.bit q := by unfold State.bit; rw [State.sendMsix_fld]
@[simp] theorem State.sendMsix_engine (p v : Nat) (q : Nat) : (s.sendMsix p v).engine q = s.engine q := by unfold State.engine; rw [State.sendMsix_eng]
@[simp] theorem State.sendMsix_holder (p v : Nat) (q : Nat) : (s.sendMsix p v).holder q = s.holder q := by unfold State.holder; rw [State.sendMsix_claims]

/-! fault -/
@[simp] theorem State.fault_pending (r : Master) (c : FaultClass) (j : Subject) (x d : Nat) (b : Bool) : (s.fault r c j x d b).pending = s.pending := by unfold State.fault; dsimp only; split; rfl; split; rfl; simp
@[simp] theorem State.fault_response (r : Master) (c : FaultClass) (j : Subject) (x d : Nat) (b : Bool) : (s.fault r c j x d b).response = s.response := by unfold State.fault; dsimp only; split; rfl; split; rfl; simp
@[simp] theorem State.fault_freeCount (r : Master) (c : FaultClass) (j : Subject) (x d : Nat) (b : Bool) : (s.fault r c j x d b).freeCount = s.freeCount := by unfold State.fault; dsimp only; split; rfl; split; rfl; simp
@[simp] theorem State.fault_claims (r : Master) (c : FaultClass) (j : Subject) (x d : Nat) (b : Bool) : (s.fault r c j x d b).claims = s.claims := by unfold State.fault; dsimp only; split; rfl; split; rfl; simp
@[simp] theorem State.fault_cues (r : Master) (c : FaultClass) (j : Subject) (x d : Nat) (b : Bool) : (s.fault r c j x d b).cues = s.cues := by unfold State.fault; dsimp only; split; rfl; split; rfl; simp
@[simp] theorem State.fault_dev (r : Master) (c : FaultClass) (j : Subject) (x d : Nat) (b : Bool) : (s.fault r c j x d b).dev = s.dev := by unfold State.fault; dsimp only; split; rfl; split; rfl; simp
@[simp] theorem State.fault_tim (r : Master) (c : FaultClass) (j : Subject) (x d : Nat) (b : Bool) : (s.fault r c j x d b).tim = s.tim := by unfold State.fault; dsimp only; split; rfl; split; rfl; simp
@[simp] theorem State.fault_txu (r : Master) (c : FaultClass) (j : Subject) (x d : Nat) (b : Bool) : (s.fault r c j x d b).txu = s.txu := by unfold State.fault; dsimp only; split; rfl; split; rfl; simp
@[simp] theorem State.fault_cfg (r : Master) (c : FaultClass) (j : Subject) (x d : Nat) (b : Bool) : (s.fault r c j x d b).cfg = s.cfg := by unfold State.fault; dsimp only; split; rfl; split; rfl; simp
@[simp] theorem State.fault_fabric (r : Master) (c : FaultClass) (j : Subject) (x d : Nat) (b : Bool) : (s.fault r c j x d b).fabric = s.fabric := by unfold State.fault; dsimp only; split; rfl; split; rfl; simp
@[simp] theorem State.fault_mbx (r : Master) (c : FaultClass) (j : Subject) (x d : Nat) (b : Bool) : (s.fault r c j x d b).mbx = s.mbx := by unfold State.fault; dsimp only; split; rfl; split; rfl; simp
@[simp] theorem State.fault_spm (r : Master) (c : FaultClass) (j : Subject) (x d : Nat) (b : Bool) : (s.fault r c j x d b).spm = s.spm := by unfold State.fault; dsimp only; split; rfl; split; rfl; simp
@[simp] theorem State.fault_noc (r : Master) (c : FaultClass) (j : Subject) (x d : Nat) (b : Bool) : (s.fault r c j x d b).noc = s.noc := by unfold State.fault; dsimp only; split; rfl; split; rfl; simp
@[simp] theorem State.fault_msix (r : Master) (c : FaultClass) (j : Subject) (x d : Nat) (b : Bool) : (s.fault r c j x d b).msix = s.msix := by unfold State.fault; dsimp only; split; rfl; split; rfl; simp
@[simp] theorem State.fault_waits (r : Master) (c : FaultClass) (j : Subject) (x d : Nat) (b : Bool) : (s.fault r c j x d b).waits = s.waits := by unfold State.fault; dsimp only; split; rfl; split; rfl; simp
@[simp] theorem State.fault_eng (r : Master) (c : FaultClass) (j : Subject) (x d : Nat) (b : Bool) : (s.fault r c j x d b).eng = s.eng := by unfold State.fault; dsimp only; split; rfl; split; rfl; simp
@[simp] theorem State.fault_spares (r : Master) (c : FaultClass) (j : Subject) (x d : Nat) (b : Bool) : (s.fault r c j x d b).spares = s.spares := by unfold State.fault; dsimp only; split; rfl; split; rfl; simp
@[simp] theorem State.fault_laps (r : Master) (c : FaultClass) (j : Subject) (x d : Nat) (b : Bool) : (s.fault r c j x d b).laps = s.laps := by unfold State.fault; dsimp only; split; rfl; split; rfl; simp
@[simp] theorem State.fault_dram (r : Master) (c : FaultClass) (j : Subject) (x d : Nat) (b : Bool) : (s.fault r c j x d b).dram = s.dram := by unfold State.fault; dsimp only; split; rfl; split; rfl; simp
@[simp] theorem State.fault_qe (r : Master) (c : FaultClass) (j : Subject) (x d : Nat) (b : Bool) : (s.fault r c j x d b).qe = s.qe := by unfold State.fault; dsimp only; split; rfl; split; rfl; simp
@[simp] theorem State.fault_cvl (r : Master) (c : FaultClass) (j : Subject) (x d : Nat) (b : Bool) : (s.fault r c j x d b).cvl = s.cvl := by unfold State.fault; dsimp only; split; rfl; split; rfl; simp
@[simp] theorem State.fault_ntl (r : Master) (c : FaultClass) (j : Subject) (x d : Nat) (b : Bool) : (s.fault r c j x d b).ntl = s.ntl := by unfold State.fault; dsimp only; split; rfl; split; rfl; simp
@[simp] theorem State.fault_fuses (r : Master) (c : FaultClass) (j : Subject) (x d : Nat) (b : Bool) : (s.fault r c j x d b).fuses = s.fuses := by unfold State.fault; dsimp only; split; rfl; split; rfl; simp
@[simp] theorem State.fault_flash (r : Master) (c : FaultClass) (j : Subject) (x d : Nat) (b : Bool) : (s.fault r c j x d b).flash = s.flash := by unfold State.fault; dsimp only; split; rfl; split; rfl; simp
@[simp] theorem State.fault_loader (r : Master) (c : FaultClass) (j : Subject) (x d : Nat) (b : Bool) : (s.fault r c j x d b).loader = s.loader := by unfold State.fault; dsimp only; split; rfl; split; rfl; simp
@[simp] theorem State.fault_trust (r : Master) (c : FaultClass) (j : Subject) (x d : Nat) (b : Bool) : (s.fault r c j x d b).trust = s.trust := by unfold State.fault; dsimp only; split; rfl; split; rfl; simp
@[simp] theorem State.fault_err (r : Master) (c : FaultClass) (j : Subject) (x d : Nat) (b : Bool) : (s.fault r c j x d b).err = s.err := by unfold State.fault; dsimp only; split; rfl; split; rfl; simp
@[simp] theorem State.fault_husk (r : Master) (c : FaultClass) (j : Subject) (x d : Nat) (b : Bool) : (s.fault r c j x d b).husk = s.husk := by unfold State.fault; dsimp only; split; rfl; split; rfl; simp
@[simp] theorem State.fault_mon (r : Master) (c : FaultClass) (j : Subject) (x d : Nat) (b : Bool) : (s.fault r c j x d b).mon = s.mon := by unfold State.fault; dsimp only; split; rfl; split; rfl; simp
@[simp] theorem State.fault_clk (r : Master) (c : FaultClass) (j : Subject) (x d : Nat) (b : Bool) : (s.fault r c j x d b).clk = s.clk := by unfold State.fault; dsimp only; split; rfl; split; rfl; simp
@[simp] theorem State.fault_pads (r : Master) (c : FaultClass) (j : Subject) (x d : Nat) (b : Bool) : (s.fault r c j x d b).pads = s.pads := by unfold State.fault; dsimp only; split; rfl; split; rfl; simp
@[simp] theorem State.fault_tap (r : Master) (c : FaultClass) (j : Subject) (x d : Nat) (b : Bool) : (s.fault r c j x d b).tap = s.tap := by unfold State.fault; dsimp only; split; rfl; split; rfl; simp
@[simp] theorem State.fault_engine (r : Master) (c : FaultClass) (j : Subject) (x d : Nat) (b : Bool) (q : Nat) : (s.fault r c j x d b).engine q = s.engine q := by unfold State.engine; rw [State.fault_eng]
@[simp] theorem State.fault_holder (r : Master) (c : FaultClass) (j : Subject) (x d : Nat) (b : Bool) (q : Nat) : (s.fault r c j x d b).holder q = s.holder q := by unfold State.holder; rw [State.fault_claims]

/-! cueClear -/
@[simp] theorem State.cueClear_pending (u : CueUnit) (k : Nat) : (s.cueClear u k).pending = s.pending := by simp [State.cueClear]
@[simp] theorem State.cueClear_response (u : CueUnit) (k : Nat) : (s.cueClear u k).response = s.response := by simp [State.cueClear]
@[simp] theorem State.cueClear_freeCount (u : CueUnit) (k : Nat) : (s.cueClear u k).freeCount = s.freeCount := by simp [State.cueClear]
@[simp] theorem State.cueClear_faults (u : CueUnit) (k : Nat) : (s.cueClear u k).faults = s.faults := by simp [State.cueClear]
@[simp] theorem State.cueClear_faultLost (u : CueUnit) (k : Nat) : (s.cueClear u k).faultLost = s.faultLost := by simp [State.cueClear]
@[simp] theorem State.cueClear_claims (u : CueUnit) (k : Nat) : (s.cueClear u k).claims = s.claims := by simp [State.cueClear]
@[simp] theorem State.cueClear_dev (u : CueUnit) (k : Nat) : (s.cueClear u k).dev = s.dev := by simp [State.cueClear]
@[simp] theorem State.cueClear_tim (u : CueUnit) (k : Nat) : (s.cueClear u k).tim = s.tim := by simp [State.cueClear]
@[simp] theorem State.cueClear_txu (u : CueUnit) (k : Nat) : (s.cueClear u k).txu = s.txu := by simp [State.cueClear]
@[simp] theorem State.cueClear_cfg (u : CueUnit) (k : Nat) : (s.cueClear u k).cfg = s.cfg := by simp [State.cueClear]
@[simp] theorem State.cueClear_fabric (u : CueUnit) (k : Nat) : (s.cueClear u k).fabric = s.fabric := by simp [State.cueClear]
@[simp] theorem State.cueClear_mbx (u : CueUnit) (k : Nat) : (s.cueClear u k).mbx = s.mbx := by simp [State.cueClear]
@[simp] theorem State.cueClear_spm (u : CueUnit) (k : Nat) : (s.cueClear u k).spm = s.spm := by simp [State.cueClear]
@[simp] theorem State.cueClear_noc (u : CueUnit) (k : Nat) : (s.cueClear u k).noc = s.noc := by simp [State.cueClear]
@[simp] theorem State.cueClear_msix (u : CueUnit) (k : Nat) : (s.cueClear u k).msix = s.msix := by simp [State.cueClear]
@[simp] theorem State.cueClear_waits (u : CueUnit) (k : Nat) : (s.cueClear u k).waits = s.waits := by simp [State.cueClear]
@[simp] theorem State.cueClear_eng (u : CueUnit) (k : Nat) : (s.cueClear u k).eng = s.eng := by simp [State.cueClear]
@[simp] theorem State.cueClear_spares (u : CueUnit) (k : Nat) : (s.cueClear u k).spares = s.spares := by simp [State.cueClear]
@[simp] theorem State.cueClear_laps (u : CueUnit) (k : Nat) : (s.cueClear u k).laps = s.laps := by simp [State.cueClear]
@[simp] theorem State.cueClear_dram (u : CueUnit) (k : Nat) : (s.cueClear u k).dram = s.dram := by simp [State.cueClear]
@[simp] theorem State.cueClear_qe (u : CueUnit) (k : Nat) : (s.cueClear u k).qe = s.qe := by simp [State.cueClear]
@[simp] theorem State.cueClear_cvl (u : CueUnit) (k : Nat) : (s.cueClear u k).cvl = s.cvl := by simp [State.cueClear]
@[simp] theorem State.cueClear_ntl (u : CueUnit) (k : Nat) : (s.cueClear u k).ntl = s.ntl := by simp [State.cueClear]
@[simp] theorem State.cueClear_fuses (u : CueUnit) (k : Nat) : (s.cueClear u k).fuses = s.fuses := by simp [State.cueClear]
@[simp] theorem State.cueClear_flash (u : CueUnit) (k : Nat) : (s.cueClear u k).flash = s.flash := by simp [State.cueClear]
@[simp] theorem State.cueClear_loader (u : CueUnit) (k : Nat) : (s.cueClear u k).loader = s.loader := by simp [State.cueClear]
@[simp] theorem State.cueClear_trust (u : CueUnit) (k : Nat) : (s.cueClear u k).trust = s.trust := by simp [State.cueClear]
@[simp] theorem State.cueClear_err (u : CueUnit) (k : Nat) : (s.cueClear u k).err = s.err := by simp [State.cueClear]
@[simp] theorem State.cueClear_husk (u : CueUnit) (k : Nat) : (s.cueClear u k).husk = s.husk := by simp [State.cueClear]
@[simp] theorem State.cueClear_mon (u : CueUnit) (k : Nat) : (s.cueClear u k).mon = s.mon := by simp [State.cueClear]
@[simp] theorem State.cueClear_clk (u : CueUnit) (k : Nat) : (s.cueClear u k).clk = s.clk := by simp [State.cueClear]
@[simp] theorem State.cueClear_pads (u : CueUnit) (k : Nat) : (s.cueClear u k).pads = s.pads := by simp [State.cueClear]
@[simp] theorem State.cueClear_tap (u : CueUnit) (k : Nat) : (s.cueClear u k).tap = s.tap := by simp [State.cueClear]
@[simp] theorem State.cueClear_engine (u : CueUnit) (k : Nat) (q : Nat) : (s.cueClear u k).engine q = s.engine q := by unfold State.engine; rw [State.cueClear_eng]
@[simp] theorem State.cueClear_holder (u : CueUnit) (k : Nat) (q : Nat) : (s.cueClear u k).holder q = s.holder q := by unfold State.holder; rw [State.cueClear_claims]

/-! cueHold -/
@[simp] theorem State.cueHold_pending (u : CueUnit) (k : Nat) (t : Word) (f : Nat) (p : Bool) (a : CueAction) : (s.cueHold u k t f p a).pending = s.pending := by simp [State.cueHold]
@[simp] theorem State.cueHold_response (u : CueUnit) (k : Nat) (t : Word) (f : Nat) (p : Bool) (a : CueAction) : (s.cueHold u k t f p a).response = s.response := by simp [State.cueHold]
@[simp] theorem State.cueHold_freeCount (u : CueUnit) (k : Nat) (t : Word) (f : Nat) (p : Bool) (a : CueAction) : (s.cueHold u k t f p a).freeCount = s.freeCount := by simp [State.cueHold]
@[simp] theorem State.cueHold_faults (u : CueUnit) (k : Nat) (t : Word) (f : Nat) (p : Bool) (a : CueAction) : (s.cueHold u k t f p a).faults = s.faults := by simp [State.cueHold]
@[simp] theorem State.cueHold_faultLost (u : CueUnit) (k : Nat) (t : Word) (f : Nat) (p : Bool) (a : CueAction) : (s.cueHold u k t f p a).faultLost = s.faultLost := by simp [State.cueHold]
@[simp] theorem State.cueHold_claims (u : CueUnit) (k : Nat) (t : Word) (f : Nat) (p : Bool) (a : CueAction) : (s.cueHold u k t f p a).claims = s.claims := by simp [State.cueHold]
@[simp] theorem State.cueHold_dev (u : CueUnit) (k : Nat) (t : Word) (f : Nat) (p : Bool) (a : CueAction) : (s.cueHold u k t f p a).dev = s.dev := by simp [State.cueHold]
@[simp] theorem State.cueHold_tim (u : CueUnit) (k : Nat) (t : Word) (f : Nat) (p : Bool) (a : CueAction) : (s.cueHold u k t f p a).tim = s.tim := by simp [State.cueHold]
@[simp] theorem State.cueHold_txu (u : CueUnit) (k : Nat) (t : Word) (f : Nat) (p : Bool) (a : CueAction) : (s.cueHold u k t f p a).txu = s.txu := by simp [State.cueHold]
@[simp] theorem State.cueHold_cfg (u : CueUnit) (k : Nat) (t : Word) (f : Nat) (p : Bool) (a : CueAction) : (s.cueHold u k t f p a).cfg = s.cfg := by simp [State.cueHold]
@[simp] theorem State.cueHold_fabric (u : CueUnit) (k : Nat) (t : Word) (f : Nat) (p : Bool) (a : CueAction) : (s.cueHold u k t f p a).fabric = s.fabric := by simp [State.cueHold]
@[simp] theorem State.cueHold_mbx (u : CueUnit) (k : Nat) (t : Word) (f : Nat) (p : Bool) (a : CueAction) : (s.cueHold u k t f p a).mbx = s.mbx := by simp [State.cueHold]
@[simp] theorem State.cueHold_spm (u : CueUnit) (k : Nat) (t : Word) (f : Nat) (p : Bool) (a : CueAction) : (s.cueHold u k t f p a).spm = s.spm := by simp [State.cueHold]
@[simp] theorem State.cueHold_noc (u : CueUnit) (k : Nat) (t : Word) (f : Nat) (p : Bool) (a : CueAction) : (s.cueHold u k t f p a).noc = s.noc := by simp [State.cueHold]
@[simp] theorem State.cueHold_msix (u : CueUnit) (k : Nat) (t : Word) (f : Nat) (p : Bool) (a : CueAction) : (s.cueHold u k t f p a).msix = s.msix := by simp [State.cueHold]
@[simp] theorem State.cueHold_waits (u : CueUnit) (k : Nat) (t : Word) (f : Nat) (p : Bool) (a : CueAction) : (s.cueHold u k t f p a).waits = s.waits := by simp [State.cueHold]
@[simp] theorem State.cueHold_eng (u : CueUnit) (k : Nat) (t : Word) (f : Nat) (p : Bool) (a : CueAction) : (s.cueHold u k t f p a).eng = s.eng := by simp [State.cueHold]
@[simp] theorem State.cueHold_spares (u : CueUnit) (k : Nat) (t : Word) (f : Nat) (p : Bool) (a : CueAction) : (s.cueHold u k t f p a).spares = s.spares := by simp [State.cueHold]
@[simp] theorem State.cueHold_laps (u : CueUnit) (k : Nat) (t : Word) (f : Nat) (p : Bool) (a : CueAction) : (s.cueHold u k t f p a).laps = s.laps := by simp [State.cueHold]
@[simp] theorem State.cueHold_dram (u : CueUnit) (k : Nat) (t : Word) (f : Nat) (p : Bool) (a : CueAction) : (s.cueHold u k t f p a).dram = s.dram := by simp [State.cueHold]
@[simp] theorem State.cueHold_qe (u : CueUnit) (k : Nat) (t : Word) (f : Nat) (p : Bool) (a : CueAction) : (s.cueHold u k t f p a).qe = s.qe := by simp [State.cueHold]
@[simp] theorem State.cueHold_cvl (u : CueUnit) (k : Nat) (t : Word) (f : Nat) (p : Bool) (a : CueAction) : (s.cueHold u k t f p a).cvl = s.cvl := by simp [State.cueHold]
@[simp] theorem State.cueHold_ntl (u : CueUnit) (k : Nat) (t : Word) (f : Nat) (p : Bool) (a : CueAction) : (s.cueHold u k t f p a).ntl = s.ntl := by simp [State.cueHold]
@[simp] theorem State.cueHold_fuses (u : CueUnit) (k : Nat) (t : Word) (f : Nat) (p : Bool) (a : CueAction) : (s.cueHold u k t f p a).fuses = s.fuses := by simp [State.cueHold]
@[simp] theorem State.cueHold_flash (u : CueUnit) (k : Nat) (t : Word) (f : Nat) (p : Bool) (a : CueAction) : (s.cueHold u k t f p a).flash = s.flash := by simp [State.cueHold]
@[simp] theorem State.cueHold_loader (u : CueUnit) (k : Nat) (t : Word) (f : Nat) (p : Bool) (a : CueAction) : (s.cueHold u k t f p a).loader = s.loader := by simp [State.cueHold]
@[simp] theorem State.cueHold_trust (u : CueUnit) (k : Nat) (t : Word) (f : Nat) (p : Bool) (a : CueAction) : (s.cueHold u k t f p a).trust = s.trust := by simp [State.cueHold]
@[simp] theorem State.cueHold_err (u : CueUnit) (k : Nat) (t : Word) (f : Nat) (p : Bool) (a : CueAction) : (s.cueHold u k t f p a).err = s.err := by simp [State.cueHold]
@[simp] theorem State.cueHold_husk (u : CueUnit) (k : Nat) (t : Word) (f : Nat) (p : Bool) (a : CueAction) : (s.cueHold u k t f p a).husk = s.husk := by simp [State.cueHold]
@[simp] theorem State.cueHold_mon (u : CueUnit) (k : Nat) (t : Word) (f : Nat) (p : Bool) (a : CueAction) : (s.cueHold u k t f p a).mon = s.mon := by simp [State.cueHold]
@[simp] theorem State.cueHold_clk (u : CueUnit) (k : Nat) (t : Word) (f : Nat) (p : Bool) (a : CueAction) : (s.cueHold u k t f p a).clk = s.clk := by simp [State.cueHold]
@[simp] theorem State.cueHold_pads (u : CueUnit) (k : Nat) (t : Word) (f : Nat) (p : Bool) (a : CueAction) : (s.cueHold u k t f p a).pads = s.pads := by simp [State.cueHold]
@[simp] theorem State.cueHold_tap (u : CueUnit) (k : Nat) (t : Word) (f : Nat) (p : Bool) (a : CueAction) : (s.cueHold u k t f p a).tap = s.tap := by simp [State.cueHold]
@[simp] theorem State.cueHold_engine (u : CueUnit) (k : Nat) (t : Word) (f : Nat) (p : Bool) (a : CueAction) (q : Nat) : (s.cueHold u k t f p a).engine q = s.engine q := by unfold State.engine; rw [State.cueHold_eng]
@[simp] theorem State.cueHold_holder (u : CueUnit) (k : Nat) (t : Word) (f : Nat) (p : Bool) (a : CueAction) (q : Nat) : (s.cueHold u k t f p a).holder q = s.holder q := by unfold State.holder; rw [State.cueHold_claims]

/-! transition -/
@[simp] theorem State.transition_pending (g m x : Nat) : (s.transition g m x).pending = s.pending := by simp [State.transition]
@[simp] theorem State.transition_response (g m x : Nat) : (s.transition g m x).response = s.response := by simp [State.transition]
@[simp] theorem State.transition_freeCount (g m x : Nat) : (s.transition g m x).freeCount = s.freeCount := by simp [State.transition]
@[simp] theorem State.transition_faults (g m x : Nat) : (s.transition g m x).faults = s.faults := by simp [State.transition]
@[simp] theorem State.transition_faultLost (g m x : Nat) : (s.transition g m x).faultLost = s.faultLost := by simp [State.transition]
@[simp] theorem State.transition_claims (g m x : Nat) : (s.transition g m x).claims = s.claims := by simp [State.transition]
@[simp] theorem State.transition_cues (g m x : Nat) : (s.transition g m x).cues = s.cues := by simp [State.transition]
@[simp] theorem State.transition_dev (g m x : Nat) : (s.transition g m x).dev = s.dev := by simp [State.transition]
@[simp] theorem State.transition_tim (g m x : Nat) : (s.transition g m x).tim = s.tim := by simp [State.transition]
@[simp] theorem State.transition_txu (g m x : Nat) : (s.transition g m x).txu = s.txu := by simp [State.transition]
@[simp] theorem State.transition_cfg (g m x : Nat) : (s.transition g m x).cfg = s.cfg := by simp [State.transition]
@[simp] theorem State.transition_fabric (g m x : Nat) : (s.transition g m x).fabric = s.fabric := by simp [State.transition]
@[simp] theorem State.transition_mbx (g m x : Nat) : (s.transition g m x).mbx = s.mbx := by simp [State.transition]
@[simp] theorem State.transition_spm (g m x : Nat) : (s.transition g m x).spm = s.spm := by simp [State.transition]
@[simp] theorem State.transition_noc (g m x : Nat) : (s.transition g m x).noc = s.noc := by simp [State.transition]
@[simp] theorem State.transition_waits (g m x : Nat) : (s.transition g m x).waits = s.waits := by simp [State.transition]
@[simp] theorem State.transition_eng (g m x : Nat) : (s.transition g m x).eng = s.eng := by simp [State.transition]
@[simp] theorem State.transition_spares (g m x : Nat) : (s.transition g m x).spares = s.spares := by simp [State.transition]
@[simp] theorem State.transition_laps (g m x : Nat) : (s.transition g m x).laps = s.laps := by simp [State.transition]
@[simp] theorem State.transition_dram (g m x : Nat) : (s.transition g m x).dram = s.dram := by simp [State.transition]
@[simp] theorem State.transition_qe (g m x : Nat) : (s.transition g m x).qe = s.qe := by simp [State.transition]
@[simp] theorem State.transition_cvl (g m x : Nat) : (s.transition g m x).cvl = s.cvl := by simp [State.transition]
@[simp] theorem State.transition_ntl (g m x : Nat) : (s.transition g m x).ntl = s.ntl := by simp [State.transition]
@[simp] theorem State.transition_fuses (g m x : Nat) : (s.transition g m x).fuses = s.fuses := by simp [State.transition]
@[simp] theorem State.transition_flash (g m x : Nat) : (s.transition g m x).flash = s.flash := by simp [State.transition]
@[simp] theorem State.transition_loader (g m x : Nat) : (s.transition g m x).loader = s.loader := by simp [State.transition]
@[simp] theorem State.transition_trust (g m x : Nat) : (s.transition g m x).trust = s.trust := by simp [State.transition]
@[simp] theorem State.transition_err (g m x : Nat) : (s.transition g m x).err = s.err := by simp [State.transition]
@[simp] theorem State.transition_husk (g m x : Nat) : (s.transition g m x).husk = s.husk := by simp [State.transition]
@[simp] theorem State.transition_mon (g m x : Nat) : (s.transition g m x).mon = s.mon := by simp [State.transition]
@[simp] theorem State.transition_clk (g m x : Nat) : (s.transition g m x).clk = s.clk := by simp [State.transition]
@[simp] theorem State.transition_pads (g m x : Nat) : (s.transition g m x).pads = s.pads := by simp [State.transition]
@[simp] theorem State.transition_tap (g m x : Nat) : (s.transition g m x).tap = s.tap := by simp [State.transition]
@[simp] theorem State.transition_engine (g m x : Nat) (q : Nat) : (s.transition g m x).engine q = s.engine q := by unfold State.engine; rw [State.transition_eng]
@[simp] theorem State.transition_holder (g m x : Nat) (q : Nat) : (s.transition g m x).holder q = s.holder q := by unfold State.holder; rw [State.transition_claims]

/-! writePair -/
@[simp] theorem State.writePair_pending (m : Master) (lo hi : Nat) (w : Word) : (s.writePair m lo hi w).pending = s.pending := by unfold State.writePair; dsimp only; split <;> simp
@[simp] theorem State.writePair_response (m : Master) (lo hi : Nat) (w : Word) : (s.writePair m lo hi w).response = s.response := by unfold State.writePair; dsimp only; split <;> simp
@[simp] theorem State.writePair_freeCount (m : Master) (lo hi : Nat) (w : Word) : (s.writePair m lo hi w).freeCount = s.freeCount := by unfold State.writePair; dsimp only; split <;> simp
@[simp] theorem State.writePair_faults (m : Master) (lo hi : Nat) (w : Word) : (s.writePair m lo hi w).faults = s.faults := by unfold State.writePair; dsimp only; split <;> simp
@[simp] theorem State.writePair_faultLost (m : Master) (lo hi : Nat) (w : Word) : (s.writePair m lo hi w).faultLost = s.faultLost := by unfold State.writePair; dsimp only; split <;> simp
@[simp] theorem State.writePair_claims (m : Master) (lo hi : Nat) (w : Word) : (s.writePair m lo hi w).claims = s.claims := by unfold State.writePair; dsimp only; split <;> simp
@[simp] theorem State.writePair_cues (m : Master) (lo hi : Nat) (w : Word) : (s.writePair m lo hi w).cues = s.cues := by unfold State.writePair; dsimp only; split <;> simp
@[simp] theorem State.writePair_dev (m : Master) (lo hi : Nat) (w : Word) : (s.writePair m lo hi w).dev = s.dev := by unfold State.writePair; dsimp only; split <;> simp
@[simp] theorem State.writePair_tim (m : Master) (lo hi : Nat) (w : Word) : (s.writePair m lo hi w).tim = s.tim := by unfold State.writePair; dsimp only; split <;> simp
@[simp] theorem State.writePair_txu (m : Master) (lo hi : Nat) (w : Word) : (s.writePair m lo hi w).txu = s.txu := by unfold State.writePair; dsimp only; split <;> simp
@[simp] theorem State.writePair_cfg (m : Master) (lo hi : Nat) (w : Word) : (s.writePair m lo hi w).cfg = s.cfg := by unfold State.writePair; dsimp only; split <;> simp
@[simp] theorem State.writePair_fabric (m : Master) (lo hi : Nat) (w : Word) : (s.writePair m lo hi w).fabric = s.fabric := by unfold State.writePair; dsimp only; split <;> simp
@[simp] theorem State.writePair_mbx (m : Master) (lo hi : Nat) (w : Word) : (s.writePair m lo hi w).mbx = s.mbx := by unfold State.writePair; dsimp only; split <;> simp
@[simp] theorem State.writePair_spm (m : Master) (lo hi : Nat) (w : Word) : (s.writePair m lo hi w).spm = s.spm := by unfold State.writePair; dsimp only; split <;> simp
@[simp] theorem State.writePair_noc (m : Master) (lo hi : Nat) (w : Word) : (s.writePair m lo hi w).noc = s.noc := by unfold State.writePair; dsimp only; split <;> simp
@[simp] theorem State.writePair_msix (m : Master) (lo hi : Nat) (w : Word) : (s.writePair m lo hi w).msix = s.msix := by unfold State.writePair; dsimp only; split <;> simp
@[simp] theorem State.writePair_waits (m : Master) (lo hi : Nat) (w : Word) : (s.writePair m lo hi w).waits = s.waits := by unfold State.writePair; dsimp only; split <;> simp
@[simp] theorem State.writePair_eng (m : Master) (lo hi : Nat) (w : Word) : (s.writePair m lo hi w).eng = s.eng := by unfold State.writePair; dsimp only; split <;> simp
@[simp] theorem State.writePair_spares (m : Master) (lo hi : Nat) (w : Word) : (s.writePair m lo hi w).spares = s.spares := by unfold State.writePair; dsimp only; split <;> simp
@[simp] theorem State.writePair_laps (m : Master) (lo hi : Nat) (w : Word) : (s.writePair m lo hi w).laps = s.laps := by unfold State.writePair; dsimp only; split <;> simp
@[simp] theorem State.writePair_dram (m : Master) (lo hi : Nat) (w : Word) : (s.writePair m lo hi w).dram = s.dram := by unfold State.writePair; dsimp only; split <;> simp
@[simp] theorem State.writePair_qe (m : Master) (lo hi : Nat) (w : Word) : (s.writePair m lo hi w).qe = s.qe := by unfold State.writePair; dsimp only; split <;> simp
@[simp] theorem State.writePair_cvl (m : Master) (lo hi : Nat) (w : Word) : (s.writePair m lo hi w).cvl = s.cvl := by unfold State.writePair; dsimp only; split <;> simp
@[simp] theorem State.writePair_ntl (m : Master) (lo hi : Nat) (w : Word) : (s.writePair m lo hi w).ntl = s.ntl := by unfold State.writePair; dsimp only; split <;> simp
@[simp] theorem State.writePair_fuses (m : Master) (lo hi : Nat) (w : Word) : (s.writePair m lo hi w).fuses = s.fuses := by unfold State.writePair; dsimp only; split <;> simp
@[simp] theorem State.writePair_flash (m : Master) (lo hi : Nat) (w : Word) : (s.writePair m lo hi w).flash = s.flash := by unfold State.writePair; dsimp only; split <;> simp
@[simp] theorem State.writePair_loader (m : Master) (lo hi : Nat) (w : Word) : (s.writePair m lo hi w).loader = s.loader := by unfold State.writePair; dsimp only; split <;> simp
@[simp] theorem State.writePair_trust (m : Master) (lo hi : Nat) (w : Word) : (s.writePair m lo hi w).trust = s.trust := by unfold State.writePair; dsimp only; split <;> simp
@[simp] theorem State.writePair_err (m : Master) (lo hi : Nat) (w : Word) : (s.writePair m lo hi w).err = s.err := by unfold State.writePair; dsimp only; split <;> simp
@[simp] theorem State.writePair_husk (m : Master) (lo hi : Nat) (w : Word) : (s.writePair m lo hi w).husk = s.husk := by unfold State.writePair; dsimp only; split <;> simp
@[simp] theorem State.writePair_mon (m : Master) (lo hi : Nat) (w : Word) : (s.writePair m lo hi w).mon = s.mon := by unfold State.writePair; dsimp only; split <;> simp
@[simp] theorem State.writePair_clk (m : Master) (lo hi : Nat) (w : Word) : (s.writePair m lo hi w).clk = s.clk := by unfold State.writePair; dsimp only; split <;> simp
@[simp] theorem State.writePair_pads (m : Master) (lo hi : Nat) (w : Word) : (s.writePair m lo hi w).pads = s.pads := by unfold State.writePair; dsimp only; split <;> simp
@[simp] theorem State.writePair_tap (m : Master) (lo hi : Nat) (w : Word) : (s.writePair m lo hi w).tap = s.tap := by unfold State.writePair; dsimp only; split <;> simp
@[simp] theorem State.writePair_engine (m : Master) (lo hi : Nat) (w : Word) (q : Nat) : (s.writePair m lo hi w).engine q = s.engine q := by unfold State.engine; rw [State.writePair_eng]
@[simp] theorem State.writePair_holder (m : Master) (lo hi : Nat) (w : Word) (q : Nat) : (s.writePair m lo hi w).holder q = s.holder q := by unfold State.holder; rw [State.writePair_claims]

/-! raiseEvent -/
@[simp] theorem State.raiseEvent_pending (n f : Nat) : (s.raiseEvent n f).pending = s.pending := by simp [State.raiseEvent]
@[simp] theorem State.raiseEvent_response (n f : Nat) : (s.raiseEvent n f).response = s.response := by simp [State.raiseEvent]
@[simp] theorem State.raiseEvent_freeCount (n f : Nat) : (s.raiseEvent n f).freeCount = s.freeCount := by simp [State.raiseEvent]
@[simp] theorem State.raiseEvent_faults (n f : Nat) : (s.raiseEvent n f).faults = s.faults := by simp [State.raiseEvent]
@[simp] theorem State.raiseEvent_faultLost (n f : Nat) : (s.raiseEvent n f).faultLost = s.faultLost := by simp [State.raiseEvent]
@[simp] theorem State.raiseEvent_claims (n f : Nat) : (s.raiseEvent n f).claims = s.claims := by simp [State.raiseEvent]
@[simp] theorem State.raiseEvent_cues (n f : Nat) : (s.raiseEvent n f).cues = s.cues := by simp [State.raiseEvent]
@[simp] theorem State.raiseEvent_dev (n f : Nat) : (s.raiseEvent n f).dev = s.dev := by simp [State.raiseEvent]
@[simp] theorem State.raiseEvent_tim (n f : Nat) : (s.raiseEvent n f).tim = s.tim := by simp [State.raiseEvent]
@[simp] theorem State.raiseEvent_txu (n f : Nat) : (s.raiseEvent n f).txu = s.txu := by simp [State.raiseEvent]
@[simp] theorem State.raiseEvent_cfg (n f : Nat) : (s.raiseEvent n f).cfg = s.cfg := by simp [State.raiseEvent]
@[simp] theorem State.raiseEvent_fabric (n f : Nat) : (s.raiseEvent n f).fabric = s.fabric := by simp [State.raiseEvent]
@[simp] theorem State.raiseEvent_mbx (n f : Nat) : (s.raiseEvent n f).mbx = s.mbx := by simp [State.raiseEvent]
@[simp] theorem State.raiseEvent_spm (n f : Nat) : (s.raiseEvent n f).spm = s.spm := by simp [State.raiseEvent]
@[simp] theorem State.raiseEvent_noc (n f : Nat) : (s.raiseEvent n f).noc = s.noc := by simp [State.raiseEvent]
@[simp] theorem State.raiseEvent_msix (n f : Nat) : (s.raiseEvent n f).msix = s.msix := by simp [State.raiseEvent]
@[simp] theorem State.raiseEvent_waits (n f : Nat) : (s.raiseEvent n f).waits = s.waits := by simp [State.raiseEvent]
@[simp] theorem State.raiseEvent_eng (n f : Nat) : (s.raiseEvent n f).eng = s.eng := by simp [State.raiseEvent]
@[simp] theorem State.raiseEvent_spares (n f : Nat) : (s.raiseEvent n f).spares = s.spares := by simp [State.raiseEvent]
@[simp] theorem State.raiseEvent_laps (n f : Nat) : (s.raiseEvent n f).laps = s.laps := by simp [State.raiseEvent]
@[simp] theorem State.raiseEvent_dram (n f : Nat) : (s.raiseEvent n f).dram = s.dram := by simp [State.raiseEvent]
@[simp] theorem State.raiseEvent_qe (n f : Nat) : (s.raiseEvent n f).qe = s.qe := by simp [State.raiseEvent]
@[simp] theorem State.raiseEvent_cvl (n f : Nat) : (s.raiseEvent n f).cvl = s.cvl := by simp [State.raiseEvent]
@[simp] theorem State.raiseEvent_ntl (n f : Nat) : (s.raiseEvent n f).ntl = s.ntl := by simp [State.raiseEvent]
@[simp] theorem State.raiseEvent_fuses (n f : Nat) : (s.raiseEvent n f).fuses = s.fuses := by simp [State.raiseEvent]
@[simp] theorem State.raiseEvent_flash (n f : Nat) : (s.raiseEvent n f).flash = s.flash := by simp [State.raiseEvent]
@[simp] theorem State.raiseEvent_loader (n f : Nat) : (s.raiseEvent n f).loader = s.loader := by simp [State.raiseEvent]
@[simp] theorem State.raiseEvent_trust (n f : Nat) : (s.raiseEvent n f).trust = s.trust := by simp [State.raiseEvent]
@[simp] theorem State.raiseEvent_err (n f : Nat) : (s.raiseEvent n f).err = s.err := by simp [State.raiseEvent]
@[simp] theorem State.raiseEvent_husk (n f : Nat) : (s.raiseEvent n f).husk = s.husk := by simp [State.raiseEvent]
@[simp] theorem State.raiseEvent_mon (n f : Nat) : (s.raiseEvent n f).mon = s.mon := by simp [State.raiseEvent]
@[simp] theorem State.raiseEvent_clk (n f : Nat) : (s.raiseEvent n f).clk = s.clk := by simp [State.raiseEvent]
@[simp] theorem State.raiseEvent_pads (n f : Nat) : (s.raiseEvent n f).pads = s.pads := by simp [State.raiseEvent]
@[simp] theorem State.raiseEvent_tap (n f : Nat) : (s.raiseEvent n f).tap = s.tap := by simp [State.raiseEvent]
@[simp] theorem State.raiseEvent_engine (n f : Nat) (q : Nat) : (s.raiseEvent n f).engine q = s.engine q := by unfold State.engine; rw [State.raiseEvent_eng]
@[simp] theorem State.raiseEvent_holder (n f : Nat) (q : Nat) : (s.raiseEvent n f).holder q = s.holder q := by unfold State.holder; rw [State.raiseEvent_claims]

/-! ## What they write -/

theorem State.bit_setBit_same (f : Field) (b : Bool) (h : f.lo + f.width ≤ 32) (hw : f.width = 1) :
    (s.setBit f b).bit f = b := by
  unfold State.bit State.setBit
  rw [State.fld_setFld_same _ _ _ h, hw]
  cases b <;> rfl

theorem State.fld_setBit_disjoint (f k : Field) (b : Bool) (hk : k.lo + k.width ≤ 32)
    (h : k.off ≠ f.off ∨ k.lo + k.width ≤ f.lo ∨ f.lo + f.width ≤ k.lo) : (s.setBit f b).fld k = s.fld k :=
  State.fld_setFld_disjoint s f k _ hk h

theorem State.bit_setBit_disjoint (f k : Field) (b : Bool) (hk : k.lo + k.width ≤ 32)
    (h : k.off ≠ f.off ∨ k.lo + k.width ≤ f.lo ∨ f.lo + f.width ≤ k.lo) : (s.setBit f b).bit k = s.bit k := by
  unfold State.bit; rw [State.fld_setBit_disjoint s f k b hk h]

theorem State.bit_setFld_disjoint (f k : Field) (v : Nat) (hk : k.lo + k.width ≤ 32)
    (h : k.off ≠ f.off ∨ k.lo + k.width ≤ f.lo ∨ f.lo + f.width ≤ k.lo) : (s.setFld f v).bit k = s.bit k := by
  unfold State.bit; rw [State.fld_setFld_disjoint s f k v hk h]

theorem State.reg_setBit_ne {f : Field} {k : Nat} (b : Bool) (h : k ≠ f.off) : (s.setBit f b).reg k = s.reg k :=
  State.reg_setFld_ne s _ h

/-- A fault record touches no register but the count of lost records. -/
theorem State.fault_reg_ne (r : Master) (c : FaultClass) (j : Subject) (x d : Nat) (b : Bool) {k : Nat}
    (h : k ≠ F.ERR_LOST_lost.off) : (s.fault r c j x d b).reg k = s.reg k := by
  have h2 : k ≠ F.ERR_LOST_overflow.off := h
  unfold State.fault
  dsimp only
  split
  · rfl
  · split
    · rfl
    · show (s.satFld F.ERR_LOST_lost F.ERR_LOST_overflow 1).reg k = _
      unfold State.satFld
      split
      · exact State.reg_setFld_ne s _ h
      · rw [State.reg_setFld_ne _ _ h2, State.reg_setFld_ne _ _ h]

theorem State.fault_fld_ne (r : Master) (c : FaultClass) (j : Subject) (x d : Nat) (b : Bool) (q : Field)
    (h : q.off ≠ F.ERR_LOST_lost.off) : (s.fault r c j x d b).fld q = s.fld q := by
  unfold State.fld; rw [State.fault_reg_ne s r c j x d b h]

theorem State.fault_bit_ne (r : Master) (c : FaultClass) (j : Subject) (x d : Nat) (b : Bool) (q : Field)
    (h : q.off ≠ F.ERR_LOST_lost.off) : (s.fault r c j x d b).bit q = s.bit q := by
  unfold State.bit; rw [State.fault_fld_ne s r c j x d b q h]

/-- A mode transition records the mode, the mode before, the trigger and the instant (R27). -/
theorem State.transition_mode (g m x : Nat) (hm : m < 16) : (s.transition g m x).mode = m := by
  unfold State.transition State.mode
  simp (disch := decide) only [State.sendMsix_fld, State.fld_setReg_ne, State.fld_setFld_disjoint, State.fld_setFld_same]
  exact Nat.mod_eq_of_lt hm

theorem State.transition_prev (g m x : Nat) : (s.transition g m x).fld F.DEV_MODE_prev_mode = s.mode := by
  unfold State.transition State.mode
  simp (disch := decide) only [State.sendMsix_fld, State.fld_setReg_ne, State.fld_setFld_disjoint, State.fld_setFld_same]
  exact Nat.mod_eq_of_lt (Nat.mod_lt _ (by decide))

theorem State.transition_trigger (g m x : Nat) (hg : g < 256) :
    (s.transition g m x).fld F.DEV_MODE_CAUSE_trigger = g := by
  unfold State.transition
  simp (disch := decide) only [State.sendMsix_fld, State.fld_setReg_ne, State.fld_setFld_disjoint, State.fld_setFld_same]
  exact Nat.mod_eq_of_lt hg

theorem State.fld_setFld_ne (f q : Field) (v : Nat) (h : q.off ≠ f.off) : (s.setFld f v).fld q = s.fld q := by
  unfold State.fld; rw [State.reg_setFld_ne s v h]

theorem State.transition_fld_ne (g m x : Nat) (q : Field) (h1 : q.off ≠ R.DEV_MODE) (h2 : q.off ≠ R.DEV_MODE_CAUSE)
    (h3 : q.off ≠ R.DEV_MODE_TIME) : (s.transition g m x).fld q = s.fld q := by
  unfold State.transition State.incFld
  dsimp only
  rw [State.sendMsix_fld, State.fld_setReg_ne _ _ h3, State.fld_setFld_ne _ _ _ _ h2, State.fld_setFld_ne _ _ _ _ h2,
    State.fld_setFld_ne _ _ _ _ h1, State.fld_setFld_ne _ _ _ _ h1, State.fld_setFld_ne _ _ _ _ h1]

/-- A cue that is held: its time, its action, and the armed bit (R290). -/
theorem State.cueHold_action (u : CueUnit) (k : Nat) (t : Word) (f : Nat) (p : Bool) (a : CueAction) :
    (s.cueHold u k t f p a).cueAction u k = a := by
  simp [State.cueHold, State.cueAction]

theorem State.reg_cues (c : Table CueAction) (k : Nat) : ({ s with cues := c } : State).reg k = s.reg k := by
  rw [State.reg, State.reg]

theorem State.bit_cues (c : Table CueAction) (f : Field) : ({ s with cues := c } : State).bit f = s.bit f := by
  unfold State.bit State.fld; rw [State.reg_cues]

theorem State.cueHold_armed (u : CueUnit) (k : Nat) (t : Word) (f : Nat) (p : Bool) (a : CueAction) :
    (s.cueHold u k t f p a).cueArmed u k = true := by
  unfold State.cueHold State.cueArmed
  dsimp only
  rw [State.bit_cues, State.bit_setFld_disjoint _ (u.statusF k) (u.armedF k) _ (by simp [CueUnit.armedF])
    (.inr (.inl (by simp [CueUnit.armedF, CueUnit.statusF]))), State.bit_setBit_same _ _ _ (by simp [CueUnit.armedF]) rfl]

theorem State.cueHold_time (u : CueUnit) (k : Nat) (t : Word) (f : Nat) (p : Bool) (a : CueAction)
    (h : u.timeField k ≠ u.stateOff k) : (s.cueHold u k t f p a).reg (u.timeField k) = t := by
  unfold State.cueHold
  dsimp only
  rw [State.reg_cues, State.reg_setFld_ne _ _ h, State.reg_setBit_ne _ _ h, State.reg_setBit_ne _ _ h,
    State.reg_setFld_ne _ _ h, State.reg_setReg_same]

/-! ## A register table with only the bits of a mask kept -/

theorem keptWord_reset (mask : Nat → Word) (k : Nat) : keptWord mask k (resetWord k) = resetWord k := by
  unfold keptWord
  ext i hi
  simp only [BitVec.getElem_or, BitVec.getElem_and, BitVec.getElem_not]
  cases (resetWord k)[i] <;> cases (mask k)[i] <;> rfl

theorem get_keepWords (mask : Nat → Word) (t : Table Word) (k : Nat) :
    Table.get resetWord (keepWords mask t) k = keptWord mask k (Table.get resetWord t k) := by
  induction t with
  | nil => exact (keptWord_reset mask k).symm
  | cons e t ih =>
    simp only [keepWords, Table.get]
    by_cases h : e.1 = k
    · subst h; simp
    · rw [Table.get_set_ne _ _ _ (Ne.symm h), ih]; simp [h]


end Sys2Proof.Machine
end

