-- ==== Sys2Proof/Safety.lean ====
section
/-! DEFINITION. What the statements are written in: a command that completes, the registers a
command leaves alone, and the conditions under which a family's commands have their effect. -/

namespace Sys2Proof.Machine

/-- The command completes, and `P` holds of the state it leaves. -/
def Answers (c : Instr) (s : State) (P : State → Prop) : Prop := ∃ t, exec c s = .next t ∧ P t

/-- Every register outside the list reads as before. -/
def KeepsRegs (s t : State) (but : List Nat) : Prop := ∀ o, o ∉ but → t.reg o = s.reg o

/-- A mode change as R27 records it: the mode reported, the mode before it and the trigger. -/
def Entered (s t : State) (trigger mode : Nat) : Prop :=
  t.mode = mode ∧ t.fld F.DEV_MODE_prev_mode = s.mode ∧ t.fld F.DEV_MODE_CAUSE_trigger = trigger

/-! ## Engines -/

/-- Engine `n` can issue an instruction: it is not the odd member of a pair, it is RUNNING with PC in
range, no load of it is outstanding and no late error due, no LOCK bracket is open, and no breakpoint,
watchpoint or step of the monitor concerns it. -/
def Runs (s : State) (n : Nat) : Prop :=
  s.oddOfPair n = false ∧ s.engState n = EngState.running ∧ (s.engine n).far = none ∧
    (s.engine n).lateErrors = [] ∧ (s.engine n).lock = 0 ∧ (s.engine n).past = false ∧
    (s.engine n).pc.toNat < (if s.isWide n then 8191 else 4096) ∧
    (s.engine n).breaks = [] ∧ (s.engine (n + 1)).breaks = [] ∧ (s.engine n).passBreak = false ∧
    s.mon.stepping = none

/-- Engine `n` can issue an instruction, and no loop level of it is active. -/
def Ready (s : State) (n : Nat) : Prop := Runs s n ∧ (s.engine n).inner = none

/-- `t` is `u` but for engine `n`. -/
def SameBut (n : Nat) (u t : State) : Prop :=
  (∀ k, k ≠ n → t.engine k = u.engine k) ∧ { t with eng := u.eng } = u

/-- The instruction's effect is `u`, and engine `n` goes on at the next instruction: nothing else
of the device differs. -/
def Ran (n : Nat) (u t : State) : Prop :=
  t.engine n = { u.engine n with pc := (u.engine n).pc + 1 } ∧ SameBut n u t

/-- The instruction's effect is `u`, and engine `n` goes on at `pc`. -/
def Jumped (n : Nat) (u : State) (pc : BitVec 13) (t : State) : Prop :=
  t.engine n = { u.engine n with pc := pc, past := false } ∧ SameBut n u t

/-- The operands of an ALU instruction are legal and carry no poison in a lane it uses (R158, R161,
R175, R176). -/
def AluLegal (s : State) (n : Nat) (f : KR) (op : Alu) : Prop :=
  f.mod.toNat < 16 ∧ ¬ (f.mod.getLsbD 3 = true ∧ f.mod.toNat % 4 = 3) ∧ f.a.toNat < s.gLimit n ∧
    (op ≠ .cmp → f.d.toNat < s.gLimit n) ∧ (s.getG n f.a.toNat).laneClean (f.mod.toNat % 4) = true ∧
    (f.mod.getLsbD 2 = false → op.unary = false → f.b.toNat < s.gLimit n ∧
      (s.getG n f.b.toNat).laneClean (if op.isShift then 3 else f.mod.toNat % 4) = true)

/-- What an ALU instruction does to registers and flags: the word lane or the half lanes (R175). -/
def aluEffect (s : State) (n : Nat) (f : KR) (op : Alu) : State :=
  if f.mod.toNat % 4 = 3 then s.aluWord n f op else s.aluHalves n f op (f.mod.toNat % 4)

/-- The data word an operand spec of engine `n` addresses. -/
def State.opWord (s : State) (n : Nat) (x : BitVec 6) : GReg :=
  s.dword (ptrEng n (specPtr x)) (s.ptr n (specPtr x))

/-- The X and C operands of a format M instruction are in range (R158, R171). -/
def XcLegal (s : State) (n : Nat) (f : KM) : Prop :=
  f.g = 0 ∧ specPtr f.xs < 8 ∧ specPtr f.xs < s.ptrLimit n ∧ specPtr f.cs < s.ptrLimit n

/-- The Y operand that a format M instruction reads is in range (R138, R171). -/
def YLegal (s : State) (n : Nat) (f : KM) : Prop :=
  specPtr f.ys < s.ptrLimit n ∧ (s.isWide n = true → 8 ≤ specPtr f.ys)

/-- Accumulator `k`, or the pair it opens, is in range (R158). -/
def AccLegal (s : State) (n k : Nat) (pair : Bool) : Prop :=
  k < s.accLimit n ∧ (pair = true → k % 2 = 0)

/-! ## The queue engine -/

/-- The queue engine takes the operation at once (R229, R242, R255, R258): it is ready and not frozen,
nothing waits, no JOIN of the source is open, and the descriptors named are in its cache. -/
def QeTakes (s : State) (h : QHead) (qs : List Nat) : Prop :=
  s.bit F.QE_CTRL_ready = true ∧ s.qeFrozen = false ∧ s.qe.waiting = [] ∧
    s.joinBlocked Unit.qe h.src = false ∧ ∀ q ∈ qs, q ∈ s.qe.descs

/-! ## The loader -/

/-- The next record of a host stream has come whole, and `r` is its header (R423, R425). -/
def RecordWhole (s : State) (r : RecHead) : Prop :=
  s.ldrState = 1 ∧ s.ldrSource = 0 ∧ s.loader.checked = true ∧ s.loader.ended = false ∧
    r = s.loader.recHead ∧ s.loader.next + 8 + r.size ≤ s.loader.bytes.length

/-- The record's payload. -/
def State.recordBytes (s : State) (r : RecHead) : List Byte :=
  (s.loader.bytes.drop (s.loader.next + 8)).take r.size

/-- A record of `s` that led to `t`, unless that rejected the image: the loader goes on to the next. -/
def State.recordDone (s : State) (r : RecHead) (t : State) : State :=
  if t.ldrState = 1 then
    (t.setLoader { t.loader with next := s.loader.next + 8 + r.size }).ldrPeek rejectWith
  else t

/-! ## Trust and the monitor -/

/-- A husk command of that code waits in PCI_CMD with `n` bytes in the command buffer, and a core of
the husk serves it (R449, R465). -/
def HuskWaits (s : State) (code n : Nat) : Prop :=
  s.bit F.PCI_CMD_busy = true ∧ s.fld F.PCI_CMD_code = code ∧ s.fld F.PCI_CMD_LEN_in_len = n ∧
    s.husk.takeover = false ∧ s.husk.restart = false

/-- PCI_CMD ends with a status and the bytes it returns (R449). -/
def State.huskDone (s : State) (status : Nat) (bytes : List Byte) : State :=
  ((((s.setBuffer 0 bytes).setFld F.PCI_CMD_LEN_out_len bytes.length).cmdStatus status).setBit F.PCI_CMD_busy false)

/-- The verified command in the loader is `c`, permitted in the device's life-cycle state, and `u` is
the state from which it runs (R447). -/
def CommandWaits (s : State) (c : SignedCmd) (code : Nat) (states : List Nat) (u : State) : Prop :=
  s.loader.command = some c ∧ c.code = code ∧ states.contains s.fuses.lifeCycle = true ∧
    u = s.setLoader { s.loader with command := none }

/-- The monitor takes the next command of this transport at once: the transport exists, a session is
open, and nothing is served or waits (R473, R475). -/
def MonServes (s : State) (via : MonVia) : Prop :=
  s.monOpen via = true ∧ s.mode ≠ Mode.off ∧ s.mode ≠ Mode.held ∧ s.sessionOpen = true ∧ s.mon.waiting = [] ∧
    s.mon.stepping = none ∧ s.mon.away = none ∧ s.mon.powered = s.mon.ready

/-- The monitor takes the next command of this transport, and the session's scope has that bit (R477). -/
def MonScoped (s : State) (via : MonVia) (b : Nat) : Prop :=
  MonServes s via ∧ bitAt (s.fld F.DBG_STATUS_scope) b = true

end Sys2Proof.Machine
end

