-- ==== Sys2Proof/Laws/Kotin.lean ====
section
/-! SUPPORT. What issuing an instruction on a ready engine can do: it comes down to the
instruction's effect and, at its end, the move of PC. -/

namespace Sys2Proof.Machine

/-- A register bank without breakpoints: no slot is enabled. -/
theorem codeBreak_none {s : State} {n : Nat} (h : (s.engine n).breaks = []) :
    s.codeBreak n = none := by
  simp [State.codeBreak, h, Table.get]

theorem dataBreak_none {s : State} {x a : Nat} {w : Bool} (h : (s.engine x).breaks = []) :
    s.dataBreak x a w = none := by
  simp [State.dataBreak, h, Table.get]

/-- With a clean fetch, issuing an instruction that may stand at a loop's end is its effect, or
its exception. -/
theorem issue_runs {s : State} {n : Nat} {k : KInstr} {h : Hw} {reads : List DataRead}
    {sem : State → Issued} (hr : Runs s n) (hf : h.fetch = .clean)
    (hk : k.notLast = false ∨ (s.engine n).inner = none) :
    s.issue n k h reads sem = s.runInstr s n reads sem := by
  obtain ⟨ho, hrun, hfar, hlate, hlock, hpast, hpc, hb, -, hp, -⟩ := hr
  have hm : s.mayIssue n = true := by simp [State.mayIssue, ho, hrun, hfar, hlate]
  have hc : s.issueChecks n k h.fetch = .ok () := by
    have : s.isWide n = true ∨ (s.engine n).pc.toNat < 4096 := by
      cases hw : s.isWide n
      · right; simpa [hw] using hpc
      · exact .inl rfl
    have h1 : (s.isWide n || decide ((s.engine n).pc.toNat < 4096)) = true := by simpa using this
    rcases hk with hk | hk <;> simp [State.issueChecks, hpast, hf, hlock, hk, legal, need, h1] <;> rfl
  have hx : (s.fetchRecords n .clean) = s := rfl
  rw [hf] at hc
  simp [State.issue, hm, hp, codeBreak_none hb, hc, hf, hx]

/-- On a ready engine with a clean fetch, issuing is the instruction's effect, or its exception. -/
theorem issue_ready {s : State} {n : Nat} {k : KInstr} {h : Hw} {reads : List DataRead}
    {sem : State → Issued} (hr : Ready s n) (hf : h.fetch = .clean) :
    s.issue n k h reads sem = s.runInstr s n reads sem :=
  issue_runs hr.1 hf (.inr hr.2)

/-- With no level active an instruction ends no loop body. -/
theorem loopEnd_none {e : Engine} (pc : BitVec 13) : ∀ {j : Nat}, e.innerBelow j = none →
    e.loopEnd pc j = (none, e)
  | 0, _ => rfl
  | j + 1, h => by
    simp only [Engine.innerBelow, ne_eq] at h
    split at h
    · cases h
    · rename_i h0
      rw [Engine.loopEnd, if_pos (by simpa using h0), loopEnd_none pc h]

/-- No watchpoint of engines without any is hit. -/
theorem watchHit_none {s : State} {w : Bool} : ∀ {l : List (Nat × Nat)},
    (∀ x ∈ l, (s.engine x.1).breaks = []) → s.watchHit w l = none
  | [], _ => rfl
  | x :: l, h => by
    rw [State.watchHit, dataBreak_none (h x (by simp))]
    exact watchHit_none fun y hy => h y (by simp [hy])

/-- Outside brackets and single steps nothing follows an instruction's end. -/
theorem stepCount_idle {s : State} {n : Nat} (h : s.mon.stepping = none) : s.stepCount n = s := by
  simp [State.stepCount, h]

/-- Outside a bracket nothing is counted. -/
theorem lockStep_zero (e : Engine) (flow : Flow) : e.lockStep 0 flow = e := rfl

/-- Outside brackets, with no watchpoint hit, an instruction that completes moves PC and the loop
levels as its transfer says, and does nothing else. -/
theorem completeAt_advance {u : State} {n : Nat} {flow : Flow} {rs ws : List (Nat × Nat)}
    (hf : flow ≠ .stop ∧ flow ≠ .wait ∧ flow ≠ .stall)
    (hr : ∀ x ∈ rs, (u.engine x.1).breaks = []) (hw : ∀ x ∈ ws, (u.engine x.1).breaks = [])
    (hn : ((u.engine n).advance (u.engine n).pc flow).breaks = (u.engine n).breaks)
    (hstep : u.mon.stepping = none) :
    u.completeAt n 0 flow rs ws = u.setEngine n ((u.engine n).advance (u.engine n).pc flow) := by
  have hb : ∀ x, ((u.setEngine n ((u.engine n).advance (u.engine n).pc flow)).engine x).breaks =
      (u.engine x).breaks := by
    intro x
    by_cases hx : x = n
    · subst hx; simpa using hn
    · rw [State.engine_setEngine_ne (h := hx)]
  cases flow with
  | stop => exact absurd rfl hf.1
  | wait => exact absurd rfl hf.2.1
  | stall => exact absurd rfl hf.2.2
  | seq =>
    simp only [State.completeAt, lockStep_zero]
    rw [watchHit_none (fun x h => (hb _).trans (hr x h)), watchHit_none (fun x h => (hb _).trans (hw x h))]
    simp [stepCount_idle, hstep]
  | jump t ends =>
    simp only [State.completeAt, lockStep_zero]
    rw [watchHit_none (fun x h => (hb _).trans (hr x h)), watchHit_none (fun x h => (hb _).trans (hw x h))]
    simp [stepCount_idle, hstep]

/-- An instruction that ends in order on an engine with no active level and no watchpoint moves PC
on and does nothing else. -/
theorem completeAt_ran {u : State} {n : Nat} {rs ws : List (Nat × Nat)}
    (hin : (u.engine n).inner = none) (hpc : (u.engine n).pc.toNat < 8191)
    (hpast : (u.engine n).past = false) (hr : ∀ x ∈ rs, (u.engine x.1).breaks = [])
    (hw : ∀ x ∈ ws, (u.engine x.1).breaks = []) (hstep : u.mon.stepping = none) :
    u.completeAt n 0 .seq rs ws = u.setEngine n { u.engine n with pc := (u.engine n).pc + 1 } := by
  have hadv : (u.engine n).advance (u.engine n).pc .seq = { u.engine n with pc := (u.engine n).pc + 1 } := by
    have h8 : ((u.engine n).pc == 8191#13) = false := by
      simp only [beq_eq_false_iff_ne, ne_eq, ← BitVec.toNat_inj]
      simp; omega
    simp only [Engine.advance, Engine.inner] at *
    rw [loopEnd_none _ hin]
    simp [h8, ← hpast]
  rw [completeAt_advance ⟨by simp, by simp, by simp⟩ hr hw (by rw [hadv]) hstep, hadv]

/-- `u` leaves what issuing consults as `s` has it: the program counter, loop counters and
breakpoints of every engine, and the monitor's step. -/
def Calm (s u : State) : Prop :=
  u.mon.stepping = s.mon.stepping ∧ ∀ k, (u.engine k).pc = (s.engine k).pc ∧
    (u.engine k).past = (s.engine k).past ∧ (u.engine k).lc = (s.engine k).lc ∧
    (u.engine k).breaks = (s.engine k).breaks

theorem Calm.refl (s : State) : Calm s s := ⟨rfl, fun _ => ⟨rfl, rfl, rfl, rfl⟩⟩

theorem Calm.trans {s u v : State} (h : Calm s u) (h' : Calm u v) : Calm s v :=
  ⟨h'.1.trans h.1, fun k => ⟨(h'.2 k).1.trans (h.2 k).1, (h'.2 k).2.1.trans (h.2 k).2.1,
    (h'.2 k).2.2.1.trans (h.2 k).2.2.1, (h'.2 k).2.2.2.trans (h.2 k).2.2.2⟩⟩

/-- Writing an engine's registers is calm. -/
theorem Calm.setEngine {s u : State} (h : Calm s u) {n : Nat} {e : Engine}
    (hp : e.pc = (u.engine n).pc) (hq : e.past = (u.engine n).past) (hl : e.lc = (u.engine n).lc)
    (hb : e.breaks = (u.engine n).breaks) : Calm s (u.setEngine n e) := by
  refine h.trans ⟨rfl, fun k => ?_⟩
  by_cases hk : k = n
  · subst hk; simp [hp, hq, hl, hb]
  · rw [State.engine_setEngine_ne (h := hk)]; exact ⟨rfl, rfl, rfl, rfl⟩

theorem setEngine_same_but (u : State) (n : Nat) (e : Engine) : SameBut n u (u.setEngine n e) :=
  ⟨fun _ hk => State.engine_setEngine_ne (h := hk) .., rfl⟩

/-- The engine whose words an operand spec reads is the engine or its odd partner. -/
theorem ptrEng_cases (n p : Nat) : ptrEng n p = n ∨ ptrEng n p = n + 1 := by
  unfold ptrEng; split <;> simp

/-- An instruction without an exception, whose effect is calm and ends in order, on a ready
engine: its effect, and PC moved on. -/
theorem issue_ran {s : State} {n : Nat} {k : KInstr} {h : Hw} {reads : List DataRead}
    {sem : State → Issued} {d : Done} (hr : Ready s n) (hf : h.fetch = .clean)
    (hd : sem s = .ok d) (hs : d.flow = .seq) (hrec : d.state.readRecords reads = d.state)
    (hc : Calm s d.state) (hx : ∀ r ∈ reads, r.eng = n ∨ r.eng = n + 1)
    (hw : ∀ w ∈ d.writes, w.1 = n ∨ w.1 = n + 1) :
    Ran n d.state (s.issue n k h reads sem) := by
  have hb : ∀ x, x = n ∨ x = n + 1 → (d.state.engine x).breaks = [] := by
    rintro x (rfl | rfl)
    · rw [(hc.2 _).2.2.2]; exact hr.1.2.2.2.2.2.2.2.1
    · rw [(hc.2 _).2.2.2]; exact hr.1.2.2.2.2.2.2.2.2.1
  have hin : (d.state.engine n).inner = none := by
    have : (d.state.engine n).lc = (s.engine n).lc := (hc.2 n).2.2.1
    have heq : ∀ j, (d.state.engine n).innerBelow j = (s.engine n).innerBelow j := by
      intro j
      induction j with
      | zero => rfl
      | succ j ih =>
        simp only [Engine.innerBelow]
        rw [ih, show (d.state.engine n).lcAt j = (s.engine n).lcAt j from congrArg (Table.get no16 · j) this]
    exact (heq 4).trans hr.2
  have hpc : (d.state.engine n).pc.toNat < 8191 := by
    rw [(hc.2 n).1]
    have := hr.1.2.2.2.2.2.2.1
    split at this <;> omega
  have hq : (d.state.engine n).past = false := by rw [(hc.2 n).2.1]; exact hr.1.2.2.2.2.2.1
  have hlock : (s.engine n).lock = 0 := hr.1.2.2.2.2.1
  have hstep : d.state.mon.stepping = none := by
    rw [hc.1]; exact hr.1.2.2.2.2.2.2.2.2.2.2
  rw [issue_ready hr hf]
  simp only [State.runInstr, hd, hs, hlock, hrec]
  rw [if_neg (by simp), completeAt_ran hin hpc hq _ _ hstep]
  · exact ⟨by simp, setEngine_same_but _ _ _⟩
  · intro x hx'
    obtain ⟨r, hr', rfl⟩ := List.mem_map.1 hx'
    exact hb _ (hx r hr')
  · intro x hx'; exact hb _ (hw x hx')

end Sys2Proof.Machine
end

