-- ==== Sys2Proof/Laws/Trust.lean ====
section
/-! SUPPORT. What the shared operations of the signed commands, the husk commands and the monitor do. -/

namespace Sys2Proof.Machine

/-- A verified command that its state and its signer permit runs and ends (R447). -/
theorem signedRun_run {s u : State} {c : SignedCmd} {code : Nat} {states : List Nat} {signer : SignedCmd → Bool}
    {run : SignedCmd → State → Nat × State} (h : CommandWaits s c code states u) (hs : signer c = true) :
    s.signedRun code states signer run = (run c u).2.commandEnd c (run c u).1 := by
  obtain ⟨h1, h2, h3, rfl⟩ := h
  have h3' : states.contains (s.setLoader { s.loader with command := none }).fuses.lifeCycle = true := h3
  unfold State.signedRun
  rw [h1]; dsimp only
  rw [if_neg (by simp [h2]), if_neg (by simpa using h3'), if_neg (by simp [hs])]

/-- One under the wrong signer is refused (R447). -/
theorem signedRun_signer {s u : State} {c : SignedCmd} {code : Nat} {states : List Nat} {signer : SignedCmd → Bool}
    {run : SignedCmd → State → Nat × State} (h : CommandWaits s c code states u) (hs : signer c = false) :
    s.signedRun code states signer run = u.commandEnd c Code.badSignature := by
  obtain ⟨h1, h2, h3, rfl⟩ := h
  have h3' : states.contains (s.setLoader { s.loader with command := none }).fuses.lifeCycle = true := h3
  unfold State.signedRun
  rw [h1]; dsimp only
  rw [if_neg (by simp [h2]), if_neg (by simpa using h3'), if_pos (by simp [hs])]

/-- One that the life-cycle state does not permit is refused (R447). -/
theorem signedRun_state {s : State} {c : SignedCmd} {code : Nat} {states : List Nat} {signer : SignedCmd → Bool}
    {run : SignedCmd → State → Nat × State} (h : s.loader.command = some c) (hc : c.code = code)
    (hs : states.contains s.fuses.lifeCycle = false) :
    s.signedRun code states signer run =
      (s.setLoader { s.loader with command := none }).commandEnd c Code.notPermitted := by
  have h3' : states.contains (s.setLoader { s.loader with command := none }).fuses.lifeCycle = false := hs
  unfold State.signedRun
  rw [h]; dsimp only
  rw [if_neg (by simp [hc]), if_pos (by simpa using h3')]

/-- A husk command that waits in PCI_CMD is served (R449). -/
theorem huskRun_cmd {s : State} {code n : Nat} {run : List Byte → State → Nat × List Byte × State}
    (h : HuskWaits s code n) (hl : s.fuses.lifeCycle ≠ 4 ∨ code ≤ 2) :
    s.huskRun code none run = (run (s.bufferBytes n) s).2.2.huskDone (run (s.bufferBytes n) s).1
      (run (s.bufferBytes n) s).2.1 := by
  obtain ⟨h1, h2, h3, h4, h5⟩ := h
  have e : ¬ (s.fuses.lifeCycle = 4 ∧ 2 < code) := by omega
  unfold State.huskRun
  simp only [h1, h2, h3, h4, h5, e, if_false, Bool.or_self, beq_self_eq_true, Bool.and_self, if_true]
  rfl

/-- A husk command over the monitor's transports is served and answered (R449, R477). -/
theorem huskRun_mon {s : State} {code : Nat} {via : MonVia} {b : List Byte}
    {run : List Byte → State → Nat × List Byte × State} (h1 : s.husk.takeover = false) (h2 : s.husk.restart = false)
    (h3 : s.monOpen via = true) (hl : s.fuses.lifeCycle ≠ 4 ∨ code ≤ 2) :
    s.huskRun code (some (via, b)) run = (run b s).2.2.monReply via code (run b s).1 (run b s).2.1 := by
  have e : ¬ (s.fuses.lifeCycle = 4 ∧ 2 < code) := by omega
  unfold State.huskRun
  simp only [h1, h2, h3, e, if_false, Bool.or_self, if_true]
  rfl

/-- One command waits, and nothing holds it up. -/
theorem monServe_one {u t : State} {via : MonVia} {c : MonCmd} (hw : u.mon.waiting = [(via, c)])
    (hb : u.monBusy = false) (hr : monRun via c { u with mon := { u.mon with waiting := [] } } = some t) :
    u.monServe 1 = t := by
  unfold State.monServe
  rw [hw, hb]; dsimp only
  rw [hr]
  rfl

/-- The monitor serves a command that nothing holds up (R473, R475). -/
theorem monDo_serves {s t : State} {via : MonVia} {c : MonCmd} (h : MonServes s via) (hr : monRun via c s = some t) :
    monDo via c s = t := by
  obtain ⟨h1, h2, h3, h4, h5, h6, h7, h8⟩ := h
  have e3 : s.openByState = s := by unfold State.openByState; simp [h4]
  unfold monDo
  rw [h1, beq_false_of_ne h2, beq_false_of_ne h3, e3]
  have e6 : ({ s with mon := { s.mon with waiting := [] } } : State) = s := by rw [← h5]
  have key := monServe_one (t := t) (via := via) (c := c)
    (u := { s with mon := { s.mon with waiting := s.mon.waiting ++ [(via, c)] } }) (by simp [h5])
    (by
      show (s.mon.stepping.isSome || s.mon.away.isSome || (s.mon.powered && !s.mon.ready)) = false
      rw [h6, h7, h8]; cases s.mon.ready <;> rfl)
    (by show monRun via c { s with mon := { s.mon with waiting := [] } } = some t; rw [e6, hr])
  show State.monServe _ (s.mon.waiting ++ [(via, c)]).length = t
  rw [h5] at key ⊢
  exact key

/-- A command of a scope that the session has (R477). -/
theorem monDo_scoped {s t : State} {via : MonVia} {c : MonCmd} {b : Nat} (h : MonScoped s via b) (hc : c.scope = some b)
    (hr : monServed via c s = some t) : monDo via c s = t := by
  refine monDo_serves h.1 ?_
  unfold monRun
  rw [h.1.2.2.2.1, hc]; dsimp only
  rw [h.2]
  exact hr

/-- A command that needs no scope (R477). -/
theorem monDo_unscoped {s t : State} {via : MonVia} {c : MonCmd} (h : MonServes s via) (hc : c.scope = none)
    (hr : monServed via c s = some t) : monDo via c s = t := by
  refine monDo_serves h ?_
  unfold monRun
  rw [h.2.2.2.1, hc]
  exact hr

end Sys2Proof.Machine
end

