-- ==== Sys2Proof/Certificates/Slice0/Obligations.lean ====
section
/-! DEFINITION. The statements about the model (OBLIGATIONS.json lists them with the rules of
spec/ that they formalise). A statement is a conjunction of clauses, one per behaviour; the
theorem witness_<name>_<k> under Sys2Proof/Tests shows a state that meets the premises of
clause k. -/

open Sys2Proof Sys2Proof.Machine

/-- Table 1.6, codes 0x01, 0x02, 0x14 and the loss of VHUSK; R37. -/
def Obligations.SupplyAndResetChangeTheMode : Prop :=
  (∀ s, s.mode = Mode.off → Answers .vhuskWithinRange s fun t =>
    t.mode = Mode.held ∧ t.fuses = s.fuses ∧ t.flash = s.flash ∧ t.pending = s.pending) ∧
  (∀ s, Answers .vhuskBelowRange s fun t =>
    t.mode = Mode.off ∧ t.fuses = s.fuses ∧ t.pending = s.pending ∧
      { t.flash with repairs := s.flash.repairs } = s.flash) ∧
  (∀ s, s.mode ≠ Mode.off → s.mode ≠ Mode.zeroised → Answers .wholeDeviceReset s fun t =>
    Entered s t 0x14 Mode.held ∧ t.fuses = s.fuses ∧ t.flash = s.flash ∧ t.pending = s.pending ∧
      t.reg R.DEV_MODE_TIME = s.now32 ∧ t.spm = {} ∧ t.eng = []) ∧
  (∀ s, s.mode = Mode.off ∨ s.mode = Mode.zeroised → exec .wholeDeviceReset s = .next s) ∧
  (∀ s, s.trust.resetDue = true → s.mode ≠ Mode.off → s.mode ≠ Mode.zeroised → Answers .lifecycleReset s fun t =>
    Entered s t 0x14 Mode.held ∧ t.fuses = s.fuses ∧ t.flash = s.flash) ∧
  (∀ s, s.mode = Mode.held → s.dev.perst = false → Answers .wholeDeviceResetReleased s fun t =>
    Entered s t 0x02 Mode.boot ∧ t.now = 0 ∧ t.tim.running = true ∧ t.fuses = s.fuses ∧ t.flash = s.flash)

/-- R28, R29, R30, R436, R437. -/
def Obligations.StartUpEventsComplete : Prop :=
  (∀ s, s.mode = Mode.boot → s.trust.recovery = false → s.fuses.lifeCycle ≠ 4 → s.standby = Standby.absent →
    Answers .firmwareVerified s fun t => t.standby = Standby.booting) ∧
  (∀ s, s.mode = Mode.boot → s.dev.pf0Ready = false → Answers .pf0Ready s fun t =>
    { t with dev := s.dev } = s ∧ t.dev.pf0Ready = true ∧
    (t.dev.loadWait = true ↔ s.fld F.PCI_LDR_CFG_load_wait_ms ≠ 0 ∧ s.trust.hold = false ∧
      s.trust.recovery = false ∧ s.fuses.lifeCycle ≠ 4)) ∧
  (∀ s, s.mode = Mode.boot → s.dev.loadWait = true →
    s.dev.waitFrom + 1000000 * s.fld F.PCI_LDR_CFG_load_wait_ms ≤ s.tim.uptime → ∃ u, Entered s u 0x04 Mode.load ∧
    u.dev.loadWait = false ∧ exec .loadWaitExpiry s = .next u.acornLoad) ∧
  (∀ s w d ty, s.mode = Mode.boot → s.dev.dramTrained = false → s.trust.recovery = false → s.fuses.lifeCycle ≠ 4 →
    exec (.dramTrainingDone (.found w d ty)) s = .next (State.dramUp
      { s with dev := { s.dev with dramTrained := true } } s.flash.policy.mem w d ty.val)) ∧
  (∀ s, s.mode = Mode.off ∨ s.mode = Mode.zeroised →
    exec .perstAsserted s = .next { s with dev := { s.dev with perst := true } }) ∧
  (∀ s, s.mode ≠ Mode.off → s.mode ≠ Mode.zeroised → s.dev.leftBoot = true → s.ldrState ≠ 1 →
    s.bit F.DEV_RESET_POLICY_perst_scope = false → Answers .perstAsserted s fun t =>
      t.mode = s.mode ∧ t.bit F.PCI_STATUS_perst = true ∧ t.bit F.PCI_STATUS_link_up = false ∧
      t.eng = s.eng ∧ t.fabric = s.fabric ∧ t.noc = s.noc ∧ t.tim = s.tim) ∧
  (∀ s, exec .perstDeasserted s =
    .next ({ s with dev := { s.dev with perst := false, perstFrom := s.tim.uptime } }.setBit F.PCI_STATUS_perst false)) ∧
  (∀ s, s.tim.uptime < s.dev.waitFrom + 1000000 * s.fld F.PCI_LDR_CFG_load_wait_ms →
    exec .loadWaitExpiry s = .next s)

/-- R31, R32; Table 1.6 codes 0x07 to 0x09. -/
def Obligations.RendezvousArmsAndLaunches : Prop :=
  (∀ s, s.mode = Mode.rendezvous → s.bit F.DEV_MODE_dram_ready = true → s.launchArmed = false →
    Answers .doneSampledHigh s fun t => t.launchArmed = true ∧
      t.reg (R.DEV_CUE_TIME 7) = BitVec.ofNat 32 ((s.now + 100000 + 999999) / 1000000 * 1000000) ∧
      t.cueAction .dev 7 = .launch (if s.bit F.DEV_MODE_on_acorn then 0x08#8 else 0x07#8) ∧
      { t with ctrl := s.ctrl, cues := s.cues } = s) ∧
  (∀ s g, s.mode = Mode.rendezvous → s.cueAction .dev 7 = .launch g → s.launchArmed = true →
    s.isReached (s.reg (R.DEV_CUE_TIME 7)) = true → s.copyLost Unit.dev = false →
    exec .rendezvousLaunch s =
      .next (State.launch ((s.cueClear .dev 7).incFld (CueUnit.firedF .dev 7)) g.toNat)) ∧
  (∀ s, s.mode = Mode.rendezvous → s.rdvExpired = true → s.bit F.DEV_RDV_timed_out = false →
    s.launchArmed = false → exec .rdvTimeoutExpiry s =
      .next ((s.setBit F.DEV_RDV_timed_out true).fault .husk .rendezvous (.code 960))) ∧
  (∀ s m, s.mode = Mode.rendezvous → s.bit F.DEV_RDV_timed_out = true → s.launchArmed = false →
    exec (.devRdvForce m) s = .next ((s.armLaunch 0x09).setFld F.DEV_REQ_STATUS_status 0).ack) ∧
  (∀ s m, s.mode = Mode.rendezvous → s.bit F.DEV_RDV_timed_out = true → s.launchArmed = true →
    exec (.devRdvForce m) s = .next (s.setFld F.DEV_REQ_STATUS_status 0).ack) ∧
  (∀ s m, s.mode ≠ Mode.rendezvous ∨ s.bit F.DEV_RDV_timed_out = false →
    exec (.devRdvForce m) s = .next (s.setFld F.DEV_REQ_STATUS_status 0xFF02).ack) ∧
  (∀ s m ms, Answers (.devRdvTimeoutWrite m ms) s fun t => t.fld F.DEV_RDV_timeout_ms = ms.toNat ∧
    t.response = .ack 0#16 ∧ t.mode = s.mode)

/-- R35, R36. -/
def Obligations.DormantIsEnteredAndLeft : Prop :=
  (∀ s m, s.mayDormant = false →
    exec (.dormantEnter m) s = .next (s.setFld F.DEV_REQ_STATUS_status 0xFF02).ack) ∧
  (∀ s m, s.mayDormant = true → s.wakeSoon = true →
    exec (.dormantEnter m) s = .next (s.setFld F.DEV_REQ_STATUS_status 0xFF01).ack) ∧
  (∀ s m, s.mayDormant = true → s.wakeSoon = false → Answers (.dormantEnter m) s fun t =>
    t.mode = Mode.dormant ∧ t.fld F.DEV_MODE_CAUSE_trigger = 0x10 ∧ t.fld F.DEV_REQ_STATUS_status = 0 ∧
      t.response = .ack 0#16 ∧ t.dev.waking = false) ∧
  (∀ s m, s.mode = Mode.dormant → exec (.dormantExit m) s =
    .next ({ s with dev := { s.dev with waking := true } }.setFld F.DEV_REQ_STATUS_status 0).ack) ∧
  (∀ s m, s.mode ≠ Mode.dormant → exec (.dormantExit m) s = .next (s.setFld F.DEV_REQ_STATUS_status 0).ack) ∧
  (∀ s, exec .dormantWakeBegin s = .next (
    if s.mode = Mode.dormant ∧ s.wakeTime ≠ 0 ∧ s.wakeTime ≤ s.now + 10000000
    then { s with dev := { s.dev with waking := true } } else s)) ∧
  (∀ s, s.mode = Mode.dormant → s.dev.waking = true → Answers .serviceRestored s fun t =>
    t.mode = Mode.service ∧ t.fld F.DEV_MODE_CAUSE_trigger = 0x11 ∧ t.dev.waking = false ∧ t.dram.asleep = []) ∧
  (∀ s m lo hi, s.heldLo m R.DEV_WAKE_LO = some lo → Answers (.devWakeWrite m hi) s fun t =>
    t.wakeTime = lo.toNat + 2 ^ 32 * hi.toNat ∧ t.heldLo m R.DEV_WAKE_LO = none ∧ t.response = .ack 0#16)

/-- R39, R40, R42. -/
def Obligations.ClaimsGoToOneHolder : Prop :=
  (∀ s m (c : ClaimRef), c.ok = true → s.holder c.off = none → Answers (.claim m c) s fun t =>
    t.holder c.off = some m ∧ t.fld (claimStatusField c.off) = 0 ∧ t.response = .ack 0#16 ∧
      (∀ o, o ≠ c.off → t.holder o = s.holder o) ∧ KeepsRegs s t [c.off] ∧
      { t with ctrl := s.ctrl, claims := s.claims, response := s.response } = s) ∧
  (∀ s m (c : ClaimRef) h, c.ok = true → s.holder c.off = some h → h.same m = true →
    exec (.claim m c) s = .next (s.setFld (claimStatusField c.off) 0).ack) ∧
  (∀ s m (c : ClaimRef) h, c.ok = true → s.holder c.off = some h → h.same m = false →
    exec (.claim m c) s = .next (s.setFld (claimStatusField c.off) 0x0801).ack) ∧
  (∀ s m (c : ClaimRef) h, c.ok = true → s.holder c.off = some h → h.same m = true →
    Answers (.claimRelease m c) s fun t => t.holder c.off = none ∧ t.response = .ack 0#16 ∧
      (∀ o, o ≠ c.off → t.holder o = s.holder o) ∧ t.spm = s.spm ∧ t.eng = s.eng ∧ t.fabric = s.fabric ∧
      t.dram = s.dram) ∧
  (∀ s m (c : ClaimRef) h, c.ok = true → s.holder c.off = some h → h.same m = false →
    exec (.claimRelease m c) s = .next (((s.fault (regUnit c.off) .claim (.unit m)).setFld
      (claimStatusField c.off) 0xFF02).ack).settleSlots) ∧
  (∀ s m (c : ClaimRef), c.ok = false → exec (.claim m c) s =
    .next (s.fault Unit.dev .decode (.unit m)).error)

/-- R7, R8, R11, R18, R23. -/
def Obligations.RegisterWritesFollowTheAccessRules : Prop :=
  (∀ s m (off : BitVec 25) w, s.mode ≠ Mode.off → off.toNat % 4 ≠ 0 →
    exec (.registerWrite m off w) s = .next s.error) ∧
  (∀ s m (off : BitVec 25) w, s.mode ≠ Mode.off → off.toNat % 4 = 0 → isDbg off.toNat = false →
    rowAt off.toNat = none → exec (.registerWrite m off w) s =
      .next (s.fault (regUnit off.toNat) .decode (.unit m)).error) ∧
  (∀ s m (off : BitVec 25) w, s.mode ≠ Mode.off → off.toNat % 4 = 0 → isDbg off.toNat = true →
    m.same .monitor = false → exec (.registerWrite m off w) s =
      .next (s.fault (regUnit off.toNat) .decode (.unit m)).error) ∧
  (∀ s m w, s.mode ≠ Mode.off → Answers (.registerWrite m (BitVec.ofNat 25 R.DEV_WAKE_LO) w) s fun t =>
    t.heldLo m R.DEV_WAKE_LO = some w ∧ t.response = .ack 0#16 ∧ KeepsRegs s t [] ∧
      (∀ n : Master, n.same m = false → t.heldLo n R.DEV_WAKE_LO = s.heldLo n R.DEV_WAKE_LO)) ∧
  (∀ s m lo hi, s.mode ≠ Mode.off → s.heldLo m R.DEV_WAKE_LO = some lo →
    Answers (.registerWrite m (BitVec.ofNat 25 R.DEV_WAKE_HI) hi) s fun t =>
      t.reg R.DEV_WAKE_LO = lo ∧ t.reg R.DEV_WAKE_HI = hi ∧ t.heldLo m R.DEV_WAKE_LO = none ∧
      KeepsRegs s t [R.DEV_WAKE_LO, R.DEV_WAKE_HI]) ∧
  (∀ s m hi, s.mode ≠ Mode.off → s.heldLo m R.DEV_WAKE_LO = none →
    Answers (.registerWrite m (BitVec.ofNat 25 R.DEV_WAKE_HI) hi) s fun t =>
      t.reg R.DEV_WAKE_LO = s.reg R.DEV_WAKE_LO ∧ t.reg R.DEV_WAKE_HI = hi) ∧
  (∀ s m w, s.mode ≠ Mode.off → m.same .husk = true →
    Answers (.registerWrite m (BitVec.ofNat 25 R.MP_RETIRE_POLICY) w) s fun t =>
      t.fld F.MP_RETIRE_POLICY_ue_retire = F.MP_RETIRE_POLICY_ue_retire.get w ∧
      t.fld F.MP_RETIRE_POLICY_ce_window_h = F.MP_RETIRE_POLICY_ce_window_h.get w ∧
      t.fld F.MP_RETIRE_POLICY_ce_count = F.MP_RETIRE_POLICY_ce_count.get w ∧
      KeepsRegs s t [R.MP_RETIRE_POLICY] ∧ { t with ctrl := s.ctrl, response := s.response } = s)

/-- R7, R8, R11. -/
def Obligations.RegisterReadsReturnWhatIsHeld : Prop :=
  (∀ s m (off : BitVec 25), s.mode ≠ Mode.off → off.toNat % 4 ≠ 0 →
    exec (.registerRead m off) s = .next s.error) ∧
  (∀ s m, s.mode ≠ Mode.off → s.latched m R.MP_RETIRE_POLICY = none →
    exec (.registerRead m (BitVec.ofNat 25 R.MP_RETIRE_POLICY)) s =
      .next (s.reply (toBytes 4 (s.reg R.MP_RETIRE_POLICY).toNat))) ∧
  (∀ s m, s.mode ≠ Mode.off → s.latched m R.DEV_WAKE_LO = none →
    Answers (.registerRead m (BitVec.ofNat 25 R.DEV_WAKE_LO)) s fun t =>
      t.response = .data (toBytes 4 (s.reg R.DEV_WAKE_LO).toNat) false ∧
      t.latched m R.DEV_WAKE_HI = some (s.reg R.DEV_WAKE_HI) ∧ KeepsRegs s t [] ∧
      (∀ n : Master, n.same m = false → t.latched n R.DEV_WAKE_HI = s.latched n R.DEV_WAKE_HI)) ∧
  (∀ s m w, s.mode ≠ Mode.off → s.latched m R.DEV_WAKE_HI = some w →
    Answers (.registerRead m (BitVec.ofNat 25 R.DEV_WAKE_HI)) s fun t =>
      t.response = .data (toBytes 4 w.toNat) false ∧ t.latched m R.DEV_WAKE_HI = none ∧ KeepsRegs s t [])

/-- R489 to R491, R76, R501, R504, R280. -/
def Obligations.ClockAndSupplyEventsComplete : Prop :=
  (∀ s c, Answers (.clockStabilityWindow c false) s fun t =>
    Table.get zeroNat t.clk.runs c.key = 0 ∧ t.eng = s.eng ∧ t.fabric = s.fabric) ∧
  (∀ s, 7 ≤ Table.get zeroNat s.clk.runs (Clock.key .xtalSys) → Answers (.clockStabilityWindow .xtalSys true) s fun t =>
    t.clockStable .xtalSys = true ∧ KeepsRegs s t [R.CLK_SRC_STATUS] ∧
      { t with ctrl := s.ctrl, clk := s.clk } = s) ∧
  (∀ s c, Table.get zeroNat s.clk.runs c.key < 7 → exec (.clockStabilityWindow c true) s =
    .next (s.setRuns c (Table.get zeroNat s.clk.runs c.key + 1))) ∧
  (∀ s, s.clockStable .xtalSys = true → exec (.referenceSwitchBack .xtalSys) s =
    .next { s with clk := { s.clk with xsysSynth := false } }) ∧
  (∀ s (q : Fin 24), exec (.fabricPllLockLoss q) s = .next
    ((((s.setRuns (.fabricPll q) 0).setBit (F.CLK_FPLL_STATUS_stable q.val) false).fault Unit.clk .clock
      (.unit Unit.clk) 0 (64 + q.val)))) ∧
  (∀ s (r : BitVec 16), 300 ≤ r.toNat → r.toNat ≤ 500 → exec (.oscRatioCheck r) s = .next
    (let u := (s.setBit F.CLK_SRC_STATUS_fosc_ok true).setBit F.CLK_SRC_STATUS_sosc_ok true
     { u with clk := { u.clk with huskOnPll := false } })) ∧
  (∀ s (r : BitVec 16), r.toNat < 300 ∨ 500 < r.toNat → Answers (.oscRatioCheck r) s fun t =>
    t.bit F.CLK_SRC_STATUS_fosc_ok = false ∧ t.bit F.CLK_SRC_STATUS_sosc_ok = false ∧
      t.trust.class1 = min 65535 (s.trust.class1 + 1)) ∧
  (∀ s (b : Fin 16) (mv : BitVec 12), exec (.vioChange b mv) s = .next
    ((s.setFld (F.PIN_BANK_vio_mv b.val) mv.toNat).setBit (F.PIN_BANK_vio_ok b.val) (vioOk b.val mv.toNat))) ∧
  (∀ s r, exec (.railOutOfRange r) s = .next (State.fault
    { s with trust := { s.trust with class1 := min 65535 (s.trust.class1 + 1) } } .husk .tamper1 (.code 960) 0
      (256 + r.key))) ∧
  (∀ s mv d h, s.fld F.TIM_TSENSE_CFG_src = 0 → 50 ≤ BitVec.toNat mv → BitVec.toNat mv ≤ 1750 →
    Answers (.tsenseSample mv d h) s fun t => t.bit F.TIM_TEMP_valid = true ∧ t.bit F.TIM_TEMP_fallback = false ∧
      t.fld F.TIM_TEMP_temp = (BitVec.ofInt 16 (s.tsenseTemp mv.toNat)).toNat ∧ t.tim.tsenseFallback = false) ∧
  (∀ s mv d h, s.fld F.TIM_TSENSE_CFG_src = 0 → BitVec.toNat mv < 50 ∨ 1750 < BitVec.toNat mv →
    Answers (.tsenseSample mv d h) s fun t => t.bit F.TIM_TEMP_valid = true ∧ t.bit F.TIM_TEMP_fallback = true ∧
      t.fld F.TIM_TEMP_temp = d.toNat)

/-- R492, R496 to R500. -/
def Obligations.PinsAndPllsObeyTheirHolder : Prop :=
  (∀ s m (q : Fin 24) w, s.holds m (fpllClaim q.val) = false → exec (.fpllEnable m q w) s =
    .next ((s.setFld (F.CLK_FPLL_STATUS_last_status q.val) 0x0801).ack)) ∧
  (∀ s m (q : Fin 24) w, s.holds m (fpllClaim q.val) = true → BitVec.getLsbD w 31 = false →
    exec (.fpllEnable m q w) s = .next (((((s.setReg (R.CLK_FPLL_CTRL q.val) (w &&& 0x9000003F#32)).setFld
      (F.CLK_FPLL_STATUS_last_status q.val) 0).rejudge (.fabricPll q)).showLines 24).ack)) ∧
  (∀ s m (k : BitVec 9), k.toNat < 384 → s.holds m (pinClaim k.toNat) = false → exec (.pinApply m k) s =
    .next ((s.fault Unit.pin .claim (.unit m)).setFld F.PIN_STATUS_last_status 0x0801).ack) ∧
  (∀ s m (k : BitVec 9), k.toNat < 384 → s.holds m (pinClaim k.toNat) = true → Answers (.pinApply m k) s fun t =>
    (t.pad k.toNat).due = some (BitVec.ofNat 4 ((F.PIN_FUNC_func k.toNat).get (s.shadow (R.PIN_FUNC k.toNat)))) ∧
      { t with pads := s.pads, response := s.response } = s) ∧
  (∀ s (k : Fin 384) f, (s.pad k.val).due = some f → Answers (.pinCommitEdge k) s fun t =>
    t.pinFunc k.val = f.toNat ∧ (t.pad k.val).due = none ∧ { t with pads := s.pads, ctrl := s.ctrl } = s ∧
      KeepsRegs s t [R.PIN_FUNC k.val]) ∧
  (∀ s m (b : Fin 16) r d, s.heldMask m b.val ≠ 0 → s.heldMask m b.val < 2 ^ 24 →
    Answers (.pinOutWrite m b r d) s fun t => t.response = .ack 0#16 ∧ KeepsRegs s t [R.PIN_OUT b.val] ∧
      (∀ i, i < 24 → (BitVec.ofNat 24 (t.fld (F.PIN_OUT_data b.val))).getLsbD i =
        (let held := (s.heldMask m b.val).testBit i
         let old := (BitVec.ofNat 24 (s.fld (F.PIN_OUT_data b.val))).getLsbD i
         if held then (match r with
           | .out => BitVec.getLsbD d i
           | .set => old || BitVec.getLsbD d i
           | .clr => old && !BitVec.getLsbD d i)
         else old))) ∧
  (∀ s m (k : Fin 384) w, s.holds m (pinClaim k.val) = true → Answers (.pinElecWrite m k w) s fun t =>
    t.reg (R.PIN_ELEC k.val) = (w &&& 0x3FF#32) ∧ KeepsRegs s t [R.PIN_ELEC k.val] ∧
      { t with pads := s.pads, ctrl := s.ctrl, response := s.response } = s)

/-- R508. -/
def Obligations.TapInstructionsLoad : Prop :=
  (∀ s, exec .tapBypass s = .next { s with tap := { s.tap with instr := .bypass } }) ∧
  (∀ s, Answers .tapIdcode s fun t => t.tap.instr = .idcode ∧
    t.response = .data [0x6B#8, 0x0C#8, 0x60#8, 0x09#8] false ∧ { t with tap := s.tap, response := s.response } = s) ∧
  (∀ s d, Answers (.tapSamplePreload d) s fun t => t.tap.instr = .samplePreload ∧ t.tap.boundary = d ∧
    { t with tap := s.tap, freeCount := s.freeCount } = s) ∧
  (∀ s, exec .tapExtest s = .next { s with tap := { s.tap with instr := if s.mode = Mode.held then .extest else .bypass } }) ∧
  (∀ s, exec .tapClamp s = .next { s with tap := { s.tap with instr := if s.mode = Mode.held then .clamp else .bypass } }) ∧
  (∀ s, exec .tapHighz s = .next { s with tap := { s.tap with instr := if s.mode = Mode.held then .highz else .bypass } }) ∧
  (∀ s, exec .tapExtestPulse s =
    .next { s with tap := { s.tap with instr := if s.mode = Mode.held then .extestPulse else .bypass } }) ∧
  (∀ s, exec .tapExtestTrain s =
    .next { s with tap := { s.tap with instr := if s.mode = Mode.held then .extestTrain else .bypass } })

/-- R66, R69, R71 to R75, R82 to R89. -/
def Obligations.FabricUnitsComplete : Prop :=
  (∀ s (n : Fin 96) (k : Fin 32) sel, (s.tree (treeKey n.val k.val)).next = none →
    (s.tree (treeKey n.val k.val)).sel ≠ sel → exec (.treeSwitch n k sel) s = .next (s.setTree (treeKey n.val k.val)
      { s.tree (treeKey n.val k.val) with next := some sel, released := false })) ∧
  (∀ s (n : Fin 96) (k : Fin 32) sel x, (s.tree (treeKey n.val k.val)).next = some x →
    exec (.treeSwitch n k sel) s = .next (s.setTree (treeKey n.val k.val)
      { s.tree (treeKey n.val k.val) with queued := some sel })) ∧
  (∀ s (n : Fin 96) (k : Fin 32) x, (s.tree (treeKey n.val k.val)).next = some x →
    (s.tree (treeKey n.val k.val)).queued = none → Answers (.treeSwitchDone n k) s fun t =>
      (t.tree (treeKey n.val k.val)).sel = x ∧ (t.tree (treeKey n.val k.val)).next = none ∧
      { t with fabric := s.fabric } = s) ∧
  (∀ s (n : Fin 96) (k : Fin 32) x, (s.tree (treeKey n.val k.val)).next = some x →
    (s.tree (treeKey n.val k.val)).released = false → exec (.treeOldSourceTimeout n k) s = .next
      ((s.setTree (treeKey n.val k.val) { s.tree (treeKey n.val k.val) with released := true }).fault Unit.clk
        .clock (.unit Unit.clk) 0 (1024 + treeKey n.val k.val))) ∧
  (∀ s (n : Fin 96) (b : Fin 384) (a : Fin 1024) w, Answers (.bramWriteback n b a w false) s fun t =>
    (t.bramWord (bramKey n.val b.val a.val)).data = w ∧
      (∀ k, k ≠ bramKey n.val b.val a.val → t.bramWord k = s.bramWord k)) ∧
  (∀ s (n : Fin 96) (b : Fin 384) (a : Fin 1024) w, Answers (.bramWriteback n b a w true) s fun t =>
    t.fabric = s.fabric) ∧
  (∀ s (n : Fin 96) (b : Fin 384), exec (.bramScrubCycle n b .clean) s =
    .next (s.lapStep (lapBram n.val b.val) 1024)) ∧
  (∀ s (p : Fin 192) x l, (s.ap p.val).inbound = x :: l → s.podStopped (s.apPod p.val) = false →
    s.hasDesign p.val = true → (s.ap p.val).opened.length < 32 → s.paired (s.apPod p.val) = false →
    exec (.accessPointDeliver p) s = .next ((s.handToDesign p.val x l).deliveryRecords p.val x.delivered)) ∧
  (∀ s (p : Fin 192) src tag q a, (s.ap p.val).opened.find? (fun q => q.src == src && q.tag == tag) = some q →
    (src, tag, a) ∈ (s.ap p.val).since → a + 64000 ≤ s.tim.uptime → ∃ u : State, (∀ r ∈ (u.ap p.val).opened, ¬ (r.src = src ∧ r.tag = tag)) ∧
      exec (.fabricTimeout p src tag) s = .next ((u.errorTo q 0).fault (.accessPoint p) .fabricTimeout)) ∧
  (∀ s (e : Fin 1024) d q ok, s.portHeld e.val = false → s.paired (s.portPod e.val) = false →
    (s.engine e.val).toEngine.length < 32 → (s.pod (s.portPod e.val)).silenced = false →
    Answers (.enginePortWord e (some (d, q)) ok) s fun t => { t with eng := s.eng } = s ∧
      (t.engine e.val).toEngine = (s.engine e.val).toEngine ++
        [⟨BitVec.extractLsb' 0 36 d, BitVec.extractLsb' 36 36 d, BitVec.getLsbD q 0, BitVec.getLsbD q 1⟩]) ∧
  (∀ s (e : Fin 1024) w l, s.portHeld e.val = false → (s.engine e.val).fromEngine = w :: l →
    Answers (.enginePortWord e none true) s fun t => (t.engine e.val).fromEngine = l ∧
      t.response = .data (toBytes 9 (w.w0.toNat + 2 ^ 36 * w.w1.toNat)) (w.p0 || w.p1)) ∧
  (∀ s (e : Fin 1024), s.paired (s.portPod e.val) = false → exec (.evInRisingEdge e) s = .next (s.raiseEvent e.val 0)) ∧
  (∀ s (p : Fin 192) src tag, (∀ a, (src, tag, a) ∈ (s.ap p.val).since → s.tim.uptime < a + 64000) →
    exec (.fabricTimeout p src tag) s = .next s)

/-- R99 to R107. -/
def Obligations.PodSwitchesRunTheirWindow : Prop :=
  (∀ s m (p : Fin 48) slot c, s.isTwin p.val = false → s.fullStaged = false →
    s.sprout p.val = Sprout.staged ∨ s.sprout p.val = Sprout.previous → (s.pod p.val).window = .none →
    exec (.podSwitch m p false slot c 0#8) s =
      .next ((((s.podFields p.val false slot.val c 0).podStatus p.val 0).podE0 p.val (!c)).ack)) ∧
  (∀ s m (p : Fin 48) b slot c q, s.isTwin p.val = false → s.fullStaged = false →
    s.sprout p.val = Sprout.idle → exec (.podSwitch m p b slot c q) s = .next (s.podRefuse p.val 0x010A)) ∧
  (∀ s m (p : Fin 48) b slot c q, s.isTwin p.val = true →
    exec (.podSwitch m p b slot c q) s = .next (s.podRefuse p.val Code.podBusy)) ∧
  (∀ s m (p : Fin 48), s.isTwin p.val = false → s.fullStaged = false →
    s.sprout p.val = Sprout.staging ∨ s.sprout p.val = Sprout.staged →
    exec (.podCancel m p) s = .next (((s.setSprout p.val Sprout.idle).podStatus p.val 0).ack)) ∧
  (∀ s m (p : Fin 48), s.isTwin p.val = false → s.podSwitching p.val = false →
    s.sprout p.val ≠ Sprout.repairHeld → s.paired p.val = false → Answers (.podReset m p) s fun t =>
      (t.pod p.val).window = .e0 ∧ (t.pod p.val).reset = true ∧ (t.pod p.val).psr = true ∧
      (t.pod p.val).flips = [] ∧ (t.pod p.val).held = true ∧ t.sprout p.val = s.sprout p.val ∧
      KeepsRegs s t [R.CFG_POD_STATE p.val]) ∧
  (∀ s (p : Fin 48) k, s.sprout p.val = Sprout.armed → (s.pod p.val).slot = some k → s.paired p.val = false →
    s.fld (F.CFG_POD_CTRL_quiesce_us p.val) ≠ 0 →
    s.extend (s.reg (CueUnit.cfg.timeField k.val)) ≤ s.now + 1000 * s.fld (F.CFG_POD_CTRL_quiesce_us p.val) →
    exec (.quiesceStart p) s = .next (s.setPod p.val { s.pod p.val with held := true })) ∧
  (∀ s (p : Fin 48), s.cfg.fullWindow = .none → (s.pod p.val).window = .e0 → s.paired p.val = false →
    exec (.switchE1 p) s = .next (((s.podE1 p.val).showEssential false).showEssential true)) ∧
  (∀ s (p : Fin 48) n k, (s.pod p.val).window = .e0 → s.podOf n.val = p.val →
    (s.tree (treeKey n.val k.val)).low = false → exec (.switchTreeForce p n k) s = .next
      ((s.setTree (treeKey n.val k.val) { s.tree (treeKey n.val k.val) with low := true }).fault Unit.clk .clock
        (.unit Unit.clk) 0 (1024 + treeKey n.val k.val))) ∧
  (∀ s (p : Fin 48), s.cfg.fullWindow = .none → (s.pod p.val).window = .e1 → s.paired p.val = false →
    exec (.switchE2 p) s = .next (s.podE2 p.val)) ∧
  (∀ s (p : Fin 48), s.cfg.fullWindow = .none → (s.pod p.val).window = .e2 →
    exec (.switchE3 p) s = .next (s.closeSwitch p.val).settleSlots) ∧
  (∀ (s : State) (p : Fin 48), (s.podE0 p.val true).dram = s.dram ∧ (s.podE1 p.val).dram = s.dram)

/-- R111 to R116. -/
def Obligations.ScrubbersKeepThePlanes : Prop :=
  (∀ s e x, s.scrubOn = true → ((s.scrubber e).advance e).2.1 = false → Answers (.scrubFrameRead e x) s fun t =>
    { t with cfg := s.cfg } = s ∧ t.cfg.frames = s.cfg.frames ∧
    t.scrubber e = ((s.scrubber e).advance e).2.2.note
      { region := ((s.scrubber e).advance e).1.1
        plane := s.bit (F.CFG_REGION_live_plane ((s.scrubber e).advance e).1.1)
        index := ((s.scrubber e).advance e).1.2 } x) ∧
  (∀ s e k, s.scrubOn = true → s.essentialKeys e = [k] → exec (.essentialScrubRead e .clean) s =
    .next (s.setScrubber e { s.scrubber e with ess := k + 1 })) ∧
  (∀ s e, s.scrubOn = true → s.bit F.CFG_SCRUB_CTRL_sprout_scrub = true → s.mode ≠ Mode.dormant →
    (s.scrubber e).sprout = 0 → s.sproutScrubbed (48 * b2n e) = true → exec (.sproutScrubRead e .clean) s =
      .next (s.setScrubber e { s.scrubber e with sprout := 1 })) ∧
  (∀ s e f l, (s.scrubber e).writeback = f :: l → exec (.scrubWriteback e) s =
    .next (((s.setScrubber e { s.scrubber e with writeback := l }).satFld (F.CFG_SCRUB_CE_corrected (b2n e))
      (F.CFG_SCRUB_CE_overflow (b2n e))).fault Unit.cfg .cfgCe (.unit Unit.cfg) 0 f.address)) ∧
  (∀ s e f l, (s.scrubber e).rewrite = f :: l → f.stale = false → Answers (.frameStoreRewrite e) s fun t =>
    Table.get noFrame t.cfg.frames (frameKey f.region f.plane f.index) =
      Table.get noFrame s.cfg.store (f.region * 5120 + f.index) ∧
    (∀ k, k ≠ frameKey f.region f.plane f.index → Table.get noFrame t.cfg.frames k = Table.get noFrame s.cfg.frames k) ∧
    t.cfg.store = s.cfg.store) ∧
  (∀ s m (n : BitVec 7), n.toNat < 96 → exec (.priorityGo m n) s =
    .next ((s.setFld F.CFG_SCRUB_CTRL_priority_region n.toNat).priorityVisit n.toNat).ack) ∧
  (∀ (s : State) n e (x : Scrubber), s.scrubber e = x → e = decide (48 ≤ n) →
    ((s.priorityVisit n).scrubber e).priority = x.priority.filter (fun r => r.1 != n) ++ [(n, 0)])

/-- R117 to R122, R402, R403. -/
def Obligations.SubstitutionsProceed : Prop :=
  (∀ s (f : FabricFix), s.podSwitching (s.podOf f.region) = false → s.switchDecided (s.podOf f.region) = false →
    s.podFrozen (s.podOf f.region) = false → (s.pod (s.podOf f.region)).repair = none → inService s.mode = true →
    s.bit (F.CFG_POD_STATE_spare_aware (s.podOf f.region)) = true → s.spareSpent f = false →
    Answers (.substitutionOpen (.fabric f)) s fun t => ∃ u : State,
      u = (s.takePlane (s.podOf f.region)).openSub ∧
      t = (u.setPod (s.podOf f.region) { u.pod (s.podOf f.region) with repair := some { fix := f } }).showRepair f 0 true) ∧
  (∀ s (f : FabricFix), s.podSwitching (s.podOf f.region) = false → s.switchDecided (s.podOf f.region) = false →
    s.podFrozen (s.podOf f.region) = false → (s.pod (s.podOf f.region)).repair = none → inService s.mode = true →
    s.spareSpent f = true → exec (.substitutionOpen (.fabric f)) s = .next
      ((s.showRepair f Code.noSpare s.anyRepair).fault .husk .repair (.unit Unit.cfg) Code.noSpare f.region)) ∧
  (∀ s (p : Fin 48) r, (s.pod p.val).repair = some r → r.staged = false → s.podFrozen p.val = false →
    r.fix.kind ≠ 3 → exec (.sproutRebuildDone p true) s = .next ((s.copyPlane r.fix.region).subStage p.val 0)) ∧
  (∀ s (p : Fin 48) r, (s.pod p.val).repair = some r → r.staged = false → s.podFrozen p.val = false →
    r.fix.kind ≠ 3 → exec (.sproutRebuildDone p false) s = .next (s.subAbandon p.val)) ∧
  (∀ s (p : Fin 48) n c k bad, (s.pod p.val).repair = some { fix := .memory n c k } → s.podFrozen p.val = false →
    exec (.memorySpareCopyDone p true bad) s = .next
      (((s.poisonWords (bramKey n.val (64 * c.val + k.val) 0) bad).copyPlane n.val).subStage p.val 0)) ∧
  (∀ s (page : BitVec 36), s.dram.retired.contains page.toNat = false →
    (s.dram.retiring.any fun r => r.1 == page.toNat) = false → s.dram.retired.length < 1024 →
    exec (.pageRetireOpen page) s = .next (State.openSub
      { s with dram := { s.dram with retiring := s.dram.retiring ++ [(page.toNat, false)] } })) ∧
  (∀ s (page : BitVec 36) bad, s.dram.retiring.contains (page.toNat, false) = true →
    ∃ r : Nat × State, r = (s.markLines (bad.map fun l => page.toNat * 64 + l.val)).huskStage
        [(Unit.mp, .remap false (BitVec.ofNat 32 page.toNat))] ∧
      exec (.pageCopyDone page bad) s = .next (if r.1 = 0 then r.2 else { r.2 with dram := { r.2.dram with
        retiring := r.2.dram.retiring.map fun x => if x.1 = page.toNat then (page.toNat, true) else x } }))

/-- R141 to R150. -/
def Obligations.EngineRunControlFollowsTable : Prop :=
  (∀ s (e : Fin 1024), s.isWide e.val = false → s.engState e.val = EngState.running → s.pendingEvents e.val ≠ 0 →
    stIe (s.engine e.val).st = true → stInHandler (s.engine e.val).st = false → (s.engine e.val).lock = 0 →
    (s.engine e.val).far = none → s.isStepping e.val = false → Answers (.interruptEntry e) s fun t =>
      (t.engine e.val).ipc = (s.engine e.val).pc ∧ (t.engine e.val).ist = (s.engine e.val).st ∧
      stIe (t.engine e.val).st = false ∧ stInHandler (t.engine e.val).st = true ∧
      (t.engine e.val).pc = BitVec.ofNat 13 (s.fld (F.ENG_VEC_int_vec e.val)) ∧
      (t.engine e.val).dmem = (s.engine e.val).dmem ∧ (t.engine e.val).g = (s.engine e.val).g ∧
      (∀ k, k ≠ e.val → t.engine k = s.engine k) ∧ t.ctrl = s.ctrl ∧ t.spm = s.spm ∧ t.dram = s.dram) ∧
  (∀ s (e : Fin 1024), s.isWide e.val = false → (s.engine e.val).lock ≠ 0 → s.engState e.val = EngState.running →
    exec (.lockTimeout e) s = .next (s.raise e.val 6)) ∧
  (∀ s (e : Fin 1024) x, s.isWide e.val = false → (s.engine e.val).wdAt = some x → x ≤ s.now →
    s.bit (F.ENG_CTRL_wd_action e.val) = false → s.isStepping e.val = false → Answers (.watchdogExpiry e) s fun t =>
      t.engState e.val = EngState.faulted ∧ t.fld (F.ENG_EXC_cause e.val) = 7 ∧
      t.fld (F.ENG_EXC_pc e.val) = (s.engine e.val).pc.toNat ∧ (t.engine e.val).dmem = (s.engine e.val).dmem) ∧
  (∀ s m (e : Fin 1024), s.isWide e.val = false → s.engState e.val = EngState.running ∨ s.engState e.val = EngState.waiting →
    Answers (.engStop m e) s fun t => (t.engine e.val).stopReq = some s.now ∧ t.engState e.val = s.engState e.val ∧
      t.response = .ack 0#16 ∧ { t with eng := s.eng, response := s.response } = s ∧
      (∀ k, k ≠ e.val → t.engine k = s.engine k)) ∧
  (∀ s (e : Fin 1024) x, s.isWide e.val = false → (s.engine e.val).stopReq = some x → (s.engine e.val).lock = 0 →
    (s.engine e.val).far = none → (s.engine e.val).startReq = none → s.engState e.val = EngState.running →
    Answers (.engineStopBoundary e) s fun t => t.engState e.val = EngState.stopped ∧
      t.fld (F.ENG_STATUS_pc e.val) = (s.engine e.val).pc.toNat ∧ (t.engine e.val).stopReq = none ∧
      (t.engine e.val).dmem = (s.engine e.val).dmem ∧ (t.engine e.val).pc = (s.engine e.val).pc) ∧
  (∀ s m (e : Fin 1024), s.isWide e.val = false → s.engState e.val = EngState.faulted →
    Answers (.engClearFault m e) s fun t => t.engState e.val = EngState.stopped ∧ t.response = .ack 0#16 ∧
      (t.engine e.val).pc = (s.engine e.val).pc) ∧
  (∀ s m (e : Fin 1024), s.isWide e.val = false → s.bundleNames e.val = false → s.engState e.val = EngState.stopped →
    (s.shadow (R.ENG_RUN e.val)).getLsbD 31 = true → Answers (.engApply m e) s fun t =>
      t.engState e.val = EngState.running ∧
      (t.engine e.val).pc = (s.shadow (R.ENG_RUN e.val)).setWidth 13 ∧ t.response = .ack 0#16)

/-- R136, R141, R144, R150, R151, R226, R227. -/
def Obligations.EngineControlPageCompletes : Prop :=
  (∀ s m (e : Fin 1024), s.isWide e.val = false → s.engState e.val = EngState.stopped →
    exec (.engPowerOff m e) s = .next (s.powerDown e.val).ack) ∧
  (∀ s m (e : Fin 1024), s.isWide e.val = false → s.engState e.val = EngState.running →
    exec (.engPowerOff m e) s = .next (s.setFld (F.ENG_STATUS_last_status e.val) 0xFF02).ack) ∧
  (∀ s m (e : Fin 1024), s.isWide e.val = false → s.engState e.val = EngState.off → exec (.engPowerOn m e) s =
    .next (s.setEngine e.val { s.engine e.val with powering := true }).ack) ∧
  (∀ s (e : Fin 1024), s.isWide e.val = false → (s.engine e.val).powering = true →
    Answers (.enginePowerUpDone e) s fun t => t.engState e.val = EngState.stopped ∧
      (t.engine e.val).powering = false) ∧
  (∀ s m (e : Fin 1024) w, e.val % 2 = 0 → s.engState e.val = EngState.stopped → s.engState (e.val + 1) = EngState.off →
    Answers (.engWideWrite m e w) s fun t => t.isWide e.val = w ∧ t.response = .ack 0#16 ∧ t.eng = s.eng ∧
      KeepsRegs s t [R.ENG_CTRL e.val]) ∧
  (∀ s m (e : Fin 1024), s.isWide e.val = false → (s.engine e.val).wdAt = none → exec (.engWdKick m e) s = .next
    (s.setEngine e.val { s.engine e.val with wdLeft := s.fld (F.ENG_WD_period_us e.val) }).ack) ∧
  (∀ s m (e : Fin 1024) f, exec (.engEvtClear m e f) s = .next
    (s.setReg (R.ENG_EVT e.val) (s.reg (R.ENG_EVT e.val) &&& ~~~(BitVec.setWidth 32 f))).ack) ∧
  (∀ s m (e : Fin 1024) n b, s.engState e.val = EngState.stopped → BitVec.toNat n ≤ 32 →
    BitVec.toNat b + 65 * BitVec.toNat n ≤ 16384 → Answers (.engMsgCfgWrite m e n b) s fun t =>
      t.fld (F.ENG_MSG_CFG_slots e.val) = n.toNat ∧ t.fld (F.ENG_MSG_CFG_base e.val) = b.toNat ∧
      t.reg (R.ENG_MSG_STATE e.val) = 0 ∧ KeepsRegs s t [R.ENG_MSG_CFG e.val, R.ENG_MSG_STATE e.val]) ∧
  (∀ s m (e : Fin 1024) n, s.msgUsed e.val < BitVec.toNat n → exec (.engMsgFree m e n) s =
    .next (s.setFld (F.ENG_STATUS_last_status e.val) 0xFF01).ack) ∧
  (∀ s m (e : Fin 1024) n, BitVec.toNat n ≤ s.msgUsed e.val → Answers (.engMsgFree m e n) s fun t =>
    t.msgUsed e.val = s.msgUsed e.val - n.toNat ∧ t.response = .ack 0#16 ∧ KeepsRegs s t [R.ENG_MSG_STATE e.val]) ∧
  (∀ s (e : Fin 1024), exec (.engineScrubCycle e .clean .clean) s = .next (s.lapStep (lapEngine e.val) 20480))

/-- R20, R134, R149, R156. -/
def Obligations.EngineWindowReadsWhatWasWritten : Prop :=
  (∀ s m (e : Fin 1024) (o : BitVec 18) x q h l, o.toNat % 8 = 0 → o.toNat < 0x20000 →
    (s.engine (s.gov e.val)).lock = 0 → Answers (.engineWindowAccess m e o true (some x) q h l) s fun t =>
      t.dword e.val (o.toNat / 8) = { w := ofLayout x, tagH := q, tagL := q } ∧
      (∀ a, a < 16384 → a ≠ o.toNat / 8 → t.dword e.val a = s.dword e.val a) ∧
      (∀ k, k ≠ e.val → t.engine k = s.engine k) ∧ t.response = .ack 0#16 ∧
      { t with eng := s.eng, response := s.response } = s) ∧
  (∀ s m (e : Fin 1024) (o : BitVec 18) q, o.toNat % 8 = 0 → o.toNat < 0x20000 →
    (s.engine (s.gov e.val)).lock = 0 → exec (.engineWindowAccess m e o true none q .clean .clean) s = .next
      (s.reply (toBytes 8 (toLayout (s.dword e.val (o.toNat / 8)).w).toNat)
        ((s.dword e.val (o.toNat / 8)).tagH || (s.dword e.val (o.toNat / 8)).tagL))) ∧
  (∀ s m (e : Fin 1024) (o : BitVec 18) x q h l, o.toNat % 8 = 0 → o.toNat < 0x20000 →
    (s.engine (s.gov e.val)).lock ≠ 0 → exec (.engineWindowAccess m e o true x q h l) s = .next s) ∧
  (∀ s m (e : Fin 1024) (o : BitVec 18) x q h l, o.toNat % 8 ≠ 0 →
    exec (.engineWindowAccess m e o true x q h l) s = .next (s.fault (engUnit e.val) .decode (.unit m)).error) ∧
  (∀ s m (e : Fin 1024) (o : BitVec 18) x q h l, o.toNat % 8 = 0 → 0x20000 ≤ o.toNat → o.toNat < 0x28000 →
    s.engState e.val = EngState.running → exec (.engineWindowAccess m e o true (some x) q h l) s = .next s.error) ∧
  (∀ s m (e : Fin 1024) (o : BitVec 18) x q h l, o.toNat % 8 = 0 → 0x20000 ≤ o.toNat → o.toNat < 0x28000 →
    s.engState e.val = EngState.stopped → Answers (.engineWindowAccess m e o true (some x) q h l) s fun t =>
      t.instrWord e.val ((o.toNat - 0x20000) / 8) = x ∧ t.response = .ack 0#16) ∧
  (∀ x : W36, ofLayout (toLayout x) = x)

/-- R153 to R155. -/
def Obligations.EngineMovesToItsSpare : Prop :=
  (∀ s (e : Fin 1024), (s.spare (e.val / 8)).sub = some e → (s.spare (e.val / 8)).staged = false →
    exec (.engineMoveCopyDone e false) s = .next (s.abandonMove (e.val / 8) e.val)) ∧
  (∀ s (e : Fin 1024), (s.spare (e.val / 8)).sub = some e → (s.spare (e.val / 8)).staged = false →
    s.runStaged e.val = false → s.engState e.val ≠ EngState.halted →
    ∃ r : Nat × State, r = s.huskStage [(engUnit e.val, .engineMove (Fin.ofNat 128 (e.val / 8)))] ∧
      exec (.engineMoveCopyDone e true) s = .next (if r.1 = 0 then r.2
        else r.2.setSpare (e.val / 8) { s.spare (e.val / 8) with staged := true })) ∧
  (∀ s (e : Fin 1024), s.isWide e.val = false → (s.spare (e.val / 8)).sub = some e →
    (s.spare (e.val / 8)).applied = true → (s.engine e.val).lock = 0 → s.engState e.val = EngState.running →
    Answers (.engineMoveStop e) s fun t => t.engState e.val = EngState.moving ∧
      (t.engine e.val).under = EngState.running ∧ (t.engine e.val).dmem = (s.engine e.val).dmem) ∧
  (∀ s (e : Fin 1024), s.isWide e.val = false → (s.spare (e.val / 8)).sub = some e →
    s.engState e.val = EngState.moving → (s.engine e.val).haltReq = false →
    exec (.contextCopyDone e) s = .next (State.closeSub (State.enter (State.setSpare
      ((s.setBit (F.ENG_MAP_moved e.val) true).setFld (F.ENG_MAP_slot e.val) 8) (e.val / 8) {}) e.val
      (s.engine e.val).under) (.engine e)))

/-- R144, R149, R150, R168, R179. -/
def Obligations.KotinSystemInstructionsRun : Prop :=
  (∀ s (e : Fin 1024) (f : KR), Ready s e.val → Answers (.nop e f {}) s (Ran e.val s)) ∧
  (∀ s (e : Fin 1024) (f : KR), Ready s e.val → (s.engine e.val).startReq = none → Answers (.kend e f {}) s fun t =>
    t.engState e.val = EngState.stopped ∧ (t.engine e.val).pc = (s.engine e.val).pc ∧
      t.fld (F.ENG_STATUS_pc e.val) = (s.engine e.val).pc.toNat ∧ (t.engine e.val).g = (s.engine e.val).g ∧
      (t.engine e.val).dmem = (s.engine e.val).dmem ∧ (∀ k, k ≠ e.val → t.engine k = s.engine k)) ∧
  (∀ s (e : Fin 1024) (f : KR), Ready s e.val → 1 ≤ f.imm.toNat → f.imm.toNat ≤ 8 → Answers (.lock e f {}) s
    (Ran e.val (s.setEngine e.val { s.engine e.val with
      lock := f.imm.toNat, lockAt := (s.engine e.val).pc, lockN := f.imm.toNat }))) ∧
  (∀ s (e : Fin 1024) (f : KR), Ready s e.val → f.imm.toNat = 0 ∨ 8 < f.imm.toNat → ∃ u : State,
    SameBut e.val s u ∧ u.engine e.val = s.engine e.val ∧ exec (.lock e f {}) s = .next (u.raise e.val 1)) ∧
  (∀ s (e : Fin 1024) (f : KR), Ready s e.val → Answers (.kick e f {}) s (Ran e.val (s.wdReload e.val))) ∧
  (∀ s (e : Fin 1024) (f : KR), Ready s e.val → Answers (.rti e f {}) s
    (Jumped e.val (s.setSt e.val (s.engine e.val).ist) (s.engine e.val).ipc)) ∧
  (∀ s (e : Fin 1024) (f : KR), Ready s e.val →
    stRnd (((s.st e.val &&& ~~~(f.imm >>> 16)) ||| ((f.imm &&& 0xFFFF#32) &&& (f.imm >>> 16))) &&& stMask) < 2 →
    Answers (.stm e f {}) s (Ran e.val (s.setSt e.val
      (((s.st e.val &&& ~~~(f.imm >>> 16)) ||| ((f.imm &&& 0xFFFF#32) &&& (f.imm >>> 16))) &&& stMask)))) ∧
  (∀ s (e : Fin 1024) (f : KR), Ready s e.val → f.d.toNat < s.gLimit e.val → Answers (.rdst e f {}) s
    (Ran e.val (s.putW e.val f.d.toNat ((s.st e.val).setWidth 36)))) ∧
  (∀ s (e : Fin 1024) (f : KR), Ready s e.val → f.a.toNat < s.gLimit e.val → (s.getG e.val f.a.toNat).clean = true →
    stRnd ((s.getG e.val f.a.toNat).w.setWidth 32 &&& stMask) < 2 → Answers (.wrst e f {}) s
      (Ran e.val (s.setSt e.val ((s.getG e.val f.a.toNat).w.setWidth 32 &&& stMask))))

/-- R159, R162, R177, R178. -/
def Obligations.KotinMovesAndMemoryInstructionsRun : Prop :=
  (∀ s (e : Fin 1024) (f : KI), Ready s e.val → f.d.toNat < s.gLimit e.val →
    Answers (.ldi e f {}) s (Ran e.val (s.putG e.val f.d.toNat { w := f.imm }))) ∧
  (∀ s (e : Fin 1024) (f : KR), Ready s e.val → f.d.toNat < s.gLimit e.val → f.a.toNat < s.gLimit e.val →
    Answers (.mov e f {}) s (Ran e.val (s.putG e.val f.d.toNat ((s.getG e.val f.d.toNat).withHalves
      (s.getG e.val f.a.toNat) (f.mod.toNat % 4 != 2) (f.mod.toNat % 4 != 1))))) ∧
  (∀ x y : GReg, x.withHalves y true true = y) ∧
  (∀ s (e : Fin 1024) (f : KR), Ready s e.val → f.d.toNat < s.gLimit e.val → f.a.toNat < s.gLimit e.val →
    Answers (.swp e f {}) s (Ran e.val (s.putG e.val f.d.toNat
      { w := ((s.getG e.val f.a.toNat).w.extractLsb' 0 18 ++ (s.getG e.val f.a.toNat).w.extractLsb' 18 18 : BitVec 36),
        tagH := (s.getG e.val f.a.toNat).tagL, tagL := (s.getG e.val f.a.toNat).tagH }))) ∧
  (∀ s (e : Fin 1024) (f : KR), Ready s e.val → f.d.toNat < s.gLimit e.val → f.a.toNat < s.gLimit e.val →
    (s.getG e.val f.a.toNat).tagL = false → Answers (.cnj e f {}) s (Ran e.val
      ((s.putG e.val f.d.toNat
        (GReg.mk (ofHalves (s.getG e.val f.a.toNat).h
          (if (s.getG e.val f.a.toNat).l = -131072 then 131071 else -(s.getG e.val f.a.toNat).l))
          (s.getG e.val f.a.toNat).tagH false)).stick e.val 4 ((s.getG e.val f.a.toNat).l == -131072)))) ∧
  (∀ s (e : Fin 1024) (f : KR) r, Ready s e.val → f.d.toNat < s.gLimit e.val → s.areg e.val f.a = .ok r →
    Answers (.rda e f {}) s (Ran e.val (s.put32 e.val f.d.toNat (s.aregValue e.val r).toNat))) ∧
  (∀ s (e : Fin 1024) (f : KR) r, Ready s e.val → s.areg e.val f.d = .ok r → f.mod.getLsbD 2 = true →
    s.aregOk e.val f.imm r = true → (∀ j, r ≠ .lc j) → Answers (.wra e f {}) s (Ran e.val (s.aregWrite e.val f.imm r))) ∧
  (∀ s (e : Fin 1024) (f : KR) r, Ready s e.val → s.areg e.val f.d = .ok r → f.mod.getLsbD 2 = false →
    f.a.toNat < s.gLimit e.val → (s.getG e.val f.a.toNat).clean = true →
    s.aregOk e.val ((s.getG e.val f.a.toNat).w.setWidth 32) r = true →
    (∀ j, r ≠ .lc j) → Answers (.wra e f {}) s
      (Ran e.val (s.aregWrite e.val ((s.getG e.val f.a.toNat).w.setWidth 32) r))) ∧
  (∀ s (e : Fin 1024) (f : KR) j, Ready s e.val → s.areg e.val f.d = .ok (.lc j) → f.mod.getLsbD 2 = true →
    exec (.wra e f {}) s = .next ((s.aregWrite e.val f.imm (.lc j)).completeAt e.val 0 .seq [] [])) ∧
  (∀ s (e : Fin 1024) (f : KT), Ready s e.val → f.d.toNat < s.gLimit e.val → f.p.toNat < s.ptrLimit e.val →
    Answers (.ld e f {}) s (Ran e.val ((s.postModify e.val f.p.toNat f.pm.toNat).putG e.val f.d.toNat
      (s.dword (ptrEng e.val f.p.toNat) (s.ptr e.val f.p.toNat))))) ∧
  (∀ s (e : Fin 1024) (f : KT), Ready s e.val → f.d.toNat < s.gLimit e.val → f.p.toNat < s.ptrLimit e.val →
    Answers (.kst e f {}) s (Ran e.val ((s.setDword (ptrEng e.val f.p.toNat) (s.ptr e.val f.p.toNat)
      (s.getG e.val f.d.toNat)).postModify e.val f.p.toNat f.pm.toNat)))

/-- R175, R176; R158 and R161 for the exceptions. -/
def Obligations.KotinAluInstructionsRun : Prop :=
  ∀ p ∈ ([(.add, .add), (.sub, .sub), (.kand, .and), (.kor, .or), (.xor, .xor), (.shl, .shl), (.shr, .shr),
      (.shru, .shru), (.cmp, .cmp), (.neg, .neg), (.kabs, .abs), (.kmin, .min), (.kmax, .max)] :
      List ((Fin 1024 → KR → Hw → Instr) × Alu)),
    (∀ s (e : Fin 1024) (f : KR), Ready s e.val → AluLegal s e.val f p.2 →
      Answers (p.1 e f {}) s (Ran e.val (aluEffect s e.val f p.2))) ∧
    (∀ s (e : Fin 1024) (f : KR), Ready s e.val → 16 ≤ f.mod.toNat ∨ f.mod.toNat % 16 = 11 ∨ f.mod.toNat % 16 = 15 →
      exec (p.1 e f {}) s = .next (s.raise e.val 1)) ∧
    (∀ s (e : Fin 1024) (f : KR), Ready s e.val → f.mod.toNat < 8 → f.mod.getLsbD 2 = true →
      f.a.toNat < s.gLimit e.val → f.d.toNat < s.gLimit e.val →
      (s.getG e.val f.a.toNat).laneClean (f.mod.toNat % 4) = false →
      exec (p.1 e f {}) s = .next (s.raise e.val 2))

/-- R175, R176. -/
def Obligations.LanesComputeAsTheTableSays : Prop :=
  (∀ (s : State) n (f : KR) (x y : BitVec 32) (k : Nat), x = (s.getG n f.a.toNat).w.setWidth 32 →
    y = (s.aluB n f 3).w.setWidth 32 → k = s.aluAmount n f →
    (∀ p ∈ ([(.add, x + y, decide (2 ^ 32 ≤ x.toNat + y.toNat)), (.sub, x - y, decide (y.toNat ≤ x.toNat)),
        (.and, x &&& y, false), (.or, x ||| y, false), (.xor, x ^^^ y, false), (.shl, x <<< k, false),
        (.shr, x.sshiftRight k, false), (.shru, x >>> k, false), (.neg, -x, false),
        (.abs, if x.msb then -x else x, false), (.min, if x.slt y then x else y, false),
        (.max, if x.slt y then y else x, false)] : List (Alu × BitVec 32 × Bool)),
      s.aluWord n f p.1 = (s.putW n f.d.toNat (p.2.1.setWidth 36)).setFlags n
        { n := p.2.1.msb, z := p.2.1 == 0#32, c := p.2.2 }) ∧
    s.aluWord n f .cmp = s.setFlags n { n := x.slt y, z := x == y, c := decide (y.toNat ≤ x.toNat) }) ∧
  (∀ v : Int, (laneResult 18 false v).1 = (BitVec.ofInt 18 v).toInt ∧ (laneResult 18 false v).2 = false) ∧
  (∀ v : Int, (laneResult 18 true v).1 = max (-131072) (min 131071 v) ∧
    ((laneResult 18 true v).2 = true ↔ v < -131072 ∨ 131071 < v)) ∧
  (∀ (s : State) n (f : KR) op, op ≠ .cmp → f.mod.toNat % 4 = 1 →
    ((s.aluHalves n f op 1).getG n f.d.toNat).l = (s.getG n f.d.toNat).l ∧
    ((s.aluHalves n f op 1).getG n f.d.toNat).tagL = (s.getG n f.d.toNat).tagL ∧
    ((s.aluHalves n f op 1).getG n f.d.toNat).tagH = false ∧
    ((s.aluHalves n f op 1).getG n f.d.toNat).h =
      (laneResult 18 (f.mod.getLsbD 3) (aluLane op 18 (s.getG n f.a.toNat).h (s.aluB n f 1).h (s.aluAmount n f)).1).1) ∧
  (∀ (s : State) n (f : KR) op, op ≠ .cmp → f.mod.toNat % 4 = 2 →
    ((s.aluHalves n f op 2).getG n f.d.toNat).h = (s.getG n f.d.toNat).h ∧
    ((s.aluHalves n f op 2).getG n f.d.toNat).tagH = (s.getG n f.d.toNat).tagH ∧
    ((s.aluHalves n f op 2).getG n f.d.toNat).tagL = false ∧
    ((s.aluHalves n f op 2).getG n f.d.toNat).l =
      (laneResult 18 (f.mod.getLsbD 3) (aluLane op 18 (s.getG n f.a.toNat).l (s.aluB n f 2).l (s.aluAmount n f)).1).1) ∧
  (∀ (x y : Int) k, (aluLane .add 18 x y k).1 = x + y ∧ (aluLane .sub 18 x y k).1 = x - y ∧
    (aluLane .neg 18 x y k).1 = -x ∧ (aluLane .abs 18 x y k).1 = |x| ∧ (aluLane .min 18 x y k).1 = min x y ∧
    (aluLane .max 18 x y k).1 = max x y ∧ (aluLane .shl 18 x y k).1 = x * 2 ^ k ∧
    (aluLane .shr 18 x y k).1 = x / 2 ^ k) ∧
  (∀ (x y : BitVec 18) k, 18 ≤ k → (aluLane .shru 18 x.toInt y.toInt k).1 = 0 ∧
    (aluLane .shr 18 x.toInt y.toInt k).1 = (if x.msb then -1 else 0)) ∧
  (laneResult 18 true (aluLane .neg 18 (-131072) 0 0).1).1 = 131071 ∧
  (laneResult 18 false (aluLane .abs 18 (-131072) 0 0).1).1 = -131072

/-- R165. -/
def Obligations.AccumulationIsExact : Prop :=
  (∀ (s : State) n k (a : Int) clr, s.accumulate n [{ k := k, add := a, clear := clr }] =
    (s.putAcc n k ((if clr then 0 else s.getAcc n k) + a)).stick n 3
      (decide ((if clr then 0 else s.getAcc n k) + a < -(2 ^ 47 : Int) ∨
        (2 ^ 47 : Int) - 1 < (if clr then 0 else s.getAcc n k) + a))) ∧
  (∀ (s : State) n x l, s.accumulate n (x :: l) = (s.accumulate n [x]).accumulate n l) ∧
  (∀ (s : State) n k (v : Int), k < 8 → (s.putAcc n k v).getAcc n k = (BitVec.ofInt 48 v).toInt) ∧
  (∀ (s : State) n k j (v : Int), k < 8 → j < 8 → j ≠ k → (s.putAcc n k v).getAcc n j = s.getAcc n j) ∧
  (∀ s (e : Fin 1024) (f : KR), Ready s e.val → f.mod.toNat < 16 → AccLegal s e.val f.d.toNat false →
    f.a.toNat < s.gLimit e.val → f.b.toNat < s.gLimit e.val →
    (s.getG e.val f.a.toNat).halfClean (f.mod.getLsbD 0) = true →
    (s.getG e.val f.b.toNat).halfClean (f.mod.getLsbD 1) = true →
    Answers (.mac e f {}) s (Ran e.val (s.accumulate e.val [{
      k := f.d.toNat,
      add := (if f.mod.getLsbD 2 then -1 else 1) * ((s.getG e.val f.a.toNat).half (f.mod.getLsbD 0) *
        (s.getG e.val f.b.toNat).half (f.mod.getLsbD 1)),
      clear := f.mod.getLsbD 3 }])))

/-- R170. -/
def Obligations.ComplexAccumulationFollowsTheProduct : Prop :=
  (∀ x y : GReg, cmul false x y = (x.h * y.h - x.l * y.l, x.h * y.l + x.l * y.h) ∧
    cmul true x y = (x.h * y.h + x.l * y.l, x.l * y.h - x.h * y.l)) ∧
  (∀ k conj sub clr (x y : GReg), cacc k conj sub clr x y =
    [{ k := k, add := (if sub then -1 else 1) * (cmul conj x y).1, clear := clr },
     { k := k + 1, add := (if sub then -1 else 1) * (cmul conj x y).2, clear := clr }]) ∧
  (∀ s (e : Fin 1024) (f : KR), Ready s e.val → f.mod.toNat < 16 → f.mod.getLsbD 1 = false →
    AccLegal s e.val f.d.toNat true → f.a.toNat < s.gLimit e.val → f.b.toNat < s.gLimit e.val →
    (s.getG e.val f.a.toNat).clean = true → (s.getG e.val f.b.toNat).clean = true →
    Answers (.cmac e f {}) s (Ran e.val (s.accumulate e.val (cacc f.d.toNat (f.mod.getLsbD 0) (f.mod.getLsbD 2)
      (f.mod.getLsbD 3) (s.getG e.val f.a.toNat) (s.getG e.val f.b.toNat))))) ∧
  (∀ s (e : Fin 1024) (f : KR), Ready s e.val → f.d.toNat % 2 = 1 →
    exec (.cmac e f {}) s = .next (s.raise e.val 1)) ∧
  (∀ s (e : Fin 1024) (f : KM), Ready s e.val → XcLegal s e.val f → f.ys = 0 → f.mod.getLsbD 1 = false →
    f.mod.getLsbD 4 = false → AccLegal s e.val f.k.toNat true →
    (s.opWord e.val f.xs).clean = true → (s.opWord e.val f.cs).clean = true →
    Answers (.cmacm e f {}) s (Ran e.val ((s.stepXc e.val f).accumulate e.val (cacc f.k.toNat (f.mod.getLsbD 0)
      (f.mod.getLsbD 2) (f.mod.getLsbD 3) (s.opWord e.val f.xs) (s.opWord e.val f.cs)))))

/-- R171 to R173, R164, R147. -/
def Obligations.MemoryMultipliesRun : Prop :=
  (∀ s (e : Fin 1024) (f : KM), Ready s e.val → XcLegal s e.val f → f.mod.getLsbD 4 = false → f.ys = 0 →
    AccLegal s e.val f.k.toNat false → (s.opWord e.val f.xs).halfClean (f.mod.getLsbD 0) = true →
    (s.opWord e.val f.cs).halfClean (f.mod.getLsbD 1) = true →
    Answers (.macm e f {}) s (Ran e.val ((s.stepXc e.val f).accumulate e.val [{
      k := f.k.toNat,
      add := (if f.mod.getLsbD 2 then -1 else 1) *
        ((s.opWord e.val f.xs).half (f.mod.getLsbD 0) * (s.opWord e.val f.cs).half (f.mod.getLsbD 1)),
      clear := f.mod.getLsbD 3 }]))) ∧
  (∀ s (e : Fin 1024) (f : KM), Ready s e.val → XcLegal s e.val f → f.mod.getLsbD 4 = true → YLegal s e.val f →
    AccLegal s e.val f.k.toNat true → (s.opWord e.val f.xs).halfClean (f.mod.getLsbD 0) = true →
    (s.opWord e.val f.ys).halfClean (f.mod.getLsbD 0) = true →
    (s.opWord e.val f.cs).halfClean (f.mod.getLsbD 1) = true →
    Answers (.macm e f {}) s (Ran e.val ((s.stepAll e.val f).accumulate e.val [
      { k := f.k.toNat, clear := f.mod.getLsbD 3,
        add := (if f.mod.getLsbD 2 then -1 else 1) *
          ((s.opWord e.val f.xs).half (f.mod.getLsbD 0) * (s.opWord e.val f.cs).half (f.mod.getLsbD 1)) },
      { k := f.k.toNat + 1, clear := f.mod.getLsbD 3,
        add := (if f.mod.getLsbD 2 then -1 else 1) *
          ((s.opWord e.val f.ys).half (f.mod.getLsbD 0) * (s.opWord e.val f.cs).half (f.mod.getLsbD 1)) }]))) ∧
  (∀ s (e : Fin 1024) (f : KM), Ready s e.val → s.isWide e.val = true → XcLegal s e.val f → YLegal s e.val f →
    f.k.toNat = 0 ∨ f.k.toNat = 2 → f.mod.getLsbD 1 = false → f.mod.getLsbD 4 = false →
    (s.opWord e.val f.xs).clean = true → (s.opWord e.val f.ys).clean = true → (s.opWord e.val f.cs).clean = true →
    Answers (.cmac2 e f {}) s (Ran e.val ((s.stepAll e.val f).accumulate e.val (
      cacc f.k.toNat (f.mod.getLsbD 0) (f.mod.getLsbD 2) (f.mod.getLsbD 3) (s.opWord e.val f.xs) (s.opWord e.val f.cs) ++
      cacc (f.k.toNat + 4) (f.mod.getLsbD 0) (f.mod.getLsbD 2) (f.mod.getLsbD 3) (s.opWord e.val f.ys)
        (s.opWord e.val f.cs))))) ∧
  (∀ s (e : Fin 1024) (f : KM), Ready s e.val → XcLegal s e.val f → specPtr f.ys < s.ptrLimit e.val →
    f.mod.getLsbD 4 = false → AccLegal s e.val f.k.toNat (f.mod.getLsbD 0) →
    (if f.mod.getLsbD 0 then (s.opWord e.val f.xs).clean && (s.opWord e.val f.cs).clean
      else !(s.opWord e.val f.xs).tagH && !(s.opWord e.val f.cs).tagH) = true →
    Answers (.ftap e f {}) s (Ran e.val (((s.setDword (ptrEng e.val (specPtr f.ys)) (s.ptr e.val (specPtr f.ys))
      (s.opWord e.val f.xs)).stepAll e.val f).accumulate e.val
        (if f.mod.getLsbD 0 then cacc f.k.toNat (f.mod.getLsbD 1) (f.mod.getLsbD 2) (f.mod.getLsbD 3)
            (s.opWord e.val f.xs) (s.opWord e.val f.cs)
          else [AccAdd.mk f.k.toNat ((if f.mod.getLsbD 2 then -1 else 1) *
            ((s.opWord e.val f.xs).h * (s.opWord e.val f.cs).h)) (f.mod.getLsbD 3)])))) ∧
  (∀ s (e : Fin 1024) (f : KM) m r, Ready s e.val → XcLegal s e.val f → YLegal s e.val f → f.mod.getLsbD 4 = false →
    m = (if f.mod.toNat / 2 % 8 = 0 then stScale (s.st e.val) else f.mod.toNat / 2 % 8 - 4) →
    f.mod.toNat / 2 % 8 = 0 ∨ 4 ≤ f.mod.toNat / 2 % 8 →
    (s.opWord e.val f.xs).clean = true → (s.opWord e.val f.ys).clean = true → (s.opWord e.val f.cs).clean = true →
    r = s.moved e.val m 17
      (bflySums (f.mod.getLsbD 0) (s.opWord e.val f.xs) (s.opWord e.val f.ys) (s.opWord e.val f.cs)) →
    Answers (.bfly e f {}) s (Ran e.val
      (((r.2.setDword (ptrEng e.val (specPtr f.xs)) (s.ptr e.val (specPtr f.xs))
        { w := ofHalves (r.1.getD 0 0) (r.1.getD 1 0) }).setDword (ptrEng e.val (specPtr f.ys))
        (s.ptr e.val (specPtr f.ys)) { w := ofHalves (r.1.getD 2 0) (r.1.getD 3 0) }).stepAll e.val f))) ∧
  (∀ s (e : Fin 1024) (f : KR), Ready s e.val → f.mod.getLsbD 0 = false → AccLegal s e.val f.d.toNat false →
    exec (.clra e f { residueOk := false }) s = .next (s.raise e.val 9))

/-- R166, R167, R174. -/
def Obligations.AccumulatorMovesRoundAndClamp : Prop :=
  (∀ s (e : Fin 1024) (f : KR), Ready s e.val → AccLegal s e.val f.d.toNat (f.mod.getLsbD 0) →
    Answers (.clra e f {}) s (Ran e.val (s.accumulate e.val
      (if f.mod.getLsbD 0 then [AccAdd.mk f.d.toNat 0 true, AccAdd.mk (f.d.toNat + 1) 0 true]
        else [AccAdd.mk f.d.toNat 0 true])))) ∧
  (∀ s (e : Fin 1024) (f : KR), Ready s e.val → f.mod.toNat % 4 ≠ 3 → f.b.toNat ≤ 30 →
    AccLegal s e.val f.d.toNat (f.mod.toNat % 4 == 0) → f.a.toNat < s.gLimit e.val →
    (s.getG e.val f.a.toNat).laneClean (f.mod.toNat % 4) = true →
    Answers (.lda e f {}) s (Ran e.val (s.accumulate e.val
      (if f.mod.toNat % 4 = 0 then [AccAdd.mk f.d.toNat ((s.getG e.val f.a.toNat).h * 2 ^ f.b.toNat) true,
          AccAdd.mk (f.d.toNat + 1) ((s.getG e.val f.a.toNat).l * 2 ^ f.b.toNat) true]
        else if f.mod.toNat % 4 = 1 then [AccAdd.mk f.d.toNat ((s.getG e.val f.a.toNat).h * 2 ^ f.b.toNat) true]
        else [AccAdd.mk f.d.toNat ((s.getG e.val f.a.toNat).l * 2 ^ f.b.toNat) true])))) ∧
  (∀ s (e : Fin 1024) (f : KR), Ready s e.val → AccLegal s e.val f.d.toNat false → AccLegal s e.val f.a.toNat false →
    Answers (.adda e f {}) s (Ran e.val (s.accumulate e.val [AccAdd.mk f.d.toNat
      ((if f.mod.getLsbD 2 then -1 else 1) * s.getAcc e.val f.a.toNat) false]))) ∧
  (∀ s (e : Fin 1024) (f : KR) m r, Ready s e.val → f.mod.toNat % 4 = 0 → f.b.toNat ≤ 30 →
    AccLegal s e.val f.a.toNat true → f.d.toNat < s.gLimit e.val →
    f.mod.toNat / 4 % 8 = 0 ∨ 4 ≤ f.mod.toNat / 4 % 8 →
    m = (if f.mod.toNat / 4 % 8 = 0 then stScale (s.st e.val) else f.mod.toNat / 4 % 8 - 4) →
    r = s.moved e.val m f.b.toNat [s.getAcc e.val f.a.toNat, s.getAcc e.val (f.a.toNat + 1)] →
    Answers (.mova e f {}) s
      (Ran e.val (r.2.putG e.val f.d.toNat { w := ofHalves (r.1.getD 0 0) (r.1.getD 1 0) }))) ∧
  (∀ s (e : Fin 1024) (f : KR) m r, Ready s e.val → f.mod.toNat % 4 = 1 ∨ f.mod.toNat % 4 = 2 → f.b.toNat ≤ 30 →
    AccLegal s e.val f.a.toNat false → f.d.toNat < s.gLimit e.val →
    f.mod.toNat / 4 % 8 = 0 ∨ 4 ≤ f.mod.toNat / 4 % 8 →
    m = (if f.mod.toNat / 4 % 8 = 0 then stScale (s.st e.val) else f.mod.toNat / 4 % 8 - 4) →
    r = s.moved e.val m f.b.toNat [s.getAcc e.val f.a.toNat] →
    Answers (.mova e f {}) s (Ran e.val (r.2.putG e.val f.d.toNat ((s.getG e.val f.d.toNat).withHalves
      { w := ofHalves (r.1.getD 0 0) (r.1.getD 0 0) } (f.mod.toNat % 4 == 1) (f.mod.toNat % 4 == 2))))) ∧
  (∀ (v : Int) e, shround 1 v e = v / 2 ^ e ∧ 2 * |v - shround 0 v e * 2 ^ e| ≤ 2 ^ e ∧
    (2 * |v - shround 0 v e * 2 ^ e| = 2 ^ e → shround 0 v e % 2 = 0)) ∧
  (∀ (s : State) n m sh (vs : List Int), ∀ q ∈ (s.moved n m sh vs).1, -131072 ≤ q ∧ q ≤ 131071) ∧
  (∀ r sh (v : Int), scaleAll 0 r sh [v] = ([shround r v sh], false) ∧
    scaleAll 1 r sh [v] = ([shround r v (sh + 1)], false) ∧
    scaleAll 2 r (sh + 1) [v] = ([shround r v sh], false) ∧ scaleAll 2 r 0 [v] = ([v * 2], false)) ∧
  (∀ r sh (v w : Int), scaleAll 3 r sh [v, w] =
    (if fits (shround r v sh) && fits (shround r w sh) then ([shround r v sh, shround r w sh], false)
      else ([shround r v (sh + 1), shround r w (sh + 1)], true)))

/-- R180, R181. -/
def Obligations.ControlFlowTransfers : Prop :=
  (∀ (s : State) (e : Fin 1024) (f : KC), Ready s e.val → s.cond e.val f.cond = some true →
    s.isWide e.val = true ∨ f.target.toNat < 4096 →
    Answers (.br e f {}) s (Jumped e.val s f.target) ∧
    ((s.engine e.val).depth < 16 → Answers (.call e f {}) s (Jumped e.val
      (s.setEngine e.val { (s.engine e.val).setStack (s.engine e.val).depth ((s.engine e.val).pc + 1) with
        depth := (s.engine e.val).depth + 1 }) f.target)) ∧
    (16 ≤ (s.engine e.val).depth → exec (.call e f {}) s = .next (s.raise e.val 4))) ∧
  (∀ (s : State) (e : Fin 1024) (f : KC), Ready s e.val → s.cond e.val f.cond = some true →
    (0 < (s.engine e.val).depth → Answers (.ret e f {}) s (Jumped e.val
      (s.setEngine e.val { s.engine e.val with depth := (s.engine e.val).depth - 1 })
      ((s.engine e.val).stackAt ((s.engine e.val).depth - 1)))) ∧
    ((s.engine e.val).depth = 0 → exec (.ret e f {}) s = .next (s.raise e.val 4))) ∧
  (∀ (s : State) (e : Fin 1024) (f : KC), Ready s e.val → s.cond e.val f.cond = some true → f.a.toNat < s.gLimit e.val →
    (s.getG e.val f.a.toNat).clean = true →
    s.isWide e.val = true ∨ (s.getG e.val f.a.toNat).w.getLsbD 12 = false →
    Answers (.jr e f {}) s (Jumped e.val s ((s.getG e.val f.a.toNat).w.setWidth 13))) ∧
  (∀ (s : State) (e : Fin 1024) (f : KC), Ready s e.val → s.cond e.val f.cond = some false →
    s.isWide e.val = true ∨ f.target.toNat < 4096 → f.a.toNat < s.gLimit e.val →
    ∀ c ∈ ([.br, .call, .ret, .jr] : List (Fin 1024 → KC → Hw → Instr)), Answers (c e f {}) s (Ran e.val s)) ∧
  (∀ (s : State) (e : Fin 1024) (f : KC), Ready s e.val → 12 ≤ f.cond.toNat → f.a.toNat < s.gLimit e.val →
    ∀ c ∈ ([.br, .call, .ret, .jr] : List (Fin 1024 → KC → Hw → Instr)),
      exec (c e f {}) s = .next (s.raise e.val 1)) ∧
  (∀ (s : State) (e : Fin 1024) (f : KC) g, Ready s e.val → f.cond = 0 → s.isWide e.val = true ∨ f.target.toNat < 4096 →
    (s.engine e.val).pc.toNat + 1 ≤ f.target.toNat → (s.engine e.val).lcAt 0 = 0 →
    g = ((s.engine e.val).setLs 0 ((s.engine e.val).pc + 1)).setLe 0 f.target →
    (f.count ≠ 0 → Answers (.loop e f {}) s (Ran e.val (s.setEngine e.val (g.setLc 0 f.count)))) ∧
    (f.a.toNat < s.gLimit e.val → (s.getG e.val f.a.toNat).clean = true →
      (s.getG e.val f.a.toNat).w.setWidth 16 ≠ 0#16 → Answers (.loopr e f {}) s
        (Ran e.val (s.setEngine e.val (g.setLc 0 ((s.getG e.val f.a.toNat).w.setWidth 16))))) ∧
    (f.a.toNat < s.gLimit e.val → (s.getG e.val f.a.toNat).clean = true → f.target.toNat < 8191 →
      (s.getG e.val f.a.toNat).w.setWidth 16 = 0#16 → Answers (.loopr e f {}) s (Jumped e.val s (f.target + 1)))) ∧
  (∀ (s : State) (e : Fin 1024) (f : KC), Ready s e.val →
    f.count = 0 ∨ f.cond ≠ 0 ∨ f.target.toNat < (s.engine e.val).pc.toNat + 1 →
    exec (.loop e f {}) s = .next (s.raise e.val 1))

/-- R182, R183, R149. -/
def Obligations.LoopsAndBracketsCount : Prop :=
  (∀ (s : State) (e : Fin 1024) (f : KR), Runs s e.val → exec (.nop e f {}) s =
    .next (s.setEngine e.val ((s.engine e.val).advance (s.engine e.val).pc .seq))) ∧
  (∀ (g : Engine) j, g.inner = some j → g.leAt j ≠ g.pc → g.pc.toNat < 8191 →
    g.advance g.pc .seq = { g with pc := g.pc + 1, past := false }) ∧
  (∀ (g : Engine) j, g.inner = some j → g.leAt j = g.pc → g.lcAt j ≠ 1 →
    g.advance g.pc .seq = { g.setLc j (g.lcAt j - 1) with pc := g.lsAt j, past := false }) ∧
  (∀ (g : Engine) j, g.inner = some j → g.leAt j = g.pc → g.lcAt j = 1 →
    g.advance g.pc .seq = (g.setLc j 0).advance g.pc .seq) ∧
  (∀ (g : Engine) j t, g.inner = some j → (g.lsAt j).toNat ≤ t → t ≤ (g.leAt j).toNat → g.leaveLoops t 4 = g) ∧
  (∀ (g : Engine) j t, g.inner = some j → t < (g.lsAt j).toNat ∨ (g.leAt j).toNat < t →
    g.leaveLoops t 4 = (g.setLc j 0).leaveLoops t 4) ∧
  (∀ (g : Engine) t, g.inner = none → g.leaveLoops t 4 = g) ∧
  (∀ (s : State) (e : Fin 1024) (f : KC), Runs s e.val → s.cond e.val f.cond = some true →
    s.isWide e.val = true ∨ f.target.toNat < 4096 →
    (∀ j, (s.engine e.val).inner = some j → (s.engine e.val).leAt j ≠ (s.engine e.val).pc) →
    Answers (.br e f {}) s fun t =>
      t.engine e.val = { (s.engine e.val).leaveLoops f.target.toNat 4 with pc := f.target, past := false } ∧
      SameBut e.val s t) ∧
  (∀ (s : State) (e : Fin 1024) j, Runs s e.val → (s.engine e.val).inner = some j →
    (s.engine e.val).leAt j = (s.engine e.val).pc →
    (∀ (f : KC), ∀ c ∈ ([.br, .call, .ret, .jr, .loop, .loopr] : List (Fin 1024 → KC → Hw → Instr)),
      exec (c e f {}) s = .next (s.raise e.val 1)) ∧
    (∀ (f : KR), ∀ c ∈ ([.rti, .kend, .lock] : List (Fin 1024 → KR → Hw → Instr)),
      exec (c e f {}) s = .next (s.raise e.val 1))) ∧
  (∀ (s : State) (e : Fin 1024) (f : KC), Runs s e.val → (∀ j, j < 4 → (s.engine e.val).lcAt j ≠ 0) →
    (s.engine e.val).leAt 3 ≠ (s.engine e.val).pc → f.cond = 0 → f.count ≠ 0 →
    s.isWide e.val = true ∨ f.target.toNat < 4096 → (s.engine e.val).pc.toNat + 1 ≤ f.target.toNat →
    exec (.loop e f {}) s = .next (s.raise e.val 5)) ∧
  (∀ (s : State) (e : Fin 1024) k, s.oddOfPair e.val = false → s.engState e.val = EngState.running →
    (s.engine e.val).far = none → (s.engine e.val).lateErrors = [] → (s.engine e.val).lock = k + 1 →
    (s.engine e.val).past = false → (s.engine e.val).pc.toNat < (if s.isWide e.val then 8191 else 4096) →
    (s.engine e.val).inner = none → (s.engine e.val).breaks = [] → (s.engine e.val).passBreak = false →
    s.mon.stepping = none → (s.engine e.val).hitReq = none → (s.engine e.val).haltReq = false →
    (∀ f, Answers (.nop e f {}) s fun t =>
      t.engine e.val = { s.engine e.val with pc := (s.engine e.val).pc + 1, lock := k } ∧ SameBut e.val s t) ∧
    (∀ f, exec (.kend e f {}) s = .next (s.raise e.val 6)))

/-- R260, Table 8.1. -/
def Obligations.TimeComparisonHasThreeClasses : Prop :=
  (∀ t n : Word, ∀ d, d = ((t.toNat : Int) - n.toNat) % 2 ^ 32 →
    (timeClass t n = .reached ↔ d = 0 ∨ 2147483648 ≤ d) ∧
    (timeClass t n = .ahead ↔ 1 ≤ d ∧ d ≤ 2000000000) ∧
    (timeClass t n = .outside ↔ 2000000001 ≤ d ∧ d ≤ 2147483647)) ∧
  (∀ (s : State) t, s.classOf t = timeClass t (BitVec.ofNat 32 s.now))

/-- R189 to R191. -/
def Obligations.EngineWaitsEndOnTheirInstant : Prop :=
  (∀ (s : State) (e : Fin 1024) (f : KR), Ready s e.val → f.d ≠ f.a → f.d.toNat < s.gLimit e.val →
    f.a.toNat < s.gLimit e.val → Answers (.rdt e f {}) s (Ran e.val
      ((s.put32 e.val f.d.toNat (s.svc.extractLsb' 32 32).toNat).put32 e.val f.a.toNat
        (s.svc.extractLsb' 0 32).toNat))) ∧
  (∀ (s : State) (e : Fin 1024) (f : KR) t, Ready s e.val → f.d.toNat < s.gLimit e.val → f.a.toNat < s.gLimit e.val →
    (s.getG e.val f.a.toNat).clean = true → t = (s.getG e.val f.a.toNat).w.setWidth 32 →
    (s.classOf t = .reached → Answers (.waitt e f {}) s (Ran e.val (s.put32 e.val f.d.toNat 0))) ∧
    (s.classOf t = .outside → Answers (.waitt e f {}) s (Ran e.val (s.put32 e.val f.d.toNat 0x0502))) ∧
    (s.classOf t = .ahead → exec (.waitt e f {}) s =
      .next ((s.setWait e.val (.time f.d t)).enter e.val EngState.waiting))) ∧
  (∀ (s : State) (e : Fin 1024) (f : KR), Ready s e.val → f.d.toNat < s.gLimit e.val → f.mod.getLsbD 0 = false →
    (s.reg (R.ENG_EVT e.val) &&& (f.imm &&& 0xFFFF#32) ≠ 0 →
      Answers (.waite e f {}) s (Ran e.val (s.waiteEvent e.val f.d (f.imm.setWidth 16) (f.mod.getLsbD 1)))) ∧
    (s.reg (R.ENG_EVT e.val) &&& (f.imm &&& 0xFFFF#32) = 0 → exec (.waite e f {}) s = .next
      ((s.setWait e.val (.events f.d (f.imm.setWidth 16) none (f.mod.getLsbD 1))).enter e.val EngState.waiting))) ∧
  (∀ (s : State) (e : Fin 1024) (f : KR) t, Ready s e.val → f.d.toNat < s.gLimit e.val → f.mod.getLsbD 0 = true →
    f.a.toNat < s.gLimit e.val → (s.getG e.val f.a.toNat).clean = true →
    t = (s.getG e.val f.a.toNat).w.setWidth 32 → s.reg (R.ENG_EVT e.val) &&& (f.imm &&& 0xFFFF#32) = 0 →
    (s.classOf t = .reached → Answers (.waite e f {}) s (Ran e.val (s.putW e.val f.d.toNat 0x100000000#36))) ∧
    (s.classOf t = .outside → Answers (.waite e f {}) s (Ran e.val (s.put32 e.val f.d.toNat 0x05020000)))) ∧
  (∀ (s : State) n (d : BitVec 6) (m : BitVec 16), ((s.waiteEvent n d m true).reg (R.ENG_EVT n)) =
    s.reg (R.ENG_EVT n) &&& ~~~(m.setWidth 32)) ∧
  (∀ (s : State) (e : Fin 1024) (d : BitVec 6) t, s.waitOf e.val = .time d t → s.isWide e.val = false →
    s.oddOfPair e.val = false → d.toNat < 32 →
    s.engState e.val = EngState.waiting → s.isReached t = true → s.copyLost (engUnit e.val) = false →
    (s.engine e.val).inner = none → (s.engine e.val).breaks = [] → s.mon.stepping = none →
    Answers (.waittDone e) s fun u => u.engState e.val = EngState.running ∧ u.waitOf e.val = .none ∧
      (u.engine e.val).pc = (s.engine e.val).pc + 1 ∧ u.getG e.val d.toNat = {} ∧
      (∀ k, k ≠ e.val → u.engine k = s.engine k)) ∧
  (∀ (s : State) (e : Fin 1024) (d : BitVec 6) t, s.waitOf e.val = .time d t → s.isReached t = false →
    exec (.waittDone e) s = .next s) ∧
  (∀ (s : State) (e : Fin 1024) (d : BitVec 6) (m : BitVec 16) l c, s.waitOf e.val = .events d m l c →
    s.isWide e.val = false → s.oddOfPair e.val = false → d.toNat < 32 → s.engState e.val = EngState.waiting →
    s.reg (R.ENG_EVT e.val) &&& m.setWidth 32 ≠ 0 →
    (s.engine e.val).inner = none → (s.engine e.val).breaks = [] → s.mon.stepping = none →
    Answers (.waiteDone e) s fun u => u.engState e.val = EngState.running ∧ u.waitOf e.val = .none ∧
      (u.engine e.val).pc = (s.engine e.val).pc + 1 ∧
      (u.getG e.val d.toNat).w = (s.reg (R.ENG_EVT e.val) &&& m.setWidth 32).setWidth 36 ∧
      (∀ k, k ≠ e.val → u.engine k = s.engine k)) ∧
  (∀ (s : State) (e : Fin 1024) (d : BitVec 6) (m : BitVec 16) c, s.waitOf e.val = .events d m none c →
    s.reg (R.ENG_EVT e.val) &&& m.setWidth 32 = 0 → exec (.waiteDone e) s = .next s)

/-- R193, R184, R188. -/
def Obligations.CuesPortsAndDoorbellsRun : Prop :=
  (∀ (s : State) (e : Fin 1024) (f : KR) t, Ready s e.val → f.d.toNat < s.gLimit e.val → f.a.toNat < s.gLimit e.val →
    (s.getG e.val f.a.toNat).clean = true → t = (s.getG e.val f.a.toNat).w.setWidth 32 →
    (s.mayCue (engUnit e.val) (.eng e) (f.imm.toNat % 8) = true → s.classOf t ≠ .outside →
      Answers (.cue e f {}) s (Ran e.val
        ((s.cueHold (.eng e) (f.imm.toNat % 8) t 0 false .event).put32 e.val f.d.toNat 0))) ∧
    (s.mayCue (engUnit e.val) (.eng e) (f.imm.toNat % 8) = false → Answers (.cue e f {}) s fun u =>
      (u.engine e.val).pc = (s.engine e.val).pc + 1 ∧ (u.getG e.val f.d.toNat).w = 0x0801#36 ∧ u.cues = s.cues)) ∧
  (∀ (s : State) (e : Fin 1024) (f : KR), Ready s e.val → f.d.toNat < s.gLimit e.val →
    (s.mayCue (engUnit e.val) (.eng e) (f.imm.toNat % 8) = true → Answers (.uncue e f {}) s (Ran e.val
      ((s.cueClear (.eng e) (f.imm.toNat % 8)).put32 e.val f.d.toNat 0))) ∧
    (s.mayCue (engUnit e.val) (.eng e) (f.imm.toNat % 8) = false → Answers (.uncue e f {}) s (Ran e.val
      (s.put32 e.val f.d.toNat 0x0801)))) ∧
  (∀ (s : State) (e : Fin 1024) (f : KR), Ready s e.val → Answers (.evclr e f {}) s (Ran e.val
    (s.setReg (R.ENG_EVT e.val) (s.reg (R.ENG_EVT e.val) &&& ~~~(f.imm &&& 0xFFFF#32))))) ∧
  (∀ (s : State) (e : Fin 1024) (f : KR), Ready s e.val → Answers (.pev e f {}) s fun t =>
    t.engine e.val = { s.engine e.val with pc := (s.engine e.val).pc + 1, evOut := (s.engine e.val).evOut + 1 } ∧
    SameBut e.val s t) ∧
  (∀ (s : State) (e : Fin 1024) (f : KR) w l u, Ready s e.val → f.d.toNat % 2 = 0 → f.d.toNat + 2 ≤ s.gLimit e.val →
    f.mod.getLsbD 1 = false → (s.engine e.val).toEngine = w :: l →
    u = ((s.setEngine e.val { s.engine e.val with toEngine := l }).putW e.val f.d.toNat w.w0 w.p0).putW e.val
      (f.d.toNat + 1) w.w1 w.p1 →
    Answers (.prd e f {}) s (Ran e.val (if f.mod.getLsbD 0 then u.setZ e.val false else u))) ∧
  (∀ (s : State) (e : Fin 1024) (f : KR), Ready s e.val → f.d.toNat % 2 = 0 → f.d.toNat + 2 ≤ s.gLimit e.val →
    f.mod.getLsbD 1 = false → (s.engine e.val).toEngine = [] →
    (f.mod.getLsbD 0 = true → Answers (.prd e f {}) s (Ran e.val (s.setZ e.val true))) ∧
    (f.mod.getLsbD 0 = false → exec (.prd e f {}) s = .next s)) ∧
  (∀ (s : State) (e : Fin 1024) (f : KR) u, Ready s e.val → f.a.toNat % 2 = 0 → f.a.toNat + 2 ≤ s.gLimit e.val →
    f.mod.getLsbD 1 = false →
    u = s.portSend e.val (PortWord.mk (s.getG e.val f.a.toNat).w (s.getG e.val (f.a.toNat + 1)).w
      (!(s.getG e.val f.a.toNat).clean) (!(s.getG e.val (f.a.toNat + 1)).clean)) →
    ((s.engine e.val).fromEngine.length < 32 → Answers (.pwr e f {}) s
      (Ran e.val (if f.mod.getLsbD 0 then u.setZ e.val false else u))) ∧
    (32 ≤ (s.engine e.val).fromEngine.length → f.mod.getLsbD 0 = true →
      Answers (.pwr e f {}) s (Ran e.val (s.setZ e.val true))) ∧
    (32 ≤ (s.engine e.val).fromEngine.length → f.mod.getLsbD 0 = false → exec (.pwr e f {}) s = .next s)) ∧
  (∀ (s : State) n w, s.paired (s.portPod n) = false →
    s.portSend n w = s.setEngine n { s.engine n with fromEngine := (s.engine n).fromEngine ++ [w] }) ∧
  (∀ (s : State) (e : Fin 1024) (f : KR) (v : Word), Ready s e.val →
    (if f.mod.getLsbD 2 then f.a.toNat < s.gLimit e.val ∧ (s.getG e.val f.a.toNat).clean = true ∧
      v = (s.getG e.val f.a.toNat).w.setWidth 32 else v = f.imm) →
    Answers (.dbell e f {}) s (Ran e.val (if f.mod.getLsbD 0 then s.raiseEvent (v.toNat % 1024) 1
      else s.ringBell (v.toNat % 256) (v.toNat / 256 % 32))))

/-- R187, R197, R198. -/
def Obligations.MessagesAndTransactionsRun : Prop :=
  (∀ (s : State) (e : Fin 1024) (f : KT) (hd : Word) ws p t, Ready s e.val → 1 ≤ sendWords f → sendWords f ≤ 64 →
    f.p.toNat < s.ptrLimit e.val → f.pm = 0 ∨ f.pm = 2 → f.a.toNat < s.gLimit e.val →
    (s.getG e.val f.a.toNat).clean = true → hd = (s.getG e.val f.a.toNat).w.setWidth 32 →
    ws = (s.ptrRun e.val f.p.toNat (s.ptr e.val f.p.toNat) (sendWords f)).map (s.dword (ptrEng e.val f.p.toNat)) →
    p.kind = 5 ∧ p.prio = hd.extractLsb' 22 3 ∧ p.route = hd.extractLsb' 0 12 ∧ p.dst = hd.extractLsb' 12 10 ∧
      p.src = BitVec.ofNat 10 (engUnit e.val).ni ∧ p.txid = f.imm.extractLsb' 8 8 ∧
      p.payload = ws.flatMap (fun w => toBytes 8 (toLayout w.w).toNat) ∧ p.poison = ws.any (fun w => !w.clean) ∧
      p.crc = crc32c p.payload ∧ p.integ = true ∧ p.tag = 0 ∧ p.address = 0 ∧ p.dtag = 0 ∧ p.fpoison = false →
    (s.inject p = some t → Answers (.send e f {}) s (Ran e.val (t.payloadStep e.val f (sendWords f)))) ∧
    (s.inject p = none → exec (.send e f {}) s = .next (s.raise e.val 8))) ∧
  (∀ (s : State) (e : Fin 1024) (f : KT), Ready s e.val → sendWords f = 0 ∨ 64 < sendWords f →
    exec (.send e f {}) s = .next (s.raise e.val 1)) ∧
  (∀ (s : State) (e : Fin 1024) (f : KR) r, Ready s e.val → f.d.toNat < s.gLimit e.val →
    r = s.txOpenFor (engUnit e.val) (f.imm.toNat % 65536) →
    (4 ≤ (s.heldTx e.val).length → Answers (.txopen e f {}) s (Ran e.val (s.put32 e.val f.d.toNat 0xFF02))) ∧
    ((s.heldTx e.val).length < 4 → r.1 = 0 → Answers (.txopen e f {}) s (Ran e.val
      ((r.2.2.setHeldTx e.val (r.2.2.heldTx e.val ++ [{ id := BitVec.ofNat 8 r.2.1 }])).put32 e.val f.d.toNat
        (65536 * r.2.1)))) ∧
    ((s.heldTx e.val).length < 4 → r.1 ≠ 0 → Answers (.txopen e f {}) s (Ran e.val
      (r.2.2.put32 e.val f.d.toNat (r.1 + 65536 * r.2.1))))) ∧
  (∀ (s : State) (e : Fin 1024) (f : KR), Ready s e.val → f.d.toNat < s.gLimit e.val →
    f.a.toNat < s.gLimit e.val → (s.getG e.val f.a.toNat).clean = true →
    s.holdsTx e.val (f.imm.toNat % 256) = false →
    Answers (.txcmt e f {}) s (Ran e.val (s.put32 e.val f.d.toNat 0xFF02)) ∧
    Answers (.txabt e f {}) s (Ran e.val (s.put32 e.val f.d.toNat 0xFF02)) ∧
    Answers (.txst e f {}) s (Ran e.val (s.put32 e.val f.d.toNat 0))) ∧
  (∀ (s : State) (e : Fin 1024) (f : KR) l r, Ready s e.val → f.d.toNat < s.gLimit e.val →
    (if f.mod.getLsbD 0 then l = Launch.asap else f.a.toNat < s.gLimit e.val ∧
      (s.getG e.val f.a.toNat).clean = true ∧ l = .at ((s.getG e.val f.a.toNat).w.setWidth 32)) →
    s.holdsTx e.val (f.imm.toNat % 256) = true → r = s.txCommitFor (engUnit e.val) (f.imm.toNat % 256) l →
    Answers (.txcmt e f {}) s (Ran e.val (r.2.put32 e.val f.d.toNat r.1))) ∧
  (∀ (s : State) (e : Fin 1024) (f : KR) r, Ready s e.val → f.d.toNat < s.gLimit e.val →
    s.holdsTx e.val (f.imm.toNat % 256) = true → r = s.txAbortFor (engUnit e.val) (f.imm.toNat % 256) →
    Answers (.txabt e f {}) s (Ran e.val (r.2.put32 e.val f.d.toNat r.1))) ∧
  (∀ (s : State) (e : Fin 1024) (f : KR) h, Ready s e.val → f.d.toNat < s.gLimit e.val →
    (s.heldTx e.val).find? (fun x => x.id.toNat == f.imm.toNat % 256) = some h →
    (h.ended = false → Answers (.txst e f {}) s (Ran e.val (s.put32 e.val f.d.toNat 0))) ∧
    (h.ended = true → Answers (.txst e f {}) s fun t =>
      t.heldTx e.val = (s.heldTx e.val).filter (fun x => x.id.toNat != f.imm.toNat % 256) ∧
      (t.getG e.val f.d.toNat).w.getLsbD 31 = true ∧
      (t.getG e.val f.d.toNat).w.extractLsb' 0 16 = h.outcome ∧
      (t.engine e.val).pc = (s.engine e.val).pc + 1))

/-- R185, R186. -/
def Obligations.FarAccessesRequestAndComplete : Prop :=
  (∀ (s : State) (e : Fin 1024) (f : KT) a k t u, Ready s e.val → f.a.toNat < s.gLimit e.val → f.d.toNat < s.gLimit e.val →
    (s.getG e.val f.a.toNat).clean = true → k = (if f.mod.getLsbD 0 then 8 else 4) →
    a = f.imm.toNat % 2 ^ 16 * 2 ^ 32 + (s.getG e.val f.a.toNat).w.toNat % 2 ^ 32 → a % k = 0 →
    addrPlace a k ≠ .unmapped → s.farTag (engNi e.val) = some t →
    (s.inject (farPacket e.val (s.placeUnit (addrPlace a k)).ni 2 t 0 a (toBytes 8 (k - 1)) false) = some u →
      exec (.ldf e f {}) s =
        .next (u.farWait e.val { op := .load (f.mod.getLsbD 0), rd := f.d, tag := t })) ∧
    (s.inject (farPacket e.val (s.placeUnit (addrPlace a k)).ni 1 t
        (if f.mod.getLsbD 1 then f.imm.extractLsb' 16 8 else 0#8) a
        (if f.mod.getLsbD 0 then toBytes 8 (toLayout (s.getG e.val f.d.toNat).w).toNat
          else toBytes 4 (s.getG e.val f.d.toNat).w.toNat) (!(s.getG e.val f.d.toNat).clean)) = some u →
      Answers (.stf e f {}) s (Ran e.val (u.setEngine e.val { u.engine e.val with
        posted := (s.engine e.val).posted ++ [(t, (s.engine e.val).pc)] })))) ∧
  (∀ (s : State) (e : Fin 1024) (f : KT) a k, Ready s e.val → f.a.toNat < s.gLimit e.val → f.d.toNat < s.gLimit e.val →
    (s.getG e.val f.a.toNat).clean = true → k = (if f.mod.getLsbD 0 then 8 else 4) →
    a = f.imm.toNat % 2 ^ 16 * 2 ^ 32 + (s.getG e.val f.a.toNat).w.toNat % 2 ^ 32 →
    (a % k ≠ 0 → exec (.ldf e f {}) s = .next (s.raise e.val 8) ∧ exec (.stf e f {}) s = .next (s.raise e.val 8)) ∧
    (a % k = 0 → addrPlace a k ≠ .unmapped → s.farTag (engNi e.val) = none →
      exec (.ldf e f {}) s = .next s ∧ exec (.stf e f {}) s = .next s)) ∧
  (∀ (s : State) (e : Fin 1024) (f : KT) a o t u, Ready s e.val → f.a.toNat < s.gLimit e.val → f.d.toNat < s.gLimit e.val →
    (s.getG e.val f.a.toNat).clean = true → a = f.imm.toNat % 2 ^ 16 * 2 ^ 32 + (s.getG e.val f.a.toNat).w.toNat % 2 ^ 32 →
    a % 4 = 0 → addrPlace a 4 = .spm o → s.farTag (engNi e.val) = some t →
    ∀ p ∈ ([(.aadd, 3), (.aswp, 4)] : List ((Fin 1024 → KT → Hw → Instr) × Nat)),
      s.inject (farPacket e.val (s.placeUnit (.spm o)).ni p.2 t 0 a (toBytes 4 (s.getG e.val f.d.toNat).w.toNat)
        (!(s.getG e.val f.d.toNat).clean)) = some u →
      exec (p.1 e f {}) s = .next (u.farWait e.val { op := .atomic, rd := f.d, tag := t })) ∧
  (∀ (s : State) (e : Fin 1024) (f : KT) a, Ready s e.val → f.a.toNat < s.gLimit e.val → f.d.toNat < s.gLimit e.val →
    (s.getG e.val f.a.toNat).clean = true → a = f.imm.toNat % 2 ^ 16 * 2 ^ 32 + (s.getG e.val f.a.toNat).w.toNat % 2 ^ 32 →
    a % 4 ≠ 0 ∨ (∀ o, addrPlace a 4 ≠ .spm o) →
    ∀ c ∈ ([.aadd, .aswp] : List (Fin 1024 → KT → Hw → Instr)), exec (c e f {}) s = .next (s.raise e.val 8)) ∧
  (∀ (s : State) c tag n x b p bad, s.farOwner c tag = some (n, x) → x.op = .load true ∨ x.op = .load false ∨ x.op = .atomic →
    x.rd.toNat < 32 → (s.engine n).inner = none → (s.engine n).haltReq = false → (s.engine n).lock = 0 →
    s.mon.stepping = none →
    ((s.engineAnswer c tag (.data b p) bad).engine n).far = none ∧
    ((s.engineAnswer c tag (.data b p) bad).engine n).pc = (s.engine n).pc + 1 ∧
    (((s.engineAnswer c tag (.data b p) bad).getG n x.rd.toNat).clean = !(p || bad)) ∧
    (((s.engineAnswer c tag (.data b p) bad).getG n x.rd.toNat).w =
      if x.op = .load true then ofLayout (BitVec.ofNat 64 (ofBytes b)) else BitVec.ofNat 36 (ofBytes (b.take 4))) ∧
    (∀ code, s.engineAnswer c tag (.error code) bad =
      ((s.setEngine n { s.engine n with far := none }).raise n 8).haltLate n)) ∧
  (∀ (s : State) (e : Fin 1024) pc l, (s.engine e.val).lateErrors = pc :: l → s.engState e.val = EngState.running →
    (s.engine e.val).far = none → exec (.stfLateError e) s = .next
      (((s.setEngine e.val { s.engine e.val with lateErrors := l }).raiseAt e.val 8 pc).haltLate e.val)) ∧
  (∀ (s : State) (e : Fin 1024), (s.engine e.val).lateErrors = [] → exec (.stfLateError e) s = .next s)

/-- R194 to R196, R223. -/
def Obligations.EngineQueueOperationsRequest : Prop :=
  (∀ (s : State) (e : Fin 1024) (f : KT) q, q = qParams f ((s.getG e.val f.a.toNat).w.toNat % 2 ^ 32) →
    q.queue = (s.getG e.val f.a.toNat).w.toNat % 2 ^ 20 ∧
    q.cls = (s.getG e.val f.a.toNat).w.toNat / 2 ^ 20 % 256 ∧
    q.packing = (s.getG e.val f.a.toNat).w.toNat / 2 ^ 28 % 4 ∧ q.len = f.imm.toNat % 2 ^ 17 ∧
    q.txid.toNat = f.imm.toNat / 2 ^ 24 ∧ q.post = f.mod.getLsbD 0) ∧
  (∀ (s : State) (e : Fin 1024) (f : KT) q t u r w, Ready s e.val → f.a.toNat + 3 ≤ s.gLimit e.val →
    f.d.toNat < s.gLimit e.val → f.p.toNat < s.ptrLimit e.val → f.pm = 0 ∨ f.pm = 2 →
    (∀ i, i < 3 → (s.getG e.val (f.a.toNat + i)).clean = true) →
    q = qParams f ((s.getG e.val f.a.toNat).w.toNat % 2 ^ 32) → q.ok = true →
    r = (s.getG e.val (f.a.toNat + 1)).w.toNat % 2 ^ 32 → w = (s.getG e.val (f.a.toNat + 2)).w.toNat % 2 ^ 32 →
    s.farTag (engNi e.val) = some t →
    s.injectAll (enqPackets e.val Unit.qe.ni t q r w
      ((s.ptrRun e.val f.p.toNat (s.ptr e.val f.p.toNat) q.words).map (s.dword (ptrEng e.val f.p.toNat)))) = some u →
    (q.post = true → Answers (.enq e f {}) s (Ran e.val (u.payloadStep e.val f q.words))) ∧
    (q.post = false → exec (.enq e f {}) s = .next ((u.payloadStep e.val f q.words).farWait e.val
      { op := .status, rd := f.d, tag := t }))) ∧
  (∀ (s : State) (e : Fin 1024) (f : KT) q t u, Ready s e.val → f.a.toNat + 3 ≤ s.gLimit e.val →
    f.d.toNat < s.gLimit e.val → (∀ i, i < 3 → (s.getG e.val (f.a.toNat + i)).clean = true) →
    q = qParams f ((s.getG e.val f.a.toNat).w.toNat % 2 ^ 32) → s.farTag (engNi e.val) = some t →
    s.inject (farPacket e.val Unit.qe.ni 9 t q.txid (queueAddr 3 q.queue q.post false)
      (toBytes 8 ((s.getG e.val (f.a.toNat + 1)).w.toNat % 2 ^ 32 % 2 ^ 20)) false) = some u →
    (q.post = true → Answers (.qmov e f {}) s (Ran e.val u)) ∧
    (q.post = false → exec (.qmov e f {}) s = .next (u.farWait e.val { op := .status, rd := f.d, tag := t }))) ∧
  (∀ (s : State) (e : Fin 1024) (f : KT) q t u, Ready s e.val → f.a.toNat + 3 ≤ s.gLimit e.val →
    f.d.toNat + 4 ≤ s.gLimit e.val → f.p.toNat < s.ptrLimit e.val → f.pm = 0 ∨ f.pm = 2 →
    (s.getG e.val f.a.toNat).clean = true → q = qParams f ((s.getG e.val f.a.toNat).w.toNat % 2 ^ 32) →
    q.ok = true → s.farTag (engNi e.val) = some t →
    s.inject (farPacket e.val Unit.qe.ni 9 t q.txid (queueAddr 2 q.queue false false)
      (toBytes 8 (q.len - 1)) false) = some u →
    exec (.deq e f {}) s = .next (u.farWait e.val
      { op := .deq f.p f.pm (BitVec.ofNat 2 q.packing), rd := f.d, tag := t })) ∧
  (∀ (s : State) (e : Fin 1024) (f : KT) q, Ready s e.val → f.a.toNat + 3 ≤ s.gLimit e.val →
    f.d.toNat + 4 ≤ s.gLimit e.val → f.p.toNat < s.ptrLimit e.val → f.pm = 0 ∨ f.pm = 2 →
    (∀ i, i < 3 → (s.getG e.val (f.a.toNat + i)).clean = true) →
    q = qParams f ((s.getG e.val f.a.toNat).w.toNat % 2 ^ 32) → q.ok = false → f.mod.getLsbD 0 = false →
    Answers (.enq e f {}) s (Ran e.val (s.put32 e.val f.d.toNat 0xFF01)) ∧
    Answers (.deq e f {}) s (Ran e.val (s.put32 e.val f.d.toNat 0xFF01))) ∧
  (∀ (s : State) (ni : Fin 768) (tag : BitVec 8), s.findReq ni.val tag.toNat = none →
    exec (.reqTimeout ni tag) s = .next s) ∧
  (∀ (s : State) (ni : Fin 768) (tag : BitVec 8) q, s.findReq ni.val tag.toNat = some q →
    s.tim.uptime < q.sent + 1000 * s.fld F.NOC_REQ_TIMEOUT_timeout_us → exec (.reqTimeout ni tag) s = .next s) ∧
  (∀ (s : State) (ni : Fin 768) (tag : BitVec 8) q, s.findReq ni.val tag.toNat = some q →
    q.sent + 1000 * s.fld F.NOC_REQ_TIMEOUT_timeout_us ≤ s.tim.uptime → Answers (.reqTimeout ni tag) s fun t =>
      t.findReq ni.val tag.toNat = none ∨ masterAt ni.val = .monitor)

/-- The queue is the model's interface (notes/assumptions/1). -/
def Obligations.StepRunsTheFrontCommand : Prop :=
  (∀ (s : State) c l, s.pending = c :: l → step s = exec c { s with pending := l }) ∧
  (∀ (s : State) c, step (s.withCommand c) = exec c s)

/-- The idle step (notes/assumptions/2); R259 for the time's units. -/
def Obligations.EmptyQueueLetsTimePass : Prop :=
  (∀ s : State, s.pending = [] → s.tim.running = false → s.mon.waiting = [] →
    s.bit F.PCI_FLASH_WEAR_acorn_locked = false →
    step s = .next { s with tim := { s.tim with uptime := s.tim.uptime + 1 } }) ∧
  (∀ s : State, s.pending = [] → s.tim.running = true → s.mon.waiting = [] →
    s.bit F.PCI_FLASH_WEAR_acorn_locked = false → ∃ t, step s = .next t ∧ t.eng = s.eng ∧
      t.spm = s.spm ∧ t.dram = s.dram ∧ t.noc = s.noc ∧ t.cues = s.cues ∧ t.waits = s.waits ∧ t.pending = []) ∧
  (∀ s : State, s.pending = [] → s.tim.running = true → s.mon.waiting = [] →
    s.bit F.PCI_FLASH_WEAR_acorn_locked = false → (∀ b, (s.dom b).slewing = false) → ∃ t, step s = .next t ∧
    ∀ b, (t.dom b).time = (s.dom b).time + BitVec.ofNat 96 (16 * (s.reg (R.TIM_x_INCR (b2n b))).toNat) +
        (if 65536 ≤ (s.dom b).fineAcc.toNat + s.fld (F.TIM_x_INCR_FINE_fine (b2n b)) then 16#96 else 0#96) ∧
      (t.dom b).fineAcc = (s.dom b).fineAcc + BitVec.ofNat 16 (s.fld (F.TIM_x_INCR_FINE_fine (b2n b))))

/-- R157, Tables 5.1 and 5.5. -/
def Obligations.KotinDecodeInvertsEncode : Prop :=
  (∀ k : KInstr, kotinDecode (kotinEncode k) = some k) ∧
  (∀ (w : DWord) k, kotinDecode w = some k → kotinEncode k = w) ∧
  ((ROp.all.map ROp.code ++ TOp.all.map TOp.code ++ MOp.all.map MOp.code ++ COp.all.map COp.code ++
    [ldiCode]).Pairwise (· ≠ ·)) ∧
  (∀ w : DWord, w.extractLsb' 56 8 ∉ ROp.all.map ROp.code ++ TOp.all.map TOp.code ++ MOp.all.map MOp.code ++
    COp.all.map COp.code ++ [ldiCode] → kotinDecode w = none) ∧
  (∀ (w : DWord) op, w.extractLsb' 56 8 = MOp.code op → w.extractLsb' 0 24 ≠ 0 → kotinDecode w = none) ∧
  (∀ (w : DWord) op, w.extractLsb' 56 8 = COp.code op → w.extractLsb' 50 2 ≠ 0 ∨ w.extractLsb' 29 15 ≠ 0 →
    kotinDecode w = none) ∧
  (∀ w : DWord, w.extractLsb' 56 8 = ldiCode → w.extractLsb' 36 14 ≠ 0 → kotinDecode w = none) ∧
  kotinDecode 0x4100805000000000#64 = some (.m .cmacm { k := 0, xs := 0b000001, ys := 0, cs := 0b001010, g := 0, mod := 0 })

/-- R203, R205, R206, R212. -/
def Obligations.InjectionFollowsTheRouteEntry : Prop :=
  (∀ (s : State) p keep e, p.kind ≠ 6 → p.kind ≠ 8 → p.sized = true → e = s.route p.src.toNat p.route.toNat →
    e.usable p.dst.toNat = true → p.prioOk = true → Answers (.packetInject p keep) s fun t =>
      (∃ a, masterAt p.src.toNat = .accessPoint a) ∨
      (t.response = .ack 0#16 ∧ t.noc.nextId = s.noc.nextId + 1 ∧
        t.noc.flight = s.noc.flight ++ [
          { id := s.noc.nextId, hops := e.hops, router := p.src.toNat / 4,
            pkt := { p.formed false false with dtag := e.w0.setWidth 16 } }] ∧
        (p.expects = false → t.noc.requests = s.noc.requests) ∧
        (p.expects = true → (t.findReq p.src.toNat p.tag.toNat).isSome = true) ∧
        { t with noc := s.noc, response := s.response } = s)) ∧
  (∀ (s : State) p keep, p.kind ≠ 6 → p.kind ≠ 8 → p.sized = true →
    (s.route p.src.toNat p.route.toNat).usable p.dst.toNat = false ∨ p.prioOk = false →
    Answers (.packetInject p keep) s fun t =>
      (∃ a, masterAt p.src.toNat = .accessPoint a) ∨ t = s.error) ∧
  (∀ (p : Packet), p.kind ≠ 8 → p.prioOk = true → p.prio.toNat < 6 ∧ (p.expects = true → p.prio.toNat < 4)) ∧
  (∀ (p : Packet), p.kind = 5 → (p.formed false false).crc = crc32c p.payload ∧ (p.formed false false).integ = true ∧
    (p.formed false false).payload = p.payload ∧ (p.formed false false).dst = p.dst)

/-- R208, R217 to R219. -/
def Obligations.RoutersForwardOrDiscard : Prop :=
  (∀ (s : State) id c f d r, s.findFlight id = some f → f.ejected = false → c.val = 0 → hopCode f.hops f.ptr = d → d < 4 →
    neighbour f.router d = some r → s.bit (F.NOC_LINK_down (4 * f.router + d)) = false →
    exec (.routerForward id c) s = .next (s.setFlight { f with ptr := f.ptr + 1, rep := 0, router := r, dir := d })) ∧
  (∀ (s : State) id c f r k, s.findFlight id = some f → f.ejected = false → c.val = 0 →
    hopCode f.hops f.ptr = 5 ∨ hopCode f.hops f.ptr = 6 →
    k = (if f.rep = 0 then (if hopCode f.hops f.ptr = 5 then 2 else 4) else f.rep) →
    neighbour f.router f.dir = some r → s.bit (F.NOC_LINK_down (4 * f.router + f.dir)) = false →
    exec (.routerForward id c) s = .next (s.setFlight { f with
      rep := k - 1, ptr := if k = 1 then f.ptr + 1 else f.ptr, router := r })) ∧
  (∀ (s : State) id c f, s.findFlight id = some f → f.ejected = false → hopCode f.hops f.ptr = 4 →
    f.pkt.dst.toNat / 4 = f.router →
    exec (.routerForward id c) s = .next (s.setFlight { f with ejected := true })) ∧
  (∀ (s : State) id c f, s.findFlight id = some f → f.ejected = false →
    hopCode f.hops f.ptr = 7 ∨ (hopCode f.hops f.ptr = 4 ∧ f.pkt.dst.toNat / 4 ≠ f.router) ∨
      (hopCode f.hops f.ptr < 4 ∧ neighbour f.router (hopCode f.hops f.ptr) = none) →
    Answers (.routerForward id c) s fun t => t.findFlight id = none ∧ t.noc.links = s.noc.links ∧ t.eng = s.eng ∧
      (∀ j, j ≠ id → t.findFlight j = s.findFlight j)) ∧
  (∀ (s : State) id c f r, s.findFlight id = some f → f.ejected = false → hopCode f.hops f.ptr < 4 →
    neighbour f.router (hopCode f.hops f.ptr) = some r →
    s.bit (F.NOC_LINK_down (4 * f.router + hopCode f.hops f.ptr)) = true →
    Answers (.routerForward id c) s fun t => t.findFlight id = none ∧ t.eng = s.eng ∧
      (∀ j, j ≠ id → t.findFlight j = s.findFlight j)) ∧
  (∀ (s : State) (g : Flight) f, s.findFlight g.id = some f → (s.setFlight g).findFlight g.id = some g ∧
    (∀ j, j ≠ g.id → (s.setFlight g).findFlight j = s.findFlight j) ∧
    { s.setFlight g with noc := s.noc } = s) ∧
  (∀ (s : State) (r : Fin 192) (d : Fin 4) same cut, same = true → (s.link (4 * r.val + d.val)).fails < 2 →
    Answers (.flitReplay r d same cut) s fun t =>
      (t.link (4 * r.val + d.val)).fails = (s.link (4 * r.val + d.val)).fails + 1 ∧
      t.bit (F.NOC_LINK_down (4 * r.val + d.val)) = s.bit (F.NOC_LINK_down (4 * r.val + d.val)) ∧
      t.noc.flight = s.noc.flight ∧ t.eng = s.eng ∧ t.spm = s.spm) ∧
  (∀ (s : State) (r : Fin 192) (d : Fin 4) cut, 2 ≤ (s.link (4 * r.val + d.val)).fails →
    Answers (.flitReplay r d true cut) s fun t => t.bit (F.NOC_LINK_down (4 * r.val + d.val)) = true ∧
      (t.link (4 * r.val + d.val)).fails = 0 ∧
      (∀ q, neighbour r.val d.val = some q → t.bit (F.NOC_LINK_down (4 * q + opposite d.val)) = true)) ∧
  (∀ (s : State) (r : Fin 192) (d : Fin 4) cut, Answers (.linkIdleTimeout r d cut) s fun t =>
    t.bit (F.NOC_LINK_down (4 * r.val + d.val)) = true ∧
    (∀ q, neighbour r.val d.val = some q → t.bit (F.NOC_LINK_down (4 * q + opposite d.val)) = true) ∧
    t.noc.flight = s.noc.flight.map (fun f =>
      if cut.contains f.id then { f with pkt := { f.pkt with fpoison := true } } else f) ∧ t.eng = s.eng)

/-- R207, R209, R221. -/
def Obligations.RouteEntriesAreHeldAndValidated : Prop :=
  (∀ (s : State) m (e : Fin 4096) (w : Fin 3) v ni h, ni = s.srcFld m F.NOC_RT_SEL_ni →
    (s.heldRoute m = some h ∧ h.ni = ni ∧ h.entry = e.val) ∨
      ((∀ g, s.heldRoute m = some g → ¬ (g.ni = ni ∧ g.entry = e.val)) ∧ h = { ni := ni, entry := e.val }) →
    exec (.routeWordWrite m e w v) s =
      .next (if niPresent ni then (s.setHeldRoute m (some (h.put w.val v))).ack else s.error)) ∧
  (∀ (s : State) m (e : Fin 4096) v ni old, ni = s.srcFld m F.NOC_RT_SEL_ni → old = s.route ni e.val →
    ∃ n : RouteEntry, exec (.routeEntryValidate m e v) s =
        .next (if niPresent ni then ((s.setRoute ni e.val n).setHeldRoute m none).ack else s.error) ∧
      (∀ h, s.heldRoute m = some h → h.ni = ni → h.entry = e.val →
        n.w1 = h.w1.getD old.w1 ∧ n.w2 = h.w2.getD old.w2 ∧ n.w3 = h.w3.getD old.w3) ∧
      ((∀ h, s.heldRoute m = some h → ¬ (h.ni = ni ∧ h.entry = e.val)) →
        n.w1 = old.w1 ∧ n.w2 = old.w2 ∧ n.w3 = old.w3) ∧
      n.w0.getLsbD 31 = v.getLsbD 31 ∧ n.w0.extractLsb' 0 26 = v.extractLsb' 0 26 ∧
      (n.okBit = true ↔ niPresent n.dst = true ∧
        walk (ni / 4) none ((List.range 24).map (hopCode n.hops)) = some (n.dst / 4))) ∧
  (∀ (s : State) ni e n, (s.setRoute ni e n).route ni e = n) ∧
  (∀ (s : State) m (r : Fin 192) (d : Fin 4), s.bit (F.NOC_LINK_down (4 * r.val + d.val)) = true →
    Answers (.nocLinkRetrain m r d) s fun t => (t.link (4 * r.val + d.val)).retraining = true ∧
      t.response = .ack 0#16 ∧ t.ctrl = s.ctrl) ∧
  (∀ (s : State) m (r : Fin 192) (d : Fin 4), s.bit (F.NOC_LINK_down (4 * r.val + d.val)) = false →
    exec (.nocLinkRetrain m r d) s = .next s.ack) ∧
  (∀ (s : State) (r : Fin 192) (d : Fin 4), (s.link (4 * r.val + d.val)).retraining = true →
    Answers (.linkRetrainDone r d true) s (fun t => t.bit (F.NOC_LINK_down (4 * r.val + d.val)) = false ∧
      (∀ q, neighbour r.val d.val = some q → t.bit (F.NOC_LINK_down (4 * q + opposite d.val)) = false)) ∧
    Answers (.linkRetrainDone r d false) s (fun t => t.ctrl = s.ctrl ∧
      (t.link (4 * r.val + d.val)).retraining = false)) ∧
  (∀ (s : State) (r : Fin 192) (d : Fin 4) b, (s.link (4 * r.val + d.val)).retraining = false →
    exec (.linkRetrainDone r d b) s = .next s) ∧
  (∀ (s : State) (r : Fin 192) (d : Fin 4) l, (s.err.links.any fun x => x.1 == r.val && x.2.1 == d.val && x.2.2 == 0) = true →
    l ≠ [] → ∃ x, x = s.huskStage (l.map s.routeMove) ∧ exec (.rerouteComputeDone r d l) s = .next
      (if x.1 = 0 then s else { x.2.noDetours l with err := { (x.2.noDetours l).err with
        links := (x.2.noDetours l).err.links.map fun y =>
          if y.1 == r.val && y.2.1 == d.val then (r.val, d.val, x.1) else y } })) ∧
  (∀ (s : State) (r : Fin 192) (d : Fin 4),
    (s.err.links.any fun x => x.1 == r.val && x.2.1 == d.val && x.2.2 == 0) = true →
    exec (.rerouteComputeDone r d []) s = .next (State.closeSub { s with err := { s.err with
      links := s.err.links.filter fun x => !(x.1 == r.val && x.2.1 == d.val) } } (.link r d))) ∧
  (∀ (s : State) (r : Fin 192) (d : Fin 4) l, (s.err.links.any fun x => x.1 == r.val && x.2.1 == d.val && x.2.2 == 0) = false →
    exec (.rerouteComputeDone r d l) s = .next s)

/-- R204, R213, R222, R223. -/
def Obligations.DeliveryHandsPacketsOn : Prop :=
  (∀ (s : State) id f, s.findFlight id = some f → f.ejected = true →
    exec (.packetDeliver id) s = .next (deliver f { s with response := .none })) ∧
  (∀ (s : State) id, (∀ f, s.findFlight id = some f → f.ejected = false) →
    exec (.packetDeliver id) s = .next s ∧ exec (.responseReceive id) s = .next s) ∧
  (∀ (s : State) id f, s.findFlight id = some f → f.ejected = true → f.pkt.kind = 6 ∨ f.pkt.kind = 7 →
    s.findReq f.pkt.dst.toNat f.pkt.tag.toNat = none →
    exec (.responseReceive id) s = .next ((s.dropFlight f.id).niLate f.pkt.dst.toNat)) ∧
  (∀ (s : State) id f q, s.findFlight id = some f → f.ejected = true → f.pkt.kind = 6 ∨ f.pkt.kind = 7 →
    s.findReq f.pkt.dst.toNat f.pkt.tag.toNat = some q → q.deq = false → Answers (.responseReceive id) s fun t =>
      masterAt f.pkt.dst.toNat = .monitor ∨
      (t.findReq f.pkt.dst.toNat f.pkt.tag.toNat = none ∧ t.findFlight f.id = none)) ∧
  (∀ (f : Flight) u m (s : State) pl n, (f.pkt.kind = 0 ∨ f.pkt.kind = 1) → f.pkt.txid = 0 → n = f.pkt.payload.length →
    pl = addrPlace f.pkt.address.toNat n →
    (ownsPlace s u pl = false → deliverAccess f u m s = (s.decodeError u m).answered f) ∧
    (ownsPlace s u pl = true → (∀ a o, pl ≠ .point a o) → f.pkt.crcBad = false → deliverAccess f u m s =
      (placeAccess u m pl n (some f.pkt.payload) f.pkt.bad true s).answered f)) ∧
  (∀ (s : State) (p : Packet) kind b x e, e = s.route p.dst.toNat p.src.toNat → e.usable p.src.toNat = true →
    p.src.toNat < 768 → kind = 6 ∨ kind = 7 → ∃ g : Flight, (s.respondTo p kind b x).noc.flight = s.noc.flight ++ [g] ∧
      g.pkt.kind.toNat = kind ∧ g.pkt.dst = p.src ∧ g.pkt.src = p.dst ∧ g.pkt.tag = p.tag ∧ g.pkt.payload = b ∧
      g.pkt.poison = x ∧ g.pkt.prio = (if p.prio.toNat < 2 then 4 else 5) ∧ g.hops = e.hops)

/-- R230, R239 to R241. -/
def Obligations.QueueOperationsActInOrder : Prop :=
  (∀ (s : State) h t fl len c rest, QeTakes s h [h.queue.toNat] →
    (s.qe.assemblies.length < 1024 ∨ (s.assembly h.src h.tag).isSome = true → exec (.enqBegin h t fl len c rest) s = .next
      ((s.touch h.queue.toNat).runBegin { head := h, kind := .begin t fl len c rest } t fl len c rest))) ∧
  (∀ (s : State) h b l crc p, QeTakes s h [h.queue.toNat] → exec (.enqData h b l crc p) s =
    .next ((s.touch h.queue.toNat).runData { head := h, kind := .data b l crc p } b l crc p)) ∧
  (∀ (s : State) h most lost, QeTakes s h [h.queue.toNat] → exec (.qeDeq h most lost) s =
    .next ((s.touch h.queue.toNat).runDeq { head := h, kind := .deq most lost } (most.toNat + 1) lost)) ∧
  (∀ (s : State) h (dst : BitVec 20) lost, QeTakes s h [h.queue.toNat, dst.toNat] → exec (.qeQmov h dst lost) s =
    .next (((s.touch h.queue.toNat).touch dst.toNat).runQmov { head := h, kind := .qmov dst lost } dst.toNat lost)) ∧
  (∀ (s : State) h lost, QeTakes s h [h.queue.toNat] → exec (.queueDrop h lost) s =
    .next ((s.touch h.queue.toNat).runDrop { head := h, kind := .drop lost } lost)) ∧
  (∀ (s : State) h lost, QeTakes s h [h.queue.toNat] → exec (.queueFlush h lost) s =
    .next ((s.touch h.queue.toNat).runFlush { head := h, kind := .flush lost } lost)) ∧
  (∀ (s : State) (h : QHead) t fl (len : BitVec 16) c q n, q = h.queue.toNat → n = granulesFor (len.toNat + 1) →
    s.assembly h.src h.tag = none → s.qGate q = 0 → s.outputOf q = none → (s.queue q).launch = false →
    s.classOf t ≠ .outside → (s.queue q).life = 0 → (s.queue q).fits n (s.queue q).grans (s.queue q).entries.length = true →
    n ≤ s.poolFree → (s.queue q).reserve = true ∨ s.fld F.QE_POOL_RESERVE_reserve < s.poolFree - n →
    ∃ u a, u = s.runBegin { head := h, kind := .begin t fl len c 0 } t fl len c 0 ∧ u.assembly h.src h.tag = some a ∧
      a.status = 0 ∧ a.free.length = n ∧ a.entry.length = len.toNat + 1 ∧ a.entry.release = t ∧ a.entry.flow = fl ∧
      a.entry.cls = c ∧ (u.queue q).entries = (s.queue q).entries ∧ (u.queue q).roomGrans = (s.queue q).roomGrans + n) ∧
  (∀ (s : State) q, q ∈ s.qe.descs → (s.touch q).qe.queues = s.qe.queues ∧ (s.touch q).ctrl = s.ctrl ∧
    (s.touch q).qe.descs.head? = some q) ∧
  (∀ n len, 1 ≤ len → (granulesFor len ≤ n ↔ 1 ≤ n ∧ len ≤ 232 + 248 * (n - 1))) ∧
  (∀ len got, got < len → 1 ≤ packetBytes len got ∧ got + packetBytes len got ≤ len) ∧
  (∀ (s : State) q e, (s.queue q).life = 0 → e.grans ≠ [] →
    ((s.joinQueue q e).queue q).entries = (s.queue q).entries ++ [e] ∧
    (∀ k, k ≠ q → (s.joinQueue q e).queue k = s.queue k)) ∧
  (∀ (s : State) q e l, (s.queue q).entries = e :: l → ((s.removeHead q).queue q).entries = l ∧
    (∀ k, k ≠ q → (s.removeHead q).queue k = s.queue k)) ∧
  (∀ (s : State) src dst e l, src ≠ dst → (s.queue src).life = 0 → (s.queue dst).life = 0 →
    (s.queue src).entries = e :: l → ((s.moveHead src dst).queue src).entries = l ∧
    ((s.moveHead src dst).queue dst).entries = (s.queue dst).entries ++ [{ e with ready := false }] ∧
    (∀ k, k ≠ src → k ≠ dst → (s.moveHead src dst).queue k = s.queue k)) ∧
  (∀ (s : State) q, (s.queue q).broken = none → (s.queue q).held = 0 → ((s.flushQueue q).2.queue q).entries = [] ∧
    (s.flushQueue q).1 = (s.queue q).entries.length) ∧
  (∀ (s : State) q, s.qGate q = (if (s.queue q).en = false then 0x0306 else if (s.queue q).broken.isSome then 0x030A else 0)) ∧
  (∀ (s : State) q m, s.headStatus q m = (match (s.queue q).entries with
    | [] => 0x0304
    | e :: _ => if s.now < e.due then 0x0305 else if (s.queue q).held ≠ 0 then 0x0309
      else if m < e.length then 0x0307 else 0))

/-- R228, R229, R246 to R249, R254 to R256. -/
def Obligations.QueueEngineRunsItsEvents : Prop :=
  (∀ (s : State) m, s.bit F.QE_CTRL_enable = false → s.areasOk = true → Answers (.qeEnable m) s fun t =>
    t.bit F.QE_CTRL_enable = true ∧ t.qe = { waiting := s.qe.waiting } ∧ t.response = .ack 0#16 ∧
      (∀ a, a < s.descBase ∨ s.descBase + 2 ^ 25 ≤ a → ∀ b, (a, b) ∈ s.dram.mem ↔ (a, b) ∈ t.dram.mem) ∧
      (∀ a b, s.descBase ≤ a → a < s.descBase + 2 ^ 25 → (a, b) ∉ t.dram.mem)) ∧
  (∀ (s : State) m, s.bit F.QE_CTRL_enable = false → s.areasOk = false →
    exec (.qeEnable m) s = .next (s.setSrcFld m F.QE_DESC_CMD_status 0xFF01).ack) ∧
  (∀ (s : State) m, s.bit F.QE_CTRL_enable = true → exec (.qeEnable m) s = .next s.ack ∧
    exec (.qeDisable m) s = .next (if s.qeIdle then ((s.setBit F.QE_CTRL_enable false).setBit F.QE_CTRL_ready false).ack
      else (s.setSrcFld m F.QE_DESC_CMD_status 0xFF02).ack)) ∧
  (∀ (s : State), s.bit F.QE_CTRL_enable = true → s.bit F.QE_CTRL_ready = false → s.qe.waiting = [] →
    exec .qeReady s = .next (s.setBit F.QE_CTRL_ready true)) ∧
  (∀ (s : State) src tag a, s.assembly src tag = some a → a.last + 64000 ≤ s.now → s.qeFrozen = false →
    exec (.assemblyTimeout src tag) s = .next (s.abandon a).drain) ∧
  (∀ (s : State) src tag a, s.assembly src tag = some a → s.now < a.last + 64000 →
    exec (.assemblyTimeout src tag) s = .next s) ∧
  (∀ (s : State) (q : BitVec 20), s.qeFrozen = true → exec (.headRelease q) s = .next s ∧
    exec (.launchPrefetch q) s = .next s ∧ exec (.launchStart q none) s = .next s ∧
    exec (.launchLateDrop q) s = .next s) ∧
  (∀ (s : State) (q : BitVec 20), s.qeFrozen = false → (s.queue q.toNat).hasReleased s.now = true →
    (s.queue q.toNat).announced = false → (s.queue q.toNat).notify = 1 → Answers (.headRelease q) s fun t =>
      (t.queue q.toNat).announced = true ∧ (t.queue q.toNat).entries = (s.queue q.toNat).entries ∧
      (t.reg (R.ENG_EVT (s.flagEngine ((s.queue q.toNat).target % 1024)))).getLsbD 10 = true) ∧
  (∀ (s : State) (q : BitVec 20) e l, s.qeFrozen = false → (s.queue q.toNat).launch = true → s.qGate q.toNat = 0 →
    (s.queue q.toNat).entries = e :: l → e.ready = false →
    e.due ≤ s.now + 1000 * s.fld F.QE_LAUNCH_CFG_lead_us →
    (s.setQueue q.toNat { s.queue q.toNat with entries := { e with ready := true } :: l }).buffered ≤ 2097152 →
    exec (.launchPrefetch q) s =
      .next (s.setQueue q.toNat { s.queue q.toNat with entries := { e with ready := true } :: l })) ∧
  (∀ (s : State) (q : BitVec 20) e l d, s.qeFrozen = false → (s.queue q.toNat).launch = true → s.qGate q.toNat = 0 →
    (s.queue q.toNat).held = 0 → (s.queue q.toNat).entries = e :: l → e.due = s.now →
    s.chainLost q.toNat none = none → d = s.readGrans true e.grans → exec (.launchStart q none) s = .next
      (((d.2.launchMessages (s.queue q.toNat)
        ((if (s.queue q.toNat).launchHdr then [(e.record, crc32c e.record, false)] else []) ++ d.1)).removeHead
          q.toNat).changed q.toNat)) ∧
  (∀ (s : State) (q : BitVec 20) e l t, s.qeFrozen = false → (s.queue q.toNat).launch = true → s.qGate q.toNat = 0 →
    (s.queue q.toNat).held = 0 → (s.queue q.toNat).entries = e :: l → s.lateLimit e = some t → t ≤ s.now →
    exec (.launchLateDrop q) s = .next (s.dropLate q.toNat)) ∧
  (∀ (s : State) (q : BitVec 20) m, s.qe.misses.find? (·.1 == q.toNat) = some m → exec (.descFetchDone q) s =
    .next (State.submitAll { s.touch q.toNat with qe := { (s.touch q.toNat).qe with
      misses := (s.touch q.toNat).qe.misses.filter fun x => x.1 != q.toNat } } m.2).drain) ∧
  (∀ (s : State) m q x c, q = s.srcFld m F.QE_DESC_SEL_queue → x = s.queue q → c = chainOf x.entries → c ≠ [] →
    exec (.qeDescRead m) s = .next (((s.putWindow m 0 (x.words (c.headD 0) (c.getLast?.getD 0))).setSrcFld m
      F.QE_DESC_CMD_status 0).ack)) ∧
  (∀ (s : State) m q w, q = s.srcFld m F.QE_DESC_SEL_queue → w = s.window m →
    exec (.qeDescWrite m) s = .next (((if s.descCheck q w = 0 then s.descPut q w else s).setSrcFld m
      F.QE_DESC_CMD_status (s.descCheck q w)).ack)) ∧
  (∀ (s : State) m q, q = s.srcFld m F.QE_DESC_SEL_queue → exec (.qeDescFlush m) s =
    .next (((s.flushQueue q).2.setSrcFld m F.QE_DESC_CMD_status 0).ack)) ∧
  (∀ (s : State) m q w st, q = s.srcFld m F.QE_DESC_SEL_queue → w = s.window m → st = s.descCheck q w → st ≠ 0 →
    exec (.qeDescStage m) s = .next ((s.setSrcFld m F.QE_DESC_CMD_status st).ack)) ∧
  (∀ (s : State) m q w r x, q = s.srcFld m F.QE_DESC_SEL_queue → w = s.window m → s.descCheck q w = 0 →
    s.qe.staged.length < 4096 → r.head = QHead.mk m 0 (BitVec.ofNat 20 q) false
      (BitVec.ofNat 8 (s.srcFld m F.QE_DESC_SEL_txid)) → r.kind = .flush none → r.pkt = none →
    x = s.qStage r (.descriptor (BitVec.ofNat 20 q) w) 0 [] → exec (.qeDescStage m) s = .next
      (if x.1 ≠ 0 then (x.2.setSrcFld m F.QE_DESC_CMD_status x.1).ack
        else ((x.2.addStaged (s.srcFld m F.QE_DESC_SEL_txid) (.descriptor q w)).setSrcFld m
          F.QE_DESC_CMD_status 0).ack)) ∧
  (∀ (s : State) part (id : BitVec 8), exec (.txJoinAck part id) s = .next
    (if part.same Unit.qe then (txJoinAckGo part id.toNat s).drain else txJoinAckGo part id.toNat s)) ∧
  (∀ (s : State) part (id : BitVec 8), (s.store id.toNat part).ackSent = false → part.same Unit.qe = false →
    exec (.txJoinAck part id) s = .next s) ∧
  (∀ (s : State) part (id : BitVec 8) m, (s.store id.toNat part).ackSent = true → part.same Unit.qe = false →
    (s.store id.toNat part).waiting = some m → (s.store id.toNat part).posted = true →
    exec (.txJoinAck part id) s = .next (s.setStore id.toNat part { s.store id.toNat part with
      ackSent := false, joined := true, waiting := none, request := none, body := [] }))

/-- R264, R266, R267, R272, R273. -/
def Obligations.ServoHolderSetsTheRate : Prop :=
  (∀ (s : State) m x v, s.isServo m x.isB = true → 0x0FFBE76D ≤ BitVec.toNat v → BitVec.toNat v ≤ 0x10041893 →
    exec (.timIncrWrite m x v) s = .next ((s.setReg (R.TIM_x_INCR x.idx) v).wdRestart x).ack) ∧
  (∀ (s : State) m x v, s.isServo m x.isB = true → BitVec.toNat v < 0x0FFBE76D ∨ 0x10041893 < BitVec.toNat v →
    exec (.timIncrWrite m x v) s = .next (s.refuse x.statusF 0xFF01)) ∧
  (∀ (s : State) m x v, s.isServo m x.isB = true →
    exec (.timIncrFineWrite m x v) s = .next (s.setFld (F.TIM_x_INCR_FINE_fine x.idx) v.toNat).ack) ∧
  (∀ (s : State) m x v w b k r, s.isServo m x.isB = false →
    exec (.timIncrWrite m x v) s = .next (s.refuse x.statusF 0x0505) ∧
    exec (.timIncrFineWrite m x w) s = .next (s.refuse x.statusF 0x0505) ∧
    exec (.adjustStep m x b k) s = .next (s.refuse x.statusF 0x0505) ∧
    exec (.adjustSlew m x r) s = .next (s.refuse x.statusF 0x0505) ∧
    exec (.adjustCancel m x) s = .next (s.refuse x.statusF 0x0505) ∧
    exec (.servoWdKick m x) s = .next (s.refuse x.statusF 0x0505)) ∧
  (∀ (s : State) m x, s.isServo m x.isB = true → exec (.servoWdKick m x) s = .next (s.wdRestart x).ack) ∧
  (∀ (s : State) m x k, s.isServo m x.isB = true → s.bit (F.TIM_x_ADJ_CTRL_busy x.idx) = false →
    s.stepBarred x.isB (s.adjAmount x) = false → Answers (.adjustStep m x false k) s fun t =>
      (t.dom x.isB).time = (s.dom x.isB).time + BitVec.ofInt 96 (s.adjAmount x * 2 ^ 32) ∧
      (t.dom (!x.isB)).time = (s.dom (!x.isB)).time ∧ t.response = .ack 0#16 ∧ t.fld x.statusF = 0 ∧
      t.tim.wrapPulses = s.tim.wrapPulses + (if s.serving == x.isB then 1 else 0)) ∧
  (∀ (s : State) m x k, s.isServo m x.isB = true → s.bit (F.TIM_x_ADJ_CTRL_busy x.idx) = false →
    s.stepBarred x.isB (s.adjAmount x) = true →
    exec (.adjustStep m x false k) s = .next (s.refuse x.statusF Code.stepRefused)) ∧
  (∀ (s : State) m x b k r, s.isServo m x.isB = true → s.bit (F.TIM_x_ADJ_CTRL_busy x.idx) = true →
    exec (.adjustStep m x b k) s = .next (s.refuse x.statusF 0x0506) ∧
    exec (.adjustSlew m x r) s = .next (s.refuse x.statusF 0x0506)) ∧
  (∀ (s : State) m x r, s.isServo m x.isB = true → s.bit (F.TIM_x_ADJ_CTRL_busy x.idx) = false →
    1 ≤ BitVec.toNat r → BitVec.toNat r ≤ 100000 → Answers (.adjustSlew m x r) s fun t =>
      (t.dom x.isB).slewing = true ∧ (t.dom x.isB).slewRemain = s.adjAmount x * 2 ^ 32 ∧
      (t.dom x.isB).time = (s.dom x.isB).time ∧ t.bit (F.TIM_x_ADJ_CTRL_busy x.idx) = true ∧
      t.fld (F.TIM_x_ADJ_CTRL_rate_ns_s x.idx) = r.toNat ∧ t.response = .ack 0#16) ∧
  (∀ (s : State) m x, s.isServo m x.isB = true → (s.dom x.isB).slewing = true →
    Answers (.adjustCancel m x) s fun t => (t.dom x.isB).slewing = false ∧ (t.dom x.isB).slewRemain = 0 ∧
      t.bit (F.TIM_x_ADJ_CTRL_busy x.idx) = false ∧ (t.dom x.isB).time = (s.dom x.isB).time) ∧
  (∀ (s : State) x, (s.dom x.isB).slewing = true → (s.dom x.isB).slewRemain.natAbs ≤
    (slewQuantum (s.dom x.isB).slewAcc (s.fld (F.TIM_x_ADJ_CTRL_rate_ns_s x.idx))).1 →
    Answers (.slewComplete x) s fun t => (t.dom x.isB).slewing = false ∧
      (t.dom x.isB).time = (s.dom x.isB).time + BitVec.ofInt 96 (s.dom x.isB).slewRemain ∧
      t.bit (F.TIM_x_ADJ_CTRL_busy x.idx) = false) ∧
  (∀ (s : State) m x, s.bit (F.TIM_x_SERVO_takeover_ok x.idx) = true → s.huskServo x.isB = true →
    m.same .husk = false → Answers (.servoTake m x) s fun t => (t.dom x.isB).holder = some m ∧
      t.response = .ack 0#16 ∧ (t.dom x.isB).time = (s.dom x.isB).time) ∧
  (∀ (s : State) m x, s.bit (F.TIM_x_SERVO_takeover_ok x.idx) = false ∨ s.huskServo x.isB = false →
    exec (.servoTake m x) s = .next (s.refuse (F.TIM_x_SERVO_last_status x.idx) 0xFF02)) ∧
  (∀ (s : State) m x h, (s.dom x.isB).holder = some h → h.same m = true → Answers (.servoGive m x) s fun t =>
      (t.dom x.isB).holder = none ∧ (t.dom x.isB).time = (s.dom x.isB).time ∧
      t.reg (R.TIM_x_INCR x.idx) = s.reg (R.TIM_x_INCR x.idx) ∧ t.response = .ack 0#16) ∧
  (∀ (s : State) m x, (s.dom x.isB).holder = none →
    exec (.servoGive m x) s = .next (s.refuse (F.TIM_x_SERVO_last_status x.idx) 0x0505)) ∧
  (∀ (s : State) x e i f, s.huskServo x.isB = true → s.domState x.isB = DomState.acquiring →
    (s.dom x.isB).acquired = false → 1000000 < (BitVec.toInt e).natAbs → s.stepBarred x.isB (-BitVec.toInt e) = false →
    exec (.servoCorrection x e i f) s = .next (s.stepDomain x.isB (-e.toInt))) ∧
  (∀ (s : State) x e i f, s.huskServo x.isB = true → s.domState x.isB = DomState.locked →
    s.bit (F.TIM_x_ADJ_CTRL_busy x.idx) = false → BitVec.toInt e ≠ 0 → Answers (.servoCorrection x e i f) s fun t =>
      t.reg (R.TIM_x_INCR x.idx) = i ∧ t.fld (F.TIM_x_INCR_FINE_fine x.idx) = f.toNat ∧
      (t.dom x.isB).slewing = true ∧ (t.dom x.isB).slewRemain = -e.toInt * 2 ^ 32 ∧
      (t.dom x.isB).time = (s.dom x.isB).time) ∧
  (∀ (s : State) x c, s.huskServo x.isB = false → s.fld (F.TIM_x_OWNER_wd_ms x.idx) ≠ 0 →
    s.domState x.isB = DomState.locked →
    (s.dom x.isB).wdFrom + 1000000 * s.fld (F.TIM_x_OWNER_wd_ms x.idx) ≤ s.tim.uptime → exec (.servoWdExpiry x c) s =
      .next ((s.enterHoldover x.isB c).fault Unit.tim .servoWd (.code 961))) ∧
  (∀ (s : State) x c, s.tim.uptime < (s.dom x.isB).wdFrom + 1000000 * s.fld (F.TIM_x_OWNER_wd_ms x.idx) →
    exec (.servoWdExpiry x c) s = .next s) ∧
  (∀ (s : State) x, ((s.wdRestart x).dom x.isB).wdFrom = s.tim.uptime ∧
    { s.wdRestart x with tim := s.tim } = s ∧ (s.wdRestart x).dom (!x.isB) = s.dom (!x.isB))

/-- R269 to R271, R277 to R281. -/
def Obligations.DomainStatesFollowTheirSources : Prop :=
  (∀ (s : State) x p err, s.huskServo x.isB = true →
    s.domState x.isB = DomState.free ∨ s.domState x.isB = DomState.holdover →
    s.bit F.TIM_SVC_CTRL_auto = false → Answers (.sourcePresent x p err) s fun t =>
      t.domState x.isB = DomState.acquiring ∧ t.domState (!x.isB) = s.domState (!x.isB) ∧
      t.bit (if p then F.TIM_x_STATE_src_ok x.idx else F.TIM_x_STATE_freq_ok x.idx) = true ∧
      (t.dom x.isB).time = (s.dom x.isB).time) ∧
  (∀ (s : State) x p err, s.huskServo x.isB = false ∨
    (s.domState x.isB ≠ DomState.free ∧ s.domState x.isB ≠ DomState.holdover) → exec (.sourcePresent x p err) s =
      .next (s.setBit (if p then F.TIM_x_STATE_src_ok x.idx else F.TIM_x_STATE_freq_ok x.idx) true)) ∧
  (∀ (s : State) x err, s.huskServo x.isB = true → s.domState x.isB = DomState.acquiring →
    s.bit F.TIM_SVC_CTRL_auto = false → Answers (.domainLock x err) s fun t =>
      t.domState x.isB = DomState.locked ∧ (t.dom x.isB).everLocked = true ∧
      t.reg (R.TIM_x_TEB x.idx) = BitVec.ofNat 32 (min 0xFFFFFFFE
        (err.toInt.natAbs + s.fld (F.TIM_x_SERVO_CFG_src_allow_ns x.idx)))) ∧
  (∀ (s : State) x err, s.huskServo x.isB = false ∨ s.domState x.isB ≠ DomState.acquiring →
    exec (.domainLock x err) s = .next s) ∧
  (∀ (s : State) x err, s.huskServo x.isB = true → s.domState x.isB = DomState.locked →
    s.bit F.TIM_SVC_CTRL_auto = false → Answers (.domainUnlock x err) s fun t =>
      t.domState x.isB = DomState.acquiring ∧ (t.dom x.isB).time = (s.dom x.isB).time) ∧
  (∀ (s : State) x c, s.huskServo x.isB = true → s.domState x.isB = DomState.locked ∨
      (s.domState x.isB = DomState.acquiring ∧ (s.dom x.isB).everLocked = true) →
    s.bit F.TIM_SVC_CTRL_auto = false → Answers (.sourceLoss x c) s fun t =>
      t.domState x.isB = DomState.holdover ∧ t.reg (R.TIM_MODEL_VAL 0) = c ∧
      t.reg (R.TIM_x_HO_SECONDS x.idx) = 0 ∧ t.bit (F.TIM_x_STATE_src_ok x.idx) = false ∧
      t.bit (F.TIM_x_STATE_freq_ok x.idx) = false ∧ (t.dom x.isB).time = (s.dom x.isB).time) ∧
  (∀ (s : State) x c, s.huskServo x.isB = true → s.domState x.isB = DomState.acquiring →
    (s.dom x.isB).everLocked = false → s.bit F.TIM_SVC_CTRL_auto = false → Answers (.sourceLoss x c) s fun t =>
      t.domState x.isB = DomState.free ∧ t.reg (R.TIM_x_TEB x.idx) = 0xFFFFFFFF#32) ∧
  (∀ (s : State), Answers .ppsInEdge s fun t => ∀ b, (t.dom b).time = (s.dom b).time ∧
    (t.dom b).mark = (if s.bit (F.TIM_x_STATE_tod_armed (b2n b))
      then s.pair (R.TIM_x_PPS_TOD_LO (b2n b)) (R.TIM_x_PPS_TOD_HI (b2n b))
      else ((s.dom b).time.toNat / 2 ^ 32 + 500000000) / 1000000000 * 1000000000) ∧
    t.bit (F.TIM_x_STATE_tod_armed (b2n b)) = false ∧
    t.pair (R.TIM_x_PPS_NS_LO (b2n b)) (R.TIM_x_PPS_NS_HI (b2n b)) = (s.dom b).time.toNat / 2 ^ 32) ∧
  (∀ (s : State) m x hi, m.same .husk = true ∨ s.isServo m x.isB = true → Answers (.ppsTodArm m x hi) s fun t =>
    t.bit (F.TIM_x_STATE_tod_armed x.idx) = true ∧ t.reg (R.TIM_x_PPS_TOD_HI x.idx) = hi ∧ t.response = .ack 0#16) ∧
  (∀ (s : State) x o, exec (.synceGate x o) s = .next (s.setReg (R.TIM_x_SYNCE x.idx) o)) ∧
  (∀ (s : State) x, s.domState x.isB = DomState.holdover → s.bit (F.TIM_x_CTRL_legacy_holdover x.idx) = true →
    (s.reg (R.TIM_x_HO_SECONDS x.idx)).toNat < 0xFFFFFFFF → Answers (.holdoverUpdate x) s fun t =>
      (t.reg (R.TIM_x_HO_SECONDS x.idx)).toNat = (s.reg (R.TIM_x_HO_SECONDS x.idx)).toNat + 1 ∧
      (s.dom x.isB).teb ≤ (t.dom x.isB).teb ∧ t.reg (R.TIM_x_INCR x.idx) = s.reg (R.TIM_x_INCR x.idx) ∧
      t.tim.modelAge = s.tim.modelAge + 1) ∧
  (∀ (s : State) x, s.domState x.isB ≠ DomState.holdover → exec (.holdoverUpdate x) s = .next s) ∧
  (∀ (s : State) g, s.bit F.TIM_MODEL_STATUS_frozen = false → s.bit F.CLK_SRC_STATUS_xtime_ok = true →
    s.domState false = DomState.locked ∨ s.domState true = DomState.locked → Answers (.modelBin true g) s fun t =>
      t.reg (R.TIM_MODEL_VAL 0) = g.c0 ∧ (t.reg (R.TIM_MODEL_UNC 0)).toNat = max 328 g.s0.toNat ∧
      t.fld F.TIM_MODEL_STATUS_learned = g.learned.toNat ∧ t.fld F.TIM_MODEL_STATUS_locked_hours = g.hours.toNat ∧
      t.tim.modelAge = 0 ∧ t.tim.modelTemp = s.temperature) ∧
  (∀ (s : State) g, exec (.modelBin false g) s = .next s) ∧
  (∀ (s : State), Answers .modelSave s fun t => t.tim.modelSaved.length = 10 ∧
    (∀ k, k < 4 → t.tim.modelSaved[k]? = some (s.reg (R.TIM_MODEL_VAL k)) ∧
      t.tim.modelSaved[4 + k]? = some (s.reg (R.TIM_MODEL_UNC k))) ∧ t.ctrl = s.ctrl)

/-- R262, R275, R282 to R288. -/
def Obligations.ServiceTimeAndTimersRun : Prop :=
  (∀ (s : State) m sel fo au re k, s.domState sel ≠ DomState.free ∨ fo = true →
    Answers (.serviceSelectApply m sel fo au re false k) s fun t => t.serving = sel ∧ t.svc = s.svc ∧
      (t.dom false).time = (s.dom false).time ∧ (t.dom true).time = (s.dom true).time ∧
      t.fld F.TIM_SVC_REQ_status = 0 ∧ t.bit F.TIM_SVC_CTRL_auto = au ∧ t.bit F.TIM_SVC_CTRL_revert = re ∧
      t.response = .ack 0#16) ∧
  (∀ (s : State) m sel au re b k, s.domState sel = DomState.free →
    exec (.serviceSelectApply m sel false au re b k) s = .next (s.refuse F.TIM_SVC_REQ_status Code.noSource)) ∧
  (∀ (s : State), s.tim.offset ≠ 0 → s.tim.offset.natAbs ≤
      (slewQuantum s.tim.offsetAcc (s.fld F.TIM_SVC_SLEW_rate_ns_s)).1 → Answers .offsetSlewDone s fun t =>
    t.tim.offset = 0 ∧ t.bit F.TIM_SVC_STATUS_slewing = false ∧ t.eng = s.eng) ∧
  (∀ (s : State), s.tim.offset = 0 → exec .offsetSlewDone s = .next s) ∧
  (∀ (s : State), s.ppsEnabled = true → exec (.ppsOutEdge false) s =
    .next { s with tim := { s.tim with ppsHigh := true } }) ∧
  (∀ (s : State), s.ppsEnabled = false → exec (.ppsOutEdge false) s = .next s) ∧
  (∀ (s : State), exec (.ppsOutEdge true) s = .next { s with tim := { s.tim with ppsHigh := false } }) ∧
  (∀ (s : State), Answers .midSecondBypass s fun t => t.bit F.TIM_PPS_CTRL_bypass_closed = !s.ppsEnabled ∧
    t.bit F.TIM_PPS_CTRL_squelched = s.ppsSquelched ∧ KeepsRegs s t [R.TIM_PPS_CTRL]) ∧
  (∀ (s : State) b, s.bit F.TIM_WRAP_mbx_en = false → Answers (.wrapDoorbell b) s fun t =>
    t.bit F.TIM_WRAP_step = b ∧ t.fld F.TIM_WRAP_count = (s.fld F.TIM_WRAP_count + 1) % 2 ^ F.TIM_WRAP_count.width ∧
    t.tim.wrapPulses = s.tim.wrapPulses + 1 ∧ (∀ n, n < 1024 → (t.reg (R.ENG_EVT n)).getLsbD 11 = true) ∧
    t.svc = s.svc ∧ t.eng = s.eng) ∧
  (∀ (s : State) u, Answers (.timeCopyLost u) s fun t => t.copyLost u = true ∧
    (∀ v, v.key ≠ u.key → t.copyLost v = s.copyLost v) ∧ t.ctrl = s.ctrl) ∧
  (∀ (s : State) m (k : Fin 32) a mb be fr, s.holds m (R.DEV_CLAIM (0x1C0 + k.val)) = true →
    s.classOf (s.reg (R.TIM_TMR_START k.val)) ≠ .outside → Answers (.tmrStart m k a mb be fr) s fun t =>
      t.bit (F.TIM_TMR_CTRL_running k.val) = true ∧
      (t.timer k.val).next = some (s.extend (s.reg (R.TIM_TMR_START k.val))) ∧
      t.fld (F.TIM_TMR_CTRL_action k.val) = a.val ∧ t.response = .ack 0#16 ∧ t.svc = s.svc) ∧
  (∀ (s : State) m (k : Fin 32) a mb be fr, s.holds m (R.DEV_CLAIM (0x1C0 + k.val)) = false →
    exec (.tmrStart m k a mb be fr) s = .next (s.refuse (tmrStatusF k.val) 0x0801) ∧
    exec (.tmrStop m k) s = .next (s.refuse (tmrStatusF k.val) 0x0801)) ∧
  (∀ (s : State) m (k : Fin 32) a mb be fr, s.holds m (R.DEV_CLAIM (0x1C0 + k.val)) = true →
    s.classOf (s.reg (R.TIM_TMR_START k.val)) = .outside →
    exec (.tmrStart m k a mb be fr) s = .next (s.refuse (tmrStatusF k.val) 0x0502)) ∧
  (∀ (s : State) m (k : Fin 32), s.holds m (R.DEV_CLAIM (0x1C0 + k.val)) = true → Answers (.tmrStop m k) s fun t =>
    t.bit (F.TIM_TMR_CTRL_running k.val) = false ∧ (t.timer k.val).next = none ∧ t.response = .ack 0#16) ∧
  (∀ (s : State) (k : Fin 32) i, (s.timer k.val).next = some i → i ≤ s.now → s.bit (F.TIM_TMR_CTRL_running k.val) = true →
    (s.reg (R.TIM_TMR_PERIOD k.val)).toNat = 0 → s.fld (F.TIM_TMR_CTRL_action k.val) = 0 → Answers (.tmrExpiry k) s fun t =>
      t.bit (F.TIM_TMR_CTRL_running k.val) = false ∧ (t.timer k.val).next = none ∧ (t.timer k.val).last = i) ∧
  (∀ (s : State) (k : Fin 32) i p, (s.timer k.val).next = some i → i ≤ s.now → s.bit (F.TIM_TMR_CTRL_running k.val) = true →
    p = (s.reg (R.TIM_TMR_PERIOD k.val)).toNat → 0 < p → s.fld (F.TIM_TMR_CTRL_action k.val) = 2 →
    Answers (.tmrExpiry k) s fun t => ∃ j, (t.timer k.val).next = some j ∧ s.now < j ∧ j ≤ s.now + p ∧ (j - i) % p = 0 ∧
      (t.timer k.val).last = i ∧ Table.get zeroNat t.tim.tmrPulses k.val = Table.get zeroNat s.tim.tmrPulses k.val + 1) ∧
  (∀ (s : State) (k : Fin 32) i, (s.timer k.val).next = some i → s.now < i → exec (.tmrExpiry k) s = .next s)

/-- R294, R300 to R303, R305 to R308, R312, R313. -/
def Obligations.TransactionsOpenCommitAndEnd : Prop :=
  (∀ (s : State) m (d : BitVec 16) cmd, (∀ i, 0 < i → i < 256 → (s.tx i).state ≠ .free) →
    exec (.txOpen m d cmd) s = .next (s.txResult m cmd 0x0209 0)) ∧
  (∀ (s : State) m (d : BitVec 16) cmd i, 0 < i → i < 256 → (s.tx i).state = .free → Answers (.txOpen m d cmd) s fun t =>
    ∃ id, 0 < id ∧ id < 256 ∧ (s.tx id).state = .free ∧ (t.tx id).state = .staging ∧ (t.tx id).opener = m ∧
      (t.tx id).deadlineUs = (if d = 0 then s.fld F.TXU_CFG_deadline_us else d.toNat) ∧ (t.tx id).parts = [] ∧
      (t.tx id).dueAt = s.tim.uptime + 1000 * (t.tx id).deadlineUs ∧
      (t.tx id).aborting = false ∧ (∀ k, k ≠ id → t.tx k = s.tx k) ∧
      (cmd = false → t.response = .data (txBytes 0 id) false)) ∧
  (∀ (s : State) m (id : BitVec 8) l cmd, s.opened m id.toNat = false →
    exec (.txCommit m id l cmd) s = .next (s.txResult m cmd 0x020B id.toNat) ∧
    exec (.txAbort m id cmd) s = .next (s.txResult m cmd 0x020B id.toNat) ∧
    exec (.txRelease m id cmd) s = .next (s.txResult m cmd 0x020B id.toNat)) ∧
  (∀ (s : State) m (id : BitVec 8) l cmd, s.opened m id.toNat = true → (s.tx id.toNat).takes = false →
    exec (.txCommit m id l cmd) s = .next (s.txResult m cmd 0x020A id.toNat)) ∧
  (∀ (s : State) m (id : BitVec 8) l cmd, s.opened m id.toNat = true → (s.tx id.toNat).takes = true →
    s.classOf l = .outside → exec (.txCommit m id (.at l) cmd) s = .next (s.txResult m cmd 0x0502 id.toNat)) ∧
  (∀ (s : State) m (id : BitVec 8) l cmd, s.opened m id.toNat = true → (s.tx id.toNat).takes = true →
    s.classOf l ≠ .outside → (s.classOf l = .reached ∨ (l - s.now32).toNat < 5000) →
    exec (.txCommit m id (.at l) cmd) s = .next (s.txResult m cmd 0x0207 id.toNat)) ∧
  (∀ (s : State) m (id : BitVec 8) l cmd p ps, s.opened m id.toNat = true → (s.tx id.toNat).takes = true →
    (s.tx id.toNat).parts = p :: ps → (l = .asap ∨ ∃ w, l = .at w ∧ s.classOf w = .ahead ∧ 5000 ≤ (w - s.now32).toNat) →
    exec (.txCommit m id l cmd) s = .next ((s.setTx id.toNat { s.tx id.toNat with
      state := .preparing, launch := l, parts := sendAll .prepare (p :: ps) }).txResult m cmd 0 id.toNat)) ∧
  (∀ (s : State) m (id : BitVec 8) cmd, s.opened m id.toNat = true → (s.tx id.toNat).takes = true →
    (s.tx id.toNat).parts = [] → (s.tx id.toNat).sub = [] → Answers (.txCommit m id .asap cmd) s fun t =>
      (t.tx id.toNat).state = .ended ∧ (t.tx id.toNat).outcome = 0 ∧ ∀ k, k ≠ id.toNat → t.tx k = s.tx k) ∧
  (∀ (s : State) m (id : BitVec 8) cmd, s.opened m id.toNat = true → (s.tx id.toNat).undecided = true →
    exec (.txAbort m id cmd) s = .next ((s.txAbortWith id.toNat 0x0202).txResult m cmd 0 id.toNat)) ∧
  (∀ (s : State) m (id : BitVec 8) cmd, s.opened m id.toNat = true → (s.tx id.toNat).undecided = false →
    exec (.txAbort m id cmd) s = .next (s.txResult m cmd 0x020A id.toNat)) ∧
  (∀ (s : State) m (id : BitVec 8), exec (.txQuery m id true) s = .next
      (s.txResult m true (if (s.tx id.toNat).state = .free then 0x020B else (s.tx id.toNat).outcome.toNat) id.toNat) ∧
    exec (.txQuery m id false) s = .next (s.reply (s.txQueryBytes id.toNat))) ∧
  (∀ (s : State) m (id : BitVec 8) cmd, s.opened m id.toNat = true →
    exec (.txRelease m id cmd) s = .next (if (s.tx id.toNat).state = .ended then (s.setTx id.toNat {}).txResult m cmd 0 id.toNat
      else s.txResult m cmd 0xFF02 id.toNat)) ∧
  (∀ (s : State) part (id : BitVec 8) p d, findPart part (s.tx id.toNat).parts = some p → p.voted = false →
    (s.store id.toNat part).vote = some (.refuse d) → (s.tx id.toNat).state = .preparing → (s.tx id.toNat).aborting = false →
    exec (.txVote part id) s = .next (s.txAbortWith id.toNat 0x0205 d.toNat (some part))) ∧
  (∀ (s : State) part (id : BitVec 8) p v, findPart part (s.tx id.toNat).parts = some p → p.voted = false →
    (s.store id.toNat part).vote = some .prepared → (s.tx id.toNat).state = .preparing → (s.tx id.toNat).aborting = false →
    v = updPart part (fun p => { p with voted := true }) (s.tx id.toNat).parts →
    exec (.txVote part id) s = .next (if v.all (·.voted)
      then (s.setTx id.toNat { s.tx id.toNat with parts := v }).txDecision id.toNat
      else s.setTx id.toNat { s.tx id.toNat with parts := v })) ∧
  (∀ (s : State) id, (s.tx id).launch = .asap → ∃ b, (b % 1000 = s.txu.word % 1000 ∨ b % 1000 = 0) ∧
    ((s.txDecision id).tx id).state = .committed ∧ ((s.txDecision id).tx id).tick = BitVec.ofNat 32 b ∧
    s.now + 32 < b) ∧
  (∀ (s : State) id l, (s.tx id).launch = .at l → s.classOf l = .ahead → 5000 ≤ (l - s.now32).toNat →
    ((s.txDecision id).tx id).state = .committed ∧ ((s.txDecision id).tx id).tick = l ∧
    ∀ k, k ≠ id → (s.txDecision id).tx k = s.tx k) ∧
  (∀ (s : State) id o d j, (s.tx id).parts ≠ [] → ((s.txAbortWith id o d j).tx id).aborting = true ∧
    ((s.txAbortWith id o d j).tx id).outcome = BitVec.ofNat 16 o ∧ ((s.txAbortWith id o d j).tx id).subject = j ∧
    ((s.txAbortWith id o d j).tx id).parts =
      (s.tx id).parts.map (fun p => { p with answered := false, msg := some .abort })) ∧
  (∀ (s : State) part (id : BitVec 8), (s.store id.toNat part).withdrawn = true → (s.tx id.toNat).undecided = true →
    exec (.txWithdraw part id) s = .next (s.txAbortWith id.toNat 0x0206 0 (some part))) ∧
  (∀ (s : State) (id : BitVec 8), (s.tx id.toNat).undecided = true → (s.tx id.toNat).frozen = false →
    (s.tx id.toNat).dueAt ≤ s.tim.uptime → exec (.prepareDeadlineExpiry id) s = .next (s.txAbortWith id.toNat
      (if s.openerHalted (s.tx id.toNat) then 0x0204 else 0x0201))) ∧
  (∀ (s : State) part (id : BitVec 8) p a v, findPart part (s.tx id.toNat).parts = some p → p.answered = false →
    (s.store id.toNat part).answer = some a → (s.tx id.toNat).aborting = true ∨ (s.tx id.toNat).state = .committed →
    v = updPart part (fun p => { p with answered := true, applied := a == .applied, msg := none }) (s.tx id.toNat).parts →
    exec (.txDone part id) s = .next (if v.all (·.answered)
      then ((s.setTx id.toNat { s.tx id.toNat with parts := v }).setStore id.toNat part {}).txConclude id.toNat
      else (s.setTx id.toNat { s.tx id.toNat with parts := v }).setStore id.toNat part {})) ∧
  (∀ (s : State) id, (s.tx id).aborting = false → (s.tx id).parts.all (·.applied) = true → s.txConclude id = s.txEnd id) ∧
  (∀ (s : State) id, (s.tx id).aborting = false → (s.tx id).parts.all (·.applied) = false → (s.tx id).sub = [] →
    ((s.txConclude id).tx id).state = .ended ∧ ((s.txConclude id).tx id).outcome = 0x0203 ∧
    ((s.txConclude id).tx id).subject = firstNotApplied (s.tx id).parts) ∧
  (∀ (s : State) (id : BitVec 8), (s.tx id.toNat).aborting = true → exec (.txResend id) s =
    .next (s.setTx id.toNat { s.tx id.toNat with parts := sendAll .abort (s.tx id.toNat).parts })) ∧
  (∀ (s : State) (id : BitVec 8), (s.tx id.toNat).aborting = false → (s.tx id.toNat).state = .committed →
    exec (.txResend id) s = .next (s.setTx id.toNat { s.tx id.toNat with parts := sendAll .commit (s.tx id.toNat).parts }) ∧
    ((s.tx id.toNat).dueAt ≤ s.tim.uptime → exec (.txDoneTimeout id) s = .next ((s.lostRecords id.toNat (s.tx id.toNat).parts).txConclude id.toNat))) ∧
  (∀ (s : State) (id : BitVec 8), (s.tx id.toNat).state = .ended → (s.tx id.toNat).dueAt ≤ s.tim.uptime →
    exec (.txEndedTimeout id) s = .next (s.setTx id.toNat {})) ∧
  (∀ (s : State) (id : BitVec 8), s.tim.uptime < (s.tx id.toNat).dueAt → exec (.prepareDeadlineExpiry id) s = .next s ∧
    exec (.txDoneTimeout id) s = .next s ∧ exec (.txEndedTimeout id) s = .next s) ∧
  (∀ (t : Tx) n h, h = !t.frozen → (t.holdAt n h).frozen = h ∧ (h = true → (t.holdAt n h).left = t.dueAt - n) ∧
    (h = false → (t.holdAt n h).dueAt = n + max t.left 5000))

/-- R275, R295 to R299, R301, R304, R306, R307. -/
def Obligations.ParticipantsHoldChangesAndApply : Prop :=
  (∀ (s : State) part m c (id : BitVec 8) posted, (∀ q, c ≠ .dequeue q) → s.joinBlocked part m = false →
    (s.store id.toNat part).vote = none → (s.tx id.toNat).takes = false →
    exec (.txStage part m c id posted) s =
      .next (if posted then s.fault part .txStage (.unit m) 0x020A else s.error 0x020A)) ∧
  (∀ (s : State) part m c (id : BitVec 8) v, (∀ q, c ≠ .dequeue q) → s.joinBlocked part m = false →
    (s.store id.toNat part).vote = some v → Answers (.txStage part m c id false) s fun t =>
      (t.store id.toNat part).withdrawn = true ∧ (t.store id.toNat part).changes = (s.store id.toNat part).changes ∧
      t.response = .error 0x020A#16) ∧
  (∀ (s : State) part m c (id : BitVec 8), (∀ q, c ≠ .dequeue q) → s.joinBlocked part m = false →
    (s.store id.toNat part).vote = none → (s.tx id.toNat).takes = true → (s.store id.toNat part).joined = true →
    exec (.txStage part m c id false) s =
      .next ((s.putChange id.toNat part { change := c, src := m }).countStaged id.toNat c).ack) ∧
  (∀ (s : State) part m c (id : BitVec 8) posted u, (∀ q, c ≠ .dequeue q) → s.joinBlocked part m = false →
    (s.store id.toNat part).vote = none → (s.tx id.toNat).takes = true → (s.store id.toNat part).joined = false →
    u = (s.putChange id.toNat part { change := c, src := m }).countStaged id.toNat c →
    exec (.txStage part m c id posted) s = .next (u.setStore id.toNat part { u.store id.toNat part with
      joinSent := true, waiting := some m, posted := posted })) ∧
  (∀ (s : State) id part off w m, s.stageRefusal id part (.reg off w) = none →
    ((s.putChange id part { change := .reg off w, src := m }).store id part).changes =
      (s.store id part).changes.filter (fun d => !d.change.sameWord (.reg off w)) ++ [{ change := .reg off w, src := m }] ∧
    ((s.putChange id part { change := .reg off w, src := m }).txu.txs = s.txu.txs)) ∧
  (∀ (s : State) part (id : BitVec 8), (s.store id.toNat part).joinSent = true → (s.tx id.toNat).takes = true →
    (s.tx id.toNat).parts.length < 4096 → Answers (.txJoin part id) s fun t =>
      (t.store id.toNat part).ackSent = true ∧ (t.store id.toNat part).joinSent = false ∧
      (t.tx id.toNat).parts = (s.tx id.toNat).parts ++ [{ who := part }]) ∧
  (∀ (s : State) part (id : BitVec 8) d, s.txMsg id.toNat part .prepare = true →
    (s.takeMsg id.toNat part).voteOf ((s.takeMsg id.toNat part).store id.toNat part) = .refuse d →
    exec (.txPrepare part id) s = .next ((s.takeMsg id.toNat part).setStore id.toNat part
      { s.store id.toNat part with vote := some (.refuse d) })) ∧
  (∀ (s : State) part (id : BitVec 8) u, s.txMsg id.toNat part .prepare = true → u = s.takeMsg id.toNat part →
    u.voteOf (u.store id.toNat part) = .prepared → Answers (.txPrepare part id) s fun t =>
      (t.store id.toNat part).vote = some .prepared ∧
      (t.store id.toNat part).changes = (s.store id.toNat part).changes) ∧
  (∀ (s : State) part (id : BitVec 8), s.txMsg id.toNat part .commit = true → (s.store id.toNat part).answer = none →
    (s.store id.toNat part).commit = none → (s.store id.toNat part).vote = some .prepared →
    s.isReached (s.tx id.toNat).tick = false → exec (.txCommitReceive part id) s =
      .next ((s.takeMsg id.toNat part).setStore id.toNat part
        { s.store id.toNat part with commit := some (s.tx id.toNat).tick })) ∧
  (∀ (s : State) part (id : BitVec 8) u, u = s.takeMsg id.toNat part →
    s.txMsg id.toNat part .commit = true → (s.store id.toNat part).answer = none →
    (s.store id.toNat part).commit = none → u.isReached (u.tx id.toNat).tick = true →
    exec (.txCommitReceive part id) s = .next (u.tooLate id.toNat part)) ∧
  (∀ (s : State) part (id : BitVec 8) tick r p q, p = s.store id.toNat part → p.commit = some tick →
    p.answer = none → s.isReached tick = true → s.copyLost part = false → part.same Unit.qe = false →
    linkWords p.changes = [] → r = s.changesApply id.toNat p.changes →
    q = { p with changes := [], claims := [], pods := [], answer := some (if r.2 && !p.withdrawn then .applied else .notApplied) } →
    (r.1.setStore id.toNat part q).allAnswered id.toNat = false →
    exec (.txApply part id) s = .next (r.1.setStore id.toNat part q)) ∧
  (∀ (s : State) part (id : BitVec 8) tick, (s.store id.toNat part).commit = some tick →
    (s.store id.toNat part).answer.isSome = true ∨ s.isReached tick = false ∨ s.copyLost part = true →
    exec (.txApply part id) s = .next s) ∧
  (∀ (s : State) id c l, s.changesApply id (c :: l) =
    (((s.changeApply id c).1.changesApply id l).1, (s.changeApply id c).2 && ((s.changeApply id c).1.changesApply id l).2)) ∧
  (∀ (s : State) part (id : BitVec 8) u, s.txMsg id.toNat part .abort = true → (s.store id.toNat part).answer = none →
    u = (s.takeMsg id.toNat part).discardStaged id.toNat part →
    exec (.txAbortReceive part id) s = .next ((u.setStore id.toNat part
      { u.store id.toNat part with answer := some .abortAck }).subSettle id.toNat)) ∧
  (∀ (s : State) id part, ((s.discardStaged id part).store id part).changes = [] ∧
    ((s.discardStaged id part).store id part).claims = [] ∧ ((s.discardStaged id part).store id part).pods = []) ∧
  (∀ (s : State) part (id : BitVec 8), (s.store id.toNat part).vote = some .prepared →
    (s.store id.toNat part).commit = none → (s.store id.toNat part).answer = none →
    (s.store id.toNat part).votedAt + 2000000000 ≤ s.tim.uptime → Answers (.txOrphan part id) s fun t => t.store id.toNat part = {}) ∧
  (∀ (s : State) m data a, a = (s.srcReg m R.TXU_STAGE_ADDR_LO).toNat + 2 ^ 32 * bitsOf (s.srcReg m R.TXU_STAGE_ADDR_HI) 0 16 →
    a % 4 ≠ 0 → exec (.txuStageData m data) s = .next ((s.setSrcFld m F.TXU_CMD_RESULT_status 0xFF01).ack)) ∧
  (∀ (s : State) m data a id part c, a = (s.srcReg m R.TXU_STAGE_ADDR_LO).toNat + 2 ^ 32 * bitsOf (s.srcReg m R.TXU_STAGE_ADDR_HI) 0 16 →
    id = bitsOf (s.srcReg m R.TXU_STAGE_ADDR_HI) 24 8 → a % 4 = 0 →
    s.stagedWrite m a 4 (BitVec.setWidth 64 data) = some (part, c) → s.takeHeld m c = s → s.joinBlocked part m = false →
    (s.store id part).vote = none → (s.tx id).takes = true → (s.store id part).joined = true →
    exec (.txuStageData m data) s = .next
      ((((s.putChange id part { change := c, src := m }).countStaged id c).setSrcFld m F.TXU_CMD_RESULT_status 0).ack)) ∧
  (∀ (s : State), s.txu.txs = [] → exec (.syncWord []) s = .next { s with tim := { s.tim with lost := [] } }) ∧
  (∀ (s : State) l, (∀ e ∈ s.txu.txs, e.2.state ≠ .committed ∨ e.2.launch ≠ .asap) →
    exec (.syncWord l) s = .next (({ s with tim := { s.tim with lost := [] } }).diverge l))

/-- R38, R290 to R292, R427, R451. -/
def Obligations.CuesFireOnceAndTamperZeroises : Prop :=
  (∀ (s : State) m u slot t f a, CueAction.fits a u = false →
    exec (.cueArm m u slot t f a) s = .next (s.ack Code.unsupported)) ∧
  (∀ (s : State) m u (slot : Fin 8) t f a, CueAction.fits a u = true → s.mayCue m u slot.val = false →
    exec (.cueArm m u slot t f a) s = .next ((s.setFld (u.statusF slot.val) 0x0801).ack 0x0801)) ∧
  (∀ (s : State) m u (slot : Fin 8) t f a, CueAction.fits a u = true → s.mayCue m u slot.val = true →
    (∀ n, u ≠ .eng n) → s.cueArmed u slot.val = true → s.cueAction u slot.val ≠ a →
    exec (.cueArm m u slot t f a) s = .next ((s.setFld (u.statusF slot.val) 0xFF02).ack 0xFF02)) ∧
  (∀ (s : State) m u (slot : Fin 8) t f a, CueAction.fits a u = true → s.mayCue m u slot.val = true →
    s.cueArmed u slot.val = false ∨ s.cueAction u slot.val = a → s.classOf t = .outside →
    exec (.cueArm m u slot t f a) s = .next ((s.setFld (u.statusF slot.val) 0x0502).ack 0x0502)) ∧
  (∀ (s : State) m u (slot : Fin 8) t (f : BitVec 4) a, CueAction.fits a u = true → s.mayCue m u slot.val = true →
    s.cueArmed u slot.val = false ∨ s.cueAction u slot.val = a → s.classOf t ≠ .outside →
    Answers (.cueArm m u slot t f a) s fun r => r.cueArmed u slot.val = true ∧ r.cueAction u slot.val = a ∧
      r.response = .ack 0#16 ∧ r.claims = s.claims ∧ r.pending = s.pending ∧
      r = (s.cueHold u slot.val t f.toNat (a == .sysref) a).ack) ∧
  (∀ (s : State) m u (slot : Fin 8), s.mayCue m u slot.val = false →
    exec (.cueDisarm m u slot) s = .next ((s.setFld (u.statusF slot.val) 0x0801).ack 0x0801)) ∧
  (∀ (s : State) m u (slot : Fin 8), s.mayCue m u slot.val = true →
    exec (.cueDisarm m u slot) s = .next (s.cueClear u slot.val).settleSlots.ack) ∧
  (∀ (s : State) u k, (s.cueClear u k).cueArmed u k = false ∧ (s.cueClear u k).cueAction u k = .none) ∧
  (∀ (s : State) u (slot : Fin 8) a, s.cueArmed u slot.val = true → s.isReached (s.reg (u.timeField slot.val)) = true →
    s.copyLost u.master = false → a = s.cueAction u slot.val →
    exec (.cueFire u slot) s = .next (((s.cueClear u slot.val).incFld (u.firedF slot.val)).cueAct u slot.val a)) ∧
  (∀ (s : State) (n : Fin 1024) (slot : Fin 8), s.cueArmed (.eng n) slot.val = true →
    s.isReached (s.reg ((CueUnit.eng n).timeField slot.val)) = true → s.copyLost (CueUnit.eng n).master = false →
    s.cueAction (.eng n) slot.val = .event → exec (.cueFire (.eng n) slot) s = .next
      (((s.cueClear (.eng n) slot.val).incFld ((CueUnit.eng n).firedF slot.val)).raiseEvent n.val (2 + slot.val))) ∧
  (∀ (s : State) u (slot : Fin 8), s.cueArmed u slot.val = false ∨ s.isReached (s.reg (u.timeField slot.val)) = false ∨
    s.copyLost u.master = true → exec (.cueFire u slot) s = .next s) ∧
  (∀ (s : State) shield b, s.mode ≠ Mode.off → s.mode ≠ Mode.zeroised → shield = true ∨ s.trust.class2 = true →
    Answers (.tamperClass2Confirm shield b) s fun t => t.mode = Mode.zeroised ∧ t.txu = {} ∧ t.cues = [] ∧ t.pending = s.pending ∧
      t.loader = {} ∧ t.dev.subs = 0 ∧ t.dev.launched = false ∧ t.dev.gsr = true) ∧
  (∀ (s : State) b, s.mode = Mode.zeroised → exec (.tamperClass2Confirm true b) s = .next s) ∧
  (∀ (s : State), s.bit F.PCI_STATUS_link_up = true →
    exec .pcieLinkLoss s = .next (s.truncateHost.setBit F.PCI_STATUS_link_up false)) ∧
  (∀ (s : State) w v, s.mode ≠ Mode.off → s.mode ≠ Mode.held → s.mode ≠ Mode.zeroised → s.dev.perst = false →
    Answers (.pcieLinkUp w v) s fun t => t.bit F.PCI_STATUS_link_up = true ∧ t.fld F.PCI_STATUS_width = w.val ∧
      t.fld F.PCI_STATUS_speed = v.val ∧ KeepsRegs s t [R.PCI_STATUS])

/-- R401, R407 to R412, R414 to R421. -/
def Obligations.ScratchpadAndMailboxesServe : Prop :=
  (∀ (s : State) m (o : BitVec 27) size ecc p c, o.toNat + Fin.val size ≤ 0x8000000 → (m.external && spmSecure o.toNat size) = false →
    (s.spmBanks o.toNat size).all s.spmServes = true →
    exec (.spmAccess m o size none p c ecc) s = .next ((s.spmCheck (o.toNat >>> 23) (s.spmWord o.toNat) ecc).reply
      ((s.spmCheck (o.toNat >>> 23) (s.spmWord o.toNat) ecc).spmLoad o.toNat size)
      ((s.spmCheck (o.toNat >>> 23) (s.spmWord o.toNat) ecc).spmAnyPoison o.toNat size))) ∧
  (∀ (s : State) m (o : BitVec 27) size (v : List Byte), size = Fin.ofNat 513 v.length → v.length < 513 →
    o.toNat + v.length ≤ 0x8000000 → o.toNat % 8 = 0 → v.length % 8 = 0 →
    (m.external && spmSecure o.toNat v.length) = false → (s.spmBanks o.toNat v.length).all s.spmServes = true →
    Answers (.spmAccess m o size (some v) false true .clean) s fun t => t.response = .ack 0#16 ∧ t.ctrl = s.ctrl ∧
      t = (((s.spmMark o.toNat v.length false (spmOffsets o.toNat v.length)).spmStore o.toNat v).ack)) ∧
  (∀ (s : State) o v, ((s.spmStore o v).spm.poison = s.spm.poison ∧ (s.spmStore o v).ctrl = s.ctrl) ∧
    (∀ k b, b < 8 → (∀ i, i < v.length → s.spmWord (o + i) ≠ k ∨ (o + i) % 8 ≠ b) →
      (s.spmStore o v).spmByte k b = s.spmByte k b)) ∧
  (∀ (s : State) o b, (s.spmStore o [b]).spmAt o = b) ∧
  (∀ (s : State) o v, Table.wf zeroByte s.spm.mem = true → Table.wf zeroByte (s.spmStore o v).spm.mem = true) ∧
  (∀ (s : State) b, Table.wf zeroByte s.spm.mem = true → Table.wf zeroByte (s.spmErase b).spm.mem = true ∧
    ∀ k i, i < 8 → (s.spmErase b).spmByte k i = (if k / 32768 = b then 0 else s.spmByte k i)) ∧
  (∀ (s : State) m (o : BitVec 27) size w p c ecc, o.toNat + Fin.val size ≤ 0x8000000 → m.external = true →
    0x7800000 < o.toNat + size → exec (.spmAccess m o size w p c ecc) s = .next (s.error Code.blockedRange)) ∧
  (∀ (s : State) m (o : BitVec 27) size p c ecc, o.toNat + Fin.val size ≤ 0x8000000 → m.external = false →
    (s.spmBanks o.toNat size).all s.spmServes = false →
    exec (.spmAccess m o size none p c ecc) s = .next (s.error 0x0407)) ∧
  (∀ (s : State) m (a : BitVec 48) sw v p o, o = a.toNat - 0x20000000000 → a.toNat % 4 = 0 → 0x20000000000 ≤ a.toNat →
    a.toNat < 0x20008000000 → (m.external && spmSecure o 4) = false → s.spmServes (s.spmGlobalBank o) = true →
    exec (.spmAtomic m a sw v p .clean) s = .next (((s.spmStore o (toBytes 4
      (if sw then v else BitVec.ofNat 32 (ofBytes (s.spmLoad o 4)) + v).toNat)).setSpmPoison (s.spmWord o)
      (s.spmPoison (s.spmWord o) || p)).reply (toBytes 4 (BitVec.ofNat 32 (ofBytes (s.spmLoad o 4))).toNat)
      (s.spmPoison (s.spmWord o)))) ∧
  (∀ (s : State) m (a : BitVec 48) sw v p e, a.toNat % 4 ≠ 0 →
    exec (.spmAtomic m a sw v p e) s = .next (s.error Code.invalidArgument)) ∧
  (∀ (s : State) m (g : Fin 16) l, s.spmLinear g.val = !l → s.spmSetBusy g.val = false → s.spmSetOn g.val = true →
    exec (.spmSetModeWrite m g l) s =
      .next ((s.setBit (F.SPM_SET_CFG_mode g.val) l).setFld (F.SPM_SET_CFG_state g.val) 0).ack) ∧
  (∀ (s : State) m (g : Fin 16) l, s.spmLinear g.val = !l → s.spmSetBusy g.val = true →
    exec (.spmSetModeWrite m g l) s = .next (s.refuse F.SPM_STATUS_last_status 0xFF02)) ∧
  (∀ (s : State) m (g : Fin 16) (p : Fin 4), s.spmLinear g.val = false → p ≠ 3 → s.spmSetBusy g.val = false →
    s.fld (F.SPM_SET_CFG_state g.val) ≠ p.val → exec (.spmSetPowerWrite m g p) s =
      .next ((s.setFld (F.SPM_SET_CFG_power g.val) p.val).setBit (F.SPM_SET_CFG_changing g.val) true).ack) ∧
  (∀ (s : State) m (g : Fin 16), s.spmLinear g.val = false →
    exec (.spmSetPowerWrite m g 3) s = .next (s.refuse F.SPM_STATUS_last_status 0xFF01)) ∧
  (∀ (s : State) m (b : Fin 512) p, s.spmLinear (b.val / 32) = false →
    exec (.spmBankPowerWrite m b p) s = .next (s.refuse F.SPM_STATUS_last_status 0xFF02)) ∧
  (∀ (s : State) m (b : Fin 512) (p : Fin 4), s.spmLinear (b.val / 32) = true → p ≠ 3 → s.spmChanging b.val = false →
    s.fld (F.SPM_BANK_PWR_state b.val) ≠ p.val → exec (.spmBankPowerWrite m b p) s =
      .next ((s.setFld (F.SPM_BANK_PWR_power b.val) p.val).setBit (F.SPM_BANK_PWR_changing b.val) true).ack) ∧
  (∀ (s : State) (b : Fin 512), s.spmLinear (b.val / 32) = true → s.bit (F.SPM_BANK_PWR_changing b.val) = true →
    Answers (.powerChangeDone b) s fun t => t.bit (F.SPM_BANK_PWR_changing b.val) = false ∧
      t.fld (F.SPM_BANK_PWR_state b.val) = s.fld (F.SPM_BANK_PWR_power b.val) ∧
      t.spm = (if s.fld (F.SPM_BANK_PWR_state b.val) = 2 ∨ s.fld (F.SPM_BANK_PWR_power b.val) = 2
        then (s.spmErase b.val).spm else s.spm)) ∧
  (∀ (s : State), s.bit F.SPM_STATUS_wiping = true → Answers .secureWipeDone s fun t =>
    t.bit F.SPM_STATUS_wiping = false ∧ t.spm = (s.spmEraseAll ((List.range 32).map (480 + ·))).spm) ∧
  (∀ (s : State) (b : Fin 512) k, s.spmPower b.val = 0 → s.spmChanging b.val = false →
    k = b.val * 32768 + (s.lap (lapSpm b.val)).next →
    exec (.spmScrubCycle b .clean) s = .next (s.lapStep (lapSpm b.val) 32768) ∧
    exec (.spmScrubCycle b .corrected) s = .next ((s.spmCorrected (b.val / 32) k).lapStep (lapSpm b.val) 32768)) ∧
  (∀ (s : State), Answers .scrubStallCheck s fun t => KeepsRegs s t [R.MP_SCRUB_STALLED] ∧ t.laps = s.laps ∧
    (s.laps = [] → t.fld F.MP_SCRUB_STALLED_engines = 1024 ∧ t.fld F.MP_SCRUB_STALLED_brams = 36864)) ∧
  (∀ (s : State) m (x : Fin 256) (w : Word) t, t = s.setReg (R.MBX_DB x.val) (s.reg (R.MBX_DB x.val) ||| (w &&& 0x7FFFFFFF#32)) →
    exec (.mbxDbSet m x w) s = .next (if s.mbxPending x.val = 0 ∧ t.mbxPending x.val ≠ 0 then t.mbxNotify x.val else t).ack) ∧
  (∀ (s : State) m (x : Fin 256) (w : Word) t, t = s.setReg (R.MBX_DB x.val) (s.reg (R.MBX_DB x.val) &&& ~~~w) →
    exec (.mbxDbClear m x w) s = .next (if t.mbxPending x.val ≠ 0 then t.mbxNotify x.val else t).ack) ∧
  (∀ (s : State) m (x : Fin 256) (w : Word) t, t = s.setReg (R.MBX_DB_MASK x.val) w →
    exec (.mbxMaskWrite m x w) s = .next (if s.mbxPending x.val = 0 ∧ t.mbxPending x.val ≠ 0 then t.mbxNotify x.val else t).ack) ∧
  (∀ (s : State) m (x : Fin 256) (q c : BitVec 16), s.mbxIsPending x.val = true → s.mbxReceiver x.val m = true →
    s.fld (F.MBX_STATE_seq x.val) = q.toNat → Answers (.mbxAck m x q c) s fun t =>
      t.fld (F.MBX_STATE_state x.val) = 2 ∧ t.fld (F.MBX_RESULT_code x.val) = c.toNat ∧
      (t.mailbox x.val).deadline = none ∧ t.fld (F.MBX_STATE_seq x.val) = q.toNat) ∧
  (∀ (s : State) m (x : Fin 256) (q c : BitVec 16), s.mbxIsPending x.val = false ∨ s.mbxReceiver x.val m = false ∨
    s.fld (F.MBX_STATE_seq x.val) ≠ q.toNat →
    exec (.mbxAck m x q c) s = .next (s.satFld (F.MBX_COUNT_late_acks x.val) (F.MBX_COUNT_overflow x.val)).ack) ∧
  (∀ (s : State) (x : Fin 256) d, s.mbxIsPending x.val = true → s.mbxUnavailable x.val = false →
    (s.mailbox x.val).deadline = some d → d ≤ s.now → exec (.mbxTimeout x) s =
      .next ((s.mbxExpire x.val false).fault Unit.mbx .mbxTimeout (.unit (s.mbxSubject x.val)) 0 x.val)) ∧
  (∀ (s : State) m (x : Fin 256) i w, s.mbxIsPending x.val = false ∨ s.mbxReceiver x.val m = true →
    exec (.mbxMsgWrite m x i w) s = .next (s.setReg (R.MBX_MSG x.val i.val) w).ack) ∧
  (∀ (s : State) m (x : Fin 256) w, s.mbxHeld m x.val = true → s.mbxIsPending x.val = false →
    exec (.mbxCfgWrite m x w) s = .next (s.setReg (R.MBX_CFG x.val) (w &&& 0xCFFFFFFF#32)).ack) ∧
  (∀ (s : State) m (x : Fin 256), s.mbxHeld m x.val = false →
    exec (.mbxSend m x) s = .next (if s.mbxIsPending x.val then s.refuse (F.MBX_RESULT_last_status x.val) 0x0801
      else (s.refuse (F.MBX_RESULT_last_status x.val) 0x0801).monFragment x.val) ∧
    ∀ w, exec (.mbxCfgWrite m x w) s = .next (s.refuse (F.MBX_RESULT_last_status x.val) 0x0801)) ∧
  (∀ (s : State) m (x : Fin 256), x ≠ 0 → s.mbxIsPending x.val = true →
    exec (.mbxSend m x) s = .next (s.refuse (F.MBX_RESULT_last_status x.val) 0xFF02)) ∧
  (∀ (s : State) m (x : Fin 256), x ≠ 0 → s.mbxIsPending x.val = false → exec (.mbxSend m x) s =
    .next (mbxSendGo m x.val s)) ∧
  (∀ (s : State) m (x : Fin 256), x ≠ 0 → s.mbxIsPending x.val = false → s.fld (F.MBX_CFG_kind x.val) = 0 →
    ((mbxSendGo m x.val s).mailbox x.val).sender = some m ∧ (mbxSendGo m x.val s).fld (F.MBX_STATE_state x.val) = 1 ∧
    (mbxSendGo m x.val s).fld (F.MBX_STATE_seq x.val) = (s.fld (F.MBX_STATE_seq x.val) + 1) % 65536 ∧
    (mbxSendGo m x.val s).reg (R.MBX_DB x.val) = s.reg (R.MBX_DB x.val) ||| 0x80000000#32)

/-- R315, R316, R319, R320, R323 to R325, R331, R334. -/
def Obligations.ConverterLinksComeUp : Prop :=
  (∀ (s : State) m g k, s.groupValid (Fin.val g) [Fin.val k] = true → exec (.cvlLinkApply m g k) s =
    .next ((s.linkLive g.val k.val).setFld (F.CVL_LK_STATUS_last_status g.val k.val) 0).ack) ∧
  (∀ (s : State) m g k, s.groupValid (Fin.val g) [Fin.val k] = false →
    exec (.cvlLinkApply m g k) s = .next (s.refuse (F.CVL_LK_STATUS_last_status g.val k.val) 0xFF01)) ∧
  (∀ ratio c, groupOk ratio c = true → ∀ x ∈ List.zipIdx c, ∀ y ∈ List.zipIdx c, x.1.en = true → y.1.en = true →
    x.1.ok ratio = true ∧ (x.2 ≠ y.2 → x.2 / 4 = y.2 / 4 → ∀ a, a ∈ x.1.lanes → a ∉ y.1.lanes)) ∧
  (∀ (c : LinkCfg) ratio, c.ok ratio = true → 1 ≤ c.b ∧ c.b ≤ 32 ∧ c.b ∣ c.k ∧ 11 ≤ c.n ∧ c.n + c.cs ≤ 16 ∧
    17 ≤ c.f * c.k ∧ c.f * c.k ≤ 1024 ∧ c.f * 8 * c.l = c.m * c.s * 16 ∧ c.first + c.l ≤ 8 ∧ c.l ∣ c.first ∧
    c.headBytes + c.frameBytes * c.b ≤ 512 ∧ c.rbd < c.k ∧ c.prio ≤ 5) ∧
  (∀ (s : State) m (g k : Fin 8), (s.liveCfg g.val k.val).en = true → exec (.cvlLinkResync m g k) s =
    .next ((s.satFld (F.CVL_LK_SYNC_resyncs g.val k.val) (F.CVL_LK_SYNC_overflow g.val k.val)).startLink g.val k.val).ack) ∧
  (∀ (s : State) m (g k : Fin 8), (s.liveCfg g.val k.val).en = false → exec (.cvlLinkResync m g k) s = .next s.ack) ∧
  (∀ (s : State) m (g : Fin 8) (w : Word), s.bit (F.CVL_G_CTRL_pll_en g.val) = false → w.getLsbD 31 = true →
    bitsOf w 0 8 < 8 ∨ 200 < bitsOf w 0 8 → exec (.cvlPllEnable m g w) s =
      .next (s.refuse (F.CVL_G_STATUS_last_status g.val) 0xFF01)) ∧
  (∀ (s : State) m (g : Fin 8) (w : Word), s.bit (F.CVL_G_CTRL_pll_en g.val) = false → w.getLsbD 31 = false →
    exec (.cvlPllEnable m g w) s =
      .next ((s.setFld (F.CVL_G_CTRL_ratio g.val) (bitsOf w 0 8)).setBit (F.CVL_G_CTRL_pll_en g.val) false).ack) ∧
  (∀ (s : State) m (g : Fin 8) (w : Word), s.bit (F.CVL_G_CTRL_pll_en g.val) = false → w.getLsbD 31 = true →
    8 ≤ bitsOf w 0 8 → bitsOf w 0 8 ≤ 200 → exec (.cvlPllEnable m g w) s =
      .next (((s.setFld (F.CVL_G_CTRL_ratio g.val) (bitsOf w 0 8)).setBit (F.CVL_G_CTRL_pll_en g.val) true).rejudge
        (.convPll g)).ack) ∧
  (∀ (s : State) m (g : Fin 8) (w : Word) u, u = s.setReg (R.CVL_G_CUE g.val) (w &&& 0x200000F7#32) →
    u.holds m (sysrefClaim g.val) = false → exec (.cvlCueArm m g w) s =
      .next ((u.setFld ((groupCue g.val).statusF (bitsOf w 0 3)) 0x0801).ack)) ∧
  (∀ (s : State) m (g : Fin 8) (w : Word) u, u = s.setReg (R.CVL_G_CUE g.val) (w &&& 0x200000F7#32) →
    u.holds m (sysrefClaim g.val) = true → exec (.cvlCueArm m g w) s = .next ((u.armCue m (groupCue g.val) (bitsOf w 0 3)
      (u.reg (R.CVL_G_CUE_AT g.val)) (bitsOf w 4 4) (!w.getLsbD 29 && u.bit (F.CVL_G_SYSREF_pin_en g.val))
      (if w.getLsbD 29 then .align else .sysref)).2.ack)) ∧
  (∀ (s : State) m (g : Fin 8) (w : Word) u, u = s.setReg (R.CVL_G_CUE g.val) (w &&& 0x200000F7#32) →
    exec (.cvlCueDisarm m g w) s = .next (if u.mayCue m (groupCue g.val) (bitsOf w 0 3)
      then ((u.cueClear (groupCue g.val) (bitsOf w 0 3)).setFld ((groupCue g.val).statusF (bitsOf w 0 3)) 0).ack
      else (u.setFld ((groupCue g.val).statusF (bitsOf w 0 3)) 0x0801).ack)) ∧
  (∀ (s : State) (g : Fin 8) same, (s.cvGroup g.val).instant = true → Answers (.sysrefInstant g same) s fun t =>
    (t.cvGroup g.val).instant = false ∧ (t.cvGroup g.val).once = true ∧
    (s.fld (F.CVL_G_SYSREF_mode g.val) = 0 → (t.cvGroup g.val).restart.isSome = !(s.cvGroup g.val).once) ∧
    (s.fld (F.CVL_G_SYSREF_mode g.val) = 1 →
      (t.cvGroup g.val).restart.isSome = !((s.cvGroup g.val).lmfc && same)) ∧
    (2 ≤ s.fld (F.CVL_G_SYSREF_mode g.val) → (t.cvGroup g.val).restart = none) ∧
    ((s.cvGroup g.val).lmfc = true → same = false → t.bit (F.CVL_G_SYSREF_misaligned g.val) = true)) ∧
  (∀ (s : State) (g : Fin 8), (s.cvGroup g.val).restart = some false → Answers (.lmfcRestart g) s fun t =>
    (t.cvGroup g.val).lmfc = true ∧ (t.cvGroup g.val).restart = none ∧
    t.fld (F.CVL_G_LMFC_NS_ns g.val) = s.now % 2 ^ 32 ∧
    t.fld (F.CVL_G_LMFC_FRAC_frac g.val) = (s.svc.extractLsb' 28 4).toNat) ∧
  (∀ (s : State) (g : Fin 8), Answers (.devclkStamp g) s fun t => t.fld (F.CVL_G_DEVCLK_NS_ns g.val) = s.now % 2 ^ 32 ∧
    t.fld (F.CVL_G_DEVCLK_FRAC_frac g.val) = (s.svc.extractLsb' 28 4).toNat ∧ t.cvl = s.cvl) ∧
  (∀ (s : State) (g : Fin 8) m, (s.cvGroup g.val).periodic = some m → s.holds m (sysrefClaim g.val) = true →
    s.fld (F.CVL_G_SYSREF_pulses g.val) = 0 ∨ (s.cvGroup g.val).left ≠ 0 → exec (.periodicSysrefPulse g) s =
      .next ((s.setCvGroup g.val { s.cvGroup g.val with left := (s.cvGroup g.val).left - 1, instant := true }).sysrefPulse g.val)) ∧
  (∀ (s : State) (g : Fin 8) m, (s.cvGroup g.val).periodic = some m → s.holds m (sysrefClaim g.val) = false →
    exec (.periodicSysrefPulse g) s = .next (s.setCvGroup g.val { s.cvGroup g.val with periodic := none, left := 0 })) ∧
  (∀ (s : State) (n : Fin 64) k, s.lanesRun = true → s.bit (F.CVL_LANE_STATUS_fault n.val) = false →
    k = s.fld (F.CVL_LANE_STATUS_link_rx n.val) → k ≤ 3 → s.lkState (n.val / 8) k = LkState.cgs →
    Answers (.laneCgsSync n) s fun t => t.bit (F.CVL_LANE_STATUS_cgs n.val) = true ∧
      t.bit (F.CVL_LANE_STATUS_cdr_lock n.val) = true ∧ ((s.liveCfg (n.val / 8) k).sub1 = true → t.cvl = s.cvl)) ∧
  (∀ (s : State) (g : Fin 8) (k : Fin 4), s.lkState g.val k.val = LkState.cgs → (s.liveCfg g.val k.val).sub1 = true →
    s.allCgs g.val k.val = true → (s.cvGroup g.val).lmfc = true →
    exec (.syncRelease g k) s = .next (s.enterIlas g.val k.val)) ∧
  (∀ (s : State) g k, k < 8 → (s.enterIlas g k).lkState g k = LkState.ilas ∧ ((s.enterIlas g k).cvLink g k).syncOut = true) ∧
  (∀ (s : State) (g : Fin 8) (k : Fin 4) a, s.lkState g.val k.val = LkState.ilas → (s.cvLink g.val k.val).multiframes < 3 →
    (s.cvLink g.val k.val).multiframes ≠ 1 ∨ a = true → exec (.ilasMultiframe g k a true) s = .next (s.setCvLink g.val k.val
      { s.cvLink g.val k.val with multiframes := (s.cvLink g.val k.val).multiframes + 1 })) ∧
  (∀ (s : State) (g : Fin 8) (k : Fin 4) a, s.lkState g.val k.val = LkState.ilas → (s.cvLink g.val k.val).multiframes = 3 →
    Answers (.ilasMultiframe g k a true) s fun t => t.lkState g.val k.val = LkState.data ∧
      t.fld (F.CVL_LK_STATUS_lanes_ok g.val k.val) = (s.liveCfg g.val k.val).mask % 256) ∧
  (∀ (s : State) (g : Fin 8) (k : Fin 4), s.lkState g.val k.val = LkState.aligning →
    exec (.rawAligned g k) s = .next (s.enterData g.val k.val)) ∧
  (∀ (s : State) (g : Fin 8) (k : Fin 4), s.lkState g.val k.val ≠ LkState.aligning → exec (.rawAligned g k) s = .next s) ∧
  (∀ (s : State) (g : Fin 8) (k : Fin 4), (s.liveCfg g.val (4 + k.val)).en = true → (s.liveCfg g.val (4 + k.val)).raw = false →
    exec (.syncInputChange g k .request) s = .next (s.resync g.val (4 + k.val)) ∧
    exec (.syncInputChange g k .report) s = .next (s.satFld (F.CVL_LK_SYNC_reports g.val (4 + k.val))
      (F.CVL_LK_SYNC_overflow g.val (4 + k.val))) ∧
    (s.lkState g.val (4 + k.val) = LkState.cgs → Answers (.syncInputChange g k .high) s fun t =>
      (t.cvLink g.val (4 + k.val)).syncIn = true ∧ ((s.liveCfg g.val (4 + k.val)).sub1 = false →
        t.lkState g.val (4 + k.val) = LkState.ilas))) ∧
  (∀ (s : State) (g : Fin 8) tr b, (s.cvGroup g.val).lmfc = true → exec (.lmfcEdge g tr b) s =
    .next ((s.eachLink (fun s k => s.txEdge g.val tr k) [4, 5, 6, 7]).eachLink (fun s k => s.rxEdge g.val b.toNat k) [0, 1, 2, 3])) ∧
  (∀ (s : State) g tr k, k < 8 → (s.liveCfg g k).en = true → (s.liveCfg g k).raw = false → s.lkState g k = LkState.ilas →
    (s.cvLink g k).multiframes = 3 → (s.txEdge g tr k).lkState g k = LkState.data)

/-- R317, R321, R326 to R330, R332, R333, R337 to R339. -/
def Obligations.ConverterDataFlows : Prop :=
  (∀ (s : State) (g : Fin 8) (k : Fin 4) f, s.lkState g.val k.val = LkState.data → s.hasFault g.val k.val = false →
    FrameIn.errors f = [] → FrameIn.late f = 0 → FrameIn.astray f = none → exec (.frameRelease g k f) s =
      .next (s.addFrame g.val k.val (frameWords ((s.liveCfg g.val k.val).m * (s.liveCfg g.val k.val).s) false f.words)
        false false false s.now32)) ∧
  (∀ (s : State) (g : Fin 8) (k : Fin 4) f, s.lkState g.val k.val ≠ LkState.data ∨ s.hasFault g.val k.val = true →
    exec (.frameRelease g k f) s = .next s) ∧
  (∀ (s : State) g k w e p f t, (s.cvLink g k).findex % (s.liveCfg g k).b = 0 → 1 < (s.liveCfg g k).b →
    (((s.addFrame g k w e p f t).cvLink g k).making = some (RxBlock.mk t (s.cvLink g k).findex 1 w e p f) ∧
    ((s.addFrame g k w e p f t).cvLink g k).complete = (s.cvLink g k).complete ∧
    ((s.addFrame g k w e p f t).cvLink g k).findex = ((s.cvLink g k).findex + 1) % (s.liveCfg g k).k)) ∧
  (∀ (s : State) g k w e p f t (x : RxBlock), (s.cvLink g k).findex % (s.liveCfg g k).b ≠ 0 →
    (s.cvLink g k).making = some x → x.frames + 1 = (s.liveCfg g k).b →
    ((s.addFrame g k w e p f t).cvLink g k).complete = (s.cvLink g k).complete ++
      [RxBlock.mk x.time x.findex (x.frames + 1) (x.words ++ w) (x.err || e) (x.poison || p) (x.fill || f)] ∧
    ((s.addFrame g k w e p f t).cvLink g k).making = none) ∧
  (∀ (s : State) (g : Fin 8) (k : Fin 4) x l, (s.cvLink g.val k.val).complete = x :: l → s.cvlFrozen = false →
    exec (.rxBlockComplete g k true) s = .next ((s.setCvLink g.val k.val { s.cvLink g.val k.val with complete := l }).sendBlock
      g.val k.val x)) ∧
  (∀ (s : State) (g : Fin 8) (k : Fin 4) x l, (s.cvLink g.val k.val).complete = x :: l → s.cvlFrozen = false →
    exec (.rxBlockComplete g k false) s = .next (((s.setCvLink g.val k.val { s.cvLink g.val k.val with complete := l }).satFld
      (F.CVL_LK_COUNT_dropped g.val k.val) (F.CVL_LK_COUNT_overflow g.val k.val)).fault (Unit.cvl g.val) .cvlOverrun
        (.unit (Unit.cvl g.val)) 0 (8 * g.val + k.val))) ∧
  (∀ (c : LinkCfg) link x, c.packed = true → (blockBytes c link x).length = 8 + 2 * x.words.length) ∧
  (∀ (s : State) (g : Fin 8) p b c, s.txHeld g.val + List.length p ≤ 65536 → (s.cvGroup g.val).waiting = [] →
    exec (.txBlockArrive g p b c) s = .next (s.judgeBlock g.val p b c)) ∧
  (∀ (s : State) (g : Fin 8) p b c, 65536 < s.txHeld g.val + List.length p → exec (.txBlockArrive g p b c) s =
    .next (s.setCvGroup g.val { s.cvGroup g.val with waiting := (s.cvGroup g.val).waiting ++ [(p, b, c)] })) ∧
  (∀ (s : State) g p b k t n, s.blockFor g false p = some (k, t, n) → s.classOf t ≠ .outside → b = false →
    ((s.judgeBlock g p b true).cvLink g k).queue = (s.cvLink g k).queue ++ [TxBlock.mk (s.extend t) n
      (blockWords (s.liveCfg g k) n p) false p.length]) ∧
  (∀ (s : State) g p b c k t n, s.blockFor g false p = some (k, t, n) → s.classOf t = .outside →
    s.judgeBlock g p b c = (s.satFld (F.CVL_LK_COUNT_dropped g k) (F.CVL_LK_COUNT_overflow g k)).fault (Unit.cvl g) .cvlLate
      (.unit (Unit.cvl g)) 0 (8 * g + k)) ∧
  (∀ (s : State) (g : Fin 8) (k : Fin 4) i x l, s.lkState g.val (4 + k.val) = LkState.data →
    (s.cvLink g.val (4 + k.val)).queue = x :: l → x.due ≤ s.now → s.cvlFrozen = false → x.bad = false →
    (s.cvGroup g.val).waiting = [] → BitVec.toNat i = 0 → Answers (.txBlockStart g k false i) s fun t =>
      (t.cvLink g.val (4 + k.val)).queue = l ∧ (t.cvLink g.val (4 + k.val)).sent = x.words ∧ t.ctrl = s.ctrl) ∧
  (∀ (s : State) (n : Fin 64), s.lanesRun = true → s.bit (F.CVL_LANE_STATUS_fault n.val) = false →
    s.fld (F.CVL_LANE_STATUS_link_rx n.val) = 15 → Answers (.laneFault n) s fun t =>
      t.bit (F.CVL_LANE_STATUS_fault n.val) = true ∧ t.bit (F.CVL_LANE_STATUS_aligned n.val) = false ∧ t.cvl = s.cvl) ∧
  (∀ (s : State) (n : Fin 64), s.bit (F.CVL_LANE_STATUS_fault n.val) = true → exec (.laneFaultRetry n true) s =
      .next ((s.setBit (F.CVL_LANE_STATUS_fault n.val) false).resyncLane n.val) ∧
    exec (.laneFaultRetry n false) s = .next s) ∧
  (∀ (s : State) m (n : Fin 64) (w : Word), s.bit (F.CVL_EYE_CTRL_busy n.val) = false →
    s.fld (F.CVL_LANE_STATUS_link_rx n.val) ≠ 15 ∨ s.bit (F.CVL_LANE_CTRL_test_rx n.val) = true →
    20 ≤ bitsOf w 22 6 → bitsOf w 22 6 ≤ 40 → bitsOf w 8 7 ≠ 64 → exec (.eyeScanGo m n w) s =
      .next ((s.setReg (R.CVL_EYE_CTRL n.val) (w &&& 0x0FFF7F00#32)).setBit (F.CVL_EYE_CTRL_busy n.val) true).ack) ∧
  (∀ (s : State) m (n : Fin 64) (w : Word), s.bit (F.CVL_EYE_CTRL_busy n.val) = false →
    s.fld (F.CVL_LANE_STATUS_link_rx n.val) = 15 → s.bit (F.CVL_LANE_CTRL_test_rx n.val) = false →
    exec (.eyeScanGo m n w) s = .next (s.refuse (F.CVL_G_STATUS_last_status (n.val / 8)) 0xFF02)) ∧
  (∀ (s : State) (n : Fin 64) e, s.bit (F.CVL_EYE_CTRL_busy n.val) = true → exec (.eyeScanDone n (some e)) s =
    .next (((s.setBit (F.CVL_EYE_CTRL_busy n.val) false).setBit (F.CVL_EYE_CTRL_done n.val) true).setReg (R.CVL_EYE_ERR n.val) e)) ∧
  (∀ (s : State) m (n : Fin 64), s.laneUsed n.val = false → exec (.injSingle m n) s = .next (s.injectBits n.val 1) ∧
    Table.get zeroNat (s.injectBits n.val 1).cvl.inverted n.val = Table.get zeroNat s.cvl.inverted n.val + 1) ∧
  (∀ (s : State) m (n : Fin 64), s.laneUsed n.val = true → s.bit (F.CVL_LANE_TEST_inj_live n.val) = false →
    exec (.injSingle m n) s = .next (s.refuse (F.CVL_G_STATUS_last_status (n.val / 8)) 0xFF02)) ∧
  (∀ (s : State) m (n : Fin 64), 2 ≤ s.fld (F.CVL_LANE_TEST_burst_len n.val) → s.laneUsed n.val = false →
    Answers (.injBurst m n) s fun t => t.response = .ack 0#16 ∧ Table.get zeroNat t.cvl.inverted n.val =
      Table.get zeroNat s.cvl.inverted n.val + s.fld (F.CVL_LANE_TEST_burst_len n.val)) ∧
  (∀ (s : State) m (n : Fin 64) (w : Word), bitsOf w 12 3 ≤ 4 → bitsOf w 4 3 ≤ 4 → s.laneUsed n.val = true →
    w.getLsbD 7 = true ∨ w.getLsbD 15 = true →
    exec (.prbsEnable m n w) s = .next (s.refuse (F.CVL_G_STATUS_last_status (n.val / 8)) 0xFF02)) ∧
  (∀ (s : State) m (n : Fin 64) (w : Word), bitsOf w 12 3 ≤ 4 → bitsOf w 4 3 ≤ 4 → s.laneUsed n.val = false →
    s.bit (F.CVL_LANE_TEST_chk_en n.val) = false → exec (.prbsEnable m n w) s = .next ((s.setReg (R.CVL_LANE_TEST n.val)
      ((s.reg (R.CVL_LANE_TEST n.val) &&& ~~~0xF8F8#32) ||| (w &&& 0xF8F8#32))).setBit
        (F.CVL_LANE_PRBS_ERR_locked n.val) false).ack) ∧
  (∀ (s : State) (n : Fin 64) b (e : BitVec 30), s.bit (F.CVL_LANE_TEST_chk_en n.val) = true →
    s.bit (F.CVL_LANE_PRBS_ERR_locked n.val) = false ∨ e = 0 → exec (.prbsCheckerLock n b e) s =
      .next (s.setBit (F.CVL_LANE_PRBS_ERR_locked n.val) b)) ∧
  (∀ (s : State) (n : Fin 64) b (e : BitVec 30), s.bit (F.CVL_LANE_TEST_chk_en n.val) = true →
    s.bit (F.CVL_LANE_PRBS_ERR_locked n.val) = true → e ≠ 0 → exec (.prbsCheckerLock n b e) s =
      .next ((s.satFld (F.CVL_LANE_PRBS_ERR_errors n.val) (F.CVL_LANE_PRBS_ERR_overflow n.val) e.toNat).setBit
        (F.CVL_LANE_PRBS_ERR_locked n.val) b))

/-- R341, R342, R346 to R351, R353, R354, R356, R357. -/
def Obligations.NetworkPortsCarryFrames : Prop :=
  (∀ (s : State) m (b : Fin 8) (w : Word), s.bit (F.NTL_PB_CTRL_en b.val) = true →
    bitsOf w 29 2 ≠ s.fld (F.NTL_PB_CTRL_mode b.val) ∨ bitsOf w 28 1 ≠ s.fld (F.NTL_PB_CTRL_fec b.val) →
    exec (.ntlBlockEnable m b w) s = .next (s.refuse (F.NTL_PB_STATUS_last_status b.val) 0xFF02)) ∧
  (∀ (s : State) m (b : Fin 8) (w : Word), s.bit (F.NTL_PB_CTRL_en b.val) = false → 1518 ≤ bitsOf w 0 14 →
    bitsOf w 0 14 ≤ 9216 → bitsOf w 28 1 = 0 ∨ bitsOf w 29 2 ≠ 3 → w.getLsbD 31 = true →
    Answers (.ntlBlockEnable m b w) s fun t => t.reg (R.NTL_PB_CTRL b.val) = w &&& 0xFC003FFF#32 ∧
      t.fld (F.NTL_PB_STATUS_link_up b.val) = 0 ∧ t.response = .ack 0#16 ∧ (t.portBlock b.val).asm = [] ∧
      (t.portBlock b.val).waiting = []) ∧
  (∀ (s : State) (b : Fin 8) (p : Fin 4), s.blockRuns b.val = true → s.hasPort b.val p.val = true →
    (s.portBlock b.val).lost = 0 → s.bit (F.NTL_PB_CTRL_fec b.val) = false → Answers (.portLinkUp b p) s fun t =>
      bitAt (t.fld (F.NTL_PB_STATUS_link_up b.val)) p.val = true ∧ t.ntl = s.ntl) ∧
  (∀ (s : State) (n : Fin 32), s.blockRuns (n.val / 4) = true → (s.portBlock (n.val / 4)).lost.getLsbD (n.val % 4) = false →
    s.fld (F.NTL_PB_CTRL_mode (n.val / 4)) = 2 → Answers (.ntlLaneLost n) s fun t =>
      (t.portBlock (n.val / 4)).lost.getLsbD (n.val % 4) = true ∧
      bitAt (t.fld (F.NTL_PB_STATUS_link_up (n.val / 4))) (n.val % 4) = false) ∧
  (∀ (s : State) (n : Fin 32), exec (.ntlLaneRetrain n false) s = .next s ∧ Answers (.ntlLaneRetrain n true) s fun t =>
    (t.portBlock (n.val / 4)).lost.getLsbD (n.val % 4) = false ∧ t.ctrl = s.ctrl) ∧
  (∀ (s : State) (i : Fin 2) v, exec (.rclkSquelchChange i v) s = .next (s.setBit (F.NTL_RCLK_squelched i.val) v)) ∧
  (∀ (s : State) (b : Fin 8) (p : Fin 4) f d o t, s.portUp b.val p.val = true → s.ntlFrozen = false →
    t = s.rxStamp b.val (BitVec.toNat d) o → exec (.rxFrameComplete b p f true true d o) s =
      .next (s.deliverFrame b.val p.val f true t.1 t.2)) ∧
  (∀ (s : State) (b : Fin 8) (p : Fin 4) f d o, s.portUp b.val p.val = false →
    exec (.rxFrameComplete b p f true true d o) s = .next s) ∧
  (∀ (s : State) b p (f : List Byte) t dom h x, x = s.portBlock b → 64 ≤ f.length → f.length ≤ s.fld (F.NTL_PB_CTRL_max_len b) →
    s.rxHeld b + f.length ≤ 262144 → ptpOf f = none → vlanTag f = none →
    h = QHead.mk (Unit.ntl b) x.nextTag (BitVec.ofNat 20 (s.fld (F.NTL_PB_RXQ_base b p) + s.fld (F.NTL_PB_RXQ_def_pcp b p)))
      false 0 →
    s.deliverFrame b p f true t dom = (s.setPortBlock b { x with rx := x.rx ++ [(x.nextTag, p, f.length)],
                                                                 nextTag := x.nextTag + 1 }).enqueueEntry h s.now32 0 0
      (rxPrefix t dom false false p ++ f.take (f.length - 4))) ∧
  (∀ (s : State) b p f g t dom, List.length f < 64 ∨ s.fld (F.NTL_PB_CTRL_max_len b) < f.length ∨ g = false →
    s.bit (F.NTL_PB_CTRL_keep_bad b) = false → s.deliverFrame b p f g t dom = s.rxDrop b p) ∧
  (∀ (s : State) (b : Fin 8) tag r a, (s.portBlock b.val).rx.find? (fun y => y.1 == tag) = some r →
    s.qe.answers.find? (fun y => y.1 == (Unit.ntl b.val).key && y.2.1 == tag) = some a → ofBytes (a.2.2.take 2) = 0 →
    Answers (.rxEnqueueResponse b tag) s fun t => (t.portBlock b.val).rx = (s.portBlock b.val).rx.filter (fun y => y.1 != tag) ∧
      t.ctrl = s.ctrl) ∧
  (∀ (s : State) (b : Fin 8) (p : Fin 4) f d o, s.ringPeer b.val p.val = none →
    exec (.ringFrameReceive b p f true true d o) s = exec (.rxFrameComplete b p f true true d o) s) ∧
  (∀ (s : State) (b : Fin 8) (p : Fin 4) f d o q, s.ringPeer b.val p.val = some q → s.portUp b.val p.val = true →
    be16 f 12 = s.fld F.NTL_RING_tpid → byteAt f 15 = s.fld F.NTL_RING_ring_id ∨ byteAt f 14 ≤ 1 →
    exec (.ringFrameReceive b p f true true d o) s =
      .next (s.satFld (F.NTL_PB_COUNT1_ring_drop b.val p.val) (F.NTL_PB_COUNT0_overflow b.val p.val))) ∧
  (∀ (s : State) (b : Fin 8) src p, s.ntlFrozen = false → (s.portBlock b.val).waiting = [] → s.txFrame b.val src = none →
    (s.portBlock b.val).asm.length < 16 → List.length p ≠ 16 → Answers (.txFrameMessage b src p false true) s fun t =>
      (t.portBlock b.val).asm = (s.portBlock b.val).asm ∧ (t.portBlock b.val).waiting = []) ∧
  (∀ (s : State) (b : Fin 8) src (p : List Byte) fl len, s.ntlFrozen = false → (s.portBlock b.val).waiting = [] →
    s.txFrame b.val src = none → (s.portBlock b.val).asm.length < 16 → p.length = 16 → fl = ofBytes ((p.drop 8).take 4) →
    len = ofBytes ((p.drop 12).take 2) + 1 → fl / 2 ^ 10 % 64 = 0 → fl / 4 % 64 = 0 → fl % 4 ≠ 3 →
    s.portUp b.val (fl / 256 % 4) = true → 60 ≤ len → len + 4 ≤ s.fld (F.NTL_PB_CTRL_max_len b.val) →
    Answers (.txFrameMessage b src p false true) s fun t => t.txFrame b.val src = some (TxFrame.mk src (fl / 256 % 4) (fl % 4)
      (BitVec.ofNat 16 (fl / 65536)) len [] none false s.now) ∧ t.ctrl = s.ctrl ∧ t.faults = s.faults) ∧
  (∀ (s : State) b (a : TxFrame) p, p.length = packetBytes a.length a.bytes.length → a.discard = false → a.abort = none →
    a.length ≤ a.bytes.length + p.length → s.txData b a p none = (s.dropTx b a.src).setNetPort b a.port
      { s.netPort b a.port with fifo := (s.netPort b a.port).fifo ++ [{ a with bytes := a.bytes ++ p, last := s.now }] }) ∧
  (∀ (s : State) (b : Fin 8) src a, s.txFrame b.val src = some a → a.last + 64000 ≤ s.now → s.ntlFrozen = false →
    a.discard = false → exec (.txFrameAssemblyTimeout b src) s =
      .next (((s.txDecode b.val src).dropTx b.val src).txAdmit b.val)) ∧
  (∀ (s : State) (b : Fin 8) (p : Fin 4) f g l, s.portUp b.val p.val = true → (s.netPort b.val p.val).ring = (f, g) :: l →
    exec (.txFrameSend b p) s = .next ((s.setNetPort b.val p.val { s.netPort b.val p.val with ring := l }).sendFrame b.val p.val
      (f.take (f.length - 4)) g)) ∧
  (∀ (s : State) (b : Fin 8) (p : Fin 4) a l u, s.portUp b.val p.val = true → (s.netPort b.val p.val).ring = [] →
    (s.netPort b.val p.val).fifo = a :: l → a.abort = none →
    u = (s.setNetPort b.val p.val { s.netPort b.val p.val with fifo := l }).stampFrame b.val p.val a →
    exec (.txFrameSend b p) s = .next (u.2.sendFrame b.val p.val (u.2.ringTagged b.val p.val u.1) true)) ∧
  (∀ (s : State) b p f, ((s.sendFrame b p f true).netPort b p).sent = f ++ fcsOf f ∧
    ((s.sendFrame b p f false).netPort b p).sent = f ++ (fcsOf f).map fun x => ~~~x) ∧
  (∀ (s : State) m (b : Fin 8) r l, (s.portBlock b.val).stamps = r :: l → Answers (.ts2Pop m b) s fun t =>
    (t.portBlock b.val).stamps = (if m.same .monitor then r :: l else l) ∧ t.response = .data (toBytes 4 r.ns.toNat) false) ∧
  (∀ (s : State) b p r, (s.portBlock b).stamps.length < 64 → s.bit (F.NTL_PB_TS_ts_mbx_en b) = false →
    ((s.stampRecord b p r).portBlock b).stamps = (s.portBlock b).stamps ++ [r])

/-- R362, R368 to R371, R373, R375, R377, R379 to R382, R385, R390, R393 to R396, R400. -/
def Obligations.DramPiecesRangesAndSweeps : Prop :=
  (∀ (s : State) m (a : BitVec 48) (n : Fin 65) l, s.pieceOk a.toNat n.val = true → l = (s.linePlace a.toNat).1 →
    s.serves l = true → s.lineMark (a.toNat / 64) = false → s.lineTagged a.toNat = false → s.tagRegionOf a.toNat = none →
    s.keyGone a.toNat = false → exec (.dramReadPiece m a n {}) s =
      .next ((s.wakeMc l.mc).reply (s.dramLoad a.toNat n.val))) ∧
  (∀ (s : State) m (a : BitVec 48) (n : Fin 65) l, s.pieceOk a.toNat n.val = true → l = (s.linePlace a.toNat).1 →
    s.serves l = true → s.lineMark (a.toNat / 64) = true → exec (.dramReadPiece m a n {}) s =
      .next ((s.wakeMc l.mc).reply (s.dramLoad a.toNat n.val) true)) ∧
  (∀ (s : State) m (a : BitVec 48) v p l, List.length v = 64 → s.pieceOk a.toNat 64 = true → s.inHuskRange a.toNat = false →
    l = s.linePlace a.toNat → l.2 = none → s.serves l.1 = true → exec (.dramWritePiece m a v p true {}) s =
      .next ((s.wakeMc l.1.mc).storeLine a.toNat v p).ack) ∧
  (∀ (s : State) m (a : BitVec 48) v p c x, s.pieceOk a.toNat (List.length v) = true → s.inHuskRange a.toNat = true →
    m.same .husk = false → exec (.dramWritePiece m a v p c x) s =
      .next ((s.fault Unit.mp .mpBlocked (.unit m) 0xFF02 a.toNat).error 0xFF02)) ∧
  (∀ (s : State) a v b, (s.storeLine a v b).dramLoad a v.length = v ∧
    (∀ k, k < a ∨ a + v.length ≤ k → (s.storeLine a v b).dramByte k = s.dramByte k) ∧
    (s.storeLine a v b).lineMark (a / 64) = b ∧
    (Table.wf zeroByte s.dram.mem = true → Table.wf zeroByte (s.storeLine a v b).dram.mem = true)) ∧
  (∀ row l c, rowCount row l = some c → (activateCounters row l).2 = min 65535 (c + 1)) ∧
  (∀ row l, rowCount row l = none → List.length l < 16 → activateCounters row l = (l ++ [(row, 1)], 1)) ∧
  (∀ (s : State) b, exec (.sameBankRefresh b) s = .next s) ∧
  (∀ (s : State) b r l, s.bankQueue (BankRef.key b) = r :: l → Answers (.neighbourRefresh b) s fun t =>
    t.bankQueue b.key = l ∧ t.dram.counters = s.dram.counters) ∧
  (∀ (s : State) b, Answers (.refreshWindowEnd b) s fun t => t.bankCounters (BankRef.key b) = [] ∧ t.ctrl = s.ctrl) ∧
  (∀ (s : State) mc (c : BitVec 8), exec (.dramHot mc c) s = .next (if 95 < c.toNat
    then s.fault (Unit.mc mc.val 0) .dramHot (.unit (Unit.mc mc.val 0)) 0 c.toNat else s)) ∧
  (∀ (s : State) mc b f, (s.subch (2 * Fin.val mc + Fin.val b)).up = true → (s.subch (2 * mc.val + b.val)).down = false →
    exec (.trainCheck mc b f) s = .next (s.beginTraining mc.val b.val ((f.filter fun f =>
      decide (s.fld (F.MC_TRAIN_drift_ps mc.val) < f.drift.toNat) ||
        decide (s.fld (F.MC_TRAIN_temp_delta mc.val) < f.temp.toNat)).map (·.rank.val)))) ∧
  (∀ (s : State) m (mc : Fin 8), s.bit (F.MC_STATUS_trained mc.val) = true → exec (.mcRetrain m mc) s =
    .next ((s.beginTraining mc.val 0 (List.range (s.fld (F.MC_STATUS_ranks mc.val)))).beginTraining mc.val 1
      (List.range (s.fld (F.MC_STATUS_ranks mc.val)))).ack) ∧
  (∀ (s : State) mc b rank k i, i = 2 * Fin.val mc + Fin.val b →
    (s.subch i).training.find? (fun t => t.1 == Fin.val rank) = some k → k.2 + 1 < 40 → exec (.retrainStep mc b rank none) s =
      .next (s.setSubch i { s.subch i with
        training := (s.subch i).training.map fun u => if u.1 = rank.val then (rank.val, k.2 + 1) else u })) ∧
  (∀ (s : State) mc b rank k i r, i = 2 * Fin.val mc + Fin.val b →
    (s.subch i).training.find? (fun t => t.1 == Fin.val rank) = some k → r = some true ∨ (r = none ∧ 40 ≤ k.2 + 1) →
    Answers (.retrainStep mc b rank r) s fun t => (t.subch i).training = (s.subch i).training.filter (fun u => u.1 != rank.val) ∧
      Table.get zeroNat (t.subch i).failures rank.val = 0) ∧
  (∀ (s : State) mc b, exec (.caParityError mc b true) s =
    .next (s.satFld (F.MC_CAPAR_retried (Fin.val mc)) (F.MC_CAPAR_overflow mc.val))) ∧
  (∀ (s : State) mc b, Answers (.caParityError mc b false) s fun t => (t.subch (2 * Fin.val mc + Fin.val b)).caTraining = true ∧
    t.response = .error (BitVec.ofNat 16 Code.caFailed)) ∧
  (∀ (s : State) mc b i, i = 2 * Fin.val mc + Fin.val b → (s.subch i).caTraining = true → (s.subch i).caFails.length < 3 →
    exec (.caRetrainDone mc b) s = .next (s.setSubch i { s.subch i with caTraining := false })) ∧
  (∀ (s : State) mc b i, i = 2 * Fin.val mc + Fin.val b → (s.subch i).caTraining = true → 3 ≤ (s.subch i).caFails.length →
    exec (.caRetrainDone mc b) s = .next ((s.setSubch i { s.subch i with caFails := [] }).markSub mc.val b.val true)) ∧
  (∀ (s : State) m (mc : Fin 8) (w : Word), w.getLsbD 31 = true → m.same .husk = false → exec (.mcSpareGo m mc w) s =
    .next ((s.spareFields m mc.val w).setFld (F.MC_STATUS_last_status mc.val) 0xFF02).ack) ∧
  (∀ (s : State) m (mc : Fin 8) (w : Word) u, u = s.spareFields m mc.val w → w.getLsbD 31 = true → m.same .husk = true →
    u.bit (F.MC_SPARE_used mc.val) = false → u.bit F.MCG_MAP_spare_en = true → u.bit (F.MC_SPARE_busy mc.val) = false →
    exec (.mcSpareGo m mc w) s =
      .next ((u.setBit (F.MC_SPARE_busy mc.val) true).setFld (F.MC_SPARE_progress mc.val) 0).openSub.ack) ∧
  (∀ (s : State) (mc : Fin 8) l, s.bit (F.MC_SPARE_busy mc.val) = true → s.fld (F.MC_SPARE_progress mc.val) ≠ 100 →
    exec (.spareCopyDone mc l) s = .next (((s.markLines (l.map fun a => BitVec.toNat a / 64)).setFld
      (F.MC_SPARE_progress mc.val) 100).huskStage [(Unit.mc mc.val 0, .remap true (BitVec.ofNat 32 mc.val))]).2) ∧
  (∀ (s : State) (mc : Fin 8) (b : Fin 2), (s.subch (2 * mc.val + b.val)).resync = true →
    Answers (.mirrorResyncDone mc b) s fun t => (t.subch (2 * mc.val + b.val)).resync = false ∧
      (t.subch (2 * mc.val + b.val)).down = false) ∧
  (∀ (s : State) (mc : Fin 8), s.mode = Mode.dormant → exec (.selfRefreshEnter mc) s =
    .next { s with dram := { s.dram with asleep := Table.set notMarked s.dram.asleep mc.val true } }) ∧
  (∀ (s : State) m (r : Fin 32) (w : Word), bitsOf w 26 2 ≠ 2 → bitsOf w 24 2 ≠ 2 → m.same .husk = true → bitsOf w 28 2 ≠ 3 →
    w.getLsbD 31 = true → s.rangeOn r.val = false → s.rangeValid r.val = false →
    exec (.mpRangeEnable m r w) s = .next ((s.setFld (F.MP_RANGE_STATE_last_status r.val) 0xFF01).ack)) ∧
  (∀ (s : State) m (r : Fin 32) (w : Word), bitsOf w 26 2 ≠ 2 → bitsOf w 24 2 ≠ 2 → m.same .husk = true → bitsOf w 28 2 ≠ 3 →
    w.getLsbD 31 = true → s.rangeOn r.val = false → s.rangeValid r.val = true → Answers (.mpRangeEnable m r w) s fun t =>
      t.rangeOn r.val = true ∧ t.reg (R.MP_RANGE_CFG r.val) = w &&& 0xFF000000#32 ∧
      t.fld (F.MP_RANGE_STATE_live_mode r.val) = 0 ∧ t.dram = s.dram) ∧
  (∀ (s : State) r (q : Nat), s.rangeValid r = true → q < 32 → q ≠ r → s.rangeOn q = true →
    s.rangeLimit r ≤ s.rangeBase q ∨ s.rangeLimit q ≤ s.rangeBase r) ∧
  (∀ (s : State) m (r : Fin 32) (h k : BitVec 2), h ≠ 2 → k ≠ 2 →
    exec (.mpPolicyWrite m (some r) h k) s = .next (s.setExt r.val h.toNat k.toNat).ack ∧
    exec (.mpPolicyWrite m none h k) s =
      .next ((s.setFld F.MP_DEFAULT_ext_host h.toNat).setFld F.MP_DEFAULT_ext_mon k.toNat).ack) ∧
  (∀ (s : State) m (w : Word) u, u = s.setFld F.MP_SWEEP_rate_mbs (max 500 (min 20000 (bitsOf w 0 16))) → m.same .husk = false →
    w.getLsbD 31 = true → exec (.mpSweepGo m w) s = .next (u.setFld F.MP_STATUS_last_status 0xFF02).ack) ∧
  (∀ (s : State) m (w : Word) u r, r = bitsOf w 24 5 → m.same .husk = true → w.getLsbD 31 = true →
    s.bit F.MP_SWEEP_busy = false → u = ((s.setFld F.MP_SWEEP_rate_mbs (max 500 (min 20000 (bitsOf w 0 16)))).setFld
      F.MP_SWEEP_range r).setFld F.MP_SWEEP_init (bitsOf w 30 1) → u.rangeOn r = true → u.targetTagged r = false →
    exec (.mpSweepGo m w) s = .next (u.sweepTarget r (w.getLsbD 30)).ack) ∧
  (∀ (s : State) r i k b, (s.sweepBegin r i k b).bit F.MP_SWEEP_busy = true ∧ (r < 32 →
    (s.sweepBegin r i k b).bit (F.MP_RANGE_STATE_sweeping r) = true)) ∧
  (∀ (s : State) x a r u, s.bit F.MP_SWEEP_busy = true → s.mode ≠ Mode.dormant → a = s.sweepPtr → r = s.fld F.MP_SWEEP_range →
    u = (s.convertLine a x).setPair R.MP_SWEEP_PTR_LO R.MP_SWEEP_PTR_HI (a + 64) → u.rangeLimit r > a + 64 →
    exec (.mpSweepLine x) s = .next (u.setFld F.MP_SWEEP_progress
      ((a + 64 - u.rangeBase r) * 100 / (u.rangeLimit r - u.rangeBase r)))) ∧
  (∀ (s : State) a x, s.bit F.MP_SWEEP_init = true → (s.convertLine a x).dramLoad a 64 = List.replicate 64 0 ∧
    (s.convertLine a x).lineMark (a / 64) = false) ∧
  (∀ (s : State) (r : Fin 32), s.rangeOn r.val = true → s.bit F.MP_SWEEP_busy = false →
    exec (.rekeyDue r) s = .next (s.rekey r.val)) ∧
  (∀ (s : State) (r : Fin 32), s.rangeOn r.val = true → s.bit F.MP_SWEEP_busy = true →
    exec (.rekeyDue r) s = .next { s with dram := { s.dram with rekeys := s.dram.rekeys ++ [r.val] } }) ∧
  (∀ (s : State) mc b (a : BitVec 48) d, (s.subch (2 * Fin.val mc + Fin.val b)).up = true →
    (s.subch (2 * mc.val + b.val)).down = false →
    exec (.patrolScrubRead mc b a .clean d) s = .next (s.patrolLap (2 * mc.val + b.val) a.toNat))

/-- R19, R390, R391, R423 to R425, R427, R428, R430 to R435, R437, R439, R442, R443. -/
def Obligations.LoaderTakesImages : Prop :=
  (∀ (s : State) (o : BitVec 26) v, s.mode = Mode.off ∨ s.mode = Mode.held ∨ s.mode = Mode.zeroised →
    exec (.hostWindowWrite o v) s = .next s) ∧
  (∀ (s : State) v, s.mode ≠ Mode.off → s.mode ≠ Mode.held → s.mode ≠ Mode.zeroised → s.ldrState = 0 →
    exec (.hostWindowWrite 0 v) s = .next (windowMore 0 v (s.ldrBegin 0 { toAcorn := s.bit F.PCI_LDR_CTRL_to_acorn }))) ∧
  (∀ (s : State) (o : BitVec 26) v, s.mode ≠ Mode.off → s.mode ≠ Mode.held → s.mode ≠ Mode.zeroised → s.ldrState = 1 →
    s.ldrSource = 0 → exec (.hostWindowWrite o v) s = .next (windowMore o.toNat v s)) ∧
  (∀ (s : State) o (v : List Byte), s.loader.checked = false → o < 0x4000000 → s.loader.bytes.length = o → v.length ≤ 0x400000 →
    windowMore o v s = ((s.setLoader (({ s.loader with writeAt := s.tim.uptime }.hold o v).gather (s.loader.hold o v).ahead.length)).ldrAdvance rejectWith)) ∧
  (∀ (l : Loader) v, l.ahead = [] → ((l.hold l.bytes.length v).gather (l.hold l.bytes.length v).ahead.length).bytes =
    l.bytes ++ v) ∧
  (∀ (s : State) m (w : Word) u, w.getLsbD 29 = false → w.getLsbD 30 = false → w.getLsbD 31 = false → m.external = false →
    u = (s.setBit F.PCI_LDR_CTRL_to_acorn (w.getLsbD 28)).setBit F.PCI_LDR_CTRL_bind (w.getLsbD 27) → u.ldrState = 0 →
    exec (.ldrSrcGo m w) s = .next ((((u.ldrBegin 1 { toAcorn := u.bit F.PCI_LDR_CTRL_to_acorn, address := u.ldrAddress }).ldrFill 1024).ldrAdvance
      rejectWith).ack)) ∧
  (∀ (s : State) m (w : Word) u, w.getLsbD 29 = false → w.getLsbD 30 = false → w.getLsbD 31 = false →
    u = (s.setBit F.PCI_LDR_CTRL_to_acorn (w.getLsbD 28)).setBit F.PCI_LDR_CTRL_bind (w.getLsbD 27) →
    exec (.ldrAbort m w) s = .next (ldrAbortGo u).ack ∧ exec (.ldrActivate m w) s = .next (ldrActivateGo u).ack ∧
    (m.external = true → exec (.ldrSrcGo m w) s = .next (u.setFld F.PCI_STATUS_last_status 0xFF02).ack)) ∧
  (∀ (s : State), s.ldrState = 1 → ldrAbortGo s = s.reject Code.truncated) ∧
  (∀ (s : State), s.ldrState = 0 → ldrAbortGo s = s ∧ ldrActivateGo s = s.setFld F.PCI_STATUS_last_status 0xFF02) ∧
  (∀ (s : State), s.ldrState = 3 → s.bit F.PCI_LDR_CTRL_bind = false → ldrActivateGo s = s.fullSwitch) ∧
  (∀ (s : State), s.loader.checked = false ∨ s.loader.bytes.length < s.loader.length →
    s.loader.writeAt + 100000000 ≤ s.tim.uptime →
    exec .streamIdleTimeout s = .next (if s.ldrState = 1 ∧ s.ldrSource = 0 then s.reject Code.truncated else s)) ∧
  (∀ (s : State) r, RecordWhole s r → (r.type = 1 → exec .framesRecord s =
      .next (s.recordDone r (framesAct r (s.recordBytes r) s.firstRecord))) ∧
    (r.type = 2 → exec .zerosRecord s = .next (s.recordDone r (framesAct r (s.recordBytes r) s.firstRecord))) ∧
    (r.type = 3 → exec .essentialRecord s = .next (s.recordDone r (essentialAct r (s.recordBytes r) s.firstRecord))) ∧
    (r.type = 4 → exec .bramRecord s = .next (s.recordDone r (bramAct r (s.recordBytes r) s.firstRecord))) ∧
    (r.type = 5 → exec .pllRecord s = .next (s.recordDone r (pllAct r (s.recordBytes r) s.firstRecord))) ∧
    (r.type = 6 → exec .pciePfRecord s = .next (s.recordDone r (pfAct r (s.recordBytes r) s.firstRecord))) ∧
    (r.type = 0x12 → exec .engStartRecord s = .next (s.recordDone r (startAct r (s.recordBytes r) s.firstRecord))) ∧
    (r.type = 0x20 → exec .blobRecord s = .next (s.recordDone r (blobAct r (s.recordBytes r) s.firstRecord))) ∧
    (s.engState (r.address % 1024) = EngState.stopped →
      (r.type = 0x10 → exec .engImemRecord s = .next (s.recordDone r (imemAct r (s.recordBytes r) s.firstRecord))) ∧
      (r.type = 0x11 → exec .engDmemRecord s = .next (s.recordDone r (dmemAct r (s.recordBytes r) s.firstRecord))))) ∧
  (∀ (s : State) r, RecordWhole s r → r.type ≠ 1 → exec .framesRecord s = .next s) ∧
  (∀ (s : State) r b, s.loader.toAcorn = false → s.loader.kind = 1 → r.count = 1 → ∀ k, k = frameRegion r.address * 5120 + frameIndex r.address →
    Table.get noFrame (framesAct r b s).cfg.staging k = BitVec.ofNat 3072 (ofBytes (b.take 384)) ∧
    (framesAct r b s).loader.written = s.loader.written ++ [(k, 1)] ∧
    (∀ j, j ≠ k → Table.get noFrame (framesAct r b s).cfg.staging j = Table.get noFrame s.cfg.staging j)) ∧
  (∀ (s : State) l, l = s.loader → s.ldrState = 1 → s.ldrSource = 0 → l.checked = true → l.ended = false →
    l.length ≤ l.bytes.length → l.recHead.type = 0xFF → l.next + 8 + 7224 = l.length → (l.kind ≤ 2 → s.covered = true) →
    (4 ≤ l.kind → l.blob ≠ []) →
    exec .endRecord s = .next ((s.setLoader { l with ended := true }).setFld F.PCI_LDR_STATUS_state 2)) ∧
  (∀ (s : State) l, l = s.loader → s.ldrState = 2 → l.ended = true → l.command = none → exec .imageVerifyDone s = .next
    (if (!l.signed || !s.keyAccepted l) = true then s.reject Code.badSignature
     else if l.kind = 1 then
       (if l.toAcorn then s.acceptAcorn else if s.mode = Mode.load then s.acceptFirst else s.acceptStaged)
     else if l.kind = 2 then s.acceptPartial else if l.kind = 3 then s.acceptBundle else if l.kind = 4 then s.acceptFirmware
     else if l.kind = 5 then s.acceptPolicy else s.acceptCommand)) ∧
  (∀ (s : State), s.ldrState ≠ 2 → exec .imageVerifyDone s = .next s) ∧
  (∀ (s : State) b, s.bit F.PCI_FLASH_WEAR_acorn_busy = true → Answers (.acornRewriteDone b) s fun t =>
    t.flash.acorn = s.loader.acorn ∧ t.loader.acorn = [] ∧ (b = true → t.flash.desc.acornValid = true)) ∧
  (∀ (s : State), s.dev.crs = true → s.dev.perst = false → s.dev.perstFrom + 1000000000 ≤ s.tim.uptime → Answers .pfRetryTimeout s fun t => t.dev.crs = false ∧ t.trust.pfs = [] ∧ t.trust.pfSeen = true) ∧
  (∀ (s : State) r, s.mode ≠ Mode.off → s.bit F.PCI_STATUS_link_up = true → HostReq.write r = none → r.bar = 1 ∨ r.bar = 3 ∨ r.bar = 5 →
    0 < r.size.toNat → r.size.toNat ≤ 4096 → Answers (.hostRequest r) s fun t => t = { s with response := .unsupportedRequest }) ∧
  (∀ (s : State) r v, s.mode ≠ Mode.off → s.bit F.PCI_STATUS_link_up = true → HostReq.write r = some v → r.bar = 2 → v ≠ [] →
    v.length ≤ 4096 → r.offset.toNat + v.length ≤ 0x4000000 → exec (.hostRequest r) s =
      .next { windowWrite r.offset.toNat v { s with response := .none } with response := .none }) ∧
  (∀ (s : State) r o, o = r.offset.toNat → s.mode ≠ Mode.off → s.bit F.PCI_STATUS_link_up = true → HostReq.write r = none → r.bar = 0 →
    r.size = 4 → o + 4 ≤ 0x1400000 → isDbg o = false → rowAt o ≠ none → claimDefined o = true → exec (.hostRequest r) s =
      .next ((busRead .host o { s with response := .none }).hostDone false r.crcOk)) ∧
  (∀ (s : State), s.tim.uptime < s.loader.writeAt + 100000000 → exec .streamIdleTimeout s = .next s)

/-- R455 to R460, R463 to R467, R510. -/
def Obligations.FaultsAreCollectedAndCoresHandOver : Prop :=
  (∀ (s : State) u r l n, Table.get noFaults s.faults (Master.key u) = r :: l → (s.route u.ni Unit.err.ni).usable Unit.err.ni = true →
    n = Table.get zeroNat s.faultLost u.key → Answers (.faultRecordSend u) s fun t => Table.get noFaults t.faults u.key = l ∧
      t.err.arriving = s.err.arriving ++ r :: (if n = 0 then [] else [FaultRec.mk u (.unit u) .reportLost
        FaultClass.reportLost.severity 1 0 (BitVec.ofNat 48 (n % 2 ^ 32)) s.now32]) ∧
      Table.get zeroNat t.faultLost u.key = 0 ∧ t.ctrl = s.ctrl) ∧
  (∀ (s : State) u r l, Table.get noFaults s.faults (Master.key u) = r :: l → (s.route u.ni Unit.err.ni).usable Unit.err.ni = false →
    Answers (.faultRecordSend u) s fun t => Table.get noFaults t.faults u.key = l ∧ t.err = s.err ∧
      Table.get zeroNat t.faultLost u.key = Table.get zeroNat s.faultLost u.key + 1) ∧
  (∀ (s : State) r l, s.err.arriving = r :: l → exec .collectorRecord s =
    .next (({ s with err := { s.err with arriving := l } }.takeRecord r).faultConfirm r)) ∧
  (∀ (s : State) r i, findKey (faultKey r.subject r.cls) s.err.entries = none → s.errPlace = some i →
    (s.takeRecord r).errEntry i = some { subject := r.subject, cls := r.cls, reporter := r.reporter, status := r.status,
                                         detail := r.detail, first := s.recordTime r.time, last := s.recordTime r.time,
                                         count := r.count, severity := r.severity, notify := true }) ∧
  (∀ (s : State) r i e, findKey (faultKey r.subject r.cls) s.err.entries = some i → s.errEntry i = some e →
    ∃ f, (s.takeRecord r).errEntry i = some f ∧ f.last = s.recordTime r.time ∧ f.severity = max e.severity r.severity ∧
      f.resolved = false ∧ f.notify = true ∧ f.first = e.first ∧
      f.count = (if e.count + r.count < 2 ^ 31 then e.count + r.count else 2 ^ 31 - 1)) ∧
  (∀ (s : State) i e, dueEntry (millis s.now) s.err.entries = some (i, e) → s.fld F.ERR_CFG_notify_min ≤ e.severity →
    exec .notification s = .next ((s.setEntry i (some { e with notify := false, notifiedMs := some (millis s.now) })).sendNotice e)) ∧
  (∀ (s : State) e, s.bit F.ERR_NOTIFY_mbx_en = false → s.fld F.ERR_CFG_log_min ≤ ErrEntry.severity e →
    (s.sendNotice e).err.notified = s.err.notified ++ [e] ∧ (s.sendNotice e).err.log = appendLog s.err.log e) ∧
  (∀ (s : State) m (w : Word), w.getLsbD 30 = false → w.getLsbD 31 = true → s.errEntry (bitsOf w 0 9) = none →
    exec (.errAck m w) s = .next (s.refuse F.ERR_STATUS_last_status 0xFF01)) ∧
  (∀ (s : State) m (w : Word) e, w.getLsbD 30 = false → w.getLsbD 31 = true → s.errEntry (bitsOf w 0 9) = some e →
    exec (.errAck m w) s = .next (s.resolveEntry (bitsOf w 0 9)).ack) ∧
  (∀ (s : State) (i : Fin 512) e, s.errEntry i.val = some e → s.fld F.ERR_CFG_quiet_s ≠ 0 → e.severity < 3 → e.resolved = false →
    e.last + s.fld F.ERR_CFG_quiet_s * 1000000000 ≤ s.now → exec (.quietResolve i) s = .next (s.resolveEntry i.val)) ∧
  (∀ (s : State) m (w : Word), w.getLsbD 30 = false → s.deferredAt (bitsOf w 16 4) = none →
    exec (.repairGo m w) s = .next (s.setFld F.ERR_REPAIR_CTRL_status 0xFF01).ack) ∧
  (∀ (s : State) m (w : Word) f r, w.getLsbD 30 = false → s.deferredAt (bitsOf w 16 4) = some f →
    r = openFix f (s.setDeferred (bitsOf w 16 4) none 0) →
    exec (.repairGo m w) s = .next (r.2.setFld F.ERR_REPAIR_CTRL_status r.1).ack) ∧
  (∀ (s : State) m (w : Word) f, w.getLsbD 31 = false → s.deferredAt (bitsOf w 16 4) = some f →
    exec (.repairDrop m w) s = .next ((s.setDeferred (bitsOf w 16 4) none 0).setFld F.ERR_REPAIR_CTRL_status 0).ack) ∧
  (∀ (s : State), s.standby = Standby.ready → s.husk.takeover = false → s.husk.restart = false →
    exec .heartbeatMissed s = exec .huskWatchdogExpiry s ∧ Answers .huskWatchdogExpiry s fun t => t.husk.takeover = true ∧
      t.standby = Standby.absent ∧ t.err = s.err) ∧
  (∀ (s : State), s.standby ≠ Standby.ready → s.husk.takeover = false → s.husk.restart = false →
    exec .huskWatchdogExpiry s = exec .huskRestart s ∧ Answers .huskRestart s fun t => t.husk.restart = true ∧
      t.husk.takeover = false) ∧
  (∀ (s : State), s.husk.takeover = true → s.bit F.ERR_HUSK_confirming = false → Answers .takeoverDone s fun t =>
    t.husk.takeover = false ∧ t.standby = Standby.booting ∧ t.bit F.ERR_HUSK_active_core = !s.bit F.ERR_HUSK_active_core) ∧
  (∀ (s : State), s.standby = Standby.booting ∨ s.standby = Standby.syncing → s.husk.handover = none →
    exec .standbyReady s = .next (s.setStandby Standby.ready)) ∧
  (∀ (s : State), s.husk.restart = true → Answers .huskRestartDone s fun t => t.husk.restart = false ∧
    t.standby = Standby.booting ∧ t.bit F.ERR_HUSK_confirming = false ∧ t.trust.slot = s.flash.desc.slot) ∧
  (∀ (s : State) m (w : Word), inService s.mode = true → s.standby = Standby.ready → s.lifeCycleRuns = false →
    s.husk.takeover = false → s.husk.handover = none → w.getLsbD 30 = false → Answers (.handover m w) s fun t =>
      t.husk.handover = some false ∧ t.fld F.ERR_HUSK_last_status = 0 ∧ t.standby = Standby.ready ∧ t.response = .ack 0#16) ∧
  (∀ (s : State) m (w : Word), inService s.mode = true → s.standby ≠ Standby.ready → exec (.handover m w) s =
    .next ((s.setBit F.ERR_HUSK_CTRL_to_new (w.getLsbD 30)).refuse F.ERR_HUSK_last_status Code.handoverRefused)) ∧
  (∀ (s : State) b, s.husk.handover = some false → Answers (.handoverSwap b) s fun t => t.husk.handover = none ∧
    t.standby = Standby.ready ∧ t.bit F.ERR_HUSK_active_core = (!s.bit F.ERR_HUSK_active_core) ∧ t.trust = s.trust) ∧
  (∀ (s : State), s.bit F.ERR_HUSK_confirming = true → s.husk.takeover = false → s.husk.restart = false →
    s.husk.servedFrom + s.flash.policy.fwConfirm * 1000000000 ≤ s.now → Answers .firmwareConfirm s fun t =>
      t.flash.desc.slot = s.trust.slot ∧ t.bit F.ERR_HUSK_confirming = false ∧ t.standby = Standby.booting)

/-- R468 to R472. -/
def Obligations.SurgeRunsOnItsLedger : Prop :=
  (∀ (s : State) m (w : Word) u, w.getLsbD 30 = false → u = s.setFld F.ERR_GOV_CTRL_duration_s (bitsOf w 0 16) →
    exec (.surge m w) s = .next u.surgeAsk.ack) ∧
  (∀ (s : State), s.surgeCause ≠ 0 → s.surgeAsk.fld F.ERR_GOV_STATUS_refuse_cause = s.surgeCause ∧
    s.surgeAsk.fld F.ERR_GOV_STATUS_last_status = 0xFF02 ∧ s.surgeAsk.husk = s.husk ∧ s.surgeAsk.govState = s.govState) ∧
  (∀ (s : State), s.surgeCause = 0 → s.surgeAsk.govState = Gov.entering ∧ s.surgeAsk.husk.writing = true ∧
    s.surgeAsk.husk.ledger = s.husk.ledger ∧ s.surgeAsk.fld F.ERR_GOV_STATUS_end_cause = 0 ∧
    s.surgeAsk.fld F.ERR_GOV_STATUS_last_status = 0) ∧
  (∀ (s : State), s.surgeCause = (if s.knob 11 = 0 then 1 else if s.husk.ledger = 0 then 2
    else if (s.anyDie fun t => decide (12800 < t)) = true then 3 else if inService s.mode = false then 4
    else if s.govState ≠ Gov.nominal then 5 else 0)) ∧
  (∀ (s : State) m (w : Word) u, w.getLsbD 31 = false → u = s.setFld F.ERR_GOV_CTRL_duration_s (bitsOf w 0 16) →
    exec (.surgeCancel m w) s = .next (u.leave Gov.endCancel).ack) ∧
  (∀ (s : State) c, s.govState = Gov.entering ∨ s.govState = Gov.surge → s.husk.veng ≠ 750 ∨ s.engMhz ≠ 1600 →
    (s.leave c).govState = Gov.leaving ∧ (s.leave c).fld F.ERR_GOV_STATUS_end_cause = c % 16 ∧
    (s.leave c).husk.veng = s.husk.veng) ∧
  (∀ (s : State) c, s.govState ≠ Gov.entering → s.govState ≠ Gov.surge → s.leave c = s) ∧
  (∀ (s : State), s.govState = Gov.entering → s.husk.writing = true → Answers .ledgerFlashWriteDone s fun t =>
    t.flash.ledger = s.husk.ledger - 6000 ∧ t.husk.writing = false ∧ t.husk.surgeAt = s.now ∧ t.ctrl = s.ctrl) ∧
  (∀ (s : State), s.govState = Gov.entering → s.husk.writing = false → s.husk.veng < 820 →
    exec (.vengStep true) s = .next (s.setHusk { s.husk with veng := s.husk.veng + 10 }) ∧
    exec (.vengStep false) s = .next (s.leave Gov.endVeng)) ∧
  (∀ (s : State) b, s.govState = Gov.leaving → s.engMhz = 1600 → 760 < s.husk.veng →
    exec (.vengStep b) s = .next (s.setHusk { s.husk with veng := s.husk.veng - 10 })) ∧
  (∀ (s : State) b, s.govState = Gov.leaving → s.engMhz = 1600 → s.husk.veng = 760 → Answers (.vengStep b) s fun t =>
    t.govState = Gov.nominal ∧ t.husk.veng = 750 ∧ t.flash.ledger = s.husk.ledger) ∧
  (∀ (s : State), s.govState = Gov.entering → s.husk.veng = 820 → s.engMhz = 1700 → Answers .engineClockStep s fun t =>
    t.engMhz = 1800 ∧ t.govState = Gov.surge ∧ t.husk = s.husk) ∧
  (∀ (s : State), s.govState = Gov.leaving → 1700 < s.engMhz → exec .engineClockStep s =
    .next (s.setFld F.CLK_ENG_eng_mhz (s.engMhz - 100))) ∧
  (∀ (s : State) t, s.husk.surgeEnd = some t → t ≤ s.now → exec .surgeEnd s = .next (s.leave Gov.endDuration)) ∧
  (∀ (s : State), s.husk.surgeEnd = none → s.husk.ledger ≤ 1 → exec .surgeEnd s = .next (s.leave Gov.endLedger)) ∧
  (∀ (s : State), s.govState ≠ Gov.nominal → s.husk.writing = false → 2 < s.husk.ledger →
    s.husk.charged ≤ (s.now - s.husk.surgeAt) / 10000000 → Answers .ledgerCharge s fun t =>
      t.husk.ledger = s.husk.ledger - 1 ∧ t.husk.charged = s.husk.charged + 1 ∧ t.ctrl = s.ctrl) ∧
  (∀ (s : State) g, s.govState = Gov.nominal → Answers (.governorSample g) s fun t => t.fld (F.ERR_GOV_TEMP_now 0) = g.west.toNat ∧
    t.fld (F.ERR_GOV_TEMP_now 1) = g.hub.toNat ∧ t.fld (F.ERR_GOV_TEMP_now 2) = g.east.toNat ∧
    t.fld F.ERR_GOV_POWER_pkg_w = g.watts.toNat ∧ t.govState = Gov.nominal) ∧
  (∀ (s : State) g, s.govState = Gov.surge → (13440 : Int) - 16 * s.knob 13 ≤ BitVec.toInt g.hub → s.husk.veng = 820 →
    Answers (.governorSample g) s fun t => t.govState = Gov.leaving ∧ t.fld F.ERR_GOV_STATUS_end_cause = Gov.endThermal)

/-- R444 to R451. What the TRNG, the signature and the hash return are open values of Config. -/
def Obligations.TrustCommandsRun : Prop :=
  (∀ (s : State) b c u d, CommandWaits s c 1 [0] u → c.slot = 0xFE → c.args.length = 64 →
    d = BitVec.ofNat 512 (ofBytes c.args) → d = c.key → Burn.ok b = true →
    exec (.provision b) s = .next (({ u.wipeBegin.eraseKeys.setFuses { setDigest s.fuses 0 d with lifeCycle := 1 } with
      trust := { u.trust with resetDue := true } }).commandEnd c 0)) ∧
  (∀ (s : State) b c u, CommandWaits s c 1 [0] u → c.slot = 0xFE → c.args.length = 64 →
    BitVec.ofNat 512 (ofBytes c.args) = c.key → Burn.ok b = false →
    exec (.provision b) s = .next (u.wipeBegin.eraseKeys.commandEnd c Code.fuseFail)) ∧
  (∀ (s : State) b c u k, CommandWaits s c 2 [1, 2] u → s.ownerSigned c = true → c.args.length = 64 →
    k < 4 → s.slotBurned k = false → (∀ j < k, s.slotBurned j = true) → Burn.ok b = true →
    exec (.addKey b) s = .next ((u.setFuses (setDigest s.fuses k (BitVec.ofNat 512 (ofBytes c.args)))).commandEnd c 0)) ∧
  (∀ (s : State) b c u k, CommandWaits s c 3 [1, 2] u → s.ownerSigned c = true → c.args = [k] →
    s.slotBurned k.toNat = true → k.toNat ≠ c.slot → (s.usableSlots.filter (· != k.toNat)) ≠ [] → Burn.ok b = true →
    exec (.revokeKey b) s = .next ((u.setFuses { s.fuses with
      revoked := s.fuses.revoked ||| BitVec.ofNat 4 (2 ^ k.toNat) }).commandEnd c 0)) ∧
  (∀ (s : State) b c u v, CommandWaits s c 5 [1, 2] u → s.ownerSigned c = true → c.args = toBytes 4 v ++ [1] → v < 2 ^ 32 →
    s.fuses.floor < 255 → Burn.ok b = true → exec (.raiseFloor b) s = .next (
      if v ≤ s.fuses.floor then u.commandEnd c 0xFF01
      else (u.setFuses { s.fuses with floor := min v 255 }).commandEnd c 0)) ∧
  (∀ (s : State) c u, CommandWaits s c 6 [1, 2] u → s.ownerSigned c = true → c.args.length = 64 →
    exec .setPassword s = .next (({ u with
      flash := { s.flash with password := BitVec.ofNat 512 (ofBytes c.args) } }).commandEnd c 0)) ∧
  (∀ (s : State) c u, CommandWaits s c 7 [0, 1, 2, 3] u → s.ownerSigned c = true → c.args.length = 2 → s.trust.hold = false →
    exec .tamperAck s = .next (({ u with
      flash := { s.flash with ack := ofBytes c.args, ackKey := c.slot } }).commandEnd c 0)) ∧
  (∀ (s : State) b c u, CommandWaits s c 8 [1, 2] u → s.ownerSigned c = true → Burn.ok b = true →
    exec (.tamperLock b) s = .next ((u.setFuses { s.fuses with tamperLock := true }).commandEnd c 0)) ∧
  (∀ (s : State) b c u, CommandWaits s c 8 [1, 2] u → s.ownerSigned c = false →
    exec (.tamperLock b) s = .next (u.commandEnd c Code.badSignature)) ∧
  (∀ (s : State) c u, s.loader.command = some c → c.code = 6 → s.fuses.lifeCycle ≠ 1 → s.fuses.lifeCycle ≠ 2 →
    u = s.setLoader { s.loader with command := none } → exec .setPassword s = .next (u.commandEnd c 0xFF02)) ∧
  (∀ (s : State) c n, n < 65536 → (s.commandEnd c n).fld F.PCI_LDR_STATUS_last_status = n ∧
    (s.commandEnd c n).flash.counter = (if n = 0 then c.counter else s.flash.counter) ∧
    (s.commandEnd c n).fuses = s.fuses) ∧
  (∀ (s : State) m (w : Word), s.bit F.PCI_CMD_busy = false → 1 ≤ bitsOf w 16 8 → bitsOf w 16 8 ≤ 6 →
    s.fld F.PCI_CMD_LEN_in_len ≤ 16384 →
    exec (.pciCmdGo m w) s = .next ((s.setFld F.PCI_CMD_code (bitsOf w 16 8)).setBit F.PCI_CMD_busy true).ack) ∧
  (∀ (s : State) m (w : Word), s.bit F.PCI_CMD_busy = true →
    exec (.pciCmdGo m w) s = .next (s.refuse F.PCI_STATUS_last_status 0xFF02)) ∧
  (∀ (s : State) r g, HuskWaits s 1 64 → r = s.report (s.bufferBytes 64) → r.length = 512 →
    g = Config.mlDsaSign 0 (toBytes 64 (sha3 r).toNat) →
    exec (.attest none) s = .next (s.huskDone 0 (r ++ (g ++ List.replicate 4627 0).take 4627))) ∧
  (∀ (s : State) n, n.length = 64 → (s.report n).length = 512 ∧ (s.report n).take 4 = toBytes 4 0x39545441 ∧
    ((s.report n).drop 64).take 64 = n) ∧
  (∀ (s : State) via b, s.husk.takeover = false → s.husk.restart = false → s.monOpen via = true → b.length ≠ 64 →
    exec (.attest (some (via, b))) s = .next (s.monReply via 1 0xFF01 [])) ∧
  (∀ (s : State) n, HuskWaits s 2 n → exec (.identityCert none) s = .next (s.huskDone 0 Config.certificate)) ∧
  (∀ (s : State) n r, HuskWaits s 3 n → s.fuses.lifeCycle ≠ 4 → r = s.freeBytes 64 → exec (.unlockChallenge none) s =
    .next (({ r.2 with trust := { s.trust with nonce := some (r.1, s.now) } }).huskDone 0 r.1)) ∧
  (∀ (s : State) b r, HuskWaits s 5 (List.length b) → b = s.bufferBytes b.length → 1 ≤ b.length → b.length ≤ 64 →
    s.fuses.lifeCycle = 2 → s.backingOff = false →
    r = (if s.flash.password ≠ 0 ∧ sha3 b = s.flash.password then s.unlockDone 0x3F s.flash.policy.password
      else s.unlockFail) → exec (.unlockPassword none) s = .next (r.2.2.huskDone r.1 [])) ∧
  (∀ (s : State) b i d k m h t g, HuskWaits s 4 7228 → b = s.bufferBytes 7228 → s.fuses.lifeCycle = 2 →
    s.backingOff = false → s.trust.nonce = some (k, t) → d = ofBytes ((b.drop 1).take 4) → 1 ≤ d → d ≤ 86400 →
    h = ofBytes ((b.drop 5).take 4) → h ≤ 0x3F → i = (b.drop 9).take 2592 →
    m = toBytes 64 (sha3 (k ++ toBytes 64 identityDigest.toNat ++ (b.drop 1).take 8)).toNat →
    g = (decide (s.now ≤ t + 60000000000) && s.unlockKey (ofBytes (b.take 1)) i &&
      Config.mlDsaVerify i m ((b.drop 2601).take 4627)) → exec (.unlockResponse none) s = .next (
      if g then ((({ s with trust := { s.trust with nonce := none } }).unlockDone h d).2.2).huskDone 0 []
      else ((({ s with trust := { s.trust with nonce := none } }).unlockFail).2.2).huskDone 0x0601 [])) ∧
  (∀ (s : State), (s.unlockFail.1 = 0x0601 ∧ s.unlockFail.2.2.flash.failures = min 127 (s.flash.failures + 1) ∧
    (s.unlockFail.2.2.trust.class2 = (s.trust.class2 || decide (min 127 (s.flash.failures + 1) = 64)))) ∧
    s.unlockFail.2.2.sessionOpen = s.sessionOpen) ∧
  (∀ (s : State) h d, h < 2 ^ 6 → (s.unlockDone h d).2.2.sessionOpen = true ∧ (s.unlockDone h d).2.2.flash.failures = 0 ∧
    (s.unlockDone h d).2.2.fld F.DBG_STATUS_scope = h ∧
    (s.unlockDone h d).2.2.trust.sessionEnd = some (s.now + d * 1000000000)) ∧
  (∀ (s : State) n, HuskWaits s 6 n → s.fuses.lifeCycle ≠ 4 → exec (.debugLock none) s =
    .next ((if s.sessionOpen then s.endSession else s).huskDone 0 [])) ∧
  (∀ (s : State) d, Answers (.tamperClass1 d) s fun t => t.trust.class1 = min 65535 (s.trust.class1 + 1) ∧
    t.trust.class2 = s.trust.class2 ∧ t.fuses = s.fuses ∧ t.flash = s.flash) ∧
  (∀ (s : State) l, s.mode ≠ Mode.off → l = s.trust.glitches.filter (fun t => decide (s.now < t + 1000000000)) →
    exec .glitchEvent s = .next { s with trust := { s.trust with
      glitches := l ++ [s.now], class2 := s.trust.class2 || decide (2 ≤ l.length) } })

/-- R474 to R477, R480 to R487. Widths that Table 17.2 does not give are the model's choice
(notes/assumptions/46). -/
def Obligations.MonitorServesItsSession : Prop :=
  (∀ (s : State) via, MonServes s via → exec (.monStatus via) s = .next (s.monReply via 0x10 0
    (toBytes 4 (shown .monitor R.DBG_STATUS s).toNat ++ toBytes 4 (shown .monitor R.DEV_MODE s).toNat ++
      toBytes 4 (shown .monitor R.PCI_UNLOCK s).toNat))) ∧
  (∀ (s : State) via, MonServes s via → s.mon.reply ≠ [] → exec (.monContinue via) s = .next (s.monNext via 0)) ∧
  (∀ (s : State) via a o b p t, MonScoped s via 0 → addrPlace (BitVec.toNat a) 4 = .control o → a.toNat % 4 = 0 →
    t = busReadWord .monitor true o { s with response := .none } → t.response = .data b p →
    exec (.monRead via a false 4) s = .next (t.monReply via 0x11 0 (b.take 4) p)) ∧
  (∀ (s : State) via a e, MonScoped s via 0 → exec (.monRead via a e 0) s = .next (s.monReply via 0x11 0xFF01)) ∧
  (∀ (s : State) via a o b p t, MonScoped s via 2 → addrPlace (BitVec.toNat a) 4 = .control o → o % 4 = 0 →
    t = busReadWord .monitor false o s → t.response = .data b p → exec (.monTake via a) s = .next (t.monReply via 0x12 0 b p)) ∧
  (∀ (s : State) via a o b t, MonScoped s via 1 → addrPlace (BitVec.toNat a) 4 = .control o → a.toNat % 4 = 0 →
    List.length b = 4 → t = busWrite .monitor o (BitVec.ofNat 32 (ofBytes b)) { s with response := .none } →
    t.response = .ack 0#16 → exec (.monWrite via a false b) s = .next (t.monReply via 0x13 0)) ∧
  (∀ (s : State) via (w : Word), MonScoped s via 3 → haltMode s.mode = true → w.toNat < 1024 →
    exec (.monHalt via w) s = .next ((s.haltEngine w.toNat).monReply via 0x14 0)) ∧
  (∀ (s : State) via, MonScoped s via 3 → haltMode s.mode = true →
    exec (.monHalt via 0xFFFFFFFF) s = .next (s.haltDevice.monReply via 0x14 0)) ∧
  (∀ (s : State) via w, MonScoped s via 3 → haltMode s.mode = false →
    exec (.monHalt via w) s = .next (s.monReply via 0x14 0xFF02)) ∧
  (∀ (s : State) (n : Fin 1024), s.isWide n.val = false → s.mon.stepping = none →
    s.engState n.val = EngState.stopped ∨ s.engState n.val = EngState.faulted →
    ((s.haltEngine n.val).engine n.val).under = s.engState n.val ∧
    (s.haltEngine n.val).engState n.val = EngState.halted) ∧
  (∀ (s : State) n, s.engState (s.gov n) = EngState.off → s.haltEngine n = s) ∧
  (∀ (s : State) via (w : Word) g, MonScoped s via 3 → w.toNat < 1024 → g = s.gov w.toNat → s.engState g = EngState.halted →
    exec (.monResume via w) s = .next ((({ s.setEngine g { s.engine g with resuming := true } with
      mon := { s.mon with resumeAt := (s.now / 1000 + 1) * 1000 } }).monReply via 0x15 0))) ∧
  (∀ (s : State) via (w : Word), MonScoped s via 3 → w.toNat < 1024 → s.engState (s.gov w.toNat) ≠ EngState.halted →
    exec (.monResume via w) s = .next (s.monReply via 0x15 0)) ∧
  (∀ (s : State), s.mon.resumeAt ≤ s.now → s.mon.thaw = false → s.mon.ending = false →
    exec .resumeTick s = .next ((s.restartAll 1024).refreshHalt.refreshHold)) ∧
  (∀ (s : State) g d, (s.engine g).startReq = none →
    d = (if (s.engine g).wdAt.isNone then max (s.engine g).wdLeft 10 else (s.engine g).wdLeft) →
    s.restart g = (s.setEngine g { s.engine g with resuming := false, wdLeft := d }).enter g (s.engine g).under) ∧
  (∀ (s : State) via w (n : BitVec 16) g, MonScoped s via 3 → BitVec.toNat w < 1024 → n ≠ 0 → g = s.gov w.toNat →
    s.engState g = EngState.halted → exec (.monStep via w n) s = .next (s.stepStart g n.toNat via)) ∧
  (∀ (s : State) via w (n : BitVec 16), MonScoped s via 3 → BitVec.toNat w < 1024 → n ≠ 0 →
    s.engState (s.gov w.toNat) ≠ EngState.halted → exec (.monStep via w n) s = .next (s.monReply via 0x16 0x0605)) ∧
  (∀ (s : State) via (w : Word) b x, MonScoped s via 3 → w.toNat < 1024 → BreakArgs.slot b < 4 → b.lo.toNat < 8192 →
    x = Break.mk b.enable (BitVec.ofNat 2 (b.kind.val + 1)) b.device (b.lo.setWidth 14) (b.hi.setWidth 14) →
    exec (.monBreak via w b) s = .next ((s.setEngine w.toNat { s.engine w.toNat with
      breaks := Table.set (fun _ => ({} : Break)) (s.engine w.toNat).breaks b.slot.val x }).monReply via 0x17 0)) ∧
  (∀ (s : State) via w lo hi, MonScoped s via 3 → s.bit F.DBG_STATUS_frozen = false → exec (.monFreeze via w lo hi) s =
    .next ((((s.setReg R.DBG_FREEZE (w &&& 0x1E)).setReg R.DBG_FREEZE_PODS_LO lo).setReg R.DBG_FREEZE_PODS_HI
      (hi &&& 0xFFFF)).monReply via 0x18 0)) ∧
  (∀ (s : State) via w lo hi, MonScoped s via 3 → s.bit F.DBG_STATUS_frozen = true →
    exec (.monFreeze via w lo hi) s = .next (s.monReply via 0x18 0xFF02)) ∧
  (∀ (s : State) via on, MonScoped s via 3 → exec (.monTxHold via on) s =
    .next (((s.setBit F.TXU_CFG_tx_hold on).refreshHold).monReply via 0x19 0)) ∧
  (∀ (s : State) via (r : Word), MonScoped s via 4 → r.toNat < 96 → s.podFrozen (s.podOf r.toNat) = false →
    exec (.monCapture via r) s = .next (s.monReply via 0x1A 0x0605)) ∧
  (∀ (s : State) via (r : Word) v n, MonScoped s via 4 → r.toNat < 96 → s.podFrozen (s.podOf r.toNat) = true →
    v = s.freeBytes 0x5400 → n = (s.mon.captures + 1) % 65536 → exec (.monCapture via r) s = .next (({ v.2 with
      mon := { s.mon with captures := n, capture := bytesAt 0 (v.1 ++ toBytes 4 (n * 65536 + r.toNat)) } }).monReply
        via 0x1A 0 (toBytes 4 0x1501))) ∧
  (∀ (s : State) via (l : Word) on, MonScoped s via 5 → l.toNat < 64 → exec (.monInject via l on) s =
    .next ((s.setBit (F.CVL_LANE_TEST_inj_live l.toNat) on).monReply via 0x1B 0)) ∧
  (∀ (s : State) via (r : Word) t, MonServes s via → 9600 ≤ r.toNat → r.toNat ≤ 3000000 → t = s.monReply via 0x1C 0 →
    exec (.monSetBaud via r) s = .next { t with mon := { t.mon with baud := r.toNat } }) ∧
  (∀ (s : State) via a, MonServes s via → bitAt (s.fld F.DBG_STATUS_scope) 2 = false →
    exec (.monTake via a) s = .next (s.monReply via 0x12 0x0604)) ∧
  (∀ (s : State) via (w : Word), s.monOpen via = true → s.mode ≠ Mode.off → s.mode ≠ Mode.held → s.sessionOpen = false →
    2 ≤ s.fuses.lifeCycle → s.mon.waiting = [] → s.mon.stepping = none → s.mon.away = none → s.mon.powered = false →
    exec (.monHalt via w) s = .next (if s.trust.expired then
      ({ s with trust := { s.trust with expired := false } }).monReply via 0x14 0x0602 else s.monReply via 0x14 0x0601)) ∧
  (∀ (s : State) o (g : BitVec 8) b d f, o < 256 → List.length b ≤ 4096 → s.monOpen { uart := true, tag := g } = true →
    d = toBytes 4 (o * 2 ^ 24 + g.toNat * 2 ^ 16) ++ b →
    f = 0x7E#8 :: (toBytes 2 d.length ++ d ++ toBytes 4 (crc32c d).toNat) →
    exec (.uartFrameReceive f) s = .next (frameRun { uart := true, tag := g } o b s)) ∧
  (∀ (s : State) o (g : BitVec 8) b d f k, o < 256 → List.length b ≤ 4096 → s.monOpen { uart := true, tag := g } = true →
    d = toBytes 4 (o * 2 ^ 24 + g.toNat * 2 ^ 16) ++ b → k < 2 ^ 32 → k ≠ (crc32c d).toNat →
    f = 0x7E#8 :: (toBytes 2 d.length ++ d ++ toBytes 4 k) →
    exec (.uartFrameReceive f) s = .next (s.monReply { uart := true, tag := g } o 0xFF01)) ∧
  (∀ (s : State), s.mon.powered = true → s.mon.ready = false →
    exec .debugDomainReady s = .next ({ s with mon := { s.mon with ready := true } }).monServeAll) ∧
  (∀ (s : State) t, s.trust.sessionEnd = some t → t ≤ s.now → s.sessionOpen = true → exec .sessionExpiry s =
    .next ({ s with trust := { s.trust with expired := true } }).endSession) ∧
  (∀ (s : State), s.anyHalted = false → s.bit F.DBG_STATUS_frozen = false → s.dev.halted = false →
    s.endSession.sessionOpen = false ∧ s.endSession.bit F.TXU_CFG_tx_hold = false ∧
    (∀ n, n < 1024 → (s.endSession.engine n).breaks = []) ∧ s.endSession.mon.powered = false ∧
    (∀ l, l < 64 → s.endSession.bit (F.CVL_LANE_TEST_inj_live l) = false))

/-- R27 and the reset values of the register headings; the rest is notes/assumptions/5. -/
def Obligations.ResetLeavesTheStatedValues : Prop :=
  State.reset.mode = Mode.held ∧ State.reset.fld F.DEV_MODE_CAUSE_trigger = 1 ∧
  State.reset.reg R.DEV_ID = 0x09960031 ∧ State.reset.reg R.DEV_MODE = 1 ∧ State.reset.reg R.DEV_RDV = 0x7D0 ∧
  State.reset.reg R.CFG_SCRUB_CTRL = 3 ∧ State.reset.reg R.NOC_REQ_TIMEOUT = 0x3E8 ∧
  State.reset.reg R.QE_LAUNCH_CFG = 0x14 ∧ State.reset.reg R.TIM_SVC_SLEW = 0xA ∧ State.reset.reg R.TIM_TEB_LIMIT = 0x44C ∧
  State.reset.reg R.TIM_PPS_CTRL = 0x20000064 ∧ State.reset.reg R.TXU_CFG = 0x14 ∧ State.reset.reg R.MP_SWEEP = 0x7D0 ∧
  State.reset.reg R.MP_RETIRE_POLICY = 0x80180004 ∧ State.reset.reg R.PCI_LDR_CFG = 0x3E8 ∧
  State.reset.reg R.PCI_HOST_WMASK = 0xA401 ∧ State.reset.reg R.ERR_CFG = 0x3C32 ∧ State.reset.reg R.DBG_FREEZE = 0x10 ∧
  State.reset.reg R.CLK_SYS = 4 ∧ State.reset.reg R.CLK_ENG = 0x640 ∧
  State.reset.pending = [] ∧ State.reset.faults = [] ∧ State.reset.cues = [] ∧ State.reset.claims = [] ∧
  State.reset.txu.txs = [] ∧ State.reset.qe.waiting = [] ∧ State.reset.mon.waiting = [] ∧
  State.reset.loader.command = none ∧ State.reset.sessionOpen = false ∧ State.reset.standby = Standby.absent
end

