-- ==== Sys2Proof/Tests/Samples.lean ====
section
/-! SUPPORT. States and small lemmas that the tests use. -/

open Sys2Proof Sys2Proof.Machine

/-- A state at a service time given in nanoseconds. -/
def Sys2Proof.Machine.State.atTime (s : State) (ns : Nat) : State := { s with tim := { s.tim with offset := (ns : Int) * 4294967296 } }
/-- A state in which `n` nanoseconds have passed. -/
def Sys2Proof.Machine.State.upFor (s : State) (n : Nat) : State := { s with tim := { s.tim with uptime := n } }
/-- A state in a mode. -/
def Sys2Proof.Machine.State.inMode (s : State) (m : Nat) : State := s.setFld F.DEV_MODE_mode m
/-- A state past its launch in which access point `p` has a design. -/
def Sys2Proof.Machine.State.withDesign (s : State) (p : Nat) : State :=
  { s with
    dev := { s.dev with launched := true }
    cfg := { s.cfg with frames := [(frameKey (p / 2) false (73 * 64 + 32 * (p % 2)), 1)] } }
/-- A read request of NI 0 to NI 0. -/
def pkt0 : Packet := { kind := 1, prio := 0, route := 0, src := 0, dst := 0, txid := 0, poison := false, integ := true, tag := 0
                       address := 0, dtag := 0, payload := [0], crc := 0, fpoison := false }
/-- It in flight at router 0, its next hop code `c`. -/
def flight0 (c : Nat) : Flight := { id := 0, pkt := pkt0, hops := BitVec.ofNat 72 c, router := 0 }
/-- The queue engine ready, and queue 0 enabled with descriptor words 2 and 3 and the entries given. -/
def withQueue (w2 w3 : Word) (l : List QEntry) : State :=
  { State.reset.setBit F.QE_CTRL_ready true with
    qe := { queues := [(0, { w2 := 0x80000000#32 ||| w2, w3 := w3, entries := l })], descs := [0, 1], fresh := 0 } }
/-- A state in which transaction 1 is as given. -/
def withTx (t : Tx) : State := State.reset.setTx 1 t
/-- Converter link `k` of group `g` enabled with the settings words given. -/
def Sys2Proof.Machine.State.withLink (s : State) (g k : Nat) (c0 c1 : Word) : State :=
  ((s.setReg (R.CVL_LK_CFG0 g k) c0).setReg (R.CVL_LK_CFG1 g k) c1).setBit (F.CVL_LK_CTRL_en g k) true
/-- Port block `b` enabled in mode 2 with every port up. -/
def Sys2Proof.Machine.State.withPorts (s : State) (b : Nat) : State :=
  (((s.inMode Mode.service).setBit (F.NTL_PB_CTRL_en b) true).setFld (F.NTL_PB_CTRL_mode b) 2).setFld (F.NTL_PB_STATUS_link_up b) 15
/-- A plain frame of 64 bytes. -/
def frame64 : List Byte := List.replicate 64 0x11#8
/-- 16 GiB of DRAM, one zone, whose first subchannel serves. -/
def Sys2Proof.Machine.State.withDram (s : State) : State :=
  ((s.setFld F.MCG_MAP_capacity_gib 16).setFld (F.MCG_ZONE_limit_gib 0) 16).setSubch 0 { s.subch 0 with up := true }
/-- Range `r` enabled over the first 2 MiB. -/
def Sys2Proof.Machine.State.withRange (s : State) (r : Nat) : State :=
  (s.setBit (F.MP_RANGE_CFG_en r) true).setFld (F.MP_RANGE_LIMIT_addr_2m r) 1
/-- A loader that has read a 24-byte header of kind `k` and has the bytes `l` of the first record. -/
def loaderAt (k : Byte) (length : List Byte) (l : List Byte) : Loader :=
  { checked := true, next := 24, bytes := List.replicate 6 0 ++ [k] ++ List.replicate 13 0 ++ length ++ l }
/-- The next state of an outcome. -/
def outcome (o : Out) : State :=
  match o with
  | .next t => t
  | _ => State.reset

theorem niOfKey_lt (k : Nat) : niOfKey k < 768 := by
  unfold niOfKey
  cases h : (List.range 768).find? (fun n => niKey n == k) with
  | none => simp
  | some n => have := List.mem_of_find?_eq_some h; simp; simpa using this
theorem usable_at : ∀ n : Nat, n < 768 → RouteEntry.usable { w0 := BitVec.ofNat 32 (0xC0000000 + n * 65536) } n = true := by
  decide +kernel
theorem route_set (s : State) (ni e : Nat) (r : RouteEntry) : (s.setRoute ni e r).route ni e = r := by
  simp [State.route, State.setRoute]
end

