-- ==== Sys2Proof/WellFormed.lean ====
section
/-! DEFINITION. Which commands are well formed: the limits the spec puts on operands whose types
allow more. `exec` is total on the others as well. -/

namespace Sys2Proof

open Machine

/-- A payload of a packet has 1 to 512 bytes (R203). -/
def payloadOk (b : List Byte) : Bool := decide (1 ≤ b.length) && decide (b.length ≤ 512)

/-- A packet's NIs are positions of the mesh (R199), and its payload fits. -/
def Machine.Packet.wf (p : Packet) : Bool :=
  decide (p.src.toNat < 768) && decide (p.dst.toNat < 768) && payloadOk p.payload

/-- A host request has 1 to 4,096 bytes on a BAR of Table 15.7, and a write's bytes are as many as
its size. -/
def Machine.HostReq.wf (r : HostReq) : Bool :=
  (r.bar == 0 || r.bar == 2 || r.bar == 4) && decide (1 ≤ r.size.toNat) && decide (r.size.toNat ≤ 4096) &&
    match r.write with
    | some b => b.length == r.size.toNat
    | none => true

/-- An access of `n` bytes carries as many. -/
def carries (n : Nat) (write : Option (List Byte)) : Bool :=
  match write with
  | some b => b.length == n
  | none => true

/-- The checks of a command's operands. -/
def Instr.wf : Instr → Bool
  | .packetInject p _ => p.wf
  | .hostRequest r => r.wf
  | .enqData _ b _ _ _ => decide (1 ≤ b.length) && decide (b.length ≤ 248)
  | .txBlockArrive _ b _ _ => payloadOk b
  | .txFrameMessage _ _ b _ _ => payloadOk b
  | .dramWritePiece _ a b _ _ _ => decide (1 ≤ b.length) && decide (a.toNat % 64 + b.length ≤ 64)
  | .spmAccess _ _ n w _ _ _ => decide (1 ≤ n.val) && carries n.val w
  | .monWrite _ _ _ b => decide (1 ≤ b.length) && decide (b.length ≤ 8192)
  | .monRead _ _ _ n => decide (1 ≤ n.toNat) && decide (n.toNat ≤ 8192)
  | .monStep _ _ n => n != 0
  | .uartFrameReceive f => decide (f.length ≤ 4107)
  | .rxFrameComplete _ _ f _ _ _ _ => decide (64 ≤ f.length)
  | .syncWord l => decide (l.length ≤ 768)
  | .cueArm _ _ _ _ _ a => a != .none
  | _ => true

end Sys2Proof
end

