-- ==== Sys2Proof/Tests/Slice0.lean ====
section
/-! SUPPORT. Tests: ill-formed commands that each check of WellFormed refuses, and values that the
tables and worked examples of spec/ print. -/

open Sys2Proof Sys2Proof.Machine

section
set_option Elab.async false

/-! ## WellFormed refuses (R199, R203, R230, R300, R346, R439, R475; Table 17.2) -/

theorem test_wf_packet_payload : (Instr.packetInject { pkt0 with payload := [] } true).wf = false := by decide
theorem test_wf_packet_source : (Instr.packetInject { pkt0 with src := 768 } true).wf = false := by decide
theorem test_wf_host_bar : (Instr.hostRequest ⟨1, 0, 4, none, false, true⟩).wf = false := by decide
theorem test_wf_host_size : (Instr.hostRequest ⟨0, 0, 4, some [0], false, true⟩).wf = false := by decide
theorem test_wf_enqData : (Instr.enqData ⟨.husk, 0, 0, false, 0⟩ [] true 0 false).wf = false := by decide
theorem test_wf_txBlockArrive : (Instr.txBlockArrive 0 [] false true).wf = false := by decide
theorem test_wf_txFrameMessage : (Instr.txFrameMessage 0 .husk [] false true).wf = false := by decide
theorem test_wf_dramWritePiece : (Instr.dramWritePiece .husk 63 [0, 0] false true {}).wf = false := by decide
theorem test_wf_monWrite : (Instr.monWrite ⟨true, 0⟩ 0 false []).wf = false := by decide
theorem test_wf_monRead : (Instr.monRead ⟨true, 0⟩ 0 false 0).wf = false := by decide
theorem test_wf_monStep : (Instr.monStep ⟨true, 0⟩ 0 0).wf = false := by decide
theorem test_wf_rxFrameComplete : (Instr.rxFrameComplete 0 0 [] true true 0 false).wf = false := by decide
theorem test_wf_cueArm : (Instr.cueArm .husk .dev 0 0 0 .none).wf = false := by decide
theorem test_wf_syncWord : (Instr.syncWord (List.replicate 769 .husk)).wf = false := by decide +kernel
theorem test_wf_uartFrame : (Instr.uartFrameReceive (List.replicate 4108 0)).wf = false := by decide +kernel
theorem test_wf_spmAccess : (Instr.spmAccess .husk 0 4 (some [0]) false true .clean).wf = false := by decide
theorem test_wf_accepts : (Instr.packetInject pkt0 true).wf = true := by decide

/-! ## The fabric: the example of R49, Table 2.6, the example of R63, the clock switch example -/

theorem test_table_f6 : tableF6 (1#64 <<< 37) 37 = true ∧ tableF5 (1#64 <<< 5) 37 = true := by decide
theorem test_preadd_sat : preAdd .add false 100000 60000 = 131071 := by decide
theorem test_preadd_half : preAdd .add true 100000 60000 = 80000 ∧ preAdd .add true (-131072) (-1) = -65537 := by decide
theorem test_preadd_rsub : preAdd .rsub false 20000 5000 = -15000 := by decide
theorem test_slice_ties : sliceOut true true 14976 8 = (58, false) ∧ sliceOut true true 15232 8 = (60, false) ∧
    sliceOut true true (-14976) 8 = (-58, false) := by decide
theorem test_slice_saturates : sliceOut true true 67108864 8 = (131071, true) := by decide
theorem test_bram_aspect : (word36 5 false, word36 5 true, word9 20, word9 23) = (10, 11, 10, 11) := by decide
theorem test_tree_switch : treeSwitchMax 1250 2500 = 11250 := by decide
theorem test_engine_place : regionDie (engineRegion 700) = 1 ∧ regionCol (engineRegion 700) = 1 ∧
    regionRow (engineRegion 700) = 3 := by decide

/-! ## The engines: Tables 5.3 and 5.4, the LDI example, words of Table 5.9 -/

theorem test_step_circular : (ptrStep 0x805 5 12, ptrStep 0x80A 5 12, ptrStep 0x803 5 12) = (0x80A, 0x803, 0x808) := by
  decide +kernel
theorem test_step_reversed : (bitrevAdd 0x400 8, bitrevAdd 0x408 8, bitrevAdd 0x404 8, bitrevAdd 0x40C 8) =
    (0x408, 0x404, 0x40C, 0x402) := by decide +kernel
theorem test_step_increment : (ptrStep 0x1F 1 32, ptrStep 0 1 32) = (0, 1) := by decide +kernel
theorem test_move_none : scaleAll 0 0 8 [14976, -14976] = ([58, -58], false) := by decide
theorem test_move_down : scaleAll 1 0 7 [14976] = ([58], false) := by decide
theorem test_move_auto : scaleAll 3 0 9 [70000000] = ([68359], true) := by decide
theorem test_move_up : scaleAll 2 0 0 [70000] = ([140000], false) ∧ clampTo 18 140000 = (131071, true) := by decide
theorem test_move_floor : scaleAll 0 1 8 [15000] = ([58], false) := by decide
theorem test_word_loop : kotinDecode 0x540000000004000B = some (.c .loop ⟨0, 0, 32, 0xB⟩) := by decide +kernel
theorem test_word_cmacm : kotinDecode 0x4100805000000000 = some (.m .cmacm ⟨0, 1, 0, 10, 0, 0⟩) := by decide +kernel
theorem test_word_reserved : kotinDecode 0xFF00000000000000 = none := by decide +kernel
/-- Engine 0 running. -/
def engine0 : State := State.reset.setFld (F.ENG_STATE_state 0) EngState.running
theorem test_ldi : exec (.ldi 0 ⟨4, 0x012345678⟩ {}) engine0 = .next (outcome (exec (.ldi 0 ⟨4, 0x012345678⟩ {}) engine0)) ∧
    ((outcome (exec (.ldi 0 ⟨4, 0x012345678⟩ {}) engine0)).getG 0 4).h = 1165 ∧
    ((outcome (exec (.ldi 0 ⟨4, 0x012345678⟩ {}) engine0)).getG 0 4).l = 22136 := by
  refine ⟨rfl, ?_⟩
  decide +kernel

/-! ## The network, the queue engine and time: Table 6.6, the examples of R230, Table 8.2 -/

theorem test_route_codes : packCodes (routeCodes (niRouter 305) (niRouter 610)) = 0x0002615B := by decide
theorem test_granules : granulesFor 1000 = 5 ∧ granulesFor 65536 = 265 ∧ granulesFor 232 = 1 := by decide
theorem test_time_ahead : timeClass 2500000 4294000000 = .ahead ∧ timeClass 3000000000 1000000000 = .ahead := by decide
theorem test_time_outside : timeClass 2049032704 4294000000 = .outside ∧ timeClass 3000000001 1000000000 = .outside := by decide
theorem test_time_reached : timeClass 4294867296 100000 = .reached ∧ timeClass 1000000000 1000000000 = .reached := by decide

/-! ## The codes: CRC-32C of R4 (the check value of RFC 3720's CRC), SHA3-512 of R3 (FIPS 202, "abc") -/

theorem test_crc32c : crc32c [0x31, 0x32, 0x33, 0x34, 0x35, 0x36, 0x37, 0x38, 0x39] = 0xE3069283 := by decide +kernel
theorem test_sha3 : (sha3 [0x61, 0x62, 0x63]).toNat % 2 ^ 32 = 0x0B8551B7 := by decide +kernel

/-! ## Steps: power-on and reset (Table 1.6, codes 0x01 and 0x02), the queue of commands -/

theorem test_release_boots : (outcome (exec .wholeDeviceResetReleased State.reset)).mode = Mode.boot := by decide +kernel
theorem test_step_takes_the_front :
    (outcome (step { State.reset with pending := [.vhuskWithinRange, .vhuskBelowRange] })).pending = [.vhuskBelowRange] := by
  decide +kernel

end
end

