-- ==== Sys2Proof/Tests/WitnessEngines.lean ====
section
/-! SUPPORT. Witnesses: witness_<statement>_<k> shows a state and operands that meet the premises
of clause k of that statement, for the engines and their instructions. -/

open Sys2Proof Sys2Proof.Machine

section
set_option Elab.async false

theorem witness_EngineRunControlFollowsTable_1 :
    ∃ s : State, ∃ e : Fin 1024, s.isWide e.val = false ∧ s.engState e.val = EngState.running ∧ s.pendingEvents e.val ≠ 0 ∧ stIe (s.engine e.val).st = true ∧ stInHandler (s.engine e.val).st = false ∧ (s.engine e.val).lock = 0 ∧ (s.engine e.val).far = none ∧ s.isStepping e.val = false :=
  ⟨((((let s := (let s := (State.reset.setFld (F.ENG_STATE_state 0) EngState.running); s.setEngine 0 { s.engine 0 with lock := 0 }); s.setEngine 0 { s.engine 0 with far := none }).setReg (R.ENG_EVT 0) 1).setReg (R.ENG_EVT_MASK 0) 1).setSt 0 0x80000000), 0,
    by decide +kernel, by decide +kernel, by decide +kernel, by decide +kernel, by decide +kernel, by decide +kernel, by decide +kernel, by decide +kernel⟩
theorem witness_EngineRunControlFollowsTable_2 :
    ∃ s : State, ∃ e : Fin 1024, s.isWide e.val = false ∧ (s.engine e.val).lock ≠ 0 ∧ s.engState e.val = EngState.running :=
  ⟨((let s := State.reset; s.setEngine 0 { s.engine 0 with lock := 1 }).setFld (F.ENG_STATE_state 0) EngState.running), 0,
    by decide +kernel, by decide +kernel, by decide +kernel⟩
theorem witness_EngineRunControlFollowsTable_3 :
    ∃ s : State, ∃ e : Fin 1024, ∃ x : Nat, s.isWide e.val = false ∧ (s.engine e.val).wdAt = some x ∧ x ≤ s.now ∧ s.bit (F.ENG_CTRL_wd_action e.val) = false ∧ s.isStepping e.val = false :=
  ⟨((let s := State.reset; s.setEngine 0 { s.engine 0 with wdAt := some 0 }).setBit (F.ENG_CTRL_wd_action 0) false), 0, 0,
    by decide +kernel, by decide +kernel, by decide +kernel, by decide +kernel, by decide +kernel⟩
theorem witness_EngineRunControlFollowsTable_4 :
    ∃ s : State, ∃ e : Fin 1024, s.isWide e.val = false ∧ (s.engState e.val = EngState.running ∨ s.engState e.val = EngState.waiting) :=
  ⟨(State.reset.setFld (F.ENG_STATE_state 0) EngState.running), 0,
    by decide +kernel, by decide +kernel⟩
theorem witness_EngineRunControlFollowsTable_5 :
    ∃ s : State, ∃ e : Fin 1024, ∃ x : Nat, s.isWide e.val = false ∧ (s.engine e.val).stopReq = some x ∧ (s.engine e.val).lock = 0 ∧ (s.engine e.val).far = none ∧ (s.engine e.val).startReq = none ∧ s.engState e.val = EngState.running :=
  ⟨((let s := (let s := (let s := (let s := State.reset; s.setEngine 0 { s.engine 0 with stopReq := some 0 }); s.setEngine 0 { s.engine 0 with lock := 0 }); s.setEngine 0 { s.engine 0 with far := none }); s.setEngine 0 { s.engine 0 with startReq := none }).setFld (F.ENG_STATE_state 0) EngState.running), 0, 0,
    by decide +kernel, by decide +kernel, by decide +kernel, by decide +kernel, by decide +kernel, by decide +kernel⟩
theorem witness_EngineRunControlFollowsTable_6 :
    ∃ s : State, ∃ e : Fin 1024, s.isWide e.val = false ∧ s.engState e.val = EngState.faulted :=
  ⟨(State.reset.setFld (F.ENG_STATE_state 0) EngState.faulted), 0,
    by decide +kernel, by decide +kernel⟩
theorem witness_EngineRunControlFollowsTable_7 :
    ∃ s : State, ∃ e : Fin 1024, s.isWide e.val = false ∧ s.bundleNames e.val = false ∧ s.engState e.val = EngState.stopped ∧ (s.shadow (R.ENG_RUN e.val)).getLsbD 31 = true :=
  ⟨((State.reset.setFld (F.ENG_STATE_state 0) EngState.stopped).setShadow (R.ENG_RUN 0) 0x80000000), 0,
    by decide +kernel, by decide +kernel, by decide +kernel, by decide +kernel⟩
theorem witness_EngineControlPageCompletes_1 :
    ∃ s : State, ∃ e : Fin 1024, s.isWide e.val = false ∧ s.engState e.val = EngState.stopped :=
  ⟨(State.reset.setFld (F.ENG_STATE_state 0) EngState.stopped), 0,
    by decide +kernel, by decide +kernel⟩
theorem witness_EngineControlPageCompletes_2 :
    ∃ s : State, ∃ e : Fin 1024, s.isWide e.val = false ∧ s.engState e.val = EngState.running :=
  ⟨(State.reset.setFld (F.ENG_STATE_state 0) EngState.running), 0,
    by decide +kernel, by decide +kernel⟩
theorem witness_EngineControlPageCompletes_3 :
    ∃ s : State, ∃ e : Fin 1024, s.isWide e.val = false ∧ s.engState e.val = EngState.off :=
  ⟨(State.reset.setFld (F.ENG_STATE_state 0) EngState.off), 0,
    by decide +kernel, by decide +kernel⟩
theorem witness_EngineControlPageCompletes_4 :
    ∃ s : State, ∃ e : Fin 1024, s.isWide e.val = false ∧ (s.engine e.val).powering = true :=
  ⟨(let s := State.reset; s.setEngine 0 { s.engine 0 with powering := true }), 0,
    by decide +kernel, by decide +kernel⟩
theorem witness_EngineControlPageCompletes_5 :
    ∃ s : State, ∃ e : Fin 1024, e.val % 2 = 0 ∧ s.engState e.val = EngState.stopped ∧ s.engState (e.val + 1) = EngState.off :=
  ⟨((State.reset.setFld (F.ENG_STATE_state 0) EngState.stopped).setFld (F.ENG_STATE_state (0 + 1)) EngState.off), 0,
    by decide +kernel, by decide +kernel, by decide +kernel⟩
theorem witness_EngineControlPageCompletes_6 :
    ∃ s : State, ∃ e : Fin 1024, s.isWide e.val = false ∧ (s.engine e.val).wdAt = none :=
  ⟨(let s := State.reset; s.setEngine 0 { s.engine 0 with wdAt := none }), 0,
    by decide +kernel, by decide +kernel⟩
theorem witness_EngineControlPageCompletes_8 :
    ∃ s : State, ∃ e : Fin 1024, ∃ n : BitVec 6, ∃ b : BitVec 14, s.engState e.val = EngState.stopped ∧ BitVec.toNat n ≤ 32 ∧ BitVec.toNat b + 65 * BitVec.toNat n ≤ 16384 :=
  ⟨(State.reset.setFld (F.ENG_STATE_state 0) EngState.stopped), 0, 0, 0,
    by decide +kernel, by decide +kernel, by decide +kernel⟩
theorem witness_EngineControlPageCompletes_9 :
    ∃ s : State, ∃ e : Fin 1024, ∃ n : BitVec 6, s.msgUsed e.val < BitVec.toNat n :=
  ⟨State.reset, 0, 1,
    by decide +kernel⟩
theorem witness_EngineControlPageCompletes_10 :
    ∃ s : State, ∃ e : Fin 1024, ∃ n : BitVec 6, BitVec.toNat n ≤ s.msgUsed e.val :=
  ⟨State.reset, 0, 0,
    by decide +kernel⟩
theorem witness_EngineWindowReadsWhatWasWritten_1 :
    ∃ s : State, ∃ e : Fin 1024, ∃ o : BitVec 18, o.toNat % 8 = 0 ∧ o.toNat < 0x20000 ∧ (s.engine (s.gov e.val)).lock = 0 :=
  ⟨(let s := State.reset; s.setEngine (s.gov 0) { s.engine (s.gov 0) with lock := 0 }), 0, 0,
    by decide +kernel, by decide +kernel, by decide +kernel⟩
theorem witness_EngineWindowReadsWhatWasWritten_2 :
    ∃ s : State, ∃ e : Fin 1024, ∃ o : BitVec 18, o.toNat % 8 = 0 ∧ o.toNat < 0x20000 ∧ (s.engine (s.gov e.val)).lock = 0 :=
  ⟨(let s := State.reset; s.setEngine (s.gov 0) { s.engine (s.gov 0) with lock := 0 }), 0, 0,
    by decide +kernel, by decide +kernel, by decide +kernel⟩
theorem witness_EngineWindowReadsWhatWasWritten_3 :
    ∃ s : State, ∃ e : Fin 1024, ∃ o : BitVec 18, o.toNat % 8 = 0 ∧ o.toNat < 0x20000 ∧ (s.engine (s.gov e.val)).lock ≠ 0 :=
  ⟨(let s := State.reset; s.setEngine 0 { s.engine 0 with lock := 1 }), 0, 0,
    by decide +kernel, by decide +kernel, by decide +kernel⟩
theorem witness_EngineWindowReadsWhatWasWritten_4 :
    ∃ o : BitVec 18, o.toNat % 8 ≠ 0 :=
  ⟨1,
    by decide +kernel⟩
theorem witness_EngineWindowReadsWhatWasWritten_5 :
    ∃ s : State, ∃ e : Fin 1024, ∃ o : BitVec 18, o.toNat % 8 = 0 ∧ 0x20000 ≤ o.toNat ∧ o.toNat < 0x28000 ∧ s.engState e.val = EngState.running :=
  ⟨(State.reset.setFld (F.ENG_STATE_state 0) EngState.running), 0, 0x20000,
    by decide +kernel, by decide +kernel, by decide +kernel, by decide +kernel⟩
theorem witness_EngineWindowReadsWhatWasWritten_6 :
    ∃ s : State, ∃ e : Fin 1024, ∃ o : BitVec 18, o.toNat % 8 = 0 ∧ 0x20000 ≤ o.toNat ∧ o.toNat < 0x28000 ∧ s.engState e.val = EngState.stopped :=
  ⟨(State.reset.setFld (F.ENG_STATE_state 0) EngState.stopped), 0, 0x20000,
    by decide +kernel, by decide +kernel, by decide +kernel, by decide +kernel⟩
theorem witness_EngineMovesToItsSpare_1 :
    ∃ s : State, ∃ e : Fin 1024, (s.spare (e.val / 8)).sub = some e ∧ (s.spare (e.val / 8)).staged = false :=
  ⟨(let s := (let s := State.reset; s.setSpare (0 / 8) { s.spare (0 / 8) with sub := some 0 }); s.setSpare (0 / 8) { s.spare (0 / 8) with staged := false }), 0,
    by decide +kernel, by decide +kernel⟩
theorem witness_EngineMovesToItsSpare_2 :
    ∃ s : State, ∃ e : Fin 1024, (s.spare (e.val / 8)).sub = some e ∧ (s.spare (e.val / 8)).staged = false ∧ s.runStaged e.val = false ∧ s.engState e.val ≠ EngState.halted :=
  ⟨(let s := (let s := State.reset; s.setSpare (0 / 8) { s.spare (0 / 8) with sub := some 0 }); s.setSpare (0 / 8) { s.spare (0 / 8) with staged := false }), 0,
    by decide +kernel, by decide +kernel, by decide +kernel, by decide +kernel⟩
theorem witness_EngineMovesToItsSpare_3 :
    ∃ s : State, ∃ e : Fin 1024, s.isWide e.val = false ∧ (s.spare (e.val / 8)).sub = some e ∧ (s.spare (e.val / 8)).applied = true ∧ (s.engine e.val).lock = 0 ∧ s.engState e.val = EngState.running :=
  ⟨((let s := (let s := (let s := State.reset; s.setSpare (0 / 8) { s.spare (0 / 8) with sub := some 0 }); s.setSpare (0 / 8) { s.spare (0 / 8) with applied := true }); s.setEngine 0 { s.engine 0 with lock := 0 }).setFld (F.ENG_STATE_state 0) EngState.running), 0,
    by decide +kernel, by decide +kernel, by decide +kernel, by decide +kernel, by decide +kernel⟩
theorem witness_EngineMovesToItsSpare_4 :
    ∃ s : State, ∃ e : Fin 1024, s.isWide e.val = false ∧ (s.spare (e.val / 8)).sub = some e ∧ s.engState e.val = EngState.moving ∧ (s.engine e.val).haltReq = false :=
  ⟨(let s := ((let s := State.reset; s.setSpare (0 / 8) { s.spare (0 / 8) with sub := some 0 }).setFld (F.ENG_STATE_state 0) EngState.moving); s.setEngine 0 { s.engine 0 with haltReq := false }), 0,
    by decide +kernel, by decide +kernel, by decide +kernel, by decide +kernel⟩

theorem witness_KotinSystemInstructionsRun_1 :
    ∃ s : State, ∃ e : Fin 1024, Ready s e.val :=
  ⟨(State.reset.setFld (F.ENG_STATE_state 0) EngState.running), 0,
    by unfold Ready Runs; decide +kernel⟩
theorem witness_KotinSystemInstructionsRun_2 :
    ∃ s : State, ∃ e : Fin 1024, Ready s e.val ∧ (s.engine e.val).startReq = none :=
  ⟨(let s := (State.reset.setFld (F.ENG_STATE_state 0) EngState.running); s.setEngine 0 { s.engine 0 with startReq := none }), 0,
    by unfold Ready Runs; decide +kernel, by decide +kernel⟩
theorem witness_KotinSystemInstructionsRun_3 :
    ∃ s : State, ∃ e : Fin 1024, ∃ f : KR, Ready s e.val ∧ 1 ≤ f.imm.toNat ∧ f.imm.toNat ≤ 8 :=
  ⟨(State.reset.setFld (F.ENG_STATE_state 0) EngState.running), 0, ⟨0, 0, 0, 0, 8⟩,
    by unfold Ready Runs; decide +kernel, by decide +kernel, by decide +kernel⟩
theorem witness_KotinSystemInstructionsRun_4 :
    ∃ s : State, ∃ e : Fin 1024, ∃ f : KR, Ready s e.val ∧ (f.imm.toNat = 0 ∨ 8 < f.imm.toNat) :=
  ⟨(State.reset.setFld (F.ENG_STATE_state 0) EngState.running), 0, ⟨0, 0, 0, 0, 0⟩,
    by unfold Ready Runs; decide +kernel, by decide +kernel⟩
theorem witness_KotinSystemInstructionsRun_5 :
    ∃ s : State, ∃ e : Fin 1024, Ready s e.val :=
  ⟨(State.reset.setFld (F.ENG_STATE_state 0) EngState.running), 0,
    by unfold Ready Runs; decide +kernel⟩
theorem witness_KotinSystemInstructionsRun_6 :
    ∃ s : State, ∃ e : Fin 1024, Ready s e.val :=
  ⟨(State.reset.setFld (F.ENG_STATE_state 0) EngState.running), 0,
    by unfold Ready Runs; decide +kernel⟩
theorem witness_KotinSystemInstructionsRun_7 :
    ∃ s : State, ∃ e : Fin 1024, ∃ f : KR, Ready s e.val ∧ stRnd (((s.st e.val &&& ~~~(f.imm >>> 16)) ||| ((f.imm &&& 0xFFFF#32) &&& (f.imm >>> 16))) &&& stMask) < 2 :=
  ⟨(State.reset.setFld (F.ENG_STATE_state 0) EngState.running), 0, ⟨0, 0, 0, 0, 0⟩,
    by unfold Ready Runs; decide +kernel, by decide +kernel⟩
theorem witness_KotinSystemInstructionsRun_8 :
    ∃ s : State, ∃ e : Fin 1024, ∃ f : KR, Ready s e.val ∧ f.d.toNat < s.gLimit e.val :=
  ⟨(State.reset.setFld (F.ENG_STATE_state 0) EngState.running), 0, ⟨0, 0, 0, 0, 0⟩,
    by unfold Ready Runs; decide +kernel, by decide +kernel⟩
theorem witness_KotinSystemInstructionsRun_9 :
    ∃ s : State, ∃ e : Fin 1024, ∃ f : KR, Ready s e.val ∧ f.a.toNat < s.gLimit e.val ∧ (s.getG e.val f.a.toNat).clean = true ∧ stRnd ((s.getG e.val f.a.toNat).w.setWidth 32 &&& stMask) < 2 :=
  ⟨(State.reset.setFld (F.ENG_STATE_state 0) EngState.running), 0, ⟨0, 0, 0, 0, 0⟩,
    by unfold Ready Runs; decide +kernel, by decide +kernel, by decide +kernel, by decide +kernel⟩
theorem witness_KotinMovesAndMemoryInstructionsRun_1 :
    ∃ s : State, ∃ e : Fin 1024, ∃ f : KI, Ready s e.val ∧ f.d.toNat < s.gLimit e.val :=
  ⟨(State.reset.setFld (F.ENG_STATE_state 0) EngState.running), 0, ⟨0, 0⟩,
    by unfold Ready Runs; decide +kernel, by decide +kernel⟩
theorem witness_KotinMovesAndMemoryInstructionsRun_2 :
    ∃ s : State, ∃ e : Fin 1024, ∃ f : KR, Ready s e.val ∧ f.d.toNat < s.gLimit e.val ∧ f.a.toNat < s.gLimit e.val :=
  ⟨(State.reset.setFld (F.ENG_STATE_state 0) EngState.running), 0, ⟨0, 0, 0, 0, 0⟩,
    by unfold Ready Runs; decide +kernel, by decide +kernel, by decide +kernel⟩
theorem witness_KotinMovesAndMemoryInstructionsRun_4 :
    ∃ s : State, ∃ e : Fin 1024, ∃ f : KR, Ready s e.val ∧ f.d.toNat < s.gLimit e.val ∧ f.a.toNat < s.gLimit e.val :=
  ⟨(State.reset.setFld (F.ENG_STATE_state 0) EngState.running), 0, ⟨0, 0, 0, 0, 0⟩,
    by unfold Ready Runs; decide +kernel, by decide +kernel, by decide +kernel⟩
theorem witness_KotinMovesAndMemoryInstructionsRun_5 :
    ∃ s : State, ∃ e : Fin 1024, ∃ f : KR, Ready s e.val ∧ f.d.toNat < s.gLimit e.val ∧ f.a.toNat < s.gLimit e.val ∧ (s.getG e.val f.a.toNat).tagL = false :=
  ⟨(State.reset.setFld (F.ENG_STATE_state 0) EngState.running), 0, ⟨0, 0, 0, 0, 0⟩,
    by unfold Ready Runs; decide +kernel, by decide +kernel, by decide +kernel, by decide +kernel⟩
theorem witness_KotinMovesAndMemoryInstructionsRun_6 :
    ∃ s : State, ∃ e : Fin 1024, ∃ f : KR, ∃ r : AReg, Ready s e.val ∧ f.d.toNat < s.gLimit e.val ∧ s.areg e.val f.a = .ok r :=
  ⟨(State.reset.setFld (F.ENG_STATE_state 0) EngState.running), 0, ⟨0, 0, 0, 0, 0⟩, AReg.p 0,
    by unfold Ready Runs; decide +kernel, by decide +kernel, rfl⟩
theorem witness_KotinMovesAndMemoryInstructionsRun_7 :
    ∃ s : State, ∃ e : Fin 1024, ∃ f : KR, ∃ r : AReg, Ready s e.val ∧ s.areg e.val f.d = .ok r ∧ f.mod.getLsbD 2 = true ∧ s.aregOk e.val f.imm r = true ∧ ((∀ j, r ≠ .lc j)) :=
  ⟨(State.reset.setFld (F.ENG_STATE_state 0) EngState.running), 0, ⟨0, 0, 0, 4, 0⟩, AReg.p 0,
    by unfold Ready Runs; decide +kernel, rfl, by decide +kernel, by decide +kernel, fun _ h => nomatch h⟩
theorem witness_KotinMovesAndMemoryInstructionsRun_8 :
    ∃ s : State, ∃ e : Fin 1024, ∃ f : KR, ∃ r : AReg, Ready s e.val ∧ s.areg e.val f.d = .ok r ∧ f.mod.getLsbD 2 = false ∧ f.a.toNat < s.gLimit e.val ∧ (s.getG e.val f.a.toNat).clean = true ∧ s.aregOk e.val ((s.getG e.val f.a.toNat).w.setWidth 32) r = true ∧ ((∀ j, r ≠ .lc j)) :=
  ⟨(State.reset.setFld (F.ENG_STATE_state 0) EngState.running), 0, ⟨0, 0, 0, 0, 0⟩, AReg.p 0,
    by unfold Ready Runs; decide +kernel, rfl, by decide +kernel, by decide +kernel, by decide +kernel, by decide +kernel, fun _ h => nomatch h⟩
theorem witness_KotinMovesAndMemoryInstructionsRun_9 :
    ∃ s : State, ∃ e : Fin 1024, ∃ f : KR, ∃ j : Nat, Ready s e.val ∧ s.areg e.val f.d = .ok (.lc j) ∧ f.mod.getLsbD 2 = true :=
  ⟨(State.reset.setFld (F.ENG_STATE_state 0) EngState.running), 0, ⟨48, 0, 0, 4, 0⟩, 0,
    by unfold Ready Runs; decide +kernel, rfl, by decide +kernel⟩
theorem witness_KotinMovesAndMemoryInstructionsRun_10 :
    ∃ s : State, ∃ e : Fin 1024, ∃ f : KT, Ready s e.val ∧ f.d.toNat < s.gLimit e.val ∧ f.p.toNat < s.ptrLimit e.val :=
  ⟨(State.reset.setFld (F.ENG_STATE_state 0) EngState.running), 0, ⟨0, 0, 0, 0, 0, 0⟩,
    by unfold Ready Runs; decide +kernel, by decide +kernel, by decide +kernel⟩
theorem witness_KotinMovesAndMemoryInstructionsRun_11 :
    ∃ s : State, ∃ e : Fin 1024, ∃ f : KT, Ready s e.val ∧ f.d.toNat < s.gLimit e.val ∧ f.p.toNat < s.ptrLimit e.val :=
  ⟨(State.reset.setFld (F.ENG_STATE_state 0) EngState.running), 0, ⟨0, 0, 0, 0, 0, 0⟩,
    by unfold Ready Runs; decide +kernel, by decide +kernel, by decide +kernel⟩

theorem witness_KotinAluInstructionsRun_2 :
    ∃ s : State, ∃ e : Fin 1024, ∃ f : KR, Ready s e.val ∧ (16 ≤ f.mod.toNat ∨ f.mod.toNat % 16 = 11 ∨ f.mod.toNat % 16 = 15) :=
  ⟨(State.reset.setFld (F.ENG_STATE_state 0) EngState.running), 0, ⟨0, 0, 0, 11, 0⟩,
    by unfold Ready Runs; decide +kernel, by decide +kernel⟩
theorem witness_KotinAluInstructionsRun_3 :
    ∃ s : State, ∃ e : Fin 1024, ∃ f : KR, Ready s e.val ∧ f.mod.toNat < 8 ∧ f.mod.getLsbD 2 = true ∧ f.a.toNat < s.gLimit e.val ∧ f.d.toNat < s.gLimit e.val ∧ (s.getG e.val f.a.toNat).laneClean (f.mod.toNat % 4) = false :=
  ⟨(let s := (State.reset.setFld (F.ENG_STATE_state 0) EngState.running); s.setEngine 0 { s.engine 0 with g := [(0, ⟨0, true, true⟩)] }), 0, ⟨0, 0, 0, 4, 0⟩,
    by unfold Ready Runs; decide +kernel, by decide +kernel, by decide +kernel, by decide +kernel, by decide +kernel, by decide +kernel⟩
theorem witness_LanesComputeAsTheTableSays_1 :
    ∃ s : State, ∃ n : Nat, ∃ f : KR, ∃ x : BitVec 32, ∃ y : BitVec 32, ∃ k : Nat, x = (s.getG n f.a.toNat).w.setWidth 32 ∧ y = (s.aluB n f 3).w.setWidth 32 ∧ k = s.aluAmount n f :=
  ⟨State.reset, 0, ⟨0, 0, 0, 0, 0⟩, _, _, _,
    rfl, rfl, rfl⟩
theorem witness_LanesComputeAsTheTableSays_4 :
    ∃ f : KR, ∃ op : Alu, op ≠ .cmp ∧ f.mod.toNat % 4 = 1 :=
  ⟨⟨0, 0, 0, 1, 0⟩, Alu.add,
    by decide +kernel, by decide +kernel⟩
theorem witness_LanesComputeAsTheTableSays_5 :
    ∃ f : KR, ∃ op : Alu, op ≠ .cmp ∧ f.mod.toNat % 4 = 2 :=
  ⟨⟨0, 0, 0, 2, 0⟩, Alu.add,
    by decide +kernel, by decide +kernel⟩
theorem witness_LanesComputeAsTheTableSays_7 :
    ∃ k : Nat, 18 ≤ k :=
  ⟨18,
    by decide +kernel⟩
theorem witness_AccumulationIsExact_3 :
    ∃ k : Nat, k < 8 :=
  ⟨0,
    by decide +kernel⟩
theorem witness_AccumulationIsExact_4 :
    ∃ k : Nat, ∃ j : Nat, k < 8 ∧ j < 8 ∧ j ≠ k :=
  ⟨0, 1,
    by decide +kernel, by decide +kernel, by decide +kernel⟩
theorem witness_AccumulationIsExact_5 :
    ∃ s : State, ∃ e : Fin 1024, ∃ f : KR, Ready s e.val ∧ f.mod.toNat < 16 ∧ AccLegal s e.val f.d.toNat false ∧ f.a.toNat < s.gLimit e.val ∧ f.b.toNat < s.gLimit e.val ∧ (s.getG e.val f.a.toNat).halfClean (f.mod.getLsbD 0) = true ∧ (s.getG e.val f.b.toNat).halfClean (f.mod.getLsbD 1) = true :=
  ⟨(State.reset.setFld (F.ENG_STATE_state 0) EngState.running), 0, ⟨0, 0, 0, 0, 0⟩,
    by unfold Ready Runs; decide +kernel, by decide +kernel, by unfold AccLegal; decide +kernel, by decide +kernel, by decide +kernel, by decide +kernel, by decide +kernel⟩
theorem witness_ComplexAccumulationFollowsTheProduct_3 :
    ∃ s : State, ∃ e : Fin 1024, ∃ f : KR, Ready s e.val ∧ f.mod.toNat < 16 ∧ f.mod.getLsbD 1 = false ∧ AccLegal s e.val f.d.toNat true ∧ f.a.toNat < s.gLimit e.val ∧ f.b.toNat < s.gLimit e.val ∧ (s.getG e.val f.a.toNat).clean = true ∧ (s.getG e.val f.b.toNat).clean = true :=
  ⟨(State.reset.setFld (F.ENG_STATE_state 0) EngState.running), 0, ⟨0, 0, 0, 0, 0⟩,
    by unfold Ready Runs; decide +kernel, by decide +kernel, by decide +kernel, by unfold AccLegal; decide +kernel, by decide +kernel, by decide +kernel, by decide +kernel, by decide +kernel⟩
theorem witness_ComplexAccumulationFollowsTheProduct_4 :
    ∃ s : State, ∃ e : Fin 1024, ∃ f : KR, Ready s e.val ∧ f.d.toNat % 2 = 1 :=
  ⟨(State.reset.setFld (F.ENG_STATE_state 0) EngState.running), 0, ⟨1, 0, 0, 0, 0⟩,
    by unfold Ready Runs; decide +kernel, by decide +kernel⟩
theorem witness_ComplexAccumulationFollowsTheProduct_5 :
    ∃ s : State, ∃ e : Fin 1024, ∃ f : KM, Ready s e.val ∧ XcLegal s e.val f ∧ f.ys = 0 ∧ f.mod.getLsbD 1 = false ∧ f.mod.getLsbD 4 = false ∧ AccLegal s e.val f.k.toNat true ∧ (s.opWord e.val f.xs).clean = true ∧ (s.opWord e.val f.cs).clean = true :=
  ⟨(State.reset.setFld (F.ENG_STATE_state 0) EngState.running), 0, ⟨0, 0, 0, 0, 0, 0⟩,
    by unfold Ready Runs; decide +kernel, by unfold XcLegal; decide +kernel, by decide +kernel, by decide +kernel, by decide +kernel, by unfold AccLegal; decide +kernel, by decide +kernel, by decide +kernel⟩
theorem witness_MemoryMultipliesRun_1 :
    ∃ s : State, ∃ e : Fin 1024, ∃ f : KM, Ready s e.val ∧ XcLegal s e.val f ∧ f.mod.getLsbD 4 = false ∧ f.ys = 0 ∧ AccLegal s e.val f.k.toNat false ∧ (s.opWord e.val f.xs).halfClean (f.mod.getLsbD 0) = true ∧ (s.opWord e.val f.cs).halfClean (f.mod.getLsbD 1) = true :=
  ⟨(State.reset.setFld (F.ENG_STATE_state 0) EngState.running), 0, ⟨0, 0, 0, 0, 0, 0⟩,
    by unfold Ready Runs; decide +kernel, by unfold XcLegal; decide +kernel, by decide +kernel, by decide +kernel, by unfold AccLegal; decide +kernel, by decide +kernel, by decide +kernel⟩
theorem witness_MemoryMultipliesRun_2 :
    ∃ s : State, ∃ e : Fin 1024, ∃ f : KM, Ready s e.val ∧ XcLegal s e.val f ∧ f.mod.getLsbD 4 = true ∧ YLegal s e.val f ∧ AccLegal s e.val f.k.toNat true ∧ (s.opWord e.val f.xs).halfClean (f.mod.getLsbD 0) = true ∧ (s.opWord e.val f.ys).halfClean (f.mod.getLsbD 0) = true ∧ (s.opWord e.val f.cs).halfClean (f.mod.getLsbD 1) = true :=
  ⟨(State.reset.setFld (F.ENG_STATE_state 0) EngState.running), 0, ⟨0, 0, 0, 0, 0, 16⟩,
    by unfold Ready Runs; decide +kernel, by unfold XcLegal; decide +kernel, by decide +kernel, by unfold YLegal; decide +kernel, by unfold AccLegal; decide +kernel, by decide +kernel, by decide +kernel, by decide +kernel⟩
theorem witness_MemoryMultipliesRun_3 :
    ∃ s : State, ∃ e : Fin 1024, ∃ f : KM, Ready s e.val ∧ s.isWide e.val = true ∧ XcLegal s e.val f ∧ YLegal s e.val f ∧ (f.k.toNat = 0 ∨ f.k.toNat = 2) ∧ f.mod.getLsbD 1 = false ∧ f.mod.getLsbD 4 = false ∧ (s.opWord e.val f.xs).clean = true ∧ (s.opWord e.val f.ys).clean = true ∧ (s.opWord e.val f.cs).clean = true :=
  ⟨((State.reset.setFld (F.ENG_STATE_state 0) EngState.running).setBit (F.ENG_CTRL_wide 0) true), 0, ⟨0, 0, 32, 0, 0, 0⟩,
    by unfold Ready Runs; decide +kernel, by decide +kernel, by unfold XcLegal; decide +kernel, by unfold YLegal; decide +kernel, by decide +kernel, by decide +kernel, by decide +kernel, by decide +kernel, by decide +kernel, by decide +kernel⟩
theorem witness_MemoryMultipliesRun_4 :
    ∃ s : State, ∃ e : Fin 1024, ∃ f : KM, Ready s e.val ∧ XcLegal s e.val f ∧ specPtr f.ys < s.ptrLimit e.val ∧ f.mod.getLsbD 4 = false ∧ AccLegal s e.val f.k.toNat (f.mod.getLsbD 0) ∧ (if f.mod.getLsbD 0 then (s.opWord e.val f.xs).clean && (s.opWord e.val f.cs).clean else !(s.opWord e.val f.xs).tagH && !(s.opWord e.val f.cs).tagH) = true :=
  ⟨(State.reset.setFld (F.ENG_STATE_state 0) EngState.running), 0, ⟨0, 0, 0, 0, 0, 0⟩,
    by unfold Ready Runs; decide +kernel, by unfold XcLegal; decide +kernel, by decide +kernel, by decide +kernel, by unfold AccLegal; decide +kernel, by decide +kernel⟩
theorem witness_MemoryMultipliesRun_5 :
    ∃ s : State, ∃ e : Fin 1024, ∃ f : KM, ∃ m : Nat, ∃ r : List Int × State, Ready s e.val ∧ XcLegal s e.val f ∧ YLegal s e.val f ∧ f.mod.getLsbD 4 = false ∧ m = (if f.mod.toNat / 2 % 8 = 0 then stScale (s.st e.val) else f.mod.toNat / 2 % 8 - 4) ∧ (f.mod.toNat / 2 % 8 = 0 ∨ 4 ≤ f.mod.toNat / 2 % 8) ∧ (s.opWord e.val f.xs).clean = true ∧ (s.opWord e.val f.ys).clean = true ∧ (s.opWord e.val f.cs).clean = true ∧ r = s.moved e.val m 17 (bflySums (f.mod.getLsbD 0) (s.opWord e.val f.xs) (s.opWord e.val f.ys) (s.opWord e.val f.cs)) :=
  ⟨(State.reset.setFld (F.ENG_STATE_state 0) EngState.running), 0, ⟨0, 0, 0, 0, 0, 0⟩, _, _,
    by unfold Ready Runs; decide +kernel, by unfold XcLegal; decide +kernel, by unfold YLegal; decide +kernel, by decide +kernel, rfl, by decide +kernel, by decide +kernel, by decide +kernel, by decide +kernel, rfl⟩
theorem witness_MemoryMultipliesRun_6 :
    ∃ s : State, ∃ e : Fin 1024, ∃ f : KR, Ready s e.val ∧ f.mod.getLsbD 0 = false ∧ AccLegal s e.val f.d.toNat false :=
  ⟨(State.reset.setFld (F.ENG_STATE_state 0) EngState.running), 0, ⟨0, 0, 0, 0, 0⟩,
    by unfold Ready Runs; decide +kernel, by decide +kernel, by unfold AccLegal; decide +kernel⟩
theorem witness_AccumulatorMovesRoundAndClamp_1 :
    ∃ s : State, ∃ e : Fin 1024, ∃ f : KR, Ready s e.val ∧ AccLegal s e.val f.d.toNat (f.mod.getLsbD 0) :=
  ⟨(State.reset.setFld (F.ENG_STATE_state 0) EngState.running), 0, ⟨0, 0, 0, 0, 0⟩,
    by unfold Ready Runs; decide +kernel, by unfold AccLegal; decide +kernel⟩
theorem witness_AccumulatorMovesRoundAndClamp_2 :
    ∃ s : State, ∃ e : Fin 1024, ∃ f : KR, Ready s e.val ∧ f.mod.toNat % 4 ≠ 3 ∧ f.b.toNat ≤ 30 ∧ AccLegal s e.val f.d.toNat (f.mod.toNat % 4 == 0) ∧ f.a.toNat < s.gLimit e.val ∧ (s.getG e.val f.a.toNat).laneClean (f.mod.toNat % 4) = true :=
  ⟨(State.reset.setFld (F.ENG_STATE_state 0) EngState.running), 0, ⟨0, 0, 0, 0, 0⟩,
    by unfold Ready Runs; decide +kernel, by decide +kernel, by decide +kernel, by unfold AccLegal; decide +kernel, by decide +kernel, by decide +kernel⟩
theorem witness_AccumulatorMovesRoundAndClamp_3 :
    ∃ s : State, ∃ e : Fin 1024, ∃ f : KR, Ready s e.val ∧ AccLegal s e.val f.d.toNat false ∧ AccLegal s e.val f.a.toNat false :=
  ⟨(State.reset.setFld (F.ENG_STATE_state 0) EngState.running), 0, ⟨0, 0, 0, 0, 0⟩,
    by unfold Ready Runs; decide +kernel, by unfold AccLegal; decide +kernel, by unfold AccLegal; decide +kernel⟩
theorem witness_AccumulatorMovesRoundAndClamp_4 :
    ∃ s : State, ∃ e : Fin 1024, ∃ f : KR, ∃ m : Nat, ∃ r : List Int × State, Ready s e.val ∧ f.mod.toNat % 4 = 0 ∧ f.b.toNat ≤ 30 ∧ AccLegal s e.val f.a.toNat true ∧ f.d.toNat < s.gLimit e.val ∧ (f.mod.toNat / 4 % 8 = 0 ∨ 4 ≤ f.mod.toNat / 4 % 8) ∧ m = (if f.mod.toNat / 4 % 8 = 0 then stScale (s.st e.val) else f.mod.toNat / 4 % 8 - 4) ∧ r = s.moved e.val m f.b.toNat [s.getAcc e.val f.a.toNat, s.getAcc e.val (f.a.toNat + 1)] :=
  ⟨(State.reset.setFld (F.ENG_STATE_state 0) EngState.running), 0, ⟨0, 0, 0, 0, 0⟩, _, _,
    by unfold Ready Runs; decide +kernel, by decide +kernel, by decide +kernel, by unfold AccLegal; decide +kernel, by decide +kernel, by decide +kernel, rfl, rfl⟩
theorem witness_AccumulatorMovesRoundAndClamp_5 :
    ∃ s : State, ∃ e : Fin 1024, ∃ f : KR, ∃ m : Nat, ∃ r : List Int × State, Ready s e.val ∧ (f.mod.toNat % 4 = 1 ∨ f.mod.toNat % 4 = 2) ∧ f.b.toNat ≤ 30 ∧ AccLegal s e.val f.a.toNat false ∧ f.d.toNat < s.gLimit e.val ∧ (f.mod.toNat / 4 % 8 = 0 ∨ 4 ≤ f.mod.toNat / 4 % 8) ∧ m = (if f.mod.toNat / 4 % 8 = 0 then stScale (s.st e.val) else f.mod.toNat / 4 % 8 - 4) ∧ r = s.moved e.val m f.b.toNat [s.getAcc e.val f.a.toNat] :=
  ⟨(State.reset.setFld (F.ENG_STATE_state 0) EngState.running), 0, ⟨0, 0, 0, 1, 0⟩, _, _,
    by unfold Ready Runs; decide +kernel, by decide +kernel, by decide +kernel, by unfold AccLegal; decide +kernel, by decide +kernel, by decide +kernel, rfl, rfl⟩

theorem witness_ControlFlowTransfers_1 :
    ∃ s : State, ∃ e : Fin 1024, ∃ f : KC, Ready s e.val ∧ s.cond e.val f.cond = some true ∧ (s.isWide e.val = true ∨ f.target.toNat < 4096) :=
  ⟨(State.reset.setFld (F.ENG_STATE_state 0) EngState.running), 0, ⟨0, 0, 0, 0⟩,
    by unfold Ready Runs; decide +kernel, by decide +kernel, by decide +kernel⟩
theorem witness_ControlFlowTransfers_2 :
    ∃ s : State, ∃ e : Fin 1024, ∃ f : KC, Ready s e.val ∧ s.cond e.val f.cond = some true :=
  ⟨(State.reset.setFld (F.ENG_STATE_state 0) EngState.running), 0, ⟨0, 0, 0, 0⟩,
    by unfold Ready Runs; decide +kernel, by decide +kernel⟩
theorem witness_ControlFlowTransfers_3 :
    ∃ s : State, ∃ e : Fin 1024, ∃ f : KC, Ready s e.val ∧ s.cond e.val f.cond = some true ∧ f.a.toNat < s.gLimit e.val ∧ (s.getG e.val f.a.toNat).clean = true ∧ (s.isWide e.val = true ∨ (s.getG e.val f.a.toNat).w.getLsbD 12 = false) :=
  ⟨(State.reset.setFld (F.ENG_STATE_state 0) EngState.running), 0, ⟨0, 0, 0, 0⟩,
    by unfold Ready Runs; decide +kernel, by decide +kernel, by decide +kernel, by decide +kernel, by decide +kernel⟩
theorem witness_ControlFlowTransfers_4 :
    ∃ s : State, ∃ e : Fin 1024, ∃ f : KC, Ready s e.val ∧ s.cond e.val f.cond = some false ∧ (s.isWide e.val = true ∨ f.target.toNat < 4096) ∧ f.a.toNat < s.gLimit e.val :=
  ⟨(State.reset.setFld (F.ENG_STATE_state 0) EngState.running), 0, ⟨1, 0, 0, 0⟩,
    by unfold Ready Runs; decide +kernel, by decide +kernel, by decide +kernel, by decide +kernel⟩
theorem witness_ControlFlowTransfers_5 :
    ∃ s : State, ∃ e : Fin 1024, ∃ f : KC, Ready s e.val ∧ 12 ≤ f.cond.toNat ∧ f.a.toNat < s.gLimit e.val :=
  ⟨(State.reset.setFld (F.ENG_STATE_state 0) EngState.running), 0, ⟨12, 0, 0, 0⟩,
    by unfold Ready Runs; decide +kernel, by decide +kernel, by decide +kernel⟩
theorem witness_ControlFlowTransfers_6 :
    ∃ s : State, ∃ e : Fin 1024, ∃ f : KC, ∃ g : Engine, Ready s e.val ∧ f.cond = 0 ∧ (s.isWide e.val = true ∨ f.target.toNat < 4096) ∧ (s.engine e.val).pc.toNat + 1 ≤ f.target.toNat ∧ (s.engine e.val).lcAt 0 = 0 ∧ g = ((s.engine e.val).setLs 0 ((s.engine e.val).pc + 1)).setLe 0 f.target :=
  ⟨(State.reset.setFld (F.ENG_STATE_state 0) EngState.running), 0, ⟨0, 0, 1, 1⟩, _,
    by unfold Ready Runs; decide +kernel, by decide +kernel, by decide +kernel, by decide +kernel, by decide +kernel, rfl⟩
theorem witness_ControlFlowTransfers_7 :
    ∃ s : State, ∃ e : Fin 1024, ∃ f : KC, Ready s e.val ∧ (f.count = 0 ∨ f.cond ≠ 0 ∨ f.target.toNat < (s.engine e.val).pc.toNat + 1) :=
  ⟨(State.reset.setFld (F.ENG_STATE_state 0) EngState.running), 0, ⟨0, 0, 0, 0⟩,
    by unfold Ready Runs; decide +kernel, by decide +kernel⟩
theorem witness_LoopsAndBracketsCount_1 :
    ∃ s : State, ∃ e : Fin 1024, Runs s e.val :=
  ⟨(State.reset.setFld (F.ENG_STATE_state 0) EngState.running), 0,
    by unfold Runs; decide +kernel⟩
theorem witness_LoopsAndBracketsCount_2 :
    ∃ g : Engine, ∃ j : Nat, g.inner = some j ∧ g.leAt j ≠ g.pc ∧ g.pc.toNat < 8191 :=
  ⟨{ lc := [(0, 2)], le := [(0, 1)] }, 0,
    by decide +kernel, by decide +kernel, by decide +kernel⟩
theorem witness_LoopsAndBracketsCount_3 :
    ∃ g : Engine, ∃ j : Nat, g.inner = some j ∧ g.leAt j = g.pc ∧ g.lcAt j ≠ 1 :=
  ⟨{ lc := [(0, 2)] }, 0,
    by decide +kernel, by decide +kernel, by decide +kernel⟩
theorem witness_LoopsAndBracketsCount_4 :
    ∃ g : Engine, ∃ j : Nat, g.inner = some j ∧ g.leAt j = g.pc ∧ g.lcAt j = 1 :=
  ⟨{ lc := [(0, 1)] }, 0,
    by decide +kernel, by decide +kernel, by decide +kernel⟩
theorem witness_LoopsAndBracketsCount_5 :
    ∃ g : Engine, ∃ j : Nat, ∃ t : Nat, g.inner = some j ∧ (g.lsAt j).toNat ≤ t ∧ t ≤ (g.leAt j).toNat :=
  ⟨{ lc := [(0, 2)] }, 0, 0,
    by decide +kernel, by decide +kernel, by decide +kernel⟩
theorem witness_LoopsAndBracketsCount_6 :
    ∃ g : Engine, ∃ j : Nat, ∃ t : Nat, g.inner = some j ∧ (t < (g.lsAt j).toNat ∨ (g.leAt j).toNat < t) :=
  ⟨{ lc := [(0, 2)], ls := [(0, 1)] }, 0, 0,
    by decide +kernel, by decide +kernel⟩
theorem witness_LoopsAndBracketsCount_7 :
    ∃ g : Engine, g.inner = none :=
  ⟨{},
    by decide +kernel⟩
theorem witness_LoopsAndBracketsCount_8 :
    ∃ s : State, ∃ e : Fin 1024, ∃ f : KC, Runs s e.val ∧ s.cond e.val f.cond = some true ∧ (s.isWide e.val = true ∨ f.target.toNat < 4096) ∧ ((∀ j, (s.engine e.val).inner = some j → (s.engine e.val).leAt j ≠ (s.engine e.val).pc)) :=
  ⟨(State.reset.setFld (F.ENG_STATE_state 0) EngState.running), 0, ⟨0, 0, 0, 0⟩,
    by unfold Runs; decide +kernel, by decide +kernel, by decide +kernel, fun _ h => nomatch h⟩
theorem witness_LoopsAndBracketsCount_9 :
    ∃ s : State, ∃ e : Fin 1024, ∃ j : Nat, Runs s e.val ∧ (s.engine e.val).inner = some j ∧ (s.engine e.val).leAt j = (s.engine e.val).pc :=
  ⟨(let s := (State.reset.setFld (F.ENG_STATE_state 0) EngState.running); s.setEngine 0 { s.engine 0 with lc := [(0, 2)] }), 0, 0,
    by unfold Runs; decide +kernel, by decide +kernel, by decide +kernel⟩
theorem witness_LoopsAndBracketsCount_10 :
    ∃ s : State, ∃ e : Fin 1024, ∃ f : KC, Runs s e.val ∧ ((∀ j, j < 4 → (s.engine e.val).lcAt j ≠ 0)) ∧ (s.engine e.val).leAt 3 ≠ (s.engine e.val).pc ∧ f.cond = 0 ∧ f.count ≠ 0 ∧ (s.isWide e.val = true ∨ f.target.toNat < 4096) ∧ (s.engine e.val).pc.toNat + 1 ≤ f.target.toNat :=
  ⟨(let s := (State.reset.setFld (F.ENG_STATE_state 0) EngState.running); s.setEngine 0 { s.engine 0 with lc := [(0, 2), (1, 2), (2, 2), (3, 2)], le := [(3, 9)] }), 0, ⟨0, 0, 1, 1⟩,
    by unfold Runs; decide +kernel, by decide +kernel, by decide +kernel, by decide +kernel, by decide +kernel, by decide +kernel, by decide +kernel⟩
theorem witness_LoopsAndBracketsCount_11 :
    ∃ s : State, ∃ e : Fin 1024, ∃ k : Nat, s.oddOfPair e.val = false ∧ s.engState e.val = EngState.running ∧ (s.engine e.val).far = none ∧ (s.engine e.val).lateErrors = [] ∧ (s.engine e.val).lock = k + 1 ∧ (s.engine e.val).past = false ∧ (s.engine e.val).pc.toNat < (if s.isWide e.val then 8191 else 4096) ∧ (s.engine e.val).inner = none ∧ (s.engine e.val).breaks = [] ∧ (s.engine e.val).passBreak = false ∧ s.mon.stepping = none ∧ (s.engine e.val).hitReq = none ∧ (s.engine e.val).haltReq = false :=
  ⟨(let s := (let s := (let s := (let s := (let s := (let s := (let s := (let s := (let s := (State.reset.setFld (F.ENG_STATE_state 0) EngState.running); s.setEngine 0 { s.engine 0 with far := none }); s.setEngine 0 { s.engine 0 with lateErrors := [] }); s.setEngine 0 { s.engine 0 with lock := 0 + 1 }); s.setEngine 0 { s.engine 0 with past := false }); s.setEngine 0 { s.engine 0 with breaks := [] }); s.setEngine 0 { s.engine 0 with passBreak := false }); { s with mon := { s.mon with stepping := none } }); s.setEngine 0 { s.engine 0 with hitReq := none }); s.setEngine 0 { s.engine 0 with haltReq := false }), 0, 0,
    by decide +kernel, by decide +kernel, by decide +kernel, by decide +kernel, by decide +kernel, by decide +kernel, by decide +kernel, by decide +kernel, by decide +kernel, by decide +kernel, by decide +kernel, by decide +kernel, by decide +kernel⟩

end
end

