-- ==== Sys2Proof/Tests/WitnessLinks.lean ====
section
/-! SUPPORT. Witnesses: witness_<statement>_<k> shows a state and operands that meet the premises
of clause k of that statement, for converter links, network ports and DRAM. -/

open Sys2Proof Sys2Proof.Machine

section
set_option Elab.async false

theorem witness_ConverterLinksComeUp_1 :
    ∃ s : State, ∃ g : Fin 8, ∃ k : Fin 8, s.groupValid (Fin.val g) [Fin.val k] = true :=
  ⟨State.reset, 0, 0,
    by decide +kernel⟩
theorem witness_ConverterLinksComeUp_2 :
    ∃ s : State, ∃ g : Fin 8, ∃ k : Fin 8, s.groupValid (Fin.val g) [Fin.val k] = false :=
  ⟨(let s := (State.reset.withLink 0 0 0 0); { s with ctrl := { s.ctrl with shadow := Table.set resetWord s.ctrl.shadow (R.CVL_LK_CTRL 0 0) 0x80000000 } }), 0, 0,
    by decide +kernel⟩
theorem witness_ConverterLinksComeUp_3 :
    ∃ ratio : Nat, ∃ c : List LinkCfg, groupOk ratio c = true :=
  ⟨0, [],
    by decide +kernel⟩
theorem witness_ConverterLinksComeUp_4 :
    ∃ c : LinkCfg, ∃ ratio : Nat, c.ok ratio = true :=
  ⟨⟨0x21FE0, 0x100, 0, true⟩, 20,
    by decide +kernel⟩
theorem witness_ConverterLinksComeUp_5 :
    ∃ s : State, ∃ g : Fin 8, ∃ k : Fin 8, (s.liveCfg g.val k.val).en = true :=
  ⟨(State.reset.withLink 0 0 0x21FE0 0x100), 0, 0,
    by decide +kernel⟩
theorem witness_ConverterLinksComeUp_6 :
    ∃ s : State, ∃ g : Fin 8, ∃ k : Fin 8, (s.liveCfg g.val k.val).en = false :=
  ⟨State.reset, 0, 0,
    by decide +kernel⟩
theorem witness_ConverterLinksComeUp_7 :
    ∃ s : State, ∃ g : Fin 8, ∃ w : Word, s.bit (F.CVL_G_CTRL_pll_en g.val) = false ∧ w.getLsbD 31 = true ∧ (bitsOf w 0 8 < 8 ∨ 200 < bitsOf w 0 8) :=
  ⟨(State.reset.setBit (F.CVL_G_CTRL_pll_en 0) false), 0, 0x80000000,
    by decide +kernel, by decide +kernel, by decide +kernel⟩
theorem witness_ConverterLinksComeUp_8 :
    ∃ s : State, ∃ g : Fin 8, ∃ w : Word, s.bit (F.CVL_G_CTRL_pll_en g.val) = false ∧ w.getLsbD 31 = false :=
  ⟨(State.reset.setBit (F.CVL_G_CTRL_pll_en 0) false), 0, 0,
    by decide +kernel, by decide +kernel⟩
theorem witness_ConverterLinksComeUp_9 :
    ∃ s : State, ∃ g : Fin 8, ∃ w : Word, s.bit (F.CVL_G_CTRL_pll_en g.val) = false ∧ w.getLsbD 31 = true ∧ 8 ≤ bitsOf w 0 8 ∧ bitsOf w 0 8 ≤ 200 :=
  ⟨(State.reset.setBit (F.CVL_G_CTRL_pll_en 0) false), 0, 0x80000008,
    by decide +kernel, by decide +kernel, by decide +kernel, by decide +kernel⟩
theorem witness_ConverterLinksComeUp_10 :
    ∃ s : State, ∃ m : Master, ∃ g : Fin 8, ∃ w : Word, ∃ u : State, u = s.setReg (R.CVL_G_CUE g.val) (w &&& 0x200000F7#32) ∧ u.holds m (sysrefClaim g.val) = false :=
  ⟨State.reset, Master.husk, 0, 0, _,
    rfl, by decide +kernel⟩
theorem witness_ConverterLinksComeUp_11 :
    ∃ s : State, ∃ m : Master, ∃ g : Fin 8, ∃ w : Word, ∃ u : State, u = s.setReg (R.CVL_G_CUE g.val) (w &&& 0x200000F7#32) ∧ u.holds m (sysrefClaim g.val) = true :=
  ⟨(State.reset.setHolder (sysrefClaim 0) (some Master.husk)), Master.husk, 0, 0, _,
    rfl, by decide +kernel⟩
theorem witness_ConverterLinksComeUp_12 :
    ∃ s : State, ∃ g : Fin 8, ∃ w : Word, ∃ u : State, u = s.setReg (R.CVL_G_CUE g.val) (w &&& 0x200000F7#32) :=
  ⟨State.reset, 0, 0, _,
    rfl⟩
theorem witness_ConverterLinksComeUp_13 :
    ∃ s : State, ∃ g : Fin 8, (s.cvGroup g.val).instant = true :=
  ⟨(let s := State.reset; s.setCvGroup 0 { s.cvGroup 0 with instant := true }), 0,
    by decide +kernel⟩
theorem witness_ConverterLinksComeUp_14 :
    ∃ s : State, ∃ g : Fin 8, (s.cvGroup g.val).restart = some false :=
  ⟨(let s := State.reset; s.setCvGroup 0 { s.cvGroup 0 with restart := some false }), 0,
    by decide +kernel⟩
theorem witness_ConverterLinksComeUp_16 :
    ∃ s : State, ∃ g : Fin 8, ∃ m : Master, (s.cvGroup g.val).periodic = some m ∧ s.holds m (sysrefClaim g.val) = true ∧ (s.fld (F.CVL_G_SYSREF_pulses g.val) = 0 ∨ (s.cvGroup g.val).left ≠ 0) :=
  ⟨(((let s := State.reset; s.setCvGroup 0 { s.cvGroup 0 with periodic := some Master.husk }).setHolder (sysrefClaim 0) (some Master.husk)).setFld (F.CVL_G_SYSREF_pulses 0) 0), 0, Master.husk,
    by decide +kernel, by decide +kernel, by decide +kernel⟩
theorem witness_ConverterLinksComeUp_17 :
    ∃ s : State, ∃ g : Fin 8, ∃ m : Master, (s.cvGroup g.val).periodic = some m ∧ s.holds m (sysrefClaim g.val) = false :=
  ⟨(let s := State.reset; s.setCvGroup 0 { s.cvGroup 0 with periodic := some Master.husk }), 0, Master.husk,
    by decide +kernel, by decide +kernel⟩
theorem witness_ConverterLinksComeUp_18 :
    ∃ s : State, ∃ n : Fin 64, ∃ k : Nat, s.lanesRun = true ∧ s.bit (F.CVL_LANE_STATUS_fault n.val) = false ∧ k = s.fld (F.CVL_LANE_STATUS_link_rx n.val) ∧ k ≤ 3 ∧ s.lkState (n.val / 8) k = LkState.cgs :=
  ⟨(((State.reset.inMode Mode.service).setFld (F.CVL_LANE_STATUS_link_rx 0) 0).setLk 0 0 LkState.cgs), 0, 0,
    by decide +kernel, by decide +kernel, by decide +kernel, by decide +kernel, by decide +kernel⟩
theorem witness_ConverterLinksComeUp_19 :
    ∃ s : State, ∃ g : Fin 8, ∃ k : Fin 4, s.lkState g.val k.val = LkState.cgs ∧ (s.liveCfg g.val k.val).sub1 = true ∧ s.allCgs g.val k.val = true ∧ (s.cvGroup g.val).lmfc = true :=
  ⟨(let s := (((State.reset.withLink 0 0 0x21FE0 0x40000100).setLk 0 0 LkState.cgs).setBit (F.CVL_LANE_STATUS_cgs 0) true); s.setCvGroup 0 { s.cvGroup 0 with lmfc := true }), 0, 0,
    by decide +kernel, by decide +kernel, by decide +kernel, by decide +kernel⟩
theorem witness_ConverterLinksComeUp_20 :
    ∃ k : Nat, k < 8 :=
  ⟨0,
    by decide +kernel⟩
theorem witness_ConverterLinksComeUp_21 :
    ∃ s : State, ∃ g : Fin 8, ∃ k : Fin 4, ∃ a : Bool, s.lkState g.val k.val = LkState.ilas ∧ (s.cvLink g.val k.val).multiframes < 3 ∧ ((s.cvLink g.val k.val).multiframes ≠ 1 ∨ a = true) :=
  ⟨(State.reset.setLk 0 0 LkState.ilas), 0, 0, false,
    by decide +kernel, by decide +kernel, by decide +kernel⟩
theorem witness_ConverterLinksComeUp_22 :
    ∃ s : State, ∃ g : Fin 8, ∃ k : Fin 4, s.lkState g.val k.val = LkState.ilas ∧ (s.cvLink g.val k.val).multiframes = 3 :=
  ⟨(let s := (State.reset.setLk 0 0 LkState.ilas); s.setCvLink 0 0 { s.cvLink 0 0 with multiframes := 3 }), 0, 0,
    by decide +kernel, by decide +kernel⟩
theorem witness_ConverterLinksComeUp_23 :
    ∃ s : State, ∃ g : Fin 8, ∃ k : Fin 4, s.lkState g.val k.val = LkState.aligning :=
  ⟨(State.reset.setLk 0 0 LkState.aligning), 0, 0,
    by decide +kernel⟩
theorem witness_ConverterLinksComeUp_24 :
    ∃ s : State, ∃ g : Fin 8, ∃ k : Fin 4, s.lkState g.val k.val ≠ LkState.aligning :=
  ⟨State.reset, 0, 0,
    by decide +kernel⟩
theorem witness_ConverterLinksComeUp_25 :
    ∃ s : State, ∃ g : Fin 8, ∃ k : Fin 4, (s.liveCfg g.val (4 + k.val)).en = true ∧ (s.liveCfg g.val (4 + k.val)).raw = false :=
  ⟨(State.reset.withLink 0 4 0x21FE0 0x100), 0, 0,
    by decide +kernel, by decide +kernel⟩
theorem witness_ConverterLinksComeUp_26 :
    ∃ s : State, ∃ g : Fin 8, (s.cvGroup g.val).lmfc = true :=
  ⟨(let s := State.reset; s.setCvGroup 0 { s.cvGroup 0 with lmfc := true }), 0,
    by decide +kernel⟩
theorem witness_ConverterLinksComeUp_27 :
    ∃ s : State, ∃ g : Nat, ∃ k : Nat, k < 8 ∧ (s.liveCfg g k).en = true ∧ (s.liveCfg g k).raw = false ∧ s.lkState g k = LkState.ilas ∧ (s.cvLink g k).multiframes = 3 :=
  ⟨(let s := ((State.reset.withLink 0 0 0x21FE0 0x100).setLk 0 0 LkState.ilas); s.setCvLink 0 0 { s.cvLink 0 0 with multiframes := 3 }), 0, 0,
    by decide +kernel, by decide +kernel, by decide +kernel, by decide +kernel, by decide +kernel⟩
theorem witness_ConverterDataFlows_1 :
    ∃ s : State, ∃ g : Fin 8, ∃ k : Fin 4, ∃ f : FrameIn, s.lkState g.val k.val = LkState.data ∧ s.hasFault g.val k.val = false ∧ FrameIn.errors f = [] ∧ FrameIn.late f = 0 ∧ FrameIn.astray f = none :=
  ⟨(State.reset.setLk 0 0 LkState.data), 0, 0, { words := [] },
    by decide +kernel, by decide +kernel, by decide +kernel, by decide +kernel, by decide +kernel⟩
theorem witness_ConverterDataFlows_2 :
    ∃ s : State, ∃ g : Fin 8, ∃ k : Fin 4, (s.lkState g.val k.val ≠ LkState.data ∨ s.hasFault g.val k.val = true) :=
  ⟨State.reset, 0, 0,
    by decide +kernel⟩
theorem witness_ConverterDataFlows_3 :
    ∃ s : State, ∃ g : Nat, ∃ k : Nat, (s.cvLink g k).findex % (s.liveCfg g k).b = 0 ∧ 1 < (s.liveCfg g k).b :=
  ⟨(State.reset.withLink 0 0 0x21FE0 0x200), 0, 0,
    by decide +kernel, by decide +kernel⟩
theorem witness_ConverterDataFlows_4 :
    ∃ s : State, ∃ g : Nat, ∃ k : Nat, ∃ x : RxBlock, (s.cvLink g k).findex % (s.liveCfg g k).b ≠ 0 ∧ (s.cvLink g k).making = some x ∧ x.frames + 1 = (s.liveCfg g k).b :=
  ⟨(let s := (State.reset.withLink 0 0 0x21FE0 0x200); s.setCvLink 0 0 { s.cvLink 0 0 with findex := 1, making := some ⟨0, 0, 1, [], false, false, false⟩ }), 0, 0, ⟨0, 0, 1, [], false, false, false⟩,
    by decide +kernel, by decide +kernel, by decide +kernel⟩
theorem witness_ConverterDataFlows_5 :
    ∃ s : State, ∃ g : Fin 8, ∃ k : Fin 4, ∃ x : RxBlock, ∃ l : List RxBlock, (s.cvLink g.val k.val).complete = x :: l ∧ s.cvlFrozen = false :=
  ⟨(let s := State.reset; s.setCvLink 0 0 { s.cvLink 0 0 with complete := [⟨0, 0, 1, [], false, false, false⟩] }), 0, 0, ⟨0, 0, 1, [], false, false, false⟩, [],
    by decide +kernel, by decide +kernel⟩
theorem witness_ConverterDataFlows_6 :
    ∃ s : State, ∃ g : Fin 8, ∃ k : Fin 4, ∃ x : RxBlock, ∃ l : List RxBlock, (s.cvLink g.val k.val).complete = x :: l ∧ s.cvlFrozen = false :=
  ⟨(let s := State.reset; s.setCvLink 0 0 { s.cvLink 0 0 with complete := [⟨0, 0, 1, [], false, false, false⟩] }), 0, 0, ⟨0, 0, 1, [], false, false, false⟩, [],
    by decide +kernel, by decide +kernel⟩
theorem witness_ConverterDataFlows_7 :
    ∃ c : LinkCfg, c.packed = true :=
  ⟨⟨0x21FE0, 0x01000100, 0, true⟩,
    by decide +kernel⟩
theorem witness_ConverterDataFlows_8 :
    ∃ s : State, ∃ g : Fin 8, ∃ p : List Byte, s.txHeld g.val + List.length p ≤ 65536 ∧ (s.cvGroup g.val).waiting = [] :=
  ⟨(let s := State.reset; s.setCvGroup 0 { s.cvGroup 0 with waiting := [] }), 0, [],
    by decide +kernel, by decide +kernel⟩
theorem witness_ConverterDataFlows_9 :
    ∃ s : State, ∃ g : Fin 8, ∃ p : List Byte, 65536 < s.txHeld g.val + List.length p :=
  ⟨(let s := State.reset; s.setCvLink 0 4 { s.cvLink 0 4 with queue := [⟨0, 1, [], false, 65536⟩] }), 0, [0],
    by decide +kernel⟩
theorem witness_ConverterDataFlows_10 :
    ∃ s : State, ∃ g : Nat, ∃ p : List Byte, ∃ b : Bool, ∃ k : Nat, ∃ t : Word, ∃ n : Nat, s.blockFor g false p = some (k, t, n) ∧ s.classOf t ≠ .outside ∧ b = false :=
  ⟨(State.reset.withLink 0 4 0x21FE0 0x100), 0, [0, 0, 0, 0, 0, 0, 0, 0, 0, 0, 0, 0, 0, 1, 0, 0], _, 4, 0, 0,
    by decide +kernel, by decide +kernel, rfl⟩
theorem witness_ConverterDataFlows_11 :
    ∃ s : State, ∃ g : Nat, ∃ p : List Byte, ∃ k : Nat, ∃ t : Word, ∃ n : Nat, s.blockFor g false p = some (k, t, n) ∧ s.classOf t = .outside :=
  ⟨(State.reset.withLink 0 4 0x21FE0 0x100), 0, [0, 0, 0, 0, 0, 0x1F, 0, 0, 0, 0, 0, 0, 0, 1, 0, 0], 4, 0x7C000000, 0,
    by decide +kernel, by decide +kernel⟩
theorem witness_ConverterDataFlows_12 :
    ∃ s : State, ∃ g : Fin 8, ∃ k : Fin 4, ∃ i : BitVec 16, ∃ x : TxBlock, ∃ l : List TxBlock, s.lkState g.val (4 + k.val) = LkState.data ∧ (s.cvLink g.val (4 + k.val)).queue = x :: l ∧ x.due ≤ s.now ∧ s.cvlFrozen = false ∧ x.bad = false ∧ (s.cvGroup g.val).waiting = [] ∧ BitVec.toNat i = 0 :=
  ⟨(let s := (State.reset.setLk 0 4 LkState.data); s.setCvLink 0 4 { s.cvLink 0 4 with queue := [⟨0, 1, [], false, 16⟩] }), 0, 0, 0, ⟨0, 1, [], false, 16⟩, [],
    by decide +kernel, by decide +kernel, by decide +kernel, by decide +kernel, by decide +kernel, by decide +kernel, by decide +kernel⟩
theorem witness_ConverterDataFlows_13 :
    ∃ s : State, ∃ n : Fin 64, s.lanesRun = true ∧ s.bit (F.CVL_LANE_STATUS_fault n.val) = false ∧ s.fld (F.CVL_LANE_STATUS_link_rx n.val) = 15 :=
  ⟨(((State.reset.setBit (F.CVL_LANE_STATUS_fault 0) false).setFld (F.CVL_LANE_STATUS_link_rx 0) 15).inMode Mode.service), 0,
    by decide +kernel, by decide +kernel, by decide +kernel⟩
theorem witness_ConverterDataFlows_14 :
    ∃ s : State, ∃ n : Fin 64, s.bit (F.CVL_LANE_STATUS_fault n.val) = true :=
  ⟨(State.reset.setBit (F.CVL_LANE_STATUS_fault 0) true), 0,
    by decide +kernel⟩
theorem witness_ConverterDataFlows_15 :
    ∃ s : State, ∃ n : Fin 64, ∃ w : Word, s.bit (F.CVL_EYE_CTRL_busy n.val) = false ∧ (s.fld (F.CVL_LANE_STATUS_link_rx n.val) ≠ 15 ∨ s.bit (F.CVL_LANE_CTRL_test_rx n.val) = true) ∧ 20 ≤ bitsOf w 22 6 ∧ bitsOf w 22 6 ≤ 40 ∧ bitsOf w 8 7 ≠ 64 :=
  ⟨(State.reset.setFld (F.CVL_LANE_STATUS_link_rx 0) 0), 0, 0x05000000,
    by decide +kernel, by decide +kernel, by decide +kernel, by decide +kernel, by decide +kernel⟩
theorem witness_ConverterDataFlows_16 :
    ∃ s : State, ∃ n : Fin 64, s.bit (F.CVL_EYE_CTRL_busy n.val) = false ∧ s.fld (F.CVL_LANE_STATUS_link_rx n.val) = 15 ∧ s.bit (F.CVL_LANE_CTRL_test_rx n.val) = false :=
  ⟨(((State.reset.setBit (F.CVL_EYE_CTRL_busy 0) false).setFld (F.CVL_LANE_STATUS_link_rx 0) 15).setBit (F.CVL_LANE_CTRL_test_rx 0) false), 0,
    by decide +kernel, by decide +kernel, by decide +kernel⟩
theorem witness_ConverterDataFlows_17 :
    ∃ s : State, ∃ n : Fin 64, s.bit (F.CVL_EYE_CTRL_busy n.val) = true :=
  ⟨(State.reset.setBit (F.CVL_EYE_CTRL_busy 0) true), 0,
    by decide +kernel⟩
theorem witness_ConverterDataFlows_18 :
    ∃ s : State, ∃ n : Fin 64, s.laneUsed n.val = false :=
  ⟨State.reset, 0,
    by decide +kernel⟩
theorem witness_ConverterDataFlows_19 :
    ∃ s : State, ∃ n : Fin 64, s.laneUsed n.val = true ∧ s.bit (F.CVL_LANE_TEST_inj_live n.val) = false :=
  ⟨((State.reset.setBit (F.CVL_LANE_TEST_inj_live 0) false).setFld (F.CVL_LANE_STATUS_link_rx 0) 0), 0,
    by decide +kernel, by decide +kernel⟩
theorem witness_ConverterDataFlows_20 :
    ∃ s : State, ∃ n : Fin 64, 2 ≤ s.fld (F.CVL_LANE_TEST_burst_len n.val) ∧ s.laneUsed n.val = false :=
  ⟨(State.reset.setFld (F.CVL_LANE_TEST_burst_len 0) 2), 0,
    by decide +kernel, by decide +kernel⟩
theorem witness_ConverterDataFlows_21 :
    ∃ s : State, ∃ n : Fin 64, ∃ w : Word, bitsOf w 12 3 ≤ 4 ∧ bitsOf w 4 3 ≤ 4 ∧ s.laneUsed n.val = true ∧ (w.getLsbD 7 = true ∨ w.getLsbD 15 = true) :=
  ⟨(State.reset.setFld (F.CVL_LANE_STATUS_link_rx 0) 0), 0, 0x80,
    by decide +kernel, by decide +kernel, by decide +kernel, by decide +kernel⟩
theorem witness_ConverterDataFlows_22 :
    ∃ s : State, ∃ n : Fin 64, ∃ w : Word, bitsOf w 12 3 ≤ 4 ∧ bitsOf w 4 3 ≤ 4 ∧ s.laneUsed n.val = false ∧ s.bit (F.CVL_LANE_TEST_chk_en n.val) = false :=
  ⟨(State.reset.setBit (F.CVL_LANE_TEST_chk_en 0) false), 0, 0,
    by decide +kernel, by decide +kernel, by decide +kernel, by decide +kernel⟩
theorem witness_ConverterDataFlows_23 :
    ∃ s : State, ∃ n : Fin 64, ∃ e : BitVec 30, s.bit (F.CVL_LANE_TEST_chk_en n.val) = true ∧ (s.bit (F.CVL_LANE_PRBS_ERR_locked n.val) = false ∨ e = 0) :=
  ⟨((State.reset.setBit (F.CVL_LANE_TEST_chk_en 0) true).setBit (F.CVL_LANE_PRBS_ERR_locked 0) false), 0, 0,
    by decide +kernel, by decide +kernel⟩
theorem witness_ConverterDataFlows_24 :
    ∃ s : State, ∃ n : Fin 64, ∃ e : BitVec 30, s.bit (F.CVL_LANE_TEST_chk_en n.val) = true ∧ s.bit (F.CVL_LANE_PRBS_ERR_locked n.val) = true ∧ e ≠ 0 :=
  ⟨((State.reset.setBit (F.CVL_LANE_TEST_chk_en 0) true).setBit (F.CVL_LANE_PRBS_ERR_locked 0) true), 0, 1,
    by decide +kernel, by decide +kernel, by decide +kernel⟩

theorem witness_NetworkPortsCarryFrames_1 :
    ∃ s : State, ∃ b : Fin 8, ∃ w : Word, s.bit (F.NTL_PB_CTRL_en b.val) = true ∧ (bitsOf w 29 2 ≠ s.fld (F.NTL_PB_CTRL_mode b.val) ∨ bitsOf w 28 1 ≠ s.fld (F.NTL_PB_CTRL_fec b.val)) :=
  ⟨(State.reset.setBit (F.NTL_PB_CTRL_en 0) true), 0, 0x20000000,
    by decide +kernel, by decide +kernel⟩
theorem witness_NetworkPortsCarryFrames_2 :
    ∃ s : State, ∃ b : Fin 8, ∃ w : Word, s.bit (F.NTL_PB_CTRL_en b.val) = false ∧ 1518 ≤ bitsOf w 0 14 ∧ bitsOf w 0 14 ≤ 9216 ∧ (bitsOf w 28 1 = 0 ∨ bitsOf w 29 2 ≠ 3) ∧ w.getLsbD 31 = true :=
  ⟨(State.reset.setBit (F.NTL_PB_CTRL_en 0) false), 0, 0x800005EE,
    by decide +kernel, by decide +kernel, by decide +kernel, by decide +kernel, by decide +kernel⟩
theorem witness_NetworkPortsCarryFrames_3 :
    ∃ s : State, ∃ b : Fin 8, ∃ p : Fin 4, s.blockRuns b.val = true ∧ s.hasPort b.val p.val = true ∧ (s.portBlock b.val).lost = 0 ∧ s.bit (F.NTL_PB_CTRL_fec b.val) = false :=
  ⟨(State.reset.withPorts 0), 0, 0,
    by decide +kernel, by decide +kernel, by decide +kernel, by decide +kernel⟩
theorem witness_NetworkPortsCarryFrames_4 :
    ∃ s : State, ∃ n : Fin 32, s.blockRuns (n.val / 4) = true ∧ (s.portBlock (n.val / 4)).lost.getLsbD (n.val % 4) = false ∧ s.fld (F.NTL_PB_CTRL_mode (n.val / 4)) = 2 :=
  ⟨(State.reset.withPorts 0), 0,
    by decide +kernel, by decide +kernel, by decide +kernel⟩
theorem witness_NetworkPortsCarryFrames_7 :
    ∃ s : State, ∃ b : Fin 8, ∃ p : Fin 4, ∃ d : BitVec 48, ∃ o : Bool, ∃ t : BitVec 96 × Bool, s.portUp b.val p.val = true ∧ s.ntlFrozen = false ∧ t = s.rxStamp b.val (BitVec.toNat d) o :=
  ⟨(State.reset.withPorts 0), 0, 0, 0, false, _,
    by decide +kernel, by decide +kernel, rfl⟩
theorem witness_NetworkPortsCarryFrames_8 :
    ∃ s : State, ∃ b : Fin 8, ∃ p : Fin 4, s.portUp b.val p.val = false :=
  ⟨State.reset, 0, 0,
    by decide +kernel⟩
theorem witness_NetworkPortsCarryFrames_9 :
    ∃ s : State, ∃ b : Nat, ∃ p : Nat, ∃ f : List Byte, ∃ h : QHead, ∃ x : PortBlock, x = s.portBlock b ∧ 64 ≤ f.length ∧ f.length ≤ s.fld (F.NTL_PB_CTRL_max_len b) ∧ s.rxHeld b + f.length ≤ 262144 ∧ ptpOf f = none ∧ vlanTag f = none ∧ h = QHead.mk (Unit.ntl b) x.nextTag (BitVec.ofNat 20 (s.fld (F.NTL_PB_RXQ_base b p) + s.fld (F.NTL_PB_RXQ_def_pcp b p))) false 0 :=
  ⟨(State.reset.setFld (F.NTL_PB_CTRL_max_len 0) 1518), 0, 0, frame64, _, _,
    rfl, by decide +kernel, by decide +kernel, by decide +kernel, by decide +kernel, by decide +kernel, rfl⟩
theorem witness_NetworkPortsCarryFrames_10 :
    ∃ s : State, ∃ b : Nat, ∃ f : List Byte, ∃ g : Bool, (List.length f < 64 ∨ s.fld (F.NTL_PB_CTRL_max_len b) < f.length ∨ g = false) ∧ s.bit (F.NTL_PB_CTRL_keep_bad b) = false :=
  ⟨(State.reset.setBit (F.NTL_PB_CTRL_keep_bad 0) false), 0, [], false,
    by decide +kernel, by decide +kernel⟩
theorem witness_NetworkPortsCarryFrames_11 :
    ∃ s : State, ∃ b : Fin 8, ∃ tag : BitVec 8, ∃ r : BitVec 8 × Nat × Nat, ∃ a : Nat × BitVec 8 × List Byte, ((s.portBlock b.val).rx.find? (fun y => y.1 == tag) = some r) ∧ (s.qe.answers.find? (fun y => y.1 == (Unit.ntl b.val).key && y.2.1 == tag) = some a) ∧ ofBytes (a.2.2.take 2) = 0 :=
  ⟨(let s := (let s := State.reset; s.setPortBlock 0 { s.portBlock 0 with rx := [(0, 0, 64)] }); { s with qe := { s.qe with answers := [((Unit.ntl 0).key, 0, [0, 0])] } }), 0, 0, (0, 0, 64), ((Unit.ntl 0).key, 0, [0, 0]),
    by decide +kernel, by decide +kernel, by decide +kernel⟩
theorem witness_NetworkPortsCarryFrames_12 :
    ∃ s : State, ∃ b : Fin 8, ∃ p : Fin 4, s.ringPeer b.val p.val = none :=
  ⟨State.reset, 0, 0,
    by decide +kernel⟩
theorem witness_NetworkPortsCarryFrames_13 :
    ∃ s : State, ∃ b : Fin 8, ∃ p : Fin 4, ∃ f : List Byte, ∃ q : Nat, s.ringPeer b.val p.val = some q ∧ s.portUp b.val p.val = true ∧ be16 f 12 = s.fld F.NTL_RING_tpid ∧ (byteAt f 15 = s.fld F.NTL_RING_ring_id ∨ byteAt f 14 ≤ 1) :=
  ⟨(((((State.reset.withPorts 0).setBit F.NTL_RING_en true).setFld F.NTL_RING_port_b 1).setFld F.NTL_RING_tpid 0x1111).setFld F.NTL_RING_ring_id 0x11), 0, 0, (List.replicate 14 0x11#8 ++ List.replicate 50 0#8), 1,
    by decide +kernel, by decide +kernel, by decide +kernel, by decide +kernel⟩
theorem witness_NetworkPortsCarryFrames_14 :
    ∃ s : State, ∃ b : Fin 8, ∃ src : Master, ∃ p : List Byte, s.ntlFrozen = false ∧ (s.portBlock b.val).waiting = [] ∧ s.txFrame b.val src = none ∧ (s.portBlock b.val).asm.length < 16 ∧ List.length p ≠ 16 :=
  ⟨(let s := State.reset; s.setPortBlock 0 { s.portBlock 0 with waiting := [] }), 0, Master.husk, [],
    by decide +kernel, by decide +kernel, by decide +kernel, by decide +kernel, by decide +kernel⟩
theorem witness_NetworkPortsCarryFrames_15 :
    ∃ s : State, ∃ b : Fin 8, ∃ src : Master, ∃ p : List Byte, ∃ fl : Nat, ∃ len : Nat, s.ntlFrozen = false ∧ (s.portBlock b.val).waiting = [] ∧ s.txFrame b.val src = none ∧ (s.portBlock b.val).asm.length < 16 ∧ p.length = 16 ∧ fl = ofBytes ((p.drop 8).take 4) ∧ len = ofBytes ((p.drop 12).take 2) + 1 ∧ fl / 2 ^ 10 % 64 = 0 ∧ fl / 4 % 64 = 0 ∧ fl % 4 ≠ 3 ∧ s.portUp b.val (fl / 256 % 4) = true ∧ 60 ≤ len ∧ len + 4 ≤ s.fld (F.NTL_PB_CTRL_max_len b.val) :=
  ⟨((State.reset.withPorts 0).setFld (F.NTL_PB_CTRL_max_len 0) 1518), 0, Master.husk, [0, 0, 0, 0, 0, 0, 0, 0, 0, 0, 0, 0, 63, 0, 0, 0], _, _,
    by decide +kernel, by decide +kernel, by decide +kernel, by decide +kernel, by decide +kernel, rfl, rfl, by decide +kernel, by decide +kernel, by decide +kernel, by decide +kernel, by decide +kernel, by decide +kernel⟩
theorem witness_NetworkPortsCarryFrames_16 :
    ∃ a : TxFrame, ∃ p : List Byte, p.length = packetBytes a.length a.bytes.length ∧ a.discard = false ∧ a.abort = none ∧ a.length ≤ a.bytes.length + p.length :=
  ⟨⟨.husk, 0, 0, 0, 64, [], none, false, 0⟩, frame64,
    by decide +kernel, by decide +kernel, by decide +kernel, by decide +kernel⟩
theorem witness_NetworkPortsCarryFrames_17 :
    ∃ s : State, ∃ b : Fin 8, ∃ src : Master, ∃ a : TxFrame, s.txFrame b.val src = some a ∧ a.last + 64000 ≤ s.now ∧ s.ntlFrozen = false ∧ a.discard = false :=
  ⟨((let s := State.reset; s.setPortBlock 0 { s.portBlock 0 with asm := [⟨.husk, 0, 0, 0, 64, [], none, false, 0⟩] }).atTime 64000), 0, Master.husk, ⟨.husk, 0, 0, 0, 64, [], none, false, 0⟩,
    by decide +kernel, by decide +kernel, by decide +kernel, by decide +kernel⟩
theorem witness_NetworkPortsCarryFrames_18 :
    ∃ s : State, ∃ b : Fin 8, ∃ p : Fin 4, ∃ f : List Byte, ∃ g : Bool, ∃ l : List (List Byte × Bool), s.portUp b.val p.val = true ∧ (s.netPort b.val p.val).ring = (f, g) :: l :=
  ⟨((let s := State.reset; s.setNetPort 0 0 { s.netPort 0 0 with ring := (([] : List Byte), false) :: ([] : List (List Byte × Bool)) }).withPorts 0), 0, 0, [], false, [],
    by decide +kernel, by decide +kernel⟩
theorem witness_NetworkPortsCarryFrames_19 :
    ∃ s : State, ∃ b : Fin 8, ∃ p : Fin 4, ∃ a : TxFrame, ∃ l : List TxFrame, ∃ u : List Byte × State, s.portUp b.val p.val = true ∧ (s.netPort b.val p.val).ring = [] ∧ (s.netPort b.val p.val).fifo = a :: l ∧ a.abort = none ∧ u = (s.setNetPort b.val p.val { s.netPort b.val p.val with fifo := l }).stampFrame b.val p.val a :=
  ⟨(let s := (State.reset.withPorts 0); s.setNetPort 0 0 { s.netPort 0 0 with fifo := [⟨.husk, 0, 0, 0, 64, [], none, false, 0⟩] }), 0, 0, ⟨.husk, 0, 0, 0, 64, [], none, false, 0⟩, [], _,
    by decide +kernel, by decide +kernel, by decide +kernel, by decide +kernel, rfl⟩
theorem witness_NetworkPortsCarryFrames_21 :
    ∃ s : State, ∃ b : Fin 8, ∃ r : StampRec, ∃ l : List StampRec, (s.portBlock b.val).stamps = r :: l :=
  ⟨(let s := State.reset; s.setPortBlock 0 { s.portBlock 0 with stamps := [⟨0, 0, false, 0, 0⟩] }), 0, ⟨0, 0, false, 0, 0⟩, [],
    by decide +kernel⟩
theorem witness_NetworkPortsCarryFrames_22 :
    ∃ s : State, ∃ b : Nat, (s.portBlock b).stamps.length < 64 ∧ s.bit (F.NTL_PB_TS_ts_mbx_en b) = false :=
  ⟨(State.reset.setBit (F.NTL_PB_TS_ts_mbx_en 0) false), 0,
    by decide +kernel, by decide +kernel⟩

theorem witness_DramPiecesRangesAndSweeps_1 :
    ∃ s : State, ∃ a : BitVec 48, ∃ n : Fin 65, ∃ l : LineLoc, s.pieceOk a.toNat n.val = true ∧ l = (s.linePlace a.toNat).1 ∧ s.serves l = true ∧ s.lineMark (a.toNat / 64) = false ∧ s.lineTagged a.toNat = false ∧ s.tagRegionOf a.toNat = none ∧ s.keyGone a.toNat = false :=
  ⟨(State.reset.withDram), 0, 1, _,
    by decide +kernel, rfl, by decide +kernel, by decide +kernel, by decide +kernel, by decide +kernel, by decide +kernel⟩
theorem witness_DramPiecesRangesAndSweeps_2 :
    ∃ s : State, ∃ a : BitVec 48, ∃ n : Fin 65, ∃ l : LineLoc, s.pieceOk a.toNat n.val = true ∧ l = (s.linePlace a.toNat).1 ∧ s.serves l = true ∧ s.lineMark (a.toNat / 64) = true :=
  ⟨((State.reset.withDram).setLineMark 0 true), 0, 1, _,
    by decide +kernel, rfl, by decide +kernel, by decide +kernel⟩
theorem witness_DramPiecesRangesAndSweeps_3 :
    ∃ s : State, ∃ a : BitVec 48, ∃ v : List Byte, ∃ l : LineLoc × Option LineLoc, List.length v = 64 ∧ s.pieceOk a.toNat 64 = true ∧ s.inHuskRange a.toNat = false ∧ l = s.linePlace a.toNat ∧ l.2 = none ∧ s.serves l.1 = true :=
  ⟨(State.reset.withDram), 0, (List.replicate 64 0), _,
    by decide +kernel, by decide +kernel, by decide +kernel, rfl, by decide +kernel, by decide +kernel⟩
theorem witness_DramPiecesRangesAndSweeps_4 :
    ∃ s : State, ∃ m : Master, ∃ a : BitVec 48, ∃ v : List Byte, s.pieceOk a.toNat (List.length v) = true ∧ s.inHuskRange a.toNat = true ∧ m.same .husk = false :=
  ⟨((State.reset.withDram).withRange 31), .host, 0, [0],
    by decide +kernel, by decide +kernel, by decide +kernel⟩
theorem witness_DramPiecesRangesAndSweeps_6 :
    ∃ row : Nat, ∃ l : List (Nat × Nat), ∃ c : Nat, rowCount row l = some c :=
  ⟨1, [(1, 0)], 0,
    by decide +kernel⟩
theorem witness_DramPiecesRangesAndSweeps_7 :
    ∃ row : Nat, ∃ l : List (Nat × Nat), rowCount row l = none ∧ List.length l < 16 :=
  ⟨0, [],
    by decide +kernel, by decide +kernel⟩
theorem witness_DramPiecesRangesAndSweeps_9 :
    ∃ s : State, ∃ b : BankRef, ∃ r : Nat, ∃ l : List Nat, s.bankQueue (BankRef.key b) = r :: l :=
  ⟨(State.reset.setBankQueue 0 [5]), ⟨0, 0, 0, 0, 0⟩, 5, [],
    by decide +kernel⟩
theorem witness_DramPiecesRangesAndSweeps_12 :
    ∃ s : State, ∃ mc : Fin 8, ∃ b : Fin 2, (s.subch (2 * Fin.val mc + Fin.val b)).up = true ∧ (s.subch (2 * mc.val + b.val)).down = false :=
  ⟨(let s := (let s := State.reset; s.setSubch (2 * 0 + 0) { s.subch (2 * 0 + 0) with up := true }); s.setSubch (2 * 0 + 0) { s.subch (2 * 0 + 0) with down := false }), 0, 0,
    by decide +kernel, by decide +kernel⟩
theorem witness_DramPiecesRangesAndSweeps_13 :
    ∃ s : State, ∃ mc : Fin 8, s.bit (F.MC_STATUS_trained mc.val) = true :=
  ⟨(State.reset.setBit (F.MC_STATUS_trained 0) true), 0,
    by decide +kernel⟩
theorem witness_DramPiecesRangesAndSweeps_14 :
    ∃ s : State, ∃ mc : Fin 8, ∃ b : Fin 2, ∃ rank : Fin 8, ∃ k : Nat × Nat, ∃ i : Nat, i = 2 * Fin.val mc + Fin.val b ∧ ((s.subch i).training.find? (fun t => t.1 == Fin.val rank) = some k) ∧ k.2 + 1 < 40 :=
  ⟨(let s := State.reset; s.setSubch 0 { s.subch 0 with training := [(0, 0)] }), 0, 0, 0, (0, 0), 0,
    by decide +kernel, by decide +kernel, by decide +kernel⟩
theorem witness_DramPiecesRangesAndSweeps_15 :
    ∃ s : State, ∃ mc : Fin 8, ∃ b : Fin 2, ∃ rank : Fin 8, ∃ k : Nat × Nat, ∃ i : Nat, ∃ r : Option Bool, i = 2 * Fin.val mc + Fin.val b ∧ ((s.subch i).training.find? (fun t => t.1 == Fin.val rank) = some k) ∧ (r = some true ∨ (r = none ∧ 40 ≤ k.2 + 1)) :=
  ⟨(let s := State.reset; s.setSubch 0 { s.subch 0 with training := [(0, 0)] }), 0, 0, 0, (0, 0), 0, (some true),
    by decide +kernel, by decide +kernel, by decide +kernel⟩
theorem witness_DramPiecesRangesAndSweeps_18 :
    ∃ s : State, ∃ mc : Fin 8, ∃ b : Fin 2, ∃ i : Nat, i = 2 * Fin.val mc + Fin.val b ∧ (s.subch i).caTraining = true ∧ (s.subch i).caFails.length < 3 :=
  ⟨(let s := State.reset; s.setSubch 0 { s.subch 0 with caTraining := true }), 0, 0, 0,
    by decide +kernel, by decide +kernel, by decide +kernel⟩
theorem witness_DramPiecesRangesAndSweeps_19 :
    ∃ s : State, ∃ mc : Fin 8, ∃ b : Fin 2, ∃ i : Nat, i = 2 * Fin.val mc + Fin.val b ∧ (s.subch i).caTraining = true ∧ 3 ≤ (s.subch i).caFails.length :=
  ⟨(let s := State.reset; s.setSubch 0 { s.subch 0 with caTraining := true, caFails := [0, 0, 0] }), 0, 0, 0,
    by decide +kernel, by decide +kernel, by decide +kernel⟩
theorem witness_DramPiecesRangesAndSweeps_20 :
    ∃ m : Master, ∃ w : Word, w.getLsbD 31 = true ∧ m.same .husk = false :=
  ⟨.host, 0x80000000,
    by decide +kernel, by decide +kernel⟩
theorem witness_DramPiecesRangesAndSweeps_21 :
    ∃ s : State, ∃ m : Master, ∃ mc : Fin 8, ∃ w : Word, ∃ u : State, u = s.spareFields m mc.val w ∧ w.getLsbD 31 = true ∧ m.same .husk = true ∧ u.bit (F.MC_SPARE_used mc.val) = false ∧ u.bit F.MCG_MAP_spare_en = true ∧ u.bit (F.MC_SPARE_busy mc.val) = false :=
  ⟨(State.reset.setBit F.MCG_MAP_spare_en true), Master.husk, 0, 0x80000000, _,
    rfl, by decide +kernel, by decide +kernel, by decide +kernel, by decide +kernel, by decide +kernel⟩
theorem witness_DramPiecesRangesAndSweeps_22 :
    ∃ s : State, ∃ mc : Fin 8, s.bit (F.MC_SPARE_busy mc.val) = true ∧ s.fld (F.MC_SPARE_progress mc.val) ≠ 100 :=
  ⟨(State.reset.setBit (F.MC_SPARE_busy 0) true), 0,
    by decide +kernel, by decide +kernel⟩
theorem witness_DramPiecesRangesAndSweeps_23 :
    ∃ s : State, ∃ mc : Fin 8, ∃ b : Fin 2, (s.subch (2 * mc.val + b.val)).resync = true :=
  ⟨(let s := State.reset; s.setSubch (2 * 0 + 0) { s.subch (2 * 0 + 0) with resync := true }), 0, 0,
    by decide +kernel⟩
theorem witness_DramPiecesRangesAndSweeps_24 :
    ∃ s : State, s.mode = Mode.dormant :=
  ⟨(State.reset.setFld F.DEV_MODE_mode Mode.dormant),
    by decide +kernel⟩
theorem witness_DramPiecesRangesAndSweeps_25 :
    ∃ s : State, ∃ m : Master, ∃ r : Fin 32, ∃ w : Word, bitsOf w 26 2 ≠ 2 ∧ bitsOf w 24 2 ≠ 2 ∧ m.same .husk = true ∧ bitsOf w 28 2 ≠ 3 ∧ w.getLsbD 31 = true ∧ s.rangeOn r.val = false ∧ s.rangeValid r.val = false :=
  ⟨State.reset, Master.husk, 0, 0x80000000,
    by decide +kernel, by decide +kernel, by decide +kernel, by decide +kernel, by decide +kernel, by decide +kernel, by decide +kernel⟩
theorem witness_DramPiecesRangesAndSweeps_26 :
    ∃ s : State, ∃ m : Master, ∃ r : Fin 32, ∃ w : Word, bitsOf w 26 2 ≠ 2 ∧ bitsOf w 24 2 ≠ 2 ∧ m.same .husk = true ∧ bitsOf w 28 2 ≠ 3 ∧ w.getLsbD 31 = true ∧ s.rangeOn r.val = false ∧ s.rangeValid r.val = true :=
  ⟨((State.reset.withDram).setFld (F.MP_RANGE_LIMIT_addr_2m 0) 1), Master.husk, 0, 0x80000000,
    by decide +kernel, by decide +kernel, by decide +kernel, by decide +kernel, by decide +kernel, by decide +kernel, by decide +kernel⟩
theorem witness_DramPiecesRangesAndSweeps_27 :
    ∃ s : State, ∃ r : Nat, ∃ q : Nat, s.rangeValid r = true ∧ q < 32 ∧ q ≠ r ∧ s.rangeOn q = true :=
  ⟨(((State.reset.withDram).withRange 0).setBit (F.MP_RANGE_CFG_en 1) true), 0, 1,
    by decide +kernel, by decide +kernel, by decide +kernel, by decide +kernel⟩
theorem witness_DramPiecesRangesAndSweeps_28 :
    ∃ h : BitVec 2, ∃ k : BitVec 2, h ≠ 2 ∧ k ≠ 2 :=
  ⟨0, 0,
    by decide +kernel, by decide +kernel⟩
theorem witness_DramPiecesRangesAndSweeps_29 :
    ∃ s : State, ∃ m : Master, ∃ w : Word, ∃ u : State, u = s.setFld F.MP_SWEEP_rate_mbs (max 500 (min 20000 (bitsOf w 0 16))) ∧ m.same .husk = false ∧ w.getLsbD 31 = true :=
  ⟨State.reset, .host, 0x80000000, _,
    rfl, by decide +kernel, by decide +kernel⟩
theorem witness_DramPiecesRangesAndSweeps_30 :
    ∃ s : State, ∃ m : Master, ∃ w : Word, ∃ u : State, ∃ r : Nat, r = bitsOf w 24 5 ∧ m.same .husk = true ∧ w.getLsbD 31 = true ∧ s.bit F.MP_SWEEP_busy = false ∧ u = ((s.setFld F.MP_SWEEP_rate_mbs (max 500 (min 20000 (bitsOf w 0 16)))).setFld F.MP_SWEEP_range r).setFld F.MP_SWEEP_init (bitsOf w 30 1) ∧ u.rangeOn r = true ∧ u.targetTagged r = false :=
  ⟨(State.reset.withRange 0), Master.husk, 0x80000000, _, _,
    rfl, by decide +kernel, by decide +kernel, by decide +kernel, rfl, by decide +kernel, by decide +kernel⟩
theorem witness_DramPiecesRangesAndSweeps_32 :
    ∃ s : State, ∃ x : LineHw, ∃ a : Nat, ∃ r : Nat, ∃ u : State, s.bit F.MP_SWEEP_busy = true ∧ s.mode ≠ Mode.dormant ∧ a = s.sweepPtr ∧ r = s.fld F.MP_SWEEP_range ∧ u = (s.convertLine a x).setPair R.MP_SWEEP_PTR_LO R.MP_SWEEP_PTR_HI (a + 64) ∧ u.rangeLimit r > a + 64 :=
  ⟨(((State.reset.setBit F.MP_SWEEP_busy true).withRange 0).setBit F.MP_SWEEP_init true), {}, _, _, _,
    by decide +kernel, by decide +kernel, rfl, rfl, rfl, by decide +kernel⟩
theorem witness_DramPiecesRangesAndSweeps_33 :
    ∃ s : State, s.bit F.MP_SWEEP_init = true :=
  ⟨(State.reset.setBit F.MP_SWEEP_init true),
    by decide +kernel⟩
theorem witness_DramPiecesRangesAndSweeps_34 :
    ∃ s : State, ∃ r : Fin 32, s.rangeOn r.val = true ∧ s.bit F.MP_SWEEP_busy = false :=
  ⟨((State.reset.setBit (F.MP_RANGE_CFG_en 0) true).setBit F.MP_SWEEP_busy false), 0,
    by decide +kernel, by decide +kernel⟩
theorem witness_DramPiecesRangesAndSweeps_35 :
    ∃ s : State, ∃ r : Fin 32, s.rangeOn r.val = true ∧ s.bit F.MP_SWEEP_busy = true :=
  ⟨((State.reset.setBit (F.MP_RANGE_CFG_en 0) true).setBit F.MP_SWEEP_busy true), 0,
    by decide +kernel, by decide +kernel⟩
theorem witness_DramPiecesRangesAndSweeps_36 :
    ∃ s : State, ∃ mc : Fin 8, ∃ b : Fin 2, (s.subch (2 * Fin.val mc + Fin.val b)).up = true ∧ (s.subch (2 * mc.val + b.val)).down = false :=
  ⟨(let s := (let s := State.reset; s.setSubch (2 * 0 + 0) { s.subch (2 * 0 + 0) with up := true }); s.setSubch (2 * 0 + 0) { s.subch (2 * 0 + 0) with down := false }), 0, 0,
    by decide +kernel, by decide +kernel⟩

end
end

