-- ==== Sys2Proof/Tests/WitnessModes.lean ====
section
/-! SUPPORT. Witnesses: witness_<statement>_<k> shows a state and operands that meet the premises
of clause k of that statement, for modes, claims, registers, clocks, pins, pods and scrubbers. -/

open Sys2Proof Sys2Proof.Machine

section
set_option Elab.async false

theorem witness_SupplyAndResetChangeTheMode_1 :
    ∃ s : State, s.mode = Mode.off :=
  ⟨(State.reset.setFld F.DEV_MODE_mode Mode.off),
    by decide +kernel⟩
theorem witness_SupplyAndResetChangeTheMode_3 :
    ∃ s : State, s.mode ≠ Mode.off ∧ s.mode ≠ Mode.zeroised :=
  ⟨State.reset,
    by decide +kernel, by decide +kernel⟩
theorem witness_SupplyAndResetChangeTheMode_4 :
    ∃ s : State, (s.mode = Mode.off ∨ s.mode = Mode.zeroised) :=
  ⟨(State.reset.setFld F.DEV_MODE_mode Mode.off),
    by decide +kernel⟩
theorem witness_SupplyAndResetChangeTheMode_5 :
    ∃ s : State, s.trust.resetDue = true ∧ s.mode ≠ Mode.off ∧ s.mode ≠ Mode.zeroised :=
  ⟨(let s := State.reset; { s with trust := { s.trust with resetDue := true } }),
    by decide +kernel, by decide +kernel, by decide +kernel⟩
theorem witness_SupplyAndResetChangeTheMode_6 :
    ∃ s : State, s.mode = Mode.held ∧ s.dev.perst = false :=
  ⟨(let s := (State.reset.setFld F.DEV_MODE_mode Mode.held); { s with dev := { s.dev with perst := false } }),
    by decide +kernel, by decide +kernel⟩
theorem witness_StartUpEventsComplete_1 :
    ∃ s : State, s.mode = Mode.boot ∧ s.trust.recovery = false ∧ s.fuses.lifeCycle ≠ 4 ∧ s.standby = Standby.absent :=
  ⟨((let s := (State.reset.setFld F.DEV_MODE_mode Mode.boot); { s with trust := { s.trust with recovery := false } }).setStandby Standby.absent),
    by decide +kernel, by decide +kernel, by decide +kernel, by decide +kernel⟩
theorem witness_StartUpEventsComplete_2 :
    ∃ s : State, s.mode = Mode.boot ∧ s.dev.pf0Ready = false :=
  ⟨(let s := (State.reset.setFld F.DEV_MODE_mode Mode.boot); { s with dev := { s.dev with pf0Ready := false } }),
    by decide +kernel, by decide +kernel⟩
theorem witness_StartUpEventsComplete_3 :
    ∃ s : State, s.mode = Mode.boot ∧ s.dev.loadWait = true ∧ s.dev.waitFrom + 1000000 * s.fld F.PCI_LDR_CFG_load_wait_ms ≤ s.tim.uptime :=
  ⟨((let s := (State.reset.setFld F.DEV_MODE_mode Mode.boot); { s with dev := { s.dev with loadWait := true } }).upFor 1000000000),
    by decide +kernel, by decide +kernel, by decide +kernel⟩
theorem witness_StartUpEventsComplete_4 :
    ∃ s : State, s.mode = Mode.boot ∧ s.dev.dramTrained = false ∧ s.trust.recovery = false ∧ s.fuses.lifeCycle ≠ 4 :=
  ⟨(let s := (let s := (State.reset.setFld F.DEV_MODE_mode Mode.boot); { s with dev := { s.dev with dramTrained := false } }); { s with trust := { s.trust with recovery := false } }),
    by decide +kernel, by decide +kernel, by decide +kernel, by decide +kernel⟩
theorem witness_StartUpEventsComplete_5 :
    ∃ s : State, (s.mode = Mode.off ∨ s.mode = Mode.zeroised) :=
  ⟨(State.reset.setFld F.DEV_MODE_mode Mode.off),
    by decide +kernel⟩
theorem witness_StartUpEventsComplete_6 :
    ∃ s : State, s.mode ≠ Mode.off ∧ s.mode ≠ Mode.zeroised ∧ s.dev.leftBoot = true ∧ s.ldrState ≠ 1 ∧ s.bit F.DEV_RESET_POLICY_perst_scope = false :=
  ⟨((let s := State.reset; { s with dev := { s.dev with leftBoot := true } }).setBit F.DEV_RESET_POLICY_perst_scope false),
    by decide +kernel, by decide +kernel, by decide +kernel, by decide +kernel, by decide +kernel⟩
theorem witness_StartUpEventsComplete_8 :
    ∃ s : State, s.tim.uptime < s.dev.waitFrom + 1000000 * s.fld F.PCI_LDR_CFG_load_wait_ms :=
  ⟨State.reset,
    by decide +kernel⟩
theorem witness_RendezvousArmsAndLaunches_1 :
    ∃ s : State, s.mode = Mode.rendezvous ∧ s.bit F.DEV_MODE_dram_ready = true ∧ s.launchArmed = false :=
  ⟨((State.reset.setFld F.DEV_MODE_mode Mode.rendezvous).setBit F.DEV_MODE_dram_ready true),
    by decide +kernel, by decide +kernel, by decide +kernel⟩
theorem witness_RendezvousArmsAndLaunches_2 :
    ∃ s : State, ∃ g : BitVec 8, s.mode = Mode.rendezvous ∧ s.cueAction .dev 7 = .launch g ∧ s.launchArmed = true ∧ s.isReached (s.reg (R.DEV_CUE_TIME 7)) = true ∧ s.copyLost Unit.dev = false :=
  ⟨((State.reset.setFld F.DEV_MODE_mode Mode.rendezvous).cueHold .dev 7 0 0 false (.launch 7)), 7,
    by decide +kernel, by decide +kernel, by decide +kernel, by decide +kernel, by decide +kernel⟩
theorem witness_RendezvousArmsAndLaunches_3 :
    ∃ s : State, s.mode = Mode.rendezvous ∧ s.rdvExpired = true ∧ s.bit F.DEV_RDV_timed_out = false ∧ s.launchArmed = false :=
  ⟨(((State.reset.setFld F.DEV_MODE_mode Mode.rendezvous).setBit F.DEV_RDV_timed_out false).atTime 2000000000),
    by decide +kernel, by decide +kernel, by decide +kernel, by decide +kernel⟩
theorem witness_RendezvousArmsAndLaunches_4 :
    ∃ s : State, s.mode = Mode.rendezvous ∧ s.bit F.DEV_RDV_timed_out = true ∧ s.launchArmed = false :=
  ⟨((State.reset.setFld F.DEV_MODE_mode Mode.rendezvous).setBit F.DEV_RDV_timed_out true),
    by decide +kernel, by decide +kernel, by decide +kernel⟩
theorem witness_RendezvousArmsAndLaunches_5 :
    ∃ s : State, s.mode = Mode.rendezvous ∧ s.bit F.DEV_RDV_timed_out = true ∧ s.launchArmed = true :=
  ⟨(((State.reset.setFld F.DEV_MODE_mode Mode.rendezvous).setBit F.DEV_RDV_timed_out true).cueHold .dev 7 0 0 false (.launch 7)),
    by decide +kernel, by decide +kernel, by decide +kernel⟩
theorem witness_RendezvousArmsAndLaunches_6 :
    ∃ s : State, (s.mode ≠ Mode.rendezvous ∨ s.bit F.DEV_RDV_timed_out = false) :=
  ⟨State.reset,
    by decide +kernel⟩
theorem witness_DormantIsEnteredAndLeft_1 :
    ∃ s : State, s.mayDormant = false :=
  ⟨State.reset,
    by decide +kernel⟩
theorem witness_DormantIsEnteredAndLeft_2 :
    ∃ s : State, s.mayDormant = true ∧ s.wakeSoon = true :=
  ⟨((State.reset.inMode Mode.service).setReg R.DEV_WAKE_LO 1),
    by decide +kernel, by decide +kernel⟩
theorem witness_DormantIsEnteredAndLeft_3 :
    ∃ s : State, s.mayDormant = true ∧ s.wakeSoon = false :=
  ⟨(State.reset.inMode Mode.service),
    by decide +kernel, by decide +kernel⟩
theorem witness_DormantIsEnteredAndLeft_4 :
    ∃ s : State, s.mode = Mode.dormant :=
  ⟨(State.reset.setFld F.DEV_MODE_mode Mode.dormant),
    by decide +kernel⟩
theorem witness_DormantIsEnteredAndLeft_5 :
    ∃ s : State, s.mode ≠ Mode.dormant :=
  ⟨State.reset,
    by decide +kernel⟩
theorem witness_DormantIsEnteredAndLeft_7 :
    ∃ s : State, s.mode = Mode.dormant ∧ s.dev.waking = true :=
  ⟨(let s := (State.reset.setFld F.DEV_MODE_mode Mode.dormant); { s with dev := { s.dev with waking := true } }),
    by decide +kernel, by decide +kernel⟩
theorem witness_DormantIsEnteredAndLeft_8 :
    ∃ s : State, ∃ m : Master, ∃ lo : Word, s.heldLo m R.DEV_WAKE_LO = some lo :=
  ⟨(State.reset.setHeld Master.husk R.DEV_WAKE_LO (some 0)), Master.husk, 0,
    by decide +kernel⟩

theorem witness_ClaimsGoToOneHolder_1 :
    ∃ s : State, ∃ c : ClaimRef, c.ok = true ∧ s.holder c.off = none :=
  ⟨State.reset, ClaimRef.device 2,
    by decide +kernel, by decide +kernel⟩
theorem witness_ClaimsGoToOneHolder_2 :
    ∃ s : State, ∃ m : Master, ∃ c : ClaimRef, ∃ h : Master, c.ok = true ∧ s.holder c.off = some h ∧ h.same m = true :=
  ⟨(State.reset.setHolder (ClaimRef.device 2 : ClaimRef).off (some Master.husk)), Master.husk, ClaimRef.device 2, Master.husk,
    by decide +kernel, by decide +kernel, by decide +kernel⟩
theorem witness_ClaimsGoToOneHolder_3 :
    ∃ s : State, ∃ m : Master, ∃ c : ClaimRef, ∃ h : Master, c.ok = true ∧ s.holder c.off = some h ∧ h.same m = false :=
  ⟨(State.reset.setHolder (ClaimRef.device 2 : ClaimRef).off (some Master.host)), Master.husk, ClaimRef.device 2, Master.host,
    by decide +kernel, by decide +kernel, by decide +kernel⟩
theorem witness_ClaimsGoToOneHolder_4 :
    ∃ s : State, ∃ m : Master, ∃ c : ClaimRef, ∃ h : Master, c.ok = true ∧ s.holder c.off = some h ∧ h.same m = true :=
  ⟨(State.reset.setHolder (ClaimRef.device 2 : ClaimRef).off (some Master.husk)), Master.husk, ClaimRef.device 2, Master.husk,
    by decide +kernel, by decide +kernel, by decide +kernel⟩
theorem witness_ClaimsGoToOneHolder_5 :
    ∃ s : State, ∃ m : Master, ∃ c : ClaimRef, ∃ h : Master, c.ok = true ∧ s.holder c.off = some h ∧ h.same m = false :=
  ⟨(State.reset.setHolder (ClaimRef.device 2 : ClaimRef).off (some Master.host)), Master.husk, ClaimRef.device 2, Master.host,
    by decide +kernel, by decide +kernel, by decide +kernel⟩
theorem witness_ClaimsGoToOneHolder_6 :
    ∃ c : ClaimRef, c.ok = false :=
  ⟨ClaimRef.device 0x188,
    by decide +kernel⟩
theorem witness_RegisterWritesFollowTheAccessRules_1 :
    ∃ s : State, ∃ off : BitVec 25, s.mode ≠ Mode.off ∧ off.toNat % 4 ≠ 0 :=
  ⟨State.reset, 3,
    by decide +kernel, by decide +kernel⟩
theorem witness_RegisterWritesFollowTheAccessRules_2 :
    ∃ s : State, ∃ off : BitVec 25, s.mode ≠ Mode.off ∧ off.toNat % 4 = 0 ∧ isDbg off.toNat = false ∧ rowAt off.toNat = none :=
  ⟨State.reset, 0x1F00,
    by decide +kernel, by decide +kernel, by decide +kernel, by decide +kernel⟩
theorem witness_RegisterWritesFollowTheAccessRules_3 :
    ∃ s : State, ∃ m : Master, ∃ off : BitVec 25, s.mode ≠ Mode.off ∧ off.toNat % 4 = 0 ∧ isDbg off.toNat = true ∧ m.same .monitor = false :=
  ⟨State.reset, Master.husk, 0x900000,
    by decide +kernel, by decide +kernel, by decide +kernel, by decide +kernel⟩
theorem witness_RegisterWritesFollowTheAccessRules_4 :
    ∃ s : State, s.mode ≠ Mode.off :=
  ⟨State.reset,
    by decide +kernel⟩
theorem witness_RegisterWritesFollowTheAccessRules_5 :
    ∃ s : State, ∃ m : Master, ∃ lo : Word, s.mode ≠ Mode.off ∧ s.heldLo m R.DEV_WAKE_LO = some lo :=
  ⟨(State.reset.setHeld Master.husk R.DEV_WAKE_LO (some 0)), Master.husk, 0,
    by decide +kernel, by decide +kernel⟩
theorem witness_RegisterWritesFollowTheAccessRules_6 :
    ∃ s : State, ∃ m : Master, s.mode ≠ Mode.off ∧ s.heldLo m R.DEV_WAKE_LO = none :=
  ⟨State.reset, Master.husk,
    by decide +kernel, by decide +kernel⟩
theorem witness_RegisterWritesFollowTheAccessRules_7 :
    ∃ s : State, ∃ m : Master, s.mode ≠ Mode.off ∧ m.same .husk = true :=
  ⟨State.reset, Master.husk,
    by decide +kernel, by decide +kernel⟩
theorem witness_RegisterReadsReturnWhatIsHeld_1 :
    ∃ s : State, ∃ off : BitVec 25, s.mode ≠ Mode.off ∧ off.toNat % 4 ≠ 0 :=
  ⟨State.reset, 3,
    by decide +kernel, by decide +kernel⟩
theorem witness_RegisterReadsReturnWhatIsHeld_2 :
    ∃ s : State, ∃ m : Master, s.mode ≠ Mode.off ∧ s.latched m R.MP_RETIRE_POLICY = none :=
  ⟨State.reset, Master.husk,
    by decide +kernel, by decide +kernel⟩
theorem witness_RegisterReadsReturnWhatIsHeld_3 :
    ∃ s : State, ∃ m : Master, s.mode ≠ Mode.off ∧ s.latched m R.DEV_WAKE_LO = none :=
  ⟨State.reset, Master.husk,
    by decide +kernel, by decide +kernel⟩
theorem witness_RegisterReadsReturnWhatIsHeld_4 :
    ∃ s : State, ∃ m : Master, ∃ w : Word, s.mode ≠ Mode.off ∧ s.latched m R.DEV_WAKE_HI = some w :=
  ⟨(State.reset.setLatch Master.husk R.DEV_WAKE_HI (some 0)), Master.husk, 0,
    by decide +kernel, by decide +kernel⟩

theorem witness_ClockAndSupplyEventsComplete_2 :
    ∃ s : State, 7 ≤ Table.get zeroNat s.clk.runs (Clock.key .xtalSys) :=
  ⟨(State.reset.setRuns .xtalSys 7),
    by decide +kernel⟩
theorem witness_ClockAndSupplyEventsComplete_3 :
    ∃ s : State, ∃ c : Clock, Table.get zeroNat s.clk.runs c.key < 7 :=
  ⟨State.reset, Clock.xtalSys,
    by decide +kernel⟩
theorem witness_ClockAndSupplyEventsComplete_4 :
    ∃ s : State, s.clockStable .xtalSys = true :=
  ⟨(State.reset.setClockStable .xtalSys true),
    by decide +kernel⟩
theorem witness_ClockAndSupplyEventsComplete_6 :
    ∃ r : BitVec 16, 300 ≤ r.toNat ∧ r.toNat ≤ 500 :=
  ⟨400,
    by decide +kernel, by decide +kernel⟩
theorem witness_ClockAndSupplyEventsComplete_7 :
    ∃ r : BitVec 16, (r.toNat < 300 ∨ 500 < r.toNat) :=
  ⟨0,
    by decide +kernel⟩
theorem witness_ClockAndSupplyEventsComplete_10 :
    ∃ s : State, ∃ mv : BitVec 12, s.fld F.TIM_TSENSE_CFG_src = 0 ∧ 50 ≤ BitVec.toNat mv ∧ BitVec.toNat mv ≤ 1750 :=
  ⟨(State.reset.setFld F.TIM_TSENSE_CFG_src 0), 1000,
    by decide +kernel, by decide +kernel, by decide +kernel⟩
theorem witness_ClockAndSupplyEventsComplete_11 :
    ∃ s : State, ∃ mv : BitVec 12, s.fld F.TIM_TSENSE_CFG_src = 0 ∧ (BitVec.toNat mv < 50 ∨ 1750 < BitVec.toNat mv) :=
  ⟨(State.reset.setFld F.TIM_TSENSE_CFG_src 0), 0,
    by decide +kernel, by decide +kernel⟩
theorem witness_PinsAndPllsObeyTheirHolder_1 :
    ∃ s : State, ∃ m : Master, ∃ q : Fin 24, s.holds m (fpllClaim q.val) = false :=
  ⟨State.reset, Master.husk, 0,
    by decide +kernel⟩
theorem witness_PinsAndPllsObeyTheirHolder_2 :
    ∃ s : State, ∃ m : Master, ∃ q : Fin 24, ∃ w : BitVec 32, s.holds m (fpllClaim q.val) = true ∧ BitVec.getLsbD w 31 = false :=
  ⟨(State.reset.setHolder (fpllClaim 0) (some Master.husk)), Master.husk, 0, 0,
    by decide +kernel, by decide +kernel⟩
theorem witness_PinsAndPllsObeyTheirHolder_3 :
    ∃ s : State, ∃ m : Master, ∃ k : BitVec 9, k.toNat < 384 ∧ s.holds m (pinClaim k.toNat) = false :=
  ⟨State.reset, Master.husk, 0,
    by decide +kernel, by decide +kernel⟩
theorem witness_PinsAndPllsObeyTheirHolder_4 :
    ∃ s : State, ∃ m : Master, ∃ k : BitVec 9, k.toNat < 384 ∧ s.holds m (pinClaim k.toNat) = true :=
  ⟨(State.reset.setHolder (pinClaim 0) (some .husk)), Master.husk, 0,
    by decide +kernel, by decide +kernel⟩
theorem witness_PinsAndPllsObeyTheirHolder_5 :
    ∃ s : State, ∃ k : Fin 384, ∃ f : BitVec 4, (s.pad k.val).due = some f :=
  ⟨(let s := State.reset; s.setPad 0 { s.pad 0 with due := some 0 }), 0, 0,
    by decide +kernel⟩
theorem witness_PinsAndPllsObeyTheirHolder_6 :
    ∃ s : State, ∃ m : Master, ∃ b : Fin 16, s.heldMask m b.val ≠ 0 ∧ s.heldMask m b.val < 2 ^ 24 :=
  ⟨(State.reset.setHolder (pinClaim 0) (some .husk)), Master.husk, 0,
    by decide +kernel, by decide +kernel⟩
theorem witness_PinsAndPllsObeyTheirHolder_7 :
    ∃ s : State, ∃ m : Master, ∃ k : Fin 384, s.holds m (pinClaim k.val) = true :=
  ⟨(State.reset.setHolder (pinClaim 0) (some Master.husk)), Master.husk, 0,
    by decide +kernel⟩
theorem witness_FabricUnitsComplete_1 :
    ∃ s : State, ∃ n : Fin 96, ∃ k : Fin 32, ∃ sel : BitVec 4, (s.tree (treeKey n.val k.val)).next = none ∧ (s.tree (treeKey n.val k.val)).sel ≠ sel :=
  ⟨(let s := State.reset; s.setTree (treeKey 0 0) { s.tree (treeKey 0 0) with next := none }), 0, 0, 0,
    by decide +kernel, by decide +kernel⟩
theorem witness_FabricUnitsComplete_2 :
    ∃ s : State, ∃ n : Fin 96, ∃ k : Fin 32, ∃ x : BitVec 4, (s.tree (treeKey n.val k.val)).next = some x :=
  ⟨(let s := State.reset; s.setTree (treeKey 0 0) { s.tree (treeKey 0 0) with next := some 0 }), 0, 0, 0,
    by decide +kernel⟩
theorem witness_FabricUnitsComplete_3 :
    ∃ s : State, ∃ n : Fin 96, ∃ k : Fin 32, ∃ x : BitVec 4, (s.tree (treeKey n.val k.val)).next = some x ∧ (s.tree (treeKey n.val k.val)).queued = none :=
  ⟨(let s := (let s := State.reset; s.setTree (treeKey 0 0) { s.tree (treeKey 0 0) with next := some 0 }); s.setTree (treeKey 0 0) { s.tree (treeKey 0 0) with queued := none }), 0, 0, 0,
    by decide +kernel, by decide +kernel⟩
theorem witness_FabricUnitsComplete_4 :
    ∃ s : State, ∃ n : Fin 96, ∃ k : Fin 32, ∃ x : BitVec 4, (s.tree (treeKey n.val k.val)).next = some x ∧ (s.tree (treeKey n.val k.val)).released = false :=
  ⟨(let s := (let s := State.reset; s.setTree (treeKey 0 0) { s.tree (treeKey 0 0) with next := some 0 }); s.setTree (treeKey 0 0) { s.tree (treeKey 0 0) with released := false }), 0, 0, 0,
    by decide +kernel, by decide +kernel⟩
theorem witness_FabricUnitsComplete_8 :
    ∃ s : State, ∃ p : Fin 192, ∃ x : Packet, ∃ l : List Packet, (s.ap p.val).inbound = x :: l ∧ s.podStopped (s.apPod p.val) = false ∧ s.hasDesign p.val = true ∧ (s.ap p.val).opened.length < 32 ∧ s.paired (s.apPod p.val) = false :=
  ⟨((let s := State.reset; s.setAp 0 { s.ap 0 with inbound := (⟨1, 0, 0, 0, 0, 0, false, false, 0, 0, 0, [], 0, false⟩ : Packet) :: ([] : List Packet) }).withDesign 0), 0, ⟨1, 0, 0, 0, 0, 0, false, false, 0, 0, 0, [], 0, false⟩, [],
    by decide +kernel, by decide +kernel, by decide +kernel, by decide +kernel, by decide +kernel⟩
theorem witness_FabricUnitsComplete_9 :
    ∃ s : State, ∃ p : Fin 192, ∃ src : BitVec 10, ∃ tag : BitVec 8, ∃ q : Packet, ∃ a : Nat, ((s.ap p.val).opened.find? (fun q => q.src == src && q.tag == tag) = some q) ∧ (src, tag, a) ∈ (s.ap p.val).since ∧ a + 64000 ≤ s.tim.uptime :=
  ⟨(let s := State.reset; (s.setAp 0 { s.ap 0 with opened := [⟨1, 0, 0, 0, 0, 0, false, false, 0, 0, 0, [], 0, false⟩], since := [(0, 0, 0)] }).upFor 64000), 0, 0, 0, ⟨1, 0, 0, 0, 0, 0, false, false, 0, 0, 0, [], 0, false⟩, 0,
    by decide +kernel, by decide +kernel, by decide +kernel⟩
theorem witness_FabricUnitsComplete_10 :
    ∃ s : State, ∃ e : Fin 1024, s.portHeld e.val = false ∧ s.paired (s.portPod e.val) = false ∧ (s.engine e.val).toEngine.length < 32 ∧ (s.pod (s.portPod e.val)).silenced = false :=
  ⟨(let s := State.reset; s.setPod (s.portPod 0) { s.pod (s.portPod 0) with silenced := false }), 0,
    by decide +kernel, by decide +kernel, by decide +kernel, by decide +kernel⟩
theorem witness_FabricUnitsComplete_11 :
    ∃ s : State, ∃ e : Fin 1024, ∃ w : PortWord, ∃ l : List PortWord, s.portHeld e.val = false ∧ (s.engine e.val).fromEngine = w :: l :=
  ⟨(let s := State.reset; s.setEngine 0 { s.engine 0 with fromEngine := (⟨0, 0, false, false⟩ : PortWord) :: ([] : List PortWord) }), 0, ⟨0, 0, false, false⟩, [],
    by decide +kernel, by decide +kernel⟩
theorem witness_FabricUnitsComplete_12 :
    ∃ s : State, ∃ e : Fin 1024, s.paired (s.portPod e.val) = false :=
  ⟨State.reset, 0,
    by decide +kernel⟩
theorem witness_FabricUnitsComplete_13 : ∃ s : State, ∃ p : Fin 192, ∃ src : BitVec 10, ∃ tag : BitVec 8, ((∀ a, (src, tag, a) ∈ (s.ap p.val).since → s.tim.uptime < a + 64000)) := ⟨State.reset.setAp 0 { State.reset.ap 0 with since := [(0, 0, 7)] }, 0, 0, 0, fun a h => by
    have e : (State.reset.setAp 0 { State.reset.ap 0 with since := [(0, 0, 7)] }).tim.uptime = 0 := rfl
    rw [e]; omega⟩

theorem witness_PodSwitchesRunTheirWindow_1 :
    ∃ s : State, ∃ p : Fin 48, s.isTwin p.val = false ∧ s.fullStaged = false ∧ (s.sprout p.val = Sprout.staged ∨ s.sprout p.val = Sprout.previous) ∧ (s.pod p.val).window = .none :=
  ⟨(let s := (State.reset.setSprout 0 Sprout.staged); s.setPod 0 { s.pod 0 with window := .none }), 0,
    by decide +kernel, by decide +kernel, by decide +kernel, by decide +kernel⟩
theorem witness_PodSwitchesRunTheirWindow_2 :
    ∃ s : State, ∃ p : Fin 48, s.isTwin p.val = false ∧ s.fullStaged = false ∧ s.sprout p.val = Sprout.idle :=
  ⟨(State.reset.setSprout 0 Sprout.idle), 0,
    by decide +kernel, by decide +kernel, by decide +kernel⟩
theorem witness_PodSwitchesRunTheirWindow_3 :
    ∃ s : State, ∃ p : Fin 48, s.isTwin p.val = true :=
  ⟨(State.reset.setBit (F.CFG_POD_STATE_twin 0) true), 0,
    by decide +kernel⟩
theorem witness_PodSwitchesRunTheirWindow_4 :
    ∃ s : State, ∃ p : Fin 48, s.isTwin p.val = false ∧ s.fullStaged = false ∧ (s.sprout p.val = Sprout.staging ∨ s.sprout p.val = Sprout.staged) :=
  ⟨(State.reset.setSprout 0 Sprout.staging), 0,
    by decide +kernel, by decide +kernel, by decide +kernel⟩
theorem witness_PodSwitchesRunTheirWindow_5 :
    ∃ s : State, ∃ p : Fin 48, s.isTwin p.val = false ∧ s.podSwitching p.val = false ∧ s.sprout p.val ≠ Sprout.repairHeld ∧ s.paired p.val = false :=
  ⟨State.reset, 0,
    by decide +kernel, by decide +kernel, by decide +kernel, by decide +kernel⟩
theorem witness_PodSwitchesRunTheirWindow_6 :
    ∃ s : State, ∃ p : Fin 48, ∃ k : Fin 8, s.sprout p.val = Sprout.armed ∧ (s.pod p.val).slot = some k ∧ s.paired p.val = false ∧ s.fld (F.CFG_POD_CTRL_quiesce_us p.val) ≠ 0 ∧ s.extend (s.reg (CueUnit.cfg.timeField k.val)) ≤ s.now + 1000 * s.fld (F.CFG_POD_CTRL_quiesce_us p.val) :=
  ⟨((let s := (State.reset.setSprout 0 Sprout.armed); s.setPod 0 { s.pod 0 with slot := some 0 }).setFld (F.CFG_POD_CTRL_quiesce_us 0) 1), 0, 0,
    by decide +kernel, by decide +kernel, by decide +kernel, by decide +kernel, by decide +kernel⟩
theorem witness_PodSwitchesRunTheirWindow_7 :
    ∃ s : State, ∃ p : Fin 48, s.cfg.fullWindow = .none ∧ (s.pod p.val).window = .e0 ∧ s.paired p.val = false :=
  ⟨(let s := (let s := State.reset; { s with cfg := { s.cfg with fullWindow := .none } }); s.setPod 0 { s.pod 0 with window := .e0 }), 0,
    by decide +kernel, by decide +kernel, by decide +kernel⟩
theorem witness_PodSwitchesRunTheirWindow_8 :
    ∃ s : State, ∃ p : Fin 48, ∃ n : Fin 96, ∃ k : Fin 32, (s.pod p.val).window = .e0 ∧ s.podOf n.val = p.val ∧ (s.tree (treeKey n.val k.val)).low = false :=
  ⟨(let s := (let s := State.reset; s.setPod 0 { s.pod 0 with window := .e0 }); s.setTree (treeKey 0 0) { s.tree (treeKey 0 0) with low := false }), 0, 0, 0,
    by decide +kernel, by decide +kernel, by decide +kernel⟩
theorem witness_PodSwitchesRunTheirWindow_9 :
    ∃ s : State, ∃ p : Fin 48, s.cfg.fullWindow = .none ∧ (s.pod p.val).window = .e1 ∧ s.paired p.val = false :=
  ⟨(let s := (let s := State.reset; { s with cfg := { s.cfg with fullWindow := .none } }); s.setPod 0 { s.pod 0 with window := .e1 }), 0,
    by decide +kernel, by decide +kernel, by decide +kernel⟩
theorem witness_PodSwitchesRunTheirWindow_10 :
    ∃ s : State, ∃ p : Fin 48, s.cfg.fullWindow = .none ∧ (s.pod p.val).window = .e2 :=
  ⟨(let s := (let s := State.reset; { s with cfg := { s.cfg with fullWindow := .none } }); s.setPod 0 { s.pod 0 with window := .e2 }), 0,
    by decide +kernel, by decide +kernel⟩
theorem witness_ScrubbersKeepThePlanes_1 :
    ∃ s : State, ∃ e : Bool, s.scrubOn = true ∧ ((s.scrubber e).advance e).2.1 = false :=
  ⟨((State.reset.setBit F.CFG_SCRUB_CTRL_enable true).setBit F.CFG_STATUS_table_live true), false,
    by decide +kernel, by decide +kernel⟩
theorem witness_ScrubbersKeepThePlanes_2 :
    ∃ s : State, ∃ e : Bool, ∃ k : Nat, s.scrubOn = true ∧ s.essentialKeys e = [k] :=
  ⟨(let s := ((State.reset.setBit F.CFG_SCRUB_CTRL_enable true).setBit F.CFG_STATUS_table_live true); { s with cfg := { s.cfg with essential := [(0, true)] } }), false, 0,
    by decide +kernel, by decide +kernel⟩
theorem witness_ScrubbersKeepThePlanes_3 :
    ∃ s : State, ∃ e : Bool, s.scrubOn = true ∧ s.bit F.CFG_SCRUB_CTRL_sprout_scrub = true ∧ s.mode ≠ Mode.dormant ∧ (s.scrubber e).sprout = 0 ∧ s.sproutScrubbed (48 * b2n e) = true :=
  ⟨((let s := (((State.reset.setBit F.CFG_SCRUB_CTRL_enable true).setBit F.CFG_STATUS_table_live true).setBit F.CFG_SCRUB_CTRL_sprout_scrub true); s.setScrubber false { s.scrubber false with sprout := 0 }).setSprout 0 Sprout.staged), false,
    by decide +kernel, by decide +kernel, by decide +kernel, by decide +kernel, by decide +kernel⟩
theorem witness_ScrubbersKeepThePlanes_4 :
    ∃ s : State, ∃ e : Bool, ∃ f : FrameRef, ∃ l : List FrameRef, (s.scrubber e).writeback = f :: l :=
  ⟨(let s := State.reset; s.setScrubber false { s.scrubber false with writeback := (⟨0, false, 0, false⟩ : FrameRef) :: ([] : List FrameRef) }), false, ⟨0, false, 0, false⟩, [],
    by decide +kernel⟩
theorem witness_ScrubbersKeepThePlanes_5 :
    ∃ s : State, ∃ e : Bool, ∃ f : FrameRef, ∃ l : List FrameRef, (s.scrubber e).rewrite = f :: l ∧ f.stale = false :=
  ⟨(let s := State.reset; s.setScrubber false { s.scrubber false with rewrite := (⟨0, false, 0, false⟩ : FrameRef) :: ([] : List FrameRef) }), false, ⟨0, false, 0, false⟩, [],
    by decide +kernel, by decide +kernel⟩
theorem witness_ScrubbersKeepThePlanes_6 :
    ∃ n : BitVec 7, n.toNat < 96 :=
  ⟨0,
    by decide +kernel⟩
theorem witness_ScrubbersKeepThePlanes_7 : ∃ s : State, ∃ n : Nat, ∃ e : Bool, ∃ x : Scrubber, s.scrubber e = x ∧ e = decide (48 ≤ n) := ⟨State.reset, 0, _, State.reset.scrubber true, by decide +kernel, rfl⟩
theorem witness_SubstitutionsProceed_1 :
    ∃ s : State, ∃ f : FabricFix, s.podSwitching (s.podOf f.region) = false ∧ s.switchDecided (s.podOf f.region) = false ∧ s.podFrozen (s.podOf f.region) = false ∧ (s.pod (s.podOf f.region)).repair = none ∧ inService s.mode = true ∧ s.bit (F.CFG_POD_STATE_spare_aware (s.podOf f.region)) = true ∧ s.spareSpent f = false :=
  ⟨((let s := (let s := State.reset; s.setPod (s.podOf (FabricFix.tile 0 0 : FabricFix).region) { s.pod (s.podOf (FabricFix.tile 0 0 : FabricFix).region) with repair := none }); s.setBit (F.CFG_POD_STATE_spare_aware (s.podOf (FabricFix.tile 0 0 : FabricFix).region)) true).inMode Mode.service), FabricFix.tile 0 0,
    by decide +kernel, by decide +kernel, by decide +kernel, by decide +kernel, by decide +kernel, by decide +kernel, by decide +kernel⟩
theorem witness_SubstitutionsProceed_2 :
    ∃ s : State, ∃ f : FabricFix, s.podSwitching (s.podOf f.region) = false ∧ s.switchDecided (s.podOf f.region) = false ∧ s.podFrozen (s.podOf f.region) = false ∧ (s.pod (s.podOf f.region)).repair = none ∧ inService s.mode = true ∧ s.spareSpent f = true :=
  ⟨(((let s := State.reset; s.setPod (s.podOf (FabricFix.tile 0 0 : FabricFix).region) { s.pod (s.podOf (FabricFix.tile 0 0 : FabricFix).region) with repair := none }).inMode Mode.service).setBit (F.CFG_REGION_tile_steered 0) true), FabricFix.tile 0 0,
    by decide +kernel, by decide +kernel, by decide +kernel, by decide +kernel, by decide +kernel, by decide +kernel⟩
theorem witness_SubstitutionsProceed_3 :
    ∃ s : State, ∃ p : Fin 48, ∃ r : Repair, (s.pod p.val).repair = some r ∧ r.staged = false ∧ s.podFrozen p.val = false ∧ r.fix.kind ≠ 3 :=
  ⟨(let s := State.reset; s.setPod 0 { s.pod 0 with repair := some (⟨.tile 0 0, false⟩ : Repair) }), 0, ⟨.tile 0 0, false⟩,
    by decide +kernel, by decide +kernel, by decide +kernel, by decide +kernel⟩
theorem witness_SubstitutionsProceed_4 :
    ∃ s : State, ∃ p : Fin 48, ∃ r : Repair, (s.pod p.val).repair = some r ∧ r.staged = false ∧ s.podFrozen p.val = false ∧ r.fix.kind ≠ 3 :=
  ⟨(let s := State.reset; s.setPod 0 { s.pod 0 with repair := some (⟨.tile 0 0, false⟩ : Repair) }), 0, ⟨.tile 0 0, false⟩,
    by decide +kernel, by decide +kernel, by decide +kernel, by decide +kernel⟩
theorem witness_SubstitutionsProceed_5 :
    ∃ s : State, ∃ p : Fin 48, ∃ n : Fin 96, ∃ c : Fin 6, ∃ k : Fin 64, (s.pod p.val).repair = some { fix := .memory n c k } ∧ s.podFrozen p.val = false :=
  ⟨(let s := State.reset; s.setPod 0 { s.pod 0 with repair := some { fix := .memory 0 0 0 } }), 0, 0, 0, 0,
    by decide +kernel, by decide +kernel⟩
theorem witness_SubstitutionsProceed_6 :
    ∃ s : State, ∃ page : BitVec 36, s.dram.retired.contains page.toNat = false ∧ ((s.dram.retiring.any fun r => r.1 == page.toNat) = false) ∧ s.dram.retired.length < 1024 :=
  ⟨State.reset, 0,
    by decide +kernel, by decide +kernel, by decide +kernel⟩
theorem witness_SubstitutionsProceed_7 :
    ∃ s : State, ∃ page : BitVec 36, s.dram.retiring.contains (page.toNat, false) = true :=
  ⟨(let s := State.reset; { s with dram := { s.dram with retiring := [(0, false)] } }), 0,
    by decide +kernel⟩

end
end

