-- ==== Sys2Proof/Tests/WitnessNetwork.lean ====
section
/-! SUPPORT. Witnesses: witness_<statement>_<k> shows a state and operands that meet the premises
of clause k of that statement, for the packet network and the queue engine. -/

open Sys2Proof Sys2Proof.Machine

section
set_option Elab.async false

theorem witness_RouteEntriesAreHeldAndValidated_1 : ∃ s : State, ∃ (m : Master) (e : Fin 4096) (ni : Nat) (h : HeldRoute),
    ni = s.srcFld m F.NOC_RT_SEL_ni ∧ s.heldRoute m = some h ∧ h.ni = ni ∧ h.entry = e.val :=
  ⟨State.reset.setHeldRoute .husk (some { ni := 0, entry := 5 }), .husk, 5, 0, { ni := 0, entry := 5 }, by decide +kernel⟩

theorem witness_InjectionFollowsTheRouteEntry_1 :
    ∃ s : State, ∃ p : Packet, ∃ e : RouteEntry, p.kind ≠ 6 ∧ p.kind ≠ 8 ∧ p.sized = true ∧ e = s.route p.src.toNat p.route.toNat ∧ e.usable p.dst.toNat = true ∧ p.prioOk = true :=
  ⟨(State.reset.setRoute 0 0 ⟨0xC0000000, 0, 0, 0⟩), pkt0, _,
    by decide +kernel, by decide +kernel, by decide +kernel, rfl, by decide +kernel, by decide +kernel⟩
theorem witness_InjectionFollowsTheRouteEntry_2 :
    ∃ s : State, ∃ p : Packet, p.kind ≠ 6 ∧ p.kind ≠ 8 ∧ p.sized = true ∧ ((s.route p.src.toNat p.route.toNat).usable p.dst.toNat = false ∨ p.prioOk = false) :=
  ⟨(State.reset.setRoute 0 0 ⟨0, 0, 0, 0⟩), pkt0,
    by decide +kernel, by decide +kernel, by decide +kernel, by decide +kernel⟩
theorem witness_InjectionFollowsTheRouteEntry_3 :
    ∃ p : Packet, p.kind ≠ 8 ∧ p.prioOk = true :=
  ⟨⟨1, 0, 0, 0, 0, 0, false, false, 0, 0, 0, [], 0, false⟩,
    by decide +kernel, by decide +kernel⟩
theorem witness_InjectionFollowsTheRouteEntry_4 :
    ∃ p : Packet, p.kind = 5 :=
  ⟨{ pkt0 with kind := 5 },
    by decide +kernel⟩
theorem witness_RoutersForwardOrDiscard_1 :
    ∃ s : State, ∃ id : Nat, ∃ c : Fin 18, ∃ f : Flight, ∃ d : Nat, ∃ r : Nat, s.findFlight id = some f ∧ f.ejected = false ∧ c.val = 0 ∧ hopCode f.hops f.ptr = d ∧ d < 4 ∧ neighbour f.router d = some r ∧ s.bit (F.NOC_LINK_down (4 * f.router + d)) = false :=
  ⟨((let s := State.reset; { s with noc := { s.noc with flight := [(flight0 0)] } }).setBit (F.NOC_LINK_down (4 * ((flight0 0) : Flight).router + 0)) false), 0, 0, (flight0 0), 0, 16,
    by decide +kernel, by decide +kernel, by decide +kernel, by decide +kernel, by decide +kernel, by decide +kernel, by decide +kernel⟩
theorem witness_RoutersForwardOrDiscard_2 :
    ∃ s : State, ∃ id : Nat, ∃ c : Fin 18, ∃ f : Flight, ∃ r : Nat, ∃ k : Nat, s.findFlight id = some f ∧ f.ejected = false ∧ c.val = 0 ∧ (hopCode f.hops f.ptr = 5 ∨ hopCode f.hops f.ptr = 6) ∧ k = (if f.rep = 0 then (if hopCode f.hops f.ptr = 5 then 2 else 4) else f.rep) ∧ neighbour f.router f.dir = some r ∧ s.bit (F.NOC_LINK_down (4 * f.router + f.dir)) = false :=
  ⟨((let s := State.reset; { s with noc := { s.noc with flight := [(flight0 5)] } }).setBit (F.NOC_LINK_down (4 * ((flight0 5) : Flight).router + ((flight0 5) : Flight).dir)) false), 0, 0, (flight0 5), 16, _,
    by decide +kernel, by decide +kernel, by decide +kernel, by decide +kernel, rfl, by decide +kernel, by decide +kernel⟩
theorem witness_RoutersForwardOrDiscard_3 :
    ∃ s : State, ∃ id : Nat, ∃ f : Flight, s.findFlight id = some f ∧ f.ejected = false ∧ hopCode f.hops f.ptr = 4 ∧ f.pkt.dst.toNat / 4 = f.router :=
  ⟨(let s := State.reset; { s with noc := { s.noc with flight := [(flight0 4)] } }), 0, (flight0 4),
    by decide +kernel, by decide +kernel, by decide +kernel, by decide +kernel⟩
theorem witness_RoutersForwardOrDiscard_4 :
    ∃ s : State, ∃ id : Nat, ∃ f : Flight, s.findFlight id = some f ∧ f.ejected = false ∧ (hopCode f.hops f.ptr = 7 ∨ (hopCode f.hops f.ptr = 4 ∧ f.pkt.dst.toNat / 4 ≠ f.router) ∨ (hopCode f.hops f.ptr < 4 ∧ neighbour f.router (hopCode f.hops f.ptr) = none)) :=
  ⟨(let s := State.reset; { s with noc := { s.noc with flight := [(flight0 7)] } }), 0, (flight0 7),
    by decide +kernel, by decide +kernel, by decide +kernel⟩
theorem witness_RoutersForwardOrDiscard_5 :
    ∃ s : State, ∃ id : Nat, ∃ f : Flight, ∃ r : Nat, s.findFlight id = some f ∧ f.ejected = false ∧ hopCode f.hops f.ptr < 4 ∧ neighbour f.router (hopCode f.hops f.ptr) = some r ∧ s.bit (F.NOC_LINK_down (4 * f.router + hopCode f.hops f.ptr)) = true :=
  ⟨((let s := State.reset; { s with noc := { s.noc with flight := [(flight0 0)] } }).setBit (F.NOC_LINK_down (4 * ((flight0 0) : Flight).router + hopCode ((flight0 0) : Flight).hops ((flight0 0) : Flight).ptr)) true), 0, (flight0 0), 16,
    by decide +kernel, by decide +kernel, by decide +kernel, by decide +kernel, by decide +kernel⟩
theorem witness_RoutersForwardOrDiscard_6 :
    ∃ s : State, ∃ g : Flight, ∃ f : Flight, s.findFlight g.id = some f :=
  ⟨(let s := State.reset; { s with noc := { s.noc with flight := [(flight0 0)] } }), (flight0 0), (flight0 0),
    by decide +kernel⟩
theorem witness_RoutersForwardOrDiscard_7 :
    ∃ s : State, ∃ r : Fin 192, ∃ d : Fin 4, ∃ same : Bool, same = true ∧ (s.link (4 * r.val + d.val)).fails < 2 :=
  ⟨State.reset, 0, 0, _,
    rfl, by decide +kernel⟩
theorem witness_RoutersForwardOrDiscard_8 :
    ∃ s : State, ∃ r : Fin 192, ∃ d : Fin 4, 2 ≤ (s.link (4 * r.val + d.val)).fails :=
  ⟨(let s := State.reset; { s with noc := { s.noc with links := [(0, { fails := 2 })] } }), 0, 0,
    by decide +kernel⟩
theorem witness_RouteEntriesAreHeldAndValidated_2 :
    ∃ s : State, ∃ m : Master, ∃ e : Fin 4096, ∃ ni : Nat, ∃ old : RouteEntry, ni = s.srcFld m F.NOC_RT_SEL_ni ∧ old = s.route ni e.val :=
  ⟨State.reset, Master.husk, 0, _, _,
    rfl, rfl⟩
theorem witness_RouteEntriesAreHeldAndValidated_4 :
    ∃ s : State, ∃ r : Fin 192, ∃ d : Fin 4, s.bit (F.NOC_LINK_down (4 * r.val + d.val)) = true :=
  ⟨(State.reset.setBit (F.NOC_LINK_down (4 * 0 + 0)) true), 0, 0,
    by decide +kernel⟩
theorem witness_RouteEntriesAreHeldAndValidated_5 :
    ∃ s : State, ∃ r : Fin 192, ∃ d : Fin 4, s.bit (F.NOC_LINK_down (4 * r.val + d.val)) = false :=
  ⟨(State.reset.setBit (F.NOC_LINK_down (4 * 0 + 0)) false), 0, 0,
    by decide +kernel⟩
theorem witness_RouteEntriesAreHeldAndValidated_6 :
    ∃ s : State, ∃ r : Fin 192, ∃ d : Fin 4, (s.link (4 * r.val + d.val)).retraining = true :=
  ⟨(let s := State.reset; { s with noc := { s.noc with links := [(0, { retraining := true })] } }), 0, 0,
    by decide +kernel⟩
theorem witness_RouteEntriesAreHeldAndValidated_7 :
    ∃ s : State, ∃ r : Fin 192, ∃ d : Fin 4, (s.link (4 * r.val + d.val)).retraining = false :=
  ⟨State.reset, 0, 0,
    by decide +kernel⟩
theorem witness_RouteEntriesAreHeldAndValidated_8 :
    ∃ s : State, ∃ r : Fin 192, ∃ d : Fin 4, ∃ l : List RouteChange, ((s.err.links.any fun x => x.1 == r.val && x.2.1 == d.val && x.2.2 == 0) = true) ∧ l ≠ [] :=
  ⟨(let s := State.reset; { s with err := { s.err with links := [(0, 0, 0)] } }), 0, 0, [⟨0, 0, none⟩],
    by decide +kernel, by decide +kernel⟩
theorem witness_RouteEntriesAreHeldAndValidated_10 :
    ∃ s : State, ∃ r : Fin 192, ∃ d : Fin 4, ((s.err.links.any fun x => x.1 == r.val && x.2.1 == d.val && x.2.2 == 0) = false) :=
  ⟨State.reset, 0, 0,
    by decide +kernel⟩
theorem witness_DeliveryHandsPacketsOn_1 :
    ∃ s : State, ∃ id : Nat, ∃ f : Flight, s.findFlight id = some f ∧ f.ejected = true :=
  ⟨(let s := State.reset; { s with noc := { s.noc with flight := [({ flight0 4 with ejected := true } : Flight)] } }), 0, { flight0 4 with ejected := true },
    by decide +kernel, by decide +kernel⟩
theorem witness_DeliveryHandsPacketsOn_2 :
    ∃ s : State, ∃ id : Nat, ((∀ f, s.findFlight id = some f → f.ejected = false)) :=
  ⟨State.reset, 0,
    by decide +kernel⟩
theorem witness_DeliveryHandsPacketsOn_3 :
    ∃ s : State, ∃ id : Nat, ∃ f : Flight, s.findFlight id = some f ∧ f.ejected = true ∧ (f.pkt.kind = 6 ∨ f.pkt.kind = 7) ∧ s.findReq f.pkt.dst.toNat f.pkt.tag.toNat = none :=
  ⟨(let s := State.reset; { s with noc := { s.noc with flight := [({ flight0 4 with ejected := true, pkt := { pkt0 with kind := 6 } } : Flight)] } }), 0, { flight0 4 with ejected := true, pkt := { pkt0 with kind := 6 } },
    by decide +kernel, by decide +kernel, by decide +kernel, by decide +kernel⟩
theorem witness_DeliveryHandsPacketsOn_4 :
    ∃ s : State, ∃ id : Nat, ∃ f : Flight, ∃ q : PendingReq, s.findFlight id = some f ∧ f.ejected = true ∧ (f.pkt.kind = 6 ∨ f.pkt.kind = 7) ∧ s.findReq f.pkt.dst.toNat f.pkt.tag.toNat = some q ∧ q.deq = false :=
  ⟨(let s := (let s := State.reset; { s with noc := { s.noc with flight := [({ flight0 4 with ejected := true, pkt := { pkt0 with kind := 6 } } : Flight)] } }); { s with noc := { s.noc with requests := [⟨0, 0, 0, 2, 0, false, 0⟩] } }), 0, { flight0 4 with ejected := true, pkt := { pkt0 with kind := 6 } }, ⟨0, 0, 0, 2, 0, false, 0⟩,
    by decide +kernel, by decide +kernel, by decide +kernel, by decide +kernel, by decide +kernel⟩
theorem witness_DeliveryHandsPacketsOn_5 :
    ∃ f : Flight, ∃ pl : Place, ∃ n : Nat, ((f.pkt.kind = 0 ∨ f.pkt.kind = 1)) ∧ f.pkt.txid = 0 ∧ n = f.pkt.payload.length ∧ pl = addrPlace f.pkt.address.toNat n :=
  ⟨(flight0 0), _, _,
    by decide +kernel, by decide +kernel, rfl, rfl⟩
theorem witness_DeliveryHandsPacketsOn_6 :
    ∃ s : State, ∃ p : Packet, ∃ kind : Nat, ∃ e : RouteEntry, e = s.route p.dst.toNat p.src.toNat ∧ e.usable p.src.toNat = true ∧ p.src.toNat < 768 ∧ (kind = 6 ∨ kind = 7) :=
  ⟨(State.reset.setRoute 0 0 ⟨0xC0000000, 0, 0, 0⟩), pkt0, 6, _,
    rfl, by decide +kernel, by decide +kernel, by decide +kernel⟩

theorem witness_QueueOperationsActInOrder_1 :
    ∃ s : State, ∃ h : QHead, QeTakes s h [h.queue.toNat] :=
  ⟨(withQueue 0 0 []), ⟨.husk, 0, 0, false, 0⟩,
    by unfold QeTakes; decide +kernel⟩
theorem witness_QueueOperationsActInOrder_2 :
    ∃ s : State, ∃ h : QHead, QeTakes s h [h.queue.toNat] :=
  ⟨(withQueue 0 0 []), ⟨.husk, 0, 0, false, 0⟩,
    by unfold QeTakes; decide +kernel⟩
theorem witness_QueueOperationsActInOrder_3 :
    ∃ s : State, ∃ h : QHead, QeTakes s h [h.queue.toNat] :=
  ⟨(withQueue 0 0 []), ⟨.husk, 0, 0, false, 0⟩,
    by unfold QeTakes; decide +kernel⟩
theorem witness_QueueOperationsActInOrder_4 :
    ∃ s : State, ∃ h : QHead, ∃ dst : BitVec 20, QeTakes s h [h.queue.toNat, dst.toNat] :=
  ⟨(withQueue 0 0 []), ⟨.husk, 0, 0, false, 0⟩, 1,
    by unfold QeTakes; decide +kernel⟩
theorem witness_QueueOperationsActInOrder_5 :
    ∃ s : State, ∃ h : QHead, QeTakes s h [h.queue.toNat] :=
  ⟨(withQueue 0 0 []), ⟨.husk, 0, 0, false, 0⟩,
    by unfold QeTakes; decide +kernel⟩
theorem witness_QueueOperationsActInOrder_6 :
    ∃ s : State, ∃ h : QHead, QeTakes s h [h.queue.toNat] :=
  ⟨(withQueue 0 0 []), ⟨.husk, 0, 0, false, 0⟩,
    by unfold QeTakes; decide +kernel⟩
theorem witness_QueueOperationsActInOrder_7 :
    ∃ s : State, ∃ h : QHead, ∃ t : Word, ∃ len : BitVec 16, ∃ q : Nat, ∃ n : Nat, q = h.queue.toNat ∧ n = granulesFor (len.toNat + 1) ∧ s.assembly h.src h.tag = none ∧ s.qGate q = 0 ∧ s.outputOf q = none ∧ (s.queue q).launch = false ∧ s.classOf t ≠ .outside ∧ (s.queue q).life = 0 ∧ (s.queue q).fits n (s.queue q).grans (s.queue q).entries.length = true ∧ n ≤ s.poolFree ∧ ((s.queue q).reserve = true ∨ s.fld F.QE_POOL_RESERVE_reserve < s.poolFree - n) :=
  ⟨((withQueue 0 0 []).setReg R.QE_POOL_SIZE_LO 4096), ⟨.husk, 0, 0, false, 0⟩, 0, 0, _, _,
    rfl, rfl, by decide +kernel, by decide +kernel, by decide +kernel, by decide +kernel, by decide +kernel, by decide +kernel, by decide +kernel, by decide +kernel, by decide +kernel⟩
theorem witness_QueueOperationsActInOrder_8 :
    ∃ s : State, ∃ q : Nat, q ∈ s.qe.descs :=
  ⟨(withQueue 0 0 []), 0,
    by decide +kernel⟩
theorem witness_QueueOperationsActInOrder_9 :
    ∃ len : Nat, 1 ≤ len :=
  ⟨1,
    by decide +kernel⟩
theorem witness_QueueOperationsActInOrder_10 :
    ∃ len : Nat, ∃ got : Nat, got < len :=
  ⟨1, 0,
    by decide +kernel⟩
theorem witness_QueueOperationsActInOrder_11 :
    ∃ s : State, ∃ q : Nat, ∃ e : QEntry, (s.queue q).life = 0 ∧ e.grans ≠ [] :=
  ⟨State.reset, 0, (⟨0, 0, 0, 0, 0, [⟨1, 256, 0, false⟩], false⟩ : QEntry),
    by decide +kernel, by decide +kernel⟩
theorem witness_QueueOperationsActInOrder_12 :
    ∃ s : State, ∃ q : Nat, ∃ e : QEntry, ∃ l : List QEntry, (s.queue q).entries = e :: l :=
  ⟨(withQueue 0 0 [⟨0, 0, 0, 0, 0, [], false⟩]), 0, ⟨0, 0, 0, 0, 0, [], false⟩, [],
    by decide +kernel⟩
theorem witness_QueueOperationsActInOrder_13 :
    ∃ s : State, ∃ src : Nat, ∃ dst : Nat, ∃ e : QEntry, ∃ l : List QEntry, src ≠ dst ∧ (s.queue src).life = 0 ∧ (s.queue dst).life = 0 ∧ (s.queue src).entries = e :: l :=
  ⟨(withQueue 0 0 [⟨0, 0, 0, 0, 0, [], false⟩]), 0, 1, ⟨0, 0, 0, 0, 0, [], false⟩, [],
    by decide +kernel, by decide +kernel, by decide +kernel, by decide +kernel⟩
theorem witness_QueueOperationsActInOrder_14 :
    ∃ s : State, ∃ q : Nat, (s.queue q).broken = none ∧ (s.queue q).held = 0 :=
  ⟨(let s := (let s := State.reset; s.setQueue 0 { s.queue 0 with broken := none }); s.setQueue 0 { s.queue 0 with held := 0 }), 0,
    by decide +kernel, by decide +kernel⟩
theorem witness_QueueEngineRunsItsEvents_1 :
    ∃ s : State, s.bit F.QE_CTRL_enable = false ∧ s.areasOk = true :=
  ⟨(((((State.reset.setBit F.QE_CTRL_enable false).setReg R.QE_POOL_SIZE_LO 1024).setReg R.QE_POOL_BASE_LO 0x10000000).setReg R.QE_LINK_BASE_LO 0x20000000).setFld F.MCG_MAP_capacity_gib 16),
    by decide +kernel, by decide +kernel⟩
theorem witness_QueueEngineRunsItsEvents_2 :
    ∃ s : State, s.bit F.QE_CTRL_enable = false ∧ s.areasOk = false :=
  ⟨(State.reset.setBit F.QE_CTRL_enable false),
    by decide +kernel, by decide +kernel⟩
theorem witness_QueueEngineRunsItsEvents_3 :
    ∃ s : State, s.bit F.QE_CTRL_enable = true :=
  ⟨(State.reset.setBit F.QE_CTRL_enable true),
    by decide +kernel⟩
theorem witness_QueueEngineRunsItsEvents_4 :
    ∃ s : State, s.bit F.QE_CTRL_enable = true ∧ s.bit F.QE_CTRL_ready = false ∧ s.qe.waiting = [] :=
  ⟨(let s := ((State.reset.setBit F.QE_CTRL_enable true).setBit F.QE_CTRL_ready false); { s with qe := { s.qe with waiting := [] } }),
    by decide +kernel, by decide +kernel, by decide +kernel⟩
theorem witness_QueueEngineRunsItsEvents_5 :
    ∃ s : State, ∃ src : Master, ∃ tag : BitVec 8, ∃ a : Assembly, s.assembly src tag = some a ∧ a.last + 64000 ≤ s.now ∧ s.qeFrozen = false :=
  ⟨((let s := State.reset; { s with qe := { s.qe with assemblies := [{ head := ⟨.husk, 0, 0, false, 0⟩, entry := ⟨0, 0, 0, 0, 0, [], false⟩ }] } }).atTime 64000), Master.husk, 0, { head := ⟨.husk, 0, 0, false, 0⟩, entry := ⟨0, 0, 0, 0, 0, [], false⟩ },
    by decide +kernel, by decide +kernel, by decide +kernel⟩
theorem witness_QueueEngineRunsItsEvents_6 :
    ∃ s : State, ∃ src : Master, ∃ tag : BitVec 8, ∃ a : Assembly, s.assembly src tag = some a ∧ s.now < a.last + 64000 :=
  ⟨(let s := State.reset; { s with qe := { s.qe with assemblies := [{ head := ⟨.husk, 0, 0, false, 0⟩, entry := ⟨0, 0, 0, 0, 0, [], false⟩ }] } }), Master.husk, 0, { head := ⟨.husk, 0, 0, false, 0⟩, entry := ⟨0, 0, 0, 0, 0, [], false⟩ },
    by decide +kernel, by decide +kernel⟩
theorem witness_QueueEngineRunsItsEvents_7 :
    ∃ s : State, s.qeFrozen = true :=
  ⟨((State.reset.setBit F.DBG_STATUS_frozen true).setBit F.DBG_FREEZE_qe true),
    by decide +kernel⟩
theorem witness_QueueEngineRunsItsEvents_8 :
    ∃ s : State, ∃ q : BitVec 20, s.qeFrozen = false ∧ (s.queue q.toNat).hasReleased s.now = true ∧ (s.queue q.toNat).announced = false ∧ (s.queue q.toNat).notify = 1 :=
  ⟨(withQueue 0x01000000 0 [⟨0, 0, 0, 0, 0, [], false⟩]), 0,
    by decide +kernel, by decide +kernel, by decide +kernel, by decide +kernel⟩
theorem witness_QueueEngineRunsItsEvents_9 :
    ∃ s : State, ∃ q : BitVec 20, ∃ e : QEntry, ∃ l : List QEntry, s.qeFrozen = false ∧ (s.queue q.toNat).launch = true ∧ s.qGate q.toNat = 0 ∧ (s.queue q.toNat).entries = e :: l ∧ e.ready = false ∧ e.due ≤ s.now + 1000 * s.fld F.QE_LAUNCH_CFG_lead_us ∧ (s.setQueue q.toNat { s.queue q.toNat with entries := { e with ready := true } :: l }).buffered ≤ 2097152 :=
  ⟨(withQueue 0x40000000 0 [⟨0, 0, 0, 0, 0, [], false⟩]), 0, ⟨0, 0, 0, 0, 0, [], false⟩, [],
    by decide +kernel, by decide +kernel, by decide +kernel, by decide +kernel, by decide +kernel, by decide +kernel, by decide +kernel⟩
theorem witness_QueueEngineRunsItsEvents_10 :
    ∃ s : State, ∃ q : BitVec 20, ∃ e : QEntry, ∃ l : List QEntry, ∃ d : List (List Byte × Word × Bool) × State, s.qeFrozen = false ∧ (s.queue q.toNat).launch = true ∧ s.qGate q.toNat = 0 ∧ (s.queue q.toNat).held = 0 ∧ (s.queue q.toNat).entries = e :: l ∧ e.due = s.now ∧ s.chainLost q.toNat none = none ∧ d = s.readGrans true e.grans :=
  ⟨(withQueue 0x40000000 0 [⟨0, 0, 0, 0, 0, [], false⟩]), 0, ⟨0, 0, 0, 0, 0, [], false⟩, [], _,
    by decide +kernel, by decide +kernel, by decide +kernel, by decide +kernel, by decide +kernel, by decide +kernel, by decide +kernel, rfl⟩
theorem witness_QueueEngineRunsItsEvents_11 :
    ∃ s : State, ∃ q : BitVec 20, ∃ e : QEntry, ∃ l : List QEntry, ∃ t : Nat, s.qeFrozen = false ∧ (s.queue q.toNat).launch = true ∧ s.qGate q.toNat = 0 ∧ (s.queue q.toNat).held = 0 ∧ (s.queue q.toNat).entries = e :: l ∧ s.lateLimit e = some t ∧ t ≤ s.now :=
  ⟨(((withQueue 0x40000000 0 [⟨0, 0, 0, 0, 0, [], false⟩]).setFld F.QE_LAUNCH_CFG_late_limit_us 1).atTime 1000), 0, ⟨0, 0, 0, 0, 0, [], false⟩, [], 1000,
    by decide +kernel, by decide +kernel, by decide +kernel, by decide +kernel, by decide +kernel, by decide +kernel, by decide +kernel⟩
theorem witness_QueueEngineRunsItsEvents_12 :
    ∃ s : State, ∃ q : BitVec 20, ∃ m : Nat × List QReq, s.qe.misses.find? (·.1 == q.toNat) = some m :=
  ⟨(let s := (withQueue 0 0 []); { s with qe := { s.qe with misses := [(0, [])] } }), 0, (0, []),
    by decide +kernel⟩
theorem witness_QueueEngineRunsItsEvents_13 :
    ∃ s : State, ∃ m : Master, ∃ q : Nat, ∃ x : Queue, ∃ c : List Nat, q = s.srcFld m F.QE_DESC_SEL_queue ∧ x = s.queue q ∧ c = chainOf x.entries ∧ c ≠ [] :=
  ⟨(withQueue 0 0 [⟨0, 0, 0, 0, 0, [⟨1, 256, 0, false⟩], false⟩]), Master.husk, _, _, _,
    rfl, rfl, rfl, by decide +kernel⟩
theorem witness_QueueEngineRunsItsEvents_14 :
    ∃ s : State, ∃ m : Master, ∃ q : Nat, ∃ w : List Word, q = s.srcFld m F.QE_DESC_SEL_queue ∧ w = s.window m :=
  ⟨State.reset, Master.husk, _, _,
    rfl, rfl⟩
theorem witness_QueueEngineRunsItsEvents_15 :
    ∃ s : State, ∃ m : Master, ∃ q : Nat, q = s.srcFld m F.QE_DESC_SEL_queue :=
  ⟨State.reset, Master.husk, _,
    rfl⟩
theorem witness_QueueEngineRunsItsEvents_16 :
    ∃ s : State, ∃ m : Master, ∃ q : Nat, ∃ w : List Word, ∃ st : Nat, q = s.srcFld m F.QE_DESC_SEL_queue ∧ w = s.window m ∧ st = s.descCheck q w ∧ st ≠ 0 :=
  ⟨(State.reset.setSrcReg .husk (R.QE_DESC_W 2) 0x0C000000), Master.husk, _, _, _,
    rfl, rfl, rfl, by decide +kernel⟩
theorem witness_QueueEngineRunsItsEvents_17 :
    ∃ s : State, ∃ m : Master, ∃ q : Nat, ∃ w : List Word, ∃ r : QReq, ∃ x : Nat × State, q = s.srcFld m F.QE_DESC_SEL_queue ∧ w = s.window m ∧ s.descCheck q w = 0 ∧ s.qe.staged.length < 4096 ∧ r.head = QHead.mk m 0 (BitVec.ofNat 20 q) false (BitVec.ofNat 8 (s.srcFld m F.QE_DESC_SEL_txid)) ∧ r.kind = .flush none ∧ r.pkt = none ∧ x = s.qStage r (.descriptor (BitVec.ofNat 20 q) w) 0 [] :=
  ⟨State.reset, Master.husk, _, _, ⟨⟨.husk, 0, 0, false, 0⟩, .flush none, none⟩, _,
    rfl, rfl, by decide +kernel, by decide +kernel, by decide +kernel, by decide +kernel, by decide +kernel, rfl⟩
theorem witness_QueueEngineRunsItsEvents_19 :
    ∃ s : State, ∃ part : Master, ∃ id : BitVec 8, (s.store id.toNat part).ackSent = false ∧ part.same Unit.qe = false :=
  ⟨(let s := State.reset; s.setStore (0 : BitVec 8).toNat Master.host { s.store (0 : BitVec 8).toNat Master.host with ackSent := false }), Master.host, 0,
    by decide +kernel, by decide +kernel⟩
theorem witness_QueueEngineRunsItsEvents_20 :
    ∃ s : State, ∃ part : Master, ∃ id : BitVec 8, ∃ m : Master, (s.store id.toNat part).ackSent = true ∧ part.same Unit.qe = false ∧ (s.store id.toNat part).waiting = some m ∧ (s.store id.toNat part).posted = true :=
  ⟨(let s := (let s := (let s := State.reset; s.setStore (0 : BitVec 8).toNat Master.host { s.store (0 : BitVec 8).toNat Master.host with ackSent := true }); s.setStore (0 : BitVec 8).toNat Master.host { s.store (0 : BitVec 8).toNat Master.host with waiting := some Master.husk }); s.setStore (0 : BitVec 8).toNat Master.host { s.store (0 : BitVec 8).toNat Master.host with posted := true }), Master.host, 0, Master.husk,
    by decide +kernel, by decide +kernel, by decide +kernel, by decide +kernel⟩

end
end

