-- ==== Sys2Proof/Tests/WitnessTimes.lean ====
section
/-! SUPPORT. Witnesses: witness_<statement>_<k> shows a state and operands that meet the premises
of clause k of that statement, for time, transactions, cue slots, scratchpad and mailboxes. -/

open Sys2Proof Sys2Proof.Machine

section
set_option Elab.async false

/-- Every transaction ID taken. -/
def fullTxu : State :=
  { State.reset with txu := { State.reset.txu with txs := (List.range 255).map fun i => (i + 1, { state := .staging }) } }
theorem witness_TransactionsOpenCommitAndEnd_1 : ∃ s : State, ∀ i, 0 < i → i < 256 → (s.tx i).state ≠ .free :=
  ⟨fullTxu, fun i h1 h2 => (by decide +kernel : ∀ i < 256, 0 < i → (fullTxu.tx i).state ≠ .free) i h2 h1⟩

theorem witness_ServoHolderSetsTheRate_1 :
    ∃ s : State, ∃ m : Master, ∃ x : Dom, ∃ v : BitVec 32, s.isServo m x.isB = true ∧ 0x0FFBE76D ≤ BitVec.toNat v ∧ BitVec.toNat v ≤ 0x10041893 :=
  ⟨State.reset, Master.husk, Dom.a, 0x10000000,
    by decide +kernel, by decide +kernel, by decide +kernel⟩
theorem witness_ServoHolderSetsTheRate_2 :
    ∃ s : State, ∃ m : Master, ∃ x : Dom, ∃ v : BitVec 32, s.isServo m x.isB = true ∧ (BitVec.toNat v < 0x0FFBE76D ∨ 0x10041893 < BitVec.toNat v) :=
  ⟨State.reset, Master.husk, Dom.a, 0,
    by decide +kernel, by decide +kernel⟩
theorem witness_ServoHolderSetsTheRate_3 :
    ∃ s : State, ∃ m : Master, ∃ x : Dom, s.isServo m x.isB = true :=
  ⟨State.reset, Master.husk, Dom.a,
    by decide +kernel⟩
theorem witness_ServoHolderSetsTheRate_4 :
    ∃ s : State, ∃ m : Master, ∃ x : Dom, s.isServo m x.isB = false :=
  ⟨State.reset, Master.host, Dom.a,
    by decide +kernel⟩
theorem witness_ServoHolderSetsTheRate_5 :
    ∃ s : State, ∃ m : Master, ∃ x : Dom, s.isServo m x.isB = true :=
  ⟨State.reset, Master.husk, Dom.a,
    by decide +kernel⟩
theorem witness_ServoHolderSetsTheRate_6 :
    ∃ s : State, ∃ m : Master, ∃ x : Dom, s.isServo m x.isB = true ∧ s.bit (F.TIM_x_ADJ_CTRL_busy x.idx) = false ∧ s.stepBarred x.isB (s.adjAmount x) = false :=
  ⟨(State.reset.setBit (F.TIM_x_ADJ_CTRL_busy (Dom.a : Dom).idx) false), Master.husk, Dom.a,
    by decide +kernel, by decide +kernel, by decide +kernel⟩
theorem witness_ServoHolderSetsTheRate_7 :
    ∃ s : State, ∃ m : Master, ∃ x : Dom, s.isServo m x.isB = true ∧ s.bit (F.TIM_x_ADJ_CTRL_busy x.idx) = false ∧ s.stepBarred x.isB (s.adjAmount x) = true :=
  ⟨(((State.reset.setBit (F.TIM_x_ADJ_CTRL_busy (Dom.a : Dom).idx) false).setReg (R.TIM_x_ADJ_LO 0) 200000000).cueHold .dev 7 0 0 false (.launch 7)), Master.husk, Dom.a,
    by decide +kernel, by decide +kernel, by decide +kernel⟩
theorem witness_ServoHolderSetsTheRate_8 :
    ∃ s : State, ∃ m : Master, ∃ x : Dom, s.isServo m x.isB = true ∧ s.bit (F.TIM_x_ADJ_CTRL_busy x.idx) = true :=
  ⟨(State.reset.setBit (F.TIM_x_ADJ_CTRL_busy (Dom.a : Dom).idx) true), Master.husk, Dom.a,
    by decide +kernel, by decide +kernel⟩
theorem witness_ServoHolderSetsTheRate_9 :
    ∃ s : State, ∃ m : Master, ∃ x : Dom, ∃ r : BitVec 20, s.isServo m x.isB = true ∧ s.bit (F.TIM_x_ADJ_CTRL_busy x.idx) = false ∧ 1 ≤ BitVec.toNat r ∧ BitVec.toNat r ≤ 100000 :=
  ⟨(State.reset.setBit (F.TIM_x_ADJ_CTRL_busy (Dom.a : Dom).idx) false), Master.husk, Dom.a, 1,
    by decide +kernel, by decide +kernel, by decide +kernel, by decide +kernel⟩
theorem witness_ServoHolderSetsTheRate_10 :
    ∃ s : State, ∃ m : Master, ∃ x : Dom, s.isServo m x.isB = true ∧ (s.dom x.isB).slewing = true :=
  ⟨(let s := State.reset; s.setDom (Dom.a : Dom).isB { s.dom (Dom.a : Dom).isB with slewing := true }), Master.husk, Dom.a,
    by decide +kernel, by decide +kernel⟩
theorem witness_ServoHolderSetsTheRate_11 :
    ∃ s : State, ∃ x : Dom, (s.dom x.isB).slewing = true ∧ (s.dom x.isB).slewRemain.natAbs ≤ (slewQuantum (s.dom x.isB).slewAcc (s.fld (F.TIM_x_ADJ_CTRL_rate_ns_s x.idx))).1 :=
  ⟨(let s := State.reset; s.setDom (Dom.a : Dom).isB { s.dom (Dom.a : Dom).isB with slewing := true }), Dom.a,
    by decide +kernel, by decide +kernel⟩
theorem witness_ServoHolderSetsTheRate_12 :
    ∃ s : State, ∃ m : Master, ∃ x : Dom, s.bit (F.TIM_x_SERVO_takeover_ok x.idx) = true ∧ s.huskServo x.isB = true ∧ m.same .husk = false :=
  ⟨(State.reset.setBit (F.TIM_x_SERVO_takeover_ok (Dom.a : Dom).idx) true), Master.host, Dom.a,
    by decide +kernel, by decide +kernel, by decide +kernel⟩
theorem witness_ServoHolderSetsTheRate_13 :
    ∃ s : State, ∃ x : Dom, (s.bit (F.TIM_x_SERVO_takeover_ok x.idx) = false ∨ s.huskServo x.isB = false) :=
  ⟨(State.reset.setBit (F.TIM_x_SERVO_takeover_ok (Dom.a : Dom).idx) false), Dom.a,
    by decide +kernel⟩
theorem witness_ServoHolderSetsTheRate_14 :
    ∃ s : State, ∃ m : Master, ∃ x : Dom, ∃ h : Master, (s.dom x.isB).holder = some h ∧ h.same m = true :=
  ⟨(let s := State.reset; s.setDom (Dom.a : Dom).isB { s.dom (Dom.a : Dom).isB with holder := some Master.husk }), Master.husk, Dom.a, Master.husk,
    by decide +kernel, by decide +kernel⟩
theorem witness_ServoHolderSetsTheRate_15 :
    ∃ s : State, ∃ x : Dom, (s.dom x.isB).holder = none :=
  ⟨(let s := State.reset; s.setDom (Dom.a : Dom).isB { s.dom (Dom.a : Dom).isB with holder := none }), Dom.a,
    by decide +kernel⟩
theorem witness_ServoHolderSetsTheRate_16 :
    ∃ s : State, ∃ x : Dom, ∃ e : BitVec 64, s.huskServo x.isB = true ∧ s.domState x.isB = DomState.acquiring ∧ (s.dom x.isB).acquired = false ∧ 1000000 < (BitVec.toInt e).natAbs ∧ s.stepBarred x.isB (-BitVec.toInt e) = false :=
  ⟨(let s := (State.reset.setDomState (Dom.a : Dom).isB DomState.acquiring); s.setDom (Dom.a : Dom).isB { s.dom (Dom.a : Dom).isB with acquired := false }), Dom.a, 2000000,
    by decide +kernel, by decide +kernel, by decide +kernel, by decide +kernel, by decide +kernel⟩
theorem witness_ServoHolderSetsTheRate_17 :
    ∃ s : State, ∃ x : Dom, ∃ e : BitVec 64, s.huskServo x.isB = true ∧ s.domState x.isB = DomState.locked ∧ s.bit (F.TIM_x_ADJ_CTRL_busy x.idx) = false ∧ BitVec.toInt e ≠ 0 :=
  ⟨((State.reset.setDomState (Dom.a : Dom).isB DomState.locked).setBit (F.TIM_x_ADJ_CTRL_busy (Dom.a : Dom).idx) false), Dom.a, 1,
    by decide +kernel, by decide +kernel, by decide +kernel, by decide +kernel⟩
theorem witness_ServoHolderSetsTheRate_18 :
    ∃ s : State, ∃ x : Dom, s.huskServo x.isB = false ∧ s.fld (F.TIM_x_OWNER_wd_ms x.idx) ≠ 0 ∧ s.domState x.isB = DomState.locked ∧ (s.dom x.isB).wdFrom + 1000000 * s.fld (F.TIM_x_OWNER_wd_ms x.idx) ≤ s.tim.uptime :=
  ⟨(((let s := (State.reset.setDomState (Dom.a : Dom).isB DomState.locked); { s with tim := { s.tim with a := { s.tim.a with holder := some .host } } }).setFld (F.TIM_x_OWNER_wd_ms 0) 1).upFor 1000000), Dom.a,
    by decide +kernel, by decide +kernel, by decide +kernel, by decide +kernel⟩
theorem witness_ServoHolderSetsTheRate_19 :
    ∃ s : State, ∃ x : Dom, s.tim.uptime < (s.dom x.isB).wdFrom + 1000000 * s.fld (F.TIM_x_OWNER_wd_ms x.idx) :=
  ⟨State.reset, Dom.a,
    by decide +kernel⟩
theorem witness_DomainStatesFollowTheirSources_1 :
    ∃ s : State, ∃ x : Dom, s.huskServo x.isB = true ∧ (s.domState x.isB = DomState.free ∨ s.domState x.isB = DomState.holdover) ∧ s.bit F.TIM_SVC_CTRL_auto = false :=
  ⟨((State.reset.setDomState (Dom.a : Dom).isB DomState.free).setBit F.TIM_SVC_CTRL_auto false), Dom.a,
    by decide +kernel, by decide +kernel, by decide +kernel⟩
theorem witness_DomainStatesFollowTheirSources_2 :
    ∃ s : State, ∃ x : Dom, (s.huskServo x.isB = false ∨ (s.domState x.isB ≠ DomState.free ∧ s.domState x.isB ≠ DomState.holdover)) :=
  ⟨(let s := State.reset; { s with tim := { s.tim with a := { s.tim.a with holder := some .host } } }), Dom.a,
    by decide +kernel⟩
theorem witness_DomainStatesFollowTheirSources_3 :
    ∃ s : State, ∃ x : Dom, s.huskServo x.isB = true ∧ s.domState x.isB = DomState.acquiring ∧ s.bit F.TIM_SVC_CTRL_auto = false :=
  ⟨((State.reset.setDomState (Dom.a : Dom).isB DomState.acquiring).setBit F.TIM_SVC_CTRL_auto false), Dom.a,
    by decide +kernel, by decide +kernel, by decide +kernel⟩
theorem witness_DomainStatesFollowTheirSources_4 :
    ∃ s : State, ∃ x : Dom, (s.huskServo x.isB = false ∨ s.domState x.isB ≠ DomState.acquiring) :=
  ⟨State.reset, Dom.a,
    by decide +kernel⟩
theorem witness_DomainStatesFollowTheirSources_5 :
    ∃ s : State, ∃ x : Dom, s.huskServo x.isB = true ∧ s.domState x.isB = DomState.locked ∧ s.bit F.TIM_SVC_CTRL_auto = false :=
  ⟨((State.reset.setDomState (Dom.a : Dom).isB DomState.locked).setBit F.TIM_SVC_CTRL_auto false), Dom.a,
    by decide +kernel, by decide +kernel, by decide +kernel⟩
theorem witness_DomainStatesFollowTheirSources_6 :
    ∃ s : State, ∃ x : Dom, s.huskServo x.isB = true ∧ (s.domState x.isB = DomState.locked ∨ (s.domState x.isB = DomState.acquiring ∧ (s.dom x.isB).everLocked = true)) ∧ s.bit F.TIM_SVC_CTRL_auto = false :=
  ⟨((State.reset.setDomState (Dom.a : Dom).isB DomState.locked).setBit F.TIM_SVC_CTRL_auto false), Dom.a,
    by decide +kernel, by decide +kernel, by decide +kernel⟩
theorem witness_DomainStatesFollowTheirSources_7 :
    ∃ s : State, ∃ x : Dom, s.huskServo x.isB = true ∧ s.domState x.isB = DomState.acquiring ∧ (s.dom x.isB).everLocked = false ∧ s.bit F.TIM_SVC_CTRL_auto = false :=
  ⟨((let s := (State.reset.setDomState (Dom.a : Dom).isB DomState.acquiring); s.setDom (Dom.a : Dom).isB { s.dom (Dom.a : Dom).isB with everLocked := false }).setBit F.TIM_SVC_CTRL_auto false), Dom.a,
    by decide +kernel, by decide +kernel, by decide +kernel, by decide +kernel⟩
theorem witness_DomainStatesFollowTheirSources_9 :
    ∃ s : State, ∃ m : Master, ∃ x : Dom, (m.same .husk = true ∨ s.isServo m x.isB = true) :=
  ⟨State.reset, Master.husk, Dom.a,
    by decide +kernel⟩
theorem witness_DomainStatesFollowTheirSources_11 :
    ∃ s : State, ∃ x : Dom, s.domState x.isB = DomState.holdover ∧ s.bit (F.TIM_x_CTRL_legacy_holdover x.idx) = true ∧ (s.reg (R.TIM_x_HO_SECONDS x.idx)).toNat < 0xFFFFFFFF :=
  ⟨((State.reset.setDomState (Dom.a : Dom).isB DomState.holdover).setBit (F.TIM_x_CTRL_legacy_holdover (Dom.a : Dom).idx) true), Dom.a,
    by decide +kernel, by decide +kernel, by decide +kernel⟩
theorem witness_DomainStatesFollowTheirSources_12 :
    ∃ s : State, ∃ x : Dom, s.domState x.isB ≠ DomState.holdover :=
  ⟨State.reset, Dom.a,
    by decide +kernel⟩
theorem witness_DomainStatesFollowTheirSources_13 :
    ∃ s : State, s.bit F.TIM_MODEL_STATUS_frozen = false ∧ s.bit F.CLK_SRC_STATUS_xtime_ok = true ∧ (s.domState false = DomState.locked ∨ s.domState true = DomState.locked) :=
  ⟨(((State.reset.setBit F.TIM_MODEL_STATUS_frozen false).setBit F.CLK_SRC_STATUS_xtime_ok true).setDomState false DomState.locked),
    by decide +kernel, by decide +kernel, by decide +kernel⟩
theorem witness_ServiceTimeAndTimersRun_1 :
    ∃ s : State, ∃ sel : Bool, ∃ fo : Bool, (s.domState sel ≠ DomState.free ∨ fo = true) :=
  ⟨State.reset, false, true,
    by decide +kernel⟩
theorem witness_ServiceTimeAndTimersRun_2 :
    ∃ s : State, ∃ sel : Bool, s.domState sel = DomState.free :=
  ⟨(State.reset.setDomState false DomState.free), false,
    by decide +kernel⟩
theorem witness_ServiceTimeAndTimersRun_3 :
    ∃ s : State, s.tim.offset ≠ 0 ∧ s.tim.offset.natAbs ≤ (slewQuantum s.tim.offsetAcc (s.fld F.TIM_SVC_SLEW_rate_ns_s)).1 :=
  ⟨(let s := State.reset; { s with tim := { s.tim with offset := 1 } }),
    by decide +kernel, by decide +kernel⟩
theorem witness_ServiceTimeAndTimersRun_4 :
    ∃ s : State, s.tim.offset = 0 :=
  ⟨(let s := State.reset; { s with tim := { s.tim with offset := 0 } }),
    by decide +kernel⟩
theorem witness_ServiceTimeAndTimersRun_5 :
    ∃ s : State, s.ppsEnabled = true :=
  ⟨(((State.reset.setBit F.TIM_PPS_CTRL_enable true).inMode Mode.service).setDomState false DomState.locked),
    by decide +kernel⟩
theorem witness_ServiceTimeAndTimersRun_6 :
    ∃ s : State, s.ppsEnabled = false :=
  ⟨State.reset,
    by decide +kernel⟩
theorem witness_ServiceTimeAndTimersRun_9 :
    ∃ s : State, s.bit F.TIM_WRAP_mbx_en = false :=
  ⟨(State.reset.setBit F.TIM_WRAP_mbx_en false),
    by decide +kernel⟩
theorem witness_ServiceTimeAndTimersRun_11 :
    ∃ s : State, ∃ m : Master, ∃ k : Fin 32, s.holds m (R.DEV_CLAIM (0x1C0 + k.val)) = true ∧ s.classOf (s.reg (R.TIM_TMR_START k.val)) ≠ .outside :=
  ⟨(State.reset.setHolder (R.DEV_CLAIM (0x1C0 + 0)) (some Master.husk)), Master.husk, 0,
    by decide +kernel, by decide +kernel⟩
theorem witness_ServiceTimeAndTimersRun_12 :
    ∃ s : State, ∃ m : Master, ∃ k : Fin 32, s.holds m (R.DEV_CLAIM (0x1C0 + k.val)) = false :=
  ⟨State.reset, Master.husk, 0,
    by decide +kernel⟩
theorem witness_ServiceTimeAndTimersRun_13 :
    ∃ s : State, ∃ m : Master, ∃ k : Fin 32, s.holds m (R.DEV_CLAIM (0x1C0 + k.val)) = true ∧ s.classOf (s.reg (R.TIM_TMR_START k.val)) = .outside :=
  ⟨((State.reset.setHolder (R.DEV_CLAIM (0x1C0 + 0)) (some Master.husk)).setReg (R.TIM_TMR_START 0) 0x7FFFFFFF), Master.husk, 0,
    by decide +kernel, by decide +kernel⟩
theorem witness_ServiceTimeAndTimersRun_14 :
    ∃ s : State, ∃ m : Master, ∃ k : Fin 32, s.holds m (R.DEV_CLAIM (0x1C0 + k.val)) = true :=
  ⟨(State.reset.setHolder (R.DEV_CLAIM (0x1C0 + 0)) (some Master.husk)), Master.husk, 0,
    by decide +kernel⟩
theorem witness_ServiceTimeAndTimersRun_15 :
    ∃ s : State, ∃ k : Fin 32, ∃ i : Nat, (s.timer k.val).next = some i ∧ i ≤ s.now ∧ s.bit (F.TIM_TMR_CTRL_running k.val) = true ∧ (s.reg (R.TIM_TMR_PERIOD k.val)).toNat = 0 ∧ s.fld (F.TIM_TMR_CTRL_action k.val) = 0 :=
  ⟨(((let s := State.reset; s.setTimer 0 { s.timer 0 with next := some 0 }).setBit (F.TIM_TMR_CTRL_running 0) true).setFld (F.TIM_TMR_CTRL_action 0) 0), 0, 0,
    by decide +kernel, by decide +kernel, by decide +kernel, by decide +kernel, by decide +kernel⟩
theorem witness_ServiceTimeAndTimersRun_16 :
    ∃ s : State, ∃ k : Fin 32, ∃ i : Nat, ∃ p : Nat, (s.timer k.val).next = some i ∧ i ≤ s.now ∧ s.bit (F.TIM_TMR_CTRL_running k.val) = true ∧ p = (s.reg (R.TIM_TMR_PERIOD k.val)).toNat ∧ 0 < p ∧ s.fld (F.TIM_TMR_CTRL_action k.val) = 2 :=
  ⟨((((let s := State.reset; s.setTimer 0 { s.timer 0 with next := some 0 }).setBit (F.TIM_TMR_CTRL_running 0) true).setFld (F.TIM_TMR_CTRL_action 0) 2).setReg (R.TIM_TMR_PERIOD 0) 1000), 0, 0, _,
    by decide +kernel, by decide +kernel, by decide +kernel, rfl, by decide +kernel, by decide +kernel⟩
theorem witness_ServiceTimeAndTimersRun_17 :
    ∃ s : State, ∃ k : Fin 32, ∃ i : Nat, (s.timer k.val).next = some i ∧ s.now < i :=
  ⟨(let s := State.reset; s.setTimer 0 { s.timer 0 with next := some 5 }), 0, 5,
    by decide +kernel, by decide +kernel⟩

theorem witness_TransactionsOpenCommitAndEnd_2 :
    ∃ s : State, ∃ i : Nat, 0 < i ∧ i < 256 ∧ (s.tx i).state = .free :=
  ⟨(let s := State.reset; s.setTx 1 { s.tx 1 with state := .free }), 1,
    by decide +kernel, by decide +kernel, by decide +kernel⟩
theorem witness_TransactionsOpenCommitAndEnd_3 :
    ∃ s : State, ∃ m : Master, ∃ id : BitVec 8, s.opened m id.toNat = false :=
  ⟨State.reset, Master.husk, 0,
    by decide +kernel⟩
theorem witness_TransactionsOpenCommitAndEnd_4 :
    ∃ s : State, ∃ m : Master, ∃ id : BitVec 8, s.opened m id.toNat = true ∧ (s.tx id.toNat).takes = false :=
  ⟨(withTx { state := .committed }), Master.husk, 1,
    by decide +kernel, by decide +kernel⟩
theorem witness_TransactionsOpenCommitAndEnd_5 :
    ∃ s : State, ∃ m : Master, ∃ id : BitVec 8, ∃ l : Word, s.opened m id.toNat = true ∧ (s.tx id.toNat).takes = true ∧ s.classOf l = .outside :=
  ⟨(withTx { state := .staging }), Master.husk, 1, 0x7FFFFFFF,
    by decide +kernel, by decide +kernel, by decide +kernel⟩
theorem witness_TransactionsOpenCommitAndEnd_6 :
    ∃ s : State, ∃ m : Master, ∃ id : BitVec 8, ∃ l : Word, s.opened m id.toNat = true ∧ (s.tx id.toNat).takes = true ∧ s.classOf l ≠ .outside ∧ ((s.classOf l = .reached ∨ (l - s.now32).toNat < 5000)) :=
  ⟨(withTx { state := .staging }), Master.husk, 1, 0,
    by decide +kernel, by decide +kernel, by decide +kernel, by decide +kernel⟩
theorem witness_TransactionsOpenCommitAndEnd_7 :
    ∃ s : State, ∃ m : Master, ∃ id : BitVec 8, ∃ l : Launch, ∃ p : Part, ∃ ps : List Part, s.opened m id.toNat = true ∧ (s.tx id.toNat).takes = true ∧ (s.tx id.toNat).parts = p :: ps ∧ ((l = .asap ∨ ∃ w, l = .at w ∧ s.classOf w = .ahead ∧ 5000 ≤ (w - s.now32).toNat)) :=
  ⟨(withTx { state := .staging, parts := [⟨.host, none, false, false, false⟩] }), Master.husk, 1, .asap, ⟨.host, none, false, false, false⟩, [],
    by decide +kernel, by decide +kernel, by decide +kernel, by decide +kernel⟩
theorem witness_TransactionsOpenCommitAndEnd_8 :
    ∃ s : State, ∃ m : Master, ∃ id : BitVec 8, s.opened m id.toNat = true ∧ (s.tx id.toNat).takes = true ∧ (s.tx id.toNat).parts = [] ∧ (s.tx id.toNat).sub = [] :=
  ⟨(withTx { state := .staging }), Master.husk, 1,
    by decide +kernel, by decide +kernel, by decide +kernel, by decide +kernel⟩
theorem witness_TransactionsOpenCommitAndEnd_9 :
    ∃ s : State, ∃ m : Master, ∃ id : BitVec 8, s.opened m id.toNat = true ∧ (s.tx id.toNat).undecided = true :=
  ⟨(withTx { state := .staging }), Master.husk, 1,
    by decide +kernel, by decide +kernel⟩
theorem witness_TransactionsOpenCommitAndEnd_10 :
    ∃ s : State, ∃ m : Master, ∃ id : BitVec 8, s.opened m id.toNat = true ∧ (s.tx id.toNat).undecided = false :=
  ⟨(withTx { state := .ended }), Master.husk, 1,
    by decide +kernel, by decide +kernel⟩
theorem witness_TransactionsOpenCommitAndEnd_12 :
    ∃ s : State, ∃ m : Master, ∃ id : BitVec 8, s.opened m id.toNat = true :=
  ⟨(withTx { state := .staging }), Master.husk, 1,
    by decide +kernel⟩
theorem witness_TransactionsOpenCommitAndEnd_13 :
    ∃ s : State, ∃ part : Master, ∃ id : BitVec 8, ∃ p : Part, ∃ d : BitVec 16, findPart part (s.tx id.toNat).parts = some p ∧ p.voted = false ∧ (s.store id.toNat part).vote = some (.refuse d) ∧ (s.tx id.toNat).state = .preparing ∧ (s.tx id.toNat).aborting = false :=
  ⟨((withTx { state := .preparing, parts := [⟨.host, none, false, false, false⟩] }).setStore 1 .host { vote := some (.refuse 5) }), Master.host, 1, ⟨.host, none, false, false, false⟩, 5,
    by decide +kernel, by decide +kernel, by decide +kernel, by decide +kernel, by decide +kernel⟩
theorem witness_TransactionsOpenCommitAndEnd_14 :
    ∃ s : State, ∃ part : Master, ∃ id : BitVec 8, ∃ p : Part, ∃ v : List Part, findPart part (s.tx id.toNat).parts = some p ∧ p.voted = false ∧ (s.store id.toNat part).vote = some .prepared ∧ (s.tx id.toNat).state = .preparing ∧ (s.tx id.toNat).aborting = false ∧ (v = updPart part (fun p => { p with voted := true }) (s.tx id.toNat).parts) :=
  ⟨((withTx { state := .preparing, parts := [⟨.host, none, false, false, false⟩] }).setStore 1 .host { vote := some .prepared }), Master.host, 1, ⟨.host, none, false, false, false⟩, _,
    by decide +kernel, by decide +kernel, by decide +kernel, by decide +kernel, by decide +kernel, rfl⟩
theorem witness_TransactionsOpenCommitAndEnd_15 :
    ∃ s : State, ∃ id : Nat, (s.tx id).launch = .asap :=
  ⟨(withTx { state := .staging }), 1,
    by decide +kernel⟩
theorem witness_TransactionsOpenCommitAndEnd_16 :
    ∃ s : State, ∃ id : Nat, ∃ l : Word, (s.tx id).launch = .at l ∧ s.classOf l = .ahead ∧ 5000 ≤ (l - s.now32).toNat :=
  ⟨(withTx { state := .preparing, launch := .at 6000 }), 1, 6000,
    by decide +kernel, by decide +kernel, by decide +kernel⟩
theorem witness_TransactionsOpenCommitAndEnd_17 :
    ∃ s : State, ∃ id : Nat, (s.tx id).parts ≠ [] :=
  ⟨(withTx { state := .staging, parts := [⟨.host, none, false, false, false⟩] }), 1,
    by decide +kernel⟩
theorem witness_TransactionsOpenCommitAndEnd_18 :
    ∃ s : State, ∃ part : Master, ∃ id : BitVec 8, (s.store id.toNat part).withdrawn = true ∧ (s.tx id.toNat).undecided = true :=
  ⟨((withTx { state := .staging }).setStore 1 .husk { withdrawn := true }), Master.husk, 1,
    by decide +kernel, by decide +kernel⟩
theorem witness_TransactionsOpenCommitAndEnd_19 :
    ∃ s : State, ∃ id : BitVec 8, (s.tx id.toNat).undecided = true ∧ (s.tx id.toNat).frozen = false ∧ (s.tx id.toNat).dueAt ≤ s.tim.uptime :=
  ⟨(withTx { state := .staging }), 1,
    by decide +kernel, by decide +kernel, by decide +kernel⟩
theorem witness_TransactionsOpenCommitAndEnd_20 :
    ∃ s : State, ∃ part : Master, ∃ id : BitVec 8, ∃ p : Part, ∃ a : TxAnswer, ∃ v : List Part, findPart part (s.tx id.toNat).parts = some p ∧ p.answered = false ∧ (s.store id.toNat part).answer = some a ∧ ((s.tx id.toNat).aborting = true ∨ (s.tx id.toNat).state = .committed) ∧ (v = updPart part (fun p => { p with answered := true, applied := a == .applied, msg := none }) (s.tx id.toNat).parts) :=
  ⟨((withTx { state := .committed, parts := [⟨.host, none, false, false, false⟩] }).setStore 1 .host { answer := some .applied }), Master.host, 1, ⟨.host, none, false, false, false⟩, TxAnswer.applied, _,
    by decide +kernel, by decide +kernel, by decide +kernel, by decide +kernel, rfl⟩
theorem witness_TransactionsOpenCommitAndEnd_21 :
    ∃ s : State, ∃ id : Nat, (s.tx id).aborting = false ∧ (s.tx id).parts.all (·.applied) = true :=
  ⟨(withTx { state := .committed, parts := [⟨.host, none, true, true, true⟩] }), 1,
    by decide +kernel, by decide +kernel⟩
theorem witness_TransactionsOpenCommitAndEnd_22 :
    ∃ s : State, ∃ id : Nat, (s.tx id).aborting = false ∧ (s.tx id).parts.all (·.applied) = false ∧ (s.tx id).sub = [] :=
  ⟨(withTx { state := .committed, parts := [⟨.host, none, false, false, false⟩] }), 1,
    by decide +kernel, by decide +kernel, by decide +kernel⟩
theorem witness_TransactionsOpenCommitAndEnd_23 :
    ∃ s : State, ∃ id : BitVec 8, (s.tx id.toNat).aborting = true :=
  ⟨(let s := State.reset; s.setTx (0 : BitVec 8).toNat { s.tx (0 : BitVec 8).toNat with aborting := true }), 0,
    by decide +kernel⟩
theorem witness_TransactionsOpenCommitAndEnd_24 :
    ∃ s : State, ∃ id : BitVec 8, (s.tx id.toNat).aborting = false ∧ (s.tx id.toNat).state = .committed :=
  ⟨(let s := (let s := State.reset; s.setTx (0 : BitVec 8).toNat { s.tx (0 : BitVec 8).toNat with aborting := false }); s.setTx (0 : BitVec 8).toNat { s.tx (0 : BitVec 8).toNat with state := .committed }), 0,
    by decide +kernel, by decide +kernel⟩
theorem witness_TransactionsOpenCommitAndEnd_25 :
    ∃ s : State, ∃ id : BitVec 8, (s.tx id.toNat).state = .ended ∧ (s.tx id.toNat).dueAt ≤ s.tim.uptime :=
  ⟨(let s := State.reset; s.setTx (0 : BitVec 8).toNat { s.tx (0 : BitVec 8).toNat with state := .ended }), 0,
    by decide +kernel, by decide +kernel⟩
theorem witness_TransactionsOpenCommitAndEnd_26 :
    ∃ s : State, ∃ id : BitVec 8, s.tim.uptime < (s.tx id.toNat).dueAt :=
  ⟨(withTx { dueAt := 1 }), 1,
    by decide +kernel⟩
theorem witness_TransactionsOpenCommitAndEnd_27 : ∃ t : Tx, ∃ h : Bool, h = !t.frozen := ⟨{}, true, rfl⟩
theorem witness_ParticipantsHoldChangesAndApply_1 :
    ∃ s : State, ∃ part : Master, ∃ m : Master, ∃ c : Change, ∃ id : BitVec 8, ((∀ q, c ≠ .dequeue q)) ∧ s.joinBlocked part m = false ∧ (s.store id.toNat part).vote = none ∧ (s.tx id.toNat).takes = false :=
  ⟨(let s := State.reset; s.setStore (1 : BitVec 8).toNat Master.husk { s.store (1 : BitVec 8).toNat Master.husk with vote := none }), Master.husk, Master.husk, Change.reg 0x10000 0, 1,
    (by intro q h; cases h), by decide +kernel, by decide +kernel, by decide +kernel⟩
theorem witness_ParticipantsHoldChangesAndApply_2 :
    ∃ s : State, ∃ part : Master, ∃ m : Master, ∃ c : Change, ∃ id : BitVec 8, ∃ v : Vote, ((∀ q, c ≠ .dequeue q)) ∧ s.joinBlocked part m = false ∧ (s.store id.toNat part).vote = some v :=
  ⟨(State.reset.setStore 1 .husk { vote := some .prepared }), Master.husk, Master.husk, Change.reg 0x10000 0, 1, .prepared,
    (by intro q h; cases h), by decide +kernel, by decide +kernel⟩
theorem witness_ParticipantsHoldChangesAndApply_3 :
    ∃ s : State, ∃ part : Master, ∃ m : Master, ∃ c : Change, ∃ id : BitVec 8, ((∀ q, c ≠ .dequeue q)) ∧ s.joinBlocked part m = false ∧ (s.store id.toNat part).vote = none ∧ (s.tx id.toNat).takes = true ∧ (s.store id.toNat part).joined = true :=
  ⟨((withTx { state := .staging }).setStore 1 .husk { joined := true }), Master.husk, Master.husk, Change.reg 0x10000 0, 1,
    (by intro q h; cases h), by decide +kernel, by decide +kernel, by decide +kernel, by decide +kernel⟩
theorem witness_ParticipantsHoldChangesAndApply_4 :
    ∃ s : State, ∃ part : Master, ∃ m : Master, ∃ c : Change, ∃ id : BitVec 8, ∃ u : State, ((∀ q, c ≠ .dequeue q)) ∧ s.joinBlocked part m = false ∧ (s.store id.toNat part).vote = none ∧ (s.tx id.toNat).takes = true ∧ (s.store id.toNat part).joined = false ∧ u = (s.putChange id.toNat part { change := c, src := m }).countStaged id.toNat c :=
  ⟨(withTx { state := .staging }), Master.husk, Master.husk, Change.reg 0x10000 0, 1, _,
    (by intro q h; cases h), by decide +kernel, by decide +kernel, by decide +kernel, by decide +kernel, rfl⟩
theorem witness_ParticipantsHoldChangesAndApply_5 :
    ∃ s : State, ∃ id : Nat, ∃ part : Master, ∃ off : BitVec 25, ∃ w : Word, s.stageRefusal id part (.reg off w) = none :=
  ⟨State.reset, 0, (.engine 0), 0x100000C, 0,
    by decide +kernel⟩
theorem witness_ParticipantsHoldChangesAndApply_6 :
    ∃ s : State, ∃ part : Master, ∃ id : BitVec 8, (s.store id.toNat part).joinSent = true ∧ (s.tx id.toNat).takes = true ∧ (s.tx id.toNat).parts.length < 4096 :=
  ⟨((withTx { state := .staging }).setStore 1 .husk { joinSent := true }), Master.husk, 1,
    by decide +kernel, by decide +kernel, by decide +kernel⟩
theorem witness_ParticipantsHoldChangesAndApply_7 :
    ∃ s : State, ∃ part : Master, ∃ id : BitVec 8, ∃ d : BitVec 16, s.txMsg id.toNat part .prepare = true ∧ (s.takeMsg id.toNat part).voteOf ((s.takeMsg id.toNat part).store id.toNat part) = .refuse d :=
  ⟨((withTx { state := .preparing, parts := [⟨.husk, some .prepare, false, false, false⟩] }).setStore 1 .husk { joined := true, refuse := some 5 }), Master.husk, 1, 5,
    by decide +kernel, by decide +kernel⟩
theorem witness_ParticipantsHoldChangesAndApply_8 :
    ∃ s : State, ∃ part : Master, ∃ id : BitVec 8, ∃ u : State, s.txMsg id.toNat part .prepare = true ∧ u = s.takeMsg id.toNat part ∧ u.voteOf (u.store id.toNat part) = .prepared :=
  ⟨((withTx { state := .preparing, parts := [⟨.husk, some .prepare, false, false, false⟩] }).setStore 1 .husk { joined := true }), Master.husk, 1, _,
    by decide +kernel, rfl, by decide +kernel⟩
theorem witness_ParticipantsHoldChangesAndApply_9 :
    ∃ s : State, ∃ part : Master, ∃ id : BitVec 8, s.txMsg id.toNat part .commit = true ∧ (s.store id.toNat part).answer = none ∧ (s.store id.toNat part).commit = none ∧ (s.store id.toNat part).vote = some .prepared ∧ s.isReached (s.tx id.toNat).tick = false :=
  ⟨((withTx { state := .committed, tick := 6000, parts := [⟨.husk, some .commit, true, false, false⟩] }).setStore 1 .husk { vote := some .prepared }), Master.husk, 1,
    by decide +kernel, by decide +kernel, by decide +kernel, by decide +kernel, by decide +kernel⟩
theorem witness_ParticipantsHoldChangesAndApply_10 :
    ∃ s : State, ∃ part : Master, ∃ id : BitVec 8, ∃ u : State, u = s.takeMsg id.toNat part ∧ s.txMsg id.toNat part .commit = true ∧ (s.store id.toNat part).answer = none ∧ (s.store id.toNat part).commit = none ∧ u.isReached (u.tx id.toNat).tick = true :=
  ⟨((withTx { state := .committed, tick := 0, parts := [⟨.husk, some .commit, true, false, false⟩] }).setStore 1 .husk { vote := some .prepared }), Master.husk, 1, _,
    rfl, by decide +kernel, by decide +kernel, by decide +kernel, by decide +kernel⟩
theorem witness_ParticipantsHoldChangesAndApply_11 :
    ∃ s : State, ∃ part : Master, ∃ id : BitVec 8, ∃ tick : Word, ∃ r : State × Bool, ∃ p : PartStore, ∃ q : PartStore, p = s.store id.toNat part ∧ p.commit = some tick ∧ p.answer = none ∧ s.isReached tick = true ∧ s.copyLost part = false ∧ part.same Unit.qe = false ∧ linkWords p.changes = [] ∧ r = s.changesApply id.toNat p.changes ∧ q = { p with changes := [], claims := [], pods := [], answer := some (if r.2 && !p.withdrawn then .applied else .notApplied) } ∧ (r.1.setStore id.toNat part q).allAnswered id.toNat = false :=
  ⟨((withTx { state := .committed, tick := 0, parts := [⟨.host, none, true, false, false⟩, ⟨.husk, none, true, false, false⟩] }).setStore 1 .host { vote := some .prepared, commit := some 0 }), Master.host, 1, 0, _, _, _,
    rfl, by decide +kernel, by decide +kernel, by decide +kernel, by decide +kernel, by decide +kernel, by decide +kernel, rfl, rfl, by decide +kernel⟩
theorem witness_ParticipantsHoldChangesAndApply_12 :
    ∃ s : State, ∃ part : Master, ∃ id : BitVec 8, ∃ tick : Word, (s.store id.toNat part).commit = some tick ∧ ((s.store id.toNat part).answer.isSome = true ∨ s.isReached tick = false ∨ s.copyLost part = true) :=
  ⟨(State.reset.setStore 1 .husk { commit := some 6000 }), Master.husk, 1, 6000,
    by decide +kernel, by decide +kernel⟩
theorem witness_ParticipantsHoldChangesAndApply_14 :
    ∃ s : State, ∃ part : Master, ∃ id : BitVec 8, ∃ u : State, s.txMsg id.toNat part .abort = true ∧ (s.store id.toNat part).answer = none ∧ u = (s.takeMsg id.toNat part).discardStaged id.toNat part :=
  ⟨(withTx { state := .preparing, parts := [⟨.husk, some .abort, true, false, false⟩] }), Master.husk, 1, _,
    by decide +kernel, by decide +kernel, rfl⟩
theorem witness_ParticipantsHoldChangesAndApply_16 :
    ∃ s : State, ∃ part : Master, ∃ id : BitVec 8, (s.store id.toNat part).vote = some .prepared ∧ (s.store id.toNat part).commit = none ∧ (s.store id.toNat part).answer = none ∧ (s.store id.toNat part).votedAt + 2000000000 ≤ s.tim.uptime :=
  ⟨((State.reset.setStore 1 .husk { vote := some .prepared }).upFor 2000000000), Master.husk, 1,
    by decide +kernel, by decide +kernel, by decide +kernel, by decide +kernel⟩
theorem witness_ParticipantsHoldChangesAndApply_17 :
    ∃ s : State, ∃ m : Master, ∃ a : Nat, a = (s.srcReg m R.TXU_STAGE_ADDR_LO).toNat + 2 ^ 32 * bitsOf (s.srcReg m R.TXU_STAGE_ADDR_HI) 0 16 ∧ a % 4 ≠ 0 :=
  ⟨(State.reset.setSrcReg .husk R.TXU_STAGE_ADDR_LO 2), Master.husk, _,
    rfl, by decide +kernel⟩
theorem witness_ParticipantsHoldChangesAndApply_18 :
    ∃ s : State, ∃ m : Master, ∃ data : BitVec 32, ∃ a : Nat, ∃ id : Nat, ∃ part : Master, ∃ c : Change, a = (s.srcReg m R.TXU_STAGE_ADDR_LO).toNat + 2 ^ 32 * bitsOf (s.srcReg m R.TXU_STAGE_ADDR_HI) 0 16 ∧ id = bitsOf (s.srcReg m R.TXU_STAGE_ADDR_HI) 24 8 ∧ a % 4 = 0 ∧ s.stagedWrite m a 4 (BitVec.setWidth 64 data) = some (part, c) ∧ s.takeHeld m c = s ∧ s.joinBlocked part m = false ∧ (s.store id part).vote = none ∧ (s.tx id).takes = true ∧ (s.store id part).joined = true :=
  ⟨((((withTx { state := .staging }).setSrcReg .husk R.TXU_STAGE_ADDR_LO 0x0100000C).setSrcReg .husk R.TXU_STAGE_ADDR_HI 0x010003F0).setStore 1 (.engine 0) { joined := true }), Master.husk, 0x80000000, _, _, Master.engine 0, Change.reg 0x100000C 0x80000000,
    rfl, rfl, by decide +kernel, by decide +kernel, rfl, by decide +kernel, by decide +kernel, by decide +kernel, by decide +kernel⟩
theorem witness_ParticipantsHoldChangesAndApply_19 :
    ∃ s : State, s.txu.txs = [] :=
  ⟨(let s := State.reset; { s with txu := { s.txu with txs := [] } }),
    by decide +kernel⟩
theorem witness_ParticipantsHoldChangesAndApply_20 :
    ∃ s : State, ((∀ e ∈ s.txu.txs, e.2.state ≠ .committed ∨ e.2.launch ≠ .asap)) :=
  ⟨State.reset,
    (by intro e h; cases h)⟩

theorem witness_CuesFireOnceAndTamperZeroises_1 :
    ∃ u : CueUnit, ∃ a : CueAction, CueAction.fits a u = false :=
  ⟨CueUnit.dev, CueAction.event,
    by decide +kernel⟩
theorem witness_CuesFireOnceAndTamperZeroises_2 :
    ∃ s : State, ∃ m : Master, ∃ u : CueUnit, ∃ slot : Fin 8, ∃ a : CueAction, CueAction.fits a u = true ∧ s.mayCue m u slot.val = false :=
  ⟨State.reset, Master.host, CueUnit.dev, 0, .husk,
    by decide +kernel, by decide +kernel⟩
theorem witness_CuesFireOnceAndTamperZeroises_3 :
    ∃ s : State, ∃ m : Master, ∃ u : CueUnit, ∃ slot : Fin 8, ∃ a : CueAction, CueAction.fits a u = true ∧ s.mayCue m u slot.val = true ∧ ((∀ n, u ≠ .eng n)) ∧ s.cueArmed u slot.val = true ∧ s.cueAction u slot.val ≠ a :=
  ⟨((State.reset.cueHold .tim 0 0 0 false (.domainStep true)).setHolder (R.TIM_CUE_CLAIM 0) (some .husk)), Master.husk, CueUnit.tim, 0, .serviceSwitch,
    by decide +kernel, by decide +kernel, (by intro n h; cases h), by decide +kernel, by decide +kernel⟩
theorem witness_CuesFireOnceAndTamperZeroises_4 :
    ∃ s : State, ∃ m : Master, ∃ u : CueUnit, ∃ slot : Fin 8, ∃ t : Word, ∃ a : CueAction, CueAction.fits a u = true ∧ s.mayCue m u slot.val = true ∧ (s.cueArmed u slot.val = false ∨ s.cueAction u slot.val = a) ∧ s.classOf t = .outside :=
  ⟨State.reset, Master.husk, CueUnit.dev, 0, 0x7FFFFFFF, .husk,
    by decide +kernel, by decide +kernel, by decide +kernel, by decide +kernel⟩
theorem witness_CuesFireOnceAndTamperZeroises_5 :
    ∃ s : State, ∃ m : Master, ∃ u : CueUnit, ∃ slot : Fin 8, ∃ t : Word, ∃ a : CueAction, CueAction.fits a u = true ∧ s.mayCue m u slot.val = true ∧ (s.cueArmed u slot.val = false ∨ s.cueAction u slot.val = a) ∧ s.classOf t ≠ .outside :=
  ⟨State.reset, Master.husk, CueUnit.dev, 0, 0, .husk,
    by decide +kernel, by decide +kernel, by decide +kernel, by decide +kernel⟩
theorem witness_CuesFireOnceAndTamperZeroises_6 :
    ∃ s : State, ∃ m : Master, ∃ u : CueUnit, ∃ slot : Fin 8, s.mayCue m u slot.val = false :=
  ⟨State.reset, Master.host, CueUnit.dev, 0,
    by decide +kernel⟩
theorem witness_CuesFireOnceAndTamperZeroises_7 :
    ∃ s : State, ∃ m : Master, ∃ u : CueUnit, ∃ slot : Fin 8, s.mayCue m u slot.val = true :=
  ⟨State.reset, Master.husk, CueUnit.dev, 0,
    by decide +kernel⟩
theorem witness_CuesFireOnceAndTamperZeroises_9 :
    ∃ s : State, ∃ u : CueUnit, ∃ slot : Fin 8, ∃ a : CueAction, s.cueArmed u slot.val = true ∧ s.isReached (s.reg (u.timeField slot.val)) = true ∧ s.copyLost u.master = false ∧ a = s.cueAction u slot.val :=
  ⟨(State.reset.cueHold .dev 0 0 0 false .husk), .dev, 0, _,
    by decide +kernel, by decide +kernel, by decide +kernel, rfl⟩
theorem witness_CuesFireOnceAndTamperZeroises_10 :
    ∃ s : State, ∃ n : Fin 1024, ∃ slot : Fin 8, s.cueArmed (.eng n) slot.val = true ∧ s.isReached (s.reg ((CueUnit.eng n).timeField slot.val)) = true ∧ s.copyLost (CueUnit.eng n).master = false ∧ s.cueAction (.eng n) slot.val = .event :=
  ⟨(State.reset.cueHold (.eng 0) 0 0 0 false .event), 0, 0,
    by decide +kernel, by decide +kernel, by decide +kernel, by decide +kernel⟩
theorem witness_CuesFireOnceAndTamperZeroises_11 :
    ∃ s : State, ∃ u : CueUnit, ∃ slot : Fin 8, (s.cueArmed u slot.val = false ∨ s.isReached (s.reg (u.timeField slot.val)) = false ∨ s.copyLost u.master = true) :=
  ⟨State.reset, CueUnit.dev, 0,
    by decide +kernel⟩
theorem witness_CuesFireOnceAndTamperZeroises_12 :
    ∃ s : State, ∃ shield : Bool, s.mode ≠ Mode.off ∧ s.mode ≠ Mode.zeroised ∧ (shield = true ∨ s.trust.class2 = true) :=
  ⟨State.reset, true,
    by decide +kernel, by decide +kernel, by decide +kernel⟩
theorem witness_CuesFireOnceAndTamperZeroises_13 :
    ∃ s : State, s.mode = Mode.zeroised :=
  ⟨(State.reset.setFld F.DEV_MODE_mode Mode.zeroised),
    by decide +kernel⟩
theorem witness_CuesFireOnceAndTamperZeroises_14 :
    ∃ s : State, s.bit F.PCI_STATUS_link_up = true :=
  ⟨(State.reset.setBit F.PCI_STATUS_link_up true),
    by decide +kernel⟩
theorem witness_CuesFireOnceAndTamperZeroises_15 :
    ∃ s : State, s.mode ≠ Mode.off ∧ s.mode ≠ Mode.held ∧ s.mode ≠ Mode.zeroised ∧ s.dev.perst = false :=
  ⟨((let s := State.reset; { s with dev := { s.dev with perst := false } }).inMode Mode.service),
    by decide +kernel, by decide +kernel, by decide +kernel, by decide +kernel⟩
theorem witness_ScratchpadAndMailboxesServe_1 :
    ∃ s : State, ∃ m : Master, ∃ o : BitVec 27, ∃ size : Fin 513, o.toNat + Fin.val size ≤ 0x8000000 ∧ (m.external && spmSecure o.toNat size) = false ∧ (s.spmBanks o.toNat size).all s.spmServes = true :=
  ⟨State.reset, Master.husk, 0, 0,
    by decide +kernel, by decide +kernel, by decide +kernel⟩
theorem witness_ScratchpadAndMailboxesServe_2 :
    ∃ s : State, ∃ m : Master, ∃ o : BitVec 27, ∃ size : Fin 513, ∃ v : List Byte, size = Fin.ofNat 513 v.length ∧ v.length < 513 ∧ o.toNat + v.length ≤ 0x8000000 ∧ o.toNat % 8 = 0 ∧ v.length % 8 = 0 ∧ (m.external && spmSecure o.toNat v.length) = false ∧ (s.spmBanks o.toNat v.length).all s.spmServes = true :=
  ⟨State.reset, Master.husk, 0, _, [],
    rfl, by decide +kernel, by decide +kernel, by decide +kernel, by decide +kernel, by decide +kernel, by decide +kernel⟩
theorem witness_ScratchpadAndMailboxesServe_5 :
    ∃ s : State, Table.wf zeroByte s.spm.mem = true :=
  ⟨State.reset,
    by decide +kernel⟩
theorem witness_ScratchpadAndMailboxesServe_6 :
    ∃ s : State, Table.wf zeroByte s.spm.mem = true :=
  ⟨State.reset,
    by decide +kernel⟩
theorem witness_ScratchpadAndMailboxesServe_7 :
    ∃ m : Master, ∃ o : BitVec 27, ∃ size : Fin 513, o.toNat + Fin.val size ≤ 0x8000000 ∧ m.external = true ∧ 0x7800000 < o.toNat + size :=
  ⟨Master.host, 0x7FFFFF8, 8,
    by decide +kernel, by decide +kernel, by decide +kernel⟩
theorem witness_ScratchpadAndMailboxesServe_8 :
    ∃ s : State, ∃ m : Master, ∃ o : BitVec 27, ∃ size : Fin 513, o.toNat + Fin.val size ≤ 0x8000000 ∧ m.external = false ∧ (s.spmBanks o.toNat size).all s.spmServes = false :=
  ⟨(State.reset.setBit (F.SPM_SET_CFG_changing 0) true), Master.husk, 0, 8,
    by decide +kernel, by decide +kernel, by decide +kernel⟩
theorem witness_ScratchpadAndMailboxesServe_9 :
    ∃ s : State, ∃ m : Master, ∃ a : BitVec 48, ∃ o : Nat, o = a.toNat - 0x20000000000 ∧ a.toNat % 4 = 0 ∧ 0x20000000000 ≤ a.toNat ∧ a.toNat < 0x20008000000 ∧ (m.external && spmSecure o 4) = false ∧ s.spmServes (s.spmGlobalBank o) = true :=
  ⟨State.reset, Master.husk, 0x20000000000, _,
    rfl, by decide +kernel, by decide +kernel, by decide +kernel, by decide +kernel, by decide +kernel⟩
theorem witness_ScratchpadAndMailboxesServe_10 :
    ∃ a : BitVec 48, a.toNat % 4 ≠ 0 :=
  ⟨1,
    by decide +kernel⟩
theorem witness_ScratchpadAndMailboxesServe_11 :
    ∃ s : State, ∃ g : Fin 16, ∃ l : Bool, s.spmLinear g.val = !l ∧ s.spmSetBusy g.val = false ∧ s.spmSetOn g.val = true :=
  ⟨State.reset, 0, true,
    by decide +kernel, by decide +kernel, by decide +kernel⟩
theorem witness_ScratchpadAndMailboxesServe_12 :
    ∃ s : State, ∃ g : Fin 16, ∃ l : Bool, s.spmLinear g.val = !l ∧ s.spmSetBusy g.val = true :=
  ⟨(State.reset.setBit (F.SPM_SET_CFG_changing 0) true), 0, true,
    by decide +kernel, by decide +kernel⟩
theorem witness_ScratchpadAndMailboxesServe_13 :
    ∃ s : State, ∃ g : Fin 16, ∃ p : Fin 4, s.spmLinear g.val = false ∧ p ≠ 3 ∧ s.spmSetBusy g.val = false ∧ s.fld (F.SPM_SET_CFG_state g.val) ≠ p.val :=
  ⟨State.reset, 0, 1,
    by decide +kernel, by decide +kernel, by decide +kernel, by decide +kernel⟩
theorem witness_ScratchpadAndMailboxesServe_14 :
    ∃ s : State, ∃ g : Fin 16, s.spmLinear g.val = false :=
  ⟨State.reset, 0,
    by decide +kernel⟩
theorem witness_ScratchpadAndMailboxesServe_15 :
    ∃ s : State, ∃ b : Fin 512, s.spmLinear (b.val / 32) = false :=
  ⟨State.reset, 0,
    by decide +kernel⟩
theorem witness_ScratchpadAndMailboxesServe_16 :
    ∃ s : State, ∃ b : Fin 512, ∃ p : Fin 4, s.spmLinear (b.val / 32) = true ∧ p ≠ 3 ∧ s.spmChanging b.val = false ∧ s.fld (F.SPM_BANK_PWR_state b.val) ≠ p.val :=
  ⟨(State.reset.setBit (F.SPM_SET_CFG_mode 0) true), 0, 1,
    by decide +kernel, by decide +kernel, by decide +kernel, by decide +kernel⟩
theorem witness_ScratchpadAndMailboxesServe_17 :
    ∃ s : State, ∃ b : Fin 512, s.spmLinear (b.val / 32) = true ∧ s.bit (F.SPM_BANK_PWR_changing b.val) = true :=
  ⟨((State.reset.setBit (F.SPM_BANK_PWR_changing 0) true).setBit (F.SPM_SET_CFG_mode 0) true), 0,
    by decide +kernel, by decide +kernel⟩
theorem witness_ScratchpadAndMailboxesServe_18 :
    ∃ s : State, s.bit F.SPM_STATUS_wiping = true :=
  ⟨(State.reset.setBit F.SPM_STATUS_wiping true),
    by decide +kernel⟩
theorem witness_ScratchpadAndMailboxesServe_19 :
    ∃ s : State, ∃ b : Fin 512, ∃ k : Nat, s.spmPower b.val = 0 ∧ s.spmChanging b.val = false ∧ k = b.val * 32768 + (s.lap (lapSpm b.val)).next :=
  ⟨State.reset, 0, _,
    by decide +kernel, by decide +kernel, rfl⟩
theorem witness_ScratchpadAndMailboxesServe_21 :
    ∃ s : State, ∃ x : Fin 256, ∃ w : Word, ∃ t : State, t = s.setReg (R.MBX_DB x.val) (s.reg (R.MBX_DB x.val) ||| (w &&& 0x7FFFFFFF#32)) :=
  ⟨State.reset, 0, 0, _,
    rfl⟩
theorem witness_ScratchpadAndMailboxesServe_22 :
    ∃ s : State, ∃ x : Fin 256, ∃ w : Word, ∃ t : State, t = s.setReg (R.MBX_DB x.val) (s.reg (R.MBX_DB x.val) &&& ~~~w) :=
  ⟨State.reset, 0, 0, _,
    rfl⟩
theorem witness_ScratchpadAndMailboxesServe_23 :
    ∃ s : State, ∃ x : Fin 256, ∃ w : Word, ∃ t : State, t = s.setReg (R.MBX_DB_MASK x.val) w :=
  ⟨State.reset, 0, 0, _,
    rfl⟩
theorem witness_ScratchpadAndMailboxesServe_24 :
    ∃ s : State, ∃ m : Master, ∃ x : Fin 256, ∃ q : BitVec 16, s.mbxIsPending x.val = true ∧ s.mbxReceiver x.val m = true ∧ s.fld (F.MBX_STATE_seq x.val) = q.toNat :=
  ⟨((State.reset.setFld (F.MBX_STATE_state 0) 1).setFld (F.MBX_STATE_seq 0) (0 : BitVec 16).toNat), Master.husk, 0, 0,
    by decide +kernel, by decide +kernel, by decide +kernel⟩
theorem witness_ScratchpadAndMailboxesServe_25 :
    ∃ s : State, ∃ m : Master, ∃ x : Fin 256, ∃ q : BitVec 16, (s.mbxIsPending x.val = false ∨ s.mbxReceiver x.val m = false ∨ s.fld (F.MBX_STATE_seq x.val) ≠ q.toNat) :=
  ⟨State.reset, Master.husk, 0, 0,
    by decide +kernel⟩
theorem witness_ScratchpadAndMailboxesServe_26 :
    ∃ s : State, ∃ x : Fin 256, ∃ d : Nat, s.mbxIsPending x.val = true ∧ s.mbxUnavailable x.val = false ∧ (s.mailbox x.val).deadline = some d ∧ d ≤ s.now :=
  ⟨(let s := (State.reset.setFld (F.MBX_STATE_state 0) 1); s.setMailbox 0 { s.mailbox 0 with deadline := some 0 }), 0, 0,
    by decide +kernel, by decide +kernel, by decide +kernel, by decide +kernel⟩
theorem witness_ScratchpadAndMailboxesServe_27 :
    ∃ s : State, ∃ m : Master, ∃ x : Fin 256, (s.mbxIsPending x.val = false ∨ s.mbxReceiver x.val m = true) :=
  ⟨State.reset, Master.husk, 0,
    by decide +kernel⟩
theorem witness_ScratchpadAndMailboxesServe_28 :
    ∃ s : State, ∃ m : Master, ∃ x : Fin 256, s.mbxHeld m x.val = true ∧ s.mbxIsPending x.val = false :=
  ⟨State.reset, Master.husk, 1,
    by decide +kernel, by decide +kernel⟩
theorem witness_ScratchpadAndMailboxesServe_29 :
    ∃ s : State, ∃ m : Master, ∃ x : Fin 256, s.mbxHeld m x.val = false :=
  ⟨State.reset, Master.husk, 0,
    by decide +kernel⟩
theorem witness_ScratchpadAndMailboxesServe_30 :
    ∃ s : State, ∃ x : Fin 256, x ≠ 0 ∧ s.mbxIsPending x.val = true :=
  ⟨(State.reset.setFld (F.MBX_STATE_state 1) 1), 1,
    by decide +kernel, by decide +kernel⟩
theorem witness_ScratchpadAndMailboxesServe_31 :
    ∃ s : State, ∃ x : Fin 256, x ≠ 0 ∧ s.mbxIsPending x.val = false :=
  ⟨State.reset, 1,
    by decide +kernel, by decide +kernel⟩
theorem witness_ScratchpadAndMailboxesServe_32 :
    ∃ s : State, ∃ x : Fin 256, x ≠ 0 ∧ s.mbxIsPending x.val = false ∧ s.fld (F.MBX_CFG_kind x.val) = 0 :=
  ⟨(State.reset.setFld (F.MBX_CFG_kind 1) 0), 1,
    by decide +kernel, by decide +kernel, by decide +kernel⟩

end
end

