-- ==== Sys2Proof/Tests/WitnessTrust.lean ====
section
/-! SUPPORT. Witnesses: witness_<statement>_<k> shows a state and operands that meet the premises
of clause k of that statement, for images, faults, trust commands and the monitor. -/

open Sys2Proof Sys2Proof.Machine

section
set_option Elab.async false

theorem witness_LoaderTakesImages_1 :
    ∃ s : State, (s.mode = Mode.off ∨ s.mode = Mode.held ∨ s.mode = Mode.zeroised) :=
  ⟨(State.reset.setFld F.DEV_MODE_mode Mode.off),
    by decide +kernel⟩
theorem witness_LoaderTakesImages_2 :
    ∃ s : State, s.mode ≠ Mode.off ∧ s.mode ≠ Mode.held ∧ s.mode ≠ Mode.zeroised ∧ s.ldrState = 0 :=
  ⟨((State.reset.setFld F.PCI_LDR_STATUS_state 0).inMode Mode.service),
    by decide +kernel, by decide +kernel, by decide +kernel, by decide +kernel⟩
theorem witness_LoaderTakesImages_3 :
    ∃ s : State, s.mode ≠ Mode.off ∧ s.mode ≠ Mode.held ∧ s.mode ≠ Mode.zeroised ∧ s.ldrState = 1 ∧ s.ldrSource = 0 :=
  ⟨((State.reset.setFld F.PCI_LDR_STATUS_state 1).inMode Mode.service),
    by decide +kernel, by decide +kernel, by decide +kernel, by decide +kernel, by decide +kernel⟩
theorem witness_LoaderTakesImages_4 :
    ∃ s : State, ∃ o : Nat, ∃ v : List Byte, s.loader.checked = false ∧ o < 0x4000000 ∧ s.loader.bytes.length = o ∧ v.length ≤ 0x400000 :=
  ⟨State.reset, 0, [],
    by decide +kernel, by decide +kernel, by decide +kernel, by decide +kernel⟩
theorem witness_LoaderTakesImages_5 :
    ∃ l : Loader, l.ahead = [] :=
  ⟨{},
    by decide +kernel⟩
theorem witness_LoaderTakesImages_6 :
    ∃ s : State, ∃ m : Master, ∃ w : Word, ∃ u : State, w.getLsbD 29 = false ∧ w.getLsbD 30 = false ∧ w.getLsbD 31 = false ∧ m.external = false ∧ u = (s.setBit F.PCI_LDR_CTRL_to_acorn (w.getLsbD 28)).setBit F.PCI_LDR_CTRL_bind (w.getLsbD 27) ∧ u.ldrState = 0 :=
  ⟨State.reset, Master.husk, 0, _,
    by decide +kernel, by decide +kernel, by decide +kernel, by decide +kernel, rfl, by decide +kernel⟩
theorem witness_LoaderTakesImages_7 :
    ∃ s : State, ∃ w : Word, ∃ u : State, w.getLsbD 29 = false ∧ w.getLsbD 30 = false ∧ w.getLsbD 31 = false ∧ u = (s.setBit F.PCI_LDR_CTRL_to_acorn (w.getLsbD 28)).setBit F.PCI_LDR_CTRL_bind (w.getLsbD 27) :=
  ⟨State.reset, 0, _,
    by decide +kernel, by decide +kernel, by decide +kernel, rfl⟩
theorem witness_LoaderTakesImages_8 :
    ∃ s : State, s.ldrState = 1 :=
  ⟨(State.reset.setFld F.PCI_LDR_STATUS_state 1),
    by decide +kernel⟩
theorem witness_LoaderTakesImages_9 :
    ∃ s : State, s.ldrState = 0 :=
  ⟨(State.reset.setFld F.PCI_LDR_STATUS_state 0),
    by decide +kernel⟩
theorem witness_LoaderTakesImages_10 :
    ∃ s : State, s.ldrState = 3 ∧ s.bit F.PCI_LDR_CTRL_bind = false :=
  ⟨((State.reset.setFld F.PCI_LDR_STATUS_state 3).setBit F.PCI_LDR_CTRL_bind false),
    by decide +kernel, by decide +kernel⟩
theorem witness_LoaderTakesImages_11 :
    ∃ s : State, (s.loader.checked = false ∨ s.loader.bytes.length < s.loader.length) ∧ s.loader.writeAt + 100000000 ≤ s.tim.uptime :=
  ⟨((let s := State.reset; { s with loader := { s.loader with checked := false } }).upFor 100000000),
    by decide +kernel, by decide +kernel⟩
theorem witness_LoaderTakesImages_12 :
    ∃ s : State, ∃ r : RecHead, RecordWhole s r :=
  ⟨((State.reset.setFld F.PCI_LDR_STATUS_state 1).setLoader (loaderAt 1 [32, 0, 0, 0] (List.replicate 8 0))), ⟨0, 0, 0⟩,
    by unfold RecordWhole; decide +kernel⟩
theorem witness_LoaderTakesImages_13 :
    ∃ s : State, ∃ r : RecHead, RecordWhole s r ∧ r.type ≠ 1 :=
  ⟨((State.reset.setFld F.PCI_LDR_STATUS_state 1).setLoader (loaderAt 1 [32, 0, 0, 0] (List.replicate 8 0))), ⟨0, 0, 0⟩,
    by unfold RecordWhole; decide +kernel, by decide +kernel⟩
theorem witness_LoaderTakesImages_14 :
    ∃ s : State, ∃ r : RecHead, s.loader.toAcorn = false ∧ s.loader.kind = 1 ∧ r.count = 1 :=
  ⟨(State.reset.setLoader (loaderAt 1 [32, 0, 0, 0] (List.replicate 8 0))), ⟨1, 1, 0⟩,
    by decide +kernel, by decide +kernel, by decide +kernel⟩
theorem witness_LoaderTakesImages_15 :
    ∃ s : State, ∃ l : Loader, l = s.loader ∧ s.ldrState = 1 ∧ s.ldrSource = 0 ∧ l.checked = true ∧ l.ended = false ∧ l.length ≤ l.bytes.length ∧ l.recHead.type = 0xFF ∧ l.next + 8 + 7224 = l.length ∧ ((l.kind ≤ 2 → s.covered = true)) ∧ ((4 ≤ l.kind → l.blob ≠ [])) :=
  ⟨((State.reset.setFld F.PCI_LDR_STATUS_state 1).setLoader (loaderAt 3 [0x58, 0x1C, 0, 0] ([0, 0, 0, 0, 0, 0, 0, 0xFF] ++ List.replicate 7224 0))), _,
    rfl, by decide +kernel, by decide +kernel, by decide +kernel, by decide +kernel, by decide +kernel, by decide +kernel, by decide +kernel, by decide +kernel, by decide +kernel⟩
theorem witness_LoaderTakesImages_16 :
    ∃ s : State, ∃ l : Loader, l = s.loader ∧ s.ldrState = 2 ∧ l.ended = true ∧ l.command = none :=
  ⟨(let s := (State.reset.setFld F.PCI_LDR_STATUS_state 2); s.setLoader { s.loader with ended := true }), _,
    rfl, by decide +kernel, by decide +kernel, by decide +kernel⟩
theorem witness_LoaderTakesImages_17 :
    ∃ s : State, s.ldrState ≠ 2 :=
  ⟨State.reset,
    by decide +kernel⟩
theorem witness_LoaderTakesImages_18 :
    ∃ s : State, s.bit F.PCI_FLASH_WEAR_acorn_busy = true :=
  ⟨(State.reset.setBit F.PCI_FLASH_WEAR_acorn_busy true),
    by decide +kernel⟩
theorem witness_LoaderTakesImages_19 :
    ∃ s : State, s.dev.crs = true ∧ s.dev.perst = false ∧ s.dev.perstFrom + 1000000000 ≤ s.tim.uptime :=
  ⟨((let s := (let s := State.reset; { s with dev := { s.dev with crs := true } }); { s with dev := { s.dev with perst := false } }).upFor 1000000000),
    by decide +kernel, by decide +kernel, by decide +kernel⟩
theorem witness_LoaderTakesImages_20 :
    ∃ s : State, ∃ r : HostReq, s.mode ≠ Mode.off ∧ s.bit F.PCI_STATUS_link_up = true ∧ HostReq.write r = none ∧ (r.bar = 1 ∨ r.bar = 3 ∨ r.bar = 5) ∧ 0 < r.size.toNat ∧ r.size.toNat ≤ 4096 :=
  ⟨(State.reset.setBit F.PCI_STATUS_link_up true), ⟨1, 0, 4, none, false, true⟩,
    by decide +kernel, by decide +kernel, by decide +kernel, by decide +kernel, by decide +kernel, by decide +kernel⟩
theorem witness_LoaderTakesImages_21 :
    ∃ s : State, ∃ r : HostReq, ∃ v : List Byte, s.mode ≠ Mode.off ∧ s.bit F.PCI_STATUS_link_up = true ∧ HostReq.write r = some v ∧ r.bar = 2 ∧ v ≠ [] ∧ v.length ≤ 4096 ∧ r.offset.toNat + v.length ≤ 0x4000000 :=
  ⟨(State.reset.setBit F.PCI_STATUS_link_up true), ⟨2, 0, 4, some [0], false, true⟩, [0],
    by decide +kernel, by decide +kernel, by decide +kernel, by decide +kernel, by decide +kernel, by decide +kernel, by decide +kernel⟩
theorem witness_LoaderTakesImages_22 :
    ∃ s : State, ∃ r : HostReq, ∃ o : Nat, o = r.offset.toNat ∧ s.mode ≠ Mode.off ∧ s.bit F.PCI_STATUS_link_up = true ∧ HostReq.write r = none ∧ r.bar = 0 ∧ r.size = 4 ∧ o + 4 ≤ 0x1400000 ∧ isDbg o = false ∧ rowAt o ≠ none ∧ claimDefined o = true :=
  ⟨(State.reset.setBit F.PCI_STATUS_link_up true), ⟨0, 0, 4, none, false, true⟩, _,
    rfl, by decide +kernel, by decide +kernel, by decide +kernel, by decide +kernel, by decide +kernel, by decide +kernel, by decide +kernel, by decide +kernel, by decide +kernel⟩
theorem witness_LoaderTakesImages_23 :
    ∃ s : State, s.tim.uptime < s.loader.writeAt + 100000000 :=
  ⟨State.reset,
    by decide +kernel⟩

theorem witness_FaultsAreCollectedAndCoresHandOver_1 : ∃ s : State, ∃ u : Master, ∃ r : FaultRec, ∃ l : List FaultRec, ∃ n : Nat, Table.get noFaults s.faults (Master.key u) = r :: l ∧ (s.route u.ni Unit.err.ni).usable Unit.err.ni = true ∧ n = Table.get zeroNat s.faultLost u.key := ⟨({ State.reset with faults := [(Master.husk.key, [⟨.husk, .code 960, .tamper1, 1, 1, 0, 0, 0⟩])] } : State).setRoute Master.husk.ni Unit.err.ni { w0 := BitVec.ofNat 32 (0xC0000000 + Unit.err.ni * 65536) }, .husk, (⟨.husk, .code 960, .tamper1, 1, 1, 0, 0, 0⟩ : FaultRec), [], _,
    by decide +kernel, by rw [route_set]; exact usable_at _ (niOfKey_lt _), rfl⟩
theorem witness_FaultsAreCollectedAndCoresHandOver_2 : ∃ s : State, ∃ u : Master, ∃ r : FaultRec, ∃ l : List FaultRec, Table.get noFaults s.faults (Master.key u) = r :: l ∧ (s.route u.ni Unit.err.ni).usable Unit.err.ni = false := ⟨({ State.reset with faults := [(Master.husk.key, [⟨.husk, .code 960, .tamper1, 1, 1, 0, 0, 0⟩])] } : State).setRoute Master.husk.ni Unit.err.ni {}, .husk, (⟨.husk, .code 960, .tamper1, 1, 1, 0, 0, 0⟩ : FaultRec), [],
    by decide +kernel, by rw [route_set]; rfl⟩
theorem witness_FaultsAreCollectedAndCoresHandOver_3 :
    ∃ s : State, ∃ r : FaultRec, ∃ l : List FaultRec, s.err.arriving = r :: l :=
  ⟨(let s := State.reset; { s with err := { s.err with arriving := (⟨.husk, .code 960, .tamper1, 1, 1, 0, 0, 0⟩ : FaultRec) :: ([] : List FaultRec) } }), ⟨.husk, .code 960, .tamper1, 1, 1, 0, 0, 0⟩, [],
    by decide +kernel⟩
theorem witness_FaultsAreCollectedAndCoresHandOver_4 :
    ∃ s : State, ∃ r : FaultRec, ∃ i : Nat, findKey (faultKey r.subject r.cls) s.err.entries = none ∧ s.errPlace = some i :=
  ⟨State.reset, ⟨.husk, .code 960, .tamper1, 1, 1, 0, 0, 0⟩, 0,
    by decide +kernel, by decide +kernel⟩
theorem witness_FaultsAreCollectedAndCoresHandOver_5 :
    ∃ s : State, ∃ r : FaultRec, ∃ i : Nat, ∃ e : ErrEntry, findKey (faultKey r.subject r.cls) s.err.entries = some i ∧ s.errEntry i = some e :=
  ⟨(State.reset.setEntry 0 (some ⟨.code 960, .tamper1, .husk, 0, 0, 0, 0, 1, false, 1, false, true, none⟩)), (⟨.husk, .code 960, .tamper1, 1, 1, 0, 0, 0⟩ : FaultRec), 0, ⟨.code 960, .tamper1, .husk, 0, 0, 0, 0, 1, false, 1, false, true, none⟩,
    by decide +kernel, by decide +kernel⟩
theorem witness_FaultsAreCollectedAndCoresHandOver_6 :
    ∃ s : State, ∃ i : Nat, ∃ e : ErrEntry, dueEntry (millis s.now) s.err.entries = some (i, e) ∧ s.fld F.ERR_CFG_notify_min ≤ e.severity :=
  ⟨((State.reset.setEntry 0 (some ⟨.code 960, .tamper1, .husk, 0, 0, 0, 0, 1, false, 1, false, true, none⟩)).setFld F.ERR_CFG_notify_min 1), 0, ⟨.code 960, .tamper1, .husk, 0, 0, 0, 0, 1, false, 1, false, true, none⟩,
    by decide +kernel, by decide +kernel⟩
theorem witness_FaultsAreCollectedAndCoresHandOver_7 :
    ∃ s : State, ∃ e : ErrEntry, s.bit F.ERR_NOTIFY_mbx_en = false ∧ s.fld F.ERR_CFG_log_min ≤ ErrEntry.severity e :=
  ⟨(State.reset.setFld F.ERR_CFG_log_min 1), ⟨.code 960, .tamper1, .husk, 0, 0, 0, 0, 1, false, 1, false, true, none⟩,
    by decide +kernel, by decide +kernel⟩
theorem witness_FaultsAreCollectedAndCoresHandOver_8 :
    ∃ s : State, ∃ w : Word, w.getLsbD 30 = false ∧ w.getLsbD 31 = true ∧ s.errEntry (bitsOf w 0 9) = none :=
  ⟨State.reset, 0x80000000,
    by decide +kernel, by decide +kernel, by decide +kernel⟩
theorem witness_FaultsAreCollectedAndCoresHandOver_9 :
    ∃ s : State, ∃ w : Word, ∃ e : ErrEntry, w.getLsbD 30 = false ∧ w.getLsbD 31 = true ∧ s.errEntry (bitsOf w 0 9) = some e :=
  ⟨(State.reset.setEntry 0 (some ⟨.code 960, .tamper1, .husk, 0, 0, 0, 0, 1, false, 1, false, true, none⟩)), 0x80000000, ⟨.code 960, .tamper1, .husk, 0, 0, 0, 0, 1, false, 1, false, true, none⟩,
    by decide +kernel, by decide +kernel, by decide +kernel⟩
theorem witness_FaultsAreCollectedAndCoresHandOver_10 :
    ∃ s : State, ∃ i : Fin 512, ∃ e : ErrEntry, s.errEntry i.val = some e ∧ s.fld F.ERR_CFG_quiet_s ≠ 0 ∧ e.severity < 3 ∧ e.resolved = false ∧ e.last + s.fld F.ERR_CFG_quiet_s * 1000000000 ≤ s.now :=
  ⟨(((State.reset.setEntry 0 (some ⟨.code 960, .tamper1, .husk, 0, 0, 0, 0, 1, false, 1, false, true, none⟩)).setFld F.ERR_CFG_quiet_s 1).atTime 1000000000), 0, ⟨.code 960, .tamper1, .husk, 0, 0, 0, 0, 1, false, 1, false, true, none⟩,
    by decide +kernel, by decide +kernel, by decide +kernel, by decide +kernel, by decide +kernel⟩
theorem witness_FaultsAreCollectedAndCoresHandOver_11 :
    ∃ s : State, ∃ w : Word, w.getLsbD 30 = false ∧ s.deferredAt (bitsOf w 16 4) = none :=
  ⟨State.reset, 0,
    by decide +kernel, by decide +kernel⟩
theorem witness_FaultsAreCollectedAndCoresHandOver_12 :
    ∃ s : State, ∃ w : Word, ∃ f : Fix, ∃ r : Nat × State, w.getLsbD 30 = false ∧ s.deferredAt (bitsOf w 16 4) = some f ∧ r = openFix f (s.setDeferred (bitsOf w 16 4) none 0) :=
  ⟨(State.reset.setDeferred 0 (some (.engine 0)) 0), 0, .engine 0, _,
    by decide +kernel, by decide +kernel, rfl⟩
theorem witness_FaultsAreCollectedAndCoresHandOver_13 :
    ∃ s : State, ∃ w : Word, ∃ f : Fix, w.getLsbD 31 = false ∧ s.deferredAt (bitsOf w 16 4) = some f :=
  ⟨(State.reset.setDeferred 0 (some (.engine 0)) 0), 0, .engine 0,
    by decide +kernel, by decide +kernel⟩
theorem witness_FaultsAreCollectedAndCoresHandOver_14 :
    ∃ s : State, s.standby = Standby.ready ∧ s.husk.takeover = false ∧ s.husk.restart = false :=
  ⟨(let s := (let s := (State.reset.setStandby Standby.ready); { s with husk := { s.husk with takeover := false } }); { s with husk := { s.husk with restart := false } }),
    by decide +kernel, by decide +kernel, by decide +kernel⟩
theorem witness_FaultsAreCollectedAndCoresHandOver_15 :
    ∃ s : State, s.standby ≠ Standby.ready ∧ s.husk.takeover = false ∧ s.husk.restart = false :=
  ⟨(let s := (let s := State.reset; { s with husk := { s.husk with takeover := false } }); { s with husk := { s.husk with restart := false } }),
    by decide +kernel, by decide +kernel, by decide +kernel⟩
theorem witness_FaultsAreCollectedAndCoresHandOver_16 :
    ∃ s : State, s.husk.takeover = true ∧ s.bit F.ERR_HUSK_confirming = false :=
  ⟨((let s := State.reset; { s with husk := { s.husk with takeover := true } }).setBit F.ERR_HUSK_confirming false),
    by decide +kernel, by decide +kernel⟩
theorem witness_FaultsAreCollectedAndCoresHandOver_17 :
    ∃ s : State, (s.standby = Standby.booting ∨ s.standby = Standby.syncing) ∧ s.husk.handover = none :=
  ⟨(let s := (State.reset.setStandby Standby.booting); { s with husk := { s.husk with handover := none } }),
    by decide +kernel, by decide +kernel⟩
theorem witness_FaultsAreCollectedAndCoresHandOver_18 :
    ∃ s : State, s.husk.restart = true :=
  ⟨(let s := State.reset; { s with husk := { s.husk with restart := true } }),
    by decide +kernel⟩
theorem witness_FaultsAreCollectedAndCoresHandOver_19 :
    ∃ s : State, ∃ w : Word, inService s.mode = true ∧ s.standby = Standby.ready ∧ s.lifeCycleRuns = false ∧ s.husk.takeover = false ∧ s.husk.handover = none ∧ w.getLsbD 30 = false :=
  ⟨((let s := (let s := (State.reset.setStandby Standby.ready); { s with husk := { s.husk with takeover := false } }); { s with husk := { s.husk with handover := none } }).inMode Mode.service), 0,
    by decide +kernel, by decide +kernel, by decide +kernel, by decide +kernel, by decide +kernel, by decide +kernel⟩
theorem witness_FaultsAreCollectedAndCoresHandOver_20 :
    ∃ s : State, inService s.mode = true ∧ s.standby ≠ Standby.ready :=
  ⟨(State.reset.inMode Mode.service),
    by decide +kernel, by decide +kernel⟩
theorem witness_FaultsAreCollectedAndCoresHandOver_21 :
    ∃ s : State, s.husk.handover = some false :=
  ⟨(let s := State.reset; { s with husk := { s.husk with handover := some false } }),
    by decide +kernel⟩
theorem witness_FaultsAreCollectedAndCoresHandOver_22 :
    ∃ s : State, s.bit F.ERR_HUSK_confirming = true ∧ s.husk.takeover = false ∧ s.husk.restart = false ∧ s.husk.servedFrom + s.flash.policy.fwConfirm * 1000000000 ≤ s.now :=
  ⟨((State.reset.setBit F.ERR_HUSK_confirming true).atTime 100000000000000),
    by decide +kernel, by decide +kernel, by decide +kernel, by decide +kernel⟩
theorem witness_SurgeRunsOnItsLedger_1 :
    ∃ s : State, ∃ w : Word, ∃ u : State, w.getLsbD 30 = false ∧ u = s.setFld F.ERR_GOV_CTRL_duration_s (bitsOf w 0 16) :=
  ⟨State.reset, 0, _,
    by decide +kernel, rfl⟩
theorem witness_SurgeRunsOnItsLedger_2 :
    ∃ s : State, s.surgeCause ≠ 0 :=
  ⟨State.reset,
    by decide +kernel⟩
theorem witness_SurgeRunsOnItsLedger_3 :
    ∃ s : State, s.surgeCause = 0 :=
  ⟨(let s := ((State.reset.inMode Mode.service).setReg (R.ERR_POLICY 11) 1); s.setHusk { s.husk with ledger := 1 }),
    by decide +kernel⟩
theorem witness_SurgeRunsOnItsLedger_5 :
    ∃ s : State, ∃ w : Word, ∃ u : State, w.getLsbD 31 = false ∧ u = s.setFld F.ERR_GOV_CTRL_duration_s (bitsOf w 0 16) :=
  ⟨State.reset, 0, _,
    by decide +kernel, rfl⟩
theorem witness_SurgeRunsOnItsLedger_6 :
    ∃ s : State, (s.govState = Gov.entering ∨ s.govState = Gov.surge) ∧ (s.husk.veng ≠ 750 ∨ s.engMhz ≠ 1600) :=
  ⟨(let s := (State.reset.setGov Gov.surge); s.setHusk { s.husk with veng := 820 }),
    by decide +kernel, by decide +kernel⟩
theorem witness_SurgeRunsOnItsLedger_7 :
    ∃ s : State, s.govState ≠ Gov.entering ∧ s.govState ≠ Gov.surge :=
  ⟨State.reset,
    by decide +kernel, by decide +kernel⟩
theorem witness_SurgeRunsOnItsLedger_8 :
    ∃ s : State, s.govState = Gov.entering ∧ s.husk.writing = true :=
  ⟨(let s := (State.reset.setGov Gov.entering); { s with husk := { s.husk with writing := true } }),
    by decide +kernel, by decide +kernel⟩
theorem witness_SurgeRunsOnItsLedger_9 :
    ∃ s : State, s.govState = Gov.entering ∧ s.husk.writing = false ∧ s.husk.veng < 820 :=
  ⟨(let s := (State.reset.setGov Gov.entering); { s with husk := { s.husk with writing := false } }),
    by decide +kernel, by decide +kernel, by decide +kernel⟩
theorem witness_SurgeRunsOnItsLedger_10 :
    ∃ s : State, s.govState = Gov.leaving ∧ s.engMhz = 1600 ∧ 760 < s.husk.veng :=
  ⟨((let s := (State.reset.setGov Gov.leaving); s.setHusk { s.husk with veng := 820 }).setFld F.CLK_ENG_eng_mhz 1600),
    by decide +kernel, by decide +kernel, by decide +kernel⟩
theorem witness_SurgeRunsOnItsLedger_11 :
    ∃ s : State, s.govState = Gov.leaving ∧ s.engMhz = 1600 ∧ s.husk.veng = 760 :=
  ⟨(let s := (State.reset.setGov Gov.leaving); { s with husk := { s.husk with veng := 760 } }),
    by decide +kernel, by decide +kernel, by decide +kernel⟩
theorem witness_SurgeRunsOnItsLedger_12 :
    ∃ s : State, s.govState = Gov.entering ∧ s.husk.veng = 820 ∧ s.engMhz = 1700 :=
  ⟨((let s := (State.reset.setGov Gov.entering); s.setHusk { s.husk with veng := 820 }).setFld F.CLK_ENG_eng_mhz 1700),
    by decide +kernel, by decide +kernel, by decide +kernel⟩
theorem witness_SurgeRunsOnItsLedger_13 :
    ∃ s : State, s.govState = Gov.leaving ∧ 1700 < s.engMhz :=
  ⟨((State.reset.setGov Gov.leaving).setFld F.CLK_ENG_eng_mhz 1750),
    by decide +kernel, by decide +kernel⟩
theorem witness_SurgeRunsOnItsLedger_14 :
    ∃ s : State, ∃ t : Nat, s.husk.surgeEnd = some t ∧ t ≤ s.now :=
  ⟨(let s := State.reset; { s with husk := { s.husk with surgeEnd := some 0 } }), 0,
    by decide +kernel, by decide +kernel⟩
theorem witness_SurgeRunsOnItsLedger_15 :
    ∃ s : State, s.husk.surgeEnd = none ∧ s.husk.ledger ≤ 1 :=
  ⟨(let s := State.reset; s.setHusk { s.husk with ledger := 0 }),
    by decide +kernel, by decide +kernel⟩
theorem witness_SurgeRunsOnItsLedger_16 :
    ∃ s : State, s.govState ≠ Gov.nominal ∧ s.husk.writing = false ∧ 2 < s.husk.ledger ∧ s.husk.charged ≤ (s.now - s.husk.surgeAt) / 10000000 :=
  ⟨(let s := (State.reset.setGov Gov.surge); s.setHusk { s.husk with ledger := 5 }),
    by decide +kernel, by decide +kernel, by decide +kernel, by decide +kernel⟩
theorem witness_SurgeRunsOnItsLedger_17 :
    ∃ s : State, s.govState = Gov.nominal :=
  ⟨(State.reset.setGov Gov.nominal),
    by decide +kernel⟩
theorem witness_SurgeRunsOnItsLedger_18 :
    ∃ s : State, ∃ g : GovSample, s.govState = Gov.surge ∧ (13440 : Int) - 16 * s.knob 13 ≤ BitVec.toInt g.hub ∧ s.husk.veng = 820 :=
  ⟨(let s := (State.reset.setGov Gov.surge); s.setHusk { s.husk with veng := 820 }), ⟨0, 30000, 0, 0, 0, 0⟩,
    by decide +kernel, by decide +kernel, by decide +kernel⟩

theorem witness_TrustCommandsRun_1 :
    ∃ s : State, ∃ b : Burn, ∃ c : SignedCmd, ∃ u : State, ∃ d : BitVec 512, CommandWaits s c 1 [0] u ∧ c.slot = 0xFE ∧ c.args.length = 64 ∧ d = BitVec.ofNat 512 (ofBytes c.args) ∧ d = c.key ∧ Burn.ok b = true :=
  ⟨(let s := State.reset; { s with loader := { s.loader with command := some ⟨1, List.replicate 64 0, 0, 0xFE, 0⟩ }, fuses := { s.fuses with lifeCycle := 0 } }), ⟨true, true⟩, ⟨1, List.replicate 64 0, 0, 0xFE, 0⟩, _, _,
    ⟨rfl, rfl, by decide +kernel, rfl⟩, by decide +kernel, by decide +kernel, rfl, rfl, by decide +kernel⟩
theorem witness_TrustCommandsRun_2 :
    ∃ s : State, ∃ b : Burn, ∃ c : SignedCmd, ∃ u : State, CommandWaits s c 1 [0] u ∧ c.slot = 0xFE ∧ c.args.length = 64 ∧ BitVec.ofNat 512 (ofBytes c.args) = c.key ∧ Burn.ok b = false :=
  ⟨(let s := State.reset; { s with loader := { s.loader with command := some ⟨1, List.replicate 64 0, 0, 0xFE, 0⟩ }, fuses := { s.fuses with lifeCycle := 0 } }), ⟨false, false⟩, ⟨1, List.replicate 64 0, 0, 0xFE, 0⟩, _,
    ⟨rfl, rfl, by decide +kernel, rfl⟩, by decide +kernel, by decide +kernel, by decide +kernel, by decide +kernel⟩
theorem witness_TrustCommandsRun_3 :
    ∃ s : State, ∃ b : Burn, ∃ c : SignedCmd, ∃ u : State, ∃ k : Nat, CommandWaits s c 2 [1, 2] u ∧ s.ownerSigned c = true ∧ c.args.length = 64 ∧ k < 4 ∧ s.slotBurned k = false ∧ ((∀ j < k, s.slotBurned j = true)) ∧ Burn.ok b = true :=
  ⟨(let s := State.reset; { s with loader := { s.loader with command := some ⟨2, List.replicate 64 0, 0, 0, 0⟩ }, fuses := { s.fuses with lifeCycle := 2, digests := [(0, 1)] } }), ⟨true, true⟩, ⟨2, List.replicate 64 0, 0, 0, 0⟩, _, 1,
    ⟨rfl, rfl, by decide +kernel, rfl⟩, by decide +kernel, by decide +kernel, by decide +kernel, by decide +kernel, by decide +kernel, by decide +kernel⟩
theorem witness_TrustCommandsRun_4 :
    ∃ s : State, ∃ b : Burn, ∃ c : SignedCmd, ∃ u : State, ∃ k : Byte, CommandWaits s c 3 [1, 2] u ∧ s.ownerSigned c = true ∧ c.args = [k] ∧ s.slotBurned k.toNat = true ∧ k.toNat ≠ c.slot ∧ (s.usableSlots.filter (· != k.toNat)) ≠ [] ∧ Burn.ok b = true :=
  ⟨(let s := State.reset; { s with loader := { s.loader with command := some ⟨3, [1], 0, 0, 0⟩ }, fuses := { s.fuses with lifeCycle := 2, digests := [(0, 1), (1, 2)] } }), ⟨true, true⟩, ⟨3, [1], 0, 0, 0⟩, _, 1,
    ⟨rfl, rfl, by decide +kernel, rfl⟩, by decide +kernel, by decide +kernel, by decide +kernel, by decide +kernel, by decide +kernel, by decide +kernel⟩
theorem witness_TrustCommandsRun_5 :
    ∃ s : State, ∃ b : Burn, ∃ c : SignedCmd, ∃ u : State, ∃ v : Nat, CommandWaits s c 5 [1, 2] u ∧ s.ownerSigned c = true ∧ c.args = toBytes 4 v ++ [1] ∧ v < 2 ^ 32 ∧ s.fuses.floor < 255 ∧ Burn.ok b = true :=
  ⟨(let s := State.reset; { s with loader := { s.loader with command := some ⟨5, [7, 0, 0, 0, 1], 0, 0, 0⟩ }, fuses := { s.fuses with lifeCycle := 2 } }), ⟨true, true⟩, ⟨5, [7, 0, 0, 0, 1], 0, 0, 0⟩, _, 7,
    ⟨rfl, rfl, by decide +kernel, rfl⟩, by decide +kernel, by decide +kernel, by decide +kernel, by decide +kernel, by decide +kernel⟩
theorem witness_TrustCommandsRun_6 :
    ∃ s : State, ∃ c : SignedCmd, ∃ u : State, CommandWaits s c 6 [1, 2] u ∧ s.ownerSigned c = true ∧ c.args.length = 64 :=
  ⟨(let s := State.reset; { s with loader := { s.loader with command := some ⟨6, List.replicate 64 0, 0, 0, 0⟩ }, fuses := { s.fuses with lifeCycle := 2 } }), ⟨6, List.replicate 64 0, 0, 0, 0⟩, _,
    ⟨rfl, rfl, by decide +kernel, rfl⟩, by decide +kernel, by decide +kernel⟩
theorem witness_TrustCommandsRun_7 :
    ∃ s : State, ∃ c : SignedCmd, ∃ u : State, CommandWaits s c 7 [0, 1, 2, 3] u ∧ s.ownerSigned c = true ∧ c.args.length = 2 ∧ s.trust.hold = false :=
  ⟨(let s := State.reset; { s with loader := { s.loader with command := some ⟨7, [0, 0], 0, 0, 0⟩ }, fuses := { s.fuses with lifeCycle := 2 } }), ⟨7, [0, 0], 0, 0, 0⟩, _,
    ⟨rfl, rfl, by decide +kernel, rfl⟩, by decide +kernel, by decide +kernel, by decide +kernel⟩
theorem witness_TrustCommandsRun_8 :
    ∃ s : State, ∃ b : Burn, ∃ c : SignedCmd, ∃ u : State, CommandWaits s c 8 [1, 2] u ∧ s.ownerSigned c = true ∧ Burn.ok b = true :=
  ⟨(let s := State.reset; { s with loader := { s.loader with command := some ⟨8, [], 0, 0, 0⟩ }, fuses := { s.fuses with lifeCycle := 2 } }), ⟨true, true⟩, ⟨8, [], 0, 0, 0⟩, _,
    ⟨rfl, rfl, by decide +kernel, rfl⟩, by decide +kernel, by decide +kernel⟩
theorem witness_TrustCommandsRun_9 :
    ∃ s : State, ∃ c : SignedCmd, ∃ u : State, CommandWaits s c 8 [1, 2] u ∧ s.ownerSigned c = false :=
  ⟨(let s := State.reset; { s with loader := { s.loader with command := some ⟨8, [], 0, 4, 0⟩ }, fuses := { s.fuses with lifeCycle := 2 } }), ⟨8, [], 0, 4, 0⟩, _,
    ⟨rfl, rfl, by decide +kernel, rfl⟩, by decide +kernel⟩
theorem witness_TrustCommandsRun_10 :
    ∃ s : State, ∃ c : SignedCmd, ∃ u : State, s.loader.command = some c ∧ c.code = 6 ∧ s.fuses.lifeCycle ≠ 1 ∧ s.fuses.lifeCycle ≠ 2 ∧ u = s.setLoader { s.loader with command := none } :=
  ⟨(let s := State.reset; { s with loader := { s.loader with command := some ⟨6, [], 0, 0, 0⟩ } }), ⟨6, [], 0, 0, 0⟩, _,
    by decide +kernel, by decide +kernel, by decide +kernel, by decide +kernel, rfl⟩
theorem witness_TrustCommandsRun_11 :
    ∃ n : Nat, n < 65536 :=
  ⟨0,
    by decide +kernel⟩
theorem witness_TrustCommandsRun_12 :
    ∃ s : State, ∃ w : Word, s.bit F.PCI_CMD_busy = false ∧ 1 ≤ bitsOf w 16 8 ∧ bitsOf w 16 8 ≤ 6 ∧ s.fld F.PCI_CMD_LEN_in_len ≤ 16384 :=
  ⟨(State.reset.setBit F.PCI_CMD_busy false), 0x10000,
    by decide +kernel, by decide +kernel, by decide +kernel, by decide +kernel⟩
theorem witness_TrustCommandsRun_13 :
    ∃ s : State, s.bit F.PCI_CMD_busy = true :=
  ⟨(State.reset.setBit F.PCI_CMD_busy true),
    by decide +kernel⟩
theorem witness_TrustCommandsRun_14 :
    ∃ s : State, ∃ r : List Byte, ∃ g : List Byte, HuskWaits s 1 64 ∧ r = s.report (s.bufferBytes 64) ∧ r.length = 512 ∧ g = Config.mlDsaSign 0 (toBytes 64 (sha3 r).toNat) :=
  ⟨(((State.reset.setBit F.PCI_CMD_busy true).setFld F.PCI_CMD_code 1).setFld F.PCI_CMD_LEN_in_len 64), _, _,
    by unfold HuskWaits; decide +kernel, rfl, by decide +kernel, rfl⟩
theorem witness_TrustCommandsRun_15 :
    ∃ n : List Byte, n.length = 64 :=
  ⟨List.replicate 64 0,
    by decide +kernel⟩
theorem witness_TrustCommandsRun_16 :
    ∃ s : State, ∃ via : MonVia, ∃ b : List Byte, s.husk.takeover = false ∧ s.husk.restart = false ∧ s.monOpen via = true ∧ b.length ≠ 64 :=
  ⟨(State.reset.setHolder (R.DEV_CLAIM 0x1B0) (some .husk)), (MonVia.mk true 0), [],
    by decide +kernel, by decide +kernel, by decide +kernel, by decide +kernel⟩
theorem witness_TrustCommandsRun_17 :
    ∃ s : State, ∃ n : Nat, HuskWaits s 2 n :=
  ⟨(((State.reset.setBit F.PCI_CMD_busy true).setFld F.PCI_CMD_code 2).setFld F.PCI_CMD_LEN_in_len 0), 0,
    by unfold HuskWaits; decide +kernel⟩
theorem witness_TrustCommandsRun_18 :
    ∃ s : State, ∃ n : Nat, ∃ r : List Byte × State, HuskWaits s 3 n ∧ s.fuses.lifeCycle ≠ 4 ∧ r = s.freeBytes 64 :=
  ⟨(((State.reset.setBit F.PCI_CMD_busy true).setFld F.PCI_CMD_code 3).setFld F.PCI_CMD_LEN_in_len 0), 0, _,
    by unfold HuskWaits; decide +kernel, by decide +kernel, rfl⟩
theorem witness_TrustCommandsRun_19 :
    ∃ s : State, ∃ b : List Byte, ∃ r : Nat × List Byte × State, HuskWaits s 5 (List.length b) ∧ b = s.bufferBytes b.length ∧ 1 ≤ b.length ∧ b.length ≤ 64 ∧ s.fuses.lifeCycle = 2 ∧ s.backingOff = false ∧ (r = (if s.flash.password ≠ 0 ∧ sha3 b = s.flash.password then s.unlockDone 0x3F s.flash.policy.password else s.unlockFail)) :=
  ⟨(let s := (((State.reset.setBit F.PCI_CMD_busy true).setFld F.PCI_CMD_code 5).setFld F.PCI_CMD_LEN_in_len 1); { s with fuses := { s.fuses with lifeCycle := 2 } }), [0], _,
    by unfold HuskWaits; decide +kernel, by decide +kernel, by decide +kernel, by decide +kernel, by decide +kernel, by decide +kernel, rfl⟩
theorem witness_TrustCommandsRun_20 :
    ∃ s : State, ∃ b : List Byte, ∃ i : List Byte, ∃ d : Nat, ∃ k : List Byte, ∃ m : List Byte, ∃ h : Nat, ∃ t : Nat, ∃ g : Bool, HuskWaits s 4 7228 ∧ b = s.bufferBytes 7228 ∧ s.fuses.lifeCycle = 2 ∧ s.backingOff = false ∧ s.trust.nonce = some (k, t) ∧ d = ofBytes ((b.drop 1).take 4) ∧ 1 ≤ d ∧ d ≤ 86400 ∧ h = ofBytes ((b.drop 5).take 4) ∧ h ≤ 0x3F ∧ i = (b.drop 9).take 2592 ∧ m = toBytes 64 (sha3 (k ++ toBytes 64 identityDigest.toNat ++ (b.drop 1).take 8)).toNat ∧ g = (decide (s.now ≤ t + 60000000000) && s.unlockKey (ofBytes (b.take 1)) i && Config.mlDsaVerify i m ((b.drop 2601).take 4627)) :=
  ⟨(let s := ((let s := (((State.reset.setBit F.PCI_CMD_busy true).setFld F.PCI_CMD_code 4).setFld F.PCI_CMD_LEN_in_len 7228); { s with fuses := { s.fuses with lifeCycle := 2 } }).setBuffer 0 [0, 1]); { s with trust := { s.trust with nonce := some ([], 0) } }), _, _, 1, [], _, 0, 0, _,
    by unfold HuskWaits; decide +kernel, rfl, by decide +kernel, by decide +kernel, by decide +kernel, by decide +kernel, by decide +kernel, by decide +kernel, by decide +kernel, by decide +kernel, rfl, rfl, rfl⟩
theorem witness_TrustCommandsRun_22 :
    ∃ h : Nat, h < 2 ^ 6 :=
  ⟨0,
    by decide +kernel⟩
theorem witness_TrustCommandsRun_23 :
    ∃ s : State, ∃ n : Nat, HuskWaits s 6 n ∧ s.fuses.lifeCycle ≠ 4 :=
  ⟨(((State.reset.setBit F.PCI_CMD_busy true).setFld F.PCI_CMD_code 6).setFld F.PCI_CMD_LEN_in_len 0), 0,
    by unfold HuskWaits; decide +kernel, by decide +kernel⟩
theorem witness_TrustCommandsRun_25 :
    ∃ s : State, ∃ l : List Nat, s.mode ≠ Mode.off ∧ (l = s.trust.glitches.filter (fun t => decide (s.now < t + 1000000000))) :=
  ⟨State.reset, _,
    by decide +kernel, rfl⟩

theorem witness_MonitorServesItsSession_1 :
    ∃ s : State, ∃ via : MonVia, MonServes s via :=
  ⟨((((State.reset.inMode Mode.service).setHolder (R.DEV_CLAIM 0x1B0) (some .husk)).setBit F.DBG_STATUS_session true).setFld F.DBG_STATUS_scope 0x3F), (MonVia.mk true 0),
    by unfold MonServes; decide +kernel⟩
theorem witness_MonitorServesItsSession_2 :
    ∃ s : State, ∃ via : MonVia, MonServes s via ∧ s.mon.reply ≠ [] :=
  ⟨(let s := ((((State.reset.inMode Mode.service).setHolder (R.DEV_CLAIM 0x1B0) (some .husk)).setBit F.DBG_STATUS_session true).setFld F.DBG_STATUS_scope 0x3F); { s with mon := { s.mon with reply := [0] } }), (MonVia.mk true 0),
    by unfold MonServes; decide +kernel, by decide +kernel⟩
theorem witness_MonitorServesItsSession_3 :
    ∃ s : State, ∃ via : MonVia, ∃ a : BitVec 64, ∃ o : Nat, ∃ b : List Byte, ∃ p : Bool, ∃ t : State, MonScoped s via 0 ∧ addrPlace (BitVec.toNat a) 4 = .control o ∧ a.toNat % 4 = 0 ∧ t = busReadWord .monitor true o { s with response := .none } ∧ t.response = .data b p :=
  ⟨((((State.reset.inMode Mode.service).setHolder (R.DEV_CLAIM 0x1B0) (some .husk)).setBit F.DBG_STATUS_session true).setFld F.DBG_STATUS_scope 0x3F), (MonVia.mk true 0), 0x3F000000000, 0, [0x31, 0x00, 0x96, 0x09], false, _,
    by unfold MonScoped MonServes; decide +kernel, by decide +kernel, by decide +kernel, rfl, by decide +kernel⟩
theorem witness_MonitorServesItsSession_4 :
    ∃ s : State, ∃ via : MonVia, MonScoped s via 0 :=
  ⟨((((State.reset.inMode Mode.service).setHolder (R.DEV_CLAIM 0x1B0) (some .husk)).setBit F.DBG_STATUS_session true).setFld F.DBG_STATUS_scope 0x3F), (MonVia.mk true 0),
    by unfold MonScoped MonServes; decide +kernel⟩
theorem witness_MonitorServesItsSession_5 :
    ∃ s : State, ∃ via : MonVia, ∃ a : BitVec 64, ∃ o : Nat, ∃ b : List Byte, ∃ p : Bool, ∃ t : State, MonScoped s via 2 ∧ addrPlace (BitVec.toNat a) 4 = .control o ∧ o % 4 = 0 ∧ t = busReadWord .monitor false o s ∧ t.response = .data b p :=
  ⟨((((State.reset.inMode Mode.service).setHolder (R.DEV_CLAIM 0x1B0) (some .husk)).setBit F.DBG_STATUS_session true).setFld F.DBG_STATUS_scope 0x3F), (MonVia.mk true 0), 0x3F000000000, 0, [0x31, 0x00, 0x96, 0x09], false, _,
    by unfold MonScoped MonServes; decide +kernel, by decide +kernel, by decide +kernel, rfl, by decide +kernel⟩
theorem witness_MonitorServesItsSession_6 :
    ∃ s : State, ∃ via : MonVia, ∃ a : BitVec 64, ∃ o : Nat, ∃ b : List Byte, ∃ t : State, MonScoped s via 1 ∧ addrPlace (BitVec.toNat a) 4 = .control o ∧ a.toNat % 4 = 0 ∧ List.length b = 4 ∧ t = busWrite .monitor o (BitVec.ofNat 32 (ofBytes b)) { s with response := .none } ∧ t.response = .ack 0#16 :=
  ⟨((((State.reset.inMode Mode.service).setHolder (R.DEV_CLAIM 0x1B0) (some .husk)).setBit F.DBG_STATUS_session true).setFld F.DBG_STATUS_scope 0x3F), (MonVia.mk true 0), 0x3F000000000 + BitVec.ofNat 64 R.DBG_FREEZE, R.DBG_FREEZE, [0, 0, 0, 0], _,
    by unfold MonScoped MonServes; decide +kernel, by decide +kernel, by decide +kernel, by decide +kernel, rfl, by decide +kernel⟩
theorem witness_MonitorServesItsSession_7 :
    ∃ s : State, ∃ via : MonVia, ∃ w : Word, MonScoped s via 3 ∧ haltMode s.mode = true ∧ w.toNat < 1024 :=
  ⟨((((State.reset.inMode Mode.service).setHolder (R.DEV_CLAIM 0x1B0) (some .husk)).setBit F.DBG_STATUS_session true).setFld F.DBG_STATUS_scope 0x3F), (MonVia.mk true 0), 0,
    by unfold MonScoped MonServes; decide +kernel, by decide +kernel, by decide +kernel⟩
theorem witness_MonitorServesItsSession_8 :
    ∃ s : State, ∃ via : MonVia, MonScoped s via 3 ∧ haltMode s.mode = true :=
  ⟨((((State.reset.inMode Mode.service).setHolder (R.DEV_CLAIM 0x1B0) (some .husk)).setBit F.DBG_STATUS_session true).setFld F.DBG_STATUS_scope 0x3F), (MonVia.mk true 0),
    by unfold MonScoped MonServes; decide +kernel, by decide +kernel⟩
theorem witness_MonitorServesItsSession_9 :
    ∃ s : State, ∃ via : MonVia, MonScoped s via 3 ∧ haltMode s.mode = false :=
  ⟨(((((State.reset.inMode Mode.service).setHolder (R.DEV_CLAIM 0x1B0) (some .husk)).setBit F.DBG_STATUS_session true).setFld F.DBG_STATUS_scope 0x3F).inMode Mode.boot), (MonVia.mk true 0),
    by unfold MonScoped MonServes; decide +kernel, by decide +kernel⟩
theorem witness_MonitorServesItsSession_10 :
    ∃ s : State, ∃ n : Fin 1024, s.isWide n.val = false ∧ s.mon.stepping = none ∧ (s.engState n.val = EngState.stopped ∨ s.engState n.val = EngState.faulted) :=
  ⟨((let s := State.reset; { s with mon := { s.mon with stepping := none } }).setFld (F.ENG_STATE_state 0) EngState.stopped), 0,
    by decide +kernel, by decide +kernel, by decide +kernel⟩
theorem witness_MonitorServesItsSession_11 :
    ∃ s : State, ∃ n : Nat, s.engState (s.gov n) = EngState.off :=
  ⟨(let s := State.reset; s.setFld (F.ENG_STATE_state (s.gov 0)) EngState.off), 0,
    by decide +kernel⟩
theorem witness_MonitorServesItsSession_12 :
    ∃ s : State, ∃ via : MonVia, ∃ w : Word, ∃ g : Nat, MonScoped s via 3 ∧ w.toNat < 1024 ∧ g = s.gov w.toNat ∧ s.engState g = EngState.halted :=
  ⟨(let s := ((((State.reset.inMode Mode.service).setHolder (R.DEV_CLAIM 0x1B0) (some .husk)).setBit F.DBG_STATUS_session true).setFld F.DBG_STATUS_scope 0x3F); s.setFld (F.ENG_STATE_state (s.gov 0)) EngState.halted), (MonVia.mk true 0), 0, _,
    by unfold MonScoped MonServes; decide +kernel, by decide +kernel, rfl, by decide +kernel⟩
theorem witness_MonitorServesItsSession_13 :
    ∃ s : State, ∃ via : MonVia, ∃ w : Word, MonScoped s via 3 ∧ w.toNat < 1024 ∧ s.engState (s.gov w.toNat) ≠ EngState.halted :=
  ⟨((((State.reset.inMode Mode.service).setHolder (R.DEV_CLAIM 0x1B0) (some .husk)).setBit F.DBG_STATUS_session true).setFld F.DBG_STATUS_scope 0x3F), (MonVia.mk true 0), 0,
    by unfold MonScoped MonServes; decide +kernel, by decide +kernel, by decide +kernel⟩
theorem witness_MonitorServesItsSession_14 :
    ∃ s : State, s.mon.resumeAt ≤ s.now ∧ s.mon.thaw = false ∧ s.mon.ending = false :=
  ⟨(let s := (let s := State.reset; { s with mon := { s.mon with thaw := false } }); { s with mon := { s.mon with ending := false } }),
    by decide +kernel, by decide +kernel, by decide +kernel⟩
theorem witness_MonitorServesItsSession_15 :
    ∃ s : State, ∃ g : Nat, ∃ d : Nat, (s.engine g).startReq = none ∧ d = (if (s.engine g).wdAt.isNone then max (s.engine g).wdLeft 10 else (s.engine g).wdLeft) :=
  ⟨(let s := State.reset; s.setEngine 0 { s.engine 0 with startReq := none }), 0, _,
    by decide +kernel, rfl⟩
theorem witness_MonitorServesItsSession_16 :
    ∃ s : State, ∃ via : MonVia, ∃ w : BitVec 32, ∃ n : BitVec 16, ∃ g : Nat, MonScoped s via 3 ∧ BitVec.toNat w < 1024 ∧ n ≠ 0 ∧ g = s.gov w.toNat ∧ s.engState g = EngState.halted :=
  ⟨(let s := ((((State.reset.inMode Mode.service).setHolder (R.DEV_CLAIM 0x1B0) (some .husk)).setBit F.DBG_STATUS_session true).setFld F.DBG_STATUS_scope 0x3F); s.setFld (F.ENG_STATE_state (s.gov 0)) EngState.halted), (MonVia.mk true 0), 0, 1, _,
    by unfold MonScoped MonServes; decide +kernel, by decide +kernel, by decide +kernel, rfl, by decide +kernel⟩
theorem witness_MonitorServesItsSession_17 :
    ∃ s : State, ∃ via : MonVia, ∃ w : BitVec 32, ∃ n : BitVec 16, MonScoped s via 3 ∧ BitVec.toNat w < 1024 ∧ n ≠ 0 ∧ s.engState (s.gov w.toNat) ≠ EngState.halted :=
  ⟨((((State.reset.inMode Mode.service).setHolder (R.DEV_CLAIM 0x1B0) (some .husk)).setBit F.DBG_STATUS_session true).setFld F.DBG_STATUS_scope 0x3F), (MonVia.mk true 0), 0, 1,
    by unfold MonScoped MonServes; decide +kernel, by decide +kernel, by decide +kernel, by decide +kernel⟩
theorem witness_MonitorServesItsSession_18 :
    ∃ s : State, ∃ via : MonVia, ∃ w : Word, ∃ b : BreakArgs, ∃ x : Break, MonScoped s via 3 ∧ w.toNat < 1024 ∧ BreakArgs.slot b < 4 ∧ b.lo.toNat < 8192 ∧ x = Break.mk b.enable (BitVec.ofNat 2 (b.kind.val + 1)) b.device (b.lo.setWidth 14) (b.hi.setWidth 14) :=
  ⟨((((State.reset.inMode Mode.service).setHolder (R.DEV_CLAIM 0x1B0) (some .husk)).setBit F.DBG_STATUS_session true).setFld F.DBG_STATUS_scope 0x3F), (MonVia.mk true 0), 0, ⟨0, true, 0, false, 0, 0⟩, _,
    by unfold MonScoped MonServes; decide +kernel, by decide +kernel, by decide +kernel, by decide +kernel, rfl⟩
theorem witness_MonitorServesItsSession_19 :
    ∃ s : State, ∃ via : MonVia, MonScoped s via 3 ∧ s.bit F.DBG_STATUS_frozen = false :=
  ⟨((((State.reset.inMode Mode.service).setHolder (R.DEV_CLAIM 0x1B0) (some .husk)).setBit F.DBG_STATUS_session true).setFld F.DBG_STATUS_scope 0x3F), (MonVia.mk true 0),
    by unfold MonScoped MonServes; decide +kernel, by decide +kernel⟩
theorem witness_MonitorServesItsSession_20 :
    ∃ s : State, ∃ via : MonVia, MonScoped s via 3 ∧ s.bit F.DBG_STATUS_frozen = true :=
  ⟨(((((State.reset.inMode Mode.service).setHolder (R.DEV_CLAIM 0x1B0) (some .husk)).setBit F.DBG_STATUS_session true).setFld F.DBG_STATUS_scope 0x3F).setBit F.DBG_STATUS_frozen true), (MonVia.mk true 0),
    by unfold MonScoped MonServes; decide +kernel, by decide +kernel⟩
theorem witness_MonitorServesItsSession_21 :
    ∃ s : State, ∃ via : MonVia, MonScoped s via 3 :=
  ⟨((((State.reset.inMode Mode.service).setHolder (R.DEV_CLAIM 0x1B0) (some .husk)).setBit F.DBG_STATUS_session true).setFld F.DBG_STATUS_scope 0x3F), (MonVia.mk true 0),
    by unfold MonScoped MonServes; decide +kernel⟩
theorem witness_MonitorServesItsSession_22 :
    ∃ s : State, ∃ via : MonVia, ∃ r : Word, MonScoped s via 4 ∧ r.toNat < 96 ∧ s.podFrozen (s.podOf r.toNat) = false :=
  ⟨((((State.reset.inMode Mode.service).setHolder (R.DEV_CLAIM 0x1B0) (some .husk)).setBit F.DBG_STATUS_session true).setFld F.DBG_STATUS_scope 0x3F), (MonVia.mk true 0), 0,
    by unfold MonScoped MonServes; decide +kernel, by decide +kernel, by decide +kernel⟩
theorem witness_MonitorServesItsSession_23 :
    ∃ s : State, ∃ via : MonVia, ∃ r : Word, ∃ v : List Byte × State, ∃ n : Nat, MonScoped s via 4 ∧ r.toNat < 96 ∧ s.podFrozen (s.podOf r.toNat) = true ∧ v = s.freeBytes 0x5400 ∧ n = (s.mon.captures + 1) % 65536 :=
  ⟨((((((State.reset.inMode Mode.service).setHolder (R.DEV_CLAIM 0x1B0) (some .husk)).setBit F.DBG_STATUS_session true).setFld F.DBG_STATUS_scope 0x3F).setBit F.DBG_STATUS_frozen true).setReg R.DBG_FREEZE_PODS_LO 1), (MonVia.mk true 0), 0, _, _,
    by unfold MonScoped MonServes; decide +kernel, by decide +kernel, by decide +kernel, rfl, rfl⟩
theorem witness_MonitorServesItsSession_24 :
    ∃ s : State, ∃ via : MonVia, ∃ l : Word, MonScoped s via 5 ∧ l.toNat < 64 :=
  ⟨((((State.reset.inMode Mode.service).setHolder (R.DEV_CLAIM 0x1B0) (some .husk)).setBit F.DBG_STATUS_session true).setFld F.DBG_STATUS_scope 0x3F), (MonVia.mk true 0), 0,
    by unfold MonScoped MonServes; decide +kernel, by decide +kernel⟩
theorem witness_MonitorServesItsSession_25 :
    ∃ s : State, ∃ via : MonVia, ∃ r : Word, ∃ t : State, MonServes s via ∧ 9600 ≤ r.toNat ∧ r.toNat ≤ 3000000 ∧ t = s.monReply via 0x1C 0 :=
  ⟨((((State.reset.inMode Mode.service).setHolder (R.DEV_CLAIM 0x1B0) (some .husk)).setBit F.DBG_STATUS_session true).setFld F.DBG_STATUS_scope 0x3F), (MonVia.mk true 0), 9600, _,
    by unfold MonServes; decide +kernel, by decide +kernel, by decide +kernel, rfl⟩
theorem witness_MonitorServesItsSession_26 :
    ∃ s : State, ∃ via : MonVia, MonServes s via ∧ bitAt (s.fld F.DBG_STATUS_scope) 2 = false :=
  ⟨(((((State.reset.inMode Mode.service).setHolder (R.DEV_CLAIM 0x1B0) (some .husk)).setBit F.DBG_STATUS_session true).setFld F.DBG_STATUS_scope 0x3F).setFld F.DBG_STATUS_scope 0), (MonVia.mk true 0),
    by unfold MonServes; decide +kernel, by decide +kernel⟩
theorem witness_MonitorServesItsSession_27 :
    ∃ s : State, ∃ via : MonVia, s.monOpen via = true ∧ s.mode ≠ Mode.off ∧ s.mode ≠ Mode.held ∧ s.sessionOpen = false ∧ 2 ≤ s.fuses.lifeCycle ∧ s.mon.waiting = [] ∧ s.mon.stepping = none ∧ s.mon.away = none ∧ s.mon.powered = false :=
  ⟨(let s := (((((State.reset.inMode Mode.service).setHolder (R.DEV_CLAIM 0x1B0) (some .husk)).setBit F.DBG_STATUS_session true).setFld F.DBG_STATUS_scope 0x3F).setBit F.DBG_STATUS_session false); { s with fuses := { s.fuses with lifeCycle := 2 } }), (MonVia.mk true 0),
    by decide +kernel, by decide +kernel, by decide +kernel, by decide +kernel, by decide +kernel, by decide +kernel, by decide +kernel, by decide +kernel, by decide +kernel⟩
theorem witness_MonitorServesItsSession_28 :
    ∃ s : State, ∃ o : Nat, ∃ g : BitVec 8, ∃ b : List Byte, ∃ d : List Byte, ∃ f : List (BitVec 8), o < 256 ∧ List.length b ≤ 4096 ∧ s.monOpen { uart := true, tag := g } = true ∧ d = toBytes 4 (o * 2 ^ 24 + g.toNat * 2 ^ 16) ++ b ∧ f = 0x7E#8 :: (toBytes 2 d.length ++ d ++ toBytes 4 (crc32c d).toNat) :=
  ⟨((((State.reset.inMode Mode.service).setHolder (R.DEV_CLAIM 0x1B0) (some .husk)).setBit F.DBG_STATUS_session true).setFld F.DBG_STATUS_scope 0x3F), 0, 0, [], _, _,
    by decide +kernel, by decide +kernel, by decide +kernel, rfl, rfl⟩
theorem witness_MonitorServesItsSession_29 :
    ∃ s : State, ∃ o : Nat, ∃ g : BitVec 8, ∃ b : List Byte, ∃ d : List Byte, ∃ f : List (BitVec 8), ∃ k : Nat, o < 256 ∧ List.length b ≤ 4096 ∧ s.monOpen { uart := true, tag := g } = true ∧ d = toBytes 4 (o * 2 ^ 24 + g.toNat * 2 ^ 16) ++ b ∧ k < 2 ^ 32 ∧ k ≠ (crc32c d).toNat ∧ f = 0x7E#8 :: (toBytes 2 d.length ++ d ++ toBytes 4 k) :=
  ⟨((((State.reset.inMode Mode.service).setHolder (R.DEV_CLAIM 0x1B0) (some .husk)).setBit F.DBG_STATUS_session true).setFld F.DBG_STATUS_scope 0x3F), 0, 0, [], _, _, 0,
    by decide +kernel, by decide +kernel, by decide +kernel, rfl, by decide +kernel, by decide +kernel, rfl⟩
theorem witness_MonitorServesItsSession_30 :
    ∃ s : State, s.mon.powered = true ∧ s.mon.ready = false :=
  ⟨(let s := (let s := State.reset; { s with mon := { s.mon with powered := true } }); { s with mon := { s.mon with ready := false } }),
    by decide +kernel, by decide +kernel⟩
theorem witness_MonitorServesItsSession_31 :
    ∃ s : State, ∃ t : Nat, s.trust.sessionEnd = some t ∧ t ≤ s.now ∧ s.sessionOpen = true :=
  ⟨(let s := (State.reset.setBit F.DBG_STATUS_session true); { s with trust := { s.trust with sessionEnd := some 0 } }), 0,
    by decide +kernel, by decide +kernel, by decide +kernel⟩
theorem witness_MonitorServesItsSession_32 :
    ∃ s : State, s.anyHalted = false ∧ s.bit F.DBG_STATUS_frozen = false ∧ s.dev.halted = false :=
  ⟨(let s := (State.reset.setBit F.DBG_STATUS_frozen false); { s with dev := { s.dev with halted := false } }),
    by decide +kernel, by decide +kernel, by decide +kernel⟩

end
end

