-- ==== Sys2Proof/Tests/WitnessWaits.lean ====
section
/-! SUPPORT. Witnesses: witness_<statement>_<k> shows a state and operands that meet the premises
of clause k of that statement, for waits, cues, messages, far accesses and the command queue. -/

open Sys2Proof Sys2Proof.Machine

section
set_option Elab.async false

/-- A route entry that carries packets to `d`. -/
def carry (d : Nat) : RouteEntry := ⟨BitVec.ofNat 32 (0xC0000000 + d % 1024 * 65536), 0, 0, 0⟩

theorem carry_usable (d : Nat) : (carry (BitVec.ofNat 10 d).toNat).usable (BitVec.ofNat 10 d).toNat = true := by
  have h : (BitVec.ofNat 10 d).toNat < 1024 := (BitVec.ofNat 10 d).isLt
  generalize (BitVec.ofNat 10 d).toNat = n at h
  have e1 : (carry n).en = true := by
    simp only [carry, RouteEntry.en, BitVec.getLsbD_ofNat, Nat.testBit, Nat.shiftRight_eq_div_pow]
    simp; omega
  have e2 : (carry n).okBit = true := by
    simp only [carry, RouteEntry.okBit, BitVec.getLsbD_ofNat, Nat.testBit, Nat.shiftRight_eq_div_pow]
    simp; omega
  have e3 : (carry n).dst = n := by
    simp only [carry, RouteEntry.dst, bitsOf, BitVec.toNat_ofNat, Nat.shiftRight_eq_div_pow]
    omega
  simp [RouteEntry.usable, e1, e2, e3]

/-- The state with a route from engine 0 to `d`, on entry `r`. -/
def Sys2Proof.Machine.State.carries (s : State) (r d : Nat) : State :=
  s.setRoute (BitVec.ofNat 10 (engNi 0)).toNat (BitVec.ofNat 12 r).toNat (carry (BitVec.ofNat 10 d).toNat)

theorem carries_route (s : State) (r d : Nat) : (s.carries r d).route (BitVec.ofNat 10 (engNi 0)).toNat
    (BitVec.ofNat 12 r).toNat = carry (BitVec.ofNat 10 d).toNat := by
  simp [State.carries, State.route, State.setRoute]

theorem carried (s t : State) (r d : Nat) (p : Packet) (ht : t.noc.routes = (s.carries r d).noc.routes)
    (h1 : p.src = BitVec.ofNat 10 (engNi 0)) (h2 : p.route = BitVec.ofNat 12 r) (h3 : p.dst = BitVec.ofNat 10 d)
    (h4 : p.prioOk = true) :
    t.inject p = some ((t.launchPacket p (carry (BitVec.ofNat 10 d).toNat)).track p) := by
  have e : t.route p.src.toNat p.route.toNat = carry (BitVec.ofNat 10 d).toNat := by
    rw [h1, h2, ← carries_route s r d]
    simp only [State.route, ht]
  simp only [State.inject, e, h3, carry_usable, h4]
  rfl

theorem carried_all (s : State) (r d : Nat) (l : List Packet) : ∀ t : State, t.noc.routes = (s.carries r d).noc.routes →
    (∀ p ∈ l, p.src = BitVec.ofNat 10 (engNi 0) ∧ p.route = BitVec.ofNat 12 r ∧ p.dst = BitVec.ofNat 10 d ∧
      p.prioOk = true) → ∃ u, t.injectAll l = some u := by
  induction l with
  | nil => exact fun t _ _ => ⟨t, rfl⟩
  | cons p l ih =>
    intro t ht h
    obtain ⟨h1, h2, h3, h4⟩ := h p (List.mem_cons_self ..)
    unfold State.injectAll
    rw [carried s t r d p ht h1 h2 h3 h4]
    refine ih _ ?_ fun q hq => h q (List.mem_cons_of_mem _ hq)
    rw [← ht]
    unfold State.track
    split <;> rfl

/-- Engine 0 running, with routes to `d`. -/
def sender (r d : Nat) : State := (State.reset.setFld (F.ENG_STATE_state 0) EngState.running).carries r d

theorem witness_MessagesAndTransactionsRun_1 : ∃ s : State, ∃ e : Fin 1024, ∃ f : KT, ∃ p : Packet, ∃ t, Ready s e.val ∧
    sendWords f = 1 ∧ f.p.toNat < s.ptrLimit e.val ∧ f.pm = 0 ∧ f.a.toNat < s.gLimit e.val ∧
    (s.getG e.val f.a.toNat).clean = true ∧ (s.getG e.val f.a.toNat).w = 0 ∧ p.kind = 5 ∧ p.prio = 0 ∧ p.route = 0 ∧
    p.dst = 0 ∧ p.src = BitVec.ofNat 10 (engUnit e.val).ni ∧ p.txid = 0 ∧ p.payload = toBytes 8 0 ∧
    p.crc = crc32c p.payload ∧ s.inject p = some t :=
  ⟨sender 0 0, 0, ⟨0, 0, 0, 0, 0, 1⟩,
    { kind := 5, prio := 0, route := 0, src := BitVec.ofNat 10 (engUnit 0).ni, dst := 0, txid := 0, poison := false
      integ := true, tag := 0, address := 0, dtag := 0, payload := toBytes 8 0, crc := crc32c (toBytes 8 0)
      fpoison := false }, _, by unfold Ready Runs; decide +kernel, by decide +kernel, by decide +kernel, rfl,
    by decide +kernel, by decide +kernel, by decide +kernel, rfl, rfl, rfl, rfl, rfl, rfl, rfl, rfl,
    carried (State.reset.setFld (F.ENG_STATE_state 0) EngState.running) _ 0 0 _ rfl rfl rfl rfl (by decide +kernel)⟩

theorem witness_FarAccessesRequestAndComplete_1 : ∃ s : State, ∃ e : Fin 1024, ∃ f : KT, ∃ t u v, Ready s e.val ∧
    f.a.toNat < s.gLimit e.val ∧ f.d.toNat < s.gLimit e.val ∧ (s.getG e.val f.a.toNat).clean = true ∧
    f.mod.getLsbD 0 = false ∧ f.imm.toNat = 512 ∧ (s.getG e.val f.a.toNat).w = 0 ∧
    addrPlace 0x20000000000 4 = .spm 0 ∧ s.farTag (engNi e.val) = some t ∧
    s.inject (farPacket e.val (s.placeUnit (.spm 0)).ni 2 t 0 0x20000000000 (toBytes 8 3) false) = some u ∧
    s.inject (farPacket e.val (s.placeUnit (.spm 0)).ni 1 t 0 0x20000000000 (toBytes 4 0) false) = some v :=
  ⟨sender (Unit.spm 0).ni (Unit.spm 0).ni, 0, ⟨0, 0, 0, 0, 0, 512⟩, 0, _, _, by unfold Ready Runs; decide +kernel,
    by decide +kernel, by decide +kernel, by decide +kernel, by decide +kernel, rfl, by decide +kernel, by decide +kernel, rfl,
    carried (State.reset.setFld (F.ENG_STATE_state 0) EngState.running) _ (Unit.spm 0).ni (Unit.spm 0).ni _ rfl rfl rfl rfl rfl,
    carried (State.reset.setFld (F.ENG_STATE_state 0) EngState.running) _ (Unit.spm 0).ni (Unit.spm 0).ni _ rfl rfl rfl rfl rfl⟩

theorem witness_FarAccessesRequestAndComplete_3 : ∃ s : State, ∃ e : Fin 1024, ∃ f : KT, ∃ t u v, Ready s e.val ∧
    f.a.toNat < s.gLimit e.val ∧ f.d.toNat < s.gLimit e.val ∧ (s.getG e.val f.a.toNat).clean = true ∧
    f.imm.toNat = 512 ∧ (s.getG e.val f.a.toNat).w = 0 ∧ addrPlace 0x20000000000 4 = .spm 0 ∧
    s.farTag (engNi e.val) = some t ∧
    s.inject (farPacket e.val (s.placeUnit (.spm 0)).ni 3 t 0 0x20000000000 (toBytes 4 0) false) = some u ∧
    s.inject (farPacket e.val (s.placeUnit (.spm 0)).ni 4 t 0 0x20000000000 (toBytes 4 0) false) = some v :=
  ⟨sender (Unit.spm 0).ni (Unit.spm 0).ni, 0, ⟨0, 0, 0, 0, 0, 512⟩, 0, _, _, by unfold Ready Runs; decide +kernel,
    by decide +kernel, by decide +kernel, by decide +kernel, rfl, by decide +kernel, by decide +kernel, rfl,
    carried (State.reset.setFld (F.ENG_STATE_state 0) EngState.running) _ (Unit.spm 0).ni (Unit.spm 0).ni _ rfl rfl rfl rfl rfl,
    carried (State.reset.setFld (F.ENG_STATE_state 0) EngState.running) _ (Unit.spm 0).ni (Unit.spm 0).ni _ rfl rfl rfl rfl rfl⟩

theorem witness_FarAccessesRequestAndComplete_4 : ∃ s : State, ∃ e : Fin 1024, ∃ f : KT, Ready s e.val ∧
    f.a.toNat < s.gLimit e.val ∧ f.d.toNat < s.gLimit e.val ∧ (s.getG e.val f.a.toNat).clean = true ∧
    f.imm.toNat = 0 ∧ (s.getG e.val f.a.toNat).w = 2 :=
  ⟨(State.reset.setFld (F.ENG_STATE_state 0) EngState.running).setEngine 0 { g := [(0, ⟨2, false, false⟩)] }, 0,
    ⟨0, 0, 0, 0, 0, 0⟩, by unfold Ready Runs; decide +kernel, by decide +kernel, by decide +kernel, by decide +kernel,
    rfl, by decide +kernel⟩

theorem witness_FarAccessesRequestAndComplete_5 : ∃ s : State, ∃ tag n x, s.farOwner 0 tag = some (n, x) ∧
    x.op = .load true ∧ x.rd.toNat < 32 ∧ (s.engine n).inner = none ∧ (s.engine n).haltReq = false ∧
    (s.engine n).lock = 0 ∧ s.mon.stepping = none :=
  ⟨State.reset.farWait 0 { op := .load true, rd := 0, tag := 0 }, 0, 0, { op := .load true, rd := 0, tag := 0 }, by decide +kernel⟩

theorem witness_EngineQueueOperationsRequest_2 : ∃ s : State, ∃ e : Fin 1024, ∃ f : KT, ∃ q t u, Ready s e.val ∧
    f.a.toNat + 3 ≤ s.gLimit e.val ∧ f.d.toNat < s.gLimit e.val ∧ f.p.toNat < s.ptrLimit e.val ∧ f.pm = 0 ∧
    (∀ i, i < 3 → (s.getG e.val (f.a.toNat + i)).clean = true) ∧
    q = qParams f ((s.getG e.val f.a.toNat).w.toNat % 2 ^ 32) ∧ q.ok = true ∧ s.farTag (engNi e.val) = some t ∧
    s.injectAll (enqPackets e.val Unit.qe.ni t q 0 0
      ((s.ptrRun e.val f.p.toNat (s.ptr e.val f.p.toNat) q.words).map (s.dword (ptrEng e.val f.p.toNat)))) = some u := by
  obtain ⟨u, hu⟩ := carried_all (State.reset.setFld (F.ENG_STATE_state 0) EngState.running) Unit.qe.ni Unit.qe.ni
    (enqPackets 0 Unit.qe.ni 0 ⟨0, 0, 0, 1, 0, false⟩ 0 0 [⟨0, false, false⟩]) (sender Unit.qe.ni Unit.qe.ni) rfl (by
      intro p hp
      simp only [enqPackets, List.mem_cons, List.mem_map] at hp
      rcases hp with rfl | ⟨x, -, rfl⟩ <;> exact ⟨rfl, rfl, rfl, by simp [Packet.prioOk, farPacket]⟩)
  exact ⟨sender Unit.qe.ni Unit.qe.ni, 0, ⟨0, 0, 0, 0, 0, 1⟩, ⟨0, 0, 0, 1, 0, false⟩, 0, u,
    by unfold Ready Runs; decide +kernel, by decide +kernel, by decide +kernel, by decide +kernel, rfl, by decide +kernel,
    rfl, by decide +kernel, rfl, hu⟩

theorem witness_EngineQueueOperationsRequest_3 : ∃ s : State, ∃ e : Fin 1024, ∃ f : KT, ∃ q t u, Ready s e.val ∧
    f.a.toNat + 3 ≤ s.gLimit e.val ∧ f.d.toNat < s.gLimit e.val ∧
    (∀ i, i < 3 → (s.getG e.val (f.a.toNat + i)).clean = true) ∧
    q = qParams f ((s.getG e.val f.a.toNat).w.toNat % 2 ^ 32) ∧ s.farTag (engNi e.val) = some t ∧
    s.inject (farPacket e.val Unit.qe.ni 9 t q.txid (queueAddr 3 q.queue q.post false)
      (toBytes 8 ((s.getG e.val (f.a.toNat + 1)).w.toNat % 2 ^ 32 % 2 ^ 20)) false) = some u :=
  ⟨sender Unit.qe.ni Unit.qe.ni, 0, ⟨0, 0, 0, 0, 0, 1⟩, _, 0, _, by unfold Ready Runs; decide +kernel, by decide +kernel,
    by decide +kernel, by decide +kernel, rfl, rfl,
    carried (State.reset.setFld (F.ENG_STATE_state 0) EngState.running) _ Unit.qe.ni Unit.qe.ni _ rfl rfl rfl rfl rfl⟩

theorem witness_EngineQueueOperationsRequest_4 : ∃ s : State, ∃ e : Fin 1024, ∃ f : KT, ∃ q t u, Ready s e.val ∧
    f.a.toNat + 3 ≤ s.gLimit e.val ∧ f.d.toNat + 4 ≤ s.gLimit e.val ∧ f.p.toNat < s.ptrLimit e.val ∧ f.pm = 0 ∧
    (s.getG e.val f.a.toNat).clean = true ∧ q = qParams f ((s.getG e.val f.a.toNat).w.toNat % 2 ^ 32) ∧ q.ok = true ∧
    s.farTag (engNi e.val) = some t ∧ s.inject (farPacket e.val Unit.qe.ni 9 t q.txid (queueAddr 2 q.queue false false)
      (toBytes 8 (q.len - 1)) false) = some u :=
  ⟨sender Unit.qe.ni Unit.qe.ni, 0, ⟨0, 0, 0, 0, 0, 1⟩, _, 0, _, by unfold Ready Runs; decide +kernel, by decide +kernel,
    by decide +kernel, by decide +kernel, rfl, by decide +kernel, rfl, by decide +kernel, rfl,
    carried (State.reset.setFld (F.ENG_STATE_state 0) EngState.running) _ Unit.qe.ni Unit.qe.ni _ rfl rfl rfl rfl rfl⟩

theorem witness_KotinDecodeInvertsEncode_2 : ∃ (w : DWord) (k : KInstr), kotinDecode w = some k :=
  ⟨0x4100805000000000, .m .cmacm ⟨0, 1, 0, 10, 0, 0⟩, by decide +kernel⟩


theorem witness_EngineWaitsEndOnTheirInstant_1 :
    ∃ s : State, ∃ e : Fin 1024, ∃ f : KR, Ready s e.val ∧ f.d ≠ f.a ∧ f.d.toNat < s.gLimit e.val ∧ f.a.toNat < s.gLimit e.val :=
  ⟨(State.reset.setFld (F.ENG_STATE_state 0) EngState.running), 0, ⟨0, 1, 0, 0, 0⟩,
    by unfold Ready Runs; decide +kernel, by decide +kernel, by decide +kernel, by decide +kernel⟩
theorem witness_EngineWaitsEndOnTheirInstant_2 :
    ∃ s : State, ∃ e : Fin 1024, ∃ f : KR, ∃ t : BitVec 32, Ready s e.val ∧ f.d.toNat < s.gLimit e.val ∧ f.a.toNat < s.gLimit e.val ∧ (s.getG e.val f.a.toNat).clean = true ∧ t = (s.getG e.val f.a.toNat).w.setWidth 32 :=
  ⟨(State.reset.setFld (F.ENG_STATE_state 0) EngState.running), 0, ⟨0, 0, 0, 0, 0⟩, _,
    by unfold Ready Runs; decide +kernel, by decide +kernel, by decide +kernel, by decide +kernel, rfl⟩
theorem witness_EngineWaitsEndOnTheirInstant_3 :
    ∃ s : State, ∃ e : Fin 1024, ∃ f : KR, Ready s e.val ∧ f.d.toNat < s.gLimit e.val ∧ f.mod.getLsbD 0 = false :=
  ⟨(State.reset.setFld (F.ENG_STATE_state 0) EngState.running), 0, ⟨0, 0, 0, 0, 0⟩,
    by unfold Ready Runs; decide +kernel, by decide +kernel, by decide +kernel⟩
theorem witness_EngineWaitsEndOnTheirInstant_4 :
    ∃ s : State, ∃ e : Fin 1024, ∃ f : KR, ∃ t : BitVec 32, Ready s e.val ∧ f.d.toNat < s.gLimit e.val ∧ f.mod.getLsbD 0 = true ∧ f.a.toNat < s.gLimit e.val ∧ (s.getG e.val f.a.toNat).clean = true ∧ t = (s.getG e.val f.a.toNat).w.setWidth 32 ∧ s.reg (R.ENG_EVT e.val) &&& (f.imm &&& 0xFFFF#32) = 0 :=
  ⟨(State.reset.setFld (F.ENG_STATE_state 0) EngState.running), 0, ⟨0, 0, 0, 1, 0⟩, _,
    by unfold Ready Runs; decide +kernel, by decide +kernel, by decide +kernel, by decide +kernel, by decide +kernel, rfl, by decide +kernel⟩
theorem witness_EngineWaitsEndOnTheirInstant_6 :
    ∃ s : State, ∃ e : Fin 1024, ∃ d : BitVec 6, ∃ t : Word, s.waitOf e.val = .time d t ∧ s.isWide e.val = false ∧ s.oddOfPair e.val = false ∧ d.toNat < 32 ∧ s.engState e.val = EngState.waiting ∧ s.isReached t = true ∧ s.copyLost (engUnit e.val) = false ∧ (s.engine e.val).inner = none ∧ (s.engine e.val).breaks = [] ∧ s.mon.stepping = none :=
  ⟨(let s := (let s := ((State.reset.setWait 0 (.time 0 0)).setFld (F.ENG_STATE_state 0) EngState.waiting); s.setEngine 0 { s.engine 0 with breaks := [] }); { s with mon := { s.mon with stepping := none } }), 0, 0, 0,
    by decide +kernel, by decide +kernel, by decide +kernel, by decide +kernel, by decide +kernel, by decide +kernel, by decide +kernel, by decide +kernel, by decide +kernel, by decide +kernel⟩
theorem witness_EngineWaitsEndOnTheirInstant_7 :
    ∃ s : State, ∃ e : Fin 1024, ∃ d : BitVec 6, ∃ t : Word, s.waitOf e.val = .time d t ∧ s.isReached t = false :=
  ⟨(State.reset.setWait 0 (.time 0 5)), 0, 0, 5,
    by decide +kernel, by decide +kernel⟩
theorem witness_EngineWaitsEndOnTheirInstant_8 :
    ∃ s : State, ∃ e : Fin 1024, ∃ d : BitVec 6, ∃ m : BitVec 16, ∃ l : Option Word, ∃ c : Bool, s.waitOf e.val = .events d m l c ∧ s.isWide e.val = false ∧ s.oddOfPair e.val = false ∧ d.toNat < 32 ∧ s.engState e.val = EngState.waiting ∧ s.reg (R.ENG_EVT e.val) &&& m.setWidth 32 ≠ 0 ∧ (s.engine e.val).inner = none ∧ (s.engine e.val).breaks = [] ∧ s.mon.stepping = none :=
  ⟨((let s := (let s := ((State.reset.setWait 0 (.events 0 1 none false)).setFld (F.ENG_STATE_state 0) EngState.waiting); s.setEngine 0 { s.engine 0 with breaks := [] }); { s with mon := { s.mon with stepping := none } }).setReg (R.ENG_EVT 0) 1), 0, 0, 1, none, false,
    by decide +kernel, by decide +kernel, by decide +kernel, by decide +kernel, by decide +kernel, by decide +kernel, by decide +kernel, by decide +kernel, by decide +kernel⟩
theorem witness_EngineWaitsEndOnTheirInstant_9 :
    ∃ s : State, ∃ e : Fin 1024, ∃ d : BitVec 6, ∃ m : BitVec 16, ∃ c : Bool, s.waitOf e.val = .events d m none c ∧ s.reg (R.ENG_EVT e.val) &&& m.setWidth 32 = 0 :=
  ⟨(State.reset.setWait 0 (.events 0 0 none false)), 0, 0, 0, false,
    by decide +kernel, by decide +kernel⟩
theorem witness_CuesPortsAndDoorbellsRun_1 :
    ∃ s : State, ∃ e : Fin 1024, ∃ f : KR, ∃ t : BitVec 32, Ready s e.val ∧ f.d.toNat < s.gLimit e.val ∧ f.a.toNat < s.gLimit e.val ∧ (s.getG e.val f.a.toNat).clean = true ∧ t = (s.getG e.val f.a.toNat).w.setWidth 32 :=
  ⟨(State.reset.setFld (F.ENG_STATE_state 0) EngState.running), 0, ⟨0, 0, 0, 0, 0⟩, _,
    by unfold Ready Runs; decide +kernel, by decide +kernel, by decide +kernel, by decide +kernel, rfl⟩
theorem witness_CuesPortsAndDoorbellsRun_2 :
    ∃ s : State, ∃ e : Fin 1024, ∃ f : KR, Ready s e.val ∧ f.d.toNat < s.gLimit e.val :=
  ⟨(State.reset.setFld (F.ENG_STATE_state 0) EngState.running), 0, ⟨0, 0, 0, 0, 0⟩,
    by unfold Ready Runs; decide +kernel, by decide +kernel⟩
theorem witness_CuesPortsAndDoorbellsRun_3 :
    ∃ s : State, ∃ e : Fin 1024, Ready s e.val :=
  ⟨(State.reset.setFld (F.ENG_STATE_state 0) EngState.running), 0,
    by unfold Ready Runs; decide +kernel⟩
theorem witness_CuesPortsAndDoorbellsRun_4 :
    ∃ s : State, ∃ e : Fin 1024, Ready s e.val :=
  ⟨(State.reset.setFld (F.ENG_STATE_state 0) EngState.running), 0,
    by unfold Ready Runs; decide +kernel⟩
theorem witness_CuesPortsAndDoorbellsRun_5 :
    ∃ s : State, ∃ e : Fin 1024, ∃ f : KR, ∃ w : PortWord, ∃ l : List PortWord, ∃ u : State, Ready s e.val ∧ f.d.toNat % 2 = 0 ∧ f.d.toNat + 2 ≤ s.gLimit e.val ∧ f.mod.getLsbD 1 = false ∧ (s.engine e.val).toEngine = w :: l ∧ u = ((s.setEngine e.val { s.engine e.val with toEngine := l }).putW e.val f.d.toNat w.w0 w.p0).putW e.val (f.d.toNat + 1) w.w1 w.p1 :=
  ⟨(let s := (State.reset.setFld (F.ENG_STATE_state 0) EngState.running); s.setEngine 0 { s.engine 0 with toEngine := (⟨0, 0, false, false⟩ : PortWord) :: ([] : List PortWord) }), 0, ⟨0, 0, 0, 0, 0⟩, ⟨0, 0, false, false⟩, [], _,
    by unfold Ready Runs; decide +kernel, by decide +kernel, by decide +kernel, by decide +kernel, by decide +kernel, rfl⟩
theorem witness_CuesPortsAndDoorbellsRun_6 :
    ∃ s : State, ∃ e : Fin 1024, ∃ f : KR, Ready s e.val ∧ f.d.toNat % 2 = 0 ∧ f.d.toNat + 2 ≤ s.gLimit e.val ∧ f.mod.getLsbD 1 = false ∧ (s.engine e.val).toEngine = [] :=
  ⟨(let s := (State.reset.setFld (F.ENG_STATE_state 0) EngState.running); s.setEngine 0 { s.engine 0 with toEngine := [] }), 0, ⟨0, 0, 0, 0, 0⟩,
    by unfold Ready Runs; decide +kernel, by decide +kernel, by decide +kernel, by decide +kernel, by decide +kernel⟩
theorem witness_CuesPortsAndDoorbellsRun_7 :
    ∃ s : State, ∃ e : Fin 1024, ∃ f : KR, ∃ u : State, Ready s e.val ∧ f.a.toNat % 2 = 0 ∧ f.a.toNat + 2 ≤ s.gLimit e.val ∧ f.mod.getLsbD 1 = false ∧ u = s.portSend e.val (PortWord.mk (s.getG e.val f.a.toNat).w (s.getG e.val (f.a.toNat + 1)).w (!(s.getG e.val f.a.toNat).clean) (!(s.getG e.val (f.a.toNat + 1)).clean)) :=
  ⟨(State.reset.setFld (F.ENG_STATE_state 0) EngState.running), 0, ⟨0, 0, 0, 0, 0⟩, _,
    by unfold Ready Runs; decide +kernel, by decide +kernel, by decide +kernel, by decide +kernel, rfl⟩
theorem witness_CuesPortsAndDoorbellsRun_8 :
    ∃ s : State, ∃ n : Nat, s.paired (s.portPod n) = false :=
  ⟨State.reset, 0,
    by decide +kernel⟩
theorem witness_CuesPortsAndDoorbellsRun_9 :
    ∃ s : State, ∃ e : Fin 1024, ∃ f : KR, ∃ v : Word, Ready s e.val ∧ ((if f.mod.getLsbD 2 then f.a.toNat < s.gLimit e.val ∧ (s.getG e.val f.a.toNat).clean = true ∧ v = (s.getG e.val f.a.toNat).w.setWidth 32 else v = f.imm)) :=
  ⟨(State.reset.setFld (F.ENG_STATE_state 0) EngState.running), 0, ⟨0, 0, 0, 0, 0⟩, 0,
    by unfold Ready Runs; decide +kernel, by decide +kernel⟩
theorem witness_MessagesAndTransactionsRun_2 :
    ∃ s : State, ∃ e : Fin 1024, ∃ f : KT, Ready s e.val ∧ (sendWords f = 0 ∨ 64 < sendWords f) :=
  ⟨(State.reset.setFld (F.ENG_STATE_state 0) EngState.running), 0, ⟨0, 0, 0, 0, 0, 0⟩,
    by unfold Ready Runs; decide +kernel, by decide +kernel⟩
theorem witness_MessagesAndTransactionsRun_3 :
    ∃ s : State, ∃ e : Fin 1024, ∃ f : KR, ∃ r : Nat × Nat × State, Ready s e.val ∧ f.d.toNat < s.gLimit e.val ∧ r = s.txOpenFor (engUnit e.val) (f.imm.toNat % 65536) :=
  ⟨(State.reset.setFld (F.ENG_STATE_state 0) EngState.running), 0, ⟨0, 0, 0, 0, 0⟩, _,
    by unfold Ready Runs; decide +kernel, by decide +kernel, rfl⟩
theorem witness_MessagesAndTransactionsRun_4 :
    ∃ s : State, ∃ e : Fin 1024, ∃ f : KR, Ready s e.val ∧ f.d.toNat < s.gLimit e.val ∧ f.a.toNat < s.gLimit e.val ∧ (s.getG e.val f.a.toNat).clean = true ∧ s.holdsTx e.val (f.imm.toNat % 256) = false :=
  ⟨(State.reset.setFld (F.ENG_STATE_state 0) EngState.running), 0, ⟨0, 0, 0, 0, 0⟩,
    by unfold Ready Runs; decide +kernel, by decide +kernel, by decide +kernel, by decide +kernel, by decide +kernel⟩
theorem witness_MessagesAndTransactionsRun_5 :
    ∃ s : State, ∃ e : Fin 1024, ∃ f : KR, ∃ l : Launch, ∃ r : Nat × State, Ready s e.val ∧ f.d.toNat < s.gLimit e.val ∧ ((if f.mod.getLsbD 0 then l = Launch.asap else f.a.toNat < s.gLimit e.val ∧ (s.getG e.val f.a.toNat).clean = true ∧ l = .at ((s.getG e.val f.a.toNat).w.setWidth 32))) ∧ s.holdsTx e.val (f.imm.toNat % 256) = true ∧ r = s.txCommitFor (engUnit e.val) (f.imm.toNat % 256) l :=
  ⟨((State.reset.setFld (F.ENG_STATE_state 0) EngState.running).setHeldTx 0 [⟨0, false, 0, none⟩]), 0, ⟨0, 0, 0, 0, 0⟩, Launch.at 0, _,
    by unfold Ready Runs; decide +kernel, by decide +kernel, by decide +kernel, by decide +kernel, rfl⟩
theorem witness_MessagesAndTransactionsRun_6 :
    ∃ s : State, ∃ e : Fin 1024, ∃ f : KR, ∃ r : Nat × State, Ready s e.val ∧ f.d.toNat < s.gLimit e.val ∧ s.holdsTx e.val (f.imm.toNat % 256) = true ∧ r = s.txAbortFor (engUnit e.val) (f.imm.toNat % 256) :=
  ⟨((State.reset.setFld (F.ENG_STATE_state 0) EngState.running).setHeldTx 0 [⟨0, false, 0, none⟩]), 0, ⟨0, 0, 0, 0, 0⟩, _,
    by unfold Ready Runs; decide +kernel, by decide +kernel, by decide +kernel, rfl⟩
theorem witness_MessagesAndTransactionsRun_7 :
    ∃ s : State, ∃ e : Fin 1024, ∃ f : KR, ∃ h : HeldTx, Ready s e.val ∧ f.d.toNat < s.gLimit e.val ∧ ((s.heldTx e.val).find? (fun x => x.id.toNat == f.imm.toNat % 256) = some h) :=
  ⟨((State.reset.setFld (F.ENG_STATE_state 0) EngState.running).setHeldTx 0 [⟨0, true, 0, none⟩]), 0, ⟨0, 0, 0, 0, 0⟩, ⟨0, true, 0, none⟩,
    by unfold Ready Runs; decide +kernel, by decide +kernel, by decide +kernel⟩

theorem witness_FarAccessesRequestAndComplete_2 :
    ∃ s : State, ∃ e : Fin 1024, ∃ f : KT, ∃ a : Nat, ∃ k : Nat, Ready s e.val ∧ f.a.toNat < s.gLimit e.val ∧ f.d.toNat < s.gLimit e.val ∧ (s.getG e.val f.a.toNat).clean = true ∧ k = (if f.mod.getLsbD 0 then 8 else 4) ∧ a = f.imm.toNat % 2 ^ 16 * 2 ^ 32 + (s.getG e.val f.a.toNat).w.toNat % 2 ^ 32 :=
  ⟨(State.reset.setFld (F.ENG_STATE_state 0) EngState.running), 0, ⟨0, 0, 0, 0, 0, 0⟩, _, _,
    by unfold Ready Runs; decide +kernel, by decide +kernel, by decide +kernel, by decide +kernel, rfl, rfl⟩
theorem witness_FarAccessesRequestAndComplete_6 :
    ∃ s : State, ∃ e : Fin 1024, ∃ pc : BitVec 13, ∃ l : List (BitVec 13), (s.engine e.val).lateErrors = pc :: l ∧ s.engState e.val = EngState.running ∧ (s.engine e.val).far = none :=
  ⟨(let s := ((let s := State.reset; s.setEngine 0 { s.engine 0 with lateErrors := 0 :: ([] : List (BitVec 13)) }).setFld (F.ENG_STATE_state 0) EngState.running); s.setEngine 0 { s.engine 0 with far := none }), 0, 0, [],
    by decide +kernel, by decide +kernel, by decide +kernel⟩
theorem witness_FarAccessesRequestAndComplete_7 :
    ∃ s : State, ∃ e : Fin 1024, (s.engine e.val).lateErrors = [] :=
  ⟨(let s := State.reset; s.setEngine 0 { s.engine 0 with lateErrors := [] }), 0,
    by decide +kernel⟩
theorem witness_EngineQueueOperationsRequest_1 :
    ∃ s : State, ∃ e : Fin 1024, ∃ f : KT, ∃ q : QParams, q = qParams f ((s.getG e.val f.a.toNat).w.toNat % 2 ^ 32) :=
  ⟨State.reset, 0, ⟨0, 0, 0, 0, 0, 0⟩, _,
    rfl⟩
theorem witness_EngineQueueOperationsRequest_5 :
    ∃ s : State, ∃ e : Fin 1024, ∃ f : KT, ∃ q : QParams, Ready s e.val ∧ f.a.toNat + 3 ≤ s.gLimit e.val ∧ f.d.toNat + 4 ≤ s.gLimit e.val ∧ f.p.toNat < s.ptrLimit e.val ∧ (f.pm = 0 ∨ f.pm = 2) ∧ ((∀ i, i < 3 → (s.getG e.val (f.a.toNat + i)).clean = true)) ∧ q = qParams f ((s.getG e.val f.a.toNat).w.toNat % 2 ^ 32) ∧ q.ok = false ∧ f.mod.getLsbD 0 = false :=
  ⟨(State.reset.setFld (F.ENG_STATE_state 0) EngState.running), 0, ⟨0, 0, 0, 0, 0, 0⟩, _,
    by unfold Ready Runs; decide +kernel, by decide +kernel, by decide +kernel, by decide +kernel, by decide +kernel, by decide +kernel, rfl, by decide +kernel, by decide +kernel⟩
theorem witness_EngineQueueOperationsRequest_6 :
    ∃ s : State, ∃ ni : Fin 768, ∃ tag : BitVec 8, s.findReq ni.val tag.toNat = none :=
  ⟨State.reset, 0, 0,
    by decide +kernel⟩
theorem witness_EngineQueueOperationsRequest_7 :
    ∃ s : State, ∃ ni : Fin 768, ∃ tag : BitVec 8, ∃ q : PendingReq, s.findReq ni.val tag.toNat = some q ∧ s.tim.uptime < q.sent + 1000 * s.fld F.NOC_REQ_TIMEOUT_timeout_us :=
  ⟨(let s := State.reset; { s with noc := { s.noc with requests := [⟨0, 0, 0, 1, 0, false, 0⟩] } }), 0, 0, ⟨0, 0, 0, 1, 0, false, 0⟩,
    by decide +kernel, by decide +kernel⟩
theorem witness_EngineQueueOperationsRequest_8 :
    ∃ s : State, ∃ ni : Fin 768, ∃ tag : BitVec 8, ∃ q : PendingReq, s.findReq ni.val tag.toNat = some q ∧ q.sent + 1000 * s.fld F.NOC_REQ_TIMEOUT_timeout_us ≤ s.tim.uptime :=
  ⟨((let s := State.reset; { s with noc := { s.noc with requests := [⟨0, 0, 0, 1, 0, false, 0⟩] } }).upFor 1000000), 0, 0, ⟨0, 0, 0, 1, 0, false, 0⟩,
    by decide +kernel, by decide +kernel⟩

theorem witness_StepRunsTheFrontCommand_1 :
    ∃ s : State, ∃ c : Instr, ∃ l : List Instr, s.pending = c :: l :=
  ⟨({ State.reset with pending := .vhuskWithinRange :: ([] : List Instr) }), .vhuskWithinRange, [],
    by decide +kernel⟩
theorem witness_EmptyQueueLetsTimePass_1 :
    ∃ s : State, s.pending = [] ∧ s.tim.running = false ∧ s.mon.waiting = [] ∧ s.bit F.PCI_FLASH_WEAR_acorn_locked = false :=
  ⟨((let s := (let s := ({ State.reset with pending := [] }); { s with tim := { s.tim with running := false } }); { s with mon := { s.mon with waiting := [] } }).setBit F.PCI_FLASH_WEAR_acorn_locked false),
    by decide +kernel, by decide +kernel, by decide +kernel, by decide +kernel⟩
theorem witness_EmptyQueueLetsTimePass_2 :
    ∃ s : State, s.pending = [] ∧ s.tim.running = true ∧ s.mon.waiting = [] ∧ s.bit F.PCI_FLASH_WEAR_acorn_locked = false :=
  ⟨((let s := (let s := ({ State.reset with pending := [] }); { s with tim := { s.tim with running := true } }); { s with mon := { s.mon with waiting := [] } }).setBit F.PCI_FLASH_WEAR_acorn_locked false),
    by decide +kernel, by decide +kernel, by decide +kernel, by decide +kernel⟩
theorem witness_EmptyQueueLetsTimePass_3 :
    ∃ s : State, s.pending = [] ∧ s.tim.running = true ∧ s.mon.waiting = [] ∧ s.bit F.PCI_FLASH_WEAR_acorn_locked = false ∧ ((∀ b, (s.dom b).slewing = false)) :=
  ⟨((let s := (let s := ({ State.reset with pending := [] }); { s with tim := { s.tim with running := true } }); { s with mon := { s.mon with waiting := [] } }).setBit F.PCI_FLASH_WEAR_acorn_locked false),
    by decide +kernel, by decide +kernel, by decide +kernel, by decide +kernel, by decide +kernel⟩
theorem witness_KotinDecodeInvertsEncode_4 :
    ∃ w : DWord, w.extractLsb' 56 8 ∉ ROp.all.map ROp.code ++ TOp.all.map TOp.code ++ MOp.all.map MOp.code ++ COp.all.map COp.code ++ [ldiCode] :=
  ⟨0xFF00000000000000,
    by decide +kernel⟩
theorem witness_KotinDecodeInvertsEncode_5 :
    ∃ w : DWord, ∃ op : MOp, w.extractLsb' 56 8 = MOp.code op ∧ w.extractLsb' 0 24 ≠ 0 :=
  ⟨0x4100000000000001, MOp.cmacm,
    by decide +kernel, by decide +kernel⟩
theorem witness_KotinDecodeInvertsEncode_6 :
    ∃ w : DWord, ∃ op : COp, w.extractLsb' 56 8 = COp.code op ∧ (w.extractLsb' 50 2 ≠ 0 ∨ w.extractLsb' 29 15 ≠ 0) :=
  ⟨0x5004000000000000, COp.br,
    by decide +kernel, by decide +kernel⟩
theorem witness_KotinDecodeInvertsEncode_7 :
    ∃ w : DWord, w.extractLsb' 56 8 = ldiCode ∧ w.extractLsb' 36 14 ≠ 0 :=
  ⟨0x1000001000000000,
    by decide +kernel, by decide +kernel⟩

end
end

section
/-! PROOFS. Accesses to control register space: the halves of wide values held and latched for a
source NI (R11), the checks that every access passes (R7, R18, R22, R23), and the statements
about register writes and reads. -/

namespace Sys2Proof.Machine

variable {s : State} {m n : Master} {r : RegRow} {off : Nat} {w : Word}

/-! ## Halves of wide values, kept per source NI (R11) -/

theorem srcKey_ne_of_not_same (h : n.same m = false) (off : Nat) : srcKey n off ≠ srcKey m off := by
  have hk : n.key ≠ m.key := by simpa [Master.same] using h
  unfold srcKey
  omega

theorem State.reg_eq_of_ctrl {t : State} (h : t.ctrl = s.ctrl) (k : Nat) : t.reg k = s.reg k := by
  rw [State.reg, State.reg, h]

theorem State.heldLo_eq_of_ctrl {t : State} (h : t.ctrl = s.ctrl) (m : Master) (off : Nat) :
    t.heldLo m off = s.heldLo m off := by
  rw [State.heldLo, State.heldLo, h]

theorem State.latched_eq_of_ctrl {t : State} (h : t.ctrl = s.ctrl) (m : Master) (off : Nat) :
    t.latched m off = s.latched m off := by
  rw [State.latched, State.latched, h]

@[simp] theorem State.reg_setHeld (x : Option Word) (k : Nat) : (s.setHeld m off x).reg k = s.reg k := by
  rw [State.setHeld, State.reg, State.reg]

@[simp] theorem State.reg_setLatch (x : Option Word) (k : Nat) : (s.setLatch m off x).reg k = s.reg k := by
  rw [State.setLatch, State.reg, State.reg]

@[simp] theorem State.heldLo_setReg (o : Nat) (v : Word) : (s.setReg o v).heldLo m off = s.heldLo m off := by
  rw [State.setReg, State.heldLo, State.heldLo]

@[simp] theorem State.heldLo_ack (x : Nat) : (s.ack x).heldLo m off = s.heldLo m off :=
  State.heldLo_eq_of_ctrl (State.ack_ctrl s x) m off

@[simp] theorem State.latched_reply (l : List Byte) (p : Bool) :
    (s.reply l p).latched m off = s.latched m off :=
  State.latched_eq_of_ctrl (State.reply_ctrl s l p) m off

@[simp] theorem State.heldLo_setHeld_same (x : Option Word) : (s.setHeld m off x).heldLo m off = x := by
  simp [State.heldLo, State.setHeld]

/-- What another source NI holds is not disturbed. -/
theorem State.heldLo_setHeld_other (x : Option Word) (h : n.same m = false) :
    (s.setHeld m off x).heldLo n off = s.heldLo n off := by
  simp [State.heldLo, State.setHeld, srcKey_ne_of_not_same h off]

@[simp] theorem State.latched_setLatch_same (x : Option Word) : (s.setLatch m off x).latched m off = x := by
  simp [State.latched, State.setLatch]

/-- What is latched for another source NI is not disturbed. -/
theorem State.latched_setLatch_other (x : Option Word) (h : n.same m = false) :
    (s.setLatch m off x).latched n off = s.latched n off := by
  simp [State.latched, State.setLatch, srcKey_ne_of_not_same h off]

theorem State.writePair_of_held {lo hi : Nat} {l : Word} (h : s.heldLo m lo = some l) :
    s.writePair m lo hi w = ((s.setReg lo l).setHeld m lo none).setReg hi w := by
  rw [State.writePair, h]

theorem State.writePair_of_none {lo hi : Nat} (h : s.heldLo m lo = none) :
    s.writePair m lo hi w = s.setReg hi w := by
  rw [State.writePair, h]

/-! ## Commands and their accesses -/

theorem exec_registerWrite (m : Master) (off : BitVec 25) (w : Word) (s : State) :
    exec (.registerWrite m off w) s = .next (busWrite m off.toNat w s) := by
  rfl

theorem exec_registerRead (m : Master) (off : BitVec 25) (s : State) :
    exec (.registerRead m off) s = .next (busRead m off.toNat s) := by
  rfl

theorem exec_registerWrite_at (h : off < 2 ^ 25) :
    exec (.registerWrite m (BitVec.ofNat 25 off) w) s = .next (busWrite m off w s) := by
  rw [exec_registerWrite, BitVec.toNat_ofNat, Nat.mod_eq_of_lt h]

theorem exec_registerRead_at (h : off < 2 ^ 25) :
    exec (.registerRead m (BitVec.ofNat 25 off)) s = .next (busRead m off s) := by
  rw [exec_registerRead, BitVec.toNat_ofNat, Nat.mod_eq_of_lt h]

/-! ## The checks of a write -/

/-- The capture buffer lies in the DBG block. -/
theorem inCapture_of_not_isDbg (h : isDbg off = false) : inCapture off = false := by
  simp only [isDbg, inCapture, Bool.and_eq_false_iff, decide_eq_false_iff_not] at h ⊢
  omega

theorem busWrite_misaligned (hm : s.mode ≠ Mode.off) (ha : off % 4 ≠ 0) : busWrite m off w s = s.error := by
  rw [busWrite, if_neg hm, if_pos ha]

/-- An offset that no row defines is reserved (R22). -/
theorem busWrite_reserved (hm : s.mode ≠ Mode.off) (ha : off % 4 = 0) (hd : isDbg off = false)
    (hr : rowAt off = none) : busWrite m off w s = s.decodeError (regUnit off) m := by
  rw [busWrite, if_neg hm, if_neg (not_not_intro ha), hd, inCapture_of_not_isDbg hd, hr]
  rfl

/-- Outside the DBG block the block of a defined register takes the write. -/
theorem busWrite_row (hm : s.mode ≠ Mode.off) (ha : off % 4 = 0) (hd : isDbg off = false)
    (hr : rowAt off = some r) : busWrite m off w s = blockWrite m r off w s := by
  rw [busWrite, if_neg hm, if_neg (not_not_intro ha), hd, inCapture_of_not_isDbg hd, hr]
  rfl

/-- The monitor alone reaches the DBG block (R23). -/
theorem busWrite_dbg_not_monitor (hm : s.mode ≠ Mode.off) (ha : off % 4 = 0) (hd : isDbg off = true)
    (hn : m.same .monitor = false) : busWrite m off w s = s.decodeError (regUnit off) m := by
  have hk : (isDbg off && m.key != Master.monitor.key) = true := by
    rw [hd, bne, show (m.key == Master.monitor.key) = false from hn]
    rfl
  rw [busWrite, if_neg hm, if_neg (not_not_intro ha), if_pos hk]

/-! ## Plain writes (R8) -/

/-- A writable low half is held for its source NI (R11). -/
theorem plainWrite_lo (hs : r.sh = 0) (hl : isLo off = true) (hw : (r.rw ||| r.rws) ≠ 0) :
    plainWrite m r off w s = (s.setHeld m off (some (w &&& ofMask (r.rw ||| r.rws)))).ack := by
  simp only [plainWrite, hs, if_true, hl, if_neg hw]

/-- A register that is no half of a wide value takes the word as its access codes say. -/
theorem plainWrite_narrow (hs : r.sh = 0) (hl : isLo off = false) (hh : isHi off = false) (hr : r.src = false) :
    plainWrite m r off w s = (s.setReg off (r.written off (s.reg off) w)).ack := by
  simp [plainWrite, hs, hl, hh, hr]

/-- A bit that is RW or RWS, and neither W1C nor W1S, is as written. -/
theorem RegRow.getLsbD_written {i : Nat} (old : Word)
    (hw : (ofMask (wideMask off (r.rw ||| r.rws))).getLsbD i = true)
    (hc : (ofMask r.w1c).getLsbD i = false) (h1 : (ofMask r.w1s).getLsbD i = false) :
    (r.written off old w).getLsbD i = w.getLsbD i := by
  have hi : i < 32 := BitVec.lt_of_getLsbD hw
  simp only [RegRow.written, BitVec.getLsbD_or, BitVec.getLsbD_and, BitVec.getLsbD_not, hw, hc, h1, hi,
    decide_true, Bool.not_true, Bool.and_false, Bool.and_true, Bool.false_or, Bool.not_false, Bool.or_false]

/-- A field of RW or RWS bits reads as written. -/
theorem RegRow.bitsOf_written {lo k : Nat} (old : Word)
    (hw : ∀ j < k, (ofMask (wideMask off (r.rw ||| r.rws))).getLsbD (lo + j) = true)
    (hc : r.w1c = 0) (h1 : r.w1s = 0) : bitsOf (r.written off old w) lo k = bitsOf w lo k := by
  apply Nat.eq_of_testBit_eq
  intro j
  rw [testBit_bitsOf, testBit_bitsOf]
  by_cases hj : j < k
  · rw [RegRow.getLsbD_written old (hw j hj) (by simp [hc, ofMask]) (by simp [h1, ofMask])]
  · simp [hj]

/-! ## The wake time and the retirement policy -/

/-- The row of DEV_WAKE_LO and of DEV_WAKE_HI: one register, all bits RW. -/
def wakeRow (off : Nat) : RegRow :=
  ⟨off, 1, 0x4000000, 1, 0x4000000, 0, 0xFFFFFFFF, 0, 0, 0, 0, 0, 0, false⟩

/-- The row of MP_RETIRE_POLICY. -/
def retireRow : RegRow :=
  ⟨R.MP_RETIRE_POLICY, 1, 0x4000000, 1, 0x4000000, 0x80180004, 0x80FF00FF, 0, 0, 0, 0, 0, 0, false⟩

theorem rowAt_wakeLo : rowAt R.DEV_WAKE_LO = some (wakeRow R.DEV_WAKE_LO) := by decide +kernel

theorem rowAt_wakeHi : rowAt R.DEV_WAKE_HI = some (wakeRow R.DEV_WAKE_HI) := by decide +kernel

theorem rowAt_retirePolicy : rowAt R.MP_RETIRE_POLICY = some retireRow := by decide +kernel

/-- The low half of the wake time is held whole (R11). -/
theorem busWrite_wakeLo (hm : s.mode ≠ Mode.off) :
    busWrite m R.DEV_WAKE_LO w s = (s.setHeld m R.DEV_WAKE_LO (some w)).ack := by
  rw [busWrite_row hm (by decide) (by decide) rowAt_wakeLo]
  have hb : blockWrite m (wakeRow R.DEV_WAKE_LO) R.DEV_WAKE_LO w s =
      plainWrite m (wakeRow R.DEV_WAKE_LO) R.DEV_WAKE_LO w s := by rfl
  have hmask : w &&& ofMask ((wakeRow R.DEV_WAKE_LO).rw ||| (wakeRow R.DEV_WAKE_LO).rws) = w :=
    BitVec.and_allOnes
  rw [hb, plainWrite_lo (by decide) (by decide) (by decide), hmask]

theorem busWrite_wakeHi (hm : s.mode ≠ Mode.off) : busWrite m R.DEV_WAKE_HI w s = wakeWrite m w s := by
  rw [busWrite_row hm (by decide) (by decide) rowAt_wakeHi]
  rfl

/-- A wake that begins at once (R36) is no matter of the registers. -/
theorem wakeWrite_ctrl : (wakeWrite m w s).ctrl = (s.writePair m R.DEV_WAKE_LO R.DEV_WAKE_HI w).ctrl := by
  unfold wakeWrite
  dsimp only
  split <;> rfl

theorem wakeWrite_reg (k : Nat) :
    (wakeWrite m w s).reg k = (s.writePair m R.DEV_WAKE_LO R.DEV_WAKE_HI w).reg k :=
  State.reg_eq_of_ctrl wakeWrite_ctrl k

theorem wakeWrite_heldLo :
    (wakeWrite m w s).heldLo n off = (s.writePair m R.DEV_WAKE_LO R.DEV_WAKE_HI w).heldLo n off :=
  State.heldLo_eq_of_ctrl wakeWrite_ctrl n off

/-- The husk's write of the retirement policy. -/
theorem busWrite_retirePolicy (hm : s.mode ≠ Mode.off) (hh : m.same .husk = true) :
    busWrite m R.MP_RETIRE_POLICY w s =
      (s.setReg R.MP_RETIRE_POLICY (retireRow.written R.MP_RETIRE_POLICY (s.reg R.MP_RETIRE_POLICY) w)).ack := by
  rw [busWrite_row hm (by decide) (by decide) rowAt_retirePolicy]
  have hb : blockWrite m retireRow R.MP_RETIRE_POLICY w s =
      if m.same .husk then plainWrite m retireRow R.MP_RETIRE_POLICY w s
      else (s.mpStatus Code.notPermitted).ack := by rfl
  rw [hb, if_pos hh, plainWrite_narrow (by decide) (by decide) (by decide) (by decide)]

/-- A field of RW bits of the retirement policy reads as the husk wrote it. -/
theorem fld_written_retirePolicy (f : Field) (ho : f.off = R.MP_RETIRE_POLICY)
    (hw : ∀ j < f.width, (ofMask 0x80FF00FF).getLsbD (f.lo + j) = true) :
    ((s.setReg R.MP_RETIRE_POLICY
      (retireRow.written R.MP_RETIRE_POLICY (s.reg R.MP_RETIRE_POLICY) w)).ack).fld f = f.get w := by
  rw [State.ack_fld, State.fld, ho, State.reg_setReg_same]
  exact RegRow.bitsOf_written _ hw rfl rfl

/-! ## Reads -/

theorem busRead_misaligned (hm : s.mode ≠ Mode.off) (ha : off % 4 ≠ 0) : busRead m off s = s.error := by
  rw [busRead, busReadWord, if_neg hm, if_pos ha]

/-- A read of a defined register outside the DBG block and the route windows. -/
theorem busRead_row (hm : s.mode ≠ Mode.off) (ha : off % 4 = 0) (hd : isDbg off = false)
    (hr : rowAt off = some r) (hc : claimDefined off = true) (hn : off < 0x210000 ∨ 0x220000 ≤ off) :
    busRead m off s = readRow m (m.key == Master.monitor.key) r off s := by
  have hn' : ¬ (0x210000 ≤ off ∧ off < 0x220000 ∧ (!niPresent (s.srcFld m F.NOC_RT_SEL_ni)) = true) := by omega
  rw [busRead, busReadWord, if_neg hm, if_neg (not_not_intro ha), hd, inCapture_of_not_isDbg hd, hr, hc]
  exact if_neg hn'

/-- Outside the port blocks' time stamps a latched word is returned, and its latch used up (R11). -/
theorem readRow_latched {peek : Bool} (hp : off < 0x601000 ∨ 0x609000 ≤ off) (h : s.latched m off = some w) :
    readRow m peek r off s = (s.setLatch m off none).reply (toBytes 4 w.toNat) := by
  rw [readRow, if_neg (by omega), if_neg (by omega), h]

theorem readRow_unlatched {peek : Bool} (hp : off < 0x601000 ∨ 0x609000 ≤ off) (h : s.latched m off = none) :
    readRow m peek r off s = readPlain m peek r off s := by
  rw [readRow, if_neg (by omega), if_neg (by omega), h]

/-- Below the lane registers and outside the pin levels no bit is a free value. -/
theorem shownFree_settled (hf : off < 0x20200 ∨ 0x20300 ≤ off) (hl : off < 0x500000) :
    shownFree m off s = (shown m off s, s) := by
  rw [shownFree, if_neg (by omega), if_neg (by omega), if_neg (by omega)]

/-- A read of a register with no RC bit and no free value replies with what it shows, after the
words that go with it have been latched. -/
theorem readPlain_settled {peek : Bool} (hrc : r.rc = 0) (hf : off < 0x20200 ∨ 0x20300 ≤ off) (hl : off < 0x500000) :
    readPlain m peek r off s =
      (latchAll m s (latchedWith off)).reply (toBytes 4 (shown m off (latchAll m s (latchedWith off))).toNat) := by
  rw [readPlain, shownFree_settled hf hl, clearRead, if_pos hrc, ite_self]

/-- The named registers of the device block show what they hold, the grade excepted. -/
theorem shown_dev (hp : perSource off = false) (h : off < 0x1000) (hg : off ≠ R.DEV_GRADE) :
    shown m off s = s.reg off := by
  rw [shown, hp]
  simp (disch := omega) only [Bool.false_and, Bool.false_eq_true, if_false, if_neg]

theorem shown_retirePolicy : shown m R.MP_RETIRE_POLICY s = s.reg R.MP_RETIRE_POLICY := by
  have hp : perSource R.MP_RETIRE_POLICY = false := by decide +kernel
  rw [shown, hp]
  rfl

theorem busRead_retirePolicy (hm : s.mode ≠ Mode.off) (h : s.latched m R.MP_RETIRE_POLICY = none) :
    busRead m R.MP_RETIRE_POLICY s = s.reply (toBytes 4 (s.reg R.MP_RETIRE_POLICY).toNat) := by
  have hl : latchedWith R.MP_RETIRE_POLICY = [] := by decide
  rw [busRead_row hm (by decide) (by decide) rowAt_retirePolicy (by decide) (by decide),
    readRow_unlatched (by decide) h, readPlain_settled rfl (by decide) (by decide), hl, latchAll, shown_retirePolicy]

/-- A read of the low half of the wake time latches the high half for the reader (R11). -/
theorem busRead_wakeLo (hm : s.mode ≠ Mode.off) (h : s.latched m R.DEV_WAKE_LO = none) :
    busRead m R.DEV_WAKE_LO s = (s.setLatch m R.DEV_WAKE_HI (some (s.reg R.DEV_WAKE_HI))).reply
      (toBytes 4 (s.reg R.DEV_WAKE_LO).toNat) := by
  have hl : latchedWith R.DEV_WAKE_LO = [R.DEV_WAKE_HI] := by decide
  have hlo (u : State) : shown m R.DEV_WAKE_LO u = u.reg R.DEV_WAKE_LO :=
    shown_dev (by decide +kernel) (by decide) (by decide)
  have hhi : shown m R.DEV_WAKE_HI s = s.reg R.DEV_WAKE_HI :=
    shown_dev (by decide +kernel) (by decide) (by decide)
  rw [busRead_row hm (by decide) (by decide) rowAt_wakeLo (by decide) (by decide),
    readRow_unlatched (by decide) h, readPlain_settled rfl (by decide) (by decide), hl, latchAll, latchAll,
    hlo, hhi, State.reg_setLatch]

theorem busRead_wakeHi_latched (hm : s.mode ≠ Mode.off) (h : s.latched m R.DEV_WAKE_HI = some w) :
    busRead m R.DEV_WAKE_HI s = (s.setLatch m R.DEV_WAKE_HI none).reply (toBytes 4 w.toNat) := by
  rw [busRead_row hm (by decide) (by decide) rowAt_wakeHi (by decide) (by decide), readRow_latched (by decide) h]

end Sys2Proof.Machine
end

section
open Sys2Proof Sys2Proof.Machine

/-- Settles O6: the checks of every write, then the wake time's two halves and the retirement policy. -/
theorem registerWritesFollowTheAccessRules : Obligations.RegisterWritesFollowTheAccessRules := by
  refine ⟨?misaligned, ?reserved, ?dbg, ?lowHalf, ?highHalf, ?highAlone, ?plainFields⟩
  case misaligned =>
    intro s m off w hm ha
    rw [exec_registerWrite, busWrite_misaligned hm ha]
  case reserved =>
    intro s m off w hm ha hd hr
    rw [exec_registerWrite, busWrite_reserved hm ha hd hr, State.decodeError]
  case dbg =>
    intro s m off w hm ha hd hn
    rw [exec_registerWrite, busWrite_dbg_not_monitor hm ha hd hn, State.decodeError]
  case lowHalf =>
    intro s m w hm
    refine ⟨_, exec_registerWrite_at (by decide), ?_⟩
    rw [busWrite_wakeLo hm]
    refine ⟨by simp, rfl, fun o _ => by simp, fun n hn => ?_⟩
    rw [State.heldLo_ack, State.heldLo_setHeld_other _ hn]
  case highHalf =>
    intro s m lo hi hm hlo
    refine ⟨_, exec_registerWrite_at (by decide), ?_⟩
    rw [busWrite_wakeHi hm]
    simp only [KeepsRegs, wakeWrite_reg, wakeWrite_heldLo, State.writePair_of_held hlo]
    have hne : R.DEV_WAKE_LO ≠ R.DEV_WAKE_HI := by decide
    refine ⟨by simp [hne], by simp, by simp, fun o ho => ?_⟩
    obtain ⟨h1, h2⟩ : o ≠ R.DEV_WAKE_LO ∧ o ≠ R.DEV_WAKE_HI := by simpa using ho
    simp [h1, h2]
  case highAlone =>
    intro s m hi hm hlo
    refine ⟨_, exec_registerWrite_at (by decide), ?_⟩
    rw [busWrite_wakeHi hm]
    simp only [wakeWrite_reg, State.writePair_of_none hlo]
    exact ⟨State.reg_setReg_ne s hi (by decide), State.reg_setReg_same s _ hi⟩
  case plainFields =>
    intro s m w hm hh
    refine ⟨_, exec_registerWrite_at (by decide), ?_⟩
    rw [busWrite_retirePolicy hm hh]
    refine ⟨fld_written_retirePolicy _ rfl (by decide), fld_written_retirePolicy _ rfl (by decide),
      fld_written_retirePolicy _ rfl (by decide), fun o ho => ?_, rfl⟩
    have h1 : o ≠ R.MP_RETIRE_POLICY := by simpa using ho
    simp [h1]

/-- Settles O7: the alignment check, a register that is no half, and the latch of the wake time. -/
theorem registerReadsReturnWhatIsHeld : Obligations.RegisterReadsReturnWhatIsHeld := by
  refine ⟨?misaligned, ?plain, ?lowHalf, ?highHalf⟩
  case misaligned =>
    intro s m off hm ha
    rw [exec_registerRead, busRead_misaligned hm ha]
  case plain =>
    intro s m hm h
    rw [exec_registerRead_at (by decide), busRead_retirePolicy hm h]
  case lowHalf =>
    intro s m hm h
    refine ⟨_, exec_registerRead_at (by decide), ?_⟩
    rw [busRead_wakeLo hm h]
    refine ⟨rfl, by simp, fun o _ => by simp, fun n hn => ?_⟩
    rw [State.latched_reply, State.latched_setLatch_other _ hn]
  case highHalf =>
    intro s m w hm h
    refine ⟨_, exec_registerRead_at (by decide), ?_⟩
    rw [busRead_wakeHi_latched hm h]
    exact ⟨rfl, by simp, fun o _ => by simp⟩

end

section
/-! PROOFS. The supply, the whole-device reset and its release (R27, Table 1.6), and what
power-on leaves. -/

namespace Sys2Proof.Machine

variable {s : State}

/-! ## What a loop over states keeps -/

/-- What each step of a loop leaves alone, the loop leaves alone. -/
theorem foldl_keeps {α β : Type} {f : State → β} {op : State → α → State}
    (h : ∀ t a, f (op t a) = f t) (l : List α) (s : State) : f (l.foldl op s) = f s := by
  induction l generalizing s with
  | nil => rfl
  | cons a l ih => rw [List.foldl_cons, ih, h]

/-! ## Power-on values (R27) -/

theorem State.reg_reset (k : Nat) : State.reset.reg k = resetWord k := rfl

theorem State.mode_reset : State.reset.mode = Mode.held := by decide +kernel

/-! ## Loss and return of supply (Table 1.6) -/

theorem State.keepFlash_mode (s : State) : s.keepFlash.mode = Mode.held := State.mode_reset

theorem State.mode_setReg_ne {o : Nat} (w : Word) (h : R.DEV_MODE ≠ o) : (s.setReg o w).mode = s.mode :=
  State.fld_setReg_ne s w h

/-- The restored moves of engines (R153) lie beyond the mode register. -/
theorem huskPowerGood_off (h : s.mode = Mode.off) :
    (huskPowerGood s).mode = Mode.held ∧ (huskPowerGood s).fuses = s.fuses ∧
      (huskPowerGood s).flash = s.flash ∧ (huskPowerGood s).pending = s.pending := by
  rw [huskPowerGood, if_pos h]
  refine ⟨?_, ?_, ?_, ?_⟩
  · refine (foldl_keeps (f := State.mode) (fun t e => ?_) _ _).trans s.keepFlash_mode
    split
    · rfl
    · exact State.mode_setReg_ne _ (by simp only [R.DEV_MODE]; omega)
  all_goals
    refine foldl_keeps (fun t e => ?_) _ _
    split <;> rfl

theorem huskPowerLost_mode : (huskPowerLost s).mode = Mode.off := by
  rw [huskPowerLost, State.mode, State.fld_setFld_same _ _ _ (by decide)]
  rfl

/-! ## The whole-device reset (R27) -/

theorem State.now32_eq {t : State} (ht : t.tim = s.tim) (hd : t.fld F.TIM_SVC_STATUS_dom = s.fld F.TIM_SVC_STATUS_dom) :
    t.now32 = s.now32 := by
  simp only [State.now32, State.now, State.svc, State.dom, State.serving, State.bit, ht, hd]
  rfl

/-- A register whose every bit is kept holds its word. -/
theorem keptWord_full {mask : Nat → Word} {k : Nat} (h : mask k = 0xFFFFFFFF#32) (w : Word) :
    keptWord mask k w = w := by
  rw [keptWord, h]
  exact (congrArg₂ _ BitVec.and_allOnes (BitVec.and_zero)).trans BitVec.or_zero

/-- A field of kept bits reads as before. -/
theorem get_keptWord {mask : Nat → Word} (f : Field) (w : Word)
    (h : ∀ j < f.width, (mask f.off).getLsbD (f.lo + j) = true) : f.get (keptWord mask f.off w) = f.get w := by
  apply Nat.eq_of_testBit_eq
  intro j
  rw [Field.get, Field.get, testBit_bitsOf, testBit_bitsOf]
  by_cases hj : j < f.width
  · have hi : f.lo + j < 32 := BitVec.lt_of_getLsbD (h j hj)
    simp only [keptWord, BitVec.getLsbD_or, BitVec.getLsbD_and, BitVec.getLsbD_not, h j hj, hi, decide_true,
      Bool.and_true, Bool.not_true, Bool.and_false, Bool.or_false]
  · simp [hj]

theorem State.wholeReset_on (h1 : s.mode ≠ Mode.off) (h2 : s.mode ≠ Mode.zeroised) : s.wholeReset =
    { (s.transition 0x14 Mode.held).keepFlash with
      ctrl := { regs := keepWords keptMask (s.transition 0x14 Mode.held).ctrl.regs }
      dev := { perst := s.dev.perst, leftBoot := s.dev.leftBoot, perstFrom := s.dev.perstFrom }
      husk := { ledger := s.husk.ledger } } := by
  rw [State.wholeReset, if_neg (by simp [h1, h2])]
  simp only [State.transition_dev, State.transition_husk]

theorem State.wholeReset_off (h : s.mode = Mode.off ∨ s.mode = Mode.zeroised) : s.wholeReset = s := by
  rw [State.wholeReset, if_pos h]

theorem State.wholeReset_reg (h1 : s.mode ≠ Mode.off) (h2 : s.mode ≠ Mode.zeroised) (k : Nat) :
    s.wholeReset.reg k = keptWord keptMask k ((s.transition 0x14 Mode.held).reg k) := by
  rw [State.wholeReset_on h1 h2]
  exact get_keepWords _ _ _

theorem State.wholeReset_fld (h1 : s.mode ≠ Mode.off) (h2 : s.mode ≠ Mode.zeroised) (f : Field) {mask : Word}
    (hm : keptMask f.off = mask) (h : ∀ j < f.width, mask.getLsbD (f.lo + j) = true) :
    s.wholeReset.fld f = (s.transition 0x14 Mode.held).fld f := by
  rw [State.fld, State.wholeReset_reg h1 h2, get_keptWord f _ (hm ▸ h), State.fld]

theorem keptMask_mode : keptMask R.DEV_MODE = 0xFF0F000F#32 := by rw [keptMask, if_pos rfl]

theorem keptMask_cause : keptMask R.DEV_MODE_CAUSE = 0xFFFFFFFF#32 := by
  rw [keptMask, if_neg (by decide), if_pos (.inl rfl)]

theorem keptMask_time : keptMask R.DEV_MODE_TIME = 0xFFFFFFFF#32 := by
  rw [keptMask, if_neg (by decide), if_pos (.inr rfl)]

theorem State.transition_entered (g m : Nat) (hg : g < 256) (hm : m < 16) : Entered s (s.transition g m) g m :=
  ⟨State.transition_mode s g m 0 hm, State.transition_prev s g m 0, State.transition_trigger s g m 0 hg⟩

/-- The record of the transition is among what a whole-device reset keeps. -/
theorem wholeReset_entered (h1 : s.mode ≠ Mode.off) (h2 : s.mode ≠ Mode.zeroised) :
    Entered s s.wholeReset 0x14 Mode.held := by
  obtain ⟨hmode, hprev, htrigger⟩ := State.transition_entered (s := s) 0x14 Mode.held (by decide) (by decide)
  refine ⟨?_, ?_, ?_⟩
  · exact (State.wholeReset_fld h1 h2 F.DEV_MODE_mode keptMask_mode (by decide)).trans hmode
  · exact (State.wholeReset_fld h1 h2 F.DEV_MODE_prev_mode keptMask_mode (by decide)).trans hprev
  · exact (State.wholeReset_fld h1 h2 F.DEV_MODE_CAUSE_trigger keptMask_cause (by decide)).trans htrigger

/-- A transition records the instant (R27). -/
theorem State.transition_time (g m x : Nat) : (s.transition g m x).reg R.DEV_MODE_TIME = s.now32 := by
  simp only [State.transition, State.sendMsix_reg, State.reg_setReg_same]
  refine State.now32_eq (by simp) ?_
  simp (disch := decide) only [State.incFld, State.fld_setFld_ne]


/-! ## Release of the reset (R27, R289, R436) -/

/-- What the start of the ROM settles for good: fuses, flash, time, and the transition's record. -/
def State.bootRecord (s : State) : Fuses × Flash × Tim × Nat × Nat × Nat :=
  (s.fuses, s.flash, s.tim, s.mode, s.fld F.DEV_MODE_prev_mode, s.fld F.DEV_MODE_CAUSE_trigger)

theorem State.bootRecord_fault (r : Master) (c : FaultClass) (j : Subject) (x d : Nat) (b : Bool) :
    (s.fault r c j x d b).bootRecord = s.bootRecord := by
  simp (disch := decide) only [State.bootRecord, State.mode, State.fault_fuses, State.fault_flash, State.fault_tim,
    State.fault_fld_ne]

theorem State.bootRecord_runSlot (k : Nat) : (s.runSlot k).bootRecord = s.bootRecord := rfl

theorem State.bootRecord_trust (x : Trust) : ({ s with trust := x } : State).bootRecord = s.bootRecord := rfl

theorem State.bootRecord_causeStatus (v : Nat) :
    (s.setFld F.DEV_MODE_CAUSE_status v).bootRecord = s.bootRecord := by
  simp (disch := decide) only [State.bootRecord, State.mode, State.setFld_fuses, State.setFld_flash, State.setFld_tim,
    State.fld_setFld_disjoint]

/-- The choice of a firmware slot (R436) settles neither mode nor time. -/
theorem State.bootRecord_romSlot : s.romSlot.bootRecord = s.bootRecord := by
  rw [State.romSlot]
  generalize (if s.flash.desc.slot = 0 then 0 else 1) = k
  dsimp only
  split
  · exact State.bootRecord_runSlot k
  · split
    · rw [State.bootRecord_runSlot, State.bootRecord_fault]
    · rw [State.bootRecord_trust, State.bootRecord_causeStatus, State.bootRecord_fault, State.bootRecord_fault]

theorem bootStart_bootRecord (h : s.mode = Mode.held) (hp : s.dev.perst = false) :
    (bootStart s).bootRecord = (s.timeBoot.transition 0x02 Mode.boot).bootRecord := by
  rw [bootStart, if_neg (by simp [h, hp])]
  dsimp only
  split
  · rfl
  · exact State.bootRecord_romSlot

/-- Service time that has not moved since BOOT is zero (R289). -/
theorem State.now_timeBoot {t : State} (h : t.tim = s.timeBoot.tim) : t.now = 0 := by
  have hs : t.svc = 0 + BitVec.ofInt 96 0 := by
    rw [State.svc, State.dom, h]
    cases t.serving <;> rfl
  rw [State.now, hs]
  decide

theorem bootStart_held (h : s.mode = Mode.held) (hp : s.dev.perst = false) :
    Entered s (bootStart s) 0x02 Mode.boot ∧ (bootStart s).tim = s.timeBoot.tim ∧
      (bootStart s).fuses = s.fuses ∧ (bootStart s).flash = s.flash := by
  have hb := bootStart_bootRecord h hp
  simp only [State.bootRecord, Prod.mk.injEq, State.transition_fuses, State.transition_flash,
    State.transition_tim] at hb
  obtain ⟨hfuses, hflash, htim, hmode, hprev, htrigger⟩ := hb
  obtain ⟨hm, hpm, ht⟩ := State.transition_entered (s := s.timeBoot) 0x02 Mode.boot (by decide) (by decide)
  exact ⟨⟨hmode.trans hm, hprev.trans hpm, htrigger.trans ht⟩, htim, hfuses, hflash⟩

end Sys2Proof.Machine
end

section
open Sys2Proof Sys2Proof.Machine

/-- Settles O1: what each change of supply and each reset answers, by the lemmas above. -/
theorem supplyAndResetChangeTheMode : Obligations.SupplyAndResetChangeTheMode := by
  refine ⟨?supplyReturns, ?supplyLost, ?reset, ?noReset, ?lifeCycle, ?released⟩
  case supplyReturns => exact fun s h => ⟨_, rfl, huskPowerGood_off h⟩
  case supplyLost => exact fun s => ⟨_, rfl, huskPowerLost_mode, rfl, rfl, rfl⟩
  case reset =>
    intro s h1 h2
    refine ⟨_, rfl, wholeReset_entered h1 h2, ?_⟩
    rw [State.wholeReset_reg h1 h2, keptWord_full keptMask_time, State.transition_time, State.wholeReset_on h1 h2]
    exact ⟨State.transition_fuses .., State.transition_flash .., State.transition_pending .., rfl, rfl, rfl⟩
  case noReset => exact fun s h => congrArg _ (State.wholeReset_off h)
  case lifeCycle =>
    intro s hd h1 h2
    refine ⟨s.wholeReset, congrArg _ (if_pos hd), wholeReset_entered h1 h2, ?_⟩
    rw [State.wholeReset_on h1 h2]
    exact ⟨State.transition_fuses .., State.transition_flash ..⟩
  case released =>
    intro s h hp
    obtain ⟨hent, htim, hfuses, hflash⟩ := bootStart_held h hp
    exact ⟨_, rfl, hent, State.now_timeBoot htim, congrArg Tim.running htim, hfuses, hflash⟩

/-- Settles O60: each register of `State.reset` reads the reset value of its row (R27). -/
theorem resetLeavesTheStatedValues : Obligations.ResetLeavesTheStatedValues := by
  unfold Obligations.ResetLeavesTheStatedValues
  simp only [State.reg_reset]
  decide +kernel

end

section
/-! PROOFS. DORMANT (R35, R36): what entering it, asking to leave it, the wake time and waking do. -/

namespace Sys2Proof.Machine

variable {s : State} {m : Master} {hi : Word}

/-! ## The commands -/

theorem exec_dormantEnter (m : Master) (s : State) : exec (.dormantEnter m) s = .next (dormantGo s) := by rfl

theorem exec_dormantExit (m : Master) (s : State) : exec (.dormantExit m) s = .next (dormantEnd s) := by rfl

theorem exec_serviceRestored (s : State) : exec .serviceRestored s = .next (restored s) := by rfl

/-! ## Entering DORMANT (R35) -/

theorem dormantGo_refused (h : s.mayDormant = false) :
    dormantGo s = (s.setFld F.DEV_REQ_STATUS_status 0xFF02).ack := by
  rw [dormantGo, h]
  rfl

theorem dormantGo_wakeSoon (h : s.mayDormant = true) (hw : s.wakeSoon = true) :
    dormantGo s = (s.setFld F.DEV_REQ_STATUS_status 0xFF01).ack := by
  rw [dormantGo, h, hw]
  rfl

/-- The transition into DORMANT comes last, from a state that has its waking cleared. -/
theorem dormantGo_enters (h : s.mayDormant = true) (hw : s.wakeSoon = false) :
    ∃ u : State, u.dev.waking = false ∧
      dormantGo s = ((u.transition 0x10 Mode.dormant).setFld F.DEV_REQ_STATUS_status 0).ack := by
  rw [dormantGo, h, hw]
  exact ⟨_, rfl, rfl⟩

/-- The status of a request granted is recorded beside the record of the transition. -/
theorem State.transition_granted (u : State) (g k : Nat) (hg : g < 256) (hk : k < 16) {t : State}
    (ht : t = ((u.transition g k).setFld F.DEV_REQ_STATUS_status 0).ack) :
    t.mode = k ∧ t.fld F.DEV_MODE_CAUSE_trigger = g ∧ t.fld F.DEV_REQ_STATUS_status = 0 ∧
      t.response = .ack 0#16 ∧ t.dev = u.dev := by
  subst ht
  refine ⟨?_, ?_, ?_, rfl, ?_⟩
  · rw [State.mode, State.ack_fld, State.fld_setFld_ne _ _ _ _ (by decide)]
    exact State.transition_mode u g k 0 hk
  · rw [State.ack_fld, State.fld_setFld_ne _ _ _ _ (by decide), State.transition_trigger u g k 0 hg]
  · rw [State.ack_fld, State.fld_setFld_same _ _ _ (by decide), Nat.zero_mod]
  · rw [State.ack_dev, State.setFld_dev, State.transition_dev]

/-! ## Leaving DORMANT (R36) -/

theorem dormantEnd_dormant (h : s.mode = Mode.dormant) : dormantEnd s =
    ({ s with dev := { s.dev with waking := true } }.setFld F.DEV_REQ_STATUS_status 0).ack := by
  rw [dormantEnd, if_pos h]

theorem dormantEnd_elsewhere (h : s.mode ≠ Mode.dormant) :
    dormantEnd s = (s.setFld F.DEV_REQ_STATUS_status 0).ack := by
  rw [dormantEnd, if_neg h]

/-- Waking done, the last step is the transition to SERVICE. -/
theorem restored_service (h : s.mode = Mode.dormant) (hw : s.dev.waking = true) :
    ∃ u : State, u.dev.waking = false ∧ u.dram.asleep = [] ∧ restored s = u.transition 0x11 Mode.service := by
  rw [restored, if_pos ⟨h, hw⟩]
  exact ⟨_, rfl, rfl, rfl⟩

/-! ## The wake time (R11, R36) -/

theorem wakeWrite_wakeTime {lo : Word} (h : s.heldLo m R.DEV_WAKE_LO = some lo) :
    (wakeWrite m hi s).wakeTime = lo.toNat + 2 ^ 32 * hi.toNat := by
  have hne : R.DEV_WAKE_LO ≠ R.DEV_WAKE_HI := by decide
  rw [State.wakeTime, State.pair, wakeWrite_reg, wakeWrite_reg, State.writePair_of_held h,
    State.reg_setReg_ne _ _ hne, State.reg_setHeld, State.reg_setReg_same, State.reg_setReg_same]

theorem wakeWrite_heldLo_used {lo : Word} (h : s.heldLo m R.DEV_WAKE_LO = some lo) :
    (wakeWrite m hi s).heldLo m R.DEV_WAKE_LO = none := by
  rw [wakeWrite_heldLo, State.writePair_of_held h, State.heldLo_setReg, State.heldLo_setHeld_same]

end Sys2Proof.Machine
end

section
open Sys2Proof Sys2Proof.Machine

/-- Settles O4: entering, asking to leave, the wake time reached, waking done, and a write of the wake time. -/
theorem dormantIsEnteredAndLeft : Obligations.DormantIsEnteredAndLeft := by
  refine ⟨?refused, ?tooSoon, ?entered, ?exit, ?exitElsewhere, fun s => rfl, ?restored, ?wakeTime⟩
  case refused =>
    intro s m h
    rw [exec_dormantEnter, dormantGo_refused h]
  case tooSoon =>
    intro s m h hw
    rw [exec_dormantEnter, dormantGo_wakeSoon h hw]
  case entered =>
    intro s m h hw
    obtain ⟨u, hu, hgo⟩ := dormantGo_enters h hw
    obtain ⟨hmode, htrigger, hstatus, hack, hdev⟩ :=
      State.transition_granted u 0x10 Mode.dormant (by decide) (by decide) hgo
    exact ⟨_, exec_dormantEnter m s, hmode, htrigger, hstatus, hack, (congrArg Dev.waking hdev).trans hu⟩
  case exit =>
    intro s m h
    rw [exec_dormantExit, dormantEnd_dormant h]
  case exitElsewhere =>
    intro s m h
    rw [exec_dormantExit, dormantEnd_elsewhere h]
  case restored =>
    intro s h hw
    obtain ⟨u, hwaking, hasleep, hr⟩ := restored_service h hw
    refine ⟨_, exec_serviceRestored s, ?_⟩
    rw [hr]
    refine ⟨State.transition_mode u _ _ _ (by decide), State.transition_trigger u _ _ _ (by decide), ?_, ?_⟩
    · rw [State.transition_dev, hwaking]
    · rw [State.transition_dram, hasleep]
  case wakeTime => exact fun s m lo hi h => ⟨_, rfl, wakeWrite_wakeTime h, wakeWrite_heldLo_used h, rfl⟩

end

section
/-! PROOFS. Claims (R39 to R43), and what the items bound to a cue slot do once it is no longer
armed (R107, R293). -/

namespace Sys2Proof.Machine

variable {s : State} {m h : Master} {off : Nat}

/-! ## What settling leaves alone -/

/-- The response, the claims, and what memories, engines and the fabric hold: no part of it is moved
by a slot, a timer or a pod that settles. -/
def State.stores (s : State) : Resp × Table (Option Master) × Spm × Table Engine × Fabric × Dram :=
  (s.response, s.claims, s.spm, s.eng, s.fabric, s.dram)

theorem State.stores_setFld (f : Field) (v : Nat) : (s.setFld f v).stores = s.stores := by rfl

theorem State.stores_setBit (f : Field) (b : Bool) : (s.setBit f b).stores = s.stores := by rfl

theorem State.stores_setDom (b : Bool) (d : Domain) : (s.setDom b d).stores = s.stores := by rfl

theorem State.stores_setPod (p : Nat) (x : Pod) : (s.setPod p x).stores = s.stores := by rfl

theorem State.stores_cueClear (u : CueUnit) (k : Nat) : (s.cueClear u k).stores = s.stores := by rfl

theorem State.stores_haltTimer (k : Nat) : (s.haltTimer k).stores = s.stores := by rfl

theorem State.stores_transition (g k x : Nat) : (s.transition g k x).stores = s.stores := by
  simp only [State.stores, State.transition_response, State.transition_claims, State.transition_spm,
    State.transition_eng, State.transition_fabric, State.transition_dram]

theorem State.stores_rerank (g x : Nat) : (s.rerank g x).stores = s.stores := by
  rw [State.rerank]
  split
  · exact State.stores_transition ..
  · rfl

theorem State.stores_showStaging : s.showStaging.stores = s.stores := by
  rw [State.showStaging]
  split
  · rw [State.stores_setBit, State.stores_setFld]
  · rw [State.stores_rerank, State.stores_setBit, State.stores_setFld]

theorem State.stores_setSprouts (st : Nat) (l : List Nat) : (s.setSprouts st l).stores = s.stores := by
  induction l generalizing s with
  | nil => rfl
  | cons p l ih => rw [State.setSprouts, ih, State.stores_setFld]

theorem State.stores_podDisarm (p : Nat) : (s.podDisarm p).stores = s.stores := by
  rw [State.podDisarm]
  rw [State.setSprout, State.stores_showStaging, State.stores_setSprouts, State.stores_setBit, State.stores_setPod]
  split
  · split
    · exact State.stores_cueClear ..
    · rfl
  · rfl

theorem State.stores_settlePods (l : List Nat) : (s.settlePods l).stores = s.stores := by
  induction l generalizing s with
  | nil => rfl
  | cons p l ih =>
    rw [State.settlePods, ih]
    split
    · split
      · exact State.stores_podDisarm p
      · rfl
    · rfl

theorem State.stores_settleStep (x : Dom) : (s.settleStep x).stores = s.stores := by
  rw [State.settleStep]
  split
  · split
    · rfl
    · rw [State.stores_setBit, State.stores_setDom]
  · rfl

theorem State.stores_settleSlots : s.settleSlots.stores = s.stores := by
  rw [State.settleSlots, State.stores_settleStep, State.stores_settleStep]
  split
  · split
    · exact State.stores_settlePods _
    · exact State.stores_settlePods _
  · exact State.stores_settlePods _

/-- The slot or the timer of a claim that is freed stops; beside its claim nothing is stored. -/
theorem State.stores_freeClaim : (s.freeClaim off).stores = (s.setHolder off none).stores := by
  rw [State.freeClaim]
  dsimp only
  split
  · split
    · exact State.stores_cueClear ..
    · rfl
  · split
    · exact State.stores_haltTimer _
    · rfl

/-! ## Claim and release, by who holds the claim -/

theorem exec_claim (m : Master) (c : ClaimRef) (s : State) : exec (.claim m c) s = .next (claimGo m c s) := by rfl

theorem exec_claimRelease (m : Master) (c : ClaimRef) (s : State) :
    exec (.claimRelease m c) s = .next (releaseGo m c s).settleSlots := by rfl

theorem claimGo_ok {c : ClaimRef} (hc : c.ok = true) : claimGo m c s = claimAt m c.off s := by
  rw [claimGo, if_pos hc]

theorem claimGo_absent {c : ClaimRef} (hc : c.ok = false) : claimGo m c s = s.decodeError Unit.dev m := by
  rw [claimGo, if_neg (by simp [hc])]

theorem releaseGo_ok {c : ClaimRef} (hc : c.ok = true) : releaseGo m c s = releaseAt m c.off s := by
  rw [releaseGo, if_pos hc]

theorem claimAt_free (hh : s.holder off = none) :
    claimAt m off s = ((s.setHolder off (some m)).setFld (claimStatusField off) 0).ack := by
  rw [claimAt, hh]

theorem claimAt_own (hh : s.holder off = some h) (hs : h.same m = true) :
    claimAt m off s = (s.setFld (claimStatusField off) 0).ack := by
  rw [claimAt, hh]
  exact if_pos hs

theorem claimAt_busy (hh : s.holder off = some h) (hs : h.same m = false) :
    claimAt m off s = (s.setFld (claimStatusField off) 0x0801).ack := by
  rw [claimAt, hh]
  exact if_neg (by simp [hs])

theorem releaseAt_own (hh : s.holder off = some h) (hs : h.same m = true) :
    releaseAt m off s = ((s.freeClaim off).setFld (claimStatusField off) 0).ack := by
  rw [releaseAt, hh]
  exact if_pos hs

theorem releaseAt_other (hh : s.holder off = some h) (hs : h.same m = false) : releaseAt m off s =
    ((s.fault (regUnit off) .claim (.unit m)).setFld (claimStatusField off) 0xFF02).ack := by
  rw [releaseAt, hh]
  exact if_neg (by simp [hs])

/-- After its holder's release a claim is free, and no other claim and no memory has changed. -/
theorem release_own_stores (hh : s.holder off = some h) (hs : h.same m = true) :
    (releaseAt m off s).settleSlots.stores = ((s.setHolder off none).ack).stores := by
  rw [State.stores_settleSlots, releaseAt_own hh hs]
  have hf : ((s.freeClaim off).setFld (claimStatusField off) 0).stores = (s.setHolder off none).stores := by
    rw [State.stores_setFld, State.stores_freeClaim]
  exact congrArg (fun x => (Resp.ack 0#16, x.2)) hf

theorem State.holder_of_claims {t : State} (h : t.claims = s.claims) (o : Nat) : t.holder o = s.holder o := by
  rw [State.holder, State.holder, h]

end Sys2Proof.Machine
end

section
open Sys2Proof Sys2Proof.Machine

/-- Settles O5: a claim by what the register holds, a release by its holder and by another. -/
theorem claimsGoToOneHolder : Obligations.ClaimsGoToOneHolder := by
  refine ⟨?free, ?own, ?busy, ?release, ?foreign, ?absent⟩
  case free =>
    intro s m c hc hh
    refine ⟨_, exec_claim .., ?_⟩
    rw [claimGo_ok hc, claimAt_free hh]
    refine ⟨?_, ?_, rfl, fun o ho => ?_, fun o ho => ?_, rfl⟩
    · rw [State.ack_holder, State.setFld_holder, State.holder_setHolder_same]
    · rw [State.ack_fld, State.fld_setFld_same _ _ _ (by simp [claimStatusField]), Nat.zero_mod]
    · rw [State.ack_holder, State.setFld_holder, State.holder_setHolder_ne _ _ ho]
    · rw [State.ack_reg, State.reg_setFld_ne _ _ (by simpa [claimStatusField] using ho), State.setHolder_reg]
  case own =>
    intro s m c h hc hh hs
    rw [exec_claim, claimGo_ok hc, claimAt_own hh hs]
  case busy =>
    intro s m c h hc hh hs
    rw [exec_claim, claimGo_ok hc, claimAt_busy hh hs]
  case release =>
    intro s m c h hc hh hs
    refine ⟨_, exec_claimRelease .., ?_⟩
    rw [releaseGo_ok hc]
    have hst := release_own_stores hh hs
    simp only [State.stores, Prod.mk.injEq] at hst
    obtain ⟨hresp, hclaims, hspm, heng, hfabric, hdram⟩ := hst
    refine ⟨?_, hresp, fun o ho => ?_, hspm, heng, hfabric, hdram⟩
    · rw [State.holder_of_claims hclaims, State.ack_holder, State.holder_setHolder_same]
    · rw [State.holder_of_claims hclaims, State.ack_holder, State.holder_setHolder_ne _ _ ho]
  case foreign =>
    intro s m c h hc hh hs
    rw [exec_claimRelease, releaseGo_ok hc, releaseAt_other hh hs]
  case absent =>
    intro s m c hc
    rw [exec_claim, claimGo_absent hc, State.decodeError]

end

section
/-! PROOFS. The engine window (R20, R133, R134, R149, R156): data memory and instruction memory. -/

namespace Sys2Proof.Machine

variable {s : State} {m : Master} {n k a o : Nat} {x : DWord} {q : Bool} {write : Option DWord} {hi lo : Ecc}

/-! ## Data words -/

theorem State.dword_setDword_same (w : GReg) (h : a < 16384) : (s.setDword n a w).dword n a = w := by
  simp [State.dword, State.setDword, Nat.mod_eq_of_lt h]

theorem State.dword_setDword_other (w : GReg) {b : Nat} (h : a < 16384) (hb : b < 16384) (hne : b ≠ a) :
    (s.setDword n a w).dword n b = s.dword n b := by
  simp [State.dword, State.setDword, Nat.mod_eq_of_lt h, Nat.mod_eq_of_lt hb, hne]

theorem State.engine_setDword_other (w : GReg) (h : k ≠ n) : (s.setDword n a w).engine k = s.engine k :=
  State.engine_setEngine_ne s _ h

theorem State.instrWord_setInstr (i : Nat) : (s.setInstr n i x).instrWord n i = x := by
  simp [State.instrWord, State.setInstr]

/-- A half sign-extended keeps its 18 bits. -/
theorem extractLsb'_signExtend (v : BitVec 18) : (v.signExtend 32).extractLsb' 0 18 = v := by
  ext i hi
  simp [hi, BitVec.getLsbD_signExtend]
  omega

/-- The data-word layout (R20) loses no bit of a data word. -/
theorem ofLayout_toLayout (w : W36) : ofLayout (toLayout w) = w := by
  have hhi : (toLayout w).extractLsb' 32 18 = w.extractLsb' 18 18 := by
    rw [toLayout, BitVec.extractLsb'_append_eq_of_le (by decide), extractLsb'_signExtend]
  have hlo : (toLayout w).extractLsb' 0 18 = w.extractLsb' 0 18 := by
    rw [toLayout, BitVec.extractLsb'_append_eq_of_add_le (by decide), extractLsb'_signExtend]
  rw [ofLayout, hhi, hlo]
  exact (BitVec.extractLsb'_append_extractLsb'_eq_extractLsb' (by rfl)).trans BitVec.extractLsb'_eq_self
/-- Without an error a data word is delivered as it is held, and nothing is recorded (R134). -/
theorem State.readData_clean : s.readData n a .clean .clean = (s.dword n a, s) := by
  have he : (Ecc.clean == Ecc.uncorrectable) = false := by decide
  simp only [State.readData, State.engEcc, he, Bool.or_false]

/-! ## Accesses of 8 bytes -/

theorem exec_engineWindowAccess (e : Fin 1024) (o : BitVec 18) (b : Bool) :
    exec (.engineWindowAccess m e o b write q hi lo) s = .next (windowAccess m e.val o.toNat b write q hi lo s) := by
  rfl

theorem windowAccess_unaligned (ha : o % 8 ≠ 0) :
    windowAccess m n o true write q hi lo s = s.decodeError (engUnit n) m := by
  unfold windowAccess
  exact if_pos ha

/-- An aligned access of data memory while a LOCK bracket is open waits (R149). -/
theorem windowAccess_locked (ha : o % 8 = 0) (ho : o < 0x20000) (hl : (s.engine (s.gov n)).lock ≠ 0) :
    windowAccess m n o true write q hi lo s = s := by
  unfold windowAccess
  rw [if_neg (by simp [ha]), if_pos ho, if_pos hl]

theorem windowAccess_dataWrite (ha : o % 8 = 0) (ho : o < 0x20000) (hl : (s.engine (s.gov n)).lock = 0) :
    windowAccess m n o true (some x) q hi lo s =
      (s.setDword n (o / 8) { w := ofLayout x, tagH := q, tagL := q }).ack := by
  rw [windowAccess, if_neg (by simp [ha]), if_pos ho, if_neg (by simp [hl])]
  rfl

theorem windowAccess_dataRead (ha : o % 8 = 0) (ho : o < 0x20000) (hl : (s.engine (s.gov n)).lock = 0) :
    windowAccess m n o true none q .clean .clean s =
      s.reply (toBytes 8 (toLayout (s.dword n (o / 8)).w).toNat)
        ((s.dword n (o / 8)).tagH || (s.dword n (o / 8)).tagL) := by
  rw [windowAccess, if_neg (by simp [ha]), if_pos ho, if_neg (by simp [hl])]
  rw [State.winDataRead, Bool.true_or, Bool.true_or, if_pos rfl, if_pos rfl, State.readData_clean]
  rfl

theorem windowAccess_imemWrite (ha : o % 8 = 0) (h1 : 0x20000 ≤ o) (h2 : o < 0x28000) :
    windowAccess m n o true (some x) q hi lo s = s.winImemWrite m n (o - 0x20000) true x := by
  rw [windowAccess, if_neg (by simp [ha]), if_neg (by omega), if_pos h2]

/-- A running engine's instruction memory is not written (R156). -/
theorem State.winImemWrite_running (h : s.engState n = EngState.running) : s.winImemWrite m n o true x = s.error := by
  rw [State.winImemWrite, h, if_pos (by decide)]

theorem State.winImemWrite_stopped (h : s.engState n = EngState.stopped) :
    s.winImemWrite m n o true x = ((s.imemLoads m n).setInstr n (o / 8) x).ack := by
  rw [State.winImemWrite, h, if_neg (by decide)]
  rfl

end Sys2Proof.Machine
end

section
open Sys2Proof Sys2Proof.Machine

/-- Settles O17: each access of 8 bytes by the part of the window it falls in. -/
theorem engineWindowReadsWhatWasWritten : Obligations.EngineWindowReadsWhatWasWritten := by
  refine ⟨?dataWrite, ?dataRead, ?locked, ?unaligned, ?running, ?stopped, ofLayout_toLayout⟩
  case dataWrite =>
    intro s m e o x q h l ha ho hl
    have hd : o.toNat / 8 < 16384 := by omega
    refine ⟨_, exec_engineWindowAccess .., ?_⟩
    rw [windowAccess_dataWrite ha ho hl]
    exact ⟨State.dword_setDword_same _ hd, fun a h hne => State.dword_setDword_other _ hd h hne,
      fun k hk => State.engine_setDword_other _ hk, rfl, rfl⟩
  case dataRead =>
    intro s m e o q ha ho hl
    rw [exec_engineWindowAccess, windowAccess_dataRead ha ho hl]
  case locked =>
    intro s m e o x q h l ha ho hl
    rw [exec_engineWindowAccess, windowAccess_locked ha ho hl]
  case unaligned =>
    intro s m e o x q h l ha
    rw [exec_engineWindowAccess, windowAccess_unaligned ha, State.decodeError]
  case running =>
    intro s m e o x q h l ha h1 h2 hs
    rw [exec_engineWindowAccess, windowAccess_imemWrite ha h1 h2, State.winImemWrite_running hs]
  case stopped =>
    intro s m e o x q h l ha h1 h2 hs
    refine ⟨_, exec_engineWindowAccess .., ?_⟩
    rw [windowAccess_imemWrite ha h1 h2, State.winImemWrite_stopped hs]
    exact ⟨State.instrWord_setInstr _, rfl⟩

end

section
/-! PROOFS. Cue slots (R290 to R292) and the PCIe link (R427): arming, disarming and firing. -/

namespace Sys2Proof.Machine

variable {s : State} {m : Master} {u : CueUnit} {k : Nat} {t : Word} {frac : Nat} {pin : Bool} {a : CueAction}

/-! ## Arming a slot (R290, R291) -/

theorem exec_cueArm (slot : Fin 8) (f : BitVec 4) :
    exec (.cueArm m u slot t f a) s = .next (cueArmGo m u slot.val t f.toNat a s) := by rfl

theorem armCue_notHolder (h : s.mayCue m u k = false) :
    s.armCue m u k t frac pin a = (0x0801, s.setFld (u.statusF k) 0x0801) := by
  unfold State.armCue
  rw [h]
  rfl

/-- A slot of a unit other than an engine that is armed for one item refuses another. -/
theorem armCue_otherItem (h : s.mayCue m u k = true) (hu : ∀ n, u ≠ .eng n) (hk : s.cueArmed u k = true)
    (ha : s.cueAction u k ≠ a) :
    s.armCue m u k t frac pin a = (0xFF02, s.setFld (u.statusF k) 0xFF02) := by
  have hne : (s.cueAction u k == a) = false := by simpa using ha
  unfold State.armCue
  cases u with
  | eng n => exact absurd rfl (hu n)
  | _ =>
    rw [h, hk, hne]
    rfl

/-- A slot that is disarmed, or armed for the same item, judges the time alone. -/
theorem armCue_sameItem (h : s.mayCue m u k = true) (hk : s.cueArmed u k = false ∨ s.cueAction u k = a) :
    s.armCue m u k t frac pin a =
      if s.classOf t = .outside then (0x0502, s.setFld (u.statusF k) 0x0502)
      else (0, s.cueHold u k t frac pin a) := by
  have hb : (s.cueArmed u k && !(s.cueAction u k == a)) = false := by
    rcases hk with hk | hk <;> simp [hk]
  unfold State.armCue
  rw [h]
  cases u <;> simp only [hb] <;> cases s.classOf t <;> rfl

theorem cueArmGo_fits (h : a.fits u = true) : cueArmGo m u k t frac a s =
    (s.armCue m u k t frac (a == .sysref) a).2.ack (s.armCue m u k t frac (a == .sysref) a).1 := by
  rw [cueArmGo, if_pos h]

theorem cueArmGo_holds (h : a.fits u = true) (hm : s.mayCue m u k = true)
    (hk : s.cueArmed u k = false ∨ s.cueAction u k = a) (ht : s.classOf t ≠ .outside) :
    cueArmGo m u k t frac a s = (s.cueHold u k t frac (a == .sysref) a).ack := by
  rw [cueArmGo_fits h, armCue_sameItem hm hk, if_neg ht]

theorem cueArmGo_unfit (h : a.fits u = false) : cueArmGo m u k t frac a s = s.ack Code.unsupported := by
  rw [cueArmGo, if_neg (by simp [h])]

/-! ## Disarming and firing a slot (R290 to R292) -/

theorem exec_cueDisarm (slot : Fin 8) : exec (.cueDisarm m u slot) s = .next (cueDisarmGo m u slot.val s) := by rfl

theorem exec_cueFire (slot : Fin 8) : exec (.cueFire u slot) s = .next (cueFireGo u slot.val s) := by rfl

theorem cueDisarmGo_notHolder (h : s.mayCue m u k = false) :
    cueDisarmGo m u k s = (s.setFld (u.statusF k) 0x0801).ack 0x0801 := by
  rw [cueDisarmGo, h]
  rfl

theorem cueDisarmGo_holder (h : s.mayCue m u k = true) : cueDisarmGo m u k s = (s.cueClear u k).settleSlots.ack := by
  rw [cueDisarmGo, if_pos h]

theorem State.cueClear_action : (s.cueClear u k).cueAction u k = .none := by
  rw [State.cueClear, State.cueAction, Table.get_set_same]

theorem State.cueClear_armed : (s.cueClear u k).cueArmed u k = false := by
  rw [State.cueClear, State.cueArmed, State.bit_cues,
    State.bit_setBit_same _ _ _ (by simp [CueUnit.armedF]) (by rfl)]

theorem cueFireGo_due (hk : s.cueArmed u k = true) (ht : s.isReached (s.reg (u.timeField k)) = true)
    (hc : s.copyLost u.master = false) :
    cueFireGo u k s = ((s.cueClear u k).incFld (u.firedF k)).cueAct u k (s.cueAction u k) := by
  rw [cueFireGo, if_pos ⟨hk, ht, hc⟩]

/-- A slot disarmed, before its time, or without its time copy, does not fire. -/
theorem cueFireGo_idle (h : s.cueArmed u k = false ∨ s.isReached (s.reg (u.timeField k)) = false ∨
    s.copyLost u.master = true) : cueFireGo u k s = s := by
  rw [cueFireGo, if_neg]
  rintro ⟨hk, ht, hc⟩
  simp [hk, ht, hc] at h

/-! ## The PCIe link (R427) -/

theorem exec_pcieLinkLoss (s : State) : exec .pcieLinkLoss s = .next (linkLoss s) := by rfl

theorem exec_pcieLinkUp (w : Fin 5) (v : Fin 6) (s : State) :
    exec (.pcieLinkUp w v) s = .next (linkTrained w.val v.val s) := by rfl

theorem linkLoss_up (h : s.bit F.PCI_STATUS_link_up = true) :
    linkLoss s = s.truncateHost.setBit F.PCI_STATUS_link_up false := by
  rw [linkLoss, if_pos h]

theorem linkTrained_on {w v : Nat} (h1 : s.mode ≠ Mode.off) (h2 : s.mode ≠ Mode.held) (h3 : s.mode ≠ Mode.zeroised)
    (hp : s.dev.perst = false) : linkTrained w v s =
      ((s.setBit F.PCI_STATUS_link_up true).setFld F.PCI_STATUS_width w).setFld F.PCI_STATUS_speed v := by
  rw [linkTrained, if_neg (by simp [h1, h2, h3, hp])]

/-- The link's width and speed fit their fields, and no other register is written. -/
theorem linkUp_fields (s : State) (w : Fin 5) (v : Fin 6) {r : State}
    (hr : r = ((s.setBit F.PCI_STATUS_link_up true).setFld F.PCI_STATUS_width w.val).setFld F.PCI_STATUS_speed v.val) :
    r.bit F.PCI_STATUS_link_up = true ∧ r.fld F.PCI_STATUS_width = w.val ∧ r.fld F.PCI_STATUS_speed = v.val ∧
      KeepsRegs s r [R.PCI_STATUS] := by
  subst hr
  refine ⟨?_, ?_, ?_, fun o ho => ?_⟩
  · simp (disch := decide) only [State.bit_setFld_disjoint, State.bit_setBit_same]
  · rw [State.fld_setFld_disjoint _ _ _ _ (by decide) (by decide), State.fld_setFld_same _ _ _ (by decide)]
    exact Nat.mod_eq_of_lt (w.isLt.trans (by decide))
  · rw [State.fld_setFld_same _ _ _ (by decide)]
    exact Nat.mod_eq_of_lt (v.isLt.trans (by decide))
  · have hne : o ≠ R.PCI_STATUS := by simpa using ho
    rw [State.reg_setFld_ne _ _ hne, State.reg_setFld_ne _ _ hne, State.reg_setBit_ne _ _ hne]

end Sys2Proof.Machine
end

section
/-! PROOFS. The confirmation of a class-2 tamper (R38, R451): it runs no command that waits, and what
follows its transition to ZEROISED starts nothing again. -/

namespace Sys2Proof.Machine

variable {s t u : State}

/-! ## The commands that wait, up to the transition -/

theorem State.pending_clearBreaks (n : Nat) : (s.clearBreaks n).pending = s.pending := by
  induction n generalizing s with
  | zero => rfl
  | succ n ih =>
    rw [State.clearBreaks, ih]
    split <;> rfl

theorem State.pending_clearLive (n : Nat) : (s.clearLive n).pending = s.pending := by
  induction n generalizing s with
  | zero => rfl
  | succ n ih => rw [State.clearLive, ih, State.setBit_pending]

theorem State.pending_refreshHold : s.refreshHold.pending = s.pending := by rfl

/-- What a session leaves behind on engines, deadlines and lanes is cleared (R474). -/
def State.sessionCleared (s : State) : State :=
  ((((s.clearBreaks 1024).setReg R.DBG_FREEZE (resetWord R.DBG_FREEZE)).setBit F.TXU_CFG_tx_hold
    false).refreshHold).clearLive 64

theorem State.pending_sessionCleared : s.sessionCleared.pending = s.pending := by
  rw [State.sessionCleared, State.pending_clearLive, State.pending_refreshHold, State.setBit_pending,
    State.setReg_pending, State.pending_clearBreaks]

theorem State.finishSession_eq {v : State}
    (hv : v = State.sessionCleared { s with mon := { s.mon with ending := false } }) : s.finishSession =
      if v.sessionOpen then v
      else { v.dbgReset with mon := { v.mon with
        powered := false, ready := false, reply := [], capture := [], stepping := none, away := none } } := by
  rw [hv, State.sessionCleared, State.finishSession]

theorem State.pending_finishSession : s.finishSession.pending = s.pending := by
  obtain ⟨v, hv⟩ : ∃ v, v = State.sessionCleared { s with mon := { s.mon with ending := false } } := ⟨_, rfl⟩
  have hp : v.pending = s.pending := hv ▸ State.pending_sessionCleared
  rw [State.finishSession_eq hv]
  split <;> exact hp

theorem State.pending_cutSession : s.cutSession.pending = s.pending := State.pending_finishSession

theorem State.pending_countTamper (b : Burn) : (s.countTamper b).pending = s.pending := by
  rw [State.countTamper]
  split <;> rfl

theorem State.pending_surgeOver : s.surgeOver.pending = s.pending := State.fault_pending ..

theorem State.pending_leave (c : Nat) : (s.leave c).pending = s.pending := by
  unfold State.leave
  dsimp only
  split
  · split
    · exact State.pending_surgeOver
    · rfl
  · rfl

/-! ## What stays as the tamper has left it -/

/-- Beside what else it does, `t` has the mode, the waiting commands, transactions, loader and device
state of `s`, and holds no cue if `s` holds none. -/
def Stays (s t : State) : Prop :=
  t.mode = s.mode ∧ t.pending = s.pending ∧ t.txu = s.txu ∧ t.loader = s.loader ∧ t.dev = s.dev ∧
    (s.cues = [] → t.cues = [])

theorem Stays.refl (s : State) : Stays s s := ⟨rfl, rfl, rfl, rfl, rfl, id⟩

theorem Stays.trans (h : Stays s t) (h' : Stays t u) : Stays s u := by
  obtain ⟨hm, hp, hx, hl, hd, hc⟩ := h
  obtain ⟨hm', hp', hx', hl', hd', hc'⟩ := h'
  exact ⟨hm'.trans hm, hp'.trans hp, hx'.trans hx, hl'.trans hl, hd'.trans hd, hc' ∘ hc⟩

theorem Stays.foldl {α : Type} {op : State → α → State} (h : ∀ t a, Stays t (op t a)) (l : List α) (s : State) :
    Stays s (l.foldl op s) := by
  induction l generalizing s with
  | nil => exact Stays.refl s
  | cons a l ih => exact (h s a).trans (ih (op s a))

/-- A field of another register than the mode's. -/
theorem stays_setFld (f : Field) (v : Nat) (h : R.DEV_MODE ≠ f.off) : Stays s (s.setFld f v) :=
  ⟨State.fld_setFld_ne s f F.DEV_MODE_mode v h, rfl, rfl, rfl, rfl, id⟩

theorem stays_setBit (f : Field) (b : Bool) (h : R.DEV_MODE ≠ f.off) : Stays s (s.setBit f b) :=
  stays_setFld f _ h

theorem stays_setEngine (n : Nat) (e : Engine) : Stays s (s.setEngine n e) := ⟨rfl, rfl, rfl, rfl, rfl, id⟩

theorem CueUnit.stateOff_ne_mode (c : CueUnit) (k : Nat) : R.DEV_MODE ≠ c.stateOff k := by
  cases c <;> simp only [CueUnit.stateOff, R.DEV_MODE, R.DEV_CUE_STATE, R.TIM_CUE_STATE, R.CFG_CUE_STATE,
    R.ENG_CUE_STATE, R.CVL_CUE_STATE] <;> omega

theorem stays_disarm (c : CueUnit) (k : Nat) : Stays s (s.setBit (c.armedF k) false) :=
  stays_setBit _ _ (c.stateOff_ne_mode k)

/-! ## Engines switched off (R152) -/

theorem stays_cueClear (c : CueUnit) (k : Nat) : Stays s (s.cueClear c k) := by
  obtain ⟨hm, hp, hx, hl, hd, -⟩ := stays_disarm (s := s) c k
  refine ⟨hm, hp, hx, hl, hd, fun h => ?_⟩
  show Table.set noAction s.cues (c.base + k) .none = []
  rw [h]
  rfl

theorem stays_haltTimer (k : Nat) : Stays s (s.haltTimer k) := by
  have h : R.DEV_MODE ≠ R.TIM_TMR_CTRL k := by
    simp only [R.DEV_MODE, R.TIM_TMR_CTRL]
    omega
  exact (stays_setBit (F.TIM_TMR_CTRL_running k) false h).trans ⟨rfl, rfl, rfl, rfl, rfl, id⟩

theorem stays_setHolder (off : Nat) (h : Option Master) : Stays s (s.setHolder off h) :=
  ⟨rfl, rfl, rfl, rfl, rfl, id⟩

theorem stays_freeClaim (off : Nat) : Stays s (s.freeClaim off) := by
  rw [State.freeClaim]
  refine (stays_setHolder off none).trans ?_
  dsimp only
  split
  · split
    · exact stays_cueClear ..
    · exact Stays.refl _
  · split
    · exact stays_haltTimer _
    · exact Stays.refl _

theorem stays_freeClaims (l : List Nat) : Stays s (s.freeClaims l) := by
  induction l generalizing s with
  | nil => exact Stays.refl s
  | cons off l ih => exact (stays_freeClaim off).trans ih

theorem stays_servoBack (x : Dom) : Stays s (s.servoBack x) := by
  have h : R.DEV_MODE ≠ R.TIM_x_SERVO x.idx := by
    simp only [R.DEV_MODE, R.TIM_x_SERVO]
    omega
  have hd : Stays s (s.setDom x.isB { s.dom x.isB with holder := none }) := ⟨rfl, rfl, rfl, rfl, rfl, id⟩
  exact hd.trans (stays_setFld (F.TIM_x_SERVO_holder_kind x.idx) 1 h)

/-- The servo of one domain goes back to the husk if the NI with key `k` holds it (R273). -/
def State.servoReturn (s : State) (k : Nat) (x : Dom) : State :=
  match (s.dom x.isB).holder with
  | some h => if h.key = k then s.servoBack x else s
  | none => s

theorem State.servoRelease_eq (k : Nat) : s.servoRelease k = (s.servoReturn k .a).servoReturn k .b := by rfl

theorem stays_servoReturn (k : Nat) (x : Dom) : Stays s (s.servoReturn k x) := by
  rw [State.servoReturn]
  split
  · split
    · exact stays_servoBack x
    · exact Stays.refl s
  · exact Stays.refl s

theorem stays_servoRelease (k : Nat) : Stays s (s.servoRelease k) := by
  rw [State.servoRelease_eq]
  exact (stays_servoReturn k .a).trans (stays_servoReturn k .b)

theorem stays_unloadEngine (n : Nat) : Stays s (s.unloadEngine n) := by
  unfold State.unloadEngine
  dsimp only
  split
  · exact Stays.refl s
  · refine (stays_setEngine n { s.engine n with loaded := false }).trans ?_
    split
    · exact Stays.refl _
    · exact (stays_freeClaims _).trans (stays_servoRelease _)

theorem stays_engineState (n st : Nat) : Stays s (s.setFld (F.ENG_STATE_state n) st) := by
  refine stays_setFld _ _ ?_
  simp only [F.ENG_STATE_state, R.DEV_MODE, R.ENG_STATE]
  omega

theorem stays_showState (n st : Nat) : Stays s (s.showState n st) := by
  rw [State.showState]
  split
  · exact (stays_engineState ..).trans (stays_engineState ..)
  · exact stays_engineState ..

theorem stays_enter_off (n : Nat) : Stays s (s.enter n EngState.off) := by
  have h : s.enter n EngState.off = (s.showState (s.gov n) EngState.off).wdStop (s.gov n) := by rfl
  rw [h]
  exact (stays_showState ..).trans (stays_setEngine ..)

theorem stays_powerDown (n : Nat) : Stays s (s.powerDown n) :=
  (stays_unloadEngine n).trans ((stays_setEngine n _).trans (stays_enter_off n))

theorem stays_enginesOff (n : Nat) : Stays s (s.enginesOff n) := by
  induction n generalizing s with
  | zero => exact Stays.refl s
  | succ n ih =>
    rw [State.enginesOff]
    refine Stays.trans ?_ ih
    split
    · exact Stays.refl s
    · exact stays_powerDown n

/-- Servos go back to the husk, the bypass closes, and time stops (R287, R289). -/
theorem stays_timeStop : Stays s ((((s.servoBack .a).servoBack .b).closeBypass).timeStop) := by
  have hc (v : State) : Stays v v.closeBypass.timeStop :=
    (stays_setBit F.TIM_PPS_CTRL_bypass_closed true (by decide)).trans ⟨rfl, rfl, rfl, rfl, rfl, id⟩
  exact (stays_servoBack .a).trans ((stays_servoBack .b).trans (hc _))

/-! ## What is abandoned (R38) -/

theorem stays_dropCues (h : Stays s t) : Stays s { t with cues := [] } := by
  obtain ⟨hm, hp, hx, hl, hd, -⟩ := h
  exact ⟨hm, hp, hx, hl, hd, fun _ => rfl⟩

/-- The armed bits of the slots of DEV, TIM, CFG and the link groups are cleared. -/
def State.unitsDisarmed (s : State) : State :=
  ([CueUnit.dev, .tim, .cfg] ++ (List.range 8).map (fun g => CueUnit.cvl (Fin.ofNat 8 g))).foldl (fun (s : State) u =>
    (List.range 8).foldl (fun (s : State) k => s.setBit (u.armedF k) false) s) s

/-- The armed bits of the engines' slots that hold an action are cleared. -/
def State.enginesDisarmed (s : State) : State :=
  s.cues.foldl (fun (s : State) c =>
    if 128 ≤ c.1 then s.setBit ((CueUnit.eng (Fin.ofNat 1024 ((c.1 - 128) / 8))).armedF (c.1 % 8)) false
    else s) s

theorem State.disarmAll_eq : s.disarmAll = { s.unitsDisarmed.enginesDisarmed with cues := [] } := by rfl

theorem stays_unitsDisarmed : Stays s s.unitsDisarmed :=
  Stays.foldl (fun v c => Stays.foldl (fun _ k => stays_disarm c k) _ v) _ s

theorem stays_enginesDisarmed : Stays s s.enginesDisarmed := by
  refine Stays.foldl (fun v c => ?_) _ s
  split
  · exact stays_disarm ..
  · exact Stays.refl v

theorem stays_disarmAll : Stays s s.disarmAll := by
  rw [State.disarmAll_eq]
  exact stays_dropCues (stays_unitsDisarmed.trans stays_enginesDisarmed)

theorem State.disarmAll_cues : s.disarmAll.cues = [] := by rfl

/-- Every pod is back to IDLE, with nothing staged or switching. -/
def State.podsAbandoned (s : State) : State :=
  (List.range 48).foldl (fun (s : State) p =>
    (s.setPod p {}).setFld (F.CFG_POD_STATE_state p) Sprout.idle) s

theorem stays_podsAbandoned : Stays s s.podsAbandoned := by
  refine Stays.foldl (fun v p => ?_) _ s
  have hp : Stays v (v.setPod p {}) := ⟨rfl, rfl, rfl, rfl, rfl, id⟩
  refine hp.trans (stays_setFld _ _ ?_)
  simp only [F.CFG_POD_STATE_state, R.DEV_MODE, R.CFG_POD_STATE]
  omega

/-- Full switches, substitutions, loads under way and transactions are dropped. -/
def State.workDropped (s : State) : State :=
  let s := { s with cfg := { s.cfg with fullLive := false, fullWindow := .none, stagedTable := [] } }
  let s := (s.setBit F.DEV_MODE_repair_active false).setBit F.DEV_MODE_update_active false
  let s := { s with dev := { s.dev with subs := 0, halted := false, loadWait := false, gsr := true, launched := false } }
  s.txClear

/-- The two flags of DEV_MODE are dropped beside its mode field. -/
theorem State.workDropped_mode : s.workDropped.mode = s.mode := by
  have h (v : State) :
      ((v.setBit F.DEV_MODE_repair_active false).setBit F.DEV_MODE_update_active false).mode = v.mode := by
    rw [State.mode, State.fld_setBit_disjoint _ _ _ _ (by decide) (by decide),
      State.fld_setBit_disjoint _ _ _ _ (by decide) (by decide), State.mode]
  exact h _

theorem State.workDropped_pending : s.workDropped.pending = s.pending := by rfl

theorem State.workDropped_loader : s.workDropped.loader = s.loader := by rfl

theorem State.workDropped_txu : s.workDropped.txu = {} := by rfl

theorem State.workDropped_dev : s.workDropped.dev.subs = 0 ∧ s.workDropped.dev.launched = false ∧
    s.workDropped.dev.gsr = true := ⟨rfl, rfl, rfl⟩

theorem State.abandonAll_eq : s.abandonAll =
    (State.podsAbandoned ((s.setLoader {}).setFld F.PCI_LDR_STATUS_state 0)).workDropped.disarmAll := by
  rw [State.abandonAll, State.podsAbandoned, State.workDropped]

/-- No load, switch, substitution, transaction or cue is left, and the global set-reset holds. -/
def Abandoned (t : State) : Prop :=
  t.txu = {} ∧ t.cues = [] ∧ t.loader = {} ∧ t.dev.subs = 0 ∧ t.dev.launched = false ∧ t.dev.gsr = true

theorem Abandoned.of_stays (ha : Abandoned s) (h : Stays s t) : Abandoned t := by
  obtain ⟨htxu, hcues, hloader, hsubs, hlaunched, hgsr⟩ := ha
  obtain ⟨-, -, hx, hl, hd, hc⟩ := h
  exact ⟨hx.trans htxu, hc hcues, hl.trans hloader, (congrArg Dev.subs hd).trans hsubs,
    (congrArg Dev.launched hd).trans hlaunched, (congrArg Dev.gsr hd).trans hgsr⟩

theorem abandonAll_spec (s : State) :
    s.abandonAll.mode = s.mode ∧ s.abandonAll.pending = s.pending ∧ Abandoned s.abandonAll := by
  rw [State.abandonAll_eq]
  have hv : Stays (s.setLoader {}) (State.podsAbandoned ((s.setLoader {}).setFld F.PCI_LDR_STATUS_state 0)) :=
    (stays_setFld _ _ (by decide)).trans stays_podsAbandoned
  generalize State.podsAbandoned ((s.setLoader {}).setFld F.PCI_LDR_STATUS_state 0) = v at hv ⊢
  obtain ⟨hm, hp, -, hl, -, -⟩ := hv
  obtain ⟨hm', hp', hx', hl', hd', -⟩ := stays_disarmAll (s := v.workDropped)
  refine ⟨?_, ?_, ?_, State.disarmAll_cues, ?_, ?_⟩
  · rw [hm', State.workDropped_mode, hm, State.mode, State.setLoader_fld, State.mode]
  · rw [hp', State.workDropped_pending, hp, State.setLoader_pending]
  · rw [hx', State.workDropped_txu]
  · rw [hl', State.workDropped_loader, hl, State.setLoader]
  · rw [hd']
    exact State.workDropped_dev

/-! ## The confirmation -/

theorem exec_tamperClass2Confirm (shield : Bool) (b : Burn) (s : State) :
    exec (.tamperClass2Confirm shield b) s = .next (zeroise shield b s) := by rfl

theorem zeroise_zeroised (shield : Bool) (b : Burn) (h : s.mode = Mode.zeroised) : zeroise shield b s = s := by
  rw [zeroise, if_pos (.inr (.inl h))]

/-- Up to the transition no command is taken; after it everything is abandoned, and engines, servos
and time follow. -/
theorem zeroise_confirmed (shield : Bool) (b : Burn) (h1 : s.mode ≠ Mode.off) (h2 : s.mode ≠ Mode.zeroised)
    (h3 : shield = true ∨ s.trust.class2 = true) : ∃ v : State, v.pending = s.pending ∧
      zeroise shield b s = ((((((v.transition 0x13 Mode.zeroised).abandonAll).enginesOff 1024).servoBack .a).servoBack
        .b).closeBypass).timeStop := by
  have h4 : ¬ (shield = false ∧ s.trust.class2 = false) := by
    rintro ⟨hs, ht⟩
    simp [hs, ht] at h3
  rw [zeroise, if_neg (by simp [h1, h2, h4])]
  refine ⟨_, ?_, rfl⟩
  rw [State.pending_leave, State.pending_countTamper]
  refine State.pending_cutSession.trans ?_
  exact State.fault_pending ..

theorem zeroise_spec (shield : Bool) (b : Burn) (h1 : s.mode ≠ Mode.off) (h2 : s.mode ≠ Mode.zeroised)
    (h3 : shield = true ∨ s.trust.class2 = true) : (zeroise shield b s).mode = Mode.zeroised ∧
      (zeroise shield b s).pending = s.pending ∧ Abandoned (zeroise shield b s) := by
  obtain ⟨v, hv, hz⟩ := zeroise_confirmed shield b h1 h2 h3
  obtain ⟨hmode, hpending, habandoned⟩ := abandonAll_spec (v.transition 0x13 Mode.zeroised)
  have hs : Stays (v.transition 0x13 Mode.zeroised).abandonAll (zeroise shield b s) := by
    rw [hz]
    exact (stays_enginesOff 1024).trans stays_timeStop
  have ⟨hm, hp, _⟩ := hs
  refine ⟨hm.trans (hmode.trans (State.transition_mode v _ _ _ (by decide))), hp.trans (hpending.trans ?_),
    habandoned.of_stays hs⟩
  rw [State.transition_pending, hv]

end Sys2Proof.Machine
end

section
open Sys2Proof Sys2Proof.Machine

/-- Settles O49: arming, disarming and firing a slot, the confirmed tamper, and the link. -/
theorem cuesFireOnceAndTamperZeroises : Obligations.CuesFireOnceAndTamperZeroises := by
  refine ⟨?unfit, ?notHolder, ?otherItem, ?outside, ?armed, ?disarmNotHolder, ?disarm, ?cleared, ?fires, ?firesEvent,
    ?idle, ?tamper, ?tamperAgain, ?linkLost, ?linkUp⟩
  case unfit =>
    intro s m u slot t f a ha
    rw [exec_cueArm, cueArmGo_unfit ha]
  case notHolder =>
    intro s m u slot t f a ha hm
    rw [exec_cueArm, cueArmGo_fits ha, armCue_notHolder hm]
  case otherItem =>
    intro s m u slot t f a ha hm hu hk hne
    rw [exec_cueArm, cueArmGo_fits ha, armCue_otherItem hm hu hk hne]
  case outside =>
    intro s m u slot t f a ha hm hk ht
    rw [exec_cueArm, cueArmGo_fits ha, armCue_sameItem hm hk, if_pos ht]
  case armed =>
    intro s m u slot t f a ha hm hk ht
    refine ⟨_, exec_cueArm .., ?_⟩
    rw [cueArmGo_holds ha hm hk ht]
    refine ⟨?_, ?_, rfl, ?_, ?_, rfl⟩
    · rw [State.cueArmed, State.ack_bit]
      exact State.cueHold_armed ..
    · rw [State.cueAction, State.ack_cues]
      exact State.cueHold_action ..
    · rw [State.ack_claims, State.cueHold_claims]
    · rw [State.ack_pending, State.cueHold_pending]
  case disarmNotHolder =>
    intro s m u slot hm
    rw [exec_cueDisarm, cueDisarmGo_notHolder hm]
  case disarm =>
    intro s m u slot hm
    rw [exec_cueDisarm, cueDisarmGo_holder hm]
  case cleared => exact fun s u k => ⟨State.cueClear_armed, State.cueClear_action⟩
  case fires =>
    intro s u slot a hk ht hc ha
    rw [exec_cueFire, cueFireGo_due hk ht hc, ha]
  case firesEvent =>
    intro s n slot hk ht hc ha
    rw [exec_cueFire, cueFireGo_due hk ht hc, ha, State.cueAct]
  case idle =>
    intro s u slot h
    rw [exec_cueFire, cueFireGo_idle h]
  case tamper =>
    intro s shield b h1 h2 h3
    obtain ⟨hmode, hpending, htxu, hcues, hrest⟩ := zeroise_spec shield b h1 h2 h3
    exact ⟨_, exec_tamperClass2Confirm .., hmode, htxu, hcues, hpending, hrest⟩
  case tamperAgain =>
    intro s b h
    rw [exec_tamperClass2Confirm, zeroise_zeroised true b h]
  case linkLost =>
    intro s h
    rw [exec_pcieLinkLoss, linkLoss_up h]
  case linkUp =>
    intro s w v h1 h2 h3 hp
    exact ⟨_, exec_pcieLinkUp .., linkUp_fields s w v (linkTrained_on h1 h2 h3 hp)⟩
end

section
/-! PROOFS. CUE, UNCUE, EVCLR, the engine port and DBELL (R82, R83, R126, R184, R188, R193): what the
checks before an effect answer, which effects are calm, and what each instruction does. -/

namespace Sys2Proof.Machine

variable {s u t : State} {m : Master} {n k i : Nat} {e : Fin 1024} {f : KR} {ki : KInstr} {w : Word}
  {sem : State → Issued}

/-! ## Checks and operands (R157 to R161) -/

theorem State.gOk_ok (h : k < s.gLimit n) : s.gOk n k = .ok () := by
  simp [State.gOk, legal, need, h]

theorem State.pairOk_ok (he : k % 2 = 0) (h : k + 2 ≤ s.gLimit n) : s.pairOk n k = .ok () := by
  simp [State.pairOk, legal, need, he, h]

/-- A clean register gives bits 31:0 of its word (R159). -/
theorem State.use32_clean (h : (s.getG n k).clean = true) :
    s.use32 n k = .ok ((s.getG n k).w.setWidth 32).toNat := by
  rw [BitVec.toNat_setWidth, State.use32, useWord, h]
  rfl

/-- With bit 1 of mod clear an instruction names the engine's own port (R184). -/
theorem State.portOf_own (h : f.mod.getLsbD 1 = false) : s.portOf n f = .ok n := by
  rw [State.portOf, h, Bool.not_false, Bool.or_true]
  rfl

theorem State.getG_put32 (x : Nat) : (s.put32 n k x).getG n k = { w := BitVec.ofNat 36 (x % 2 ^ 32) } := by
  rw [State.put32, State.putW, State.putG, State.getG, State.engine_setEngine_same, Engine.gAt, Engine.setG,
    Table.get_set_same]

/-- The move of PC leaves every register as the effect has it. -/
theorem Ran.getG (h : Ran n u t) (k : Nat) : t.getG n k = u.getG n k := by
  obtain ⟨hn, hother, -⟩ := h
  rw [State.getG, State.getG]
  by_cases hk : gEng n k = n
  · rw [hk, hn]
    rfl
  · rw [hother _ hk]

theorem Ran.pc (h : Ran n u t) (hc : Calm s u) : (t.engine n).pc = (s.engine n).pc + 1 := by
  rw [h.1, (hc.2 n).1]

theorem Ran.cues (h : Ran n u t) : t.cues = u.cues := by
  obtain ⟨-, -, hrest⟩ := h
  rw [← hrest]

theorem SameBut.trans (h : SameBut n s u) (h' : SameBut n u t) : SameBut n s t := by
  obtain ⟨hk, hrest⟩ := h
  obtain ⟨hk', hrest'⟩ := h'
  refine ⟨fun k h => (hk' k h).trans (hk k h), ?_⟩
  exact (congrArg (fun x : State => { x with eng := s.eng }) hrest').trans hrest

/-! ## Calm effects -/

theorem Calm.of_eng (hm : u.mon = s.mon) (he : u.eng = s.eng) : Calm s u :=
  ⟨congrArg _ hm, fun k => by rw [State.engine, State.engine, he]; exact ⟨rfl, rfl, rfl, rfl⟩⟩

theorem Calm.putW (h : Calm s u) (x : W36) (q : Bool) : Calm s (u.putW n k x q) := h.setEngine rfl rfl rfl rfl

theorem Calm.put32 (h : Calm s u) (x : Nat) : Calm s (u.put32 n k x) := h.putW _ _

theorem Calm.setZ (h : Calm s u) (z : Bool) : Calm s (u.setZ n z) := h.setEngine rfl rfl rfl rfl

/-- A port instruction with try that moved a word clears z (R184). -/
theorem Calm.tried (h : Calm s u) (b : Bool) : Calm s (if b then u.setZ n false else u) := by
  cases b with
  | false => exact h
  | true => exact h.setZ false

/-! ## Issuing on a ready engine -/

/-- An instruction that reads no data word and whose effect is calm has its effect, and PC moves on. -/
theorem issue_ready_ran (hr : Ready s n) (hs : sem s = .ok { state := u }) (hc : Calm s u) :
    Ran n u (s.issue n ki {} [] sem) :=
  issue_ran hr rfl hs rfl rfl hc (by simp) (by simp)

/-- An instruction that stalls leaves the device as it was (R184). -/
theorem issue_ready_stall (hr : Ready s n) (hs : sem s = .ok { state := s, flow := .stall }) :
    s.issue n ki {} [] sem = s := by
  rw [issue_ready hr rfl, State.runInstr, hs]
  rfl

theorem exec_cue : exec (.cue e f {}) s = .next (s.issue e.val (.r .cue f) {} [] (semCue e.val f)) := by rfl
theorem exec_uncue : exec (.uncue e f {}) s = .next (s.issue e.val (.r .uncue f) {} [] (semUncue e.val f)) := by rfl
theorem exec_evclr : exec (.evclr e f {}) s = .next (s.issue e.val (.r .evclr f) {} [] (semEvclr e.val f)) := by rfl
theorem exec_pev : exec (.pev e f {}) s = .next (s.issue e.val (.r .pev f) {} [] (semPev e.val f)) := by rfl
theorem exec_prd : exec (.prd e f {}) s = .next (s.issue e.val (.r .prd f) {} [] (semPrd e.val f {})) := by rfl
theorem exec_pwr : exec (.pwr e f {}) s = .next (s.issue e.val (.r .pwr f) {} [] (semPwr e.val f)) := by rfl
theorem exec_dbell : exec (.dbell e f {}) s = .next (s.issue e.val (.r .dbell f) {} [] (semDbell e.val f)) := by rfl

/-! ## CUE and UNCUE (R193) -/

theorem engCue_val : engCue e.val = .eng e := by
  rw [engCue, Fin.ofNat_val_eq_self]

/-- A slot of an engine takes another cue while it is armed: the time alone is judged. -/
theorem armCue_engine {frac : Nat} {pin : Bool} {a : CueAction} (h : s.mayCue m (.eng e) k = true)
    (ht : s.classOf w ≠ .outside) :
    s.armCue m (.eng e) k w frac pin a = (0, s.cueHold (.eng e) k w frac pin a) := by
  rw [State.armCue, h]
  cases hc : s.classOf w with
  | outside => exact absurd hc ht
  | reached => rfl
  | ahead => rfl

/-- CUE arms its slot with the time in Ga, and Gd takes the status. -/
theorem semCue_clean {r : Nat × State} (hd : f.d.toNat < s.gLimit n) (ha : f.a.toNat < s.gLimit n)
    (hc : (s.getG n f.a.toNat).clean = true)
    (hr : s.armCue (engUnit n) (engCue n) (f.imm.toNat % 8) ((s.getG n f.a.toNat).w.setWidth 32) 0 false .event = r) :
    semCue n f s = .ok { state := r.2.put32 n f.d.toNat r.1 } := by
  rw [semCue, State.gOk_ok hd, State.gOk_ok ha, State.use32_clean hc, ← hr]
  simp only [bind, Except.bind, BitVec.ofNat_toNat, BitVec.setWidth_eq]
  rfl

theorem semUncue_holder (hd : f.d.toNat < s.gLimit n)
    (h : s.mayCue (engUnit n) (engCue n) (f.imm.toNat % 8) = true) :
    semUncue n f s = .ok { state := (s.cueClear (engCue n) (f.imm.toNat % 8)).put32 n f.d.toNat 0 } := by
  rw [semUncue, State.gOk_ok hd]
  simp only [h]
  rfl

theorem semUncue_notHolder (hd : f.d.toNat < s.gLimit n)
    (h : s.mayCue (engUnit n) (engCue n) (f.imm.toNat % 8) = false) :
    semUncue n f s = .ok { state := s.put32 n f.d.toNat 0x0801 } := by
  rw [semUncue, State.gOk_ok hd]
  simp only [h]
  rfl

/-! ## The engine port (R82, R83, R126, R184) -/

/-- PRD takes the oldest word into the pair of registers. -/
theorem semPrd_word {x : PortWord} {l : List PortWord} (he : f.d.toNat % 2 = 0) (hd : f.d.toNat + 2 ≤ s.gLimit n)
    (hm : f.mod.getLsbD 1 = false) (hw : (s.engine n).toEngine = x :: l)
    (hu : u = ((s.setEngine n { s.engine n with toEngine := l }).putW n f.d.toNat x.w0 x.p0).putW n
      (f.d.toNat + 1) x.w1 x.p1) :
    semPrd n f {} s = .ok { state := if f.mod.getLsbD 0 then u.setZ n false else u } := by
  rw [semPrd, State.pairOk_ok he hd, State.portOf_own hm, hu]
  simp only [bind, Except.bind, hw, Bool.not_true, Bool.or_false]
  rfl

theorem semPrd_empty (he : f.d.toNat % 2 = 0) (hd : f.d.toNat + 2 ≤ s.gLimit n) (hm : f.mod.getLsbD 1 = false)
    (hw : (s.engine n).toEngine = []) : semPrd n f {} s =
      .ok (if f.mod.getLsbD 0 then { state := s.setZ n true } else { state := s, flow := .stall }) := by
  rw [semPrd, State.pairOk_ok he hd, State.portOf_own hm]
  simp only [bind, Except.bind, hw]
  rfl

/-- PWR sends the pair of registers, each word with its tags as poison. -/
theorem semPwr_word (he : f.a.toNat % 2 = 0) (ha : f.a.toNat + 2 ≤ s.gLimit n) (hm : f.mod.getLsbD 1 = false)
    (hl : (s.engine n).fromEngine.length < 32)
    (hu : u = s.portSend n (PortWord.mk (s.getG n f.a.toNat).w (s.getG n (f.a.toNat + 1)).w
      (!(s.getG n f.a.toNat).clean) (!(s.getG n (f.a.toNat + 1)).clean))) :
    semPwr n f s = .ok { state := if f.mod.getLsbD 0 then u.setZ n false else u } := by
  rw [semPwr, State.pairOk_ok he ha, State.portOf_own hm, hu]
  simp only [bind, Except.bind]
  rw [if_neg (by omega)]
  rfl

theorem semPwr_full (he : f.a.toNat % 2 = 0) (ha : f.a.toNat + 2 ≤ s.gLimit n) (hm : f.mod.getLsbD 1 = false)
    (hl : 32 ≤ (s.engine n).fromEngine.length) : semPwr n f s =
      .ok (if f.mod.getLsbD 0 then { state := s.setZ n true } else { state := s, flow := .stall }) := by
  rw [semPwr, State.pairOk_ok he ha, State.portOf_own hm]
  simp only [bind, Except.bind]
  rw [if_pos hl]
  rfl

@[simp] theorem State.setEngine_paired (x : Engine) (p : Nat) : (s.setEngine n x).paired p = s.paired p :=
  State.setEngine_bit ..

/-- A word of an engine whose pod has no twin goes to its own port alone. -/
theorem State.portSend_unpaired (x : PortWord) (h : s.paired (s.portPod n) = false) :
    s.portSend n x = s.setEngine n { s.engine n with fromEngine := (s.engine n).fromEngine ++ [x] } := by
  rw [State.portSend]
  dsimp only
  rw [State.setEngine_paired, h]
  rfl

theorem calm_portSend (x : PortWord) : Calm s (s.portSend n x) := by
  have hown : ∀ l, Calm s (s.setEngine n { s.engine n with fromEngine := l }) :=
    fun _ => (Calm.refl s).setEngine rfl rfl rfl rfl
  rw [State.portSend]
  split
  · exact (hown _).setEngine rfl rfl rfl rfl
  · exact hown _

/-! ## Doorbells (R188, R416, R417) -/

theorem calm_raiseEvent (x : Nat) : Calm s (s.raiseEvent n x) :=
  .of_eng (State.raiseEvent_mon ..) (State.raiseEvent_eng ..)

theorem calm_emit (src dst kind prio tag txid : Nat) (q : Bool) (b : List Byte) (a : Nat) (bare : Bool) :
    Calm s (s.emit src dst kind prio tag txid q b a bare) := by
  unfold State.emit
  dsimp only
  split
  · exact .refl s
  · exact .of_eng (State.satFld_mon ..) (State.satFld_eng ..)

theorem calm_mbxNotify : Calm s (s.mbxNotify n) := by
  unfold State.mbxNotify
  split
  · exact .refl s
  · dsimp only
    split
    · exact .refl s
    · exact calm_raiseEvent _
    · exact calm_emit ..
    · exact .of_eng (State.sendMsix_mon ..) (State.sendMsix_eng ..)

/-- A bell is a bit of a register, and a notification of its mailbox. -/
theorem calm_ringBell : Calm s (s.ringBell n k) := by
  have hset : ∀ b, Calm s (s.setReg (R.MBX_DB n) b) :=
    fun _ => .of_eng (State.setReg_mon ..) (State.setReg_eng ..)
  unfold State.ringBell State.ringMask
  split
  · exact .refl s
  · dsimp only
    split
    · exact (hset _).trans calm_mbxNotify
    · exact hset _

/-- DBELL takes its value from Ga, or from the instruction word. -/
theorem semDbell_value (h : if f.mod.getLsbD 2 then f.a.toNat < s.gLimit n ∧ (s.getG n f.a.toNat).clean = true ∧
      w = (s.getG n f.a.toNat).w.setWidth 32 else w = f.imm) :
    semDbell n f s = .ok ⟨if f.mod.getLsbD 0 then s.raiseEvent (w.toNat % 1024) 1
      else s.ringBell (w.toNat % 256) (w.toNat / 256 % 32), .seq, []⟩ := by
  rw [semDbell]
  cases hg : f.mod.getLsbD 2 with
  | true =>
    rw [hg] at h
    obtain ⟨ha, hc, rfl⟩ := h
    rw [State.gOk_ok ha, State.use32_clean hc]
    cases f.mod.getLsbD 0 <;> rfl
  | false =>
    rw [hg] at h
    obtain rfl : w = f.imm := h
    cases f.mod.getLsbD 0 <;> rfl

end Sys2Proof.Machine
end

section
open Sys2Proof Sys2Proof.Machine

/-- Settles O31: each instruction's effect by the case of its operands, on a ready engine. -/
theorem cuesPortsAndDoorbellsRun : Obligations.CuesPortsAndDoorbellsRun := by
  refine ⟨?cue, ?uncue, ?evclr, ?pev, ?prd, ?prdEmpty, ?pwr, fun s n w h => State.portSend_unpaired w h, ?dbell⟩
  case cue =>
    intro s e f t hr hd ha hc ht
    subst ht
    refine ⟨fun hm ht => ⟨_, exec_cue, ?_⟩, fun hm => ⟨_, exec_cue, ?_⟩⟩
    · have hr0 := armCue_engine (frac := 0) (pin := false) (a := .event) hm ht
      rw [← engCue_val] at hr0
      rw [← engCue_val]
      exact issue_ready_ran hr (semCue_clean hd ha hc hr0)
        ((Calm.of_eng (State.cueHold_mon ..) (State.cueHold_eng ..)).put32 _)
    · have hr0 := armCue_notHolder (t := (s.getG e.val f.a.toNat).w.setWidth 32) (frac := 0) (pin := false)
        (a := .event) hm
      rw [← engCue_val] at hr0
      have hcalm := (Calm.of_eng (State.setFld_mon s ((engCue e.val).statusF (f.imm.toNat % 8)) 0x0801)
        (State.setFld_eng ..)).put32 (n := e.val) (k := f.d.toNat) 0x0801
      have hran := issue_ready_ran (ki := .r .cue f) hr (semCue_clean hd ha hc hr0) hcalm
      refine ⟨hran.pc hcalm, ?_, ?_⟩
      · rw [hran.getG, State.getG_put32]
        rfl
      · rw [hran.cues]
        rfl
  case uncue =>
    intro s e f hr hd
    rw [← engCue_val]
    exact ⟨fun hm => ⟨_, exec_uncue, issue_ready_ran hr (semUncue_holder hd hm)
        ((Calm.of_eng (State.cueClear_mon ..) (State.cueClear_eng ..)).put32 _)⟩,
      fun hm => ⟨_, exec_uncue, issue_ready_ran hr (semUncue_notHolder hd hm) ((Calm.refl s).put32 _)⟩⟩
  case evclr =>
    intro s e f hr
    exact ⟨_, exec_evclr, issue_ready_ran hr rfl (.of_eng (State.setReg_mon ..) (State.setReg_eng ..))⟩
  case pev =>
    intro s e f hr
    obtain ⟨hn, hother⟩ := issue_ready_ran (ki := .r .pev f) (sem := semPev e.val f) hr rfl
      ((Calm.refl s).setEngine rfl rfl rfl rfl)
    exact ⟨_, exec_pev, hn.trans (by rw [State.engine_setEngine_same]), (setEngine_same_but s _ _).trans hother⟩
  case prd =>
    intro s e f w l u hr he hd hm hw hu
    refine ⟨_, exec_prd, issue_ready_ran hr (semPrd_word he hd hm hw hu) ?_⟩
    rw [hu]
    refine .tried (.putW (.putW ?_ _ _) _ _) _
    exact (Calm.refl s).setEngine rfl rfl rfl rfl
  case prdEmpty =>
    intro s e f hr he hd hm hw
    refine ⟨fun hz => ⟨_, exec_prd, issue_ready_ran hr ?_ ((Calm.refl s).setZ true)⟩, fun hz => ?_⟩
    · rw [semPrd_empty he hd hm hw, if_pos hz]
    · rw [exec_prd, issue_ready_stall hr]
      rw [semPrd_empty he hd hm hw, if_neg (Bool.eq_false_iff.1 hz)]
  case pwr =>
    intro s e f u hr he ha hm hu
    refine ⟨fun hl => ⟨_, exec_pwr, issue_ready_ran hr (semPwr_word he ha hm hl hu) ?_⟩,
      fun hl hz => ⟨_, exec_pwr, issue_ready_ran hr ?_ ((Calm.refl s).setZ true)⟩, fun hl hz => ?_⟩
    · rw [hu]
      exact (calm_portSend _).tried _
    · rw [semPwr_full he ha hm hl, if_pos hz]
    · rw [exec_pwr, issue_ready_stall hr]
      rw [semPwr_full he ha hm hl, if_neg (Bool.eq_false_iff.1 hz)]
  case dbell =>
    intro s e f v hr hv
    refine ⟨_, exec_dbell, issue_ready_ran hr (semDbell_value hv) ?_⟩
    split
    · exact calm_raiseEvent _
    · exact calm_ringBell
end

section
/-! PROOFS. The fabric while it runs (R66, R69, R71 to R75, R82 to R89): regional trees, block memories,
access points and engine ports. -/

namespace Sys2Proof.Machine

variable {s : State} {n p k a : Nat} {src : BitVec 10} {tag : BitVec 8}

/-! ## The commands -/

theorem exec_treeSwitch (r : Fin 96) (k : Fin 32) (sel : BitVec 4) : exec (.treeSwitch r k sel) s =
    .next (s.setTree (treeKey r.val k.val) ((s.tree (treeKey r.val k.val)).request sel)) := by rfl

theorem exec_treeSwitchDone (r : Fin 96) (k : Fin 32) : exec (.treeSwitchDone r k) s =
    .next (s.setTree (treeKey r.val k.val) (s.tree (treeKey r.val k.val)).done) := by rfl

theorem exec_treeOldSourceTimeout (r : Fin 96) (k : Fin 32) :
    exec (.treeOldSourceTimeout r k) s = .next (treeTimeout r.val k.val s) := by rfl

theorem exec_bramWriteback (r : Fin 96) (b : Fin 384) (a : Fin 1024) (w : BitVec 18) (x : Bool) :
    exec (.bramWriteback r b a w x) s = .next (bramBack r.val b.val a.val w x s) := by rfl

theorem exec_bramScrubCycle (r : Fin 96) (b : Fin 384) (x : Ecc) :
    exec (.bramScrubCycle r b x) s = .next (bramScrub r.val b.val x s) := by rfl

theorem exec_accessPointDeliver (p : Fin 192) : exec (.accessPointDeliver p) s = .next (apDeliver p.val s) := by rfl

theorem exec_fabricTimeout (p : Fin 192) : exec (.fabricTimeout p src tag) s = .next (apTimeout p.val src tag s) := by
  rfl

theorem exec_enginePortWord (e : Fin 1024) (give : Option (BitVec 72 × BitVec 2)) (ok : Bool) :
    exec (.enginePortWord e give ok) s = .next (portWord e.val give ok s) := by rfl

theorem exec_evInRisingEdge (e : Fin 1024) : exec (.evInRisingEdge e) s = .next (portEvent e.val s) := by rfl

/-! ## Reads after writes -/

@[simp] theorem State.tree_setTree_same (x : Tree) : (s.setTree k x).tree k = x := by
  simp [State.tree, State.setTree]

@[simp] theorem State.ap_setAp_same (x : AccessPoint) : (s.setAp p x).ap p = x := by
  simp [State.ap, State.setAp]

@[simp] theorem State.bramWord_setBram_same (w : BramWord) : (s.setBram k w).bramWord k = w := by
  simp [State.bramWord, State.setBram]

theorem State.bramWord_setBram_ne {j : Nat} (w : BramWord) (h : j ≠ k) :
    (s.setBram k w).bramWord j = s.bramWord j := by
  simp [State.bramWord, State.setBram, h]

/-! ## Regional trees (R71 to R75) -/

theorem Tree.request_idle {t : Tree} {sel : BitVec 4} (h : t.next = none) (hs : t.sel ≠ sel) :
    t.request sel = { t with next := some sel, released := false } := by
  rw [Tree.request, h]
  exact if_neg hs

theorem Tree.request_switching {t : Tree} {sel x : BitVec 4} (h : t.next = some x) :
    t.request sel = { t with queued := some sel } := by
  rw [Tree.request, h]

theorem Tree.done_unqueued {t : Tree} {x : BitVec 4} (h : t.next = some x) (hq : t.queued = none) :
    t.done = { t with sel := x, next := none, queued := none, released := false } := by
  rw [Tree.done, hq]
  dsimp only
  rw [Tree.finish, h]

theorem treeTimeout_switching {x : BitVec 4} (h : (s.tree (treeKey n k)).next = some x)
    (hr : (s.tree (treeKey n k)).released = false) : treeTimeout n k s =
      (s.setTree (treeKey n k) { s.tree (treeKey n k) with released := true }).clockFault (1024 + treeKey n k) := by
  rw [treeTimeout]
  exact if_pos (by rw [h, hr]; rfl)

/-! ## Block memories (R66, R69) -/

theorem State.bramEcc_fabric (x : Ecc) : (s.bramEcc n k x).fabric = s.fabric := by
  cases x with
  | clean => rfl
  | corrected => exact State.fault_fabric ..
  | uncorrectable => exact State.fault_fabric ..

theorem State.bramWord_bramEcc (x : Ecc) (j : Nat) : (s.bramEcc n k x).bramWord j = s.bramWord j := by
  rw [State.bramWord, State.bramEcc_fabric, State.bramWord]

/-! ## Access points (R85 to R89) -/

/-- An NI number is one of the 768 of the directory (R200). -/
theorem niOfKey_lt (key : Nat) : niOfKey key < 768 := by
  rw [niOfKey]
  cases h : (List.range 768).find? fun n => niKey n == key with
  | none => decide
  | some n => exact List.mem_range.1 (List.mem_of_find?_eq_some h)

theorem State.reg_satFld_ne {f o : Field} {j c : Nat} (hf : j ≠ f.off) (ho : j ≠ o.off) :
    (s.satFld f o c).reg j = s.reg j := by
  unfold State.satFld
  split
  · exact State.reg_setFld_ne s _ hf
  · rw [State.reg_setFld_ne _ _ ho, State.reg_setFld_ne _ _ hf]

/-- The records of a delivery touch the count of lost records and the statistics of the NI alone: no
register of CFG. -/
theorem State.deliveryRecords_fld (d : Delivery) {q : Field} (hq : 0x700000 ≤ q.off) (hq' : q.off < 0x800000) :
    (s.deliveryRecords p d).fld q = s.fld q := by
  have hlost : q.off ≠ F.ERR_LOST_lost.off := by
    show q.off ≠ 0x80000C
    omega
  have hcrc : ∀ (t : State) (m : Master), (t.niCrcFail m.ni).fld q = t.fld q := fun t m => by
    have hni : m.ni < 768 := niOfKey_lt _
    rw [State.fld, State.niCrcFail, State.reg_satFld_ne, State.fld]
    · show q.off ≠ 0x240004 + 0x10 * m.ni
      omega
    · show q.off ≠ 0x240000 + 0x10 * m.ni
      omega
  unfold State.deliveryRecords
  cases d.crcErr <;> cases d.poison <;>
    simp only [if_true, if_false, Bool.false_eq_true, hcrc, State.fault_fld_ne _ _ _ _ _ _ _ _ hlost]

theorem State.podOf_deliveryRecords (d : Delivery) (h : n < 96) : (s.deliveryRecords p d).podOf n = s.podOf n := by
  refine State.deliveryRecords_fld d ?_ ?_
  · show 0x700000 ≤ 0x704000 + 0x10 * n
    omega
  · show 0x704000 + 0x10 * n < 0x800000
    omega

theorem State.podOf_lt : s.podOf n < 64 := Nat.mod_lt _ (Nat.two_pow_pos 6)

theorem State.paired_deliveryRecords (d : Delivery) (h : n < 64) : (s.deliveryRecords p d).paired n = s.paired n := by
  rw [State.paired, State.bit, State.deliveryRecords_fld d]
  · rfl
  · show 0x700000 ≤ 0x701020 + 0x40 * n
    omega
  · show 0x701020 + 0x40 * n < 0x800000
    omega

/-- A packet handed over in a pod without a twin is copied nowhere. -/
theorem apDeliver_unpaired {x : Packet} {l : List Packet} (hp : p < 192) (hx : (s.ap p).inbound = x :: l)
    (hs : s.podStopped (s.apPod p) = false) (hd : s.hasDesign p = true) (ho : (s.ap p).opened.length < 32)
    (hu : s.paired (s.apPod p) = false) :
    apDeliver p s = (s.handToDesign p x l).deliveryRecords p x.delivered := by
  have hpod : ((s.handToDesign p x l).deliveryRecords p x.delivered).apPod p = s.apPod p :=
    (State.podOf_deliveryRecords _ (by omega)).trans (State.setAp_fld ..)
  have hpair : ((s.handToDesign p x l).deliveryRecords p x.delivered).paired (s.apPod p) = false :=
    (State.paired_deliveryRecords _ State.podOf_lt).trans ((State.setAp_bit ..).trans hu)
  have hfull : decide (32 ≤ (s.ap p).opened.length) = false := by
    rw [decide_eq_false_iff_not]
    omega
  rw [apDeliver, hx]
  dsimp only
  rw [hs, hd, hfull, Bool.and_false, hpod, hpair]
  rfl

/-- The access point once a request is given up: no request of that source and tag is open. -/
def AccessPoint.expire (x : AccessPoint) (src : BitVec 10) (tag : BitVec 8) : AccessPoint :=
  { x with
    opened := x.opened.filter fun r => !(r.src == src && r.tag == tag)
    since := x.since.filter fun e => !(e.1 == src && e.2.1 == tag)
    expired := x.expired ++ [(src, tag)] }

theorem AccessPoint.expire_opened (x : AccessPoint) {r : Packet} (hr : r ∈ (x.expire src tag).opened) :
    ¬ (r.src = src ∧ r.tag = tag) := by
  rintro ⟨rfl, rfl⟩
  simp [AccessPoint.expire] at hr

/-- A request of the point has been open for 64 µs. -/
def State.lateAt (s : State) (p : Nat) (src : BitVec 10) (tag : BitVec 8) : Bool :=
  (s.ap p).since.any fun e => e.1 == src && e.2.1 == tag && s.passed e.2.2 64000

theorem State.lateAt_iff : s.lateAt p src tag = true ↔
    ∃ a, (src, tag, a) ∈ (s.ap p).since ∧ a + 64000 ≤ s.tim.uptime := by
  simp [State.lateAt, State.passed]

theorem apTimeout_late {q : Packet} (hq : (s.ap p).opened.find? (fun q => q.src == src && q.tag == tag) = some q)
    (h : s.lateAt p src tag = true) : apTimeout p src tag s =
      ((s.setAp p ((s.ap p).expire src tag)).errorTo q 0).fault (.accessPoint (Fin.ofNat 192 p)) .fabricTimeout := by
  unfold State.lateAt at h
  rw [apTimeout, h, hq]
  rfl

theorem apTimeout_early (h : s.lateAt p src tag = false) : apTimeout p src tag s = s := by
  unfold State.lateAt at h
  rw [apTimeout, h]
  dsimp only
  split <;> rfl

/-! ## Engine ports (R82, R83) -/

theorem portGive_unpaired {d : BitVec 72} {q : BitVec 2} (hh : s.portHeld n = false)
    (hp : s.paired (s.portPod n) = false) (hl : (s.engine n).toEngine.length < 32)
    (hs : (s.pod (s.portPod n)).silenced = false) :
    portGive n d q s = s.setEngine n { s.engine n with toEngine := (s.engine n).toEngine ++
      [⟨d.extractLsb' 0 36, d.extractLsb' 36 36, q.getLsbD 0, q.getLsbD 1⟩] } := by
  have hroom : ¬ 32 ≤ (s.engine n).toEngine.length := by omega
  unfold portGive
  simp only [hh, hp, hs, State.setEngine_paired, hroom, Bool.false_and, Bool.or_false, Bool.false_eq_true, if_false]

theorem portTake_word {w : PortWord} {l : List PortWord} (hh : s.portHeld n = false)
    (hw : (s.engine n).fromEngine = w :: l) : portTake n true s =
      (s.setEngine n { s.engine n with fromEngine := l }).reply (toBytes 9 (w.w0.toNat + 2 ^ 36 * w.w1.toNat))
        (w.p0 || w.p1) := by
  rw [portTake, hw]
  dsimp only
  rw [hh]
  rfl

theorem portEvent_unpaired (hp : s.paired (s.portPod n) = false) : portEvent n s = s.raiseEvent n 0 := by
  rw [portEvent, hp]
  rfl

end Sys2Proof.Machine
end

section
open Sys2Proof Sys2Proof.Machine

/-- Settles O11: trees, block memories, access points and engine ports, by the lemmas of each. -/
theorem fabricUnitsComplete : Obligations.FabricUnitsComplete := by
  refine ⟨?request, ?requestLater, ?done, ?oldSource, ?writeback, ?superseded, fun s n b => exec_bramScrubCycle n b _,
    ?deliver, ?late, ?give, ?take, ?event, ?early⟩
  case request =>
    intro s n k sel h hs
    rw [exec_treeSwitch, Tree.request_idle h hs]
  case requestLater =>
    intro s n k sel x h
    rw [exec_treeSwitch, Tree.request_switching h]
  case done =>
    intro s n k x h hq
    refine ⟨_, exec_treeSwitchDone .., ?_⟩
    dsimp only
    rw [State.tree_setTree_same, Tree.done_unqueued h hq]
    exact ⟨rfl, rfl, rfl⟩
  case oldSource =>
    intro s n k x h hr
    rw [exec_treeOldSourceTimeout, treeTimeout_switching h hr, State.clockFault]
  case writeback =>
    intro s n b a w
    refine ⟨_, exec_bramWriteback .., ?_, fun k hk => ?_⟩
    · exact congrArg BramWord.data (State.bramWord_setBram_same _)
    · exact (State.bramWord_setBram_ne _ hk).trans (State.bramWord_bramEcc ..)
  case superseded =>
    intro s n b a w
    exact ⟨_, exec_bramWriteback .., State.bramEcc_fabric (k := bramKey n.val b.val a.val) .corrected⟩
  case deliver =>
    intro s p x l hx hs hd ho hu
    rw [exec_accessPointDeliver, apDeliver_unpaired p.isLt hx hs hd ho hu]
  case late =>
    intro s p src tag q a hq ha hl
    refine ⟨s.setAp p.val ((s.ap p.val).expire src tag), fun r hr => ?_, ?_⟩
    · rw [State.ap_setAp_same] at hr
      exact AccessPoint.expire_opened _ hr
    · rw [exec_fabricTimeout, apTimeout_late hq (State.lateAt_iff.2 ⟨a, ha, hl⟩), Fin.ofNat_val_eq_self]
  case give =>
    intro s e d q ok hh hp hl hs
    refine ⟨_, exec_enginePortWord .., ?_⟩
    rw [portWord]
    dsimp only
    rw [portGive_unpaired hh hp hl hs, State.engine_setEngine_same]
    exact ⟨rfl, rfl⟩
  case take =>
    intro s e w l hh hw
    refine ⟨_, exec_enginePortWord .., ?_⟩
    rw [portWord]
    dsimp only
    rw [portTake_word hh hw, State.reply_engine, State.engine_setEngine_same]
    exact ⟨rfl, rfl⟩
  case event =>
    intro s e hp
    rw [exec_evInRisingEdge, portEvent_unpaired hp]
  case early =>
    intro s p src tag h
    rw [exec_fabricTimeout, apTimeout_early]
    rw [Bool.eq_false_iff, Ne, State.lateAt_iff]
    rintro ⟨a, ha, hl⟩
    exact absurd (h a ha) (by omega)
end

section
/-! PROOFS. The configuration scrubbers (R111 to R116): laps, the essential and sprout scrubs, write-backs,
rewrites from the frame store, and priority visits. -/

namespace Sys2Proof.Machine

variable {s : State} {e : Bool} {x : Scrubber} {f : FrameRef} {l : List FrameRef}

/-! ## The commands -/

theorem exec_scrubFrameRead (c : Ecc) : exec (.scrubFrameRead e c) s = .next (scrubLive e c s) := by rfl

theorem exec_essentialScrubRead (c : Ecc) : exec (.essentialScrubRead e c) s = .next (scrubEssential e c s) := by rfl

theorem exec_sproutScrubRead (c : Ecc) : exec (.sproutScrubRead e c) s = .next (scrubSprout e c s) := by rfl

theorem exec_scrubWriteback : exec (.scrubWriteback e) s = .next (frameBack e s) := by rfl

theorem exec_frameStoreRewrite : exec (.frameStoreRewrite e) s = .next (frameRewrite e s) := by rfl

theorem exec_priorityGo (m : Master) (n : BitVec 7) : exec (.priorityGo m n) s = .next (priorityGo n.toNat s) := by rfl

/-! ## A scrubber's state, and what its update leaves -/

@[simp] theorem State.scrubber_setScrubber_same : (s.setScrubber e x).scrubber e = x := by
  cases e <;> rfl

theorem State.setScrubber_cfg_only : { s.setScrubber e x with cfg := s.cfg } = s := by rfl

@[simp] theorem State.setScrubber_frames : (s.setScrubber e x).cfg.frames = s.cfg.frames := by
  cases e <;> rfl

@[simp] theorem State.setScrubber_store : (s.setScrubber e x).cfg.store = s.cfg.store := by
  cases e <;> rfl

@[simp] theorem State.setScrubber_essential : (s.setScrubber e x).cfg.essential = s.cfg.essential := by
  cases e <;> rfl

/-! ## Writing a frame (R115) -/

theorem State.writeFrame_frames (n : Nat) (p : Bool) (i : Nat) (v : BitVec 3072) :
    (s.writeFrame n p i v).cfg.frames = Table.set noFrame s.cfg.frames (frameKey n p i) v := by
  simp [State.writeFrame]

theorem State.writeFrame_store (n : Nat) (p : Bool) (i : Nat) (v : BitVec 3072) :
    (s.writeFrame n p i v).cfg.store = s.cfg.store := by
  simp [State.writeFrame]

theorem State.writeFrame_essential (n : Nat) (p : Bool) (i : Nat) (v : BitVec 3072) :
    (s.writeFrame n p i v).cfg.essential = s.cfg.essential := by
  simp [State.writeFrame]

/-! ## The three scrubs (R111 to R113) -/

/-- Within a lap a frame read only changes the scrubber. -/
theorem scrubLive_within_lap (c : Ecc) (hs : s.scrubOn = true) (hl : ((s.scrubber e).advance e).2.1 = false) :
    scrubLive e c s = s.setScrubber e (((s.scrubber e).advance e).2.2.note
      { region := ((s.scrubber e).advance e).1.1
        plane := s.bit (F.CFG_REGION_live_plane ((s.scrubber e).advance e).1.1)
        index := ((s.scrubber e).advance e).1.2 } c) := by
  simp only [scrubLive, hs, hl, Bool.not_true, Bool.false_eq_true, if_false]

/-- A single essential frame is read whatever the place reached: the search wraps to the first key. -/
theorem scrubEssential_single {k : Nat} (c : Ecc) (hs : s.scrubOn = true) (hk : s.essentialKeys e = [k]) :
    scrubEssential e c s = s.setScrubber e ({ s.scrubber e with ess := k + 1 }.note (frameRef k) c) := by
  have hwrap : (([k].find? fun j => decide ((s.scrubber e).ess ≤ j)).or [k].head?) = some k := by
    by_cases h : (s.scrubber e).ess ≤ k <;> simp [h]
  simp only [scrubEssential, hk, hwrap, hs, if_true]

/-- At place 0 the first region of the die, being scrubbed, gives its frame 0. -/
theorem scrubSprout_first (c : Ecc) (hs : s.scrubOn = true) (hb : s.bit F.CFG_SCRUB_CTRL_sprout_scrub = true)
    (hm : s.mode ≠ Mode.dormant) (h0 : (s.scrubber e).sprout = 0) (hr : s.sproutScrubbed (48 * b2n e) = true) :
    scrubSprout e c s = (s.setScrubber e { s.scrubber e with sprout := 1 }).sproutResult e
      { region := 48 * b2n e, plane := !s.bit (F.CFG_REGION_live_plane (48 * b2n e)), index := 0 } c := by
  have hfirst : (List.range 48).map (fun j => j % 48) = 0 :: (List.range 47).map (· + 1) := by decide
  simp [scrubSprout, hs, hb, hm, h0, hfirst, hr]

/-! ## Write-backs and rewrites (R114, R115) -/

theorem frameBack_cons (h : (s.scrubber e).writeback = f :: l) : frameBack e s =
    ((s.setScrubber e { s.scrubber e with writeback := l }).satFld (F.CFG_SCRUB_CE_corrected (b2n e))
      (F.CFG_SCRUB_CE_overflow (b2n e))).fault Unit.cfg .cfgCe (.unit Unit.cfg) 0 f.address := by
  rw [frameBack, h]

/-- The head of a scrubber's rewrites is taken off it and written from the frame store. -/
def State.rewriteHead (s : State) (e : Bool) (f : FrameRef) (l : List FrameRef) : State :=
  (s.setScrubber e { s.scrubber e with rewrite := l }).writeFrame f.region f.plane f.index
    (Table.get noFrame s.cfg.store (f.region * 5120 + f.index))

theorem State.rewriteHead_frames : (s.rewriteHead e f l).cfg.frames = Table.set noFrame s.cfg.frames
    (frameKey f.region f.plane f.index) (Table.get noFrame s.cfg.store (f.region * 5120 + f.index)) := by
  rw [State.rewriteHead, State.writeFrame_frames, State.setScrubber_frames]

theorem State.rewriteHead_store : (s.rewriteHead e f l).cfg.store = s.cfg.store := by
  rw [State.rewriteHead, State.writeFrame_store, State.setScrubber_store]

theorem State.rewriteHead_essential : (s.rewriteHead e f l).cfg.essential = s.cfg.essential := by
  rw [State.rewriteHead, State.writeFrame_essential, State.setScrubber_essential]

/-- A rewrite is counted and reported, raised if the frame is essential (R114). -/
theorem frameRewrite_cons (h : (s.scrubber e).rewrite = f :: l) (hf : f.stale = false) :
    frameRewrite e s = ((s.rewriteHead e f l).satFld (F.CFG_SCRUB_UE_uncorrectable (b2n e))
      (F.CFG_SCRUB_UE_overflow (b2n e))).fault Unit.cfg .cfgUe (.unit Unit.cfg) 0 f.address
      (s.isEssential f.region f.plane f.index) := by
  have hess : ∀ a b, ((s.rewriteHead e f l).satFld a b).isEssential f.region f.plane f.index =
      s.isEssential f.region f.plane f.index := fun a b => by
    rw [State.isEssential, State.isEssential, State.satFld_cfg, State.rewriteHead_essential]
  rw [frameRewrite, h]
  dsimp only
  rw [hf, if_neg Bool.false_ne_true, State.setScrubber_store]
  exact congrArg _ (hess ..)

/-! ## Priority visits (R116) -/

theorem priorityGo_region {n : Nat} (h : n < 96) :
    priorityGo n s = ((s.setFld F.CFG_SCRUB_CTRL_priority_region n).priorityVisit n).ack := by
  rw [priorityGo, if_pos h]

theorem State.priorityVisit_priority (n : Nat) : ((s.priorityVisit n).scrubber (decide (48 ≤ n))).priority =
    (s.scrubber (decide (48 ≤ n))).priority.filter (fun r => r.1 != n) ++ [(n, 0)] := by
  simp [State.priorityVisit]

end Sys2Proof.Machine
end

section
open Sys2Proof Sys2Proof.Machine

/-- Settles O13: each command of the scrubbers by its own lemma; a rewrite changes the one frame it names. -/
theorem scrubbersKeepThePlanes : Obligations.ScrubbersKeepThePlanes := by
  refine ⟨?live, ?essential, ?sprout, ?writeback, ?rewrite, ?priority, ?visit⟩
  case live =>
    intro s e x hs hl
    refine ⟨_, exec_scrubFrameRead .., ?_⟩
    rw [scrubLive_within_lap x hs hl]
    exact ⟨State.setScrubber_cfg_only, State.setScrubber_frames, State.scrubber_setScrubber_same⟩
  case essential =>
    intro s e k hs hk
    rw [exec_essentialScrubRead, scrubEssential_single _ hs hk, Scrubber.note]
  case sprout =>
    intro s e hs hb hm h0 hr
    rw [exec_sproutScrubRead, scrubSprout_first _ hs hb hm h0 hr, State.sproutResult]
  case writeback =>
    intro s e f l h
    rw [exec_scrubWriteback, frameBack_cons h]
  case rewrite =>
    intro s e f l h hf
    refine ⟨_, exec_frameStoreRewrite, ?_⟩
    dsimp only
    rw [frameRewrite_cons h hf, State.fault_cfg, State.satFld_cfg, State.rewriteHead_frames, State.rewriteHead_store]
    exact ⟨Table.get_set_same .., fun k hk => Table.get_set_ne _ _ _ hk, rfl⟩
  case priority =>
    intro s m n h
    rw [exec_priorityGo, priorityGo_region h]
  case visit =>
    rintro s n e x rfl rfl
    exact State.priorityVisit_priority n
end

section
/-! PROOFS. An engine's run control (R136, R137, R141 to R150) and its control page (R151, R226, R227): the
engine that governs a pair, what a change of its state leaves, and stops, starts, faults and interrupts. -/

namespace Sys2Proof.Machine

variable {s t : State} {n k st : Nat} {m : Master} {e : Fin 1024}

/-! ## The commands of run control -/

theorem exec_interruptEntry : exec (.interruptEntry e) s = .next (interrupt e.val s) := by rfl
theorem exec_lockTimeout : exec (.lockTimeout e) s = .next (lockExpire e.val s) := by rfl
theorem exec_watchdogExpiry : exec (.watchdogExpiry e) s = .next (watchdogExpire e.val s) := by rfl
theorem exec_engStop : exec (.engStop m e) s = .next (engStopGo e.val s) := by rfl
theorem exec_engineStopBoundary : exec (.engineStopBoundary e) s = .next (stopBoundary e.val s) := by rfl
theorem exec_engClearFault : exec (.engClearFault m e) s = .next (clearFault e.val s) := by rfl
theorem exec_engApply : exec (.engApply m e) s = .next (engApplyGo e.val s) := by rfl

/-! ## The engine that governs (R136, R137) -/

theorem State.gov_narrow (h : s.isWide n = false) : s.gov n = n := by simp [State.gov, h]

theorem State.oddOfPair_narrow (h : s.isWide n = false) : s.oddOfPair n = false := by simp [State.oddOfPair, h]

theorem pairBase_even (h : n % 2 = 0) : pairBase n = n := by simp [pairBase, h]

/-- An engine that is not the odd member of a pair governs itself. -/
theorem State.gov_of_not_odd (h : s.oddOfPair n = false) : s.gov n = n := by
  cases hw : s.isWide n with
  | false => exact State.gov_narrow hw
  | true =>
    have he : n % 2 = 0 := by
      have : n % 2 ≠ 1 := by simpa [State.oddOfPair, hw] using h
      omega
    rw [State.gov, hw, if_pos rfl, pairBase_even he]

/-- Whether a pair is fused is read from one register. -/
theorem State.gov_congr (h : t.reg (R.ENG_CTRL (pairBase n)) = s.reg (R.ENG_CTRL (pairBase n))) :
    t.gov n = s.gov n := by
  have hw : t.isWide n = s.isWide n := congrArg (fun w => (F.ENG_CTRL_wide (pairBase n)).get w == 1) h
  rw [State.gov, State.gov, hw]

/-! ## A change of state (Table 4.5) -/

/-- The only registers `showState` writes are those of ENG_STATE. -/
theorem State.showState_reg (hk : ∀ j, k ≠ R.ENG_STATE j) : (s.showState n st).reg k = s.reg k := by
  rw [State.showState]
  split
  · exact (State.reg_setFld_ne _ _ (hk _)).trans (State.reg_setFld_ne _ _ (hk _))
  · exact State.reg_setFld_ne _ _ (hk _)

theorem State.showState_eng : (s.showState n st).eng = s.eng := by
  rw [State.showState]
  split <;> simp only [State.setFld_eng]

theorem State.showState_engState (hg : s.gov n = n) (h : st < 16) : (s.showState n st).engState n = st := by
  have hsame : (s.setFld (F.ENG_STATE_state n) st).engState n = st := by
    rw [State.engState, State.fld_setFld_same _ _ _ (by simp [F.ENG_STATE_state])]
    exact Nat.mod_eq_of_lt h
  have hne : R.ENG_STATE n ≠ R.ENG_STATE (n + 1) := by simp only [R.ENG_STATE]; omega
  rw [State.showState, hg]
  split
  · exact (State.fld_setFld_ne _ _ _ _ hne).trans hsame
  · exact hsame

/-- What the watchdog does at a change of state: it counts, stops, or stays as it is. -/
theorem State.enter_cases (s : State) (n st : Nat) :
    s.enter n st = (s.showState (s.gov n) st).wdStart (s.gov n) ∨
    s.enter n st = (s.showState (s.gov n) st).wdStop (s.gov n) ∨ s.enter n st = s.showState (s.gov n) st := by
  rw [State.enter]
  split
  · exact .inl rfl
  · split
    · split
      · exact .inr (.inl rfl)
      · exact .inr (.inr rfl)
    · exact .inr (.inl rfl)

/-- The watchdog's count is no matter of the registers. -/
theorem State.wdStart_ctrl : (s.wdStart n).ctrl = s.ctrl := by
  rw [State.wdStart]
  split <;> rfl

theorem State.enter_ctrl : (s.enter n st).ctrl = (s.showState (s.gov n) st).ctrl := by
  obtain h | h | h := s.enter_cases n st <;> rw [h]
  · exact State.wdStart_ctrl
  · rfl

theorem State.enter_fld {q : Field} (hq : ∀ j, q.off ≠ R.ENG_STATE j) : (s.enter n st).fld q = s.fld q := by
  rw [State.fld, State.fld, State.reg_eq_of_ctrl State.enter_ctrl, State.showState_reg hq]

theorem State.enter_engState (hg : s.gov n = n) (h : st < 16) : (s.enter n st).engState n = st := by
  rw [State.engState, State.fld, State.reg_eq_of_ctrl State.enter_ctrl, hg]
  exact State.showState_engState hg h

/-- Of the engine that changes state only the watchdog's count moves. -/
theorem State.enter_engine (s : State) (hg : s.gov n = n) (st : Nat) : ∃ left due,
    (s.enter n st).engine n = { s.engine n with wdLeft := left, wdAt := due } := by
  have hshow : (s.showState n st).engine n = s.engine n := congrArg (Table.get noEngine · n) State.showState_eng
  obtain h | h | h := s.enter_cases n st <;> rw [h, hg]
  · rw [State.wdStart]
    dsimp only
    split
    · exact ⟨_, _, by rw [State.engine_setEngine_same, hshow]⟩
    · exact ⟨_, _, hshow⟩
  · exact ⟨_, _, by rw [State.wdStop, State.engine_setEngine_same, hshow]⟩
  · exact ⟨_, _, hshow⟩

theorem State.enter_engine_ne (hg : s.gov n = n) (hk : k ≠ n) : (s.enter n st).engine k = s.engine k := by
  have hshow : (s.showState n st).engine k = s.engine k := congrArg (Table.get noEngine · k) State.showState_eng
  obtain h | h | h := s.enter_cases n st <;> rw [h, hg]
  · rw [State.wdStart]
    split
    · rw [State.engine_setEngine_ne _ _ hk, hshow]
    · exact hshow
  · rw [State.wdStop, State.engine_setEngine_ne _ _ hk, hshow]
  · exact hshow

/-- Other fields of the engines' pages read as before. -/
theorem State.showPc_fld {q : Field} (hg : s.gov n = n) (hq : q.off ≠ R.ENG_STATUS n) :
    (s.showPc n).fld q = s.fld q := by
  rw [State.showPc, hg]
  exact State.fld_setFld_ne _ _ _ _ hq

theorem State.showPc_pc (hg : s.gov n = n) :
    (s.showPc n).fld (F.ENG_STATUS_pc n) = (s.engine n).pc.toNat := by
  rw [State.showPc, hg, State.fld_setFld_same _ _ _ (by simp [F.ENG_STATUS_pc])]
  exact Nat.mod_eq_of_lt (s.engine n).pc.isLt

theorem State.showPc_engine : (s.showPc n).engine k = s.engine k := by rw [State.showPc, State.setFld_engine]

theorem State.showPc_gov (hg : s.gov n = n) : (s.showPc n).gov n = n := by
  refine (State.gov_congr ?_).trans hg
  refine State.reg_setFld_ne _ _ ?_
  simp only [F.ENG_STATUS_pc, R.ENG_CTRL, R.ENG_STATUS]
  omega

theorem State.setEngine_gov (x : Engine) : (s.setEngine k x).gov n = s.gov n :=
  State.gov_congr (State.setEngine_reg ..)

/-! ## Stops and starts (R141, R142) -/

/-- An engine that ends at a boundary shows its PC and the state it enters. -/
theorem State.shown_enter (hg : s.gov n = n) (h : st < 16) :
    ((s.showPc n).enter n st).engState n = st ∧
      ((s.showPc n).enter n st).fld (F.ENG_STATUS_pc n) = (s.engine n).pc.toNat ∧
      (∃ left due, ((s.showPc n).enter n st).engine n = { s.engine n with wdLeft := left, wdAt := due }) ∧
      ∀ k, k ≠ n → ((s.showPc n).enter n st).engine k = s.engine k := by
  have hp := State.showPc_gov hg
  have hoff : ∀ j, (F.ENG_STATUS_pc n).off ≠ R.ENG_STATE j := by
    intro j
    simp only [F.ENG_STATUS_pc, R.ENG_STATUS, R.ENG_STATE]
    omega
  refine ⟨State.enter_engState hp h, (State.enter_fld hoff).trans (State.showPc_pc hg), ?_, fun k hk => ?_⟩
  · obtain ⟨left, due, he⟩ := (s.showPc n).enter_engine hp st
    exact ⟨left, due, by rw [he, State.showPc_engine]⟩
  · rw [State.enter_engine_ne hp hk, State.showPc_engine]

/-- Engine `n` with the requests and the bracket that a stop ends taken off it. -/
def State.settled (s : State) (n : Nat) : State :=
  (s.setWait n .none).setEngine n { s.engine n with stopReq := none, startReq := none, lock := 0 }

theorem State.stopNow_eq (hg : s.gov n = n) (h : (s.engine n).startReq = none) :
    s.stopNow n = ((s.settled n).showPc n).enter n EngState.stopped := by
  rw [State.stopNow, hg]
  dsimp only
  rw [h]
  rfl

theorem State.settled_gov (hg : s.gov n = n) : (s.settled n).gov n = n :=
  (State.setEngine_gov _).trans ((State.gov_congr (State.setWait_reg ..)).trans hg)

theorem State.settled_engine :
    (s.settled n).engine n = { s.engine n with stopReq := none, startReq := none, lock := 0 } :=
  State.engine_setEngine_same ..

theorem State.settled_engine_ne (hk : k ≠ n) : (s.settled n).engine k = s.engine k :=
  (State.engine_setEngine_ne _ _ hk).trans (State.setWait_engine ..)

/-- What a stop without a start of the same tick leaves (R142). -/
theorem State.stopNow_spec (hg : s.gov n = n) (h : (s.engine n).startReq = none) :
    (s.stopNow n).engState n = EngState.stopped ∧
      (s.stopNow n).fld (F.ENG_STATUS_pc n) = (s.engine n).pc.toNat ∧
      (∃ left due, (s.stopNow n).engine n = { s.engine n with
        stopReq := none, startReq := none, lock := 0, wdLeft := left, wdAt := due }) ∧
      ∀ k, k ≠ n → (s.stopNow n).engine k = s.engine k := by
  obtain ⟨hst, hpc, ⟨left, due, he⟩, hother⟩ :=
    State.shown_enter (st := EngState.stopped) (State.settled_gov hg) (by decide)
  rw [State.stopNow_eq hg h]
  refine ⟨hst, ?_, ⟨left, due, ?_⟩, fun k hk => (hother k hk).trans (State.settled_engine_ne hk)⟩
  · rw [hpc, State.settled_engine]
  · rw [he, State.settled_engine]

/-- An engine that is started runs from the PC given. -/
theorem State.startAt_spec (hg : s.gov n = n) (pc : BitVec 13) :
    (s.startAt n pc).engState n = EngState.running ∧ ((s.startAt n pc).engine n).pc = pc := by
  rw [State.startAt, hg]
  dsimp only
  have hg' := (State.setEngine_gov (s := s) (k := n) (n := n) { s.engine n with
    pc := pc, past := false, stopReq := none, startReq := none, lock := 0, far := none }).trans hg
  obtain ⟨left, due, he⟩ := State.enter_engine _ hg' EngState.running
  exact ⟨State.enter_engState hg' (by decide), by rw [he, State.engine_setEngine_same]⟩

/-! ## Faults (R146, R150) and interrupts (R144) -/

theorem State.enter_mon : (s.enter n st).mon = s.mon := by
  have hshow : (s.showState (s.gov n) st).mon = s.mon := by
    rw [State.showState]
    split <;> simp only [State.setFld_mon]
  obtain h | h | h := s.enter_cases n st <;> rw [h]
  · rw [State.wdStart]
    split
    · exact hshow
    · exact hshow
  · exact hshow
  · exact hshow

theorem State.showPc_mon : (s.showPc n).mon = s.mon := by rw [State.showPc, State.setFld_mon]

/-- Engine `n` with what it waits for and the bracket that a fault ends taken off it. -/
def State.stalled (s : State) (n : Nat) : State :=
  (s.setWait n .none).setEngine n { s.engine n with lock := 0, stopReq := none, far := none }

/-- Outside a step of the monitor a fault is a stop in FAULTED. -/
theorem State.faulted_eq (hs : s.isStepping n = false) :
    s.faulted n = ((s.stalled n).showPc n).enter n EngState.faulted := by
  have hs' : (((s.stalled n).showPc n).enter n EngState.faulted).isStepping n = false := by
    rw [State.isStepping, State.enter_mon, State.showPc_mon]
    exact hs
  exact if_neg (Bool.eq_false_iff.1 hs')

theorem State.stalled_gov (hg : s.gov n = n) : (s.stalled n).gov n = n :=
  (State.setEngine_gov _).trans ((State.gov_congr (State.setWait_reg ..)).trans hg)

theorem State.stalled_engine :
    (s.stalled n).engine n = { s.engine n with lock := 0, stopReq := none, far := none } :=
  State.engine_setEngine_same ..

/-- What a fault leaves: the state, the data memory, and what other registers of the page hold. -/
theorem State.faulted_spec (hg : s.gov n = n) (hs : s.isStepping n = false) :
    (s.faulted n).engState n = EngState.faulted ∧ ((s.faulted n).engine n).dmem = (s.engine n).dmem ∧
      ∀ q : Field, q.off ≠ R.ENG_STATUS n → (∀ j, q.off ≠ R.ENG_STATE j) → (s.faulted n).fld q = s.fld q := by
  obtain ⟨hst, -, ⟨left, due, he⟩, -⟩ :=
    State.shown_enter (st := EngState.faulted) (State.stalled_gov hg) (by decide)
  rw [State.faulted_eq hs]
  refine ⟨hst, by rw [he, State.stalled_engine], fun q hq hq' => ?_⟩
  rw [State.enter_fld hq', State.showPc_fld (State.stalled_gov hg) hq, State.stalled, State.setEngine_fld,
    State.setWait_fld]

/-- The cause and the PC that an engine's page shows for a fault. -/
def State.excShown (s : State) (n cause : Nat) : State :=
  (s.setFld (F.ENG_EXC_cause n) cause).setFld (F.ENG_EXC_pc n) (s.engine n).pc.toNat

theorem State.excShown_cause {c : Nat} (h : c < 256) : (s.excShown n c).fld (F.ENG_EXC_cause n) = c := by
  rw [State.excShown, State.fld_setFld_disjoint _ _ _ _ (by simp [F.ENG_EXC_cause])
    (.inr (.inr (by simp [F.ENG_EXC_cause, F.ENG_EXC_pc]))), State.fld_setFld_same _ _ _ (by simp [F.ENG_EXC_cause])]
  exact Nat.mod_eq_of_lt h

theorem State.excShown_pc (c : Nat) : (s.excShown n c).fld (F.ENG_EXC_pc n) = (s.engine n).pc.toNat := by
  rw [State.excShown, State.fld_setFld_same _ _ _ (by simp [F.ENG_EXC_pc])]
  exact Nat.mod_eq_of_lt (s.engine n).pc.isLt

theorem State.excShown_engine (c : Nat) : (s.excShown n c).engine k = s.engine k := by
  rw [State.excShown, State.setFld_engine, State.setFld_engine]

theorem State.excShown_gov (c : Nat) : (s.excShown n c).gov n = s.gov n := by
  have h : R.ENG_CTRL (pairBase n) ≠ R.ENG_EXC n := by
    simp only [R.ENG_CTRL, R.ENG_EXC]
    omega
  exact State.gov_congr ((State.reg_setFld_ne _ _ h).trans (State.reg_setFld_ne _ _ h))

/-- The watchdog's own record. -/
def State.wdRecord (s : State) (n : Nat) : State :=
  s.fault (engUnit n) .watchdog (.unit (engUnit n)) 0 (n * 8192 + (s.engine n).pc.toNat)

theorem State.wdRecord_reg (h : 0x1000000 ≤ k) : (s.wdRecord n).reg k = s.reg k := by
  refine State.fault_reg_ne _ _ _ _ _ _ _ ?_
  simp only [F.ERR_LOST_lost, R.ERR_LOST]
  omega

/-- An expired watchdog with wd_action 0 reports WATCHDOG and faults the engine (R150). -/
theorem watchdogExpire_faults {x : Nat} (hw : s.isWide n = false) (ha : (s.engine n).wdAt = some x) (hx : x ≤ s.now)
    (hc : s.bit (F.ENG_CTRL_wd_action n) = false) :
    watchdogExpire n s = ((s.wdRecord n).excShown n Exc.watchdog).faulted n := by
  have hc' : (s.wdRecord n).bit (F.ENG_CTRL_wd_action n) = false := by
    rw [State.bit, State.fld, State.wdRecord_reg (by simp only [F.ENG_CTRL_wd_action, R.ENG_CTRL]; omega)]
    exact hc
  have hno : ¬ (s.now < x ∨ s.oddOfPair n = true) := by simp [State.oddOfPair_narrow hw, hx]
  rw [watchdogExpire, ha]
  dsimp only
  rw [if_neg hno]
  exact if_neg (Bool.eq_false_iff.1 hc')

theorem stIe_stEntered (w : Word) : stIe (stEntered w) = false := by simp [stIe, stEntered]

theorem stInHandler_stEntered (w : Word) : stInHandler (stEntered w) = true := by simp [stInHandler, stEntered]

/-- An interrupt at a boundary of a running engine is the entry to its handler (R144). -/
theorem interrupt_running (hg : s.gov n = n) (hst : s.engState n = EngState.running) (hp : s.pendingEvents n ≠ 0)
    (hie : stIe (s.engine n).st = true) (hh : stInHandler (s.engine n).st = false) (hl : (s.engine n).lock = 0)
    (hf : (s.engine n).far = none) (hs : s.isStepping n = false) :
    interrupt n s = (s.setWait n .none).vectorTo n (s.engine n).pc (s.fld (F.ENG_VEC_int_vec n)) := by
  have hne : EngState.running ≠ EngState.waiting := by decide
  rw [interrupt, hg]
  dsimp only
  rw [if_pos ⟨.inl hst, hp, hie, hh, hl, hf, hs⟩, hst, if_neg hne, State.setWait_fld]

/-! ## Control by the page (R141, R146) -/

theorem State.requestStop_live (hg : s.gov n = n)
    (h : s.engState n = EngState.running ∨ s.engState n = EngState.waiting) :
    s.requestStop n = s.setEngine n { s.engine n with stopReq := some s.now } := by
  rw [State.requestStop, hg]
  exact if_pos h

theorem stopBoundary_running {x : Nat} (hg : s.gov n = n) (hr : (s.engine n).stopReq = some x)
    (hl : (s.engine n).lock = 0) (hf : (s.engine n).far = none) (hst : s.engState n = EngState.running) :
    stopBoundary n s = s.stopNow n := by
  rw [stopBoundary, hg]
  exact if_pos (by simp [hr, hl, hf, hst])

theorem clearFault_faulted (hw : s.isWide n = false) (h : s.engState n = EngState.faulted) :
    clearFault n s = (s.enter n EngState.stopped).ack := by
  rw [clearFault, State.oddOfPair_narrow hw, if_neg Bool.false_ne_true, if_pos h]

/-- ENG_RUN as a start writes it. -/
def State.runShown (s : State) (n : Nat) (w : Word) : State := s.setReg (R.ENG_RUN n) (w &&& 0x80001FFF#32)

theorem State.runShown_bundleNames (w : Word) : (s.runShown n w).bundleNames n = s.bundleNames n := by
  have h : ∀ q : Field, q.off < 0x1000000 → (s.runShown n w).fld q = s.fld q := fun q hq =>
    State.fld_setReg_ne _ _ (by simp only [R.ENG_RUN]; omega)
  rw [State.bundleNames, State.bundleNames, h _ (by decide), h _ (by decide)]
  rfl

theorem State.runShown_engState (w : Word) : (s.runShown n w).engState n = s.engState n :=
  State.fld_setReg_ne _ _ (by simp only [F.ENG_STATE_state, R.ENG_STATE, R.ENG_RUN]; omega)

theorem State.runShown_gov (w : Word) : (s.runShown n w).gov n = s.gov n :=
  State.gov_congr (State.reg_setReg_ne _ _ (by simp only [R.ENG_CTRL, R.ENG_RUN]; omega))

/-- An applied ENG_RUN with run starts a stopped engine (R141). -/
theorem engApplyGo_stopped (hw : s.isWide n = false) (hb : s.bundleNames n = false)
    (hst : s.engState n = EngState.stopped) (hr : (s.shadow (R.ENG_RUN n)).getLsbD 31 = true) :
    engApplyGo n s = ((s.runShown n (s.shadow (R.ENG_RUN n))).startAt n
      ((s.shadow (R.ENG_RUN n)).setWidth 13)).ack := by
  have hb' := State.runShown_bundleNames (s := s) (n := n) (s.shadow (R.ENG_RUN n))
  have hst' := State.runShown_engState (s := s) (n := n) (s.shadow (R.ENG_RUN n))
  rw [State.runShown] at hb' hst'
  rw [engApplyGo, State.applyRun, State.oddOfPair_narrow hw, if_neg Bool.false_ne_true]
  dsimp only
  rw [if_pos hr, State.applyStart]
  rw [hb', hb, if_neg Bool.false_ne_true, hst', if_pos hst, State.runShown]

end Sys2Proof.Machine
end

section
open Sys2Proof Sys2Proof.Machine

/-- Settles O15: each command of run control by its own lemma, for an engine that governs itself. -/
theorem engineRunControlFollowsTable : Obligations.EngineRunControlFollowsTable := by
  refine ⟨?interrupt, ?lock, ?watchdog, ?stop, ?boundary, ?clear, ?start⟩
  case interrupt =>
    intro s e hw hst hp hie hh hl hf hs
    have hgo := interrupt_running (State.gov_narrow hw) hst hp hie hh hl hf hs
    refine ⟨_, exec_interruptEntry, ?_⟩
    rw [hgo, State.vectorTo, State.setWait_engine]
    beta_reduce
    rw [State.engine_setEngine_same]
    exact ⟨rfl, rfl, stIe_stEntered _, stInHandler_stEntered _, rfl, rfl, rfl,
      fun k hk => (State.engine_setEngine_ne _ _ hk).trans (State.setWait_engine ..), rfl, rfl, rfl⟩
  case lock =>
    intro s e hw hl hst
    have hg := State.gov_narrow hw
    rw [exec_lockTimeout, lockExpire, hg, if_pos ⟨hl, hst⟩]
    rfl
  case watchdog =>
    intro s e x hw ha hx hc hs
    have hg : ((s.wdRecord e.val).excShown e.val Exc.watchdog).gov e.val = e.val :=
      (State.excShown_gov _).trans ((State.gov_congr (State.wdRecord_reg (by simp only [R.ENG_CTRL]; omega))).trans
        (State.gov_narrow hw))
    have hs' : ((s.wdRecord e.val).excShown e.val Exc.watchdog).isStepping e.val = false := by
      rw [State.isStepping, State.excShown, State.setFld_mon, State.setFld_mon, State.wdRecord, State.fault_mon]
      exact hs
    have heng : ((s.wdRecord e.val).engine e.val) = s.engine e.val := State.fault_engine ..
    obtain ⟨hst, hmem, hother⟩ := State.faulted_spec hg hs'
    refine ⟨_, exec_watchdogExpiry, ?_⟩
    rw [watchdogExpire_faults hw ha hx hc]
    refine ⟨hst, ?_, ?_, ?_⟩
    · rw [hother _ ?_ ?_]
      · exact State.excShown_cause (by decide)
      all_goals simp only [F.ENG_EXC_cause, R.ENG_EXC, R.ENG_STATUS, R.ENG_STATE]; omega
    · rw [hother _ ?_ ?_]
      · rw [State.excShown_pc, heng]
      all_goals simp only [F.ENG_EXC_pc, R.ENG_EXC, R.ENG_STATUS, R.ENG_STATE]; omega
    · rw [hmem, State.excShown_engine, heng]
  case stop =>
    intro s m e hw hst
    refine ⟨_, exec_engStop, ?_⟩
    rw [engStopGo, State.requestStop_live (State.gov_narrow hw) hst]
    beta_reduce
    rw [State.ack_engine, State.engine_setEngine_same]
    exact ⟨rfl, rfl, rfl, rfl, fun k hk => State.engine_setEngine_ne _ _ hk⟩
  case boundary =>
    intro s e x hw hr hl hf hsr hst
    have hg := State.gov_narrow hw
    obtain ⟨hstop, hpc, ⟨left, due, he⟩, -⟩ := State.stopNow_spec hg hsr
    refine ⟨_, exec_engineStopBoundary, ?_⟩
    rw [stopBoundary_running hg hr hl hf hst]
    beta_reduce
    rw [he]
    exact ⟨hstop, hpc, rfl, rfl, rfl⟩
  case clear =>
    intro s m e hw hst
    have hg := State.gov_narrow hw
    obtain ⟨left, due, he⟩ := s.enter_engine hg EngState.stopped
    refine ⟨_, exec_engClearFault, ?_⟩
    rw [clearFault_faulted hw hst]
    beta_reduce
    rw [State.ack_engine, he]
    exact ⟨State.enter_engState hg (by decide), rfl, rfl⟩
  case start =>
    intro s m e hw hb hst hr
    obtain ⟨hrun, hpc⟩ := State.startAt_spec ((State.runShown_gov (s.shadow (R.ENG_RUN e.val))).trans
      (State.gov_narrow hw)) ((s.shadow (R.ENG_RUN e.val)).setWidth 13)
    refine ⟨_, exec_engApply, ?_⟩
    rw [engApplyGo_stopped hw hb hst hr]
    exact ⟨hrun, hpc, rfl⟩

end

section
/-! PROOFS. An engine's control page (R136, R150 to R152, R226, R227), its scrubber (R134), and its move to
the spare slot of its cluster (R153 to R155). -/

namespace Sys2Proof.Machine

variable {s t : State} {n c : Nat} {m : Master} {e : Fin 1024}

/-! ## The commands -/

theorem exec_engPowerOff : exec (.engPowerOff m e) s = .next (powerOff e.val s) := by rfl
theorem exec_engPowerOn : exec (.engPowerOn m e) s = .next (powerOn e.val s) := by rfl
theorem exec_enginePowerUpDone : exec (.enginePowerUpDone e) s = .next (powerUpDone e.val s) := by rfl
theorem exec_engWideWrite (w : Bool) : exec (.engWideWrite m e w) s = .next (wideWrite e.val w s) := by rfl
theorem exec_engWdKick : exec (.engWdKick m e) s = .next (wdKick e.val s) := by rfl
theorem exec_engEvtClear (f : BitVec 16) : exec (.engEvtClear m e f) s = .next (evtClear e.val f s) := by rfl
theorem exec_engMsgCfgWrite (k : BitVec 6) (b : BitVec 14) :
    exec (.engMsgCfgWrite m e k b) s = .next (msgCfg e.val k.toNat b.toNat s) := by rfl
theorem exec_engMsgFree (k : BitVec 6) : exec (.engMsgFree m e k) s = .next (msgFree e.val k.toNat s) := by rfl
theorem exec_engineScrubCycle (hi lo : Ecc) :
    exec (.engineScrubCycle e hi lo) s = .next (engScrub e.val hi lo s) := by rfl
theorem exec_engineMoveCopyDone (ok : Bool) :
    exec (.engineMoveCopyDone e ok) s = .next (moveCopyDone e.val ok s) := by rfl
theorem exec_engineMoveStop : exec (.engineMoveStop e) s = .next (moveStop e.val s) := by rfl
theorem exec_contextCopyDone : exec (.contextCopyDone e) s = .next (contextCopied e.val s) := by rfl

/-! ## Power (R141, R151, R152) -/

theorem powerOff_stopped (hw : s.isWide n = false) (h : s.engState n = EngState.stopped) :
    powerOff n s = (s.powerDown n).ack := by
  rw [powerOff, State.oddOfPair_narrow hw, if_neg Bool.false_ne_true, if_pos h, hw]
  rfl

theorem powerOff_running (hw : s.isWide n = false) (h : s.engState n = EngState.running) :
    powerOff n s = s.engRefuse n Code.notPermitted := by
  have hne : EngState.running ≠ EngState.stopped := by decide
  rw [powerOff, State.oddOfPair_narrow hw, if_neg Bool.false_ne_true, h, if_neg hne]

theorem powerOn_off (hw : s.isWide n = false) (h : s.engState n = EngState.off) :
    powerOn n s = (s.setEngine n { s.engine n with powering := true }).ack := by
  rw [powerOn, State.oddOfPair_narrow hw, if_neg Bool.false_ne_true, if_pos h]

theorem powerUpDone_powering (hg : s.gov n = n) (h : (s.engine n).powering = true) :
    (powerUpDone n s).engState n = EngState.stopped ∧ ((powerUpDone n s).engine n).powering = false := by
  have hg' := (State.setEngine_gov (s := s) (k := n) (n := n) { s.engine n with powering := false }).trans hg
  obtain ⟨left, due, he⟩ := State.enter_engine _ hg' EngState.stopped
  rw [powerUpDone, if_pos h]
  exact ⟨State.enter_engState hg' (by decide), by rw [he, State.engine_setEngine_same]⟩

/-! ## Fusing (R136), the watchdog's kick (R150) -/

theorem wideWrite_even (w : Bool) (hn : n % 2 = 0) (h0 : s.engState n = EngState.stopped)
    (h1 : s.engState (n + 1) = EngState.off) : wideWrite n w s = (s.setBit (F.ENG_CTRL_wide n) w).ack := by
  have hboth : (stoppedOrOff EngState.stopped && stoppedOrOff EngState.off) = true := by decide
  rw [wideWrite, if_neg (by omega), h0, h1, if_pos hboth]

theorem State.isWide_setBit (w : Bool) (hn : n % 2 = 0) : (s.setBit (F.ENG_CTRL_wide n) w).isWide n = w := by
  rw [State.isWide, pairBase_even hn]
  exact State.bit_setBit_same _ _ _ (by simp [F.ENG_CTRL_wide]) rfl

/-- With the watchdog not counting a reload sets only what it has left. -/
theorem State.wdReload_idle (h : (s.engine n).wdAt = none) :
    s.wdReload n = s.setEngine n { s.engine n with wdLeft := s.fld (F.ENG_WD_period_us n) } := by
  rw [State.wdReload]
  dsimp only
  rw [h]
  rfl

/-! ## The message area (R226, R227) -/

/-- ENG_MSG_CFG as a write that is accepted leaves it. -/
def State.msgArea (s : State) (n slots base : Nat) : State :=
  (s.setFld (F.ENG_MSG_CFG_slots n) slots).setFld (F.ENG_MSG_CFG_base n) base

theorem msgCfg_stopped {slots base : Nat} (h : s.engState n = EngState.stopped) (hs : slots ≤ 32)
    (hb : base + 65 * slots ≤ 16384) :
    msgCfg n slots base s = ((s.msgArea n slots base).setReg (R.ENG_MSG_STATE n) 0).ack := by
  have hst : (!stoppedOrOff EngState.stopped) = false := by decide
  rw [msgCfg, h, hst, if_neg Bool.false_ne_true, if_neg (by omega)]
  rfl

theorem State.msgArea_slots {slots base : Nat} (h : slots < 64) :
    (s.msgArea n slots base).fld (F.ENG_MSG_CFG_slots n) = slots := by
  rw [State.msgArea, State.fld_setFld_disjoint _ _ _ _ (by simp [F.ENG_MSG_CFG_slots])
    (.inr (.inr (by simp [F.ENG_MSG_CFG_slots, F.ENG_MSG_CFG_base]))),
    State.fld_setFld_same _ _ _ (by simp [F.ENG_MSG_CFG_slots])]
  exact Nat.mod_eq_of_lt h

theorem State.msgArea_base {slots base : Nat} (h : base < 16384) :
    (s.msgArea n slots base).fld (F.ENG_MSG_CFG_base n) = base := by
  rw [State.msgArea, State.fld_setFld_same _ _ _ (by simp [F.ENG_MSG_CFG_base])]
  exact Nat.mod_eq_of_lt h

theorem State.msgArea_reg {slots base k : Nat} (h : k ≠ R.ENG_MSG_CFG n) :
    (s.msgArea n slots base).reg k = s.reg k :=
  (State.reg_setFld_ne _ _ h).trans (State.reg_setFld_ne _ _ h)

theorem msgCfg_ne_msgState : R.ENG_MSG_CFG n ≠ R.ENG_MSG_STATE n := by
  simp only [R.ENG_MSG_CFG, R.ENG_MSG_STATE]
  omega

theorem msgFree_few (h : s.msgUsed n < c) : msgFree n c s = s.engRefuse n Code.invalidArgument := by
  rw [msgFree, if_pos h]

theorem msgFree_enough (h : c ≤ s.msgUsed n) : msgFree n c s = (s.incFld (F.ENG_MSG_STATE_tail n) c).ack := by
  rw [msgFree, if_neg (by omega)]

/-- Slots freed are no longer in use: head and tail are counts modulo 2¹⁶. -/
theorem State.msgUsed_incFld (h : c ≤ s.msgUsed n) :
    (s.incFld (F.ENG_MSG_STATE_tail n) c).msgUsed n = s.msgUsed n - c := by
  have hhead : (s.incFld (F.ENG_MSG_STATE_tail n) c).fld (F.ENG_MSG_STATE_head n) =
      s.fld (F.ENG_MSG_STATE_head n) :=
    State.fld_setFld_disjoint _ _ _ _ (by simp [F.ENG_MSG_STATE_head])
      (.inr (.inr (by simp [F.ENG_MSG_STATE_head, F.ENG_MSG_STATE_tail])))
  have htail : (s.incFld (F.ENG_MSG_STATE_tail n) c).fld (F.ENG_MSG_STATE_tail n) =
      (s.fld (F.ENG_MSG_STATE_tail n) + c) % 65536 :=
    State.fld_setFld_same _ _ _ (by simp [F.ENG_MSG_STATE_tail])
  have hlt : s.fld (F.ENG_MSG_STATE_tail n) < 65536 := Nat.mod_lt _ (Nat.two_pow_pos 16)
  simp only [State.msgUsed, hhead, htail] at h ⊢
  omega

/-! ## The scrubber (R134) -/

theorem engScrub_clean : engScrub n .clean .clean s = s.lapStep (lapEngine n) 20480 := by rfl

/-! ## The move to the spare slot (R153 to R155) -/

theorem moveCopyDone_bad (hx : (s.spare (n / 8)).sub.map (·.val) = some n) (hs : (s.spare (n / 8)).staged = false) :
    moveCopyDone n false s = s.abandonMove (n / 8) n := by
  rw [moveCopyDone]
  dsimp only
  rw [if_neg (by simp [hx, hs])]
  rfl

/-- The transaction with which the husk moves an engine. -/
def State.moveStaging (s : State) (n : Nat) : Nat × State :=
  s.huskStage [(engUnit n, .engineMove (Fin.ofNat 128 (n / 8)))]

theorem moveCopyDone_good (hx : (s.spare (n / 8)).sub.map (·.val) = some n) (hs : (s.spare (n / 8)).staged = false)
    (hr : s.runStaged n = false) (hh : s.engState n ≠ EngState.halted) :
    moveCopyDone n true s = if (s.moveStaging n).1 = 0 then (s.moveStaging n).2
      else (s.moveStaging n).2.setSpare (n / 8) { s.spare (n / 8) with staged := true } := by
  have hno : ¬ ((s.runStaged n || s.engState n == EngState.halted) = true) := by simp [hr, hh]
  rw [moveCopyDone]
  dsimp only
  rw [if_neg (by simp [hx, hs]), Bool.not_true, if_neg Bool.false_ne_true, if_neg hno]
  rfl

theorem moveStop_running (hg : s.gov n = n) (hx : (s.spare (n / 8)).sub.map (·.val) = some n)
    (ha : (s.spare (n / 8)).applied = true) (hl : (s.engine n).lock = 0) (hst : s.engState n = EngState.running) :
    moveStop n s = (s.setEngine n { s.engine n with under := EngState.running }).enter n EngState.moving := by
  have hne : EngState.running ≠ EngState.moving := by decide
  rw [moveStop, hg]
  dsimp only
  rw [hst, if_pos ⟨hx, ha, hl, hne⟩]

/-- Engine `n` in the spare slot of its cluster, which is taken. -/
def State.mapped (s : State) (n : Nat) : State :=
  ((s.setBit (F.ENG_MAP_moved n) true).setFld (F.ENG_MAP_slot n) 8).setSpare (n / 8) {}

theorem State.mapped_engine (k : Nat) : (s.mapped n).engine k = s.engine k := by
  rw [State.mapped, State.setSpare_engine, State.setFld_engine, State.setBit_engine]

theorem State.mapped_gov : (s.mapped n).gov n = s.gov n := by
  have h : R.ENG_CTRL (pairBase n) ≠ R.ENG_MAP n := by
    simp only [R.ENG_CTRL, R.ENG_MAP]
    omega
  exact State.gov_congr (((State.setSpare_reg ..).trans (State.reg_setFld_ne _ _ h)).trans (State.reg_setBit_ne _ _ h))

/-- With no halt requested the engine resumes in the state beneath, and the substitution closes. -/
theorem contextCopied_moving (hg : s.gov n = n) (hx : (s.spare (n / 8)).sub.map (·.val) = some n)
    (hst : s.engState n = EngState.moving) (hh : (s.engine n).haltReq = false) :
    contextCopied n s =
      ((s.mapped n).enter n (s.engine n).under).closeSub (.engine (Fin.ofNat 1024 n)) := by
  obtain ⟨left, due, he⟩ := (s.mapped n).enter_engine (State.mapped_gov.trans hg) (s.engine n).under
  have hh' : ¬ (((s.mapped n).enter n (s.engine n).under).engine n).haltReq = true := by
    rw [he, State.mapped_engine]
    exact Bool.eq_false_iff.1 hh
  have heng := State.mapped_engine (s := s) (n := n) n
  rw [State.mapped] at heng hh'
  rw [contextCopied, hg]
  dsimp only
  rw [if_neg (by simp [hx, hst]), heng, if_neg hh', State.mapped]

end Sys2Proof.Machine
end

section
open Sys2Proof Sys2Proof.Machine

/-- Settles O16: each write of the control page by the case that its statement names. -/
theorem engineControlPageCompletes : Obligations.EngineControlPageCompletes := by
  refine ⟨?off, ?refused, ?on, ?up, ?wide, ?kick, fun s m e f => exec_engEvtClear f, ?area, ?few, ?free,
    fun s e => (exec_engineScrubCycle ..).trans (congrArg _ engScrub_clean)⟩
  case off =>
    intro s m e hw hst
    rw [exec_engPowerOff, powerOff_stopped hw hst]
  case refused =>
    intro s m e hw hst
    rw [exec_engPowerOff, powerOff_running hw hst]
    rfl
  case on =>
    intro s m e hw hst
    rw [exec_engPowerOn, powerOn_off hw hst]
  case up =>
    intro s e hw hp
    exact ⟨_, exec_enginePowerUpDone, powerUpDone_powering (State.gov_narrow hw) hp⟩
  case wide =>
    intro s m e w hn h0 h1
    refine ⟨_, exec_engWideWrite w, ?_⟩
    rw [wideWrite_even w hn h0 h1]
    refine ⟨(State.ack_bit ..).trans (State.isWide_setBit w hn), rfl, ?_, fun o ho => ?_⟩
    · rw [State.ack_eng, State.setBit_eng]
    · rw [State.ack_reg, State.reg_setBit_ne _ _ (List.ne_of_not_mem_cons ho)]
  case kick =>
    intro s m e hw ha
    rw [exec_engWdKick, wdKick, State.gov_narrow hw, State.wdReload_idle ha]
  case area =>
    intro s m e k b hst hk hb
    refine ⟨_, exec_engMsgCfgWrite k b, ?_⟩
    rw [msgCfg_stopped hst hk hb]
    refine ⟨?_, ?_, (State.ack_reg ..).trans (State.reg_setReg_same ..), fun o ho => ?_⟩
    · rw [State.ack_fld, State.fld_setReg_ne (k := F.ENG_MSG_CFG_slots e.val) _ _ msgCfg_ne_msgState,
        State.msgArea_slots k.isLt]
    · rw [State.ack_fld, State.fld_setReg_ne (k := F.ENG_MSG_CFG_base e.val) _ _ msgCfg_ne_msgState,
        State.msgArea_base b.isLt]
    · obtain ⟨hcfg, hstate⟩ := not_or.1 (mt List.mem_cons.2 ho)
      rw [State.ack_reg, State.reg_setReg_ne _ _ (List.ne_of_not_mem_cons hstate), State.msgArea_reg hcfg]
  case few =>
    intro s m e k h
    rw [exec_engMsgFree, msgFree_few h]
    rfl
  case free =>
    intro s m e k h
    refine ⟨_, exec_engMsgFree k, ?_⟩
    rw [msgFree_enough h]
    refine ⟨?_, rfl, fun o ho => ?_⟩
    · rw [← State.msgUsed_incFld h, State.msgUsed, State.msgUsed, State.ack_fld, State.ack_fld]
    · rw [State.ack_reg, State.incFld, State.reg_setFld_ne _ _ (List.ne_of_not_mem_cons ho)]

/-- Settles O18: the copy done with a bad and with a good spare, the stop at the boundary, the context copied. -/
theorem engineMovesToItsSpare : Obligations.EngineMovesToItsSpare := by
  refine ⟨?bad, ?good, ?stop, ?copied⟩
  case bad =>
    intro s e hx hs
    rw [exec_engineMoveCopyDone, moveCopyDone_bad (by rw [hx]; rfl) hs]
  case good =>
    intro s e hx hs hr hh
    exact ⟨_, rfl, exec_engineMoveCopyDone true |>.trans (congrArg _ (moveCopyDone_good (by rw [hx]; rfl) hs hr hh))⟩
  case stop =>
    intro s e hw hx ha hl hst
    have hg := State.gov_narrow hw
    have hg' := (State.setEngine_gov (s := s) (k := e.val) (n := e.val) { s.engine e.val with
      under := EngState.running }).trans hg
    obtain ⟨left, due, he⟩ := State.enter_engine _ hg' EngState.moving
    refine ⟨_, exec_engineMoveStop, ?_⟩
    rw [moveStop_running hg (by rw [hx]; rfl) ha hl hst]
    beta_reduce
    rw [he, State.engine_setEngine_same]
    exact ⟨State.enter_engState hg' (by decide), rfl, rfl⟩
  case copied =>
    intro s e hw hx hst hh
    rw [exec_contextCopyDone, contextCopied_moving (State.gov_narrow hw) (by rw [hx]; rfl) hst hh,
      Fin.ofNat_val_eq_self, State.mapped]

end

section
/-! PROOFS. Instructions on an engine that can issue (R144, R149, R150, R157 to R159, R168, R179): which effects
are calm, how an instruction ends or raises its exception, and the system and status instructions. -/

namespace Sys2Proof.Machine

variable {s u : State} {n k i a : Nat} {e : Fin 1024} {f : KR} {ki : KInstr} {sem : State → Issued} {w : Word}

/-! ## Calm effects -/

theorem Calm.putG (h : Calm s u) (v : GReg) : Calm s (u.putG n i v) := h.setEngine rfl rfl rfl rfl

theorem Calm.setSt (h : Calm s u) (w : Word) : Calm s (u.setSt n w) := h.setEngine rfl rfl rfl rfl

theorem Calm.stick (h : Calm s u) (b : Bool) : Calm s (u.stick n i b) := by
  cases b with
  | false => exact h
  | true => exact h.setSt _

theorem Calm.wdReload (h : Calm s u) : Calm s (u.wdReload n) := h.setEngine rfl rfl rfl rfl

/-! ## How an instruction ends -/

/-- A branch out of no active level ends none. -/
theorem Engine.leaveLoops_none {g : Engine} (t : Nat) : ∀ {j : Nat}, g.innerBelow j = none → g.leaveLoops t j = g
  | 0, _ => rfl
  | j + 1, h => by
    by_cases h0 : g.lcAt j = 0
    · rw [Engine.leaveLoops, if_pos h0]
      exact Engine.leaveLoops_none t (by rwa [Engine.innerBelow, if_neg (not_not_intro h0)] at h)
    · rw [Engine.innerBelow, if_pos h0] at h
      cases h

/-- The innermost active level is read from the loop counters alone. -/
theorem Engine.innerBelow_congr {g g' : Engine} (h : g'.lc = g.lc) (j : Nat) : g'.innerBelow j = g.innerBelow j := by
  induction j with
  | zero => rfl
  | succ j ih =>
    have hj : g'.lcAt j = g.lcAt j := congrArg (Table.get no16 · j) h
    rw [Engine.innerBelow, Engine.innerBelow, ih, hj]

/-- A transfer with no active level moves PC and nothing else (R183). -/
theorem Engine.advance_jump {g : Engine} (h : g.inner = none) (pc : BitVec 13) (t : Nat) (ends : Bool) :
    g.advance pc (.jump t ends) = { g with pc := BitVec.ofNat 13 t, past := decide (8192 ≤ t) } := by
  cases ends with
  | false => rfl
  | true =>
    have hl := Engine.leaveLoops_none t h
    simp only [Engine.advance, if_true, hl]

/-- An exception of an instruction that reads no data word leaves no record of a read (R146). -/
theorem runInstr_raise {c : Nat} (hs : sem s = .error c) : s.runInstr s n [] sem = s.raise n c := by
  rw [State.runInstr, hs]
  exact congrArg (State.raise · n c) (ite_self s)

/-- Outside a bracket an instruction without an exception moves PC as its transfer says. -/
theorem runInstr_advance {flow : Flow} (hs : sem s = .ok { state := u, flow := flow })
    (hf : flow ≠ .stop ∧ flow ≠ .wait ∧ flow ≠ .stall) (hl : (s.engine n).lock = 0)
    (hb : ((u.engine n).advance (u.engine n).pc flow).breaks = (u.engine n).breaks) (hstep : u.mon.stepping = none) :
    s.runInstr s n [] sem = u.setEngine n ((u.engine n).advance (u.engine n).pc flow) := by
  rw [State.runInstr, hs]
  dsimp only
  rw [if_neg hf.2.2, hl, List.map_nil, State.readRecords, completeAt_advance hf (by simp) (by simp) hb hstep]

theorem Flow.jump_transfers (t : Nat) (ends : Bool) :
    Flow.jump t ends ≠ .stop ∧ Flow.jump t ends ≠ .wait ∧ Flow.jump t ends ≠ .stall :=
  ⟨Flow.noConfusion, Flow.noConfusion, Flow.noConfusion⟩

theorem issue_ready_raise {c : Nat} (hr : Ready s n) (hs : sem s = .error c) :
    s.issue n ki {} [] sem = s.raise n c := by
  rw [issue_ready hr rfl, runInstr_raise hs]

/-- An instruction that transfers, on an engine with no active level: its effect, and PC at the target. -/
theorem issue_jumped {t : BitVec 13} {ends : Bool} (hr : Ready s n)
    (hs : sem s = .ok { state := u, flow := .jump t.toNat ends }) (hc : Calm s u) :
    Jumped n u t (s.issue n ki {} [] sem) := by
  obtain ⟨-, -, -, -, hlock, -, -, -, -, -, hstep⟩ := hr.1
  obtain ⟨hmon, heng⟩ := hc
  obtain ⟨-, -, hlc, -⟩ := heng n
  have ht : ¬ 8192 ≤ t.toNat := Nat.not_le.2 t.isLt
  have hadv := Engine.advance_jump ((Engine.innerBelow_congr hlc 4).trans hr.2) (u.engine n).pc t.toNat ends
  rw [issue_ready hr rfl, runInstr_advance hs (Flow.jump_transfers ..) hlock (by rw [hadv]) (hmon.trans hstep), hadv,
    decide_eq_false ht, BitVec.ofNat_toNat, BitVec.setWidth_eq]
  exact ⟨State.engine_setEngine_same .., setEngine_same_but ..⟩

/-- An instruction that ends in STOPPED stops the engine at this boundary (R168). -/
theorem issue_stopped (hr : Ready s n) (hs : sem s = .ok { state := s, flow := .stop })
    (hreq : (s.engine n).startReq = none) : s.issue n ki {} [] sem = s.stopNow n := by
  obtain ⟨hodd, -, -, -, -, -, -, -, -, -, hstep⟩ := hr.1
  have hstop := State.stopNow_eq (State.gov_of_not_odd hodd) hreq
  have hmon : (s.stopNow n).mon.stepping = none := by
    rw [hstop, State.enter_mon, State.showPc_mon]
    exact hstep
  rw [issue_ready hr rfl, State.runInstr, hs]
  exact stepCount_idle hmon

/-! ## The commands of the system and status instructions -/

theorem exec_nop : exec (.nop e f {}) s = .next (s.issue e.val (.r .nop f) {} [] (semNop e.val f)) := by rfl
theorem exec_kend : exec (.kend e f {}) s = .next (s.issue e.val (.r .kend f) {} [] (semEnd e.val f)) := by rfl
theorem exec_lock : exec (.lock e f {}) s = .next (s.issue e.val (.r .lock f) {} [] (semLock e.val f)) := by rfl
theorem exec_kick : exec (.kick e f {}) s = .next (s.issue e.val (.r .kick f) {} [] (semKick e.val f)) := by rfl
theorem exec_rti : exec (.rti e f {}) s = .next (s.issue e.val (.r .rti f) {} [] (semRti e.val f)) := by rfl
theorem exec_stm : exec (.stm e f {}) s = .next (s.issue e.val (.r .stm f) {} [] (semStm e.val f)) := by rfl
theorem exec_rdst : exec (.rdst e f {}) s = .next (s.issue e.val (.r .rdst f) {} [] (semRdst e.val f)) := by rfl
theorem exec_wrst : exec (.wrst e f {}) s = .next (s.issue e.val (.r .wrst f) {} [] (semWrst e.val f)) := by rfl

/-! ## Their effects (R149, R159, R167, R179) -/

theorem legal_true {b : Bool} (h : b = true) : legal b = .ok () := by rw [h]; rfl

theorem legal_false {b : Bool} (h : b = false) : legal b = .error Exc.illegal := by rw [h]; rfl

theorem semLock_bracket (h1 : 1 ≤ f.imm.toNat) (h8 : f.imm.toNat ≤ 8) : semLock n f s =
    .ok { state := s.setEngine n { s.engine n with
      lock := f.imm.toNat, lockAt := (s.engine n).pc, lockN := f.imm.toNat } } := by
  rw [semLock, legal_true (by simp [h1, h8])]
  rfl

theorem semLock_illegal (h : f.imm.toNat = 0 ∨ 8 < f.imm.toNat) : semLock n f s = .error Exc.illegal := by
  rw [semLock, legal_false (by simp; omega)]
  rfl

/-- A write of ST with a legal rounding mode (R167). -/
theorem State.writeSt_legal (h : stRnd (w &&& stMask) < 2) :
    s.writeSt n w = .ok { state := s.setSt n (w &&& stMask) } := by
  rw [State.writeSt, legal_true (by simp [h])]
  rfl

theorem semRdst_word (h : f.d.toNat < s.gLimit n) :
    semRdst n f s = .ok { state := s.putW n f.d.toNat ((s.st n).setWidth 36) } := by
  have hw : BitVec.ofNat 36 ((s.st n).toNat % 2 ^ 32) = (s.st n).setWidth 36 := by
    rw [Nat.mod_eq_of_lt (s.st n).isLt, BitVec.ofNat_toNat]
  rw [semRdst, State.gOk_ok h, ← hw]
  rfl

theorem semWrst_clean (ha : f.a.toNat < s.gLimit n) (hc : (s.getG n f.a.toNat).clean = true)
    (hr : stRnd ((s.getG n f.a.toNat).w.setWidth 32 &&& stMask) < 2) : semWrst n f s =
      .ok { state := s.setSt n ((s.getG n f.a.toNat).w.setWidth 32 &&& stMask) } := by
  rw [← State.writeSt_legal hr, semWrst, State.gOk_ok ha, State.use32_clean hc]
  simp only [bind, Except.bind, BitVec.ofNat_toNat, BitVec.setWidth_eq]

end Sys2Proof.Machine
end

section
open Sys2Proof Sys2Proof.Machine

/-- Settles O19: each system and status instruction by its effect, on a ready engine. -/
theorem kotinSystemInstructionsRun : Obligations.KotinSystemInstructionsRun := by
  refine ⟨?nop, ?kend, ?lock, ?lockIllegal, ?kick, ?rti, ?stm, ?rdst, ?wrst⟩
  case nop => exact fun s e f hr => ⟨_, exec_nop, issue_ready_ran hr rfl (Calm.refl s)⟩
  case kend =>
    intro s e f hr hreq
    obtain ⟨hst, hpc, ⟨left, due, he⟩, hother⟩ := State.stopNow_spec (State.gov_of_not_odd hr.1.1) hreq
    refine ⟨_, exec_kend, ?_⟩
    rw [issue_stopped hr rfl hreq]
    beta_reduce
    rw [he]
    exact ⟨hst, rfl, hpc, rfl, rfl, hother⟩
  case lock =>
    intro s e f hr h1 h8
    exact ⟨_, exec_lock, issue_ready_ran hr (semLock_bracket h1 h8) ((Calm.refl s).setEngine rfl rfl rfl rfl)⟩
  case lockIllegal =>
    intro s e f hr h
    refine ⟨s, ⟨fun _ _ => rfl, rfl⟩, rfl, ?_⟩
    rw [exec_lock, issue_ready_raise hr (semLock_illegal h)]
    rfl
  case kick => exact fun s e f hr => ⟨_, exec_kick, issue_ready_ran hr rfl (Calm.refl s).wdReload⟩
  case rti =>
    intro s e f hr
    exact ⟨_, exec_rti, issue_jumped hr rfl ((Calm.refl s).setSt _)⟩
  case stm =>
    intro s e f hr h
    exact ⟨_, exec_stm, issue_ready_ran hr (State.writeSt_legal h) ((Calm.refl s).setSt _)⟩
  case rdst =>
    intro s e f hr hd
    exact ⟨_, exec_rdst, issue_ready_ran hr (semRdst_word hd) ((Calm.refl s).putW _ _)⟩
  case wrst =>
    intro s e f hr ha hc hrnd
    exact ⟨_, exec_wrst, issue_ready_ran hr (semWrst_clean ha hc hrnd) ((Calm.refl s).setSt _)⟩

end

section
/-! PROOFS. Moves, loads and stores (R134, R158 to R163, R177, R178): the data words an instruction reads and
writes, the halves of a word, and what each instruction does. -/

namespace Sys2Proof.Machine

variable {s u : State} {n k p a : Nat} {e : Fin 1024} {f : KR} {fi : KI} {ft : KT} {ki : KInstr}
  {sem : State → Issued} {reads : List DataRead} {x y : GReg} {r : AReg} {w : Word}

/-! ## Calm effects -/

theorem Calm.setPtr (h : Calm s u) (v : Nat) : Calm s (u.setPtr n p v) := h.setEngine rfl rfl rfl rfl

/-- Stepping a pointer by its mode is calm (R163). -/
theorem Calm.postModify (h : Calm s u) (mode : Nat) : Calm s (u.postModify n p mode) := by
  unfold State.postModify
  dsimp only
  split
  · exact h
  · exact h.setPtr _
  · exact h.setPtr _
  · exact h.setPtr _

theorem Calm.setDword (h : Calm s u) (v : GReg) : Calm s (u.setDword n a v) := h.setEngine rfl rfl rfl rfl

/-- Of the registers WRA writes only a loop counter is consulted at an instruction's end. -/
theorem Calm.aregWrite (h : Calm s u) (hr : ∀ j, r ≠ .lc j) (w : Word) : Calm s (u.aregWrite n w r) := by
  cases r with
  | p i => exact h.setPtr _
  | n i => exact h.setEngine rfl rfl rfl rfl
  | l i => exact h.setEngine rfl rfl rfl rfl
  | lc j => exact absurd rfl (hr j)
  | ls j => exact h.setEngine rfl rfl rfl rfl
  | le j => exact h.setEngine rfl rfl rfl rfl

/-! ## Data words that an instruction names (R134, R162) -/

/-- Every read is of a word that an operand spec names, and no code of it fails. -/
def CleanReads (s : State) (n : Nat) (reads : List DataRead) : Prop :=
  ∀ r ∈ reads, ∃ x, r = s.specRead n x .clean .clean

/-- Reads without an error leave no record (R134). -/
theorem CleanReads.readRecords (h : CleanReads s n reads) (u : State) : u.readRecords reads = u := by
  induction reads generalizing u with
  | nil => rfl
  | cons r l ih =>
    obtain ⟨x, rfl⟩ := h r (by simp)
    exact ih (fun r' h' => h r' (List.mem_cons_of_mem _ h')) u

/-- An instruction that reads and writes data words without an error, and whose effect is calm. -/
theorem issue_ready_data {ws : List (Nat × Nat)} (hr : Ready s n) (hreads : CleanReads s n reads)
    (hs : sem s = .ok { state := u, writes := ws }) (hc : Calm s u)
    (hw : ∀ w ∈ ws, ∃ p, w.1 = ptrEng n p) : Ran n u (s.issue n ki {} reads sem) := by
  refine issue_ran hr rfl hs rfl (hreads.readRecords u) hc (fun r h => ?_) (fun w h => ?_)
  · obtain ⟨x, rfl⟩ := hreads r h
    exact ptrEng_cases ..
  · obtain ⟨p, hp⟩ := hw w h
    rw [hp]
    exact ptrEng_cases ..

/-- Without an error a data word is delivered as it is held. -/
theorem State.dataAt_clean (z : BitVec 6) : s.dataAt (s.specRead n z .clean .clean) = s.opWord n z := by
  have he : (Ecc.clean == Ecc.uncorrectable) = false := by decide
  simp only [State.dataAt, State.specRead, State.opWord, he, Bool.or_false]

theorem KT.spec_toNat (ft : KT) : ft.spec.toNat = 4 * ft.p.toNat + ft.pm.toNat := by
  rw [KT.spec, BitVec.toNat_append, ← Nat.shiftLeft_add_eq_or_of_lt ft.pm.isLt, Nat.shiftLeft_eq]
  omega

theorem specPtr_spec (ft : KT) : specPtr ft.spec = ft.p.toNat := by
  rw [specPtr, KT.spec_toNat]
  omega

theorem specMode_spec (ft : KT) : specMode ft.spec = ft.pm.toNat := by
  rw [specMode, KT.spec_toNat]
  omega

theorem State.specOk_ok {z : BitVec 6} (h : specPtr z < s.ptrLimit n) : s.specOk n z = .ok () :=
  legal_true (by simp [h])

/-! ## Halves of a word (R159, R177) -/

theorem ofHalves_h_l (x : GReg) : ofHalves x.h x.l = x.w := by
  rw [ofHalves, GReg.h, GReg.l, BitVec.ofInt_toInt, BitVec.ofInt_toInt]
  exact (BitVec.extractLsb'_append_extractLsb'_eq_extractLsb' (by rfl)).trans BitVec.extractLsb'_eq_self

theorem ofHalves_l_h (x : GReg) :
    ofHalves x.l x.h = (x.w.extractLsb' 0 18 ++ x.w.extractLsb' 18 18 : BitVec 36) := by
  rw [ofHalves, GReg.h, GReg.l, BitVec.ofInt_toInt, BitVec.ofInt_toInt]

/-- With both lanes named a move copies the whole register. -/
theorem GReg.withHalves_both (x y : GReg) : x.withHalves y true true = y := by
  simp only [GReg.withHalves, if_true, ofHalves_h_l]

theorem GReg.l_ge (x : GReg) : -131072 ≤ x.l := BitVec.le_toInt _

/-- The negation of a half leaves 18 bits only for the most negative one. -/
theorem clampTo_neg {v : Int} (h : -131072 ≤ v) (h' : v ≤ 131071) :
    clampTo 18 (-v) = (if v = -131072 then 131071 else -v, v == -131072) := by
  have hlo : ¬ (-v < -((2 ^ (18 - 1) : Nat) : Int)) := by norm_num; omega
  rw [clampTo, if_neg hlo]
  by_cases hv : v = -131072
  · subst hv
    rfl
  · have hhi : ¬ (((2 ^ (18 - 1) : Nat) : Int) - 1 < -v) := by norm_num; omega
    rw [if_neg hhi, if_neg hv, beq_false_of_ne hv]

/-! ## The commands -/

theorem exec_ldi : exec (.ldi e fi {}) s = .next (s.issue e.val (.i fi) {} [] (semLdi e.val fi)) := by rfl
theorem exec_mov : exec (.mov e f {}) s = .next (s.issue e.val (.r .mov f) {} [] (semMov e.val f)) := by rfl
theorem exec_swp : exec (.swp e f {}) s = .next (s.issue e.val (.r .swp f) {} [] (semSwp e.val f)) := by rfl
theorem exec_cnj : exec (.cnj e f {}) s = .next (s.issue e.val (.r .cnj f) {} [] (semCnj e.val f)) := by rfl
theorem exec_rda : exec (.rda e f {}) s = .next (s.issue e.val (.r .rda f) {} [] (semRda e.val f)) := by rfl
theorem exec_wra : exec (.wra e f {}) s = .next (s.issue e.val (.r .wra f) {} [] (semWra e.val f)) := by rfl
theorem exec_ld : exec (.ld e ft {}) s =
    .next (s.issue e.val (.t .ld ft) {} (s.ldReads e.val ft {}) (semLd e.val ft {})) := by rfl
theorem exec_kst : exec (.kst e ft {}) s = .next (s.issue e.val (.t .kst ft) {} [] (semSt e.val ft)) := by rfl

/-! ## Their effects (R159, R162, R177, R178) -/

theorem semLdi_word (h : fi.d.toNat < s.gLimit n) :
    semLdi n fi s = .ok { state := s.putG n fi.d.toNat { w := fi.imm } } := by
  rw [semLdi, State.gOk_ok h]
  rfl

theorem semMov_lanes (hd : f.d.toNat < s.gLimit n) (ha : f.a.toNat < s.gLimit n) :
    semMov n f s = .ok { state := s.putG n f.d.toNat ((s.getG n f.d.toNat).withHalves (s.getG n f.a.toNat)
      (f.mod.toNat % 4 != 2) (f.mod.toNat % 4 != 1)) } := by
  rw [semMov, State.gOk_ok hd, State.gOk_ok ha]
  rfl

theorem semSwp_halves (hd : f.d.toNat < s.gLimit n) (ha : f.a.toNat < s.gLimit n) :
    semSwp n f s = .ok { state := s.putG n f.d.toNat {
      w := ofHalves (s.getG n f.a.toNat).l (s.getG n f.a.toNat).h
      tagH := (s.getG n f.a.toNat).tagL, tagL := (s.getG n f.a.toNat).tagH } } := by
  rw [semSwp, State.gOk_ok hd, State.gOk_ok ha]
  rfl

theorem semCnj_clamped (hd : f.d.toNat < s.gLimit n) (ha : f.a.toNat < s.gLimit n) (hx : s.getG n f.a.toNat = x)
    (ht : x.tagL = false) : semCnj n f s = .ok { state := (s.putG n f.d.toNat
      { w := ofHalves x.h (if x.l = -131072 then 131071 else -x.l), tagH := x.tagH }).stick n 4 (x.l == -131072) } := by
  have hclamp := clampTo_neg x.l_ge (Int.le_of_lt_add_one (BitVec.toInt_lt (x := x.w.extractLsb' 0 18)))
  rw [semCnj, State.gOk_ok hd, State.gOk_ok ha, hx]
  dsimp only
  rw [ht, hclamp]
  rfl

theorem semRda_value (hd : f.d.toNat < s.gLimit n) (hr : s.areg n f.a = .ok r) :
    semRda n f s = .ok { state := s.put32 n f.d.toNat (s.aregValue n r).toNat } := by
  rw [semRda, State.gOk_ok hd, hr]
  rfl

theorem semWra_imm (hr : s.areg n f.d = .ok r) (hm : f.mod.getLsbD 2 = true) (ho : s.aregOk n f.imm r = true) :
    semWra n f s = .ok { state := s.aregWrite n f.imm r } := by
  rw [semWra, hr, hm]
  simp only [bind, Except.bind, if_true, legal_true ho]
  rfl

theorem semWra_reg (hr : s.areg n f.d = .ok r) (hm : f.mod.getLsbD 2 = false) (ha : f.a.toNat < s.gLimit n)
    (hc : (s.getG n f.a.toNat).clean = true) (hw : (s.getG n f.a.toNat).w.setWidth 32 = w)
    (ho : s.aregOk n w r = true) : semWra n f s = .ok { state := s.aregWrite n w r } := by
  rw [semWra, hr, hm, State.gOk_ok ha, State.use32_clean hc, hw]
  simp only [bind, Except.bind, Bool.false_eq_true, if_false, BitVec.ofNat_toNat, BitVec.setWidth_eq, legal_true ho]
  rfl

theorem semLd_word (hd : ft.d.toNat < s.gLimit n) (hp : ft.p.toNat < s.ptrLimit n) :
    semLd n ft {} s = .ok {
      state := (s.postModify n ft.p.toNat ft.pm.toNat).putG n ft.d.toNat
        (s.dword (ptrEng n ft.p.toNat) (s.ptr n ft.p.toNat)) } := by
  have hspec : specPtr ft.spec < s.ptrLimit n := by rwa [specPtr_spec]
  have hword := State.dataAt_clean (s := s) (n := n) ft.spec
  rw [State.opWord, specPtr_spec] at hword
  rw [semLd, State.gOk_ok hd, State.specOk_ok hspec, hword, State.specStep, specPtr_spec, specMode_spec]
  rfl

theorem semSt_word (hd : ft.d.toNat < s.gLimit n) (hp : ft.p.toNat < s.ptrLimit n) :
    semSt n ft s = .ok {
      state := (s.setDword (ptrEng n ft.p.toNat) (s.ptr n ft.p.toNat) (s.getG n ft.d.toNat)).postModify n
        ft.p.toNat ft.pm.toNat
      writes := [(ptrEng n ft.p.toNat, s.ptr n ft.p.toNat)] } := by
  have hspec : specPtr ft.spec < s.ptrLimit n := by rwa [specPtr_spec]
  rw [semSt, State.gOk_ok hd, State.specOk_ok hspec, State.specRead, specPtr_spec]
  simp only [State.specStep, specPtr_spec, specMode_spec]
  rfl

end Sys2Proof.Machine
end

section
open Sys2Proof Sys2Proof.Machine

/-- Settles O20: each move, load and store by its effect; a write of a loop counter ends as any instruction
does that changes one. -/
theorem kotinMovesAndMemoryInstructionsRun : Obligations.KotinMovesAndMemoryInstructionsRun := by
  refine ⟨?ldi, ?mov, GReg.withHalves_both, ?swp, ?cnj, ?rda, ?wraImm, ?wraReg, ?wraCount, ?ld, ?st⟩
  case ldi =>
    intro s e f hr hd
    exact ⟨_, exec_ldi, issue_ready_ran hr (semLdi_word hd) ((Calm.refl s).putG _)⟩
  case mov =>
    intro s e f hr hd ha
    exact ⟨_, exec_mov, issue_ready_ran hr (semMov_lanes hd ha) ((Calm.refl s).putG _)⟩
  case swp =>
    intro s e f hr hd ha
    rw [← ofHalves_l_h]
    exact ⟨_, exec_swp, issue_ready_ran hr (semSwp_halves hd ha) ((Calm.refl s).putG _)⟩
  case cnj =>
    intro s e f hr hd ha ht
    exact ⟨_, exec_cnj, issue_ready_ran hr (semCnj_clamped hd ha rfl ht) (((Calm.refl s).putG _).stick _)⟩
  case rda =>
    intro s e f r hr hd ha
    exact ⟨_, exec_rda, issue_ready_ran hr (semRda_value hd ha) ((Calm.refl s).put32 _)⟩
  case wraImm =>
    intro s e f r hr ha hm ho hlc
    exact ⟨_, exec_wra, issue_ready_ran hr (semWra_imm ha hm ho) ((Calm.refl s).aregWrite hlc _)⟩
  case wraReg =>
    intro s e f r hr hareg hm ha hc ho hlc
    exact ⟨_, exec_wra, issue_ready_ran hr (semWra_reg hareg hm ha hc rfl ho) ((Calm.refl s).aregWrite hlc _)⟩
  case wraCount =>
    intro s e f j hr ha hm
    obtain ⟨-, -, -, -, hlock, -⟩ := hr.1
    rw [exec_wra, issue_ready hr rfl, State.runInstr, semWra_imm ha hm rfl, hlock]
    rfl
  case ld =>
    intro s e f hr hd hp
    exact ⟨_, exec_ld, issue_ready_data hr (fun r h => ⟨_, List.mem_singleton.1 h⟩) (semLd_word hd hp)
      (((Calm.refl s).postModify _).putG _) (fun w h => absurd h List.not_mem_nil)⟩
  case st =>
    intro s e f hr hd hp
    exact ⟨_, exec_kst, issue_ready_data hr (fun r h => absurd h List.not_mem_nil) (semSt_word hd hp)
      (((Calm.refl s).setDword _).postModify _) (fun w h => ⟨_, congrArg Prod.fst (List.mem_singleton.1 h)⟩)⟩

end

section
/-! PROOFS. The memory multiplies, the filter tap and the butterfly (R138, R147, R164 to R167, R169 to R173):
their checks, which effects are calm, and what each instruction does. -/

namespace Sys2Proof.Machine

variable {s u : State} {n k : Nat} {e : Fin 1024} {f : KM} {fr : KR} {x y c : GReg}

/-! ## Calm effects -/

theorem Calm.specStep (h : Calm s u) (z : BitVec 6) : Calm s (u.specStep n z) := h.postModify _

theorem Calm.stepXc (h : Calm s u) : Calm s (u.stepXc n f) := (h.specStep _).specStep _

theorem Calm.stepAll (h : Calm s u) : Calm s (u.stepAll n f) := ((h.specStep _).specStep _).specStep _

theorem Calm.putAcc (h : Calm s u) (v : Int) : Calm s (u.putAcc n k v) := h.setEngine rfl rfl rfl rfl

theorem Calm.accumulate (h : Calm s u) (l : List AccAdd) : Calm s (u.accumulate n l) := by
  induction l generalizing u with
  | nil => exact h
  | cons a l ih => exact ih ((h.putAcc _).stick _)

theorem Calm.moved (h : Calm s u) (m sh : Nat) (vs : List Int) : Calm s (u.moved n m sh vs).2 := by
  have hexp : ∀ b : Bool, Calm s (if b then u.setSt n (bexpUp (u.st n)) else u) := by
    intro b
    cases b with
    | false => exact h
    | true => exact h.setSt _
  exact (hexp _).stick _

/-! ## Checks (R138, R157, R158, R171) -/

theorem State.xcOk_ok (h : XcLegal s n f) : s.xcOk n f = .ok () := by
  obtain ⟨hg, hx, -, hc⟩ := h
  rw [State.xcOk, legal_true (by simp [hg]), legal_true (decide_eq_true hx)]
  exact State.specOk_ok hc

theorem State.yOk_ok (h : YLegal s n f) : s.yOk n f = .ok () := by
  obtain ⟨hy, hw⟩ := h
  rw [State.yOk, State.specOk_ok hy]
  exact legal_true (by cases hwide : s.isWide n <;> simp_all)

theorem State.accOk_ok {pair : Bool} (h : AccLegal s n k pair) : s.accOk n k pair = .ok () := by
  obtain ⟨hk, hp⟩ := h
  refine legal_true ?_
  cases pair with
  | false => simp [hk]
  | true => simp [hk, hp rfl]

theorem need_true {cause : Nat} {b : Bool} (h : b = true) : need cause b = .ok () := by rw [h]; rfl

/-- A product taken with a sign is the product times that sign. -/
theorem signed_eq (sub : Bool) (v : Int) : signed sub v = (if sub then -1 else 1) * v := by
  cases sub <;> simp [signed]

/-- The scale mode of an override field that is legal (R174). -/
theorem State.scaleMode_ok {code m : Nat} (h : code = 0 ∨ 4 ≤ code)
    (hm : m = if code = 0 then stScale (s.st n) else code - 4) : s.scaleMode n code = .ok m := by
  rw [State.scaleMode, legal_true (by simpa using h), hm]
  rfl

/-! ## The words read -/

theorem State.xycReads_clean (f : KM) : CleanReads s n (s.xycReads n f {}) := by
  intro r h
  simp only [State.xycReads, List.mem_cons, List.not_mem_nil, or_false] at h
  obtain rfl | rfl | rfl := h <;> exact ⟨_, rfl⟩

theorem State.xcReads_clean (f : KM) : CleanReads s n (s.xcReads n f {}) := by
  intro r h
  refine State.xycReads_clean f r ?_
  simp only [State.xcReads, State.xycReads, List.mem_cons, List.not_mem_nil, or_false] at h ⊢
  exact h.imp_right .inr

theorem State.macmReads_clean (f : KM) : CleanReads s n (s.macmReads n f {}) := by
  rw [State.macmReads]
  split
  · exact State.xycReads_clean f
  · exact State.xcReads_clean f

theorem State.xRead_word : s.dataAt (s.xRead n f {}) = s.opWord n f.xs := State.dataAt_clean _

theorem State.yRead_word : s.dataAt (s.yRead n f {}) = s.opWord n f.ys := State.dataAt_clean _

theorem State.cRead_word : s.dataAt (s.cRead n f {}) = s.opWord n f.cs := State.dataAt_clean _

/-! ## The commands -/

theorem exec_macm : exec (.macm e f {}) s =
    .next (s.issue e.val (.m .macm f) {} (s.macmReads e.val f {}) (semMacm e.val f {})) := by rfl
theorem exec_cmac2 : exec (.cmac2 e f {}) s =
    .next (s.issue e.val (.m .cmac2 f) {} (s.xycReads e.val f {}) (semCmac2 e.val f {})) := by rfl
theorem exec_ftap : exec (.ftap e f {}) s =
    .next (s.issue e.val (.m .ftap f) {} (s.xcReads e.val f {}) (semFtap e.val f {})) := by rfl
theorem exec_bfly : exec (.bfly e f {}) s =
    .next (s.issue e.val (.m .bfly f) {} (s.xycReads e.val f {}) (semBfly e.val f {})) := by rfl
theorem exec_clra_residue : exec (.clra e fr { residueOk := false }) s = .next
    (s.issue e.val (.r .clra fr) { residueOk := false } [] (semClra e.val fr { residueOk := false })) := by rfl

/-! ## Their effects -/

/-- What MACM adds to ACC`k`: a half of the X or Y word times a half of the C word. -/
def macmAdd (f : KM) (k : Nat) (x c : GReg) : AccAdd :=
  { k := k, clear := f.mod.getLsbD 3
    add := (if f.mod.getLsbD 2 then -1 else 1) * (x.half (f.mod.getLsbD 0) * c.half (f.mod.getLsbD 1)) }

/-- MACM without dual: one product, into ACCk. -/
theorem semMacm_single (hxc : XcLegal s n f) (hdual : f.mod.getLsbD 4 = false) (hys : f.ys = 0)
    (hk : AccLegal s n f.k.toNat false) (hx : (s.opWord n f.xs).halfClean (f.mod.getLsbD 0) = true)
    (hc : (s.opWord n f.cs).halfClean (f.mod.getLsbD 1) = true) :
    semMacm n f {} s = .ok {
      state := (s.stepXc n f).accumulate n [macmAdd f f.k.toNat (s.opWord n f.xs) (s.opWord n f.cs)] } := by
  rw [semMacm, hdual, State.xcOk_ok hxc, State.accOk_ok hk, State.xRead_word, State.yRead_word, State.cRead_word, hys,
    macmAdd, ← signed_eq]
  dsimp only
  rw [need_true (by rw [hx, hc]; rfl)]
  rfl

/-- MACM with dual: a second product, of the Y word, into ACCk+1. -/
theorem semMacm_dual (hxc : XcLegal s n f) (hdual : f.mod.getLsbD 4 = true) (hyl : YLegal s n f)
    (hk : AccLegal s n f.k.toNat true) (hx : (s.opWord n f.xs).halfClean (f.mod.getLsbD 0) = true)
    (hy : (s.opWord n f.ys).halfClean (f.mod.getLsbD 0) = true)
    (hc : (s.opWord n f.cs).halfClean (f.mod.getLsbD 1) = true) :
    semMacm n f {} s = .ok {
      state := (s.stepAll n f).accumulate n [macmAdd f f.k.toNat (s.opWord n f.xs) (s.opWord n f.cs),
        macmAdd f (f.k.toNat + 1) (s.opWord n f.ys) (s.opWord n f.cs)] } := by
  rw [semMacm, hdual, State.xcOk_ok hxc, State.accOk_ok hk, State.xRead_word, State.yRead_word, State.cRead_word,
    macmAdd, macmAdd, ← signed_eq, ← signed_eq, State.yOk_ok hyl]
  dsimp only
  rw [need_true (by rw [hx, hc, hy]; rfl)]
  rfl

theorem semCmac2_pairs (hw : s.isWide n = true) (hxc : XcLegal s n f) (hyl : YLegal s n f)
    (hk : f.k.toNat = 0 ∨ f.k.toNat = 2) (h1 : f.mod.getLsbD 1 = false) (h4 : f.mod.getLsbD 4 = false)
    (hx : (s.opWord n f.xs).clean = true) (hy : (s.opWord n f.ys).clean = true)
    (hc : (s.opWord n f.cs).clean = true) :
    semCmac2 n f {} s = .ok {
      state := (s.stepAll n f).accumulate n
        (cacc f.k.toNat (f.mod.getLsbD 0) (f.mod.getLsbD 2) (f.mod.getLsbD 3) (s.opWord n f.xs) (s.opWord n f.cs) ++
          cacc (f.k.toNat + 4) (f.mod.getLsbD 0) (f.mod.getLsbD 2) (f.mod.getLsbD 3) (s.opWord n f.ys)
            (s.opWord n f.cs)) } := by
  rw [semCmac2, legal_true hw, State.xcOk_ok hxc, State.yOk_ok hyl, State.xRead_word, State.yRead_word,
    State.cRead_word, legal_true (by rw [decide_eq_true hk, h1, h4]; rfl)]
  dsimp only
  rw [need_true (by simp [hx, hy, hc])]
  rfl

/-- What FTAP accumulates: the complex product, or that of the high halves. -/
def ftapAdds (f : KM) (x c : GReg) : List AccAdd :=
  if f.mod.getLsbD 0 then cacc f.k.toNat (f.mod.getLsbD 1) (f.mod.getLsbD 2) (f.mod.getLsbD 3) x c
  else [{ k := f.k.toNat, add := (if f.mod.getLsbD 2 then -1 else 1) * (x.h * c.h), clear := f.mod.getLsbD 3 }]

theorem semFtap_tap (hxc : XcLegal s n f) (hys : specPtr f.ys < s.ptrLimit n) (h4 : f.mod.getLsbD 4 = false)
    (hk : AccLegal s n f.k.toNat (f.mod.getLsbD 0))
    (hclean : (if f.mod.getLsbD 0 then (s.opWord n f.xs).clean && (s.opWord n f.cs).clean
      else !(s.opWord n f.xs).tagH && !(s.opWord n f.cs).tagH) = true) :
    semFtap n f {} s = .ok {
      state := ((s.setDword (ptrEng n (specPtr f.ys)) (s.ptr n (specPtr f.ys)) (s.opWord n f.xs)).stepAll n
        f).accumulate n (ftapAdds f (s.opWord n f.xs) (s.opWord n f.cs))
      writes := [(ptrEng n (specPtr f.ys), s.ptr n (specPtr f.ys))] } := by
  rw [semFtap, State.xcOk_ok hxc, State.specOk_ok hys, legal_true (by rw [h4]; rfl), State.accOk_ok hk,
    State.xRead_word, State.cRead_word, ftapAdds, ← signed_eq]
  dsimp only
  rw [need_true hclean]
  rfl

theorem semBfly_moved {m : Nat} {r : List Int × State} (hxc : XcLegal s n f) (hyl : YLegal s n f)
    (h4 : f.mod.getLsbD 4 = false)
    (hm : m = if f.mod.toNat / 2 % 8 = 0 then stScale (s.st n) else f.mod.toNat / 2 % 8 - 4)
    (hcode : f.mod.toNat / 2 % 8 = 0 ∨ 4 ≤ f.mod.toNat / 2 % 8) (hx : (s.opWord n f.xs).clean = true)
    (hy : (s.opWord n f.ys).clean = true) (hc : (s.opWord n f.cs).clean = true)
    (hr : r = s.moved n m 17 (bflySums (f.mod.getLsbD 0) (s.opWord n f.xs) (s.opWord n f.ys) (s.opWord n f.cs))) :
    semBfly n f {} s = .ok {
      state := ((r.2.setDword (ptrEng n (specPtr f.xs)) (s.ptr n (specPtr f.xs))
        { w := ofHalves (r.1.getD 0 0) (r.1.getD 1 0) }).setDword (ptrEng n (specPtr f.ys)) (s.ptr n (specPtr f.ys))
        { w := ofHalves (r.1.getD 2 0) (r.1.getD 3 0) }).stepAll n f
      writes := [(ptrEng n (specPtr f.xs), s.ptr n (specPtr f.xs)),
        (ptrEng n (specPtr f.ys), s.ptr n (specPtr f.ys))] } := by
  rw [semBfly, State.xcOk_ok hxc, State.yOk_ok hyl, legal_true (by rw [h4]; rfl), State.scaleMode_ok hcode hm, hr]
  dsimp only [bind, Except.bind]
  rw [State.xRead_word, State.yRead_word, State.cRead_word, need_true (by simp [hx, hy, hc])]
  rfl

/-- A residue that fails raises RESIDUE before the sums are stored (R147). -/
theorem semClra_residue (h0 : fr.mod.getLsbD 0 = false) (hk : AccLegal s n fr.d.toNat false) :
    semClra n fr { residueOk := false } s = .error Exc.residue := by
  rw [semClra, h0, State.accOk_ok hk]
  rfl

end Sys2Proof.Machine
end

section
open Sys2Proof Sys2Proof.Machine

/-- Settles O25: each instruction by its effect, calm since it changes only data words, pointers, accumulators
and flags; and the residue check on CLRA. -/
theorem memoryMultipliesRun : Obligations.MemoryMultipliesRun := by
  refine ⟨?single, ?dual, ?pairs, ?tap, ?butterfly, ?residue⟩
  case single =>
    intro s e f hr hxc hdual hys hk hx hc
    exact ⟨_, exec_macm, issue_ready_data hr (State.macmReads_clean f) (semMacm_single hxc hdual hys hk hx hc)
      ((Calm.refl s).stepXc.accumulate _) (fun w h => absurd h List.not_mem_nil)⟩
  case dual =>
    intro s e f hr hxc hdual hyl hk hx hy hc
    exact ⟨_, exec_macm, issue_ready_data hr (State.macmReads_clean f) (semMacm_dual hxc hdual hyl hk hx hy hc)
      ((Calm.refl s).stepAll.accumulate _) (fun w h => absurd h List.not_mem_nil)⟩
  case pairs =>
    intro s e f hr hw hxc hyl hk h1 h4 hx hy hc
    exact ⟨_, exec_cmac2, issue_ready_data hr (State.xycReads_clean f) (semCmac2_pairs hw hxc hyl hk h1 h4 hx hy hc)
      ((Calm.refl s).stepAll.accumulate _) (fun w h => absurd h List.not_mem_nil)⟩
  case tap =>
    intro s e f hr hxc hys h4 hk hclean
    exact ⟨_, exec_ftap, issue_ready_data hr (State.xcReads_clean f) (semFtap_tap hxc hys h4 hk hclean)
      (((Calm.refl s).setDword _).stepAll.accumulate _) (fun w h => ⟨_, congrArg Prod.fst (List.mem_singleton.1 h)⟩)⟩
  case butterfly =>
    intro s e f m r hr hxc hyl h4 hm hcode hx hy hc hres
    refine ⟨_, exec_bfly, issue_ready_data hr (State.xycReads_clean f)
      (semBfly_moved hxc hyl h4 hm hcode hx hy hc hres) ?_ (fun w h => ?_)⟩
    · rw [hres]
      exact ((((Calm.refl s).moved ..).setDword _).setDword _).stepAll
    · obtain h | h := List.mem_cons.1 h
      · exact ⟨_, congrArg Prod.fst h⟩
      · exact ⟨_, congrArg Prod.fst (List.mem_singleton.1 h)⟩
  case residue =>
    intro s e f hr h0 hk
    rw [exec_clra_residue, issue_ready hr rfl, State.runInstr, semClra_residue h0 hk]
    rfl

end

section
/-! PROOFS. Loop levels and LOCK brackets (R149, R181 to R183): the innermost level, the end of a body, a branch
out of levels, and the checks before an instruction. -/

namespace Sys2Proof.Machine

variable {s u : State} {g : Engine} {n k j t : Nat} {ki : KInstr} {sem : State → Issued} {reads : List DataRead}
  {pc : BitVec 13}

/-! ## The innermost active level -/

/-- Below level `k` no level is active, or the innermost one is the highest that is. -/
theorem Engine.innerBelow_eq_none : g.innerBelow k = none ↔ ∀ i < k, g.lcAt i = 0 := by
  induction k with
  | zero => simp [Engine.innerBelow]
  | succ k ih =>
    rw [Engine.innerBelow]
    by_cases h : g.lcAt k = 0
    · rw [if_neg (not_not_intro h), ih]
      refine ⟨fun hl i hi => ?_, fun hl i hi => hl i (Nat.lt_succ_of_lt hi)⟩
      obtain hi | rfl := Nat.lt_succ_iff_lt_or_eq.1 hi
      · exact hl i hi
      · exact h
    · rw [if_pos h]
      exact ⟨fun hl => absurd hl (by simp), fun hl => absurd (hl k (Nat.lt_succ_self k)) h⟩

theorem Engine.innerBelow_eq_some :
    g.innerBelow k = some j ↔ j < k ∧ g.lcAt j ≠ 0 ∧ ∀ i, j < i → i < k → g.lcAt i = 0 := by
  induction k with
  | zero => simp [Engine.innerBelow]
  | succ k ih =>
    rw [Engine.innerBelow]
    by_cases h : g.lcAt k = 0
    · rw [if_neg (not_not_intro h), ih]
      constructor
      · rintro ⟨hj, hne, hl⟩
        refine ⟨Nat.lt_succ_of_lt hj, hne, fun i hji hi => ?_⟩
        obtain hi | rfl := Nat.lt_succ_iff_lt_or_eq.1 hi
        · exact hl i hji hi
        · exact h
      · rintro ⟨hj, hne, hl⟩
        have hjk : j ≠ k := fun hjk => hne (hjk ▸ h)
        exact ⟨by omega, hne, fun i hji hi => hl i hji (Nat.lt_succ_of_lt hi)⟩
    · rw [if_pos h, Option.some.injEq]
      constructor
      · rintro rfl
        exact ⟨Nat.lt_succ_self k, h, fun i h1 h2 => absurd h1 (by omega)⟩
      · rintro ⟨hj, hne, hl⟩
        by_contra hkj
        exact h (hl k (by omega) (Nat.lt_succ_self k))

theorem Engine.lcAt_setLc_same (v : BitVec 16) : (g.setLc j v).lcAt j = v := Table.get_set_same ..

theorem Engine.lcAt_setLc_ne {i : Nat} (v : BitVec 16) (h : i ≠ j) : (g.setLc j v).lcAt i = g.lcAt i :=
  Table.get_set_ne _ _ _ h

/-! ## The end of a body (R182) -/

/-- Levels that are not active take no part in the end of a body. -/
theorem Engine.loopEnd_above (hjk : j ≤ k) (h : ∀ i, j ≤ i → i < k → g.lcAt i = 0) :
    g.loopEnd pc k = g.loopEnd pc j := by
  induction k with
  | zero => rw [Nat.le_zero.1 hjk]
  | succ k ih =>
    obtain hjk | rfl := Nat.lt_or_eq_of_le hjk
    · rw [Engine.loopEnd, if_pos (h k (by omega) (Nat.lt_succ_self k))]
      exact ih (by omega) fun i h1 h2 => h i h1 (Nat.lt_succ_of_lt h2)
    · rfl

/-- The end of a body is settled at the innermost level. -/
theorem Engine.loopEnd_inner (h : g.inner = some j) : g.loopEnd pc 4 =
    if g.leAt j ≠ pc then (none, g)
    else if g.lcAt j - 1 ≠ 0 then (some (g.lsAt j), g.setLc j (g.lcAt j - 1))
    else (g.setLc j (g.lcAt j - 1)).loopEnd pc j := by
  obtain ⟨hj, hne, habove⟩ := Engine.innerBelow_eq_some.1 h
  rw [Engine.loopEnd_above (j := j + 1) (by omega) fun i h1 h2 => habove i (by omega) h2, Engine.loopEnd, if_neg hne]
  rfl

/-- Where no body ends PC moves on. -/
theorem Engine.advance_seq (h : g.loopEnd pc 4 = (none, g)) :
    g.advance pc .seq = { g with pc := pc + 1, past := pc == 8191#13 } := by
  simp only [Engine.advance, h]

theorem not_past (h : pc.toNat < 8191) : (pc == 8191#13) = false :=
  beq_false_of_ne fun hpc => by simp [hpc] at h

theorem Engine.advance_outside (h : g.inner = none) (hpc : g.pc.toNat < 8191) :
    g.advance g.pc .seq = { g with pc := g.pc + 1, past := false } := by
  rw [Engine.advance_seq (loopEnd_none g.pc h), not_past hpc]

/-- Inside the body of the innermost level PC moves on. -/
theorem Engine.advance_inside (h : g.inner = some j) (hle : g.leAt j ≠ g.pc) (hpc : g.pc.toNat < 8191) :
    g.advance g.pc .seq = { g with pc := g.pc + 1, past := false } := by
  have hend := Engine.loopEnd_inner (pc := g.pc) h
  rw [if_pos hle] at hend
  rw [Engine.advance_seq hend, not_past hpc]

/-- At the end of a body that is not the last time round, execution continues at its start. -/
theorem Engine.advance_again (h : g.inner = some j) (hle : g.leAt j = g.pc) (hlc : g.lcAt j ≠ 1) :
    g.advance g.pc .seq = { g.setLc j (g.lcAt j - 1) with pc := g.lsAt j, past := false } := by
  have hne : g.lcAt j - 1 ≠ 0 := fun h0 => hlc (BitVec.sub_eq_iff_eq_add.1 h0)
  have hend := Engine.loopEnd_inner (pc := g.pc) h
  rw [if_neg (not_not_intro hle), if_pos hne] at hend
  simp only [Engine.advance, hend]

/-- At the end of a body that is the last time round, the level ends and the others decide. -/
theorem Engine.advance_last (h : g.inner = some j) (hle : g.leAt j = g.pc) (hlc : g.lcAt j = 1) :
    g.advance g.pc .seq = (g.setLc j 0).advance g.pc .seq := by
  obtain ⟨hj, -, habove⟩ := Engine.innerBelow_eq_some.1 h
  have hend := Engine.loopEnd_inner (pc := g.pc) h
  have h0 : g.lcAt j - 1 = 0 := by rw [hlc]; rfl
  rw [if_neg (not_not_intro hle), h0, if_neg (not_not_intro rfl)] at hend
  have hend' : (g.setLc j 0).loopEnd g.pc 4 = (g.setLc j 0).loopEnd g.pc j := by
    refine Engine.loopEnd_above (by omega) fun i h1 h2 => ?_
    obtain h1 | rfl := Nat.lt_or_eq_of_le h1
    · rw [Engine.lcAt_setLc_ne _ (by omega), habove i h1 h2]
    · exact Engine.lcAt_setLc_same _
  simp only [Engine.advance, hend, hend']

/-! ## A branch out of levels (R183) -/

theorem Engine.leaveLoops_above (hjk : j ≤ k) (h : ∀ i, j ≤ i → i < k → g.lcAt i = 0) :
    g.leaveLoops t k = g.leaveLoops t j := by
  induction k with
  | zero => rw [Nat.le_zero.1 hjk]
  | succ k ih =>
    obtain hjk | rfl := Nat.lt_or_eq_of_le hjk
    · rw [Engine.leaveLoops, if_pos (h k (by omega) (Nat.lt_succ_self k))]
      exact ih (by omega) fun i h1 h2 => h i h1 (Nat.lt_succ_of_lt h2)
    · rfl

/-- A branch within the innermost level's body ends no level; one out of it ends that level, then the next out. -/
theorem Engine.leaveLoops_inner (h : g.inner = some j) : g.leaveLoops t 4 =
    if (g.lsAt j).toNat ≤ t ∧ t ≤ (g.leAt j).toNat then g else (g.setLc j 0).leaveLoops t 4 := by
  obtain ⟨hj, hne, habove⟩ := Engine.innerBelow_eq_some.1 h
  have hend : (g.setLc j 0).leaveLoops t 4 = (g.setLc j 0).leaveLoops t j := by
    refine Engine.leaveLoops_above (by omega) fun i h1 h2 => ?_
    obtain h1 | rfl := Nat.lt_or_eq_of_le h1
    · rw [Engine.lcAt_setLc_ne _ (by omega), habove i h1 h2]
    · exact Engine.lcAt_setLc_same _
  rw [Engine.leaveLoops_above (j := j + 1) (by omega) fun i h1 h2 => habove i (by omega) h2, Engine.leaveLoops,
    if_neg hne, hend]

/-! ## Neither touches breakpoints -/

theorem Engine.loopEnd_breaks (g : Engine) (pc : BitVec 13) (k : Nat) : (g.loopEnd pc k).2.breaks = g.breaks := by
  induction k generalizing g with
  | zero => rfl
  | succ k ih =>
    rw [Engine.loopEnd]
    split
    · exact ih g
    · split
      · rfl
      · dsimp only
        split
        · rfl
        · exact ih _

theorem Engine.leaveLoops_breaks (g : Engine) (t k : Nat) : (g.leaveLoops t k).breaks = g.breaks := by
  induction k generalizing g with
  | zero => rfl
  | succ k ih =>
    rw [Engine.leaveLoops]
    split
    · exact ih g
    · split
      · rfl
      · exact ih _

theorem Engine.advance_seq_breaks : (g.advance pc .seq).breaks = g.breaks := by
  simp only [Engine.advance]
  split <;> exact g.loopEnd_breaks pc 4

/-! ## The checks before an instruction (R146, R149, R157, R182) -/

/-- Engine `n` comes to its next instruction, and no breakpoint concerns it. -/
def Fetches (s : State) (n : Nat) : Prop :=
  s.mayIssue n = true ∧ (s.engine n).passBreak = false ∧ (s.engine n).breaks = []

/-- Once its checks pass an instruction runs. -/
theorem issue_checked (hf : Fetches s n) (hc : s.issueChecks n ki .clean = .ok ()) :
    s.issue n ki {} reads sem = s.runInstr s n reads sem := by
  obtain ⟨hmay, hpass, hbreaks⟩ := hf
  have hrec : s.fetchRecords n .clean = s := rfl
  simp [State.issue, hmay, hpass, codeBreak_none hbreaks, hc, hrec]

/-- A check that fails raises its exception. -/
theorem issue_unchecked {c : Nat} (hf : Fetches s n) (hc : s.issueChecks n ki .clean = .error c)
    (hne : c ≠ Exc.imemUe) : s.issue n ki {} reads sem = s.raise n c := by
  obtain ⟨hmay, hpass, hbreaks⟩ := hf
  simp [State.issue, hmay, hpass, codeBreak_none hbreaks, hc, hne]

/-- PC is in the address space (R157, R158). -/
def PcLegal (s : State) (n : Nat) : Prop :=
  (!(s.engine n).past && (s.isWide n || decide ((s.engine n).pc.toNat < 4096))) = true

theorem issueChecks_bracket (hpc : PcLegal s n) (hl : (s.engine n).lock ≠ 0) (hk : ki.breaksLock = true) :
    s.issueChecks n ki .clean = .error Exc.lockBreak := by
  rw [State.issueChecks, legal_true hpc, bne_iff_ne.2 hl, hk]
  rfl

/-- The innermost level's body ends at this instruction. -/
def AtEnd (g : Engine) : Prop := ∃ j, g.inner = some j ∧ g.leAt j = g.pc

theorem issueChecks_atEnd (hpc : PcLegal s n) (hl : (s.engine n).lock = 0) (hk : ki.notLast = true)
    (he : AtEnd (s.engine n)) : s.issueChecks n ki .clean = .error Exc.illegal := by
  obtain ⟨j, hj, hle⟩ := he
  rw [State.issueChecks, legal_true hpc, hl, hk, hj]
  dsimp only
  rw [beq_iff_eq.2 hle]
  rfl

theorem issueChecks_ok (hpc : PcLegal s n) (hl : (s.engine n).lock = 0 ∨ ki.breaksLock = false)
    (hk : ki.notLast = false ∨ ¬ AtEnd (s.engine n)) : s.issueChecks n ki .clean = .ok () := by
  have hlock : (!((s.engine n).lock != 0 && ki.breaksLock)) = true := by
    obtain h | h := hl <;> simp [h]
  rw [State.issueChecks, legal_true hpc, need_true hlock]
  refine legal_true ?_
  obtain h | h := hk
  · rw [h]
    rfl
  · cases hj : (s.engine n).inner with
    | none => simp
    | some j =>
      have hne : (s.engine n).leAt j ≠ (s.engine n).pc := fun hle => h ⟨j, hj, hle⟩
      simp [hne]

/-- What issuing needs of an engine that runs. -/
theorem Runs.issues (h : Runs s n) :
    Fetches s n ∧ PcLegal s n ∧ (s.engine n).lock = 0 ∧ s.mon.stepping = none := by
  obtain ⟨hodd, hrun, hfar, hlate, hlock, hpast, hpc, hb, -, hp, hstep⟩ := h
  refine ⟨⟨by simp [State.mayIssue, hodd, hrun, hfar, hlate], hp, hb⟩, ?_, hlock, hstep⟩
  rw [PcLegal, hpast]
  cases hw : s.isWide n with
  | true => rfl
  | false => simpa [hw] using hpc

/-- An instruction that may not be the last of a body does not run there. -/
theorem issue_atEnd (hr : Runs s n) (he : AtEnd (s.engine n)) (hk : ki.notLast = true) :
    s.issue n ki {} reads sem = s.raise n 1 := by
  obtain ⟨hf, hpc, hl, -⟩ := hr.issues
  exact issue_unchecked hf (issueChecks_atEnd hpc hl hk he) (by decide)

/-- Elsewhere it is its effect, or its exception. -/
theorem issue_notAtEnd (hr : Runs s n) (he : ¬ AtEnd (s.engine n)) :
    s.issue n ki {} reads sem = s.runInstr s n reads sem := by
  obtain ⟨hf, hpc, hl, -⟩ := hr.issues
  exact issue_checked hf (issueChecks_ok hpc (.inl hl) (.inr he))

end Sys2Proof.Machine
end

section
/-! PROOFS. Control flow (R157, R158, R180 to R183): conditions, branches, calls, returns, the opening of loops, and
what instructions do inside loops and LOCK brackets. -/

namespace Sys2Proof.Machine

variable {s u : State} {n k : Nat} {e : Fin 1024} {f : KC} {fr : KR} {ki : KInstr} {sem : State → Issued} {w : W36}

/-! ## The commands -/

theorem exec_br : exec (.br e f {}) s = .next (s.issue e.val (.c .br f) {} [] (semBr e.val f)) := by rfl
theorem exec_call : exec (.call e f {}) s = .next (s.issue e.val (.c .call f) {} [] (semCall e.val f)) := by rfl
theorem exec_ret : exec (.ret e f {}) s = .next (s.issue e.val (.c .ret f) {} [] (semRet e.val f)) := by rfl
theorem exec_jr : exec (.jr e f {}) s = .next (s.issue e.val (.c .jr f) {} [] (semJr e.val f)) := by rfl
theorem exec_loop : exec (.loop e f {}) s = .next (s.issue e.val (.c .loop f) {} [] (semLoop e.val f)) := by rfl
theorem exec_loopr : exec (.loopr e f {}) s = .next (s.issue e.val (.c .loopr f) {} [] (semLoopr e.val f)) := by rfl

/-- The effects of the instructions that a condition guards. -/
def branchSems (n : Nat) (f : KC) : List (State → Issued) := [semBr n f, semCall n f, semRet n f, semJr n f]

theorem exec_branch {c : Fin 1024 → KC → Hw → Instr} (h : c ∈ ([.br, .call, .ret, .jr] : List _)) (e : Fin 1024)
    (f : KC) (s : State) : ∃ ki, ∃ sem ∈ branchSems e.val f, exec (c e f {}) s = .next (s.issue e.val ki {} [] sem) := by
  simp only [List.mem_cons, List.not_mem_nil, or_false] at h
  obtain rfl | rfl | rfl | rfl := h
  · exact ⟨_, _, by simp [branchSems], exec_br⟩
  · exact ⟨_, _, by simp [branchSems], exec_call⟩
  · exact ⟨_, _, by simp [branchSems], exec_ret⟩
  · exact ⟨_, _, by simp [branchSems], exec_jr⟩

/-! ## Conditions and targets (R158, Table 5.7) -/

theorem State.takes_some {c : BitVec 4} {b : Bool} (h : s.cond n c = some b) : s.takes n c = .ok b := by
  rw [State.takes, h]

theorem cond_reserved : ∀ c : BitVec 4, 12 ≤ c.toNat → c = 12 ∨ c = 13 ∨ c = 14 ∨ c = 15 := by decide

theorem State.takes_reserved {c : BitVec 4} (h : 12 ≤ c.toNat) : s.takes n c = .error Exc.illegal := by
  have hc : s.cond n c = none := by
    obtain rfl | rfl | rfl | rfl := cond_reserved c h <;> rfl
  rw [State.takes, hc]

theorem State.targetOk_ok {t : Nat} (h : s.isWide n = true ∨ t < 4096) : s.targetOk n t = .ok () :=
  legal_true (by simpa using h)

theorem legal_cases (b : Bool) : legal b = .ok () ∨ legal b = .error Exc.illegal := by
  cases b
  · exact .inr rfl
  · exact .inl rfl

theorem legal_ok {b : Bool} (h : legal b = .ok ()) : b = true := by
  cases b
  · cases h
  · rfl

/-! ## Branches, calls and returns (R180) -/

theorem semBr_taken (hc : s.cond n f.cond = some true) (ht : s.isWide n = true ∨ f.target.toNat < 4096) :
    semBr n f s = .ok { state := s, flow := .jump f.target.toNat true } := by
  rw [semBr, State.targetOk_ok ht, State.takes_some hc]
  rfl

/-- The engine with the address after a CALL pushed. -/
def Engine.pushed (g : Engine) : Engine := { g.setStack g.depth (g.pc + 1) with depth := g.depth + 1 }

theorem semCall_taken (hc : s.cond n f.cond = some true) (ht : s.isWide n = true ∨ f.target.toNat < 4096)
    (hd : (s.engine n).depth < 16) : semCall n f s =
      .ok { state := s.setEngine n (s.engine n).pushed, flow := .jump f.target.toNat false } := by
  rw [semCall, State.targetOk_ok ht, State.takes_some hc]
  simp only [bind, Except.bind, if_true]
  rw [need_true (decide_eq_true hd)]
  rfl

theorem semCall_full (hc : s.cond n f.cond = some true) (ht : s.isWide n = true ∨ f.target.toNat < 4096)
    (hd : 16 ≤ (s.engine n).depth) : semCall n f s = .error Exc.stack := by
  rw [semCall, State.targetOk_ok ht, State.takes_some hc]
  simp only [bind, Except.bind, if_true]
  rw [decide_eq_false (Nat.not_lt.2 hd)]
  rfl

theorem semRet_taken (hc : s.cond n f.cond = some true) (hd : 0 < (s.engine n).depth) :
    semRet n f s = .ok {
      state := s.setEngine n { s.engine n with depth := (s.engine n).depth - 1 }
      flow := .jump ((s.engine n).stackAt ((s.engine n).depth - 1)).toNat true } := by
  rw [semRet, State.takes_some hc]
  simp only [bind, Except.bind, if_true]
  rw [need_true (decide_eq_true hd)]
  rfl

theorem semRet_empty (hc : s.cond n f.cond = some true) (hd : (s.engine n).depth = 0) :
    semRet n f s = .error Exc.stack := by
  rw [semRet, State.takes_some hc]
  simp only [bind, Except.bind, if_true]
  rw [hd]
  rfl

/-- The target of JR: bits 12:0 of the register. -/
theorem jrTarget (w : W36) : (w.setWidth 32).toNat % 8192 = (w.setWidth 13).toNat := by
  rw [BitVec.toNat_setWidth, BitVec.toNat_setWidth]
  omega

theorem target_narrow (h : w.getLsbD 12 = false) : (w.setWidth 13).toNat < 4096 := by
  have hmsb : (w.setWidth 13).msb = false := by
    rw [BitVec.msb_setWidth]
    simpa using h
  exact BitVec.toNat_lt_of_msb_false hmsb

theorem semJr_taken (hc : s.cond n f.cond = some true) (ha : f.a.toNat < s.gLimit n)
    (hclean : (s.getG n f.a.toNat).clean = true)
    (ht : s.isWide n = true ∨ (s.getG n f.a.toNat).w.getLsbD 12 = false) : semJr n f s =
      .ok { state := s, flow := .jump ((s.getG n f.a.toNat).w.setWidth 13).toNat true } := by
  rw [semJr, State.gOk_ok ha, State.takes_some hc, State.use32_clean hclean]
  simp only [bind, Except.bind, if_true]
  rw [jrTarget, State.targetOk_ok (ht.imp_right target_narrow)]
  rfl

theorem branch_untaken (hc : s.cond n f.cond = some false) (ht : s.isWide n = true ∨ f.target.toNat < 4096)
    (ha : f.a.toNat < s.gLimit n) (h : sem ∈ branchSems n f) : sem s = .ok { state := s } := by
  simp only [branchSems, List.mem_cons, List.not_mem_nil, or_false] at h
  obtain rfl | rfl | rfl | rfl := h
  · rw [semBr, State.targetOk_ok ht, State.takes_some hc]
    rfl
  · rw [semCall, State.targetOk_ok ht, State.takes_some hc]
    rfl
  · rw [semRet, State.takes_some hc]
    rfl
  · rw [semJr, State.gOk_ok ha, State.takes_some hc]
    rfl

theorem branch_reserved (hc : 12 ≤ f.cond.toNat) (ha : f.a.toNat < s.gLimit n) (h : sem ∈ branchSems n f) :
    sem s = .error Exc.illegal := by
  simp only [branchSems, List.mem_cons, List.not_mem_nil, or_false] at h
  obtain rfl | rfl | rfl | rfl := h
  · rw [semBr, State.takes_reserved hc, State.targetOk]
    obtain ht | ht := legal_cases (s.isWide n || decide (f.target.toNat < 4096)) <;> rw [ht] <;> rfl
  · rw [semCall, State.takes_reserved hc, State.targetOk]
    obtain ht | ht := legal_cases (s.isWide n || decide (f.target.toNat < 4096)) <;> rw [ht] <;> rfl
  · rw [semRet, State.takes_reserved hc]
    rfl
  · rw [semJr, State.gOk_ok ha, State.takes_reserved hc]
    rfl

/-! ## The opening of loops (R181) -/

/-- LOOP and LOOPR name a body that they may open. -/
def LoopLegal (s : State) (n : Nat) (f : KC) : Prop :=
  f.cond = 0 ∧ (s.isWide n = true ∨ f.target.toNat < 4096) ∧ (s.engine n).pc.toNat + 1 ≤ f.target.toNat

theorem State.loopOk_ok (h : LoopLegal s n f) : s.loopOk n f = .ok () := by
  obtain ⟨hc, ht, hpc⟩ := h
  rw [State.loopOk, legal_true (beq_iff_eq.2 hc), State.targetOk_ok ht]
  exact legal_true (decide_eq_true hpc)

/-- Level 0 opened at PC + 1. -/
def Engine.opened (g : Engine) (last : BitVec 13) (count : BitVec 16) : Engine :=
  ((g.setLs 0 (g.pc + 1)).setLe 0 last).setLc 0 count

theorem State.openLoop_first (last : BitVec 13) (c : BitVec 16) (h : (s.engine n).lcAt 0 = 0) :
    s.openLoop n c.toNat last = .ok { state := s.setEngine n ((s.engine n).opened last c) } := by
  have hfind : (List.range 4).find? (fun j => (s.engine n).lcAt j == 0) = some 0 := by
    simp [List.range_succ_eq_map, h]
  rw [State.openLoop]
  dsimp only
  rw [hfind, Engine.opened, BitVec.ofNat_toNat, BitVec.setWidth_eq]
  rfl

theorem State.openLoop_full (c : Nat) (last : BitVec 13) (h : ∀ j < 4, (s.engine n).lcAt j ≠ 0) :
    s.openLoop n c last = .error Exc.loop := by
  have hfind : (List.range 4).find? (fun j => (s.engine n).lcAt j == 0) = none :=
    List.find?_eq_none.2 fun j hj => by simpa using h j (List.mem_range.1 hj)
  rw [State.openLoop]
  dsimp only
  rw [hfind]

theorem semLoop_legal (h : LoopLegal s n f) (hn : f.count ≠ 0) :
    semLoop n f s = s.openLoop n f.count.toNat f.target := by
  rw [semLoop, State.loopOk_ok h, legal_true (bne_iff_ne.2 hn)]
  rfl

theorem semLoop_illegal (h : f.count = 0 ∨ f.cond ≠ 0 ∨ f.target.toNat < (s.engine n).pc.toNat + 1) :
    semLoop n f s = .error Exc.illegal := by
  rw [semLoop, State.loopOk, State.targetOk]
  obtain hc | hc := legal_cases (f.cond == 0)
  · obtain ht | ht := legal_cases (s.isWide n || decide (f.target.toNat < 4096))
    · obtain hp | hp := legal_cases (decide ((s.engine n).pc.toNat + 1 ≤ f.target.toNat))
      · obtain hn | hn := legal_cases (f.count != 0)
        · obtain h | h | h := h
          · exact absurd h (bne_iff_ne.1 (legal_ok hn))
          · exact absurd (beq_iff_eq.1 (legal_ok hc)) h
          · exact absurd (of_decide_eq_true (legal_ok hp)) (Nat.not_le.2 h)
        · rw [hc, ht, hp, hn]
          rfl
      · rw [hc, ht, hp]
        rfl
    · rw [hc, ht]
      rfl
  · rw [hc]
    rfl

/-- The count of LOOPR: bits 15:0 of the register. -/
theorem loopCount (w : W36) : (w.setWidth 32).toNat % 65536 = (w.setWidth 16).toNat := by
  rw [BitVec.toNat_setWidth, BitVec.toNat_setWidth]
  omega

theorem semLoopr_legal (h : LoopLegal s n f) (ha : f.a.toNat < s.gLimit n)
    (hclean : (s.getG n f.a.toNat).clean = true) (hw : (s.getG n f.a.toNat).w = w) : semLoopr n f s =
      if w.setWidth 16 = 0#16 then .ok { state := s, flow := .jump (f.target.toNat + 1) true }
      else s.openLoop n (w.setWidth 16).toNat f.target := by
  have h0 : (w.setWidth 16).toNat = 0 ↔ w.setWidth 16 = 0#16 := by rw [← BitVec.toNat_inj]; rfl
  rw [semLoopr, State.loopOk_ok h, State.gOk_ok ha, State.use32_clean hclean, hw]
  simp only [bind, Except.bind, loopCount, h0]
  rfl

/-- The level that a loop opens is the innermost one. -/
theorem Engine.opened_inner {g : Engine} {c : BitVec 16} (h : g.inner = none) (last : BitVec 13) (hc : c ≠ 0) :
    (g.opened last c).inner = some 0 := by
  have hl := Engine.innerBelow_eq_none.1 h
  refine Engine.innerBelow_eq_some.2 ⟨by decide, ?_, fun i h1 h2 => ?_⟩
  · rw [Engine.opened, Engine.lcAt_setLc_same]
    exact hc
  · rw [Engine.opened, Engine.lcAt_setLc_ne _ (by omega)]
    exact hl i h2

/-- A loop that opens: PC goes on into its body. -/
theorem issue_opened {last : BitVec 13} {c : BitVec 16} (hr : Ready s n) (hc : c ≠ 0)
    (hpc : (s.engine n).pc.toNat + 1 ≤ last.toNat)
    (hs : sem s = .ok { state := s.setEngine n ((s.engine n).opened last c) }) :
    Ran n (s.setEngine n ((s.engine n).opened last c)) (s.issue n ki {} [] sem) := by
  obtain ⟨-, -, -, -, hlock, hpast, -, -, -, -, hstep⟩ := hr.1
  have hle : ((s.engine n).opened last c).leAt 0 = last := Table.get_set_same ..
  have hne : last ≠ (s.engine n).pc := fun h => absurd hpc (by rw [h]; omega)
  have hadv := Engine.advance_inside (Engine.opened_inner hr.2 last hc) (by rw [hle]; exact hne)
    (Nat.lt_of_succ_lt_succ (Nat.lt_of_le_of_lt hpc last.isLt))
  have hpast' : ((s.engine n).opened last c).past = false := hpast
  rw [← hpast'] at hadv
  have hsame := State.engine_setEngine_same s n ((s.engine n).opened last c)
  rw [issue_ready hr rfl, runInstr_advance hs ⟨Flow.noConfusion, Flow.noConfusion, Flow.noConfusion⟩ hlock
    (by rw [hsame, hadv]) hstep, hsame, hadv]
  exact ⟨by rw [State.engine_setEngine_same, hsame], setEngine_same_but ..⟩

end Sys2Proof.Machine
end

section
open Sys2Proof Sys2Proof.Machine

/-- Settles O27: a condition that holds, for each instruction; one that does not and one that is reserved, for
all four; the opening of a loop. -/
theorem controlFlowTransfers : Obligations.ControlFlowTransfers := by
  refine ⟨?taken, ?ret, ?jr, ?untaken, ?reserved, ?opens, ?illegal⟩
  case taken =>
    intro s e f hr hc ht
    refine ⟨⟨_, exec_br, issue_jumped hr (semBr_taken hc ht) (Calm.refl s)⟩, fun hd => ?_, fun hd => ?_⟩
    · exact ⟨_, exec_call, issue_jumped hr (semCall_taken hc ht hd) ((Calm.refl s).setEngine rfl rfl rfl rfl)⟩
    · rw [exec_call, issue_ready_raise hr (semCall_full hc ht hd)]
      rfl
  case ret =>
    intro s e f hr hc
    refine ⟨fun hd => ?_, fun hd => ?_⟩
    · exact ⟨_, exec_ret, issue_jumped hr (semRet_taken hc hd) ((Calm.refl s).setEngine rfl rfl rfl rfl)⟩
    · rw [exec_ret, issue_ready_raise hr (semRet_empty hc hd)]
      rfl
  case jr =>
    intro s e f hr hc ha hclean ht
    exact ⟨_, exec_jr, issue_jumped hr (semJr_taken hc ha hclean ht) (Calm.refl s)⟩
  case untaken =>
    intro s e f hr hc ht ha c hmem
    obtain ⟨ki, sem, hsem, hexec⟩ := exec_branch hmem e f s
    exact ⟨_, hexec, issue_ready_ran hr (branch_untaken hc ht ha hsem) (Calm.refl s)⟩
  case reserved =>
    intro s e f hr hc ha c hmem
    obtain ⟨ki, sem, hsem, hexec⟩ := exec_branch hmem e f s
    rw [hexec, issue_ready_raise hr (branch_reserved hc ha hsem)]
    rfl
  case opens =>
    intro s e f g hr hcond ht hpc h0 hg
    subst hg
    have hl : LoopLegal s e.val f := ⟨hcond, ht, hpc⟩
    refine ⟨fun hn => ?_, fun ha hclean hn => ?_, fun ha hclean hlt hn => ?_⟩
    · exact ⟨_, exec_loop, issue_opened hr hn hpc ((semLoop_legal hl hn).trans (State.openLoop_first _ _ h0))⟩
    · have hsem := semLoopr_legal hl ha hclean rfl
      rw [if_neg hn, State.openLoop_first _ _ h0] at hsem
      exact ⟨_, exec_loopr, issue_opened hr hn hpc hsem⟩
    · have hsem := semLoopr_legal hl ha hclean rfl
      have hnext : (f.target + 1).toNat = f.target.toNat + 1 := by
        rw [BitVec.toNat_add]
        exact Nat.mod_eq_of_lt (Nat.succ_lt_succ hlt)
      rw [if_pos hn, ← hnext] at hsem
      exact ⟨_, exec_loopr, issue_jumped hr hsem (Calm.refl s)⟩
  case illegal =>
    intro s e f hr h
    rw [exec_loop, issue_ready_raise hr (semLoop_illegal h)]
    rfl

end

section
/-! PROOFS. What instructions do inside loops and LOCK brackets (R149, R181 to R183, Table 5.5). -/

namespace Sys2Proof.Machine

variable {s u : State} {n k : Nat} {e : Fin 1024} {f : KC} {fr : KR} {ki : KInstr} {sem : State → Issued}

/-! ## At the end of a body (R182) -/

theorem exec_control {c : Fin 1024 → KC → Hw → Instr} (h : c ∈ ([.br, .call, .ret, .jr, .loop, .loopr] : List _))
    (e : Fin 1024) (f : KC) (s : State) :
    ∃ op sem, exec (c e f {}) s = .next (s.issue e.val (.c op f) {} [] sem) := by
  simp only [List.mem_cons, List.not_mem_nil, or_false] at h
  obtain rfl | rfl | rfl | rfl | rfl | rfl := h
  · exact ⟨_, _, exec_br⟩
  · exact ⟨_, _, exec_call⟩
  · exact ⟨_, _, exec_ret⟩
  · exact ⟨_, _, exec_jr⟩
  · exact ⟨_, _, exec_loop⟩
  · exact ⟨_, _, exec_loopr⟩

theorem exec_ending {c : Fin 1024 → KR → Hw → Instr} (h : c ∈ ([.rti, .kend, .lock] : List _)) (e : Fin 1024)
    (f : KR) (s : State) :
    ∃ ki sem, ki.notLast = true ∧ exec (c e f {}) s = .next (s.issue e.val ki {} [] sem) := by
  simp only [List.mem_cons, List.not_mem_nil, or_false] at h
  obtain rfl | rfl | rfl := h
  · exact ⟨_, _, rfl, exec_rti⟩
  · exact ⟨_, _, rfl, exec_kend⟩
  · exact ⟨_, _, rfl, exec_lock⟩

/-- An instruction without effect moves PC and the loop levels (R182). -/
theorem issue_nop (hr : Runs s n) (hs : sem s = .ok { state := s }) (hk : ki.notLast = false) :
    s.issue n ki {} [] sem = s.setEngine n ((s.engine n).advance (s.engine n).pc .seq) := by
  obtain ⟨-, -, hl, hstep⟩ := hr.issues
  rw [issue_runs hr rfl (.inl hk), runInstr_advance hs ⟨Flow.noConfusion, Flow.noConfusion, Flow.noConfusion⟩ hl
    Engine.advance_seq_breaks hstep]

/-- A taken branch ends the levels it leaves (R183). -/
theorem issue_branch {t : BitVec 13} (hr : Runs s n) (he : ¬ AtEnd (s.engine n))
    (hs : sem s = .ok { state := s, flow := .jump t.toNat true }) : s.issue n ki {} [] sem =
      s.setEngine n { (s.engine n).leaveLoops t.toNat 4 with pc := t, past := false } := by
  obtain ⟨-, -, hl, hstep⟩ := hr.issues
  have ht : ¬ 8192 ≤ t.toNat := Nat.not_le.2 t.isLt
  have hadv : (s.engine n).advance (s.engine n).pc (.jump t.toNat true) =
      { (s.engine n).leaveLoops t.toNat 4 with pc := t, past := false } := by
    simp only [Engine.advance, if_true, decide_eq_false ht, BitVec.ofNat_toNat, BitVec.setWidth_eq]
  rw [issue_notAtEnd hr he, runInstr_advance hs (Flow.jump_transfers ..) hl
    (by rw [hadv]; exact Engine.leaveLoops_breaks ..) hstep, hadv]

/-- With four levels active the innermost is the highest. -/
theorem Engine.inner_full {g : Engine} (h : ∀ j < 4, g.lcAt j ≠ 0) : g.inner = some 3 :=
  Engine.innerBelow_eq_some.2 ⟨by decide, h 3 (by decide), fun i h1 h2 => absurd h1 (by omega)⟩

theorem not_atEnd {g : Engine} {j : Nat} (h : g.inner = some j) (hle : g.leAt j ≠ g.pc) : ¬ AtEnd g := by
  rintro ⟨i, hi, hpc⟩
  rw [h, Option.some.injEq] at hi
  exact hle (hi ▸ hpc)

/-! ## Inside a bracket (R149) -/

/-- Engine `n` comes to an instruction of an open bracket in which nothing is deferred. -/
def InBracket (s : State) (n k : Nat) : Prop :=
  Fetches s n ∧ PcLegal s n ∧ (s.engine n).lock = k + 1 ∧ (s.engine n).inner = none ∧
    (s.engine n).hitReq = none ∧ (s.engine n).haltReq = false ∧ s.mon.stepping = none

/-- The end of a bracket in which no hit and no halt was deferred does nothing more. -/
theorem bracketClosed_idle (h : (s.engine n).hitReq = none) (h' : (s.engine n).haltReq = false) :
    s.bracketClosed n = s := by
  rw [State.bracketClosed, h, h']
  rfl

/-- An instruction of a bracket that goes on in order counts it down. -/
theorem completeAt_bracket {g : Engine} (hg : g = { (s.engine n).advance (s.engine n).pc .seq with lock := k })
    (hhit : g.hitReq = none) (hhalt : g.haltReq = false) (hstep : s.mon.stepping = none) :
    s.completeAt n (k + 1) .seq [] [] = s.setEngine n g := by
  have hlock : ((s.engine n).advance (s.engine n).pc .seq).lockStep (k + 1) .seq = g := hg.symm
  have hclosed : (s.setEngine n g).bracketClosed n = s.setEngine n g :=
    bracketClosed_idle (by rw [State.engine_setEngine_same, hhit]) (by rw [State.engine_setEngine_same, hhalt])
  simp only [State.completeAt, hlock, State.watchHit, hclosed, ite_self]
  exact stepCount_idle hstep

theorem issue_nop_bracket (h : InBracket s n k) (hpc : (s.engine n).pc.toNat < 8191) (hpast : (s.engine n).past = false)
    (hs : sem s = .ok { state := s }) (hk : ki.breaksLock = false) (hk' : ki.notLast = false) :
    s.issue n ki {} [] sem = s.setEngine n { s.engine n with pc := (s.engine n).pc + 1, lock := k } := by
  obtain ⟨hf, hpcl, hl, hin, hhit, hhalt, hstep⟩ := h
  have hadv := Engine.advance_outside hin hpc
  rw [← hpast] at hadv
  rw [issue_checked hf (issueChecks_ok hpcl (.inr hk) (.inl hk')), State.runInstr, hs]
  dsimp only
  rw [if_neg Flow.noConfusion, hl, List.map_nil, State.readRecords]
  exact completeAt_bracket (by rw [hadv]) hhit hhalt hstep

/-- What Table 5.5 does not permit in a bracket breaks it. -/
theorem issue_breaks_bracket (h : InBracket s n k) (hk : ki.breaksLock = true) :
    s.issue n ki {} [] sem = s.raise n 6 := by
  obtain ⟨hf, hpc, hl, -⟩ := h
  exact issue_unchecked hf (issueChecks_bracket hpc (by omega) hk) (by decide)

end Sys2Proof.Machine
end

section
open Sys2Proof Sys2Proof.Machine

/-- Settles O28: the end of a body and a branch out of levels, by what the innermost level is; what a body's
last instruction may not be; a fifth level; a LOCK bracket. -/
theorem loopsAndBracketsCount : Obligations.LoopsAndBracketsCount := by
  refine ⟨?nop, fun g j => Engine.advance_inside, fun g j => Engine.advance_again, fun g j => Engine.advance_last,
    ?within, ?leaves, fun g t => Engine.leaveLoops_none t, ?branch, ?atEnd, ?full, ?bracket⟩
  case nop =>
    intro s e f hr
    rw [exec_nop, issue_nop hr rfl rfl]
  case within =>
    intro g j t h h1 h2
    rw [Engine.leaveLoops_inner h, if_pos ⟨h1, h2⟩]
  case leaves =>
    intro g j t h ht
    rw [Engine.leaveLoops_inner h, if_neg (by omega)]
  case branch =>
    intro s e f hr hc ht hle
    refine ⟨_, exec_br, ?_⟩
    rw [issue_branch hr (fun ⟨j, hj, hpc⟩ => hle j hj hpc) (semBr_taken hc ht)]
    exact ⟨State.engine_setEngine_same .., setEngine_same_but ..⟩
  case atEnd =>
    intro s e j hr hj hle
    refine ⟨fun f c hmem => ?_, fun f c hmem => ?_⟩
    · obtain ⟨op, sem, hexec⟩ := exec_control hmem e f s
      rw [hexec, issue_atEnd hr ⟨j, hj, hle⟩ rfl]
    · obtain ⟨ki, sem, hk, hexec⟩ := exec_ending hmem e f s
      rw [hexec, issue_atEnd hr ⟨j, hj, hle⟩ hk]
  case full =>
    intro s e f hr hall hle hcond hn ht hpc
    have hsem : semLoop e.val f s = .error Exc.loop :=
      (semLoop_legal ⟨hcond, ht, hpc⟩ hn).trans (State.openLoop_full _ _ hall)
    rw [exec_loop, issue_notAtEnd hr (not_atEnd (Engine.inner_full hall) hle), runInstr_raise hsem]
    rfl
  case bracket =>
    intro s e k hodd hrun hfar hlate hl hpast hpc hin hb hp hstep hhit hhalt
    have hpcl : PcLegal s e.val := by
      rw [PcLegal, hpast]
      cases hw : s.isWide e.val with
      | true => rfl
      | false => simpa [hw] using hpc
    have hpc' : (s.engine e.val).pc.toNat < 8191 := by
      split at hpc <;> omega
    have hf : Fetches s e.val := ⟨by simp [State.mayIssue, hodd, hrun, hfar, hlate], hp, hb⟩
    have hbr : InBracket s e.val k := ⟨hf, hpcl, hl, hin, hhit, hhalt, hstep⟩
    refine ⟨fun f => ⟨_, exec_nop, ?_⟩, fun f => ?_⟩
    · rw [issue_nop_bracket hbr hpc' hpast rfl rfl rfl]
      exact ⟨State.engine_setEngine_same .., setEngine_same_but ..⟩
    · rw [exec_kend, issue_breaks_bracket hbr rfl]

end

section
/-! PROOFS. The 64-bit words of Kotin instructions (R157, R174, Tables 5.1 and 5.5): opcodes, the fields of the
word that encodes an instruction, and the word that its fields spell. -/

namespace Sys2Proof.Machine

variable {w : DWord} {c : BitVec 8}

/-! ## Opcodes (Table 5.5) -/

/-- Every opcode of Table 5.5. -/
def opcodes : List (BitVec 8) :=
  ROp.all.map ROp.code ++ TOp.all.map TOp.code ++ MOp.all.map MOp.code ++ COp.all.map COp.code ++ [ldiCode]

theorem opcodes_nodup : opcodes.Nodup := by decide

/-! An opcode names its operation, and no operation of the formats that the decoder tries before. -/

theorem ofCode_r (op : ROp) : ROp.ofCode op.code = some op := by cases op <;> rfl

theorem ofCode_t (op : TOp) : ROp.ofCode op.code = none ∧ TOp.ofCode op.code = some op := by
  cases op <;> exact ⟨rfl, rfl⟩

theorem ofCode_m (op : MOp) :
    ROp.ofCode op.code = none ∧ TOp.ofCode op.code = none ∧ MOp.ofCode op.code = some op := by
  cases op <;> exact ⟨rfl, rfl, rfl⟩

theorem ofCode_c (op : COp) : ROp.ofCode op.code = none ∧ TOp.ofCode op.code = none ∧
    MOp.ofCode op.code = none ∧ COp.ofCode op.code = some op := by
  cases op <;> exact ⟨rfl, rfl, rfl, rfl⟩

theorem ofCode_ldi : ROp.ofCode ldiCode = none ∧ TOp.ofCode ldiCode = none ∧
    MOp.ofCode ldiCode = none ∧ COp.ofCode ldiCode = none := ⟨rfl, rfl, rfl, rfl⟩

/-- An opcode of the table is that of an operation of some format, or of LDI. -/
theorem opcode_cases (h : c ∈ opcodes) : (∃ op : ROp, c = op.code) ∨ (∃ op : TOp, c = op.code) ∨
    (∃ op : MOp, c = op.code) ∨ (∃ op : COp, c = op.code) ∨ c = ldiCode := by
  simp only [opcodes, List.mem_append, List.mem_map, List.mem_singleton] at h
  obtain (((⟨op, -, h⟩ | ⟨op, -, h⟩) | ⟨op, -, h⟩) | ⟨op, -, h⟩) | h := h
  · exact .inl ⟨op, h.symm⟩
  · exact .inr (.inl ⟨op, h.symm⟩)
  · exact .inr (.inr (.inl ⟨op, h.symm⟩))
  · exact .inr (.inr (.inr (.inl ⟨op, h.symm⟩)))
  · exact .inr (.inr (.inr (.inr h)))

/-- A search by opcode fails for a code that no operation has. -/
theorem find?_code_none {α : Type} {l : List α} {code : α → BitVec 8} (h : c ∉ l.map code) :
    (l.find? fun o => code o == c) = none := by
  simpa using h

/-! ## The decoder, by format -/

theorem kotinDecode_r {op : ROp} (h : w.extractLsb' 56 8 = op.code) : kotinDecode w = some (.r op (krFields w)) := by
  simp only [kotinDecode, h, ofCode_r]

theorem kotinDecode_t {op : TOp} (h : w.extractLsb' 56 8 = op.code) : kotinDecode w = some (.t op (ktFields w)) := by
  simp only [kotinDecode, h, ofCode_t]

theorem kotinDecode_m {op : MOp} (h : w.extractLsb' 56 8 = op.code) :
    kotinDecode w = if w.extractLsb' 0 24 = 0 then some (.m op (kmFields w)) else none := by
  simp only [kotinDecode, h, ofCode_m]

theorem kotinDecode_c {op : COp} (h : w.extractLsb' 56 8 = op.code) : kotinDecode w =
    if w.extractLsb' 50 2 = 0 ∧ w.extractLsb' 29 15 = 0 then some (.c op (kcFields w)) else none := by
  simp only [kotinDecode, h, ofCode_c]

theorem kotinDecode_i (h : w.extractLsb' 56 8 = ldiCode) :
    kotinDecode w = if w.extractLsb' 36 14 = 0 then some (.i (kiFields w)) else none := by
  simp only [kotinDecode, h, ofCode_ldi, true_and]

theorem kotinDecode_unknown (h : w.extractLsb' 56 8 ∉ opcodes) : kotinDecode w = none := by
  simp only [opcodes, List.mem_append, List.mem_singleton, not_or] at h
  obtain ⟨⟨⟨⟨hr, ht⟩, hm⟩, hc⟩, hi⟩ := h
  have hr' : ROp.ofCode (w.extractLsb' 56 8) = none := find?_code_none hr
  have ht' : TOp.ofCode (w.extractLsb' 56 8) = none := find?_code_none ht
  have hm' : MOp.ofCode (w.extractLsb' 56 8) = none := find?_code_none hm
  have hc' : COp.ofCode (w.extractLsb' 56 8) = none := find?_code_none hc
  simp only [kotinDecode, hr', ht', hm', hc', hi, false_and, if_false]

/-! ## The fields of a word that encodes (Table 5.1): its opcode, its fields, and zeros where the format has none -/

theorem fields_encode_r (op : ROp) (f : KR) :
    (kotinEncode (.r op f)).extractLsb' 56 8 = op.code ∧ krFields (kotinEncode (.r op f)) = f := by
  simp (disch := decide) only [kotinEncode, krFields, BitVec.extractLsb'_append_eq_of_le,
    BitVec.extractLsb'_append_eq_of_add_le, Nat.reduceSub, BitVec.extractLsb'_eq_self, and_self]

theorem fields_encode_t (op : TOp) (f : KT) :
    (kotinEncode (.t op f)).extractLsb' 56 8 = op.code ∧ ktFields (kotinEncode (.t op f)) = f := by
  simp (disch := decide) only [kotinEncode, ktFields, BitVec.extractLsb'_append_eq_of_le,
    BitVec.extractLsb'_append_eq_of_add_le, Nat.reduceSub, BitVec.extractLsb'_eq_self, and_self]

theorem fields_encode_m (op : MOp) (f : KM) :
    (kotinEncode (.m op f)).extractLsb' 56 8 = op.code ∧ kmFields (kotinEncode (.m op f)) = f ∧
      (kotinEncode (.m op f)).extractLsb' 0 24 = 0 := by
  simp (disch := decide) only [kotinEncode, kmFields, BitVec.extractLsb'_append_eq_of_le,
    BitVec.extractLsb'_append_eq_of_add_le, Nat.reduceSub, BitVec.extractLsb'_eq_self, BitVec.ofNat_eq_ofNat, and_self]

theorem fields_encode_c (op : COp) (f : KC) :
    (kotinEncode (.c op f)).extractLsb' 56 8 = op.code ∧ kcFields (kotinEncode (.c op f)) = f ∧
      (kotinEncode (.c op f)).extractLsb' 50 2 = 0 ∧ (kotinEncode (.c op f)).extractLsb' 29 15 = 0 := by
  simp (disch := decide) only [kotinEncode, kcFields, BitVec.extractLsb'_append_eq_of_le,
    BitVec.extractLsb'_append_eq_of_add_le, Nat.reduceSub, BitVec.extractLsb'_eq_self, BitVec.ofNat_eq_ofNat, and_self]

theorem fields_encode_i (f : KI) :
    (kotinEncode (.i f)).extractLsb' 56 8 = ldiCode ∧ kiFields (kotinEncode (.i f)) = f ∧
      (kotinEncode (.i f)).extractLsb' 36 14 = 0 := by
  simp (disch := decide) only [kotinEncode, kiFields, BitVec.extractLsb'_append_eq_of_le,
    BitVec.extractLsb'_append_eq_of_add_le, Nat.reduceSub, BitVec.extractLsb'_eq_self, BitVec.ofNat_eq_ofNat, and_self]

/-- Decoding the word that encodes an instruction gives it back. -/
theorem kotinDecode_encode (k : KInstr) : kotinDecode (kotinEncode k) = some k := by
  cases k with
  | r op f =>
    obtain ⟨hop, hf⟩ := fields_encode_r op f
    rw [kotinDecode_r hop, hf]
  | t op f =>
    obtain ⟨hop, hf⟩ := fields_encode_t op f
    rw [kotinDecode_t hop, hf]
  | m op f =>
    obtain ⟨hop, hf, h0⟩ := fields_encode_m op f
    rw [kotinDecode_m hop, if_pos h0, hf]
  | c op f =>
    obtain ⟨hop, hf, h0⟩ := fields_encode_c op f
    rw [kotinDecode_c hop, if_pos h0, hf]
  | i f =>
    obtain ⟨hop, hf, h0⟩ := fields_encode_i f
    rw [kotinDecode_i hop, if_pos h0, hf]

/-! ## The word that its fields spell: the fields of a format and its zeros cover the word -/

theorem encode_krFields {op : ROp} (h : w.extractLsb' 56 8 = op.code) : kotinEncode (.r op (krFields w)) = w := by
  refine Eq.trans ?_ BitVec.extractLsb'_eq_self
  simp (disch := decide) only [kotinEncode, krFields, ← h, BitVec.extractLsb'_append_extractLsb'_eq_extractLsb']

theorem encode_ktFields {op : TOp} (h : w.extractLsb' 56 8 = op.code) : kotinEncode (.t op (ktFields w)) = w := by
  refine Eq.trans ?_ BitVec.extractLsb'_eq_self
  simp (disch := decide) only [kotinEncode, ktFields, ← h, BitVec.extractLsb'_append_extractLsb'_eq_extractLsb']

theorem encode_kmFields {op : MOp} (h : w.extractLsb' 56 8 = op.code) (h0 : 0#24 = w.extractLsb' 0 24) :
    kotinEncode (.m op (kmFields w)) = w := by
  refine Eq.trans ?_ BitVec.extractLsb'_eq_self
  simp (disch := decide) only [kotinEncode, kmFields, ← h, h0, BitVec.extractLsb'_append_extractLsb'_eq_extractLsb']

theorem encode_kcFields {op : COp} (h : w.extractLsb' 56 8 = op.code) (h0 : 0#2 = w.extractLsb' 50 2)
    (h0' : 0#15 = w.extractLsb' 29 15) : kotinEncode (.c op (kcFields w)) = w := by
  refine Eq.trans ?_ BitVec.extractLsb'_eq_self
  simp (disch := decide) only [kotinEncode, kcFields, ← h, h0, h0',
    BitVec.extractLsb'_append_extractLsb'_eq_extractLsb']

theorem encode_kiFields (h : w.extractLsb' 56 8 = ldiCode) (h0 : 0#14 = w.extractLsb' 36 14) :
    kotinEncode (.i (kiFields w)) = w := by
  refine Eq.trans ?_ BitVec.extractLsb'_eq_self
  simp (disch := decide) only [kotinEncode, kiFields, ← h, h0, BitVec.extractLsb'_append_extractLsb'_eq_extractLsb']

/-- No two words spell one instruction: one that decodes is the word that encodes what it decodes to. -/
theorem kotinEncode_of_decode {k : KInstr} (h : kotinDecode w = some k) : kotinEncode k = w := by
  by_cases hc : w.extractLsb' 56 8 ∈ opcodes
  case neg =>
    rw [kotinDecode_unknown hc] at h
    cases h
  obtain ⟨op, hop⟩ | ⟨op, hop⟩ | ⟨op, hop⟩ | ⟨op, hop⟩ | hop := opcode_cases hc
  · rw [kotinDecode_r hop, Option.some.injEq] at h
    rw [← h, encode_krFields hop]
  · rw [kotinDecode_t hop, Option.some.injEq] at h
    rw [← h, encode_ktFields hop]
  · rw [kotinDecode_m hop, Option.ite_none_right_eq_some, Option.some.injEq] at h
    rw [← h.2, encode_kmFields hop h.1.symm]
  · rw [kotinDecode_c hop, Option.ite_none_right_eq_some, Option.some.injEq] at h
    rw [← h.2, encode_kcFields hop h.1.1.symm h.1.2.symm]
  · rw [kotinDecode_i hop, Option.ite_none_right_eq_some, Option.some.injEq] at h
    rw [← h.2, encode_kiFields hop h.1.symm]

end Sys2Proof.Machine
end

section
open Sys2Proof Sys2Proof.Machine

/-- Settles O37: a format's fields and its zeros cover the word, an opcode names one operation, and a format
decodes only where its zeros stand. -/
theorem kotinDecodeInvertsEncode : Obligations.KotinDecodeInvertsEncode := by
  refine ⟨kotinDecode_encode, fun w k => kotinEncode_of_decode, opcodes_nodup, fun w => kotinDecode_unknown,
    fun w op hop h0 => ?memory, fun w op hop h0 => ?control, fun w hop h0 => ?immediate, ?cmacm⟩
  case memory => rw [kotinDecode_m hop, if_neg h0]
  case control => rw [kotinDecode_c hop, if_neg (not_and_or.2 h0)]
  case immediate => rw [kotinDecode_i hop, if_neg h0]
  case cmacm => exact kotinDecode_encode (.m .cmacm { k := 0, xs := 0b000001, ys := 0, cs := 0b001010, g := 0, mod := 0 })

end

section
/-! PROOFS. The ALU instructions (R158, R160, R161, R175, R176): their checks, that their effects are calm, and what
each of them does. -/

namespace Sys2Proof.Machine

variable {s u : State} {n lane : Nat} {e : Fin 1024} {f : KR} {op : Alu}

/-! ## Calm effects -/

theorem Calm.setFlags (h : Calm s u) (x : Flags) : Calm s (u.setFlags n x) := h.setSt _

theorem Calm.aluWord (h : Calm s u) : Calm s (u.aluWord n f op) := by
  rw [State.aluWord]
  dsimp only
  split
  · exact h.setFlags _
  · exact (h.put32 _).setFlags _

theorem Calm.aluHalves (h : Calm s u) : Calm s (u.aluHalves n f op lane) := by
  rw [State.aluHalves]
  dsimp only
  split
  · exact h.setFlags _
  · exact ((h.putG _).stick _).setFlags _

theorem calm_aluEffect : Calm s (aluEffect s n f op) := by
  rw [aluEffect]
  split
  · exact (Calm.refl s).aluWord
  · exact (Calm.refl s).aluHalves

/-! ## Their checks and their effect -/

/-- A check that is made under a condition only, and passes where it is made. -/
theorem check_if {α : Type} {b : Bool} {x : Except Nat Unit} {k : Unit → Except Nat α} (h : b = true → x = .ok ()) :
    (if b = true then x >>= k else k ()) = k () := by
  cases b with
  | false => rfl
  | true => rw [if_pos rfl, h rfl]; rfl

/-- The modifiers that an ALU instruction accepts: bits 5:4 clear, and no s with the word lane (R175). -/
def aluMod (m : BitVec 6) : Bool := decide (m.toNat / 16 = 0) && !(m.getLsbD 3 && m.toNat % 4 == 3)

theorem aluMod_legal (h : f.mod.toNat < 16) (hs : ¬ (f.mod.getLsbD 3 = true ∧ f.mod.toNat % 4 = 3)) :
    aluMod f.mod = true := by
  rw [aluMod, decide_eq_true (Nat.div_eq_of_lt h)]
  cases h3 : f.mod.getLsbD 3 with
  | false => rfl
  | true =>
    have hlane : f.mod.toNat % 4 ≠ 3 := fun h => hs ⟨h3, h⟩
    simp [hlane]

theorem aluMod_reserved : ∀ m : BitVec 6, 16 ≤ m.toNat ∨ m.toNat % 16 = 11 ∨ m.toNat % 16 = 15 → aluMod m = false := by
  decide

theorem aluMod_unsaturated : ∀ m : BitVec 6, m.toNat < 8 → aluMod m = true := by decide

theorem semAlu_legal (h : AluLegal s n f op) : semAlu op n f s = .ok { state := aluEffect s n f op } := by
  obtain ⟨h16, hsat, ha, hd, hx, hb⟩ := h
  have hd' : (op != .cmp) = true → s.gOk n f.d.toNat = .ok () := fun h => State.gOk_ok (hd (bne_iff_ne.1 h))
  have hb' : (!f.mod.getLsbD 2 && !op.unary) = true → f.b.toNat < s.gLimit n ∧
      (s.getG n f.b.toNat).laneClean (if op.isShift then 3 else f.mod.toNat % 4) = true := by
    intro h
    rw [Bool.and_eq_true, Bool.not_eq_true', Bool.not_eq_true'] at h
    exact hb h.1 h.2
  rw [semAlu, ← aluMod, legal_true (aluMod_legal h16 hsat), State.gOk_ok ha, need_true hx]
  dsimp only
  rw [check_if hd', check_if fun h => State.gOk_ok (hb' h).1, check_if fun h => need_true (hb' h).2]
  rfl

theorem semAlu_illegal (h : aluMod f.mod = false) : semAlu op n f s = .error Exc.illegal := by
  rw [semAlu, ← aluMod, legal_false h]
  rfl

/-- A tag in a lane that the first operand uses bites. -/
theorem semAlu_poison (hm : aluMod f.mod = true) (himm : f.mod.getLsbD 2 = true) (ha : f.a.toNat < s.gLimit n)
    (hd : f.d.toNat < s.gLimit n) (hx : (s.getG n f.a.toNat).laneClean (f.mod.toNat % 4) = false) :
    semAlu op n f s = .error Exc.poison := by
  rw [semAlu, ← aluMod, legal_true hm, State.gOk_ok ha, hx, himm]
  dsimp only
  rw [check_if fun _ => State.gOk_ok hd]
  rfl

/-! ## The commands -/

/-- The thirteen instructions, each with its operation. -/
def aluInstrs : List ((Fin 1024 → KR → Hw → Instr) × Alu) :=
  [(.add, .add), (.sub, .sub), (.kand, .and), (.kor, .or), (.xor, .xor), (.shl, .shl), (.shr, .shr),
    (.shru, .shru), (.cmp, .cmp), (.neg, .neg), (.kabs, .abs), (.kmin, .min), (.kmax, .max)]

theorem exec_alu {p : (Fin 1024 → KR → Hw → Instr) × Alu} (h : p ∈ aluInstrs) (e : Fin 1024) (f : KR) (s : State) :
    ∃ ki, exec (p.1 e f {}) s = .next (s.issue e.val ki {} [] (semAlu p.2 e.val f)) := by
  simp only [aluInstrs, List.mem_cons, List.not_mem_nil, or_false] at h
  obtain rfl | rfl | rfl | rfl | rfl | rfl | rfl | rfl | rfl | rfl | rfl | rfl | rfl := h <;> exact ⟨_, rfl⟩

end Sys2Proof.Machine
end

section
open Sys2Proof Sys2Proof.Machine

/-- Settles O21: each instruction is its operation's effect, or the exception of its first check that fails. -/
theorem kotinAluInstructionsRun : Obligations.KotinAluInstructionsRun := by
  intro p hp
  refine ⟨fun s e f hr hl => ?legal, fun s e f hr hm => ?illegal, fun s e f hr h8 himm ha hd hx => ?poison⟩
  all_goals obtain ⟨ki, hexec⟩ := exec_alu hp e f s
  case legal => exact ⟨_, hexec, issue_ready_ran hr (semAlu_legal hl) calm_aluEffect⟩
  case illegal =>
    rw [hexec, issue_ready_raise hr (semAlu_illegal (aluMod_reserved _ hm))]
    rfl
  case poison =>
    rw [hexec, issue_ready_raise hr (semAlu_poison (aluMod_unsaturated _ h8) himm ha hd hx)]
    rfl

end

section
/-! PROOFS. The lanes of the ALU (R159, R175, R176): signed numbers as words of a width, the word lane as machine
arithmetic, and the half lanes. -/

namespace Sys2Proof.Machine

variable {s : State} {n k m : Nat} {f : KR} {op : Alu}

/-! ## Numbers and words -/

/-- The signed number of the low `w` bits is that of the word they make. -/
theorem sextNat_toInt {w : Nat} (hw : 0 < w) (v : Nat) : sextNat w v = (BitVec.ofNat w v).toInt := by
  have h2 : 2 ^ w = 2 * 2 ^ (w - 1) := by rw [← Nat.pow_succ', Nat.succ_eq_add_one, Nat.sub_add_cancel hw]
  rw [sextNat, BitVec.toInt_eq_toNat_cond, BitVec.toNat_ofNat]
  split
  · rw [if_pos (by omega)]
  · rw [if_neg (by omega)]

theorem ofNat_emod {w : Nat} (v : Int) : BitVec.ofNat w (v % (2 ^ w : Nat)).toNat = BitVec.ofInt w v := by
  rw [← BitVec.toNat_ofInt, BitVec.ofNat_toNat, BitVec.setWidth_eq]

theorem toInt_emod {w : Nat} (x : BitVec w) : (x.toInt % (2 ^ w : Nat)).toNat = x.toNat := by
  rw [← BitVec.toNat_ofInt, BitVec.ofInt_toInt]

theorem ofInt_sextNat {w : Nat} (hw : 0 < w) (v : Nat) : BitVec.ofInt w (sextNat w v) = BitVec.ofNat w v := by
  rw [sextNat_toInt hw, BitVec.ofInt_toInt]

/-- A result that wraps is that of the word it makes (R175). -/
theorem laneResult_wrap {w : Nat} (hw : 0 < w) (v : Int) : laneResult w false v = ((BitVec.ofInt w v).toInt, false) := by
  rw [laneResult, if_neg Bool.false_ne_true, sextNat_toInt hw, ofNat_emod]

/-- A result under s is clamped, and it tells whether it was (R175). -/
theorem laneResult_clamp (v : Int) : (laneResult 18 true v).1 = max (-131072) (min 131071 v) ∧
    ((laneResult 18 true v).2 = true ↔ v < -131072 ∨ 131071 < v) := by
  have hlo : -((2 ^ (18 - 1) : Nat) : Int) = -131072 := by norm_num
  have hhi : ((2 ^ (18 - 1) : Nat) : Int) - 1 = 131071 := by norm_num
  rw [laneResult, if_pos rfl, clampTo, hlo, hhi]
  split
  · exact ⟨by omega, by simp [*]⟩
  · split
    · exact ⟨by omega, by simp; omega⟩
    · exact ⟨by omega, by simp; omega⟩

/-- Wrapped or clamped, a half lane's result is a number of 18 bits. -/
theorem laneResult_fits (sat : Bool) (v : Int) :
    (BitVec.ofInt 18 (laneResult 18 sat v).1).toInt = (laneResult 18 sat v).1 := by
  cases sat with
  | false => rw [laneResult_wrap (by decide), BitVec.ofInt_toInt]
  | true =>
    rw [(laneResult_clamp v).1]
    exact BitVec.toInt_ofInt_eq_self (by decide) (by norm_num) (by norm_num)

theorem ofInt_abs_toInt {w : Nat} (x : BitVec w) : BitVec.ofInt w |x.toInt| = if x.msb then -x else x := by
  rw [BitVec.msb_eq_toInt]
  by_cases h : x.toInt < 0
  · rw [decide_eq_true h, if_pos rfl, abs_of_neg h, BitVec.ofInt_neg, BitVec.ofInt_toInt]
  · rw [decide_eq_false h, if_neg Bool.false_ne_true, abs_of_nonneg (Int.not_lt.1 h), BitVec.ofInt_toInt]

theorem ofInt_min_max_toInt {w : Nat} (x y : BitVec w) :
    BitVec.ofInt w (min x.toInt y.toInt) = (if x.slt y then x else y) ∧
      BitVec.ofInt w (max x.toInt y.toInt) = (if x.slt y then y else x) := by
  rw [BitVec.slt_eq_decide]
  by_cases h : x.toInt < y.toInt
  · rw [decide_eq_true h, min_eq_left h.le, max_eq_right h.le]
    exact ⟨BitVec.ofInt_toInt, BitVec.ofInt_toInt⟩
  · rw [decide_eq_false h, min_eq_right (Int.not_lt.1 h), max_eq_left (Int.not_lt.1 h)]
    exact ⟨BitVec.ofInt_toInt, BitVec.ofInt_toInt⟩

/-! ## The word lane (R175, R176) -/

/-- What the word lane computes on words `x` and `y` with a shift amount `k`: the result and the carry. -/
def wordTable (x y : BitVec 32) (k : Nat) : List (Alu × BitVec 32 × Bool) :=
  [(.add, x + y, decide (2 ^ 32 ≤ x.toNat + y.toNat)), (.sub, x - y, decide (y.toNat ≤ x.toNat)),
    (.and, x &&& y, false), (.or, x ||| y, false), (.xor, x ^^^ y, false), (.shl, x <<< k, false),
    (.shr, x.sshiftRight k, false), (.shru, x >>> k, false), (.neg, -x, false),
    (.abs, if x.msb then -x else x, false), (.min, if x.slt y then x else y, false),
    (.max, if x.slt y then y else x, false)]

theorem aluLane_word {x y : BitVec 32} {p : Alu × BitVec 32 × Bool} (h : p ∈ wordTable x y k) :
    p.1 ≠ .cmp ∧ BitVec.ofInt 32 (aluLane p.1 32 x.toInt y.toInt k).1 = p.2.1 ∧
      (aluLane p.1 32 x.toInt y.toInt k).2 = p.2.2 := by
  have hx := toInt_emod x
  have hy := toInt_emod y
  simp only [wordTable, List.mem_cons, List.not_mem_nil, or_false] at h
  obtain rfl | rfl | rfl | rfl | rfl | rfl | rfl | rfl | rfl | rfl | rfl | rfl := h
  · refine ⟨Alu.noConfusion, ?_, ?_⟩
    · rw [aluLane, BitVec.ofInt_add, BitVec.ofInt_toInt, BitVec.ofInt_toInt]
    · rw [aluLane, hx, hy]
  · refine ⟨Alu.noConfusion, ?_, ?_⟩
    · rw [aluLane, Int.sub_eq_add_neg, BitVec.ofInt_add, BitVec.ofInt_neg, BitVec.ofInt_toInt, BitVec.ofInt_toInt,
        BitVec.sub_eq_add_neg]
    · rw [aluLane, hx, hy]
  · refine ⟨Alu.noConfusion, ?_, rfl⟩
    rw [aluLane, hx, hy, ofInt_sextNat (by decide), BitVec.ofNat_and, BitVec.ofNat_toNat,
      BitVec.ofNat_toNat]
    simp only [BitVec.setWidth_eq]
  · refine ⟨Alu.noConfusion, ?_, rfl⟩
    rw [aluLane, hx, hy, ofInt_sextNat (by decide)]
    simp
  · refine ⟨Alu.noConfusion, ?_, rfl⟩
    rw [aluLane, hx, hy, ofInt_sextNat (by decide)]
    simp
  · refine ⟨Alu.noConfusion, BitVec.eq_of_toNat_eq ?_, rfl⟩
    rw [aluLane, BitVec.ofInt_mul, BitVec.ofInt_toInt, BitVec.ofInt_natCast]
    simp [Nat.shiftLeft_eq]
  · refine ⟨Alu.noConfusion, ?_, rfl⟩
    rw [aluLane, ← Int.shiftRight_eq_div_pow, ← BitVec.toInt_sshiftRight, BitVec.ofInt_toInt]
  · refine ⟨Alu.noConfusion, ?_, rfl⟩
    rw [aluLane, hx, ofInt_sextNat (by decide)]
    rw [← Nat.shiftRight_eq_div_pow, ← BitVec.toNat_ushiftRight, BitVec.ofNat_toNat, BitVec.setWidth_eq]
  · refine ⟨Alu.noConfusion, ?_, rfl⟩
    rw [aluLane, BitVec.ofInt_neg, BitVec.ofInt_toInt]
  · refine ⟨Alu.noConfusion, ?_, rfl⟩
    rw [aluLane, Int.natCast_natAbs, ofInt_abs_toInt]
  · exact ⟨Alu.noConfusion, (ofInt_min_max_toInt x y).1, rfl⟩
  · exact ⟨Alu.noConfusion, (ofInt_min_max_toInt x y).2, rfl⟩

theorem toInt_beq_zero {w : Nat} (x : BitVec w) : (x.toInt == 0) = (x == 0#w) := by
  rw [Bool.eq_iff_iff, beq_iff_eq, beq_iff_eq, ← BitVec.toInt_inj, BitVec.toInt_zero]

theorem sub_beq_zero {w : Nat} (x y : BitVec w) : (x.toInt - y.toInt == 0) = (x == y) := by
  rw [Bool.eq_iff_iff, beq_iff_eq, beq_iff_eq, Int.sub_eq_zero, BitVec.toInt_inj]

/-- The word lane on the low 32 bits of its operands: the result zero-extended, and flags from it. -/
theorem State.aluWord_result {x y : BitVec 32} {p : Alu × BitVec 32 × Bool} (hx : x = (s.getG n f.a.toNat).w.setWidth 32)
    (hy : y = (s.aluB n f 3).w.setWidth 32) (h : p ∈ wordTable x y (s.aluAmount n f)) :
    s.aluWord n f p.1 = (s.putW n f.d.toNat (p.2.1.setWidth 36)).setFlags n
      { n := p.2.1.msb, z := p.2.1 == 0#32, c := p.2.2 } := by
  obtain ⟨hcmp, hval, hcarry⟩ := aluLane_word h
  have hw : BitVec.ofNat 36 ((p.2.1.toInt % (2 ^ 32 : Nat)).toNat % 2 ^ 32) = p.2.1.setWidth 36 := by
    rw [toInt_emod, Nat.mod_eq_of_lt p.2.1.isLt, BitVec.ofNat_toNat]
  rw [State.aluWord, sextNat_toInt (by decide), sextNat_toInt (by decide), BitVec.ofNat_toNat, BitVec.ofNat_toNat, ← hx,
    ← hy]
  dsimp only
  rw [if_neg hcmp, laneResult_wrap (by decide), hval, hcarry, State.put32, hw, toInt_beq_zero, ← BitVec.msb_eq_toInt]

/-- CMP in the word lane writes flags alone (R175). -/
theorem State.aluWord_cmp {x y : BitVec 32} (hx : x = (s.getG n f.a.toNat).w.setWidth 32)
    (hy : y = (s.aluB n f 3).w.setWidth 32) :
    s.aluWord n f .cmp = s.setFlags n { n := x.slt y, z := x == y, c := decide (y.toNat ≤ x.toNat) } := by
  rw [State.aluWord, sextNat_toInt (by decide), sextNat_toInt (by decide), BitVec.ofNat_toNat, BitVec.ofNat_toNat, ← hx,
    ← hy, if_pos rfl, aluLane, toInt_emod, toInt_emod, sub_beq_zero, BitVec.slt_eq_decide,
    decide_eq_decide.2 sub_neg]

/-! ## Registers after an effect -/

theorem State.getG_putG_same (v : GReg) : (s.putG n k v).getG n k = v := by
  rw [State.putG, State.getG, State.engine_setEngine_same, Engine.gAt, Engine.setG, Table.get_set_same]

/-- Registers stand beside ST. -/
theorem State.getG_setSt (w : Word) : (s.setSt m w).getG n k = s.getG n k := by
  rw [State.getG, State.getG, State.setSt]
  by_cases h : gEng n k = m
  · rw [h, State.engine_setEngine_same]
    rfl
  · rw [State.engine_setEngine_ne _ _ h]

theorem State.getG_stick (i : Nat) (b : Bool) : (s.stick m i b).getG n k = s.getG n k := by
  cases b with
  | false => rfl
  | true => exact State.getG_setSt _

theorem State.getG_setFlags (x : Flags) : (s.setFlags m x).getG n k = s.getG n k := State.getG_setSt _

/-! ## The half lanes (R175) -/

theorem h_ofHalves (h l : Int) (a b : Bool) : (GReg.mk (ofHalves h l) a b).h = (BitVec.ofInt 18 h).toInt := by
  rw [GReg.h, ofHalves, BitVec.extractLsb'_append_eq_left]

theorem l_ofHalves (h l : Int) (a b : Bool) : (GReg.mk (ofHalves h l) a b).l = (BitVec.ofInt 18 l).toInt := by
  rw [GReg.l, ofHalves, BitVec.extractLsb'_append_eq_right]

theorem ofInt_h (x : GReg) : (BitVec.ofInt 18 x.h).toInt = x.h := by rw [GReg.h, BitVec.ofInt_toInt]

theorem ofInt_l (x : GReg) : (BitVec.ofInt 18 x.l).toInt = x.l := by rw [GReg.l, BitVec.ofInt_toInt]

theorem GReg.h_withHalves (x y : GReg) (hi lo : Bool) : (x.withHalves y hi lo).h = if hi then y.h else x.h := by
  cases hi with
  | false => exact (h_ofHalves ..).trans (ofInt_h x)
  | true => exact (h_ofHalves ..).trans (ofInt_h y)

theorem GReg.l_withHalves (x y : GReg) (hi lo : Bool) : (x.withHalves y hi lo).l = if lo then y.l else x.l := by
  cases lo with
  | false => exact (l_ofHalves ..).trans (ofInt_l x)
  | true => exact (l_ofHalves ..).trans (ofInt_l y)

/-- A half lane's result before it is written, wrapped or clamped. -/
def State.halfResult (s : State) (n : Nat) (f : KR) (op : Alu) (lane : Nat) (half : GReg → Int) : Int :=
  (laneResult 18 (f.mod.getLsbD 3) (aluLane op 18 (half (s.getG n f.a.toNat)) (half (s.aluB n f lane))
    (s.aluAmount n f)).1).1

/-- The register that an operation on half lanes leaves: the halves of its lanes are the results, without tags. -/
theorem State.aluHalves_getG (hop : op ≠ .cmp) (lane : Nat) : (s.aluHalves n f op lane).getG n f.d.toNat =
    (s.getG n f.d.toNat).withHalves
      { w := ofHalves (s.halfResult n f op lane GReg.h) (s.halfResult n f op lane GReg.l) }
      (lane != 2) (lane != 1) := by
  rw [State.aluHalves]
  dsimp only
  rw [if_neg hop, State.getG_setFlags, State.getG_stick, State.getG_putG_same]
  rfl

theorem State.halfResult_fits {lane : Nat} {half : GReg → Int} :
    (BitVec.ofInt 18 (s.halfResult n f op lane half)).toInt = s.halfResult n f op lane half := laneResult_fits _ _

theorem State.aluHalves_high (hop : op ≠ .cmp) :
    ((s.aluHalves n f op 1).getG n f.d.toNat).h = s.halfResult n f op 1 GReg.h := by
  rw [State.aluHalves_getG hop]
  exact (GReg.h_withHalves ..).trans ((h_ofHalves ..).trans State.halfResult_fits)

theorem State.aluHalves_low (hop : op ≠ .cmp) :
    ((s.aluHalves n f op 2).getG n f.d.toNat).l = s.halfResult n f op 2 GReg.l := by
  rw [State.aluHalves_getG hop]
  exact (GReg.l_withHalves ..).trans ((l_ofHalves ..).trans State.halfResult_fits)

/-! ## Shifts by 18 or more (R176) -/

theorem two_pow_le (h : 18 ≤ k) : 2 ^ 18 ≤ 2 ^ k := Nat.pow_le_pow_right (by decide) h

theorem aluLane_shru_out (x : BitVec 18) (y : Int) (h : 18 ≤ k) : (aluLane .shru 18 x.toInt y k).1 = 0 := by
  rw [aluLane, toInt_emod, Nat.div_eq_of_lt (lt_of_lt_of_le x.isLt (two_pow_le h))]
  rfl

/-- An arithmetic shift right by 18 or more leaves the sign. -/
theorem aluLane_shr_out (x : BitVec 18) (y : Int) (h : 18 ≤ k) :
    (aluLane .shr 18 x.toInt y k).1 = if x.msb then -1 else 0 := by
  have hk := two_pow_le h
  have hlo := BitVec.le_toInt x
  have hhi := BitVec.toInt_lt (x := x)
  rw [aluLane, BitVec.msb_eq_toInt]
  dsimp only
  by_cases hx : x.toInt < 0
  · rw [decide_eq_true hx, if_pos rfl]
    exact Int.ediv_eq_neg_one_of_neg_of_le (by omega) (by omega)
  · rw [decide_eq_false hx, if_neg Bool.false_ne_true]
    exact Int.ediv_eq_zero_of_lt (by omega) (by omega)

end Sys2Proof.Machine
end

section
open Sys2Proof Sys2Proof.Machine

/-- Settles O22: the word lane by its table, a half lane by what it writes into its half. -/
theorem lanesComputeAsTheTableSays : Obligations.LanesComputeAsTheTableSays := by
  refine ⟨?word, ?wrap, laneResult_clamp, ?high, ?low, ?exact, ?shifts, by decide, by decide⟩
  case word =>
    rintro s n f x y k hx hy rfl
    exact ⟨fun p hp => State.aluWord_result hx hy hp, State.aluWord_cmp hx hy⟩
  case wrap =>
    intro v
    rw [laneResult_wrap (by decide)]
    exact ⟨rfl, rfl⟩
  case high =>
    intro s n f op hop hm
    refine ⟨?_, ?_, ?_, State.aluHalves_high hop⟩ <;> rw [State.aluHalves_getG hop]
    · exact GReg.l_withHalves ..
    · rfl
    · rfl
  case low =>
    intro s n f op hop hm
    refine ⟨?_, ?_, ?_, State.aluHalves_low hop⟩ <;> rw [State.aluHalves_getG hop]
    · exact GReg.h_withHalves ..
    · rfl
    · rfl
  case exact =>
    intro x y k
    refine ⟨rfl, rfl, rfl, Int.natCast_natAbs x, rfl, rfl, ?_, ?_⟩
    · simp [aluLane]
    · simp [aluLane]
  case shifts =>
    intro x y k hk
    exact ⟨aluLane_shru_out x _ hk, aluLane_shr_out x _ hk⟩

end

section
/-! PROOFS. Accumulation and complex products (R158, R165, R169, R170): what an accumulation leaves in each
accumulator, and the multiply-accumulates of registers and of data words. -/

namespace Sys2Proof.Machine

variable {s : State} {n k j : Nat} {e : Fin 1024} {f : KR} {fm : KM} {x y : GReg}

/-! ## Accumulators (R165) -/

theorem accOverflows_iff (v : Int) :
    accOverflows v = decide (v < -(2 ^ 47 : Int) ∨ (2 ^ 47 : Int) - 1 < v) := by
  rw [accOverflows, Bool.decide_or]
  norm_num

theorem State.accumulate_one (a : Int) (clr : Bool) : s.accumulate n [{ k := k, add := a, clear := clr }] =
    (s.putAcc n k ((if clr then 0 else s.getAcc n k) + a)).stick n 3
      (decide ((if clr then 0 else s.getAcc n k) + a < -(2 ^ 47 : Int) ∨
        (2 ^ 47 : Int) - 1 < (if clr then 0 else s.getAcc n k) + a)) := by
  rw [State.accumulate, accOverflows_iff]
  rfl

theorem State.getAcc_putAcc_same (v : Int) : (s.putAcc n k v).getAcc n k = (BitVec.ofInt 48 v).toInt := by
  rw [State.getAcc, State.putAcc, State.engine_setEngine_same, Engine.accAt, Engine.setAcc, Table.get_set_same]

/-- The other accumulators, of the engine or of its partner, stay. -/
theorem State.getAcc_putAcc_ne (v : Int) (hk : k < 8) (hj : j < 8) (h : j ≠ k) :
    (s.putAcc n k v).getAcc n j = s.getAcc n j := by
  rw [State.getAcc, State.getAcc, State.putAcc]
  by_cases hx : (if j < 4 then n else n + 1) = if k < 4 then n else n + 1
  · have hne : j % 4 ≠ k % 4 := by split at hx <;> split at hx <;> omega
    rw [hx, State.engine_setEngine_same, Engine.accAt, Engine.accAt, Engine.setAcc, Table.get_set_ne _ _ _ hne]
  · rw [State.engine_setEngine_ne _ _ hx]

/-! ## The commands and their effects (R165, R169, R170) -/

theorem exec_mac : exec (.mac e f {}) s = .next (s.issue e.val (.r .mac f) {} [] (semMac e.val f {})) := by rfl
theorem exec_cmac : exec (.cmac e f {}) s = .next (s.issue e.val (.r .cmac f) {} [] (semCmac e.val f {})) := by rfl
theorem exec_cmacm : exec (.cmacm e fm {}) s =
    .next (s.issue e.val (.m .cmacm fm) {} (s.xcReads e.val fm {}) (semCmacm e.val fm {})) := by rfl

theorem semMac_product (h16 : f.mod.toNat < 16) (hk : AccLegal s n f.d.toNat false) (ha : f.a.toNat < s.gLimit n)
    (hb : f.b.toNat < s.gLimit n) (hx : (s.getG n f.a.toNat).halfClean (f.mod.getLsbD 0) = true)
    (hy : (s.getG n f.b.toNat).halfClean (f.mod.getLsbD 1) = true) : semMac n f {} s = .ok {
      state := s.accumulate n [{
        k := f.d.toNat
        add := (if f.mod.getLsbD 2 then -1 else 1) * ((s.getG n f.a.toNat).half (f.mod.getLsbD 0) *
          (s.getG n f.b.toNat).half (f.mod.getLsbD 1))
        clear := f.mod.getLsbD 3 }] } := by
  rw [semMac, legal_true (decide_eq_true (Nat.div_eq_of_lt h16)), State.accOk_ok hk, State.gOk_ok ha, State.gOk_ok hb,
    ← signed_eq]
  dsimp only
  rw [need_true (by rw [hx, hy]; rfl)]
  rfl

theorem semCmac_product (h16 : f.mod.toNat < 16) (h1 : f.mod.getLsbD 1 = false) (hk : AccLegal s n f.d.toNat true)
    (ha : f.a.toNat < s.gLimit n) (hb : f.b.toNat < s.gLimit n) (hx : (s.getG n f.a.toNat).clean = true)
    (hy : (s.getG n f.b.toNat).clean = true) : semCmac n f {} s = .ok {
      state := s.accumulate n (cacc f.d.toNat (f.mod.getLsbD 0) (f.mod.getLsbD 2) (f.mod.getLsbD 3)
        (s.getG n f.a.toNat) (s.getG n f.b.toNat)) } := by
  rw [semCmac, legal_true (by rw [decide_eq_true (Nat.div_eq_of_lt h16), h1]; rfl), State.accOk_ok hk,
    State.gOk_ok ha, State.gOk_ok hb]
  dsimp only
  rw [need_true (by rw [hx, hy]; rfl)]
  rfl

/-- A pair of accumulators opens at an even one (R158). -/
theorem semCmac_odd (h : f.d.toNat % 2 = 1) : semCmac n f {} s = .error Exc.illegal := by
  have hacc : s.accOk n f.d.toNat true = .error Exc.illegal := legal_false (by simp [h])
  rw [semCmac, hacc]
  obtain h | h := legal_cases (decide (f.mod.toNat / 16 = 0) && !f.mod.getLsbD 1) <;> rw [h] <;> rfl

theorem semCmacm_product (hxc : XcLegal s n fm) (hys : fm.ys = 0) (h1 : fm.mod.getLsbD 1 = false)
    (h4 : fm.mod.getLsbD 4 = false) (hk : AccLegal s n fm.k.toNat true) (hx : (s.opWord n fm.xs).clean = true)
    (hc : (s.opWord n fm.cs).clean = true) : semCmacm n fm {} s = .ok {
      state := (s.stepXc n fm).accumulate n (cacc fm.k.toNat (fm.mod.getLsbD 0) (fm.mod.getLsbD 2)
        (fm.mod.getLsbD 3) (s.opWord n fm.xs) (s.opWord n fm.cs)) } := by
  rw [semCmacm, State.xcOk_ok hxc, legal_true (by rw [hys, h1, h4]; rfl), State.accOk_ok hk, State.xRead_word,
    State.cRead_word]
  dsimp only
  rw [need_true (by rw [hx, hc]; rfl)]
  rfl

end Sys2Proof.Machine
end

section
open Sys2Proof Sys2Proof.Machine

/-- Settles O23: an accumulation one accumulator at a time, and MAC as one product accumulated. -/
theorem accumulationIsExact : Obligations.AccumulationIsExact := by
  refine ⟨fun s n k => State.accumulate_one, fun s n x l => rfl, fun s n k v _ => State.getAcc_putAcc_same v,
    fun s n k j v => State.getAcc_putAcc_ne v, ?mac⟩
  case mac =>
    intro s e f hr h16 hk ha hb hx hy
    exact ⟨_, exec_mac, issue_ready_ran hr (semMac_product h16 hk ha hb hx hy) ((Calm.refl s).accumulate _)⟩

/-- Settles O24: the parts of a product with and without conj, and each complex form by its effect. -/
theorem complexAccumulationFollowsTheProduct : Obligations.ComplexAccumulationFollowsTheProduct := by
  refine ⟨fun x y => ⟨rfl, rfl⟩, ?pair, ?cmac, ?odd, ?cmacm⟩
  case pair =>
    intro k conj sub clr x y
    rw [cacc, signed_eq, signed_eq]
  case cmac =>
    intro s e f hr h16 h1 hk ha hb hx hy
    exact ⟨_, exec_cmac, issue_ready_ran hr (semCmac_product h16 h1 hk ha hb hx hy) ((Calm.refl s).accumulate _)⟩
  case odd =>
    intro s e f hr hd
    rw [exec_cmac, issue_ready_raise hr (semCmac_odd hd)]
    rfl
  case cmacm =>
    intro s e f hr hxc hys h1 h4 hk hx hc
    exact ⟨_, exec_cmacm, issue_ready_data hr (State.xcReads_clean f) (semCmacm_product hxc hys h1 h4 hk hx hc)
      ((Calm.refl s).stepXc.accumulate _) (fun w h => absurd h List.not_mem_nil)⟩

end

section
/-! PROOFS. RDT, WAITT and WAITE (R159, R189 to R191, R261): what each writes, when it waits, and how a wait ends. -/

namespace Sys2Proof.Machine

variable {s u : State} {n k st : Nat} {e : Fin 1024} {f : KR} {d : BitVec 6} {t : Word} {mask : BitVec 16}
  {ki : KInstr} {sem : State → Issued} {reads : List DataRead}

/-! ## The commands -/

theorem exec_rdt : exec (.rdt e f {}) s = .next (s.issue e.val (.r .rdt f) {} [] (semRdt e.val f)) := by rfl
theorem exec_waitt : exec (.waitt e f {}) s = .next (s.issue e.val (.r .waitt f) {} [] (semWaitt e.val f)) := by rfl
theorem exec_waite : exec (.waite e f {}) s = .next (s.issue e.val (.r .waite f) {} [] (semWaite e.val f)) := by rfl
theorem exec_waittDone : exec (.waittDone e) s = .next (waittEnds e.val s) := by rfl
theorem exec_waiteDone : exec (.waiteDone e) s = .next (waiteEnds e.val s) := by rfl

/-- An instruction that waits leaves its effect, and PC where it is. -/
theorem issue_ready_wait (hr : Ready s n) (hs : sem s = .ok { state := u, flow := .wait })
    (hrec : u.readRecords reads = u) : s.issue n ki {} reads sem = u := by
  rw [issue_ready hr rfl, State.runInstr, hs]
  exact hrec

/-! ## Their effects (R189 to R191) -/

theorem semRdt_sample (h : f.d ≠ f.a) (hd : f.d.toNat < s.gLimit n) (ha : f.a.toNat < s.gLimit n) :
    semRdt n f s = .ok {
      state := (s.put32 n f.d.toNat (s.svc.extractLsb' 32 32).toNat).put32 n f.a.toNat
        (s.svc.extractLsb' 0 32).toNat } := by
  rw [semRdt, legal_true (bne_iff_ne.2 h), State.gOk_ok hd, State.gOk_ok ha]
  rfl

/-- What WAITT does with the time it waits for, by the time's class (R190). -/
def waittFlow (n : Nat) (d : BitVec 6) (t : Word) (s : State) : TimeClass → Done
  | .reached => { state := s.put32 n d.toNat 0 }
  | .outside => { state := s.put32 n d.toNat Code.timeOutOfWindow }
  | .ahead => { state := (s.setWait n (.time d t)).enter n EngState.waiting, flow := .wait }

theorem semWaitt_class (hd : f.d.toNat < s.gLimit n) (ha : f.a.toNat < s.gLimit n)
    (hc : (s.getG n f.a.toNat).clean = true) (ht : t = (s.getG n f.a.toNat).w.setWidth 32) :
    semWaitt n f s = .ok (waittFlow n f.d t s (s.classOf t)) := by
  rw [semWaitt, State.gOk_ok hd, State.gOk_ok ha, State.use32_clean hc, ← ht]
  simp only [bind, Except.bind, BitVec.ofNat_toNat, BitVec.setWidth_eq]
  cases s.classOf t <;> rfl

theorem setWidth_low (w : Word) : (w.setWidth 16).setWidth 32 = w &&& 0xFFFF#32 := by
  refine BitVec.eq_of_toNat_eq ?_
  have hand : w.toNat &&& 65535 = w.toNat % 2 ^ 16 := Nat.and_two_pow_sub_one_eq_mod w.toNat 16
  rw [BitVec.toNat_setWidth, BitVec.toNat_setWidth, BitVec.toNat_and]
  change _ = w.toNat &&& 65535
  omega

/-- The flags that a WAITE matches are those under the low half of its immediate. -/
theorem State.matched_imm (w : Word) : s.matched n (w.setWidth 16) = s.reg (R.ENG_EVT n) &&& (w &&& 0xFFFF#32) := by
  rw [State.matched, setWidth_low]

theorem semWaite_event (hd : f.d.toNat < s.gLimit n) (h0 : f.mod.getLsbD 0 = false)
    (hm : s.matched n (f.imm.setWidth 16) ≠ 0) :
    semWaite n f s = .ok { state := s.waiteEvent n f.d (f.imm.setWidth 16) (f.mod.getLsbD 1) } := by
  rw [semWaite, State.gOk_ok hd, h0]
  simp only [bind, Except.bind, Bool.false_eq_true, if_false]
  rw [if_pos hm]
  rfl

theorem semWaite_waits (hd : f.d.toNat < s.gLimit n) (h0 : f.mod.getLsbD 0 = false)
    (hm : s.matched n (f.imm.setWidth 16) = 0) : semWaite n f s = .ok {
      state := (s.setWait n (.events f.d (f.imm.setWidth 16) none (f.mod.getLsbD 1))).enter n EngState.waiting
      flow := .wait } := by
  rw [semWaite, State.gOk_ok hd, h0]
  simp only [bind, Except.bind, Bool.false_eq_true, if_false]
  rw [if_neg (not_not_intro hm)]
  rfl

theorem semWaite_deadline (hd : f.d.toNat < s.gLimit n) (h0 : f.mod.getLsbD 0 = true) (ha : f.a.toNat < s.gLimit n)
    (hc : (s.getG n f.a.toNat).clean = true) (ht : t = (s.getG n f.a.toNat).w.setWidth 32)
    (hm : s.matched n (f.imm.setWidth 16) = 0) :
    (s.classOf t = .reached → semWaite n f s = .ok { state := s.putW n f.d.toNat 0x100000000#36 }) ∧
    (s.classOf t = .outside → semWaite n f s = .ok { state := s.put32 n f.d.toNat 0x05020000 }) := by
  rw [semWaite, State.gOk_ok hd, h0, State.gOk_ok ha, State.use32_clean hc, ← ht]
  simp only [bind, Except.bind, if_true, BitVec.ofNat_toNat, BitVec.setWidth_eq]
  rw [if_neg (not_not_intro hm)]
  exact ⟨fun h => by rw [h]; rfl, fun h => by rw [h]; rfl⟩

/-! ## What WAITE writes (R191) -/

theorem State.waiteEvent_reg : (s.waiteEvent n d mask true).reg (R.ENG_EVT n) =
    s.reg (R.ENG_EVT n) &&& ~~~(mask.setWidth 32) := by
  rw [State.waiteEvent, if_pos rfl, State.reg_setReg_same, State.matched, BitVec.not_and,
    BitVec.and_or_distrib_left, BitVec.and_not_self]
  exact BitVec.zero_or

/-! ## The end of a wait -/

theorem State.enter_waits : (s.enter n st).waits = s.waits := by
  have hshow : (s.showState (s.gov n) st).waits = s.waits := by
    rw [State.showState]
    split <;> simp only [State.setFld_waits]
  obtain h | h | h := s.enter_cases n st <;> rw [h]
  · rw [State.wdStart]
    split
    · exact hshow
    · exact hshow
  · exact hshow
  · exact hshow

/-- The engine at its next instruction. -/
def Engine.next (g : Engine) : Engine := { g with pc := g.pc + 1, past := g.pc == 8191#13 }

/-- An instruction that read and wrote no memory word, and ends in order, moves PC and does nothing else. -/
theorem completeAt_next (hin : (u.engine n).inner = none) (hstep : u.mon.stepping = none) :
    u.completeAt n 0 .seq [] [] = u.setEngine n (u.engine n).next := by
  have hadv : (u.engine n).advance (u.engine n).pc .seq = (u.engine n).next := by
    simp only [Engine.advance]
    rw [loopEnd_none _ hin]
    rfl
  rw [completeAt_advance ⟨Flow.noConfusion, Flow.noConfusion, Flow.noConfusion⟩ (by simp) (by simp) (by rw [hadv]; rfl)
    hstep, hadv]

/-- An engine that ends a wait after a calm effect: it is RUNNING at the next instruction, waits for nothing, and has
the registers that the effect left; the other engines stay. -/
theorem State.endWait_spec (hc : Calm s u) (hg : u.gov n = n) (hin : (s.engine n).inner = none)
    (hstep : s.mon.stepping = none) :
    (u.endWait n).engState n = EngState.running ∧ (u.endWait n).waitOf n = .none ∧
      ((u.endWait n).engine n).pc = (s.engine n).pc + 1 ∧ ((u.endWait n).engine n).g = (u.engine n).g ∧
      ∀ k, k ≠ n → (u.endWait n).engine k = u.engine k := by
  obtain ⟨hmon, heng⟩ := hc
  obtain ⟨hpc, -, hlc, -⟩ := heng n
  have hg' : (u.setWait n .none).gov n = n := (State.gov_congr (State.setWait_reg ..)).trans hg
  obtain ⟨left, due, he⟩ := (u.setWait n .none).enter_engine hg' EngState.running
  rw [State.setWait_engine] at he
  generalize hv : (u.setWait n .none).enter n EngState.running = v at he
  have hvin : (v.engine n).inner = none := by
    rw [he]
    exact (Engine.innerBelow_congr hlc 4).trans hin
  have hend : u.endWait n = v.setEngine n (v.engine n).next := by
    rw [State.endWait, hv]
    exact completeAt_next hvin (by rw [← hv, State.enter_mon]; exact hmon.trans hstep)
  rw [hend]
  refine ⟨?_, ?_, ?_, ?_, fun k hk => ?_⟩
  · rw [State.engState, State.setEngine_fld, ← hv]
    exact State.enter_engState hg' (by decide)
  · rw [State.waitOf, State.setEngine_waits, ← hv, State.enter_waits]
    exact Table.get_set_same noWait u.waits n .none
  · rw [State.engine_setEngine_same, he]
    exact congrArg (· + 1) hpc
  · rw [State.engine_setEngine_same, he]
    rfl
  · rw [State.engine_setEngine_ne _ _ hk, ← hv, State.enter_engine_ne hg' hk, State.setWait_engine]

/-- One of the engine's own registers, read in another state with the same ones. -/
theorem State.getG_of_own (hk : k < 32) (h : (s.engine n).g = (u.engine n).g) : s.getG n k = u.getG n k := by
  rw [State.getG, State.getG, gEng, if_pos hk, Engine.gAt, Engine.gAt, h]

/-- A write of one of the engine's own registers leaves the other engines. -/
theorem State.put32_engine_ne (x : Nat) (hd : d.toNat < 32) (hk : k ≠ n) :
    (s.put32 n d.toNat x).engine k = s.engine k := by
  rw [State.put32, State.putW, State.putG, gEng, if_pos hd, State.engine_setEngine_ne _ _ hk]

theorem Calm.waiteEvent (c : Bool) : Calm s (s.waiteEvent n d mask c) := by
  rw [State.waiteEvent]
  split
  · exact ((Calm.refl s).put32 _).trans (.of_eng (State.setReg_mon ..) (State.setReg_eng ..))
  · exact (Calm.refl s).put32 _

theorem State.waiteEvent_engine (c : Bool) :
    (s.waiteEvent n d mask c).engine k = (s.put32 n d.toNat (s.matched n mask).toNat).engine k := by
  rw [State.waiteEvent]
  cases c with
  | false => rfl
  | true => exact State.setReg_engine ..

theorem State.waiteEvent_gov (c : Bool) : (s.waiteEvent n d mask c).gov n = s.gov n := by
  have hput : (s.put32 n d.toNat (s.matched n mask).toNat).gov n = s.gov n := State.setEngine_gov _
  rw [State.waiteEvent]
  cases c with
  | false => exact hput
  | true =>
    exact (State.gov_congr (State.reg_setReg_ne _ _ (by simp only [R.ENG_CTRL, R.ENG_EVT]; omega))).trans hput

/-! ## The commands that end a wait -/

theorem waittEnds_reached (hw : s.waitOf n = .time d t) (hst : s.engState n = EngState.waiting)
    (ht : s.isReached t = true) (hl : s.copyLost (engUnit n) = false) :
    waittEnds n s = (s.put32 n d.toNat 0).endWait n := by
  rw [waittEnds, hw]
  exact if_pos ⟨hst, ht, hl⟩

theorem waittEnds_ahead (hw : s.waitOf n = .time d t) (ht : s.isReached t = false) : waittEnds n s = s := by
  rw [waittEnds, hw]
  exact if_neg (by simp [ht])

theorem waiteEnds_event {l : Option Word} {c : Bool} (hw : s.waitOf n = .events d mask l c)
    (hst : s.engState n = EngState.waiting) (hm : s.matched n mask ≠ 0) :
    waiteEnds n s = (s.waiteEvent n d mask c).endWait n := by
  rw [waiteEnds, hw]
  dsimp only
  rw [if_neg (not_not_intro hst), if_pos hm]

theorem waiteEnds_none {c : Bool} (hw : s.waitOf n = .events d mask none c) (hm : s.matched n mask = 0) :
    waiteEnds n s = s := by
  rw [waiteEnds, hw]
  dsimp only
  rw [if_neg (not_not_intro hm), ite_self]

end Sys2Proof.Machine
end

section
open Sys2Proof Sys2Proof.Machine

/-- Settles O30: each instruction by what its checks answer, each end of a wait by what `endWait` leaves. -/
theorem engineWaitsEndOnTheirInstant : Obligations.EngineWaitsEndOnTheirInstant := by
  refine ⟨?rdt, ?waitt, ?waite, ?deadline, fun s n d m => State.waiteEvent_reg, ?timeEnds, ?timeAhead, ?eventEnds,
    ?noEvent⟩
  case rdt =>
    intro s e f hr hne hd ha
    exact ⟨_, exec_rdt, issue_ready_ran hr (semRdt_sample hne hd ha) (((Calm.refl s).put32 _).put32 _)⟩
  case waitt =>
    intro s e f t hr hd ha hc ht
    have hsem := semWaitt_class hd ha hc ht
    refine ⟨fun h => ⟨_, exec_waitt, ?_⟩, fun h => ⟨_, exec_waitt, ?_⟩, fun h => ?_⟩ <;> rw [h] at hsem
    · exact issue_ready_ran hr hsem ((Calm.refl s).put32 _)
    · exact issue_ready_ran hr hsem ((Calm.refl s).put32 _)
    · rw [exec_waitt, issue_ready_wait hr hsem rfl]
  case waite =>
    intro s e f hr hd h0
    rw [← State.matched_imm]
    exact ⟨fun h => ⟨_, exec_waite, issue_ready_ran hr (semWaite_event hd h0 h) (Calm.waiteEvent _)⟩,
      fun h => by rw [exec_waite, issue_ready_wait hr (semWaite_waits hd h0 h) rfl]⟩
  case deadline =>
    intro s e f t hr hd h0 ha hc ht hm
    rw [← State.matched_imm] at hm
    obtain ⟨hreached, houtside⟩ := semWaite_deadline hd h0 ha hc ht hm
    exact ⟨fun h => ⟨_, exec_waite, issue_ready_ran hr (hreached h) ((Calm.refl s).putW _ _)⟩,
      fun h => ⟨_, exec_waite, issue_ready_ran hr (houtside h) ((Calm.refl s).put32 _)⟩⟩
  case timeEnds =>
    intro s e d t hw hwide hodd hd hst ht hl hin _ hstep
    obtain ⟨hrun, hnone, hpc, hg, hother⟩ := State.endWait_spec ((Calm.refl s).put32 (n := e.val) (k := d.toNat) 0)
      ((State.setEngine_gov _).trans (State.gov_narrow hwide)) hin hstep
    refine ⟨_, exec_waittDone, ?_⟩
    rw [waittEnds_reached hw hst ht hl]
    refine ⟨hrun, hnone, hpc, ?_, fun k hk => (hother k hk).trans (State.put32_engine_ne _ hd hk)⟩
    rw [State.getG_of_own hd hg, State.getG_put32]
    rfl
  case timeAhead =>
    intro s e d t hw ht
    rw [exec_waittDone, waittEnds_ahead hw ht]
  case eventEnds =>
    intro s e d m l c hw hwide hodd hd hst hm hin _ hstep
    obtain ⟨hrun, hnone, hpc, hg, hother⟩ := State.endWait_spec (Calm.waiteEvent (n := e.val) (d := d) (mask := m) c)
      ((State.waiteEvent_gov c).trans (State.gov_narrow hwide)) hin hstep
    rw [State.waiteEvent_engine] at hg
    refine ⟨_, exec_waiteDone, ?_⟩
    rw [waiteEnds_event hw hst hm]
    refine ⟨hrun, hnone, hpc, ?_, fun k hk => (hother k hk).trans ?_⟩
    · rw [State.getG_of_own hd hg, State.getG_put32, Nat.mod_eq_of_lt (BitVec.isLt _), BitVec.ofNat_toNat, State.matched]
    · rw [State.waiteEvent_engine, State.put32_engine_ne _ hd hk]
  case noEvent =>
    intro s e d m c hw hm
    rw [exec_waiteDone, waiteEnds_none hw hm]

end

section
/-! PROOFS. SEND and the transaction instructions (R187, R197, R198, R206, R312): the words a payload reads, the packet
of a SEND, what the TXU's operations leave alone, and what each instruction does. -/

namespace Sys2Proof.Machine

variable {s u t : State} {n k p id : Nat} {e : Fin 1024} {f : KT} {fr : KR} {ki : KInstr} {sem : State → Issued}
  {reads : List DataRead} {m : Master} {pk : Packet} {ws : List GReg} {hd : Word}

/-! ## Words read without an error (R134) -/

/-- Words of the engine's or its partner's memory, none of whose codes fails. -/
def PlainReads (n : Nat) (reads : List DataRead) : Prop :=
  ∀ r ∈ reads, (r.eng = n ∨ r.eng = n + 1) ∧ r.hi = .clean ∧ r.lo = .clean

/-- Such reads leave no record. -/
theorem PlainReads.readRecords (h : PlainReads n reads) (u : State) : u.readRecords reads = u := by
  induction reads generalizing u with
  | nil => rfl
  | cons r l ih =>
    obtain ⟨-, hhi, hlo⟩ := h r List.mem_cons_self
    rw [State.readRecords, hhi, hlo]
    exact ih (fun r' h' => h r' (List.mem_cons_of_mem _ h')) u

theorem issue_ready_reads (hr : Ready s n) (hreads : PlainReads n reads) (hs : sem s = .ok { state := u })
    (hc : Calm s u) : Ran n u (s.issue n ki {} reads sem) :=
  issue_ran hr rfl hs rfl (hreads.readRecords u) hc (fun r h => (hreads r h).1) (fun _ h => absurd h List.not_mem_nil)

theorem issue_ready_reads_raise {c : Nat} (hr : Ready s n) (hreads : PlainReads n reads) (hs : sem s = .error c) :
    s.issue n ki {} reads sem = s.raise n c := by
  rw [issue_ready hr rfl, State.runInstr, hs]
  dsimp only
  rw [hreads.readRecords, ite_self]

/-- An illegal instruction reads nothing. -/
theorem issue_ready_illegal (hr : Ready s n) (hs : sem s = .error Exc.illegal) :
    s.issue n ki {} reads sem = s.raise n 1 := by
  rw [issue_ready hr rfl, State.runInstr, hs]
  rfl

/-! ## A payload (R187) -/

/-- The addresses of a payload, read without an error. -/
theorem State.payloadReads_plain : s.payloadReads n p k {} =
    (s.ptrRun n p (s.ptr n p) k).map fun a => { eng := ptrEng n p, addr := a } := by
  have hmap := congrArg (List.map fun a => ({ eng := ptrEng n p, addr := a } : DataRead))
    (List.zipIdx_map_fst 0 (s.ptrRun n p (s.ptr n p) k))
  rw [List.map_map] at hmap
  simp only [State.payloadReads, List.getD_nil]
  exact hmap

theorem plainReads_payload : PlainReads n (s.payloadReads n p k {}) := by
  intro r h
  rw [State.payloadReads_plain] at h
  obtain ⟨a, -, rfl⟩ := List.mem_map.1 h
  exact ⟨ptrEng_cases .., rfl, rfl⟩

theorem State.dataAt_plain (x a : Nat) : s.dataAt { eng := x, addr := a } = s.dword x a := by
  have he : (Ecc.clean == Ecc.uncorrectable) = false := by decide
  simp only [State.dataAt, he, Bool.or_false]

/-- The words of a payload are those at its addresses. -/
theorem State.payloadWords : (s.payloadReads n p k {}).map s.dataAt =
    (s.ptrRun n p (s.ptr n p) k).map (s.dword (ptrEng n p)) := by
  rw [State.payloadReads_plain, List.map_map]
  exact List.map_congr_left fun a _ => State.dataAt_plain ..

theorem State.payloadOk_ok (hp : f.p.toNat < s.ptrLimit n) (hm : f.pm = 0 ∨ f.pm = 2) : s.payloadOk n f = .ok () := by
  refine legal_true ?_
  obtain h | h := hm <;> simp [hp, h]

theorem Calm.payloadStep (h : Calm s u) (k : Nat) : Calm s (u.payloadStep n f k) := by
  rw [State.payloadStep]
  split
  · exact h.setPtr _
  · exact h

/-- A packet that is sent changes nothing but the network. -/
theorem State.inject_noc (h : s.inject pk = some u) : { u with noc := s.noc } = s := by
  rw [State.inject] at h
  split at h
  · cases h
    rw [State.track]
    split <;> rfl
  · cases h

theorem Calm.inject (h : Calm s u) (hi : u.inject pk = some t) : Calm s t := by
  have hnoc := State.inject_noc hi
  exact h.trans (.of_eng (congrArg (·.mon) hnoc) (congrArg (·.eng) hnoc))

/-! ## SEND (R187) -/

/-- The MESSAGE packet of a SEND with header `hd` and words `ws`. -/
def sendPacket (n : Nat) (f : KT) (hd : Word) (ws : List GReg) : Packet where
  kind := 5
  prio := hd.extractLsb' 22 3
  route := hd.extractLsb' 0 12
  src := BitVec.ofNat 10 (engUnit n).ni
  dst := hd.extractLsb' 12 10
  txid := f.imm.extractLsb' 8 8
  poison := ws.any fun w => !w.clean
  integ := true
  tag := 0
  address := 0
  dtag := 0
  payload := ws.flatMap fun w => toBytes 8 (toLayout w.w).toNat
  crc := crc32c (ws.flatMap fun w => toBytes 8 (toLayout w.w).toNat)
  fpoison := false

theorem plainReads_send : PlainReads n (s.sendReads n f {}) := plainReads_payload

theorem exec_send : exec (.send e f {}) s =
    .next (s.issue e.val (.t .send f) {} (s.sendReads e.val f {}) (semSend e.val f {})) := by rfl

/-- The operands of a SEND are legal and its header unpoisoned. -/
def SendLegal (s : State) (n : Nat) (f : KT) (hd : Word) (ws : List GReg) : Prop :=
  1 ≤ sendWords f ∧ sendWords f ≤ 64 ∧ f.p.toNat < s.ptrLimit n ∧ (f.pm = 0 ∨ f.pm = 2) ∧ f.a.toNat < s.gLimit n ∧
    (s.getG n f.a.toNat).clean = true ∧ hd = (s.getG n f.a.toNat).w.setWidth 32 ∧
    ws = (s.ptrRun n f.p.toNat (s.ptr n f.p.toNat) (sendWords f)).map (s.dword (ptrEng n f.p.toNat))

theorem semSend_legal (h : SendLegal s n f hd ws) : semSend n f {} s = ((s.inject (sendPacket n f hd ws)).elim
    (.error Exc.busError) fun t => .ok { state := t.payloadStep n f (sendWords f) }) := by
  obtain ⟨h1, h64, hp, hm, ha, hc, hhd, hws⟩ := h
  rw [semSend, legal_true (by simp [h1, h64]), State.payloadOk_ok hp hm, State.gOk_ok ha, State.use32_clean hc, ← hhd]
  simp only [bind, Except.bind, BitVec.ofNat_toNat, BitVec.setWidth_eq, State.sendReads]
  rw [State.payloadWords, ← hws, ← sendPacket]
  cases s.inject (sendPacket n f hd ws) <;> rfl

theorem semSend_count (h : sendWords f = 0 ∨ 64 < sendWords f) : semSend n f {} s = .error Exc.illegal := by
  rw [semSend, legal_false (by simp; omega)]
  rfl

/-! ## What the TXU's operations leave alone (R294, R300, R301, R305, R312) -/

theorem Calm.setTx (h : Calm s u) (x : Tx) : Calm s (u.setTx id x) := h.trans (.of_eng rfl rfl)

theorem Calm.setHeldTx (h : Calm s u) (l : List HeldTx) : Calm s (u.setHeldTx n l) := h.trans (.of_eng rfl rfl)

theorem Calm.satFld (h : Calm s u) (q o : Field) : Calm s (u.satFld q o) :=
  h.trans (.of_eng (State.satFld_mon ..) (State.satFld_eng ..))

theorem Calm.txNotify (h : Calm s u) (x : Tx) : Calm s (u.txNotify id x) := by
  rw [State.txNotify]
  split
  · exact (h.setHeldTx _).trans (calm_raiseEvent _)
  · split
    · exact h.trans calm_ringBell
    · exact h

theorem Calm.txEnd (h : Calm s u) : Calm s (u.txEnd id) := by
  have hcount : ∀ b : Prop, [Decidable b] →
      Calm s (if b then u.satFld F.TXU_PARTIAL_partial F.TXU_PARTIAL_overflow else u) := by
    intro b _
    split
    · exact h.satFld _ _
    · exact h
  rw [State.txEnd]
  dsimp only
  split
  · exact ((hcount _).setTx _).txNotify _
  · exact (((hcount _).setTx _).txNotify _).setTx _

theorem calm_txOpenFor (deadline : Nat) : Calm s (s.txOpenFor m deadline).2.2 := by
  have hid : Calm s s.txOpenId.2 := by
    rw [State.txOpenId]
    split
    · exact .refl s
    · exact .of_eng rfl rfl
  rw [State.txOpenFor]
  dsimp only
  split
  · exact .refl s
  · exact hid.setTx _

theorem calm_txCommitFor (l : Launch) : Calm s (s.txCommitFor m id l).2 := by
  rw [State.txCommitFor]
  dsimp only
  split
  · exact .refl s
  · split
    · exact ((Calm.refl s).setTx _).txEnd
    · exact (Calm.refl s).setTx _

theorem calm_txAbortFor : Calm s (s.txAbortFor m id).2 := by
  have hwith : ∀ c, Calm s (s.txAbortWith id c) := by
    intro c
    rw [State.txAbortWith]
    dsimp only
    split
    · exact (((Calm.refl s).setTx _).satFld _ _).txEnd
    · exact ((Calm.refl s).setTx _).satFld _ _
  rw [State.txAbortFor]
  split
  · exact .refl s
  · split
    · exact .refl s
    · exact hwith _

/-- A release touches the TXU's table alone: what engines hold stays. -/
theorem State.txReleaseFor_cases : (s.txReleaseFor m id).2 = s ∨ (s.txReleaseFor m id).2 = s.setTx id {} := by
  rw [State.txReleaseFor]
  split
  · exact .inl rfl
  · split
    · exact .inl rfl
    · exact .inr rfl

theorem calm_txReleaseFor : Calm s (s.txReleaseFor m id).2 := by
  obtain h | h := State.txReleaseFor_cases (s := s) (m := m) (id := id) <;> rw [h]
  · exact .refl s
  · exact (Calm.refl s).setTx _

theorem State.txReleaseFor_heldTx : (s.txReleaseFor m id).2.heldTx n = s.heldTx n := by
  obtain h | h := State.txReleaseFor_cases (s := s) (m := m) (id := id) <;> rw [h]
  rfl

/-! ## The transaction instructions (R197, R198) -/

theorem exec_txopen : exec (.txopen e fr {}) s =
    .next (s.issue e.val (.r .txopen fr) {} [] (semTxopen e.val fr)) := by rfl
theorem exec_txcmt : exec (.txcmt e fr {}) s = .next (s.issue e.val (.r .txcmt fr) {} [] (semTxcmt e.val fr)) := by rfl
theorem exec_txabt : exec (.txabt e fr {}) s = .next (s.issue e.val (.r .txabt fr) {} [] (semTxabt e.val fr)) := by rfl
theorem exec_txst : exec (.txst e fr {}) s = .next (s.issue e.val (.r .txst fr) {} [] (semTxst e.val fr)) := by rfl

theorem semTxopen_full (hd : fr.d.toNat < s.gLimit n) (h : 4 ≤ (s.heldTx n).length) :
    semTxopen n fr s = .ok { state := s.put32 n fr.d.toNat 0xFF02 } := by
  rw [semTxopen, State.gOk_ok hd]
  simp only [bind, Except.bind]
  rw [if_pos h]
  rfl

/-- TXOPEN with an ID to hold: the TXU's status and ID, and the ID held where one was issued. -/
theorem semTxopen_asks {r : Nat × Nat × State} (hd : fr.d.toNat < s.gLimit n) (h : (s.heldTx n).length < 4)
    (hr : r = s.txOpenFor (engUnit n) (fr.imm.toNat % 65536)) : semTxopen n fr s = .ok {
      state := (if r.1 = 0 then r.2.2.setHeldTx n (r.2.2.heldTx n ++ [{ id := BitVec.ofNat 8 r.2.1 }])
        else r.2.2).put32 n fr.d.toNat (r.1 + 65536 * r.2.1) } := by
  rw [semTxopen, State.gOk_ok hd, hr]
  simp only [bind, Except.bind]
  rw [if_neg (by omega)]
  rfl

/-- What TXCMT commits for: the time in Ga, or ASAP. -/
def launchOf (s : State) (n : Nat) (f : KR) (l : Launch) : Prop :=
  if f.mod.getLsbD 0 then l = Launch.asap else f.a.toNat < s.gLimit n ∧
    (s.getG n f.a.toNat).clean = true ∧ l = .at ((s.getG n f.a.toNat).w.setWidth 32)

theorem exists_launchOf (ha : fr.a.toNat < s.gLimit n) (hc : (s.getG n fr.a.toNat).clean = true) :
    ∃ l, launchOf s n fr l := by
  cases h : fr.mod.getLsbD 0 with
  | true => exact ⟨.asap, by simp [launchOf, h]⟩
  | false => exact ⟨.at ((s.getG n fr.a.toNat).w.setWidth 32), by rw [launchOf, h]; exact ⟨ha, hc, rfl⟩⟩

theorem semTxcmt_launch {l : Launch} {r : Nat × State} (hd : fr.d.toNat < s.gLimit n) (hl : launchOf s n fr l)
    (hr : r = s.txCommitFor (engUnit n) (fr.imm.toNat % 256) l) : semTxcmt n fr s = .ok {
      state := if s.holdsTx n (fr.imm.toNat % 256) then r.2.put32 n fr.d.toNat r.1
        else s.put32 n fr.d.toNat 0xFF02 } := by
  rw [semTxcmt, State.gOk_ok hd, hr]
  rw [launchOf] at hl
  cases h0 : fr.mod.getLsbD 0 with
  | true =>
    rw [h0] at hl
    obtain rfl : l = .asap := hl
    dsimp only [bind, Except.bind, Bool.not_true]
    cases s.holdsTx n (fr.imm.toNat % 256) <;> rfl
  | false =>
    rw [h0] at hl
    obtain ⟨ha, hc, rfl⟩ := hl
    dsimp only [bind, Except.bind, Bool.not_false]
    rw [State.gOk_ok ha, State.use32_clean hc]
    simp only [Bool.false_eq_true, if_false, Except.map, BitVec.ofNat_toNat, BitVec.setWidth_eq]
    cases s.holdsTx n (fr.imm.toNat % 256) <;> rfl

theorem semTxabt_asks {r : Nat × State} (hd : fr.d.toNat < s.gLimit n)
    (hr : r = s.txAbortFor (engUnit n) (fr.imm.toNat % 256)) : semTxabt n fr s = .ok {
      state := if s.holdsTx n (fr.imm.toNat % 256) then r.2.put32 n fr.d.toNat r.1
        else s.put32 n fr.d.toNat 0xFF02 } := by
  rw [semTxabt, State.gOk_ok hd, hr]
  cases h : s.holdsTx n (fr.imm.toNat % 256) <;> simp only [bind, Except.bind, h] <;> rfl

theorem find?_of_not_holdsTx (h : s.holdsTx n id = false) :
    (s.heldTx n).find? (fun x => x.id.toNat == id) = none := by
  rw [State.holdsTx, List.any_eq_false] at h
  exact List.find?_eq_none.2 h

theorem semTxst_none (hd : fr.d.toNat < s.gLimit n)
    (h : (s.heldTx n).find? (fun x => x.id.toNat == fr.imm.toNat % 256) = none) :
    semTxst n fr s = .ok { state := s.put32 n fr.d.toNat 0 } := by
  rw [semTxst, State.gOk_ok hd]
  simp only [bind, Except.bind, h]
  rfl

theorem semTxst_running {x : HeldTx} (hd : fr.d.toNat < s.gLimit n)
    (h : (s.heldTx n).find? (fun x => x.id.toNat == fr.imm.toNat % 256) = some x) (hx : x.ended = false) :
    semTxst n fr s = .ok { state := s.put32 n fr.d.toNat 0 } := by
  rw [semTxst, State.gOk_ok hd]
  simp only [bind, Except.bind, h, hx]
  rfl

/-- What TXST returns of a transaction that has ended: bit 31, the subject's NI and the outcome. -/
def endedWord (x : HeldTx) : Nat := 2 ^ 31 + 65536 * (x.subject.map Master.ni).getD 0 + x.outcome.toNat

theorem semTxst_ended {x : HeldTx} (hd : fr.d.toNat < s.gLimit n)
    (h : (s.heldTx n).find? (fun x => x.id.toNat == fr.imm.toNat % 256) = some x) (hx : x.ended = true) :
    semTxst n fr s = .ok { state := (((s.setHeldTx n ((s.heldTx n).filter fun x =>
      x.id.toNat != fr.imm.toNat % 256)).txReleaseFor (engUnit n) (fr.imm.toNat % 256)).2.put32 n fr.d.toNat
        (endedWord x)) } := by
  rw [semTxst, State.gOk_ok hd, endedWord]
  simp only [bind, Except.bind, h, hx]
  cases x.subject <;> simp only [if_true, Option.map, Option.getD, pure, Except.pure]

theorem endedWord_bits (x : HeldTx) : (BitVec.ofNat 36 (endedWord x % 2 ^ 32)).getLsbD 31 = true ∧
    (BitVec.ofNat 36 (endedWord x % 2 ^ 32)).extractLsb' 0 16 = x.outcome := by
  have hni : (x.subject.map Master.ni).getD 0 < 768 := by
    cases x.subject with
    | none => decide
    | some u =>
      rw [Option.map_some, Option.getD_some, Master.ni]
      exact niOfKey_lt u.key
  have ho := x.outcome.isLt
  constructor
  · rw [BitVec.getLsbD_ofNat, Nat.testBit_eq_decide_div_mod_eq, endedWord, Bool.and_eq_true, decide_eq_true_iff,
      decide_eq_true_iff]
    omega
  · refine BitVec.eq_of_toNat_eq ?_
    rw [BitVec.extractLsb'_toNat, BitVec.toNat_ofNat, Nat.shiftRight_zero, endedWord]
    omega

theorem Ran.heldTx (h : Ran n u t) (k : Nat) : t.heldTx k = u.heldTx k := by
  obtain ⟨-, -, hrest⟩ := h
  rw [← hrest]
  rfl

theorem State.heldTx_setHeldTx_same (l : List HeldTx) : (s.setHeldTx n l).heldTx n = l := Table.get_set_same noHeld ..

end Sys2Proof.Machine
end

section
open Sys2Proof Sys2Proof.Machine

/-- Settles O32: SEND by its packet, each transaction instruction by the TXU's operation that it asks for. -/
theorem messagesAndTransactionsRun : Obligations.MessagesAndTransactionsRun := by
  refine ⟨?send, fun s e f hr h => ?sendCount, ?txopen, ?notHeld, ?txcmt, ?txabt, ?txst⟩
  case send =>
    intro s e f hd ws p t hr h1 h64 hp hm ha hc hhd hws hfields
    have hpk : p = sendPacket e.val f hd ws := by
      obtain ⟨hkind, hprio, hroute, hdst, hsrc, htxid, hpayload, hpoison, hcrc, hinteg, htag, haddr, hdtag, hfp⟩ :=
        hfields
      cases p
      simp_all [sendPacket]
    have hsem := semSend_legal ⟨h1, h64, hp, hm, ha, hc, hhd, hws⟩
    rw [← hpk] at hsem
    refine ⟨fun h => ?_, fun h => ?_⟩ <;> rw [h] at hsem
    · exact ⟨_, exec_send, issue_ready_reads hr plainReads_send hsem (((Calm.refl s).inject h).payloadStep _)⟩
    · rw [exec_send, issue_ready_reads_raise hr plainReads_send hsem]
      rfl
  case sendCount => rw [exec_send, issue_ready_illegal hr (semSend_count h)]
  case txopen =>
    intro s e f r hr hd hres
    have hcalm : Calm s r.2.2 := hres ▸ calm_txOpenFor _
    refine ⟨fun h => ⟨_, exec_txopen, issue_ready_ran hr (semTxopen_full hd h) ((Calm.refl s).put32 _)⟩,
      fun h h0 => ⟨_, exec_txopen, ?_⟩, fun h h0 => ⟨_, exec_txopen, ?_⟩⟩
    · have hsem := semTxopen_asks hd h hres
      rw [if_pos h0, h0, Nat.zero_add] at hsem
      exact issue_ready_ran hr hsem ((hcalm.setHeldTx _).put32 _)
    · have hsem := semTxopen_asks hd h hres
      rw [if_neg h0] at hsem
      exact issue_ready_ran hr hsem (hcalm.put32 _)
  case notHeld =>
    intro s e f hr hd ha hc hno
    obtain ⟨l, hl⟩ := exists_launchOf ha hc
    have hcmt := semTxcmt_launch hd hl rfl
    have habt := semTxabt_asks hd rfl
    rw [hno, if_neg Bool.false_ne_true] at hcmt habt
    exact ⟨⟨_, exec_txcmt, issue_ready_ran hr hcmt ((Calm.refl s).put32 _)⟩,
      ⟨_, exec_txabt, issue_ready_ran hr habt ((Calm.refl s).put32 _)⟩,
      ⟨_, exec_txst, issue_ready_ran hr (semTxst_none hd (find?_of_not_holdsTx hno)) ((Calm.refl s).put32 _)⟩⟩
  case txcmt =>
    intro s e f l r hr hd hl hh hres
    have hsem := semTxcmt_launch hd hl hres
    rw [hh, if_pos rfl] at hsem
    exact ⟨_, exec_txcmt, issue_ready_ran hr hsem ((hres ▸ calm_txCommitFor l : Calm s r.2).put32 _)⟩
  case txabt =>
    intro s e f r hr hd hh hres
    have hsem := semTxabt_asks hd hres
    rw [hh, if_pos rfl] at hsem
    exact ⟨_, exec_txabt, issue_ready_ran hr hsem ((hres ▸ calm_txAbortFor : Calm s r.2).put32 _)⟩
  case txst =>
    intro s e f h hr hd hh
    refine ⟨fun hx => ⟨_, exec_txst, issue_ready_ran hr (semTxst_running hd hh hx) ((Calm.refl s).put32 _)⟩,
      fun hx => ⟨_, exec_txst, ?_⟩⟩
    have hcalm := (((Calm.refl s).setHeldTx (n := e.val) ((s.heldTx e.val).filter fun x =>
      x.id.toNat != f.imm.toNat % 256)).trans (calm_txReleaseFor (m := engUnit e.val) (id := f.imm.toNat % 256))).put32
        (n := e.val) (k := f.d.toNat) (endedWord h)
    have hran := issue_ready_ran (ki := .r .txst f) hr (semTxst_ended hd hh hx) hcalm
    obtain ⟨h31, hlow⟩ := endedWord_bits h
    refine ⟨?_, ?_, ?_, hran.pc hcalm⟩
    · rw [hran.heldTx]
      exact State.txReleaseFor_heldTx.trans (State.heldTx_setHeldTx_same _)
    · rw [hran.getG, State.getG_put32]
      exact h31
    · rw [hran.getG, State.getG_put32]
      exact hlow

end

section
/-! PROOFS. Far accesses (R160, R185, R186, R222): what a request sends, when it stalls, and what its response does. -/

namespace Sys2Proof.Machine

variable {s u : State} {n k a o c kind : Nat} {e : Fin 1024} {f : KT} {pl : Place} {op : FarOp} {rd : BitVec 6}
  {mk : Nat → BitVec 8 → Packet} {t tag : BitVec 8} {x : FarLoad} {b : List Byte} {p bad : Bool}

/-! ## The commands -/

theorem exec_ldf : exec (.ldf e f {}) s = .next (s.issue e.val (.t .ldf f) {} [] (semLdf e.val f)) := by rfl
theorem exec_stf : exec (.stf e f {}) s = .next (s.issue e.val (.t .stf f) {} [] (semStf e.val f)) := by rfl
theorem exec_aadd : exec (.aadd e f {}) s = .next (s.issue e.val (.t .aadd f) {} [] (semAtomic 3 e.val f)) := by rfl
theorem exec_aswp : exec (.aswp e f {}) s = .next (s.issue e.val (.t .aswp f) {} [] (semAtomic 4 e.val f)) := by rfl
theorem exec_stfLateError : exec (.stfLateError e) s = .next (stfLate e.val s) := by rfl

/-! ## The request (R185) -/

/-- The operands of a far access are legal and unpoisoned, and it accesses `a`. -/
def FarLegal (s : State) (n : Nat) (f : KT) (a : Nat) : Prop :=
  f.a.toNat < s.gLimit n ∧ f.d.toNat < s.gLimit n ∧ ∃ ga, s.use32 n f.a.toNat = .ok ga ∧ a = farAddr f ga

/-- A check that passes hands on what it found. -/
theorem ok_bind {α β : Type} (v : α) (g : α → Except Nat β) : (Except.ok v >>= g) = g v := by rfl

theorem State.use32_mod (h : (s.getG n k).clean = true) : s.use32 n k = .ok ((s.getG n k).w.toNat % 2 ^ 32) := by
  rw [State.use32_clean h, BitVec.toNat_setWidth]

theorem farLegal_of_clean (ha : f.a.toNat < s.gLimit n) (hd : f.d.toNat < s.gLimit n)
    (hc : (s.getG n f.a.toNat).clean = true)
    (hav : a = f.imm.toNat % 2 ^ 16 * 2 ^ 32 + (s.getG n f.a.toNat).w.toNat % 2 ^ 32) : FarLegal s n f a :=
  ⟨ha, hd, _, State.use32_mod hc, hav⟩

theorem farRequest_sent (hpl : pl ≠ .unmapped) (ht : s.farTag (engNi n) = some t)
    (hi : s.inject (mk (s.placeUnit pl).ni t) = some u) :
    farRequest n pl op rd mk s = .ok { state := u.farWait n { op := op, rd := rd, tag := t }, flow := .wait } := by
  cases pl with
  | unmapped => exact absurd rfl hpl
  | _ => simp only [farRequest, ht, hi]

/-- Without a free tag a far access stalls. -/
theorem farRequest_stalled (hpl : pl ≠ .unmapped) (ht : s.farTag (engNi n) = none) :
    farRequest n pl op rd mk s = .ok { state := s, flow := .stall } := by
  cases pl with
  | unmapped => exact absurd rfl hpl
  | _ => simp only [farRequest, ht]

/-! ## LDF and STF (R185) -/

/-- The request of an LDF. -/
def ldfPacket (n : Nat) (f : KT) (a : Nat) (dst : Nat) (t : BitVec 8) : Packet :=
  farPacket n dst 2 t 0 a (toBytes 8 (farSize f - 1)) false

theorem semLdf_aligned (h : FarLegal s n f a) (h0 : a % farSize f = 0) : semLdf n f s =
    farRequest n (addrPlace a (farSize f)) (.load (f.mod.getLsbD 0)) f.d (ldfPacket n f a) s := by
  obtain ⟨ha, hd, ga, hga, hav⟩ := h
  rw [semLdf, State.gOk_ok ha, State.gOk_ok hd, hga, ok_bind, ok_bind, ok_bind]
  dsimp only
  rw [← hav, need_true (beq_iff_eq.2 h0), ok_bind]
  rfl

theorem semLdf_misaligned (h : FarLegal s n f a) (h0 : a % farSize f ≠ 0) : semLdf n f s = .error Exc.busError := by
  obtain ⟨ha, hd, ga, hga, hav⟩ := h
  rw [semLdf, State.gOk_ok ha, State.gOk_ok hd, hga, ok_bind, ok_bind, ok_bind]
  dsimp only
  rw [← hav, need, beq_false_of_ne h0]
  rfl

/-- The request of an STF. -/
def stfPacket (s : State) (n : Nat) (f : KT) (a : Nat) (dst : Nat) (t : BitVec 8) : Packet :=
  farPacket n dst 1 t (if f.mod.getLsbD 1 then f.imm.extractLsb' 16 8 else 0#8) a
    (if f.mod.getLsbD 0 then toBytes 8 (toLayout (s.getG n f.d.toNat).w).toNat
      else toBytes 4 (s.getG n f.d.toNat).w.toNat) (!(s.getG n f.d.toNat).clean)

/-- The engine has posted a store with tag `t`. -/
def State.addPosted (u : State) (n : Nat) (g : Engine) (t : BitVec 8) : State :=
  u.setEngine n { u.engine n with posted := g.posted ++ [(t, g.pc)] }

theorem semStf_sent (h : FarLegal s n f a) (h0 : a % farSize f = 0) (hpl : addrPlace a (farSize f) ≠ .unmapped)
    (ht : s.farTag (engNi n) = some t)
    (hi : s.inject (stfPacket s n f a (s.placeUnit (addrPlace a (farSize f))).ni t) = some u) :
    semStf n f s = .ok { state := u.addPosted n (s.engine n) t } := by
  obtain ⟨ha, hd, ga, hga, hav⟩ := h
  rw [semStf, State.gOk_ok ha, State.gOk_ok hd, hga, ok_bind, ok_bind, ok_bind]
  dsimp only
  rw [← hav, need_true (beq_iff_eq.2 h0), ok_bind, ht]
  generalize addrPlace a (farSize f) = pl at hpl hi ⊢
  dsimp only
  rw [stfPacket] at hi
  cases pl with
  | unmapped => exact absurd rfl hpl
  | _ =>
    dsimp only
    rw [hi]
    rfl

theorem semStf_stalled (h : FarLegal s n f a) (h0 : a % farSize f = 0) (hpl : addrPlace a (farSize f) ≠ .unmapped)
    (ht : s.farTag (engNi n) = none) : semStf n f s = .ok { state := s, flow := .stall } := by
  obtain ⟨ha, hd, ga, hga, hav⟩ := h
  rw [semStf, State.gOk_ok ha, State.gOk_ok hd, hga, ok_bind, ok_bind, ok_bind]
  dsimp only
  rw [← hav, need_true (beq_iff_eq.2 h0), ok_bind, ht]
  generalize addrPlace a (farSize f) = pl at hpl ⊢
  cases pl with
  | unmapped => exact absurd rfl hpl
  | _ => rfl

theorem semStf_misaligned (h : FarLegal s n f a) (h0 : a % farSize f ≠ 0) : semStf n f s = .error Exc.busError := by
  obtain ⟨ha, hd, ga, hga, hav⟩ := h
  rw [semStf, State.gOk_ok ha, State.gOk_ok hd, hga, ok_bind, ok_bind, ok_bind]
  dsimp only
  rw [← hav, need, beq_false_of_ne h0]
  rfl

/-! ## AADD and ASWP (R186) -/

/-- The request of an atomic. -/
def atomicPacket (s : State) (kind n : Nat) (f : KT) (a : Nat) (dst : Nat) (t : BitVec 8) : Packet :=
  farPacket n dst kind t 0 a (toBytes 4 (s.getG n f.d.toNat).w.toNat) (!(s.getG n f.d.toNat).clean)

theorem semAtomic_spm (h : FarLegal s n f a) (h0 : a % 4 = 0) (ho : addrPlace a 4 = .spm o) :
    semAtomic kind n f s = farRequest n (.spm o) .atomic f.d (atomicPacket s kind n f a) s := by
  obtain ⟨ha, hd, ga, hga, hav⟩ := h
  rw [semAtomic, State.gOk_ok ha, State.gOk_ok hd, hga, ok_bind, ok_bind, ok_bind]
  dsimp only
  rw [← hav, need_true (beq_iff_eq.2 h0), ok_bind, ho]
  rfl

theorem semAtomic_refused (h : FarLegal s n f a) (ho : a % 4 ≠ 0 ∨ ∀ o, addrPlace a 4 ≠ .spm o) :
    semAtomic kind n f s = .error Exc.busError := by
  obtain ⟨ha, hd, ga, hga, hav⟩ := h
  rw [semAtomic, State.gOk_ok ha, State.gOk_ok hd, hga, ok_bind, ok_bind, ok_bind]
  dsimp only
  rw [← hav]
  by_cases h0 : a % 4 = 0
  · have hnot := ho.resolve_left (not_not_intro h0)
    rw [need_true (beq_iff_eq.2 h0), ok_bind]
    generalize addrPlace a 4 = pl at hnot ⊢
    cases pl with
    | spm o => exact absurd rfl (hnot o)
    | _ => rfl
  · rw [need, beq_false_of_ne h0]
    rfl

/-! ## The response (R185, R222) -/

/-- The word that a response to a load or an atomic gives. -/
def farWord (op : FarOp) (b : List Byte) : W36 :=
  if op = .load true then ofLayout (BitVec.ofNat 64 (ofBytes b)) else BitVec.ofNat 36 (ofBytes (b.take 4))

/-- The engine's state with the answered register written: it waits no longer. -/
def State.farWrote (s : State) (n : Nat) (x : FarLoad) (b : List Byte) (tag : Bool) : State :=
  (s.setEngine n { s.engine n with far := none }).putW n x.rd.toNat (farWord x.op b) tag

theorem State.farData_word (h : x.op = .load true ∨ x.op = .load false ∨ x.op = .atomic) :
    s.farData n x b p bad = (s.farWrote n x b (p || bad)).farEnd n [] := by
  rw [State.farData, State.farWrote, farWord]
  obtain h | h | h := h <;> rw [h] <;> rfl

/-- No halt waits for the instruction. -/
theorem State.haltLate_none (h : (s.engine n).haltReq = false) : s.haltLate n = s := by
  rw [State.haltLate, h]
  rfl

theorem State.farEnd_next (hin : (s.engine n).inner = none) (hstep : s.mon.stepping = none)
    (hh : (s.engine n).haltReq = false) : s.farEnd n [] = s.setEngine n (s.engine n).next := by
  rw [State.farEnd, completeAt_next hin hstep]
  refine State.haltLate_none ?_
  rw [State.engine_setEngine_same]
  exact hh

theorem State.farWrote_engine (hrd : x.rd.toNat < 32) (q : Bool) : (s.farWrote n x b q).engine n =
    Engine.setG { s.engine n with far := none } x.rd.toNat { w := farWord x.op b, tagH := q, tagL := q } := by
  rw [State.farWrote, State.putW, State.putG, gEng, if_pos hrd, State.engine_setEngine_same,
    State.engine_setEngine_same, Nat.mod_eq_of_lt hrd]

/-- A response with data: the engine goes on at the next instruction with the register written. -/
theorem State.farData_engine (h : x.op = .load true ∨ x.op = .load false ∨ x.op = .atomic) (hrd : x.rd.toNat < 32)
    (hin : (s.engine n).inner = none) (hh : (s.engine n).haltReq = false) (hstep : s.mon.stepping = none) :
    (s.farData n x b p bad).engine n = (Engine.setG { s.engine n with far := none } x.rd.toNat
      { w := farWord x.op b, tagH := p || bad, tagL := p || bad }).next := by
  have hg := s.farWrote_engine (n := n) (b := b) hrd (p || bad)
  have hin' : ((s.farWrote n x b (p || bad)).engine n).inner = none := by
    rw [hg]
    exact (Engine.innerBelow_congr rfl 4).trans hin
  rw [State.farData_word h, State.farEnd_next hin' hstep (by rw [hg]; exact hh), State.engine_setEngine_same, hg]

theorem State.engineAnswer_data (h : s.farOwner c tag = some (n, x)) :
    s.engineAnswer c tag (.data b p) bad = s.farData n x b p bad := by rw [State.engineAnswer, h]

theorem State.engineAnswer_error (h : s.farOwner c tag = some (n, x)) (code : BitVec 16) :
    s.engineAnswer c tag (.error code) bad = s.farError n := by rw [State.engineAnswer, h]

end Sys2Proof.Machine
end

section
open Sys2Proof Sys2Proof.Machine

/-- Settles O33: each access by the request it makes, each response by the engine that it leaves. -/
theorem farAccessesRequestAndComplete : Obligations.FarAccessesRequestAndComplete := by
  refine ⟨?sent, ?unsent, ?atomic, ?refused, ?answer, ?late, ?noLate⟩
  case sent =>
    intro s e f a k t u hr ha hd hc hk hav h0 hpl ht
    obtain rfl : k = farSize f := hk
    have hl : FarLegal s e.val f a := farLegal_of_clean ha hd hc hav
    refine ⟨fun hi => ?_, fun hi => ⟨_, exec_stf, ?_⟩⟩
    · rw [exec_ldf, issue_ready_wait hr ((semLdf_aligned hl h0).trans (farRequest_sent hpl ht hi)) rfl]
    · exact issue_ready_ran hr (semStf_sent hl h0 hpl ht hi) (((Calm.refl s).inject hi).setEngine rfl rfl rfl rfl)
  case unsent =>
    intro s e f a k hr ha hd hc hk hav
    obtain rfl : k = farSize f := hk
    have hl : FarLegal s e.val f a := farLegal_of_clean ha hd hc hav
    refine ⟨fun h0 => ⟨?_, ?_⟩, fun h0 hpl ht => ⟨?_, ?_⟩⟩
    · rw [exec_ldf, issue_ready_raise hr (semLdf_misaligned hl h0)]
      rfl
    · rw [exec_stf, issue_ready_raise hr (semStf_misaligned hl h0)]
      rfl
    · rw [exec_ldf, issue_ready_stall hr ((semLdf_aligned hl h0).trans (farRequest_stalled hpl ht))]
    · rw [exec_stf, issue_ready_stall hr (semStf_stalled hl h0 hpl ht)]
  case atomic =>
    intro s e f a o t u hr ha hd hc hav h0 ho ht
    have hl : FarLegal s e.val f a := farLegal_of_clean ha hd hc hav
    have hsem : ∀ kind, s.inject (atomicPacket s kind e.val f a (s.placeUnit (.spm o)).ni t) = some u →
        semAtomic kind e.val f s =
          .ok { state := u.farWait e.val { op := .atomic, rd := f.d, tag := t }, flow := .wait } :=
      fun kind hi => (semAtomic_spm hl h0 ho).trans (farRequest_sent Place.noConfusion ht hi)
    refine List.forall_mem_cons.2 ⟨fun hi => ?_, List.forall_mem_singleton.2 fun hi => ?_⟩
    · rw [exec_aadd, issue_ready_wait hr (hsem 3 hi) rfl]
    · rw [exec_aswp, issue_ready_wait hr (hsem 4 hi) rfl]
  case refused =>
    intro s e f a hr ha hd hc hav ho
    have hl : FarLegal s e.val f a := farLegal_of_clean ha hd hc hav
    refine List.forall_mem_cons.2 ⟨?_, List.forall_mem_singleton.2 ?_⟩
    · rw [exec_aadd, issue_ready_raise hr (semAtomic_refused hl ho)]
      rfl
    · rw [exec_aswp, issue_ready_raise hr (semAtomic_refused hl ho)]
      rfl
  case answer =>
    intro s c tag n x b p bad how hop hrd hin hh _ hstep
    have heng := State.farData_engine (b := b) (p := p) (bad := bad) hop hrd hin hh hstep
    have hget : (s.farData n x b p bad).getG n x.rd.toNat =
        { w := farWord x.op b, tagH := p || bad, tagL := p || bad } := by
      rw [State.getG, gEng, if_pos hrd, heng, Nat.mod_eq_of_lt hrd]
      exact Table.get_set_same noG ..
    rw [State.engineAnswer_data how, hget, heng]
    refine ⟨rfl, rfl, ?_, rfl, fun code => State.engineAnswer_error how code⟩
    exact (Bool.and_self _)
  case late =>
    intro s e pc l hl hst hf
    rw [exec_stfLateError, stfLate, hl]
    exact congrArg _ (if_pos ⟨hst, hf⟩)
  case noLate =>
    intro s e hl
    rw [exec_stfLateError, stfLate, hl]

end

section
/-! PROOFS. Queue instructions and the time-out of a request (R194 to R196, R223): what each instruction reads and sends,
what an error leaves of the network, and that a request that timed out is no longer pending. -/

namespace Sys2Proof.Machine

variable {s u : State} {n k r w ni tag : Nat} {e : Fin 1024} {f : KT} {q : QParams} {t : BitVec 8} {l : List Packet}
  {mk : Nat → BitVec 8 → List Packet} {after : State → State} {y : FarOp × BitVec 6} {nt : Fin 768}

/-! ## The commands -/

theorem exec_enq : exec (.enq e f {}) s =
    .next (s.issue e.val (.t .enq f) {} (s.enqReads e.val f {}) (semEnq e.val f {})) := by rfl
theorem exec_qmov : exec (.qmov e f {}) s = .next (s.issue e.val (.t .qmov f) {} [] (semQmov e.val f)) := by rfl
theorem exec_deq : exec (.deq e f {}) s = .next (s.issue e.val (.t .deq f) {} [] (semDeq e.val f)) := by rfl
theorem exec_reqTimeout : exec (.reqTimeout nt t) s = .next (requestLate nt.val t.toNat s) := by rfl

/-! ## Parameters and operands (R194) -/

theorem qParams_fields (h : q = qParams f (k % 2 ^ 32)) : q.queue = k % 2 ^ 20 ∧ q.cls = k / 2 ^ 20 % 256 ∧
    q.packing = k / 2 ^ 28 % 4 ∧ q.len = f.imm.toNat % 2 ^ 17 ∧ q.txid.toNat = f.imm.toNat / 2 ^ 24 ∧
    q.post = f.mod.getLsbD 0 := by
  subst h
  have himm := f.imm.isLt
  refine ⟨?_, ?_, ?_, rfl, ?_, rfl⟩ <;> simp only [qParams, BitVec.extractLsb'_toNat, Nat.shiftRight_eq_div_pow] <;>
    omega

/-- Ge, Ge+1 and Ge+2 are legal and unpoisoned: they give the parameters `q` and the words `r` and `w`. -/
def QueueLegal (s : State) (n : Nat) (f : KT) (q : QParams) (r w : Nat) : Prop :=
  f.a.toNat + 3 ≤ s.gLimit n ∧ (∃ ge, s.use32 n f.a.toNat = .ok ge ∧ q = qParams f ge) ∧
    s.use32 n (f.a.toNat + 1) = .ok r ∧ s.use32 n (f.a.toNat + 2) = .ok w

theorem queueLegal_of_clean (ha : f.a.toNat + 3 ≤ s.gLimit n)
    (hc : ∀ i, i < 3 → (s.getG n (f.a.toNat + i)).clean = true)
    (hq : q = qParams f ((s.getG n f.a.toNat).w.toNat % 2 ^ 32)) :
    QueueLegal s n f q ((s.getG n (f.a.toNat + 1)).w.toNat % 2 ^ 32)
      ((s.getG n (f.a.toNat + 2)).w.toNat % 2 ^ 32) :=
  ⟨ha, ⟨_, State.use32_mod (hc 0 (by decide)), hq⟩, State.use32_mod (hc 1 (by decide)),
    State.use32_mod (hc 2 (by decide))⟩

/-- A group of `k` registers that is in range. -/
theorem State.gOk_group {i : Nat} (h : i + k ≤ s.gLimit n) : s.gOk n i k = .ok () := legal_true (decide_eq_true h)

theorem plainReads_enq : PlainReads n (s.enqReads n f {}) := by
  rw [State.enqReads]
  split
  · exact plainReads_payload
  · exact fun _ h => absurd h List.not_mem_nil

/-- The words of an ENQ with legal parameters. -/
theorem State.enqWords (hq : q = qParams f ((s.getG n f.a.toNat).w.toNat % 2 ^ 32)) (hok : q.ok = true) :
    (s.enqReads n f {}).map s.dataAt =
      (s.ptrRun n f.p.toNat (s.ptr n f.p.toNat) q.words).map (s.dword (ptrEng n f.p.toNat)) := by
  rw [State.enqReads]
  rw [← hq, if_pos hok, State.payloadWords]

/-! ## The request (R195) -/

theorem Calm.injectAll (h : Calm s u) {v : State} (hi : u.injectAll l = some v) : Calm s v := by
  induction l generalizing u with
  | nil =>
    cases hi
    exact h
  | cons p l ih =>
    obtain ⟨v', hp, hl⟩ := Option.bind_eq_some_iff.1 hi
    exact ih (h.inject hp) hl

theorem State.injectAll_single {p : Packet} (h : s.inject p = some u) : s.injectAll [p] = some u := by
  rw [State.injectAll, h]
  rfl

theorem queueRequest_posted (ht : s.farTag (engNi n) = some t) (hi : s.injectAll (mk Unit.qe.ni t) = some u) :
    queueRequest n none mk after s = .ok { state := after u } := by
  rw [queueRequest, ht]
  dsimp only
  rw [hi]

theorem queueRequest_waits (ht : s.farTag (engNi n) = some t) (hi : s.injectAll (mk Unit.qe.ni t) = some u) :
    queueRequest n (some y) mk after s =
      .ok { state := (after u).farWait n { op := y.1, rd := y.2, tag := t }, flow := .wait } := by
  rw [queueRequest, ht]
  dsimp only
  rw [hi]

/-! ## ENQ, QMOV and DEQ (R194 to R196) -/

/-- What ENQ and QMOV wait for: a status, unless they are posted. -/
def statusOf (q : QParams) (f : KT) : Option (FarOp × BitVec 6) := if q.post then none else some (.status, f.d)

theorem semEnq_ok (h : QueueLegal s n f q r w) (hd : f.d.toNat < s.gLimit n) (hp : f.p.toNat < s.ptrLimit n)
    (hm : f.pm = 0 ∨ f.pm = 2) (hok : q.ok = true) : semEnq n f {} s = queueRequest n (statusOf q f)
      (fun dst t => enqPackets n dst t q r w ((s.enqReads n f {}).map s.dataAt))
      (fun u => u.payloadStep n f q.words) s := by
  obtain ⟨ha, ⟨ge, hge, rfl⟩, hr, hw⟩ := h
  rw [semEnq, State.gOk_group ha, State.payloadOk_ok hp hm, hge, hr, hw]
  simp only [ok_bind]
  rw [check_if fun _ => State.gOk_ok hd, hok]
  rfl

theorem semEnq_invalid (h : QueueLegal s n f q r w) (hd : f.d.toNat < s.gLimit n) (hp : f.p.toNat < s.ptrLimit n)
    (hm : f.pm = 0 ∨ f.pm = 2) (hok : q.ok = false) (hpost : q.post = false) :
    semEnq n f {} s = .ok { state := s.put32 n f.d.toNat 0xFF01 } := by
  obtain ⟨ha, ⟨ge, hge, rfl⟩, hr, hw⟩ := h
  rw [semEnq, State.gOk_group ha, State.payloadOk_ok hp hm, hge, hr, hw]
  simp only [ok_bind]
  rw [check_if fun _ => State.gOk_ok hd, hok, hpost]
  rfl

theorem semQmov_legal (h : QueueLegal s n f q r w) (hd : f.d.toNat < s.gLimit n) :
    semQmov n f s = queueRequest n (statusOf q f) (fun dst t =>
      [farPacket n dst 9 t q.txid (queueAddr 3 q.queue q.post false) (toBytes 8 (r % 2 ^ 20)) false]) id s := by
  obtain ⟨ha, ⟨ge, hge, rfl⟩, hr, -⟩ := h
  rw [semQmov, State.gOk_group ha, hge, hr]
  simp only [ok_bind]
  rw [check_if fun _ => State.gOk_ok hd]
  rfl

/-- The operands of a DEQ are legal, and Ge, unpoisoned, gives the parameters `q`. -/
def DeqLegal (s : State) (n : Nat) (f : KT) (q : QParams) : Prop :=
  f.a.toNat + 3 ≤ s.gLimit n ∧ f.d.toNat + 4 ≤ s.gLimit n ∧ f.p.toNat < s.ptrLimit n ∧ (f.pm = 0 ∨ f.pm = 2) ∧
    ∃ ge, s.use32 n f.a.toNat = .ok ge ∧ q = qParams f ge

theorem semDeq_ok (h : DeqLegal s n f q) (hok : q.ok = true) : semDeq n f s =
    queueRequest n (some (.deq f.p f.pm (BitVec.ofNat 2 q.packing), f.d)) (fun dst t =>
      [farPacket n dst 9 t q.txid (queueAddr 2 q.queue false false) (toBytes 8 (q.len - 1)) false]) id s := by
  obtain ⟨ha, hd, hp, hm, ge, hge, rfl⟩ := h
  rw [semDeq, State.gOk_group ha, State.gOk_group hd, State.payloadOk_ok hp hm, hge]
  simp only [ok_bind]
  rw [hok]
  rfl

theorem semDeq_invalid (h : DeqLegal s n f q) (hok : q.ok = false) :
    semDeq n f s = .ok { state := s.put32 n f.d.toNat 0xFF01 } := by
  obtain ⟨ha, hd, hp, hm, ge, hge, rfl⟩ := h
  rw [semDeq, State.gOk_group ha, State.gOk_group hd, State.payloadOk_ok hp hm, hge]
  simp only [ok_bind]
  rw [hok]
  rfl

/-! ## An error leaves the network alone (R146, R160, R482 to R485) -/

theorem State.showPc_noc : (s.showPc n).noc = s.noc := State.setFld_noc ..

theorem State.enter_noc (st : Nat) : (s.enter n st).noc = s.noc := by
  have hshow : (s.showState (s.gov n) st).noc = s.noc := by
    rw [State.showState]
    split <;> simp only [State.setFld_noc]
  obtain h | h | h := s.enter_cases n st <;> rw [h]
  · rw [State.wdStart]
    split
    · exact hshow
    · exact hshow
  · exact hshow
  · exact hshow

theorem State.reportHalt_noc : s.reportHalt.noc = s.noc := by
  rw [State.reportHalt, State.rerank]
  split
  · exact State.transition_noc ..
  · rfl

theorem State.monWords_noc (b : List Byte) (k : Nat) : (s.monWords b k).noc = s.noc := by
  induction k with
  | zero => rfl
  | succ k ih =>
    rw [State.monWords]
    split
    · exact ih
    · exact (State.setReg_noc ..).trans ih

theorem mbxAckWrite_noc (m : Master) (seq code : Nat) : (mbxAckWrite m k seq code s).noc = s.noc := by
  rw [mbxAckWrite]
  split <;> simp

theorem State.monMailbox_noc (op tag status : Nat) (b : List Byte) (more poison : Bool) :
    (s.monMailbox op tag status b more poison).noc = s.noc := by
  rw [State.monMailbox]
  refine (mbxAckWrite_noc ..).trans ?_
  split
  · exact (State.monWords_noc ..).trans (State.setReg_noc ..)
  · rfl

theorem State.monReply_noc (via : MonVia) (op status : Nat) (b : List Byte) (poison : Bool) :
    (s.monReply via op status b poison).noc = s.noc := by
  rw [State.monReply, State.monNext]
  dsimp only
  split
  · rfl
  · exact State.monMailbox_noc ..

theorem State.stepEnd_noc : (s.stepEnd n).noc = s.noc := by
  rw [State.stepEnd]
  split
  · split
    · exact State.monReply_noc ..
    · rfl
  · rfl

theorem State.refreshHold_noc : s.refreshHold.noc = s.noc := by rw [State.refreshHold]

theorem State.haltNow_noc : (s.haltNow n).noc = s.noc := by
  rw [State.haltNow, State.stepEnd_noc, State.refreshHold_noc, State.reportHalt_noc, State.showPc_noc, State.enter_noc,
    State.setEngine_noc]

theorem State.haltEngine_noc : (s.haltEngine n).noc = s.noc := by
  rw [State.haltEngine]
  split
  · rfl
  · split
    · rfl
    · exact State.haltNow_noc

theorem State.haltEngines_noc (k : Nat) : (s.haltEngines k).noc = s.noc := by
  induction k generalizing s with
  | zero => rfl
  | succ k ih => exact ih.trans State.haltEngine_noc

theorem State.haltDevice_noc : s.haltDevice.noc = s.noc :=
  (State.haltEngines_noc _).trans (State.reportHalt_noc.trans (State.setBit_noc ..))

theorem State.breakHit_noc : (s.breakHit n k).noc = s.noc := by
  rw [State.breakHit]
  split
  · exact State.haltDevice_noc.trans (by simp only [State.setFld_noc])
  · exact State.haltEngine_noc.trans (by simp only [State.setFld_noc])

theorem State.bracketClosed_noc : (s.bracketClosed n).noc = s.noc := by
  rw [State.bracketClosed]
  split
  · exact State.breakHit_noc
  · split
    · exact State.haltNow_noc
    · rfl

theorem State.faulted_noc : (s.faulted n).noc = s.noc := by
  have henter : ∀ u : State, ((u.showPc n).enter n EngState.faulted).noc = u.noc :=
    fun _ => (State.enter_noc _).trans State.showPc_noc
  rw [State.faulted]
  dsimp only
  split
  · exact State.haltNow_noc.trans (henter _)
  · exact henter _

theorem State.excRecords_noc (c : Nat) (pc : BitVec 13) : (s.excRecords n c pc).noc = s.noc := by
  rw [State.excRecords]
  split
  · simp only [State.fault_noc]
  · split <;> simp only [State.fault_noc, State.satFld_noc]

theorem State.excEnter_noc (c : Nat) (pc : BitVec 13) : (s.excEnter n c pc).noc = s.noc := by
  rw [State.excEnter]
  dsimp only
  split
  · refine State.faulted_noc.trans ?_
    rw [State.setEngine_noc]
    split <;> simp only [State.engStatus, State.setFld_noc, State.setEngine_noc, State.excRecords_noc]
  · rw [State.vectorTo, State.setEngine_noc]
    split <;> simp only [State.enter_noc, State.setWait_noc, State.setFld_noc, State.setEngine_noc, State.excRecords_noc]

theorem State.raise_noc (c : Nat) : (s.raise n c).noc = s.noc := by
  rw [State.raise, State.raiseAt]
  split
  · exact State.excEnter_noc ..
  · exact State.bracketClosed_noc.trans (State.excEnter_noc ..)

theorem State.haltLate_noc : (s.haltLate n).noc = s.noc := by
  rw [State.haltLate]
  split
  · exact State.haltEngine_noc
  · rfl

/-- An error response to an engine changes nothing of the network. -/
theorem State.engineAnswer_error_noc {c : Nat} {code : BitVec 16} {bad : Bool} :
    (s.engineAnswer c t (.error code) bad).noc = s.noc := by
  rw [State.engineAnswer]
  split
  · exact State.haltLate_noc.trans (State.raise_noc _)
  · split <;> rfl

/-! ## The time-out (R223) -/

theorem State.findReq_congr (h : u.noc = s.noc) (ni tag : Nat) : u.findReq ni tag = s.findReq ni tag := by
  rw [State.findReq, State.findReq, h]

theorem State.complete_findReq (ni tag : Nat) (x : Resp) : (s.complete ni tag x).findReq ni tag = none := by
  refine List.find?_eq_none.2 fun q hq => ?_
  simpa [imp_iff_not_or] using (List.mem_filter.1 hq).2

theorem requestTimeout_findReq (ni tag : Nat) : (requestTimeout ni tag s).findReq ni tag = none := by
  rw [requestTimeout]
  split
  · next h => exact h
  · exact State.complete_findReq ..

theorem requestLate_none (h : s.findReq ni tag = none) : requestLate ni tag s = s := by rw [requestLate, h]

theorem requestLate_early {q : PendingReq} (h : s.findReq ni tag = some q)
    (hlt : s.tim.uptime < q.sent + 1000 * s.fld F.NOC_REQ_TIMEOUT_timeout_us) : requestLate ni tag s = s := by
  rw [requestLate, h]
  exact if_pos (by simpa [State.passed] using hlt)

/-- A request that timed out is pending no longer; what follows at the monitor is its own. -/
theorem requestLate_late {q : PendingReq} (h : s.findReq ni tag = some q)
    (hle : q.sent + 1000 * s.fld F.NOC_REQ_TIMEOUT_timeout_us ≤ s.tim.uptime) :
    (requestLate ni tag s).findReq ni tag = none ∨ masterAt ni = .monitor := by
  have hlate := requestTimeout_findReq (s := s) ni tag
  rw [requestLate, h]
  dsimp only
  have hpassed : ¬(!s.passed q.sent (1000 * s.fld F.NOC_REQ_TIMEOUT_timeout_us)) = true := by
    simpa [State.passed] using hle
  rw [if_neg hpassed]
  generalize masterAt ni = m
  cases m with
  | engine n =>
    left
    dsimp only
    rw [State.findReq_congr State.engineAnswer_error_noc, hlate]
  | monitor => exact .inr rfl
  | _ => exact .inl hlate

end Sys2Proof.Machine
end

section
open Sys2Proof Sys2Proof.Machine

/-- Settles O34: each instruction by the request it makes, the time-out by the request that it drops. -/
theorem engineQueueOperationsRequest : Obligations.EngineQueueOperationsRequest := by
  refine ⟨fun s e f q hq => qParams_fields hq, ?enq, ?qmov, ?deq, ?invalid, ?noRequest, ?early, ?late⟩
  case enq =>
    intro s e f q t u r w hr ha hd hp hm hc hq hok hrel hflow ht hi
    have hl := queueLegal_of_clean ha hc hq
    rw [← hrel, ← hflow] at hl
    have hsem := semEnq_ok hl hd hp hm hok
    rw [statusOf, State.enqWords hq hok] at hsem
    refine ⟨fun hpost => ⟨_, exec_enq, ?_⟩, fun hpost => ?_⟩ <;> rw [hpost] at hsem
    · exact issue_ready_reads hr plainReads_enq (hsem.trans (queueRequest_posted ht hi))
        (((Calm.refl s).injectAll hi).payloadStep _)
    · rw [exec_enq, issue_ready_wait hr (hsem.trans (queueRequest_waits ht hi)) (plainReads_enq.readRecords _)]
  case qmov =>
    intro s e f q t u hr ha hd hc hq ht hi
    have hsem := semQmov_legal (queueLegal_of_clean ha hc hq) hd
    have hall := State.injectAll_single hi
    rw [statusOf] at hsem
    refine ⟨fun hpost => ⟨_, exec_qmov, ?_⟩, fun hpost => ?_⟩ <;> rw [hpost] at hsem hall
    · exact issue_ready_ran hr (hsem.trans (queueRequest_posted ht hall)) ((Calm.refl s).injectAll hall)
    · rw [exec_qmov, issue_ready_wait hr (hsem.trans (queueRequest_waits ht hall)) rfl]
      rfl
  case deq =>
    intro s e f q t u hr ha hd hp hm hc hq hok ht hi
    have hsem := semDeq_ok ⟨ha, hd, hp, hm, _, State.use32_mod hc, hq⟩ hok
    rw [exec_deq, issue_ready_wait hr (hsem.trans (queueRequest_waits ht (State.injectAll_single hi))) rfl]
    rfl
  case invalid =>
    intro s e f q hr ha hd hp hm hc hq hok hpost
    have hd1 : f.d.toNat < s.gLimit e.val := by omega
    have hqpost : q.post = false := by
      rw [hq]
      exact hpost
    have henq := semEnq_invalid (queueLegal_of_clean ha hc hq) hd1 hp hm hok hqpost
    have hdeq := semDeq_invalid ⟨ha, hd, hp, hm, _, State.use32_mod (hc 0 (by decide)), hq⟩ hok
    exact ⟨⟨_, exec_enq, issue_ready_reads hr plainReads_enq henq ((Calm.refl s).put32 _)⟩,
      ⟨_, exec_deq, issue_ready_ran hr hdeq ((Calm.refl s).put32 _)⟩⟩
  case noRequest =>
    intro s ni tag h
    rw [exec_reqTimeout, requestLate_none h]
  case early =>
    intro s ni tag q h hlt
    rw [exec_reqTimeout, requestLate_early h hlt]
  case late =>
    intro s ni tag q h hle
    exact ⟨_, exec_reqTimeout, requestLate_late h hle⟩

end

section
/-! PROOFS. Injection (R203, R205, R206, R212): the packet that an NI forms, the route entry that it leaves on,
and the request that its NI records. -/

namespace Sys2Proof.Machine

variable {s u : State} {p : Packet} {e : RouteEntry} {keep bare : Bool}

theorem exec_packetInject : exec (.packetInject p keep) s = .next (packetGo p keep s) := by rfl

/-! ## The packet as its NI forms it (R203) -/

/-- The NI clears an address only where the packet's kind has none. -/
theorem Packet.expects_formed : (p.formed bare keep).expects = p.expects := by
  have hkind : (p.formed bare keep).kind = p.kind := rfl
  rw [Packet.expects, Packet.expects, hkind]
  by_cases h : p.kind.toNat = 9
  · have haddr : (p.formed bare keep).address = p.address := if_pos (.inr (.inl h))
    rw [haddr]
  · have hqueue : (p.kind.toNat == 9) = false := beq_eq_false_iff_ne.2 h
    simp only [hqueue, Bool.false_and]

theorem Packet.prioOk_formed : (p.formed bare keep).prioOk = p.prioOk := by
  rw [Packet.prioOk, Packet.prioOk, Packet.expects_formed]
  rfl

/-- A permitted priority is one of R212, but for the kind that carries none of its limits. -/
theorem Packet.prio_lt (h8 : p.kind ≠ 8) (h : p.prioOk = true) :
    p.prio.toNat < 6 ∧ (p.expects = true → p.prio.toNat < 4) := by
  have hkind : (p.kind == 8#4) = false := beq_eq_false_iff_ne.2 h8
  simpa [Packet.prioOk, hkind, imp_iff_not_or] using h

theorem Packet.formed_message (h : p.kind = 5) : (p.formed false false).integ = true ∧
    (p.formed false false).crc = crc32c p.payload := by
  have hinteg : (kindInteg p.kind.toNat && !false) = true := by
    rw [h]
    rfl
  exact ⟨hinteg, if_neg (by rw [hinteg]; decide)⟩

/-! ## The request recorded (R222) -/

theorem State.track_plain (h : p.expects = false) : s.track p = s := by
  rw [State.track, h]
  rfl

theorem State.track_flight : (s.track p).noc.flight = s.noc.flight := by
  rw [State.track]
  split <;> rfl

theorem State.track_nextId : (s.track p).noc.nextId = s.noc.nextId := by
  rw [State.track]
  split <;> rfl

theorem State.findReq_track (h : p.expects = true) : ((s.track p).findReq p.src.toNat p.tag.toNat).isSome = true := by
  rw [State.track, if_pos h, State.findReq, List.find?_isSome]
  exact ⟨_, List.mem_append_right _ (List.mem_singleton_self _), by simp⟩

/-! ## Injection on a route entry (R205, R206, R212) -/

theorem RouteEntry.ofNat_dtag : BitVec.ofNat 16 e.dtag = e.w0.setWidth 16 := by
  apply BitVec.eq_of_toNat_eq
  simp [RouteEntry.dtag, bitsOf]

theorem State.inject_usable (he : e = s.route p.src.toNat p.route.toNat) (hu : e.usable p.dst.toNat = true)
    (hp : p.prioOk = true) : s.inject p = some ((s.launchPacket p e).track p) := by
  subst he
  exact if_pos (by rw [hu, hp]; rfl)

theorem State.sendOr_refused
    (h : (s.route p.src.toNat p.route.toNat).usable p.dst.toNat = false ∨ p.prioOk = false) :
    s.sendOr p = s.error := by
  have hnone : s.inject p = none := if_neg (by simpa [imp_iff_not_or] using h)
  rw [State.sendOr, hnone]

/-- A packet as it enters the mesh: at its source's router, with the hops and the tag of its entry. -/
def State.entering (s : State) (p : Packet) (e : RouteEntry) : Flight where
  id := s.noc.nextId
  pkt := { p with dtag := e.w0.setWidth 16 }
  hops := e.hops
  router := p.src.toNat / 4

theorem State.launchPacket_flight : (s.launchPacket p e).noc.flight = s.noc.flight ++ [s.entering p e] := by
  rw [State.launchPacket, RouteEntry.ofNat_dtag]
  rfl

/-- What a packet that is sent leaves behind: one more in flight, its request if it has one, and the
acknowledgement. -/
def Injected (s t : State) (p : Packet) (e : RouteEntry) : Prop :=
  t.response = .ack 0#16 ∧ t.noc.nextId = s.noc.nextId + 1 ∧
    t.noc.flight = s.noc.flight ++ [s.entering p e] ∧
    (p.expects = false → t.noc.requests = s.noc.requests) ∧
    (p.expects = true → (t.findReq p.src.toNat p.tag.toNat).isSome = true) ∧
    { t with noc := s.noc, response := s.response } = s

theorem State.sendOr_injected (he : e = s.route p.src.toNat p.route.toNat) (hu : e.usable p.dst.toNat = true)
    (hp : p.prioOk = true) : Injected s (s.sendOr p) p e := by
  have hsent := State.inject_usable he hu hp
  have hframe := State.inject_noc hsent
  rw [State.sendOr, hsent]
  refine ⟨rfl, State.track_nextId, State.track_flight.trans State.launchPacket_flight, fun h => ?plain,
    State.findReq_track, ?frame⟩
  case plain =>
    rw [State.track_plain h]
    rfl
  case frame => exact congrArg (fun v : State => { v with response := s.response }) hframe

/-! ## The unit at the source NI -/

/-- A unit that is no access point, or an engine, sends a packet of a legal size as its NI forms it. -/
theorem packetGo_unit (h6 : p.kind ≠ 6) (h8 : p.kind ≠ 8) (hs : p.sized = true) :
    (∃ a, masterAt p.src.toNat = .accessPoint a) ∨ packetGo p keep s = s.sendOr (p.formed false false) := by
  have hresponse : (p.kind == 6) = false := beq_eq_false_iff_ne.2 h6
  have hinterrupt : (p.kind == 8) = false := beq_eq_false_iff_ne.2 h8
  rw [packetGo, hresponse, hinterrupt, hs]
  generalize masterAt p.src.toNat = m
  cases m with
  | accessPoint a => exact .inl ⟨a, rfl⟩
  | engine n => exact .inr (if_neg (by decide))
  | _ => exact .inr (if_neg (by decide))

end Sys2Proof.Machine
end

section
open Sys2Proof Sys2Proof.Machine

/-- Settles O38: the packet is the one its NI forms, and its route entry and priority decide. -/
theorem injectionFollowsTheRouteEntry : Obligations.InjectionFollowsTheRouteEntry := by
  refine ⟨?sent, ?refused, fun p h8 hp => Packet.prio_lt h8 hp, fun p h => ?message⟩
  case sent =>
    intro s p keep e h6 h8 hs he hu hp
    refine ⟨_, exec_packetInject, ?_⟩
    have hi : Injected s (s.sendOr (p.formed false false)) (p.formed false false) e :=
      State.sendOr_injected he hu (Packet.prioOk_formed.trans hp)
    rw [Injected, Packet.expects_formed] at hi
    obtain hpoint | hgo := packetGo_unit (s := s) (keep := keep) h6 h8 hs
    · exact .inl hpoint
    · rw [hgo]
      exact .inr hi
  case refused =>
    intro s p keep h6 h8 hs h
    refine ⟨_, exec_packetInject, ?_⟩
    obtain hpoint | hgo := packetGo_unit (s := s) (keep := keep) h6 h8 hs
    · exact .inl hpoint
    · exact .inr (hgo.trans (State.sendOr_refused (h.imp_right Packet.prioOk_formed.trans)))
  case message =>
    obtain ⟨hinteg, hcrc⟩ := Packet.formed_message h
    exact ⟨hcrc, hinteg, rfl, rfl⟩

end

section
/-! PROOFS. Routers and links (R208, R216 to R221): the packets that a router holds, what it does at each hop
code, and the marks of links that go down and come back. -/

namespace Sys2Proof.Machine

variable {s u : State} {f g : Flight} {id j r d k l q : Nat} {cut : List Nat}

theorem exec_routerForward {c : Fin 18} : exec (.routerForward id c) s = .next (forward id c.val s) := by rfl
theorem exec_flitReplay {r : Fin 192} {d : Fin 4} {same : Bool} :
    exec (.flitReplay r d same cut) s = .next (replay r.val d.val same cut s) := by rfl
theorem exec_linkIdleTimeout {r : Fin 192} {d : Fin 4} :
    exec (.linkIdleTimeout r d cut) s = .next (s.linkDown r.val d.val cut) := by rfl

/-! ## Packets in flight -/

theorem State.findFlight_id (h : s.findFlight id = some f) : f.id = id := by
  simpa using List.find?_some h

theorem State.findFlight_congr (h : u.noc.flight = s.noc.flight) : u.findFlight j = s.findFlight j := by
  rw [State.findFlight, State.findFlight, h]

theorem State.findFlight_setFlight : (s.setFlight g).findFlight j =
    (s.findFlight j).map fun f => if f.id = g.id then g else f := by
  rw [State.findFlight, State.setFlight, List.find?_map, State.findFlight]
  congr 2
  funext f
  by_cases h : f.id = g.id <;> simp [h]

theorem State.findFlight_setFlight_same (h : s.findFlight g.id = some f) :
    (s.setFlight g).findFlight g.id = some g := by
  rw [State.findFlight_setFlight, h, Option.map_some, if_pos (State.findFlight_id h)]

theorem State.findFlight_setFlight_ne (hj : j ≠ g.id) : (s.setFlight g).findFlight j = s.findFlight j := by
  rw [State.findFlight_setFlight]
  cases h : s.findFlight j with
  | none => rfl
  | some f =>
    have hid : f.id ≠ g.id := fun he => hj ((State.findFlight_id h).symm.trans he)
    rw [Option.map_some, if_neg hid]

theorem State.findFlight_dropFlight_same : (s.dropFlight id).findFlight id = none :=
  List.find?_eq_none.2 fun f hf => by simpa using (List.mem_filter.1 hf).2

theorem State.findFlight_dropFlight_ne (hj : j ≠ id) : (s.dropFlight id).findFlight j = s.findFlight j := by
  rw [State.findFlight, State.dropFlight, List.find?_filter, State.findFlight]
  congr 1
  funext f
  by_cases h : f.id = j <;> simp [h, hj]

/-- The packet is out of the mesh; every other packet and the engines stay. -/
def TakenOut (s u : State) (id : Nat) : Prop :=
  u.findFlight id = none ∧ u.eng = s.eng ∧ ∀ j, j ≠ id → u.findFlight j = s.findFlight j

theorem takenOut_of_dropped (hflight : u.noc.flight = (s.dropFlight id).noc.flight) (heng : u.eng = s.eng) :
    TakenOut s u id :=
  ⟨(State.findFlight_congr hflight).trans State.findFlight_dropFlight_same, heng, fun _ hj =>
    (State.findFlight_congr hflight).trans (State.findFlight_dropFlight_ne hj)⟩

/-! ## A hop code at a router (R208) -/

/-- The forwards that a repeat code has left: 2 or 4 when it is met first (Table 6.5). -/
def Flight.repeatsLeft (f : Flight) : Nat :=
  if f.rep = 0 then (if hopCode f.hops f.ptr = 5 then 2 else 4) else f.rep

theorem Flight.repeatsLeft_pos : 0 < f.repeatsLeft := by
  rw [Flight.repeatsLeft]
  split
  · split <;> decide
  · next h => exact Nat.pos_of_ne_zero h

theorem forward_held {c : Nat} (hf : s.findFlight id = some f) (he : f.ejected = false) : forward id c s =
    if hopCode f.hops f.ptr < 4 then s.forwardTo f (hopCode f.hops f.ptr) { f with ptr := f.ptr + 1, rep := 0 } c
    else if hopCode f.hops f.ptr = 4 then
      if f.pkt.dst.toNat / 4 = f.router then s.setFlight { f with ejected := true } else s.misroute f
    else if hopCode f.hops f.ptr = 7 then s.misroute f
    else
      s.forwardTo f f.dir { f with
        rep := f.repeatsLeft - 1, ptr := if f.repeatsLeft - 1 = 0 then f.ptr + 1 else f.ptr } c := by
  rw [forward, hf]
  dsimp only
  rw [he]
  rfl

theorem forward_direction {c : Nat} (hf : s.findFlight id = some f) (he : f.ejected = false)
    (hd : hopCode f.hops f.ptr < 4) :
    forward id c s = s.forwardTo f (hopCode f.hops f.ptr) { f with ptr := f.ptr + 1, rep := 0 } c := by
  rw [forward_held hf he, if_pos hd]

theorem forward_repeat {c : Nat} (hf : s.findFlight id = some f) (he : f.ejected = false)
    (hc : hopCode f.hops f.ptr = 5 ∨ hopCode f.hops f.ptr = 6) (hk : k = f.repeatsLeft) :
    forward id c s = s.forwardTo f f.dir { f with rep := k - 1, ptr := if k = 1 then f.ptr + 1 else f.ptr } c := by
  have hpos := f.repeatsLeft_pos
  have hlast : k - 1 = 0 ↔ k = 1 := by omega
  rw [forward_held hf he, if_neg (by omega), if_neg (by omega), if_neg (by omega), ← hk]
  simp only [hlast]

theorem forward_eject {c : Nat} (hf : s.findFlight id = some f) (he : f.ejected = false)
    (hc : hopCode f.hops f.ptr = 4) :
    forward id c s =
      if f.pkt.dst.toNat / 4 = f.router then s.setFlight { f with ejected := true } else s.misroute f := by
  rw [forward_held hf he, if_neg (by omega), if_pos hc]

theorem forward_reserved {c : Nat} (hf : s.findFlight id = some f) (he : f.ejected = false)
    (hc : hopCode f.hops f.ptr = 7) : forward id c s = s.misroute f := by
  rw [forward_held hf he, if_neg (by omega), if_neg (by omega), if_pos hc]

theorem State.forwardTo_offMesh {c : Nat} (hn : neighbour f.router d = none) :
    s.forwardTo f d g c = s.misroute f := by
  rw [State.forwardTo, hn]

theorem State.forwardTo_down {c : Nat} (hn : neighbour f.router d = some r)
    (hdown : s.bit (F.NOC_LINK_down (4 * f.router + d)) = true) : s.forwardTo f d g c = s.discardAt f f.router d := by
  rw [State.forwardTo, hn]
  exact if_pos hdown

/-- A flit that arrives without an error to correct goes over a link that is up, and counts nothing. -/
theorem State.forwardTo_up (hn : neighbour f.router d = some r)
    (hup : s.bit (F.NOC_LINK_down (4 * f.router + d)) = false) :
    s.forwardTo f d g 0 = s.setFlight { g with router := r, dir := d } := by
  rw [State.forwardTo, hn]
  exact if_neg (by simp [hup])

/-! ## Packets that a router takes out of the mesh (R208, R219) -/

theorem State.misroute_noc : (s.misroute f).noc = (s.dropFlight f.id).noc := State.fault_noc ..

theorem State.misroute_takenOut : TakenOut s (s.misroute f) f.id :=
  takenOut_of_dropped (congrArg (·.flight) State.misroute_noc) (State.fault_eng ..)

theorem State.discardAt_takenOut : TakenOut s (s.discardAt f r d) f.id := by
  refine takenOut_of_dropped ?_ ?_ <;> rw [State.discardAt]
  · split <;> simp [State.linkFault, State.setLink]
  · split <;> simp [State.linkFault, State.dropFlight]

/-- A reserved code, an EJ at another router than the destination's, a forward off the mesh (R208). -/
theorem forward_misroutes {c : Nat} (hf : s.findFlight id = some f) (he : f.ejected = false)
    (h : hopCode f.hops f.ptr = 7 ∨ (hopCode f.hops f.ptr = 4 ∧ f.pkt.dst.toNat / 4 ≠ f.router) ∨
      (hopCode f.hops f.ptr < 4 ∧ neighbour f.router (hopCode f.hops f.ptr) = none)) :
    forward id c s = s.misroute f := by
  obtain h | ⟨h, hdst⟩ | ⟨h, hn⟩ := h
  · exact forward_reserved hf he h
  · rw [forward_eject hf he h, if_neg hdst]
  · rw [forward_direction hf he h, State.forwardTo_offMesh hn]

/-! ## The two directions of a link -/

/-- Link direction `l` is one of the two of the link of router `r` in direction `d`. -/
def linkEnd (r d l : Nat) : Bool := l == 4 * r + d || (neighbour r d).any fun q => l == 4 * q + opposite d

theorem linkEnd_near : linkEnd r d (4 * r + d) = true := by simp [linkEnd]

theorem linkEnd_far (h : neighbour r d = some q) : linkEnd r d (4 * q + opposite d) = true := by simp [linkEnd, h]

theorem linkEnd_edge (h : neighbour r d = none) : linkEnd r d l = (l == 4 * r + d) := by simp [linkEnd, h]

theorem linkEnd_inner (h : neighbour r d = some q) :
    linkEnd r d l = (l == 4 * r + d || l == 4 * q + opposite d) := by simp [linkEnd, h]

theorem neighbour_lt (h : neighbour r d = some q) (hr : r < 192) : q < 192 := by
  unfold neighbour at h
  split at h <;> simp only [Option.ite_none_right_eq_some, Option.some.injEq, reduceCtorEq] at h <;> omega

theorem opposite_lt : opposite d < 4 := Nat.mod_lt _ (by decide)

/-! ## What is kept of a link -/

theorem State.link_congr (h : u.noc.links = s.noc.links) : u.link l = s.link l := by
  rw [State.link, State.link, h]

theorem State.link_setLink_same (x : Link) : (s.setLink l x).link l = x := Table.get_set_same ..

theorem State.linkFault_noc {c : FaultClass} : (s.linkFault c r d).noc = s.noc := State.fault_noc ..

theorem State.linkFault_eng {c : FaultClass} : (s.linkFault c r d).eng = s.eng := State.fault_eng ..

/-- A fault record touches the mark of no link. -/
theorem State.linkFault_down {c : FaultClass} (hl : l < 768) :
    (s.linkFault c r d).bit (F.NOC_LINK_down l) = s.bit (F.NOC_LINK_down l) := by
  refine State.fault_bit_ne _ _ _ _ _ _ _ _ ?_
  show 0x230000 + 4 * l ≠ 0x80000C
  omega

/-! ## The mark of a link that is down (R218, R221) -/

/-- The count of links that are down is in a register of its own. -/
theorem State.down_setFld_count (v : Nat) :
    (s.setFld F.NOC_STATUS_links_down v).bit (F.NOC_LINK_down l) = s.bit (F.NOC_LINK_down l) := by
  refine State.bit_setFld_disjoint _ _ _ _ (by simp [F.NOC_LINK_down]) (.inl ?_)
  show 0x230000 + 4 * l ≠ 0x200000
  omega

theorem State.down_setBit (b : Bool) :
    (s.setBit (F.NOC_LINK_down k) b).bit (F.NOC_LINK_down l) = if l = k then b else s.bit (F.NOC_LINK_down l) := by
  split
  · next h =>
    subst h
    exact State.bit_setBit_same _ _ _ (by simp [F.NOC_LINK_down]) rfl
  · next h =>
    refine State.bit_setBit_disjoint _ _ _ _ (by simp [F.NOC_LINK_down]) (.inl ?_)
    show 0x230000 + 4 * l ≠ 0x230000 + 4 * k
    omega

theorem State.down_markDown : (s.markDown k).bit (F.NOC_LINK_down l) = (l == k || s.bit (F.NOC_LINK_down l)) := by
  rw [State.markDown]
  split
  · next h => by_cases hl : l = k <;> simp [hl, h]
  · rw [State.incFld, State.down_setFld_count, State.down_setBit]
    by_cases hl : l = k <;> simp [hl]

theorem State.down_markUp : (s.markUp k).bit (F.NOC_LINK_down l) = (l != k && s.bit (F.NOC_LINK_down l)) := by
  rw [State.markUp]
  split
  · rw [State.down_setFld_count, State.down_setBit]
    by_cases hl : l = k <;> simp [hl]
  · next h => by_cases hl : l = k <;> simp_all

theorem State.markDown_noc : (s.markDown l).noc = s.noc := by
  rw [State.markDown]
  split <;> simp

theorem State.markDown_eng : (s.markDown l).eng = s.eng := by
  rw [State.markDown]
  split <;> simp

/-! ## A link goes down (R218, R220) -/

/-- Both ends marked and reported, before the packets that are cut. -/
def State.endsDown (s : State) (r d : Nat) : State :=
  match neighbour r d with
  | some q => (((s.markDown (4 * r + d)).linkFault .linkDown r d).markDown (4 * q + opposite d)).linkFault .linkDown q
      (opposite d)
  | none => (s.markDown (4 * r + d)).linkFault .linkDown r d

theorem State.linkDown_eq : s.linkDown r d cut = { s.endsDown r d with noc := { (s.endsDown r d).noc with
    flight := (s.endsDown r d).noc.flight.map fun f =>
      if cut.contains f.id then { f with pkt := { f.pkt with fpoison := true } } else f
    links := Table.modify noLink (s.endsDown r d).noc.links (4 * r + d) fun x => { x with fails := 0 } } } := by
  unfold State.linkDown State.endsDown
  cases neighbour r d <;> rfl

theorem State.endsDown_noc : (s.endsDown r d).noc = s.noc := by
  rw [State.endsDown]
  split <;> simp only [State.linkFault_noc, State.markDown_noc]

theorem State.endsDown_eng : (s.endsDown r d).eng = s.eng := by
  rw [State.endsDown]
  split <;> simp only [State.linkFault_eng, State.markDown_eng]

theorem State.down_endsDown (hl : l < 768) :
    (s.endsDown r d).bit (F.NOC_LINK_down l) = (linkEnd r d l || s.bit (F.NOC_LINK_down l)) := by
  rw [State.endsDown]
  cases h : neighbour r d with
  | none => rw [State.linkFault_down hl, State.down_markDown, linkEnd_edge h]
  | some q =>
    dsimp only
    rw [State.linkFault_down hl, State.down_markDown, State.linkFault_down hl, State.down_markDown, linkEnd_inner h,
      ← Bool.or_assoc, Bool.or_comm (l == 4 * q + opposite d)]

theorem State.down_linkDown (hl : l < 768) :
    (s.linkDown r d cut).bit (F.NOC_LINK_down l) = (linkEnd r d l || s.bit (F.NOC_LINK_down l)) := by
  rw [State.linkDown_eq]
  exact State.down_endsDown hl

theorem State.linkDown_near (hr : r < 192) (hd : d < 4) :
    (s.linkDown r d cut).bit (F.NOC_LINK_down (4 * r + d)) = true := by
  rw [State.down_linkDown (by omega), linkEnd_near, Bool.true_or]

theorem State.linkDown_far (hr : r < 192) (h : neighbour r d = some q) :
    (s.linkDown r d cut).bit (F.NOC_LINK_down (4 * q + opposite d)) = true := by
  have hq := neighbour_lt h hr
  have ho := opposite_lt (d := d)
  rw [State.down_linkDown (by omega), linkEnd_far h, Bool.true_or]

/-- The packets that the link cut are completed poisoned. -/
theorem State.linkDown_flight : (s.linkDown r d cut).noc.flight = s.noc.flight.map fun f =>
    if cut.contains f.id then { f with pkt := { f.pkt with fpoison := true } } else f := by
  rw [State.linkDown_eq, State.endsDown_noc]

theorem State.linkDown_fails : ((s.linkDown r d cut).link (4 * r + d)).fails = 0 := by
  rw [State.linkDown_eq, State.link, Table.modify, Table.get_set_same]

theorem State.linkDown_eng : (s.linkDown r d cut).eng = s.eng := by
  rw [State.linkDown_eq]
  exact State.endsDown_eng

/-! ## Replays (R217) -/

/-- A replay that is counted and reported, before its effect on the link. -/
def State.replayed (s : State) (r d : Nat) : State :=
  (s.satOnly (F.NOC_LINK_replays (4 * r + d))).linkFault .nocReplay r d

theorem State.replayed_noc : (s.replayed r d).noc = s.noc := by
  rw [State.replayed, State.linkFault_noc, State.satOnly_noc]

theorem State.replayed_down (hl : l < 768) :
    (s.replayed r d).bit (F.NOC_LINK_down l) = s.bit (F.NOC_LINK_down l) := by
  rw [State.replayed, State.linkFault_down hl, State.satOnly]
  exact State.bit_setFld_disjoint _ _ _ _ (by simp [F.NOC_LINK_down])
    (.inr (.inr (by simp [F.NOC_LINK_down, F.NOC_LINK_replays])))

/-- One more failed send of the same flit is counted at the link. -/
def State.replayFailed (s : State) (r d : Nat) : State :=
  (s.replayed r d).setLink (4 * r + d) { s.link (4 * r + d) with fails := (s.link (4 * r + d)).fails + 1 }

theorem State.replayFailed_fails : ((s.replayFailed r d).link (4 * r + d)).fails = (s.link (4 * r + d)).fails + 1 :=
  congrArg Link.fails (State.link_setLink_same _)

theorem State.replayFailed_flight : (s.replayFailed r d).noc.flight = s.noc.flight :=
  congrArg (·.flight) (State.replayed_noc (s := s))

theorem State.replayFailed_eng : (s.replayFailed r d).eng = s.eng := by
  rw [State.replayFailed, State.setLink_eng, State.replayed, State.linkFault_eng, State.satOnly_eng]

theorem State.replayFailed_spm : (s.replayFailed r d).spm = s.spm := by
  rw [State.replayFailed, State.setLink_spm, State.replayed, State.linkFault, State.fault_spm, State.satOnly_spm]

theorem State.replayFailed_down (hl : l < 768) :
    (s.replayFailed r d).bit (F.NOC_LINK_down l) = s.bit (F.NOC_LINK_down l) := by
  rw [State.replayFailed, State.setLink_bit, State.replayed_down hl]

theorem replay_same : replay r d true cut s = if 3 ≤ (s.link (4 * r + d)).fails + 1
    then (s.replayFailed r d).linkDown r d cut else s.replayFailed r d := by
  have hlink : (s.replayed r d).link (4 * r + d) = s.link (4 * r + d) :=
    State.link_congr (congrArg (·.links) State.replayed_noc)
  rw [State.replayFailed, ← hlink]
  rfl

theorem replay_resent (h : (s.link (4 * r + d)).fails < 2) : replay r d true cut s = s.replayFailed r d := by
  rw [replay_same, if_neg (by omega)]

theorem replay_third (h : 2 ≤ (s.link (4 * r + d)).fails) :
    replay r d true cut s = (s.replayFailed r d).linkDown r d cut := by
  rw [replay_same, if_pos (by omega)]

end Sys2Proof.Machine
end

section
open Sys2Proof Sys2Proof.Machine

/-- Settles O39: a router's step by its hop code, what it takes out of the mesh, and the marks of links. -/
theorem routersForwardOrDiscard : Obligations.RoutersForwardOrDiscard := by
  refine ⟨?direction, ?repeats, ?ejects, ?misroutes, ?linkIsDown, ?flight, ?resent, ?third, ?idle⟩
  case direction =>
    rintro s id c f d r hf he hc rfl hd hn hup
    rw [exec_routerForward, forward_direction hf he hd, hc, State.forwardTo_up hn hup]
  case repeats =>
    intro s id c f r k hf he hc hcode hk hn hup
    rw [exec_routerForward, forward_repeat hf he hcode hk, hc, State.forwardTo_up hn hup]
  case ejects =>
    intro s id c f hf he hcode hdst
    rw [exec_routerForward, forward_eject hf he hcode, if_pos hdst]
  case misroutes =>
    intro s id c f hf he h
    obtain rfl := State.findFlight_id hf
    obtain ⟨hgone, heng, hrest⟩ := State.misroute_takenOut (s := s) (f := f)
    refine ⟨_, exec_routerForward, ?_⟩
    rw [forward_misroutes hf he h]
    exact ⟨hgone, congrArg (·.links) State.misroute_noc, heng, hrest⟩
  case linkIsDown =>
    intro s id c f r hf he hd hn hdown
    obtain rfl := State.findFlight_id hf
    refine ⟨_, exec_routerForward, ?_⟩
    rw [forward_direction hf he hd, State.forwardTo_down hn hdown]
    exact State.discardAt_takenOut
  case flight =>
    intro s g f hf
    exact ⟨State.findFlight_setFlight_same hf, fun j hj => State.findFlight_setFlight_ne hj, rfl⟩
  case resent =>
    rintro s r d same cut rfl h
    refine ⟨_, exec_flitReplay, ?_⟩
    rw [replay_resent h]
    exact ⟨State.replayFailed_fails, State.replayFailed_down (by omega), State.replayFailed_flight,
      State.replayFailed_eng, State.replayFailed_spm⟩
  case third =>
    intro s r d cut h
    refine ⟨_, exec_flitReplay, ?_⟩
    rw [replay_third h]
    exact ⟨State.linkDown_near r.isLt d.isLt, State.linkDown_fails, fun q hq => State.linkDown_far r.isLt hq⟩
  case idle =>
    intro s r d cut
    exact ⟨_, exec_linkIdleTimeout, State.linkDown_near r.isLt d.isLt, fun q hq => State.linkDown_far r.isLt hq,
      State.linkDown_flight, State.linkDown_eng⟩

end

section
/-! PROOFS. Route entries (R207 to R209) and links that come back (R221): held words, the validation that word 0
makes, retraining, and the routes that the husk moves off a link. -/

namespace Sys2Proof.Machine

variable {s : State} {m : Master} {h : HeldRoute} {held : Option HeldRoute} {e old : RouteEntry}
  {v : Word} {ni entry w r d l q : Nat}

theorem exec_routeWordWrite {e : Fin 4096} {w : Fin 3} :
    exec (.routeWordWrite m e w v) s = .next (routeWord m e.val w.val v s) := by rfl
theorem exec_routeEntryValidate {e : Fin 4096} :
    exec (.routeEntryValidate m e v) s = .next (routeValidate m e.val v s) := by rfl
theorem exec_nocLinkRetrain {r : Fin 192} {d : Fin 4} :
    exec (.nocLinkRetrain m r d) s = .next (linkRetrain r.val d.val s) := by rfl
theorem exec_linkRetrainDone {r : Fin 192} {d : Fin 4} {b : Bool} :
    exec (.linkRetrainDone r d b) s = .next (retrainDone r.val d.val b s) := by rfl
theorem exec_rerouteComputeDone {r : Fin 192} {d : Fin 4} {l : List RouteChange} :
    exec (.rerouteComputeDone r d l) s = .next (rerouteDone r.val d.val l s) := by rfl

/-! ## Words 1 to 3 are held (R209) -/

/-- The set that a write of a word for an entry adds to: the writer's own if it is for that entry, an empty one
otherwise. -/
def heldSet (held : Option HeldRoute) (ni entry : Nat) : HeldRoute :=
  match held with
  | some h => if h.ni = ni ∧ h.entry = entry then h else { ni := ni, entry := entry }
  | none => { ni := ni, entry := entry }

theorem heldSet_same (h1 : h.ni = ni) (h2 : h.entry = entry) : heldSet (some h) ni entry = h := if_pos ⟨h1, h2⟩

theorem heldSet_other (hno : ∀ g, held = some g → ¬(g.ni = ni ∧ g.entry = entry)) :
    heldSet held ni entry = { ni := ni, entry := entry } := by
  cases held with
  | none => rfl
  | some g => exact if_neg (hno g rfl)

theorem routeWord_eq (hni : ni = s.srcFld m F.NOC_RT_SEL_ni) : routeWord m entry w v s = if niPresent ni then
    (s.setHeldRoute m (some ((heldSet (s.heldRoute m) ni entry).put w v))).ack else s.error := by
  subst hni
  rw [routeWord]
  cases niPresent (s.srcFld m F.NOC_RT_SEL_ni) <;> rfl

/-! ## Word 0 validates (R207) -/

/-- An entry with the held words in place of its own, if they are held for it. -/
def RouteEntry.withHeld (old : RouteEntry) (held : Option HeldRoute) (ni entry : Nat) : RouteEntry :=
  match held with
  | some h => if h.ni = ni ∧ h.entry = entry then h.apply old else old
  | none => old

theorem RouteEntry.withHeld_same (h1 : h.ni = ni) (h2 : h.entry = entry) :
    old.withHeld (some h) ni entry = h.apply old := if_pos ⟨h1, h2⟩

theorem RouteEntry.withHeld_other (hno : ∀ g, held = some g → ¬(g.ni = ni ∧ g.entry = entry)) :
    old.withHeld held ni entry = old := by
  cases held with
  | none => rfl
  | some g => exact if_neg (hno g rfl)

/-- Word 0 as a write leaves it: the bits written, and ok as found. -/
def routeWord0 (v : Word) (ok : Bool) : Word := v &&& 0x83FFFFFF#32 ||| (if ok then 0x40000000#32 else 0#32)

theorem routeWord0_en (b : Bool) : (routeWord0 v b).getLsbD 31 = v.getLsbD 31 := by
  cases b <;> simp [routeWord0]

theorem routeWord0_ok (b : Bool) : (routeWord0 v b).getLsbD 30 = b := by
  cases b <;> simp [routeWord0]

/-- The tag, the destination and whatever else word 0 has below bit 26 are as written. -/
theorem routeWord0_low (b : Bool) {i k : Nat} (hk : i + k ≤ 26) : bitsOf (routeWord0 v b) i k = bitsOf v i k := by
  apply Nat.eq_of_testBit_eq
  intro j
  rw [testBit_bitsOf, testBit_bitsOf]
  by_cases hj : j < k
  · have hmask : ∀ n < 26, (0x83FFFFFF#32).getLsbD n = true ∧ (0x40000000#32).getLsbD n = false := by decide
    obtain ⟨hkept, hclear⟩ := hmask (i + j) (by omega)
    cases b <;> simp [routeWord0, hkept, hclear]
  · simp [hj]

theorem routeWord0_extract (b : Bool) : (routeWord0 v b).extractLsb' 0 26 = v.extractLsb' 0 26 :=
  BitVec.eq_of_toNat_eq (by simpa [bitsOf] using routeWord0_low (v := v) b (i := 0) (k := 26) (by decide))

/-- An entry after a write of word 0, with ok as found. -/
def RouteEntry.written (old : RouteEntry) (held : Option HeldRoute) (ni entry : Nat) (v : Word) (ok : Bool) :
    RouteEntry :=
  { old.withHeld held ni entry with w0 := routeWord0 v ok }

theorem RouteEntry.dst_written (b : Bool) : (old.written held ni entry v b).dst = bitsOf v 16 10 :=
  routeWord0_low b (by decide)

theorem RouteEntry.okBit_written (b : Bool) : (old.written held ni entry v b).okBit = b := routeWord0_ok b

/-- The checks of R207 read neither en nor ok. -/
theorem routeValid_written (b c : Bool) :
    routeValid ni (old.written held ni entry v b) = routeValid ni (old.written held ni entry v c) := by
  rw [routeValid, routeValid, RouteEntry.dst_written, RouteEntry.dst_written]
  rfl

/-- Word 0 takes effect with the held words, and ok is what the checks find in the entry that this makes. -/
theorem routeWritten_spec : ∃ b, routeWritten ni held old entry v = old.written held ni entry v b ∧
    routeValid ni (old.written held ni entry v b) = b := by
  have hraw : (v &&& 0x83FFFFFF#32) = routeWord0 v false := (BitVec.or_zero).symm
  have h : routeWritten ni held old entry v = if routeValid ni (old.written held ni entry v false)
      then old.written held ni entry v true else old.written held ni entry v false := by
    rw [RouteEntry.written, RouteEntry.written, ← hraw]
    rfl
  cases hv : routeValid ni (old.written held ni entry v false) with
  | false => exact ⟨false, by rw [h, hv]; rfl, hv⟩
  | true => exact ⟨true, by rw [h, hv]; rfl, (routeValid_written true false).trans hv⟩

theorem routeValid_iff : routeValid ni e = true ↔ niPresent e.dst = true ∧
    walk (ni / 4) none ((List.range 24).map (hopCode e.hops)) = some (e.dst / 4) := by
  simp [routeValid, niRouter]

theorem routeValidate_eq (hni : ni = s.srcFld m F.NOC_RT_SEL_ni) : routeValidate m entry v s = if niPresent ni then
    ((s.setRoute ni entry (routeWritten ni (s.heldRoute m) (s.route ni entry) entry v)).setHeldRoute m none).ack
    else s.error := by
  subst hni
  rw [routeValidate]
  cases niPresent (s.srcFld m F.NOC_RT_SEL_ni) <;> rfl

/-! ## A link comes back (R221) -/

theorem linkRetrain_down (h : s.bit (F.NOC_LINK_down (4 * r + d)) = true) : linkRetrain r d s =
    (s.setLink (4 * r + d) { s.link (4 * r + d) with retraining := true }).ack := if_pos h

theorem linkRetrain_up (h : s.bit (F.NOC_LINK_down (4 * r + d)) = false) : linkRetrain r d s = s.ack :=
  if_neg (by simp [h])

/-- A link that trains no longer, with no failed send counted. -/
def State.linkSettled (s : State) (r d : Nat) : State :=
  s.setLink (4 * r + d) { s.link (4 * r + d) with retraining := false, fails := 0 }

/-- Both ends of a link marked up. -/
def State.endsUp (s : State) (r d : Nat) : State :=
  match neighbour r d with
  | some q => (s.markUp (4 * r + d)).markUp (4 * q + opposite d)
  | none => s.markUp (4 * r + d)

theorem State.down_endsUp : (s.endsUp r d).bit (F.NOC_LINK_down l) =
    (!linkEnd r d l && s.bit (F.NOC_LINK_down l)) := by
  rw [State.endsUp]
  cases h : neighbour r d with
  | none => rw [State.down_markUp, linkEnd_edge h, bne]
  | some q =>
    dsimp only
    rw [State.down_markUp, State.down_markUp, linkEnd_inner h, bne, bne, Bool.not_or, ← Bool.and_assoc,
      Bool.and_comm (!(l == 4 * q + opposite d))]

theorem retrainDone_success (h : (s.link (4 * r + d)).retraining = true) :
    retrainDone r d true s = (s.linkSettled r d).endsUp r d := by
  rw [retrainDone, if_pos h]
  unfold State.endsUp
  cases neighbour r d <;> rfl

theorem retrainDone_failure (h : (s.link (4 * r + d)).retraining = true) :
    retrainDone r d false s = s.linkSettled r d := by
  rw [retrainDone, if_pos h]
  rfl

theorem retrainDone_idle {b : Bool} (h : (s.link (4 * r + d)).retraining = false) : retrainDone r d b s = s :=
  if_neg (by simp [h])

theorem State.linkSettled_retraining : ((s.linkSettled r d).link (4 * r + d)).retraining = false :=
  congrArg Link.retraining (State.link_setLink_same _)

/-! ## Routes moved off a link (R221, R511) -/

/-- A substitution is open for the link and no transaction carries it yet. -/
def State.awaitsRoutes (s : State) (r d : Nat) : Bool :=
  s.err.links.any fun x => x.1 == r && x.2.1 == d && x.2.2 == 0

theorem rerouteDone_none {c : List RouteChange} (h : s.awaitsRoutes r d = false) : rerouteDone r d c s = s :=
  if_pos (by rw [← State.awaitsRoutes, h]; rfl)

theorem rerouteDone_empty {r : Fin 192} {d : Fin 4} (h : s.awaitsRoutes r d = true) : rerouteDone r d [] s =
    State.closeSub { s with err := { s.err with
      links := s.err.links.filter fun x => !(x.1 == r.val && x.2.1 == d.val) } } (.link r d) := by
  have hr : Fin.ofNat 192 r.val = r := Fin.ofNat_val_eq_self r
  have hd : Fin.ofNat 4 d.val = d := Fin.ofNat_val_eq_self d
  rw [rerouteDone, ← State.awaitsRoutes, h, hr, hd]
  rfl

theorem rerouteDone_moves {c : List RouteChange} (h : s.awaitsRoutes r d = true) (hc : c ≠ []) :
    rerouteDone r d c s = if (s.huskStage (c.map s.routeMove)).1 = 0 then s else
      { (s.huskStage (c.map s.routeMove)).2.noDetours c with err := {
        ((s.huskStage (c.map s.routeMove)).2.noDetours c).err with
          links := ((s.huskStage (c.map s.routeMove)).2.noDetours c).err.links.map fun y =>
            if y.1 == r && y.2.1 == d then (r, d, (s.huskStage (c.map s.routeMove)).1) else y } } := by
  have he : c.isEmpty = false := List.isEmpty_eq_false_iff.2 hc
  rw [rerouteDone, ← State.awaitsRoutes, h, he]
  rfl

end Sys2Proof.Machine
end

section
open Sys2Proof Sys2Proof.Machine

/-- Settles O40: each command by its equation; the held set and the checks of R207 give the entry written. -/
theorem routeEntriesAreHeldAndValidated : Obligations.RouteEntriesAreHeldAndValidated := by
  refine ⟨?held, ?validated, route_set, ?retrain, ?isUp, ?trained, ?idle, ?moves, ?nothing, ?notOpen⟩
  case held =>
    intro s m e w v ni h hni hset
    have hheld : heldSet (s.heldRoute m) ni e.val = h := by
      obtain ⟨hs, hsame, hentry⟩ | ⟨hno, rfl⟩ := hset
      · rw [hs, heldSet_same hsame hentry]
      · exact heldSet_other hno
    rw [exec_routeWordWrite, routeWord_eq hni, hheld]
  case validated =>
    rintro s m e v ni old hni rfl
    obtain ⟨b, hwritten, hok⟩ := routeWritten_spec (ni := ni) (held := s.heldRoute m) (old := s.route ni e.val)
      (entry := e.val) (v := v)
    refine ⟨(s.route ni e.val).written (s.heldRoute m) ni e.val v b,
      by rw [exec_routeEntryValidate, routeValidate_eq hni, hwritten], ?_, ?_, routeWord0_en b,
      routeWord0_extract b, ?_⟩
    · intro h hs hni hentry
      rw [RouteEntry.written, hs, RouteEntry.withHeld_same hni hentry]
      exact ⟨rfl, rfl, rfl⟩
    · intro hno
      rw [RouteEntry.written, RouteEntry.withHeld_other hno]
      exact ⟨rfl, rfl, rfl⟩
    · rw [← routeValid_iff, hok, RouteEntry.okBit_written]
  case retrain =>
    intro s m r d h
    refine ⟨_, exec_nocLinkRetrain, ?_⟩
    rw [linkRetrain_down h]
    exact ⟨congrArg Link.retraining (State.link_setLink_same _), rfl, rfl⟩
  case isUp =>
    intro s m r d h
    rw [exec_nocLinkRetrain, linkRetrain_up h]
  case trained =>
    intro s r d h
    refine ⟨⟨_, exec_linkRetrainDone, ?_⟩, ⟨_, exec_linkRetrainDone, ?_⟩⟩
    · rw [retrainDone_success h]
      refine ⟨?_, fun q hq => ?_⟩ <;> rw [State.down_endsUp]
      · rw [linkEnd_near, Bool.not_true, Bool.false_and]
      · rw [linkEnd_far hq, Bool.not_true, Bool.false_and]
    · rw [retrainDone_failure h]
      exact ⟨rfl, State.linkSettled_retraining⟩
  case idle =>
    intro s r d b h
    rw [exec_linkRetrainDone, retrainDone_idle h]
  case moves =>
    intro s r d l h hl
    exact ⟨_, rfl, exec_rerouteComputeDone.trans (congrArg _ (rerouteDone_moves h hl))⟩
  case nothing =>
    intro s r d h
    rw [exec_rerouteComputeDone, rerouteDone_empty h]
  case notOpen =>
    intro s r d l h
    rw [exec_rerouteComputeDone, rerouteDone_none h]

end

section
/-! PROOFS. The queue engine's own events (R228, R229, R235, R240, R246 to R249, R254 to R256, R296): enable and
disable, time-outs, released heads, launches, fetched descriptors, descriptor commands and JOIN_ACK. -/

namespace Sys2Proof.Machine

variable {s : State} {m src part : Master} {tag : BitVec 8} {a : Assembly} {e : QEntry} {l : List QEntry}
  {q id n k t : Nat} {w : List Word} {x : Queue}

theorem exec_qeEnable : exec (.qeEnable m) s = .next (qeEnableGo m s) := by rfl
theorem exec_qeDisable : exec (.qeDisable m) s = .next (qeDisableGo m s) := by rfl
theorem exec_qeReady : exec .qeReady s = .next (qeReadyGo s) := by rfl
theorem exec_assemblyTimeout : exec (.assemblyTimeout src tag) s = .next (assemblyLate src tag s) := by rfl
theorem exec_headRelease {q : BitVec 20} : exec (.headRelease q) s = .next (headReleased q.toNat s) := by rfl
theorem exec_launchPrefetch {q : BitVec 20} : exec (.launchPrefetch q) s = .next (prefetch q.toNat s) := by rfl
theorem exec_launchStart {q : BitVec 20} {lost : Option Nat} :
    exec (.launchStart q lost) s = .next (launchHead q.toNat lost s) := by rfl
theorem exec_launchLateDrop {q : BitVec 20} :
    exec (.launchLateDrop q) s = .next (launchExpired q.toNat s) := by rfl
theorem exec_descFetchDone {q : BitVec 20} : exec (.descFetchDone q) s = .next (descFetched q.toNat s) := by rfl
theorem exec_qeDescRead : exec (.qeDescRead m) s = .next (descRead m s) := by rfl
theorem exec_qeDescWrite : exec (.qeDescWrite m) s = .next (descWrite m s) := by rfl
theorem exec_qeDescStage : exec (.qeDescStage m) s = .next (descStage m s) := by rfl
theorem exec_qeDescFlush : exec (.qeDescFlush m) s = .next (descFlush m s) := by rfl
theorem exec_txJoinAck {id : BitVec 8} : exec (.txJoinAck part id) s = .next (joinAcked part id.toNat s) := by rfl

/-! ## Enable and disable (R228, R229) -/

/-- What a zeroed area leaves in DRAM: what lies outside it. -/
theorem State.mem_zeroArea {b : Byte} : (k, b) ∈ (s.zeroArea q n).dram.mem ↔
    (k < q ∨ q + n ≤ k) ∧ (k, b) ∈ s.dram.mem := by
  simp [State.zeroArea, and_comm]

/-- The QE enabled, with none of its granules lost and its descriptors zero. -/
def State.qeWiped (s : State) : State :=
  ((s.setBit F.QE_CTRL_enable true).setReg R.QE_POOL_LOST 0).zeroArea s.descBase (2 ^ 25)

theorem State.qeWiped_enable : s.qeWiped.bit F.QE_CTRL_enable = true := by
  have hreg : s.qeWiped.reg R.QE_CTRL = (s.setBit F.QE_CTRL_enable true).reg R.QE_CTRL :=
    State.reg_setReg_ne _ _ (by decide)
  have hset := State.bit_setBit_same s F.QE_CTRL_enable true (by decide) rfl
  rw [State.bit, State.fld] at hset ⊢
  exact (congrArg (fun v => F.QE_CTRL_enable.get v == 1) hreg).trans hset

theorem State.descBase_enabling :
    ((s.setBit F.QE_CTRL_enable true).setReg R.QE_POOL_LOST 0).descBase = s.descBase := by
  rw [State.descBase, State.descBase, State.pair, State.pair]
  rw [State.reg_setReg_ne _ _ (by decide), State.reg_setReg_ne _ _ (by decide),
    State.reg_setBit_ne _ _ (by decide), State.reg_setBit_ne _ _ (by decide)]

theorem qeEnableGo_on (h : s.bit F.QE_CTRL_enable = true) : qeEnableGo m s = s.ack := if_pos h

theorem qeEnableGo_badAreas (h : s.bit F.QE_CTRL_enable = false) (hareas : s.areasOk = false) :
    qeEnableGo m s = s.qeRefuse m Code.invalidArgument := by
  rw [qeEnableGo, h, hareas]
  rfl

theorem qeEnableGo_areasOk (h : s.bit F.QE_CTRL_enable = false) (hareas : s.areasOk = true) :
    qeEnableGo m s = State.ack { s.qeWiped with qe := { waiting := s.qe.waiting } } := by
  rw [qeEnableGo, h, hareas, State.qeWiped]
  dsimp only
  rw [State.descBase_enabling]
  rfl

theorem qeDisableGo_on (h : s.bit F.QE_CTRL_enable = true) : qeDisableGo m s =
    if s.qeIdle then ((s.setBit F.QE_CTRL_enable false).setBit F.QE_CTRL_ready false).ack
    else s.qeRefuse m Code.notPermitted := by
  rw [qeDisableGo, h]
  rfl

theorem State.drain_idle (h : s.qe.waiting = []) : s.drain = s := by
  rw [State.drain, h, State.submitAll]
  exact congrArg (fun w => { s with qe := { s.qe with waiting := w } }) h.symm

theorem qeReadyGo_idle (hon : s.bit F.QE_CTRL_enable = true) (hready : s.bit F.QE_CTRL_ready = false)
    (hwait : s.qe.waiting = []) : qeReadyGo s = s.setBit F.QE_CTRL_ready true := by
  rw [qeReadyGo, hon, hready]
  exact State.drain_idle ((congrArg Qe.waiting (State.setBit_qe ..)).trans hwait)

/-! ## Assemblies that fall silent (R235) -/

theorem assemblyLate_silent (ha : s.assembly src tag = some a) (hlate : a.last + 64000 ≤ s.now)
    (hf : s.qeFrozen = false) : assemblyLate src tag s = (s.abandon a).drain := by
  rw [assemblyLate, ha]
  exact if_pos ⟨hlate, by simp [hf]⟩

theorem assemblyLate_early (ha : s.assembly src tag = some a) (hearly : s.now < a.last + 64000) :
    assemblyLate src tag s = s := by
  rw [assemblyLate, ha]
  exact if_neg fun h => absurd h.1 (Nat.not_le.2 hearly)

/-! ## Frozen under HALT (R258) -/

theorem headReleased_frozen (h : s.qeFrozen = true) : headReleased q s = s := if_pos h
theorem prefetch_frozen (h : s.qeFrozen = true) : prefetch q s = s := if_pos (.inl h)
theorem launchHead_frozen {lost : Option Nat} (h : s.qeFrozen = true) : launchHead q lost s = s := if_pos (.inl h)
theorem launchExpired_frozen (h : s.qeFrozen = true) : launchExpired q s = s := if_pos (.inl h)

/-! ## Heads that become released (R240, R246) -/

theorem headReleased_running (h : s.qeFrozen = false) : headReleased q s = s.settle q := if_neg (by simp [h])

@[simp] theorem State.queue_setQueue_same : (s.setQueue q x).queue q = x := Table.get_set_same ..

theorem State.notifyQueue_event (h : x.notify = 1) : s.notifyQueue x = s.raiseEvent (x.target % 1024) 10 := by
  rw [State.notifyQueue, h]
  rfl

theorem State.queue_raiseEvent : (s.raiseEvent n k).queue q = s.queue q := by
  rw [State.queue, State.queue, State.raiseEvent_qe]

theorem State.raiseEvent_sets (hk : k < 32) :
    ((s.raiseEvent n k).reg (R.ENG_EVT (s.flagEngine n))).getLsbD k = true := by
  rw [State.raiseEvent, State.reg_setReg_same, BitVec.getLsbD_or, BitVec.getLsbD_ofNat]
  simp [hk]

/-- A queue that notifies by an event and gains a released head. -/
theorem State.settle_gained (hr : (s.queue q).hasReleased s.now = true) (hnew : (s.queue q).announced = false)
    (hevent : (s.queue q).notify = 1) : s.settle q =
      (s.raiseEvent ((s.queue q).target % 1024) 10).setQueue q { s.queue q with announced := true } := by
  rw [State.settle, hr, hnew]
  dsimp only
  rw [if_pos (by rfl), State.notifyQueue_event hevent, State.queue_raiseEvent]

/-! ## Launches (R247 to R249) -/

/-- A launch queue that the running QE serves. -/
def State.Launchable (s : State) (q : Nat) : Prop :=
  s.qeFrozen = false ∧ (s.queue q).launch = true ∧ s.qGate q = 0

theorem State.Launchable.passes (h : s.Launchable q) :
    ¬(s.qeFrozen ∨ !(s.queue q).launch ∨ s.qGate q ≠ 0) := by
  obtain ⟨hf, hl, hg⟩ := h
  simp [hf, hl, hg]

theorem State.Launchable.passes_unheld (h : s.Launchable q) (hheld : (s.queue q).held = 0) :
    ¬(s.qeFrozen ∨ !(s.queue q).launch ∨ s.qGate q ≠ 0 ∨ (s.queue q).held ≠ 0) := by
  obtain ⟨hf, hl, hg⟩ := h
  simp [hf, hl, hg, hheld]

theorem prefetchIn_head {due : Nat} (hready : e.ready = false) (hdue : e.due ≤ due) :
    prefetchIn due (e :: l) = { e with ready := true } :: l := by
  rw [prefetchIn, if_neg (by simp [hready]), if_pos hdue]

theorem prefetch_head (h : s.Launchable q) (he : (s.queue q).entries = e :: l) (hready : e.ready = false)
    (hdue : e.due ≤ s.now + 1000 * s.fld F.QE_LAUNCH_CFG_lead_us)
    (hroom : (s.setQueue q { s.queue q with entries := { e with ready := true } :: l }).buffered ≤ 2097152) :
    prefetch q s = s.setQueue q { s.queue q with entries := { e with ready := true } :: l } := by
  rw [prefetch]
  dsimp only
  rw [if_neg h.passes, he, prefetchIn_head hready hdue]
  exact if_neg (Nat.not_lt.2 hroom)

/-- At its release instant an entry is not late, whatever the limit. -/
theorem State.lateLimit_ge (h : s.lateLimit e = some t) : e.due ≤ t := by
  rw [State.lateLimit] at h
  split at h
  · cases h
  · cases h
    exact Nat.le_add_right ..

theorem launchHead_atInstant (h : s.Launchable q) (hheld : (s.queue q).held = 0)
    (he : (s.queue q).entries = e :: l) (hnow : e.due = s.now) (hfound : s.chainLost q none = none) :
    launchHead q none s =
      ((((s.readGrans true e.grans).2.launchMessages (s.queue q)
        ((if (s.queue q).launchHdr then [(e.record, crc32c e.record, false)] else []) ++
          (s.readGrans true e.grans).1)).removeHead q).changed q) := by
  have hreleased : e.released s.now = true := by simp [QEntry.released, hnow]
  have hnotBefore : ¬e.due < s.now := Nat.not_lt.2 hnow.ge
  rw [launchHead]
  dsimp only
  rw [if_neg (h.passes_unheld hheld), he]
  dsimp only
  rw [if_neg (by simp [hreleased]), hfound]
  dsimp only
  cases hlim : s.lateLimit e with
  | none => rw [if_neg Bool.false_ne_true, if_neg hnotBefore]
  | some t =>
    have hintime : ¬t < s.now := Nat.not_lt.2 (hnow ▸ State.lateLimit_ge hlim)
    rw [if_neg (by simpa using hintime), if_neg hnotBefore]

theorem launchExpired_late (h : s.Launchable q) (hheld : (s.queue q).held = 0)
    (he : (s.queue q).entries = e :: l) (hlim : s.lateLimit e = some t) (hle : t ≤ s.now) :
    launchExpired q s = s.dropLate q := by
  rw [launchExpired]
  rw [if_neg (h.passes_unheld hheld), he]
  dsimp only
  rw [hlim]
  exact if_pos hle

/-! ## Descriptors (R252, R254 to R256) -/

theorem descFetched_some {r : Nat × List QReq} (h : s.qe.misses.find? (·.1 == q) = some r) : descFetched q s =
    (State.submitAll { s.touch q with qe := { (s.touch q).qe with
      misses := (s.touch q).qe.misses.filter fun x => x.1 != q } } r.2).drain := by
  rw [descFetched, h]

/-- A queue with granules shows the ends of its chain. -/
theorem descRead_chain (h : chainOf (s.queue (s.descSel m)).entries ≠ []) : descRead m s =
    ((s.putWindow m 0 ((s.queue (s.descSel m)).words ((chainOf (s.queue (s.descSel m)).entries).headD 0)
      ((chainOf (s.queue (s.descSel m)).entries).getLast?.getD 0))).descStatus m 0) := by
  rw [descRead]
  rw [if_neg fun hempty => h (List.isEmpty_iff.1 hempty.1)]

theorem descStage_refused (h : s.descCheck (s.descSel m) (s.window m) ≠ 0) :
    descStage m s = s.descStatus m (s.descCheck (s.descSel m) (s.window m)) := if_pos h

/-- The request under which a descriptor write is staged: it names the writer, the queue and the transaction. -/
def descRequest (m : Master) (q id : Nat) : QReq where
  head := { src := m, tag := 0, queue := BitVec.ofNat 20 q, post := false, txid := BitVec.ofNat 8 id }
  kind := .flush none

theorem QReq.eq_descRequest {r : QReq} (hhead : r.head = QHead.mk m 0 (BitVec.ofNat 20 q) false (BitVec.ofNat 8 id))
    (hkind : r.kind = .flush none) (hpkt : r.pkt = none) : r = descRequest m q id := by
  cases r
  cases hhead
  cases hkind
  cases hpkt
  rfl

theorem descStage_room (h : s.descCheck (s.descSel m) (s.window m) = 0) (hroom : s.qe.staged.length < 4096)
    {c : Nat × State} (hc : c = s.qStage (descRequest m (s.descSel m) (s.srcFld m F.QE_DESC_SEL_txid))
      (.descriptor (BitVec.ofNat 20 (s.descSel m)) (s.window m)) 0 []) :
    descStage m s = if c.1 ≠ 0 then c.2.descStatus m c.1
      else (c.2.addStaged (s.srcFld m F.QE_DESC_SEL_txid)
        (.descriptor (s.descSel m) (s.window m))).descStatus m 0 := by
  have hnotFull : s.stagedFull = false := decide_eq_false (Nat.not_le.2 hroom)
  subst hc
  rw [descStage]
  dsimp only
  rw [if_neg (not_not.2 h), hnotFull]
  rfl

/-! ## JOIN_ACK (R296) -/

theorem joinAcked_eq : joinAcked part id s =
    if part.same Unit.qe then (txJoinAckGo part id s).drain else txJoinAckGo part id s := by rfl

theorem joinAcked_elsewhere (h : part.same Unit.qe = false) : joinAcked part id s = txJoinAckGo part id s :=
  if_neg (by simp [h])

theorem txJoinAckGo_notSent (h : (s.store id part).ackSent = false) : txJoinAckGo part id s = s :=
  if_pos (by simp [h])

/-- A posted first staging has no response that waits. -/
theorem txJoinAckGo_posted (hsent : (s.store id part).ackSent = true) (hwait : (s.store id part).waiting = some src)
    (hposted : (s.store id part).posted = true) : txJoinAckGo part id s =
      s.setStore id part { s.store id part with
        ackSent := false, joined := true, waiting := none, request := none, body := [] } := by
  rw [txJoinAckGo]
  dsimp only
  rw [if_neg (by simp [hsent]), hwait]
  exact if_pos hposted

end Sys2Proof.Machine
end

section
open Sys2Proof Sys2Proof.Machine

/-- Settles O43: each event of the QE by its equation. -/
theorem queueEngineRunsItsEvents : Obligations.QueueEngineRunsItsEvents := by
  refine ⟨?enabled, ?badAreas, ?on, ?ready, ?silent, ?early, ?frozen, ?released, ?prefetched, ?launched, ?late,
    ?fetched, ?read, ?write, ?flush, ?stageRefused, ?staged, ?joinAck, ?notSent, ?posted⟩
  case enabled =>
    intro s m hoff hareas
    refine ⟨_, exec_qeEnable, ?_⟩
    rw [qeEnableGo_areasOk hoff hareas]
    refine ⟨State.qeWiped_enable, rfl, rfl, fun k hk b => ?_, fun k b hlo hhi hmem => ?_⟩
    · exact (State.mem_zeroArea.trans (and_iff_right hk)).symm
    · have hout := (State.mem_zeroArea.1 hmem).1
      omega
  case badAreas =>
    intro s m hoff hareas
    rw [exec_qeEnable, qeEnableGo_badAreas hoff hareas]
    rfl
  case on =>
    intro s m hon
    rw [exec_qeEnable, exec_qeDisable, qeEnableGo_on hon, qeDisableGo_on hon]
    exact ⟨rfl, rfl⟩
  case ready =>
    intro s hon hready hwait
    rw [exec_qeReady, qeReadyGo_idle hon hready hwait]
  case silent =>
    intro s src tag a ha hlate hf
    rw [exec_assemblyTimeout, assemblyLate_silent ha hlate hf]
  case early =>
    intro s src tag a ha hearly
    rw [exec_assemblyTimeout, assemblyLate_early ha hearly]
  case frozen =>
    intro s q h
    rw [exec_headRelease, exec_launchPrefetch, exec_launchStart, exec_launchLateDrop, headReleased_frozen h,
      prefetch_frozen h, launchHead_frozen h, launchExpired_frozen h]
    exact ⟨rfl, rfl, rfl, rfl⟩
  case released =>
    intro s q hf hr hnew hevent
    refine ⟨_, exec_headRelease, ?_⟩
    rw [headReleased_running hf, State.settle_gained hr hnew hevent]
    refine ⟨?announced, ?entries, ?flag⟩
    case announced => rw [State.queue_setQueue_same]
    case entries => rw [State.queue_setQueue_same]
    case flag =>
      rw [State.setQueue_reg]
      exact State.raiseEvent_sets (by decide)
  case prefetched =>
    intro s q e l hf hlaunch hgate he hready hdue hroom
    rw [exec_launchPrefetch, prefetch_head ⟨hf, hlaunch, hgate⟩ he hready hdue hroom]
  case launched =>
    rintro s q e l d hf hlaunch hgate hheld he hnow hfound rfl
    rw [exec_launchStart, launchHead_atInstant ⟨hf, hlaunch, hgate⟩ hheld he hnow hfound]
  case late =>
    intro s q e l t hf hlaunch hgate hheld he hlim hle
    rw [exec_launchLateDrop, launchExpired_late ⟨hf, hlaunch, hgate⟩ hheld he hlim hle]
  case fetched =>
    intro s q r h
    rw [exec_descFetchDone, descFetched_some h]
  case read =>
    rintro s m q x c rfl rfl rfl h
    rw [exec_qeDescRead, descRead_chain h]
    rfl
  case write =>
    rintro s m q w rfl rfl
    rfl
  case flush =>
    rintro s m q rfl
    rfl
  case stageRefused =>
    rintro s m q w st rfl rfl rfl h
    rw [exec_qeDescStage, descStage_refused h]
    rfl
  case staged =>
    rintro s m q w r x rfl rfl h hroom hhead hkind hpkt rfl
    rw [exec_qeDescStage, QReq.eq_descRequest hhead hkind hpkt, descStage_room h hroom rfl]
    rfl
  case joinAck =>
    intro s part id
    rw [exec_txJoinAck, joinAcked_eq]
  case notSent =>
    intro s part id hsent hother
    rw [exec_txJoinAck, joinAcked_elsewhere hother, txJoinAckGo_notSent hsent]
  case posted =>
    intro s part id m hsent hother hwait hposted
    rw [exec_txJoinAck, joinAcked_elsewhere hother, txJoinAckGo_posted hsent hwait hposted]

end

section
/-! PROOFS. The time comparison (R260, Table 8.1), the two domains of the time unit, and what one tick does to
them (R259, R263). -/

namespace Sys2Proof.Machine

variable {s u : State} {b c : Bool} {k : Nat}

/-! ## The time comparison (R260) -/

/-- The comparison's difference is the one of the counts modulo 2³². -/
theorem toNat_sub_eq_emod (t n : Word) : ((t - n).toNat : Int) = ((t.toNat : Int) - n.toNat) % 2 ^ 32 := by
  have hn := n.isLt
  rw [BitVec.toNat_sub]
  omega

theorem timeClass_bounds {t n : Word} {d : Int} (hd : d = ((t.toNat : Int) - n.toNat) % 2 ^ 32) :
    (timeClass t n = .reached ↔ d = 0 ∨ 2147483648 ≤ d) ∧
    (timeClass t n = .ahead ↔ 1 ≤ d ∧ d ≤ 2000000000) ∧
    (timeClass t n = .outside ↔ 2000000001 ≤ d ∧ d ≤ 2147483647) := by
  rw [← toNat_sub_eq_emod] at hd
  subst hd
  rw [timeClass]
  generalize (t - n).toNat = k
  split
  case isTrue h => simp only [reduceCtorEq, true_iff, false_iff]; omega
  case isFalse h =>
    split
    case isTrue h' => simp only [reduceCtorEq, true_iff, false_iff]; omega
    case isFalse h' => simp only [reduceCtorEq, true_iff, false_iff]; omega

/-! ## The domains -/

theorem State.dom_congr (h : u.tim = s.tim) : u.dom b = s.dom b := by rw [State.dom, State.dom, h]

@[simp] theorem State.dom_setReg (o : Nat) (w : Word) : (s.setReg o w).dom b = s.dom b := by rfl
@[simp] theorem State.dom_setFld (f : Field) (v : Nat) : (s.setFld f v).dom b = s.dom b := by rfl
@[simp] theorem State.dom_setBit (f : Field) (v : Bool) : (s.setBit f v).dom b = s.dom b := by rfl
@[simp] theorem State.dom_ack (x : Nat) : (s.ack x).dom b = s.dom b := by rfl
@[simp] theorem State.dom_fault (m : Master) (k : FaultClass) (j : Subject) (x d : Nat) (r : Bool) :
    (s.fault m k j x d r).dom b = s.dom b := State.dom_congr (State.fault_tim ..)

@[simp] theorem State.dom_setDom_same (d : Domain) : (s.setDom b d).dom b = d := by cases b <;> rfl

theorem State.dom_setDom_ne (d : Domain) (h : c ≠ b) : (s.setDom b d).dom c = s.dom c := by
  cases b <;> cases c <;> trivial

@[simp] theorem State.dom_setDom_other (d : Domain) : (s.setDom b d).dom (!b) = s.dom (!b) :=
  State.dom_setDom_ne d (by simp)

/-! ## One tick (R259, R263, R266, R283) -/

/-- One domain at its tick. -/
def State.tickDom (s : State) (b : Bool) : State :=
  s.setDom b ((s.dom b).tick (s.reg (R.TIM_x_INCR (b2n b))).toNat
    (s.fld (F.TIM_x_INCR_FINE_fine (b2n b))) (s.fld (F.TIM_x_ADJ_CTRL_rate_ns_s (b2n b))))

/-- O at its tick: it slews towards zero. -/
def State.tickOffset (s : State) : State :=
  if s.tim.offset = 0 then s
  else s.setOffset
    (s.tim.offset - slewStep s.tim.offset (slewQuantum s.tim.offsetAcc (s.fld F.TIM_SVC_SLEW_rate_ns_s)).1)
    (slewQuantum s.tim.offsetAcc (s.fld F.TIM_SVC_SLEW_rate_ns_s)).2

/-- A nanosecond more of uptime. -/
def State.passNs (s : State) : State := { s with tim := { s.tim with uptime := s.tim.uptime + 1 } }

theorem State.tick_stopped (h : s.tim.running = false) : s.tick = s.passNs := if_pos (by simp [h])

theorem State.tick_running (h : s.tim.running = true) :
    s.tick = ((s.passNs.tickDom false).tickDom true).tickOffset := if_neg (by simp [h])

@[simp] theorem State.dom_tickOffset : s.tickOffset.dom b = s.dom b := by
  unfold State.tickOffset
  split <;> rfl

theorem State.dom_tickDom_same : (s.tickDom b).dom b = (s.dom b).tick (s.reg (R.TIM_x_INCR (b2n b))).toNat
    (s.fld (F.TIM_x_INCR_FINE_fine (b2n b))) (s.fld (F.TIM_x_ADJ_CTRL_rate_ns_s (b2n b))) :=
  State.dom_setDom_same _

@[simp] theorem State.reg_tickDom : (s.tickDom b).reg k = s.reg k := State.setDom_reg ..

@[simp] theorem State.fld_tickDom (f : Field) : (s.tickDom b).fld f = s.fld f := State.setDom_fld ..

/-- Each domain takes its tick by its own registers. -/
theorem State.dom_tick (h : s.tim.running = true) : s.tick.dom b = (s.dom b).tick (s.reg (R.TIM_x_INCR (b2n b))).toNat
    (s.fld (F.TIM_x_INCR_FINE_fine (b2n b))) (s.fld (F.TIM_x_ADJ_CTRL_rate_ns_s (b2n b))) := by
  rw [State.tick_running h, State.dom_tickOffset]
  cases b with
  | false => exact (State.dom_setDom_ne _ (by decide)).trans State.dom_tickDom_same
  | true =>
    rw [State.dom_tickDom_same, State.reg_tickDom, State.fld_tickDom, State.fld_tickDom, State.tickDom,
      State.dom_setDom_ne _ (by decide)]
    rfl

/-- What time does not reach: engines, memories, packets, cues, waits, the queue of commands, the monitor. -/
def State.besideTime (s : State) :
    Table Engine × Spm × Dram × Noc × Table CueAction × Table Wait × List Instr × Monitor :=
  (s.eng, s.spm, s.dram, s.noc, s.cues, s.waits, s.pending, s.mon)

theorem State.besideTime_tickOffset : s.tickOffset.besideTime = s.besideTime := by
  unfold State.tickOffset
  split <;> rfl

theorem State.besideTime_tickDom : (s.tickDom b).besideTime = s.besideTime := by rfl

theorem State.besideTime_tick : s.tick.besideTime = s.besideTime := by
  cases h : s.tim.running with
  | false => rw [State.tick_stopped h]; rfl
  | true =>
    rw [State.tick_running h, State.besideTime_tickOffset, State.besideTime_tickDom, State.besideTime_tickDom]
    rfl

/-- The registers that show O. -/
theorem State.ctrl_setOffset (o : Int) (acc : Nat) :
    (s.setOffset o acc).ctrl = (s.setBit F.TIM_SVC_STATUS_slewing (o != 0)).ctrl := by rfl

theorem State.reg_setOffset_ne (o : Int) (acc : Nat) (hk : k ≠ R.TIM_SVC_STATUS) :
    (s.setOffset o acc).reg k = s.reg k := by
  rw [State.reg_eq_of_ctrl (State.ctrl_setOffset o acc), State.reg_setBit_ne _ _ hk]

theorem State.reg_tickOffset (hk : k ≠ R.TIM_SVC_STATUS) : s.tickOffset.reg k = s.reg k := by
  unfold State.tickOffset
  split
  · rfl
  · exact State.reg_setOffset_ne _ _ hk

theorem State.reg_tick (hk : k ≠ R.TIM_SVC_STATUS) : s.tick.reg k = s.reg k := by
  cases h : s.tim.running with
  | false => rw [State.tick_stopped h]; rfl
  | true =>
    rw [State.tick_running h, State.reg_tickOffset hk, State.reg_tickDom, State.reg_tickDom]
    rfl

theorem Domain.tick_steady {d : Domain} (h : d.slewing = false) (incr fine rate : Nat) :
    (d.tick incr fine rate).time = d.time + BitVec.ofNat 96 (16 * incr) +
        (if 65536 ≤ d.fineAcc.toNat + fine then 16#96 else 0#96) ∧
      (d.tick incr fine rate).fineAcc = d.fineAcc + BitVec.ofNat 16 fine := by
  simp only [Domain.tick, h]
  refine ⟨?_, ?_⟩
  · rw [Nat.mul_comm, BitVec.ofNat_add, ← BitVec.add_assoc]
    split <;> exact BitVec.add_zero _
  · rw [BitVec.ofNat_add, BitVec.ofNat_toNat, BitVec.setWidth_eq]

/-! ## The idle step (notes/assumptions/2) -/

theorem step_idle (h : s.pending = []) : step s = .next s.idle := by rw [step, h]

theorem State.wearRecord_unlocked (h : s.bit F.PCI_FLASH_WEAR_acorn_locked = false) : s.wearRecord = s :=
  if_neg (by simp [h])

theorem State.monServeAll_idle (h : s.mon.waiting = []) : s.monServeAll = s := by
  rw [State.monServeAll, h]
  rfl

/-- With no record due and no monitor command waiting, time passes and nothing else happens. -/
theorem State.idle_eq_tick (hm : s.mon.waiting = []) (hw : s.bit F.PCI_FLASH_WEAR_acorn_locked = false) :
    s.idle = s.tick := by
  have hmon : s.tick.mon = s.mon := congrArg (·.2.2.2.2.2.2.2) State.besideTime_tick
  have hbit : s.tick.bit F.PCI_FLASH_WEAR_acorn_locked = false := by
    rw [State.bit, State.fld, State.reg_tick (by decide)]
    exact hw
  rw [State.idle, State.wearRecord_unlocked hbit, State.monServeAll_idle (by rw [hmon, hm])]

end Sys2Proof.Machine
end

section
open Sys2Proof Sys2Proof.Machine

/-- Settles O29: the three classes by their bounds on d, and a unit's own count. -/
theorem timeComparisonHasThreeClasses : Obligations.TimeComparisonHasThreeClasses := by
  unfold Obligations.TimeComparisonHasThreeClasses
  exact ⟨fun t n d hd => timeClass_bounds hd, fun s t => rfl⟩

/-- Settles O36: the idle step is one tick of the time unit, and the tick of each domain is its own. -/
theorem emptyQueueLetsTimePass : Obligations.EmptyQueueLetsTimePass := by
  unfold Obligations.EmptyQueueLetsTimePass
  refine ⟨?stopped, ?frame, ?domains⟩
  case stopped =>
    intro s hp hr hm hw
    rw [step_idle hp, State.idle_eq_tick hm hw, State.tick_stopped hr]
    rfl
  case frame =>
    intro s hp hr hm hw
    have hrest : s.tick.besideTime = s.besideTime := State.besideTime_tick
    obtain ⟨heng, hspm, hdram, hnoc, hcues, hwaits, hpend, -⟩ := by simpa [State.besideTime] using hrest
    exact ⟨s.tick, by rw [step_idle hp, State.idle_eq_tick hm hw], heng, hspm, hdram, hnoc, hcues, hwaits,
      hpend.trans hp⟩
  case domains =>
    intro s hp hr hm hw hs
    refine ⟨s.tick, by rw [step_idle hp, State.idle_eq_tick hm hw], fun b => ?_⟩
    rw [State.dom_tick hr]
    exact Domain.tick_steady (hs b) ..

end

section
/-! PROOFS. Participants of transactions (R295 to R307): staging and JOIN, PREPARE and the vote, the decision, the
apply at the launch tick, ABORT, orphans, and synchronisation words (R275). -/

namespace Sys2Proof.Machine

variable {s u : State} {part m : Master} {id : Nat} {c : Staged} {posted : Bool}

theorem exec_txStage {x : Change} {i : BitVec 8} :
    exec (.txStage part m x i posted) s = .next (txStageGo part m x i.toNat posted s) := by rfl
theorem exec_txJoin {i : BitVec 8} : exec (.txJoin part i) s = .next (txJoinGo part i.toNat s) := by rfl
theorem exec_txPrepare {i : BitVec 8} : exec (.txPrepare part i) s = .next (txPrepareGo part i.toNat s) := by rfl
theorem exec_txCommitReceive {i : BitVec 8} :
    exec (.txCommitReceive part i) s = .next (txCommitTake part i.toNat s) := by rfl
theorem exec_txApply {i : BitVec 8} : exec (.txApply part i) s = .next (txApplyGo part i.toNat s) := by rfl
theorem exec_txAbortReceive {i : BitVec 8} :
    exec (.txAbortReceive part i) s = .next (txAbortTake part i.toNat s) := by rfl
theorem exec_txOrphan {i : BitVec 8} : exec (.txOrphan part i) s = .next (txOrphanGo part i.toNat s) := by rfl
theorem exec_txuStageData {data : Word} : exec (.txuStageData m data) s = .next (stageData m data s) := by rfl
theorem exec_syncWord {l : List Master} : exec (.syncWord l) s = .next (syncWord l s) := by rfl

/-! ## Stores and transactions -/

@[simp] theorem State.store_setStore_same (p : PartStore) : (s.setStore id part p).store id part = p :=
  Table.get_set_same ..

theorem State.store_congr (h : u.txu = s.txu) : u.store id part = s.store id part := by
  rw [State.store, State.store, h]

@[simp] theorem State.store_error (st : Nat) : (s.error st).store id part = s.store id part := by rfl

@[simp] theorem State.store_setTx (i : Nat) (x : Tx) : (s.setTx i x).store id part = s.store id part := by rfl

@[simp] theorem State.tx_setStore (i : Nat) (p : PartStore) : (s.setStore i part p).tx id = s.tx id := by rfl

@[simp] theorem State.store_takeMsg : (s.takeMsg id part).store id part = s.store id part := by rfl

theorem State.isReached_takeMsg (t : Word) : (s.takeMsg id part).isReached t = s.isReached t := by rfl

/-! ## Staging (R295 to R298, R307) -/

theorem State.stage_late {v : Vote} (hb : s.joinBlocked part c.src = false) (hv : (s.store id part).vote = some v) :
    s.stage id part c posted = (.refused Code.txClosed, (s.fault part .txLateStage (.unit c.src)).setStore id part
      { s.store id part with withdrawn := true }) := by
  simp only [State.stage, hb, hv]
  rfl

theorem State.stage_closed (hb : s.joinBlocked part c.src = false) (hv : (s.store id part).vote = none)
    (ht : (s.tx id).takes = false) : s.stage id part c posted = (.refused Code.txClosed,
      if posted then s.fault part .txStage (.unit c.src) Code.txClosed else s) := by
  simp only [State.stage, hb, hv, ht]
  rfl

/-- A change put into the store and counted by its transaction. -/
def State.takeChange (s : State) (id : Nat) (part : Master) (c : Staged) : State :=
  (s.putChange id part c).countStaged id c.change

theorem State.stage_held (hb : s.joinBlocked part c.src = false) (hv : (s.store id part).vote = none)
    (ht : (s.tx id).takes = true) (hj : (s.store id part).joined = true) :
    s.stage id part c posted = (.held, s.takeChange id part c) := by
  simp only [State.stage, hb, hv, ht, hj]
  rfl

theorem State.stage_joining (hb : s.joinBlocked part c.src = false) (hv : (s.store id part).vote = none)
    (ht : (s.tx id).takes = true) (hj : (s.store id part).joined = false) :
    s.stage id part c posted = (.joining, (s.takeChange id part c).setStore id part
      { (s.takeChange id part c).store id part with joinSent := true, waiting := some c.src, posted := posted }) := by
  simp only [State.stage, hb, hv, ht, hj]
  rfl

/-- A staging that is no DEQ is answered by what it comes to. -/
theorem txStageGo_stage {x : Change} (hx : ∀ q, x ≠ .dequeue q) : txStageGo part m x id posted s =
    match (s.stage id part { change := x, src := m } posted).1 with
    | .blocked => s
    | .joining => (s.stage id part { change := x, src := m } posted).2
    | .held => if posted then (s.stage id part { change := x, src := m } posted).2
      else (s.stage id part { change := x, src := m } posted).2.ack
    | .refused st => if posted then (s.stage id part { change := x, src := m } posted).2
      else (s.stage id part { change := x, src := m } posted).2.error st := by
  unfold txStageGo
  split
  · exact absurd rfl (hx _)
  · rfl

theorem txStageGo_refused {x : Change} {st : Nat} (hx : ∀ q, x ≠ .dequeue q)
    (h : s.stage id part { change := x, src := m } posted = (.refused st, u)) :
    txStageGo part m x id posted s = if posted then u else u.error st := by
  rw [txStageGo_stage hx, h]

theorem txStageGo_held {x : Change} (hx : ∀ q, x ≠ .dequeue q)
    (h : s.stage id part { change := x, src := m } false = (.held, u)) : txStageGo part m x id false s = u.ack := by
  rw [txStageGo_stage hx, h]
  rfl

theorem txStageGo_joining {x : Change} (hx : ∀ q, x ≠ .dequeue q)
    (h : s.stage id part { change := x, src := m } posted = (.joining, u)) :
    txStageGo part m x id posted s = u := by
  rw [txStageGo_stage hx, h]

/-- A change that is not refused replaces the earlier one of its word. -/
theorem State.putChange_changes (h : s.stageRefusal id part c.change = none) :
    ((s.putChange id part c).store id part).changes =
      (s.store id part).changes.filter (fun d => !d.change.sameWord c.change) ++ [c] := by
  rw [State.putChange, State.store_setStore_same, h]
  rfl

theorem txJoinGo_joins (hs : (s.store id part).joinSent = true) (ht : (s.tx id).takes = true)
    (hl : (s.tx id).parts.length < 4096) : txJoinGo part id s =
      (s.setStore id part { s.store id part with joinSent := false, ackSent := true }).setTx id
        { s.tx id with parts := (s.tx id).parts ++ [{ who := part }] } := by
  simp only [txJoinGo, hs, ht, Nat.not_le.2 hl]
  rfl

/-! ## The vote and the decision (R301 to R304) -/

theorem txPrepareGo_refuse {d : BitVec 16} (hm : s.txMsg id part .prepare = true)
    (hv : (s.takeMsg id part).voteOf (s.store id part) = .refuse d) : txPrepareGo part id s =
      (s.takeMsg id part).setStore id part { s.store id part with vote := some (.refuse d) } := by
  simp only [txPrepareGo, hm, State.store_takeMsg, hv]
  rfl

theorem txPrepareGo_prepared (hm : s.txMsg id part .prepare = true)
    (hv : (s.takeMsg id part).voteOf (s.store id part) = .prepared) :
    (txPrepareGo part id s).store id part = { s.store id part with
      vote := some .prepared, votedAt := s.tim.uptime
      claims := ((s.takeMsg id part).voteTakes id (s.store id part).changes).2.1
      pods := ((s.takeMsg id part).voteTakes id (s.store id part).changes).2.2 } := by
  simp only [txPrepareGo, hm, State.store_takeMsg, hv]
  exact State.store_setStore_same _

theorem State.learnLaunch_ahead {t : Word} (ha : (s.store id part).answer = none) (hc : (s.store id part).commit = none)
    (hv : (s.store id part).vote = some .prepared) (ht : s.isReached t = false) :
    s.learnLaunch id part t = s.setStore id part { s.store id part with commit := some t } := by
  simp only [State.learnLaunch, ha, hc, hv, ht]
  rfl

theorem State.learnLaunch_passed {t : Word} (ha : (s.store id part).answer = none)
    (hc : (s.store id part).commit = none) (ht : s.isReached t = true) :
    s.learnLaunch id part t = s.tooLate id part := by
  simp only [State.learnLaunch, ha, hc, ht, Bool.or_true]
  rfl

theorem txCommitTake_received (hm : s.txMsg id part .commit = true) :
    txCommitTake part id s = (s.takeMsg id part).learnLaunch id part (s.tx id).tick := if_neg (by simp [hm])

theorem State.tick_takeMsg : ((s.takeMsg id part).tx id).tick = (s.tx id).tick := by
  rw [State.takeMsg, State.tx_setTx_same]

theorem txAbortTake_received (hm : s.txMsg id part .abort = true) (ha : (s.store id part).answer = none)
    (hu : u = (s.takeMsg id part).discardStaged id part) : txAbortTake part id s =
      (u.setStore id part { u.store id part with answer := some .abortAck }).subSettle id := by
  subst hu
  simp only [txAbortTake, hm, State.store_takeMsg, ha]
  rfl

theorem State.store_discardStaged : (s.discardStaged id part).store id part =
    { s.store id part with changes := [], claims := [], pods := [] } :=
  State.store_setStore_same _

theorem txOrphanGo_store (hv : (s.store id part).vote = some .prepared) (hc : (s.store id part).commit = none)
    (ha : (s.store id part).answer = none) (ht : (s.store id part).votedAt + 2000000000 ≤ s.tim.uptime) :
    (txOrphanGo part id s).store id part = {} := by
  have hp : s.passed (s.store id part).votedAt 2000000000 = true := decide_eq_true ht
  rw [txOrphanGo, if_pos ⟨hv, hc, ha, hp⟩, State.store_congr (State.fault_txu ..), State.store_setStore_same]

/-! ## The apply (R275, R304) -/

theorem State.linksApply_none {l : List Staged} (h : linkWords l = []) : s.linksApply (linkWords l) = s := by
  rw [h]
  rfl

/-- Once every participant has answered, the link substitutions that the transaction carried close. -/
def State.closeAnswered (s : State) (id : Nat) : State :=
  if s.allAnswered id then
    ({ s with err := { s.err with links := dropLink id s.err.links } }).closeLinks (s.linksOfTx id)
  else s

theorem State.closeAnswered_waits (h : s.allAnswered id = false) : s.closeAnswered id = s := if_neg (by simp [h])

/-- What a participant's store is once its changes have been applied, or some of them have not. -/
def PartStore.concluded (p : PartStore) (ok : Bool) : PartStore :=
  { p with changes := [], claims := [], pods := []
           answer := some (if ok && !p.withdrawn then .applied else .notApplied) }

/-- A participant other than the queue engine at its launch tick. -/
theorem txApplyGo_due {tick : Word} {p : PartStore} {r : State × Bool} (hp : p = s.store id part)
    (hc : p.commit = some tick) (ha : p.answer = none) (ht : s.isReached tick = true) (hl : s.copyLost part = false)
    (hqe : part.same Unit.qe = false) (hr : r = s.changesApply id p.changes) : txApplyGo part id s =
      ((r.1.linksApply (linkWords p.changes)).setStore id part (p.concluded r.2)).closeAnswered id := by
  subst hp hr
  have hdue : ¬((s.store id part).answer.isSome || !s.isReached tick || s.copyLost part) = true := by
    simp [ha, ht, hl]
  rw [txApplyGo]
  split
  case h_1 hnone => simp [hc] at hnone
  case h_2 t hsome =>
    obtain rfl : tick = t := Option.some.inj (hc.symm.trans hsome)
    rw [if_neg hdue, hqe]
    rfl

theorem txApplyGo_idle {tick : Word} (hc : (s.store id part).commit = some tick)
    (h : (s.store id part).answer.isSome = true ∨ s.isReached tick = false ∨ s.copyLost part = true) :
    txApplyGo part id s = s := by
  simp only [txApplyGo, hc]
  refine if_pos ?_
  rcases h with h | h | h <;> simp [h]

/-! ## Staging through TXU_STAGE_DATA (R295) -/

theorem stageData_unaligned {data : Word} {a : Nat} (ha : a = (s.srcReg m R.TXU_STAGE_ADDR_LO).toNat +
      2 ^ 32 * bitsOf (s.srcReg m R.TXU_STAGE_ADDR_HI) 0 16) (h4 : a % 4 ≠ 0) :
    stageData m data s = (s.setSrcFld m F.TXU_CMD_RESULT_status Code.invalidArgument).ack := by
  subst ha
  exact if_pos h4

theorem stageData_held {data : Word} {a : Nat} {x : Change} (ha : a = (s.srcReg m R.TXU_STAGE_ADDR_LO).toNat +
      2 ^ 32 * bitsOf (s.srcReg m R.TXU_STAGE_ADDR_HI) 0 16)
    (hid : id = bitsOf (s.srcReg m R.TXU_STAGE_ADDR_HI) 24 8) (h4 : a % 4 = 0)
    (hw : s.stagedWrite m a 4 (BitVec.setWidth 64 data) = some (part, x)) (hh : s.takeHeld m x = s)
    (hs : s.stage id part { change := x, src := m } false = (.held, u)) :
    stageData m data s = (u.setSrcFld m F.TXU_CMD_RESULT_status 0).ack := by
  subst ha hid
  rw [stageData]
  dsimp only
  rw [if_neg (by simpa using h4), hw]
  dsimp only
  rw [hh, hs]

/-! ## Synchronisation words (R275, R303) -/

/-- A word reaches the participants of no transaction that is not an ASAP commit. -/
theorem State.wordCommits_none {l : List (Nat × Tx)} (h : ∀ e ∈ l, e.2.state ≠ .committed ∨ e.2.launch ≠ .asap) :
    s.wordCommits l = s := by
  induction l with
  | nil => rfl
  | cons e l ih =>
    have hno : (e.2.state == .committed && e.2.launch == .asap) = false := by
      rcases h e (by simp) with hs | hs <;> simp [hs]
    rw [State.wordCommits, hno, Bool.false_and, Bool.false_and, if_neg (by decide)]
    exact ih fun x hx => h x (by simp [hx])

end Sys2Proof.Machine
end

section
open Sys2Proof Sys2Proof.Machine

/-- Settles O48: each message and each write by what it leaves in the participant's store. -/
theorem participantsHoldChangesAndApply : Obligations.ParticipantsHoldChangesAndApply := by
  unfold Obligations.ParticipantsHoldChangesAndApply
  refine ⟨?closed, ?late, ?held, ?joining, ?replaces, ?join, ?refuses, ?prepares, ?commits, ?tooLate, ?applies, ?idle,
    ?inOrder, ?aborts, ?discards, ?orphan, ?unaligned, ?data, ?syncQuiet, ?sync⟩
  case closed =>
    intro s part m x id posted hx hb hv ht
    rw [exec_txStage, txStageGo_refused hx (State.stage_closed hb hv ht)]
    cases posted <;> rfl
  case late =>
    intro s part m x id v hx hb hv
    refine ⟨_, exec_txStage, ?_⟩
    beta_reduce
    rw [txStageGo_refused hx (State.stage_late hb hv), if_neg (by decide), State.store_error,
      State.store_setStore_same]
    exact ⟨rfl, rfl, rfl⟩
  case held =>
    intro s part m x id hx hb hv ht hj
    rw [exec_txStage, txStageGo_held hx (State.stage_held hb hv ht hj)]
    rfl
  case joining =>
    rintro s part m x id posted u hx hb hv ht hj rfl
    rw [exec_txStage, txStageGo_joining hx (State.stage_joining hb hv ht hj)]
    rfl
  case replaces =>
    intro s id part off w m h
    exact ⟨State.putChange_changes h, rfl⟩
  case join =>
    intro s part id hs ht hl
    refine ⟨_, exec_txJoin, ?_⟩
    beta_reduce
    rw [txJoinGo_joins hs ht hl, State.store_setTx, State.store_setStore_same, State.tx_setTx_same]
    exact ⟨rfl, rfl, rfl⟩
  case refuses =>
    intro s part id d hm hv
    rw [exec_txPrepare, txPrepareGo_refuse hm hv]
  case prepares =>
    rintro s part id u hm rfl hv
    refine ⟨_, exec_txPrepare, ?_⟩
    beta_reduce
    rw [txPrepareGo_prepared hm hv]
    exact ⟨rfl, rfl⟩
  case commits =>
    intro s part id hm ha hc hv ht
    rw [exec_txCommitReceive, txCommitTake_received hm, State.learnLaunch_ahead (s := s.takeMsg id.toNat part) ha hc hv ht]
    rfl
  case tooLate =>
    rintro s part id u rfl hm ha hc ht
    rw [State.tick_takeMsg] at ht
    rw [exec_txCommitReceive, txCommitTake_received hm,
      State.learnLaunch_passed (s := s.takeMsg id.toNat part) ha hc ht]
  case applies =>
    rintro s part id tick r p q hp hc ha ht hl hqe hw hr rfl hall
    rw [exec_txApply, txApplyGo_due hp hc ha ht hl hqe hr, State.linksApply_none hw]
    exact congrArg Host.Outcome.next (State.closeAnswered_waits hall)
  case idle =>
    intro s part id tick hc h
    rw [exec_txApply, txApplyGo_idle hc h]
  case inOrder =>
    intro s id c l
    rfl
  case aborts =>
    intro s part id u hm ha hu
    rw [exec_txAbortReceive, txAbortTake_received hm ha hu]
  case discards =>
    intro s id part
    rw [State.store_discardStaged]
    exact ⟨rfl, rfl, rfl⟩
  case orphan =>
    intro s part id hv hc ha ht
    exact ⟨_, exec_txOrphan, txOrphanGo_store hv hc ha ht⟩
  case unaligned =>
    intro s m data a ha h4
    rw [exec_txuStageData, stageData_unaligned ha h4]
    rfl
  case data =>
    intro s m data a id part x ha hid h4 hw hh hb hv ht hj
    rw [exec_txuStageData, stageData_held ha hid h4 hw hh (State.stage_held hb hv ht hj)]
    rfl
  case syncQuiet =>
    intro s h
    rw [exec_syncWord, syncWord, h]
    rfl
  case sync =>
    intro s l h
    rw [exec_syncWord, syncWord, State.wordCommits_none h]

end

section
/-! PROOFS. The servo of a domain (R262 to R274): INCREMENT, ADJUST's steps and slews, take and give, the watchdog,
and the husk's corrections. -/

namespace Sys2Proof.Machine

variable {s u : State} {m : Master} {x : Dom} {b : Bool} {k : Nat} {f : Field}

theorem exec_timIncrWrite {v : Word} : exec (.timIncrWrite m x v) s = .next (incrWrite m x v s) := by rfl
theorem exec_timIncrFineWrite {v : BitVec 16} : exec (.timIncrFineWrite m x v) s = .next (fineWrite m x v s) := by rfl
theorem exec_adjustStep {k : Fin 8} : exec (.adjustStep m x b k) s = .next (adjustStepGo m x b k s) := by rfl
theorem exec_adjustSlew {r : BitVec 20} : exec (.adjustSlew m x r) s = .next (adjustSlewGo m x r.toNat s) := by rfl
theorem exec_adjustCancel : exec (.adjustCancel m x) s = .next (adjustCancelGo m x s) := by rfl
theorem exec_slewComplete : exec (.slewComplete x) s = .next (slewFinish x s) := by rfl
theorem exec_servoCorrection {e : BitVec 64} {i : Word} {f : BitVec 16} :
    exec (.servoCorrection x e i f) s = .next (servoCorrect x e i f s) := by rfl
theorem exec_servoTake : exec (.servoTake m x) s = .next (servoTakeGo m x s) := by rfl
theorem exec_servoGive : exec (.servoGive m x) s = .next (servoGiveGo m x s) := by rfl
theorem exec_servoWdKick : exec (.servoWdKick m x) s =
    .next (if s.isServo m x.isB then (s.wdRestart x).ack else s.refuse x.statusF Code.servoHeld) := by rfl
theorem exec_servoWdExpiry {c : Word} : exec (.servoWdExpiry x c) s = .next (servoWatchdog x c s) := by rfl

/-! ## Fields of other registers, and what the time unit keeps -/

theorem State.fld_congr (h : u.reg f.off = s.reg f.off) : u.fld f = s.fld f := by rw [State.fld, State.fld, h]

theorem State.bit_congr (h : u.reg f.off = s.reg f.off) : u.bit f = s.bit f := by
  rw [State.bit, State.bit, State.fld_congr h]

theorem State.bit_setReg_ne {o : Nat} (w : Word) (h : f.off ≠ o) : (s.setReg o w).bit f = s.bit f :=
  State.bit_congr (State.reg_setReg_ne s w h)

theorem State.tim_raiseAll (n j : Nat) : (s.raiseAll n j).tim = s.tim := by
  induction j generalizing s with
  | zero => rfl
  | succ j ih => rw [State.raiseAll, ih, State.setReg_tim]

theorem State.tim_emit (src dst kind prio tag txid : Nat) (q : Bool) (l : List Byte) (a : Nat) (bare : Bool) :
    (s.emit src dst kind prio tag txid q l a bare).tim = s.tim := by
  unfold State.emit
  dsimp only
  split
  · rfl
  · exact State.satFld_tim ..

theorem State.tim_mbxNotify : (s.mbxNotify k).tim = s.tim := by
  unfold State.mbxNotify
  split
  · rfl
  · dsimp only
    split
    · rfl
    · exact State.raiseEvent_tim ..
    · exact State.tim_emit ..
    · exact State.sendMsix_tim ..

theorem State.tim_ringBell (n : Nat) : (s.ringBell k n).tim = s.tim := by
  unfold State.ringBell State.ringMask
  split
  · rfl
  · dsimp only
    split
    · rw [State.tim_mbxNotify, State.setReg_tim]
    · rfl

/-! ## The WRAP doorbell and steps (R262, R266, R267) -/

/-- A pulse of tp_wrap. -/
def State.wrapPulse (s : State) : State := { s with tim := { s.tim with wrapPulses := s.tim.wrapPulses + 1 } }

/-- The count and the kind of a WRAP. -/
def State.wrapShown (s : State) (step : Bool) : State :=
  (s.incFld F.TIM_WRAP_count).setBit F.TIM_WRAP_step step

/-- The WRAP doorbell without its mailbox: what is shown, flag 11 of every engine, the pulse. -/
def State.wrapped (s : State) (step : Bool) : State := ((s.wrapShown step).raiseAll 11 1024).wrapPulse

theorem wrapBell_eq (step : Bool) : wrapBell step s = if (s.wrapped step).bit F.TIM_WRAP_mbx_en then
    (s.wrapped step).ringBell ((s.wrapped step).fld F.TIM_WRAP_mailbox) ((s.wrapped step).fld F.TIM_WRAP_bell)
    else s.wrapped step := by
  rw [wrapBell, State.wrapped, State.wrapPulse, State.wrapShown]

theorem State.tim_wrapPulse : s.wrapPulse.tim = { s.tim with wrapPulses := s.tim.wrapPulses + 1 } := by rfl

theorem State.tim_wrapped (step : Bool) :
    (s.wrapped step).tim = { s.tim with wrapPulses := s.tim.wrapPulses + 1 } := by
  rw [State.wrapped, State.tim_wrapPulse, State.tim_raiseAll]
  rfl

theorem tim_wrapBell (step : Bool) :
    (wrapBell step s).tim = { s.tim with wrapPulses := s.tim.wrapPulses + 1 } := by
  rw [wrapBell_eq]
  split
  · rw [State.tim_ringBell, State.tim_wrapped]
  · exact State.tim_wrapped step

theorem dom_wrapBell (step : Bool) : (wrapBell step s).dom b = s.dom b := by
  rw [State.dom, State.dom, tim_wrapBell]

theorem State.dom_stepDomain (ns : Int) (c : Bool) : (s.stepDomain b ns).dom c =
    (s.setDom b { s.dom b with time := (s.dom b).time + BitVec.ofInt 96 (ns * 2 ^ 32) }).dom c := by
  unfold State.stepDomain
  dsimp only
  split
  · exact dom_wrapBell true
  · rfl

theorem State.wrapPulses_stepDomain (ns : Int) : (s.stepDomain b ns).tim.wrapPulses =
    s.tim.wrapPulses + if s.serving == b then 1 else 0 := by
  have hset : ∀ d, (s.setDom b d).tim.wrapPulses = s.tim.wrapPulses := fun _ => by cases b <;> rfl
  have hserv : ∀ d, (s.setDom b d).serving = s.serving := fun _ => State.setDom_bit ..
  unfold State.stepDomain
  dsimp only
  rw [hserv]
  split
  · rw [tim_wrapBell, ← hset]
  · rw [hset, Nat.add_zero]

/-- The amount of ADJUST, read where its two registers read the same. -/
theorem State.adjAmount_congr (hlo : u.reg (R.TIM_x_ADJ_LO x.idx) = s.reg (R.TIM_x_ADJ_LO x.idx))
    (hhi : u.reg (R.TIM_x_ADJ_HI x.idx) = s.reg (R.TIM_x_ADJ_HI x.idx)) : u.adjAmount x = s.adjAmount x := by
  rw [State.adjAmount, State.pair, hlo, hhi]
  rfl

/-- ADJUST shows a STEP of no cue slot. -/
def State.adjShown (s : State) (x : Dom) (bind : Bool) (slot : Fin 8) : State :=
  ((s.setFld (F.TIM_x_ADJ_CTRL_mode x.idx) 0).setBit (F.TIM_x_ADJ_CTRL_bind x.idx) bind).setFld
    (F.TIM_x_ADJ_CTRL_cue_slot x.idx) slot.val

theorem State.serving_adjShown (slot : Fin 8) : (s.adjShown x b slot).serving = s.serving := by
  cases x <;> simp (disch := decide) only [State.adjShown, State.serving, State.bit_setFld_disjoint,
    State.bit_setBit_disjoint]

theorem adjustStepGo_busy {slot : Fin 8} (hm : s.isServo m x.isB = true)
    (hb : s.bit (F.TIM_x_ADJ_CTRL_busy x.idx) = true) :
    adjustStepGo m x b slot s = s.refuse x.statusF Code.adjustBusy := by
  rw [adjustStepGo, if_neg (by simp [hm]), if_pos hb]

theorem adjustStepGo_steps {slot : Fin 8} (hm : s.isServo m x.isB = true)
    (hb : s.bit (F.TIM_x_ADJ_CTRL_busy x.idx) = false) (hr : s.stepBarred x.isB (s.adjAmount x) = false) :
    adjustStepGo m x false slot s =
      (((s.adjShown x false slot).stepDomain x.isB (s.adjAmount x)).setFld x.statusF 0).ack := by
  rw [adjustStepGo, if_neg (by simp [hm]), if_neg (by simp [hb])]
  rw [if_neg (by decide), if_neg (by simp [hr])]
  rfl

theorem adjustStepGo_barred {slot : Fin 8} (hm : s.isServo m x.isB = true)
    (hb : s.bit (F.TIM_x_ADJ_CTRL_busy x.idx) = false) (hr : s.stepBarred x.isB (s.adjAmount x) = true) :
    adjustStepGo m x false slot s = s.refuse x.statusF Code.stepRefused := by
  rw [adjustStepGo, if_neg (by simp [hm]), if_neg (by simp [hb]), if_neg (by decide), if_pos hr]

/-! ## Slews (R266) -/

/-- A slew begins: its rate, busy, and what remains of it. -/
def State.beginSlew (s : State) (x : Dom) (rate : Nat) (remain : Int) : State :=
  let u := ((s.setFld (F.TIM_x_ADJ_CTRL_rate_ns_s x.idx) rate).setFld (F.TIM_x_ADJ_CTRL_mode x.idx) 1).setBit
    (F.TIM_x_ADJ_CTRL_busy x.idx) true
  (u.setDom x.isB { u.dom x.isB with slewing := true, slewRemain := remain, slewAcc := 0 }).showRemain x

@[simp] theorem State.dom_showRemain : (s.showRemain x).dom b = s.dom b := by rfl

theorem State.dom_beginSlew (rate : Nat) (remain : Int) : (s.beginSlew x rate remain).dom x.isB =
    { s.dom x.isB with slewing := true, slewRemain := remain, slewAcc := 0 } := by
  rw [State.beginSlew, State.dom_showRemain, State.dom_setDom_same, State.dom_setBit, State.dom_setFld,
    State.dom_setFld]

theorem State.reg_beginSlew (rate : Nat) (remain : Int) (h : k ≠ R.TIM_x_ADJ_CTRL x.idx)
    (h' : k ≠ R.TIM_x_ADJ_REMAIN x.idx) : (s.beginSlew x rate remain).reg k = s.reg k := by
  rw [State.beginSlew, State.showRemain, State.reg_setReg_ne _ _ h', State.setDom_reg, State.reg_setBit_ne _ _ h,
    State.reg_setFld_ne _ _ h, State.reg_setFld_ne _ _ h]

theorem State.busy_beginSlew (rate : Nat) (remain : Int) :
    (s.beginSlew x rate remain).bit (F.TIM_x_ADJ_CTRL_busy x.idx) = true := by
  cases x <;> simp (disch := decide) only [State.beginSlew, State.showRemain, State.bit_setReg_ne, State.setDom_bit,
    State.bit_setBit_same]

theorem State.rate_beginSlew {rate : Nat} (remain : Int) (h : rate < 2 ^ 20) :
    (s.beginSlew x rate remain).fld (F.TIM_x_ADJ_CTRL_rate_ns_s x.idx) = rate := by
  have hmod : rate % 2 ^ (F.TIM_x_ADJ_CTRL_rate_ns_s x.idx).width = rate := Nat.mod_eq_of_lt h
  cases x <;> simp (disch := decide) only [State.beginSlew, State.showRemain, State.fld_setReg_ne, State.setDom_fld,
    State.fld_setBit_disjoint, State.fld_setFld_disjoint, State.fld_setFld_same] <;> exact hmod

theorem adjustSlewGo_busy {rate : Nat} (hm : s.isServo m x.isB = true)
    (hb : s.bit (F.TIM_x_ADJ_CTRL_busy x.idx) = true) :
    adjustSlewGo m x rate s = s.refuse x.statusF Code.adjustBusy := by
  rw [adjustSlewGo, if_neg (by simp [hm]), if_pos hb]

theorem adjustSlewGo_begins {rate : Nat} (hm : s.isServo m x.isB = true)
    (hb : s.bit (F.TIM_x_ADJ_CTRL_busy x.idx) = false) (h1 : 1 ≤ rate) (h2 : rate ≤ 100000) :
    adjustSlewGo m x rate s = ((s.beginSlew x rate (s.adjAmount x * 2 ^ 32)).setFld x.statusF 0).ack := by
  have hamount : ∀ u : State, (((s.setFld (F.TIM_x_ADJ_CTRL_rate_ns_s x.idx) rate).setFld
      (F.TIM_x_ADJ_CTRL_mode x.idx) 1).setBit (F.TIM_x_ADJ_CTRL_busy x.idx) true).adjAmount x = s.adjAmount x := by
    intro u
    apply State.adjAmount_congr <;> cases x <;>
      simp (disch := decide) only [State.reg_setBit_ne, State.reg_setFld_ne]
  rw [adjustSlewGo, if_neg (by simp [hm]), if_neg (by simp [hb])]
  dsimp only
  rw [if_neg (by omega), hamount s]
  rfl

theorem State.dom_endSlew : (s.endSlew x).dom x.isB =
    { s.dom x.isB with slewing := false, slewRemain := 0, slewAcc := 0 } := by
  rw [State.endSlew, State.dom_showRemain, State.dom_setBit, State.dom_setDom_same]

theorem State.busy_endSlew : (s.endSlew x).bit (F.TIM_x_ADJ_CTRL_busy x.idx) = false := by
  cases x <;> simp (disch := decide) only [State.endSlew, State.showRemain, State.bit_setReg_ne,
    State.bit_setBit_same]

theorem adjustCancelGo_slewing (hm : s.isServo m x.isB = true) (hs : (s.dom x.isB).slewing = true) :
    adjustCancelGo m x s = (s.endSlew x).ack := by
  rw [adjustCancelGo, if_neg (by simp [hm]), if_pos hs]

theorem slewFinish_last (hs : (s.dom x.isB).slewing = true) (hr : (s.dom x.isB).slewRemain.natAbs ≤
    (slewQuantum (s.dom x.isB).slewAcc (s.fld (F.TIM_x_ADJ_CTRL_rate_ns_s x.idx))).1) : slewFinish x s =
      (s.setDom x.isB { s.dom x.isB with
        time := (s.dom x.isB).time + BitVec.ofInt 96 (s.dom x.isB).slewRemain }).endSlew x :=
  if_pos (by simp [hs, hr])

/-! ## Who may set the rate (R264, R273) -/

/-- Whatever another master asks of the servo is refused. -/
theorem not_servo_refused {v : Word} {w : BitVec 16} {slot : Fin 8} {rate : Nat} (h : s.isServo m x.isB = false) :
    incrWrite m x v s = s.refuse x.statusF Code.servoHeld ∧ fineWrite m x w s = s.refuse x.statusF Code.servoHeld ∧
    adjustStepGo m x b slot s = s.refuse x.statusF Code.servoHeld ∧
    adjustSlewGo m x rate s = s.refuse x.statusF Code.servoHeld ∧
    adjustCancelGo m x s = s.refuse x.statusF Code.servoHeld := by
  have hno : (!s.isServo m x.isB) = true := by simp [h]
  exact ⟨if_pos hno, if_pos hno, if_pos hno, if_pos hno, if_pos hno⟩

theorem incrWrite_inRange {v : Word} (hm : s.isServo m x.isB = true) (h1 : 0x0FFBE76D ≤ v.toNat)
    (h2 : v.toNat ≤ 0x10041893) : incrWrite m x v s = ((s.setReg (R.TIM_x_INCR x.idx) v).wdRestart x).ack := by
  rw [incrWrite, if_neg (by simp [hm]), if_neg (by omega)]

theorem incrWrite_outOfRange {v : Word} (hm : s.isServo m x.isB = true)
    (h : v.toNat < 0x0FFBE76D ∨ 0x10041893 < v.toNat) :
    incrWrite m x v s = s.refuse x.statusF Code.invalidArgument := by
  rw [incrWrite, if_neg (by simp [hm]), if_pos h]

theorem fineWrite_holder {v : BitVec 16} (hm : s.isServo m x.isB = true) :
    fineWrite m x v s = (s.setFld (F.TIM_x_INCR_FINE_fine x.idx) v.toNat).ack := if_neg (by simp [hm])

theorem servoTakeGo_granted (ht : s.bit (F.TIM_x_SERVO_takeover_ok x.idx) = true) (hh : s.huskServo x.isB = true)
    (hm : m.same .husk = false) : servoTakeGo m x s =
      (((s.setDom x.isB { s.dom x.isB with holder := some m, wdFrom := s.tim.uptime }).setFld
        (F.TIM_x_SERVO_holder_kind x.idx) 3).setFld (F.TIM_x_SERVO_last_status x.idx) 0).ack :=
  if_pos (by simp [ht, hh, hm])

theorem servoTakeGo_refused (h : s.bit (F.TIM_x_SERVO_takeover_ok x.idx) = false ∨ s.huskServo x.isB = false) :
    servoTakeGo m x s = s.refuse (F.TIM_x_SERVO_last_status x.idx) Code.notPermitted :=
  if_neg (by rcases h with h | h <;> simp [h])

theorem servoGiveGo_holder {h : Master} (hh : (s.dom x.isB).holder = some h) (hm : h.same m = true) :
    servoGiveGo m x s = ((s.servoBack x).setFld (F.TIM_x_SERVO_last_status x.idx) 0).ack := by
  rw [servoGiveGo, hh]
  exact if_pos hm

theorem servoGiveGo_husk (hh : (s.dom x.isB).holder = none) :
    servoGiveGo m x s = s.refuse (F.TIM_x_SERVO_last_status x.idx) Code.servoHeld := by
  rw [servoGiveGo, hh]

theorem State.dom_servoBack : (s.servoBack x).dom x.isB = { s.dom x.isB with holder := none } := by
  rw [State.servoBack, State.dom_setFld, State.dom_setDom_same]

/-! ## The watchdog (R274) and the husk's corrections (R272) -/

theorem servoWatchdog_expires {c : Word} (hh : s.huskServo x.isB = false)
    (hw : s.fld (F.TIM_x_OWNER_wd_ms x.idx) ≠ 0) (hs : s.domState x.isB = DomState.locked)
    (ht : (s.dom x.isB).wdFrom + 1000000 * s.fld (F.TIM_x_OWNER_wd_ms x.idx) ≤ s.tim.uptime) :
    servoWatchdog x c s = (s.enterHoldover x.isB c).fault Unit.tim .servoWd (.code 961) :=
  if_neg (by simp [hh, hw, hs, State.passed, ht])

theorem servoWatchdog_early {c : Word}
    (ht : s.tim.uptime < (s.dom x.isB).wdFrom + 1000000 * s.fld (F.TIM_x_OWNER_wd_ms x.idx)) :
    servoWatchdog x c s = s :=
  if_pos (by simp [State.passed, ht])

theorem servoCorrect_steps {e : BitVec 64} {i : Word} {v : BitVec 16} (hh : s.huskServo x.isB = true)
    (hs : s.domState x.isB = DomState.acquiring) (ha : (s.dom x.isB).acquired = false)
    (he : 1000000 < e.toInt.natAbs) (hr : s.stepBarred x.isB (-e.toInt) = false) :
    servoCorrect x e i v s = s.stepDomain x.isB (-e.toInt) := by
  simp only [servoCorrect, hh, hs, ha, hr, decide_eq_true he]
  rfl

/-- INCREMENT and its fine part as the husk sets them. -/
def State.rateSet (s : State) (x : Dom) (i : Word) (v : BitVec 16) : State :=
  (s.setReg (R.TIM_x_INCR x.idx) i).setFld (F.TIM_x_INCR_FINE_fine x.idx) v.toNat

theorem State.busy_rateSet (i : Word) (v : BitVec 16) : (s.rateSet x i v).bit (F.TIM_x_ADJ_CTRL_busy x.idx) =
    s.bit (F.TIM_x_ADJ_CTRL_busy x.idx) := by
  cases x <;> simp (disch := decide) only [State.rateSet, State.bit_setFld_disjoint, State.bit_setReg_ne]

/-- A LOCKED domain is steered: INCREMENT is set and the phase error slewed away. -/
theorem servoCorrect_slews {e : BitVec 64} {i : Word} {v : BitVec 16} (hh : s.huskServo x.isB = true)
    (hs : s.domState x.isB = DomState.locked) (hb : s.bit (F.TIM_x_ADJ_CTRL_busy x.idx) = false) (he : e.toInt ≠ 0) :
    ∃ rate, servoCorrect x e i v s = (s.rateSet x i v).beginSlew x rate (-e.toInt * 2 ^ 32) := by
  refine ⟨max 1 (min e.toInt.natAbs ((s.rateSet x i v).fld (F.TIM_x_SERVO_CFG_max_slew_ns_s x.idx))), ?_⟩
  rw [servoCorrect, if_neg (by simp [hh, hs, DomState.locked, DomState.free, DomState.holdover])]
  dsimp only
  rw [if_neg (by simp [hs, DomState.locked, DomState.acquiring]), ← State.rateSet,
    if_neg (by rw [State.busy_rateSet, hb]; decide), if_neg he]
  rfl

theorem State.reg_rateSet_incr (i : Word) (v : BitVec 16) : (s.rateSet x i v).reg (R.TIM_x_INCR x.idx) = i := by
  cases x <;> simp (disch := decide) only [State.rateSet, State.reg_setFld_ne, State.reg_setReg_same]

theorem State.fld_rateSet_fine (i : Word) (v : BitVec 16) :
    (s.rateSet x i v).fld (F.TIM_x_INCR_FINE_fine x.idx) = v.toNat := by
  rw [State.rateSet, State.fld_setFld_same _ _ _ (by cases x <;> decide)]
  exact Nat.mod_eq_of_lt v.isLt

end Sys2Proof.Machine
end

section
open Sys2Proof Sys2Proof.Machine

/-- Settles O44: each command of the servo by the case of its holder and its argument. -/
theorem servoHolderSetsTheRate : Obligations.ServoHolderSetsTheRate := by
  unfold Obligations.ServoHolderSetsTheRate
  refine ⟨?incr, ?incrRange, ?fine, ?others, ?kick, ?step, ?barred, ?busy, ?slew, ?cancel, ?last, ?take, ?takeRefused,
    ?give, ?giveRefused, ?corrStep, ?corrSlew, ?expires, ?early, ?restart⟩
  case incr =>
    intro s m x v hm h1 h2
    rw [exec_timIncrWrite, incrWrite_inRange hm h1 h2]
  case incrRange =>
    intro s m x v hm h
    rw [exec_timIncrWrite, incrWrite_outOfRange hm h]
    rfl
  case fine =>
    intro s m x v hm
    rw [exec_timIncrFineWrite, fineWrite_holder hm]
  case others =>
    intro s m x v w b k r hm
    obtain ⟨hincr, hfine, hstep, hslew, hcancel⟩ := not_servo_refused (v := v) (w := w) (b := b) (slot := k)
      (rate := r.toNat) hm
    rw [exec_timIncrWrite, hincr, exec_timIncrFineWrite, hfine, exec_adjustStep, hstep, exec_adjustSlew, hslew,
      exec_adjustCancel, hcancel, exec_servoWdKick, hm]
    exact ⟨rfl, rfl, rfl, rfl, rfl, rfl⟩
  case kick =>
    intro s m x hm
    rw [exec_servoWdKick, if_pos hm]
  case step =>
    intro s m x k hm hb hr
    refine ⟨_, exec_adjustStep, ?_⟩
    beta_reduce
    rw [adjustStepGo_steps hm hb hr]
    simp only [State.dom_ack, State.dom_setFld, State.dom_stepDomain, State.ack_tim, State.setFld_tim,
      State.wrapPulses_stepDomain, State.serving_adjShown, State.dom_setDom_same, State.dom_setDom_other, State.ack_fld]
    exact ⟨rfl, rfl, rfl, State.fld_setFld_same _ _ _ (by cases x <;> decide), rfl⟩
  case barred =>
    intro s m x k hm hb hr
    rw [exec_adjustStep, adjustStepGo_barred hm hb hr]
  case busy =>
    intro s m x b k r hm hb
    rw [exec_adjustStep, adjustStepGo_busy hm hb, exec_adjustSlew, adjustSlewGo_busy hm hb]
    exact ⟨rfl, rfl⟩
  case slew =>
    intro s m x r hm hb h1 h2
    refine ⟨_, exec_adjustSlew, ?_⟩
    beta_reduce
    rw [adjustSlewGo_begins hm hb h1 h2]
    have hbusy := State.busy_beginSlew (s := s) (x := x) r.toNat (s.adjAmount x * 2 ^ 32)
    have hrate := State.rate_beginSlew (s := s) (x := x) (s.adjAmount x * 2 ^ 32) r.isLt
    rw [State.dom_ack, State.dom_setFld, State.dom_beginSlew, State.ack_bit, State.ack_fld]
    exact ⟨rfl, rfl, rfl, (State.bit_setFld_disjoint _ _ _ _ (by cases x <;> decide) (by cases x <;> decide)).trans hbusy,
      (State.fld_setFld_disjoint _ _ _ _ (by cases x <;> decide) (by cases x <;> decide)).trans hrate, rfl⟩
  case cancel =>
    intro s m x hm hs
    refine ⟨_, exec_adjustCancel, ?_⟩
    beta_reduce
    rw [adjustCancelGo_slewing hm hs, State.dom_ack, State.dom_endSlew, State.ack_bit, State.busy_endSlew]
    exact ⟨rfl, rfl, rfl, rfl⟩
  case last =>
    intro s x hs hr
    refine ⟨_, exec_slewComplete, ?_⟩
    beta_reduce
    rw [slewFinish_last hs hr, State.dom_endSlew, State.busy_endSlew, State.dom_setDom_same]
    exact ⟨rfl, rfl, rfl⟩
  case take =>
    intro s m x ht hh hm
    refine ⟨_, exec_servoTake, ?_⟩
    beta_reduce
    rw [servoTakeGo_granted ht hh hm, State.dom_ack, State.dom_setFld, State.dom_setFld, State.dom_setDom_same]
    exact ⟨rfl, rfl, rfl⟩
  case takeRefused =>
    intro s m x h
    rw [exec_servoTake, servoTakeGo_refused h]
    rfl
  case give =>
    intro s m x h hh hm
    refine ⟨_, exec_servoGive, ?_⟩
    beta_reduce
    rw [servoGiveGo_holder hh hm, State.dom_ack, State.dom_setFld, State.dom_servoBack]
    refine ⟨rfl, rfl, ?_, rfl⟩
    cases x <;> simp (disch := decide) only [State.ack_reg, State.reg_setFld_ne, State.servoBack, State.setDom_reg]
  case giveRefused =>
    intro s m x hh
    rw [exec_servoGive, servoGiveGo_husk hh]
    rfl
  case corrStep =>
    intro s x e i f hh hs ha he hr
    rw [exec_servoCorrection, servoCorrect_steps hh hs ha he hr]
  case corrSlew =>
    intro s x e i f hh hs hb he
    obtain ⟨rate, heq⟩ := servoCorrect_slews (i := i) (v := f) hh hs hb he
    refine ⟨_, exec_servoCorrection, ?_⟩
    beta_reduce
    have hincr : R.TIM_x_INCR x.idx ≠ R.TIM_x_ADJ_CTRL x.idx ∧ R.TIM_x_INCR x.idx ≠ R.TIM_x_ADJ_REMAIN x.idx := by
      cases x <;> decide
    have hfine : (F.TIM_x_INCR_FINE_fine x.idx).off ≠ R.TIM_x_ADJ_CTRL x.idx ∧
        (F.TIM_x_INCR_FINE_fine x.idx).off ≠ R.TIM_x_ADJ_REMAIN x.idx := by cases x <;> decide
    rw [heq, State.dom_beginSlew, State.reg_beginSlew _ _ hincr.1 hincr.2, State.reg_rateSet_incr,
      State.fld_congr (State.reg_beginSlew _ _ hfine.1 hfine.2), State.fld_rateSet_fine]
    exact ⟨rfl, rfl, rfl, rfl, rfl⟩
  case expires =>
    intro s x c hh hw hs ht
    rw [exec_servoWdExpiry, servoWatchdog_expires hh hw hs ht]
  case early =>
    intro s x c ht
    rw [exec_servoWdExpiry, servoWatchdog_early ht]
  case restart =>
    intro s x
    rw [State.wdRestart, State.dom_setDom_same, State.dom_setDom_other]
    exact ⟨rfl, rfl, rfl⟩

end

section
/-! PROOFS. Domain states and their sources (R269 to R271), PPS stamps (R269), and holdover with its model (R277 to
R281). -/

namespace Sys2Proof.Machine

variable {s u : State} {m : Master} {x : Dom} {b c : Bool} {k st : Nat} {f : Field} {w : Word}

theorem exec_sourcePresent {p : Bool} {e : Word} :
    exec (.sourcePresent x p e) s = .next (sourceUp x p e s) := by rfl
theorem exec_domainLock {e : Word} : exec (.domainLock x e) s = .next (lockDomain x e s) := by rfl
theorem exec_domainUnlock {e : Word} : exec (.domainUnlock x e) s = .next (unlockDomain x e s) := by rfl
theorem exec_sourceLoss : exec (.sourceLoss x w) s = .next (sourceLost x w s) := by rfl
theorem exec_ppsInEdge : exec .ppsInEdge s = .next (ppsEdge s) := by rfl
theorem exec_ppsTodArm : exec (.ppsTodArm m x w) s = .next (todArm m x w s) := by rfl
theorem exec_synceGate : exec (.synceGate x w) s = .next (s.setReg (R.TIM_x_SYNCE x.idx) w) := by rfl
theorem exec_holdoverUpdate : exec (.holdoverUpdate x) s = .next (holdoverSecond x s) := by rfl
theorem exec_modelBin {g : ModelTerms} : exec (.modelBin b g) s = .next (modelRefit b g s) := by rfl
theorem exec_modelSave : exec .modelSave s = .next (modelStore s) := by rfl

/-! ## What is shown of a domain (R281, R285, R287) -/

/-- The status of the service timescale and of PPS_OUT is shown in two registers. -/
def State.shown (s : State) : State := s.showService.showPps

theorem State.reg_shown (h : k ≠ R.TIM_SVC_STATUS) (h' : k ≠ R.TIM_PPS_CTRL) : s.shown.reg k = s.reg k := by
  rw [State.shown, State.showPps, State.reg_setBit_ne _ _ h', State.showService, State.reg_setBit_ne _ _ h,
    State.reg_setFld_ne _ _ h, State.reg_setFld_ne _ _ h]

theorem State.fld_shown (h : f.off ≠ R.TIM_SVC_STATUS) (h' : f.off ≠ R.TIM_PPS_CTRL) : s.shown.fld f = s.fld f :=
  State.fld_congr (State.reg_shown h h')

theorem State.bit_shown (h : f.off ≠ R.TIM_SVC_STATUS) (h' : f.off ≠ R.TIM_PPS_CTRL) : s.shown.bit f = s.bit f :=
  State.bit_congr (State.reg_shown h h')

@[simp] theorem State.tim_shown : s.shown.tim = s.tim := by rfl

@[simp] theorem State.dom_shown : s.shown.dom b = s.dom b := by rfl

/-- The bound of a domain becomes `w`. -/
def State.tebSet (s : State) (b : Bool) (w : Word) : State := (s.setReg (R.TIM_x_TEB (b2n b)) w).shown

theorem State.setTeb_eq (ns : Nat) : s.setTeb b ns = s.tebSet b (BitVec.ofNat 32 (min 0xFFFFFFFE ns)) := by rfl

theorem State.unknownTeb_eq : s.unknownTeb b = s.tebSet b 0xFFFFFFFF#32 := by rfl

theorem sextNat_toNat (w : Word) : sextNat 32 w.toNat = w.toInt := by
  have hw : w.toNat % 2 ^ 32 = w.toNat := Nat.mod_eq_of_lt w.isLt
  rw [sextNat, hw, BitVec.toInt_eq_toNat_cond]
  split <;> split <;> omega

theorem State.measuredTeb_eq : s.measuredTeb b w = s.tebSet b (BitVec.ofNat 32
    (min 0xFFFFFFFE (w.toInt.natAbs + s.fld (F.TIM_x_SERVO_CFG_src_allow_ns (b2n b))))) := by
  rw [State.measuredTeb, sextNat_toNat, State.setTeb_eq]

/-- Measured or unknown, the bound is set. -/
theorem State.tebSet_of_source : ∃ w', (if s.hasPhaseSrc b then s.measuredTeb b w else s.unknownTeb b) = s.tebSet b w' := by
  split
  · exact ⟨_, State.measuredTeb_eq⟩
  · exact ⟨_, State.unknownTeb_eq⟩

theorem State.reg_tebSet_same : (s.tebSet b w).reg (R.TIM_x_TEB (b2n b)) = w := by
  rw [State.tebSet, State.reg_shown (by cases b <;> decide) (by cases b <;> decide), State.reg_setReg_same]

theorem State.reg_tebSet_ne (h : k ≠ R.TIM_x_TEB (b2n b)) (h1 : k ≠ R.TIM_SVC_STATUS) (h2 : k ≠ R.TIM_PPS_CTRL) :
    (s.tebSet b w).reg k = s.reg k := by
  rw [State.tebSet, State.reg_shown h1 h2, State.reg_setReg_ne _ _ h]

theorem State.fld_tebSet (h : f.off ≠ R.TIM_x_TEB (b2n b)) (h1 : f.off ≠ R.TIM_SVC_STATUS)
    (h2 : f.off ≠ R.TIM_PPS_CTRL) : (s.tebSet b w).fld f = s.fld f :=
  State.fld_congr (State.reg_tebSet_ne h h1 h2)

theorem State.bit_tebSet (h : f.off ≠ R.TIM_x_TEB (b2n b)) (h1 : f.off ≠ R.TIM_SVC_STATUS)
    (h2 : f.off ≠ R.TIM_PPS_CTRL) : (s.tebSet b w).bit f = s.bit f :=
  State.bit_congr (State.reg_tebSet_ne h h1 h2)

@[simp] theorem State.tim_tebSet : (s.tebSet b w).tim = s.tim := by rfl

@[simp] theorem State.dom_tebSet : (s.tebSet b w).dom c = s.dom c := by rfl

/-! ## A change of a domain's state (R271) -/

theorem State.autoSwitch_off {old : Nat} (h : s.bit F.TIM_SVC_CTRL_auto = false) : s.autoSwitch b old = s :=
  if_pos (by simp [h])

/-- A domain that has been LOCKED remembers it. -/
def State.lockKept (s : State) (b : Bool) (st : Nat) : State :=
  if st = DomState.locked then s.setDom b { s.dom b with everLocked := true, acquired := true } else s

theorem State.reg_lockKept : (s.lockKept b st).reg k = s.reg k := by
  unfold State.lockKept
  split
  · exact State.setDom_reg ..
  · rfl

theorem State.time_lockKept : ((s.lockKept b st).dom c).time = (s.dom c).time := by
  unfold State.lockKept
  split
  · by_cases h : c = b
    · rw [h, State.dom_setDom_same]
    · rw [State.dom_setDom_ne _ h]
  · rfl

theorem State.teb_lockKept : ((s.lockKept b st).dom c).teb = (s.dom c).teb := by
  unfold State.lockKept
  split
  · by_cases h : c = b
    · rw [h, State.dom_setDom_same]
    · rw [State.dom_setDom_ne _ h]
  · rfl

/-- The seconds of HOLDOVER are counted from its entry. -/
def State.secondsReset (s : State) (b : Bool) (st : Nat) : State :=
  if st = DomState.holdover then s else s.setReg (R.TIM_x_HO_SECONDS (b2n b)) 0

theorem State.reg_secondsReset_ne (h : k ≠ R.TIM_x_HO_SECONDS (b2n b)) :
    (s.secondsReset b st).reg k = s.reg k := by
  unfold State.secondsReset
  split
  · rfl
  · exact State.reg_setReg_ne _ _ h

theorem State.dom_secondsReset : (s.secondsReset b st).dom c = s.dom c := by
  unfold State.secondsReset
  split <;> rfl

/-- A domain in a new state, with its record, and its status shown. -/
def State.domMoved (s : State) (b : Bool) (st : Nat) : State :=
  ((((s.setFld (F.TIM_x_STATE_state (b2n b)) st).lockKept b st).secondsReset b st).fault Unit.tim .timeState
    (.code 961) 0 st).shown

theorem State.reg_domMoved (h : k ≠ R.TIM_x_STATE (b2n b)) (h1 : k ≠ R.TIM_x_HO_SECONDS (b2n b))
    (h2 : k ≠ F.ERR_LOST_lost.off) (h3 : k ≠ R.TIM_SVC_STATUS) (h4 : k ≠ R.TIM_PPS_CTRL) :
    (s.domMoved b st).reg k = s.reg k := by
  rw [State.domMoved, State.reg_shown h3 h4, State.fault_reg_ne _ _ _ _ _ _ _ h2, State.reg_secondsReset_ne h1,
    State.reg_lockKept, State.reg_setFld_ne _ _ h]

theorem State.fld_domMoved (h : f.off ≠ R.TIM_x_STATE (b2n b)) (h1 : f.off ≠ R.TIM_x_HO_SECONDS (b2n b))
    (h2 : f.off ≠ F.ERR_LOST_lost.off) (h3 : f.off ≠ R.TIM_SVC_STATUS) (h4 : f.off ≠ R.TIM_PPS_CTRL) :
    (s.domMoved b st).fld f = s.fld f := State.fld_congr (State.reg_domMoved h h1 h2 h3 h4)

/-- The register of the domain's state: only the state has changed. -/
theorem State.reg_domMoved_state : (s.domMoved b st).reg (R.TIM_x_STATE (b2n b)) =
    (s.setFld (F.TIM_x_STATE_state (b2n b)) st).reg (R.TIM_x_STATE (b2n b)) := by
  rw [State.domMoved, State.reg_shown (by cases b <;> decide) (by cases b <;> decide),
    State.fault_reg_ne _ _ _ _ _ _ _ (by cases b <;> decide), State.reg_secondsReset_ne (by cases b <;> decide),
    State.reg_lockKept]

theorem State.domState_domMoved_same (h : st < 16) : (s.domMoved b st).domState b = st := by
  rw [State.domState, State.fld_congr (f := F.TIM_x_STATE_state (b2n b)) State.reg_domMoved_state,
    State.fld_setFld_same _ _ _ (by cases b <;> decide)]
  exact Nat.mod_eq_of_lt h

theorem State.domState_domMoved_other : (s.domMoved b st).domState (!b) = s.domState (!b) := by
  cases b <;> exact State.fld_domMoved (by decide) (by decide) (by decide) (by decide) (by decide)

/-- The bits of the domain's sources stay. -/
theorem State.bit_domMoved_source {p : Bool} : (s.domMoved b st).bit
      (if p then F.TIM_x_STATE_src_ok (b2n b) else F.TIM_x_STATE_freq_ok (b2n b)) =
    s.bit (if p then F.TIM_x_STATE_src_ok (b2n b) else F.TIM_x_STATE_freq_ok (b2n b)) := by
  cases p <;> exact (State.bit_congr State.reg_domMoved_state).trans
    (State.bit_setFld_disjoint _ _ _ _ (by cases b <;> decide) (by cases b <;> decide))

theorem State.time_domMoved : ((s.domMoved b st).dom c).time = (s.dom c).time := by
  rw [State.domMoved, State.dom_shown, State.dom_fault, State.dom_secondsReset, State.time_lockKept,
    State.dom_setFld]

theorem State.everLocked_domMoved : ((s.domMoved b DomState.locked).dom b).everLocked = true := by
  rw [State.domMoved, State.dom_shown, State.dom_fault, State.dom_secondsReset, State.lockKept, if_pos rfl,
    State.dom_setDom_same]

theorem State.seconds_domMoved_holdover : (s.domMoved b DomState.holdover).reg (R.TIM_x_HO_SECONDS (b2n b)) =
    s.reg (R.TIM_x_HO_SECONDS (b2n b)) := by
  rw [State.domMoved, State.reg_shown (by cases b <;> decide) (by cases b <;> decide),
    State.fault_reg_ne _ _ _ _ _ _ _ (by cases b <;> decide), State.secondsReset, if_pos rfl, State.reg_lockKept,
    State.reg_setFld_ne _ _ (by cases b <;> decide)]

/-- Without automatic switches a change of state is no more than that. -/
theorem State.setDomState_eq (h : s.domState b ≠ st) (ha : s.bit F.TIM_SVC_CTRL_auto = false) :
    s.setDomState b st = s.domMoved b st := by
  have hauto : (s.domMoved b st).bit F.TIM_SVC_CTRL_auto = false :=
    (State.bit_congr (State.reg_domMoved (by cases b <;> decide) (by cases b <;> decide) (by decide) (by decide)
      (by decide))).trans ha
  rw [State.setDomState, if_neg h]
  exact State.autoSwitch_off hauto

/-! ## Sources (R271) -/

/-- A source of domain `x` is marked present. -/
def State.sourceMarked (s : State) (x : Dom) (phase : Bool) : State :=
  s.setBit (if phase then F.TIM_x_STATE_src_ok x.idx else F.TIM_x_STATE_freq_ok x.idx) true

theorem State.domState_sourceMarked {p : Bool} : (s.sourceMarked x p).domState b = s.domState b := by
  cases p <;> cases x <;> cases b <;> exact State.fld_setBit_disjoint _ _ _ _ (by decide) (by decide)

theorem State.auto_sourceMarked {p : Bool} :
    (s.sourceMarked x p).bit F.TIM_SVC_CTRL_auto = s.bit F.TIM_SVC_CTRL_auto := by
  cases p <;> cases x <;> exact State.bit_setBit_disjoint _ _ _ _ (by decide) (by decide)

theorem State.bit_sourceMarked {p : Bool} : (s.sourceMarked x p).bit
    (if p then F.TIM_x_STATE_src_ok x.idx else F.TIM_x_STATE_freq_ok x.idx) = true := by
  cases p <;> exact State.bit_setBit_same _ _ _ (by cases x <;> decide) rfl

theorem sourceUp_enters {p : Bool} (hh : s.huskServo x.isB = true)
    (hs : s.domState x.isB = DomState.free ∨ s.domState x.isB = DomState.holdover)
    (ha : s.bit F.TIM_SVC_CTRL_auto = false) :
    ∃ w', sourceUp x p w s = ((s.sourceMarked x p).domMoved x.isB DomState.acquiring).tebSet x.isB w' := by
  have hh' : (s.sourceMarked x p).huskServo x.isB = true := hh
  have hne : (s.sourceMarked x p).domState x.isB ≠ DomState.acquiring := by
    rw [State.domState_sourceMarked]
    rcases hs with hs | hs <;> rw [hs] <;> decide
  obtain ⟨w', hw⟩ := State.tebSet_of_source (s := (s.sourceMarked x p).domMoved x.isB DomState.acquiring)
    (b := x.isB) (w := w)
  refine ⟨w', ?_⟩
  rw [sourceUp, ← State.sourceMarked, if_neg (by simp [hh']), if_pos (by rw [State.domState_sourceMarked]; exact hs),
    State.setDomState_eq hne (State.auto_sourceMarked.trans ha), hw]

theorem sourceUp_marks {p : Bool} (h : s.huskServo x.isB = false ∨
    (s.domState x.isB ≠ DomState.free ∧ s.domState x.isB ≠ DomState.holdover)) :
    sourceUp x p w s = s.sourceMarked x p := by
  rw [sourceUp, ← State.sourceMarked]
  cases hh : (s.sourceMarked x p).huskServo x.isB with
  | false => rfl
  | true =>
    have hs := h.resolve_left (by rw [show s.huskServo x.isB = true from hh]; decide)
    rw [if_neg (by decide), if_neg (by rw [State.domState_sourceMarked]; exact not_or.2 hs)]

theorem lockDomain_locks (hh : s.huskServo x.isB = true) (hs : s.domState x.isB = DomState.acquiring)
    (ha : s.bit F.TIM_SVC_CTRL_auto = false) : lockDomain x w s =
      (s.domMoved x.isB DomState.locked).tebSet x.isB (BitVec.ofNat 32
        (min 0xFFFFFFFE (w.toInt.natAbs + s.fld (F.TIM_x_SERVO_CFG_src_allow_ns x.idx)))) := by
  have hallow : (s.domMoved x.isB DomState.locked).fld (F.TIM_x_SERVO_CFG_src_allow_ns (b2n x.isB)) =
      s.fld (F.TIM_x_SERVO_CFG_src_allow_ns x.idx) := by
    cases x <;> exact State.fld_domMoved (by decide) (by decide) (by decide) (by decide) (by decide)
  rw [lockDomain, if_pos (by simp [hh, hs]), State.setDomState_eq (by rw [hs]; decide) ha, State.measuredTeb_eq, hallow]

theorem lockDomain_else (h : s.huskServo x.isB = false ∨ s.domState x.isB ≠ DomState.acquiring) :
    lockDomain x w s = s := if_neg (by rcases h with h | h <;> simp [h])

theorem unlockDomain_unlocks (hh : s.huskServo x.isB = true) (hs : s.domState x.isB = DomState.locked)
    (ha : s.bit F.TIM_SVC_CTRL_auto = false) :
    ∃ w', unlockDomain x w s = (s.domMoved x.isB DomState.acquiring).tebSet x.isB w' := by
  obtain ⟨w', hw⟩ := State.tebSet_of_source (s := s.domMoved x.isB DomState.acquiring) (b := x.isB) (w := w)
  refine ⟨w', ?_⟩
  rw [unlockDomain, if_pos (by simp [hh, hs]), State.setDomState_eq (by rw [hs]; decide) ha, hw]

/-- The state and the sources that a domain shows, through a change of state and of the bound. -/
theorem State.domState_tebSet : (s.tebSet b w).domState c = s.domState c := by
  cases b <;> cases c <;> exact State.fld_tebSet (by decide) (by decide) (by decide)

theorem State.bit_tebSet_source {p : Bool} : (s.tebSet b w).bit
      (if p then F.TIM_x_STATE_src_ok (b2n b) else F.TIM_x_STATE_freq_ok (b2n b)) =
    s.bit (if p then F.TIM_x_STATE_src_ok (b2n b) else F.TIM_x_STATE_freq_ok (b2n b)) := by
  cases p <;> cases b <;> exact State.bit_tebSet (by decide) (by decide) (by decide)

/-! ## Entry to HOLDOVER (R271, R277, R278) -/

theorem State.reg_writeIncrement_ne (y : Int) (h : k ≠ R.TIM_x_INCR (b2n b)) (h' : k ≠ R.TIM_x_INCR_FINE (b2n b)) :
    (s.writeIncrement b y).reg k = s.reg k := by
  rw [State.writeIncrement, State.reg_setFld_ne _ _ h', State.reg_setReg_ne _ _ h]

/-- What entry to HOLDOVER prepares: the model re-centred, the bound and the seconds, and INCREMENT's prediction. -/
def State.holdoverBase (s : State) (b : Bool) (c0 : Word) : State :=
  let u := ((s.recentre c0).setDom b { (s.recentre c0).dom b with
    teb := (s.reg (R.TIM_x_TEB (b2n b))).toNat * yScale, tebLimitSent := false }).setReg (R.TIM_x_HO_SECONDS (b2n b)) 0
  if u.bit (F.TIM_x_CTRL_legacy_holdover (b2n b)) then u else u.writeIncrement b u.predicted

theorem State.reg_holdoverBase (h : k ≠ R.TIM_x_HO_SECONDS (b2n b)) (h1 : k ≠ R.TIM_x_INCR (b2n b))
    (h2 : k ≠ R.TIM_x_INCR_FINE (b2n b)) : (s.holdoverBase b w).reg k = (s.recentre w).reg k := by
  rw [State.holdoverBase]
  split
  · rw [State.reg_setReg_ne _ _ h, State.setDom_reg]
  · rw [State.reg_writeIncrement_ne _ h1 h2, State.reg_setReg_ne _ _ h, State.setDom_reg]

theorem State.seconds_holdoverBase : (s.holdoverBase b w).reg (R.TIM_x_HO_SECONDS (b2n b)) = 0 := by
  rw [State.holdoverBase]
  split
  · exact State.reg_setReg_same ..
  · rw [State.reg_writeIncrement_ne _ (by cases b <;> decide) (by cases b <;> decide), State.reg_setReg_same]

theorem State.time_holdoverBase : ((s.holdoverBase b w).dom b).time = (s.dom b).time := by
  rw [State.holdoverBase]
  split
  · rw [State.dom_setReg, State.dom_setDom_same]
    cases b <;> rfl
  · rw [State.writeIncrement, State.dom_setFld, State.dom_setReg, State.dom_setReg, State.dom_setDom_same]
    cases b <;> rfl

theorem State.recentre_ctrl : (s.recentre w).ctrl = ((s.setReg (R.TIM_MODEL_VAL 0) w).setReg (R.TIM_MODEL_VAL 1)
    (BitVec.ofInt 32 (s.modelVal 1 + 2 * s.modelVal 2 * s.deltaT / 128))).ctrl := by rfl

theorem State.reg_recentre_ne (h : k ≠ R.TIM_MODEL_VAL 0) (h' : k ≠ R.TIM_MODEL_VAL 1) :
    (s.recentre w).reg k = s.reg k := by
  rw [State.reg_eq_of_ctrl State.recentre_ctrl, State.reg_setReg_ne _ _ h', State.reg_setReg_ne _ _ h]

theorem State.reg_recentre_offset : (s.recentre w).reg (R.TIM_MODEL_VAL 0) = w := by
  rw [State.reg_eq_of_ctrl State.recentre_ctrl, State.reg_setReg_ne _ _ (by decide), State.reg_setReg_same]

theorem State.enterHoldover_eq (hs : s.domState b ≠ DomState.holdover) (ha : s.bit F.TIM_SVC_CTRL_auto = false) :
    s.enterHoldover b w = (s.holdoverBase b w).domMoved b DomState.holdover := by
  have hstate : (s.holdoverBase b w).domState b = s.domState b := by
    cases b <;> exact State.fld_congr ((State.reg_holdoverBase (by decide) (by decide) (by decide)).trans
      (State.reg_recentre_ne (by decide) (by decide)))
  have hauto : (s.holdoverBase b w).bit F.TIM_SVC_CTRL_auto = s.bit F.TIM_SVC_CTRL_auto := by
    cases b <;> exact State.bit_congr ((State.reg_holdoverBase (by decide) (by decide) (by decide)).trans
      (State.reg_recentre_ne (by decide) (by decide)))
  rw [← State.setDomState_eq (hstate ▸ hs) (hauto.trans ha)]
  rfl

/-- What a domain that has entered HOLDOVER shows. -/
theorem State.enterHoldover_spec (hs : s.domState b ≠ DomState.holdover) (ha : s.bit F.TIM_SVC_CTRL_auto = false) :
    (s.enterHoldover b w).domState b = DomState.holdover ∧ (s.enterHoldover b w).reg (R.TIM_MODEL_VAL 0) = w ∧
    (s.enterHoldover b w).reg (R.TIM_x_HO_SECONDS (b2n b)) = 0 ∧
    (∀ p : Bool, (s.enterHoldover b w).bit (if p then F.TIM_x_STATE_src_ok (b2n b) else F.TIM_x_STATE_freq_ok (b2n b)) =
      s.bit (if p then F.TIM_x_STATE_src_ok (b2n b) else F.TIM_x_STATE_freq_ok (b2n b))) ∧
    ((s.enterHoldover b w).dom b).time = (s.dom b).time := by
  rw [State.enterHoldover_eq hs ha]
  refine ⟨State.domState_domMoved_same (by decide), ?_, ?_, fun p => ?_, ?_⟩
  · rw [State.reg_domMoved (by cases b <;> decide) (by cases b <;> decide) (by decide) (by decide) (by decide),
      State.reg_holdoverBase (by cases b <;> decide) (by cases b <;> decide) (by cases b <;> decide),
      State.reg_recentre_offset]
  · rw [State.seconds_domMoved_holdover, State.seconds_holdoverBase]
  · rw [State.bit_domMoved_source]
    cases p <;> cases b <;> exact State.bit_congr ((State.reg_holdoverBase (by decide) (by decide) (by decide)).trans
      (State.reg_recentre_ne (by decide) (by decide)))
  · rw [State.time_domMoved, State.time_holdoverBase]

/-- Both sources of domain `x` are marked lost. -/
def State.sourcesLost (s : State) (x : Dom) : State :=
  (s.setBit (F.TIM_x_STATE_src_ok x.idx) false).setBit (F.TIM_x_STATE_freq_ok x.idx) false

theorem State.domState_sourcesLost : (s.sourcesLost x).domState x.isB = s.domState x.isB := by
  cases x <;> exact (State.fld_setBit_disjoint _ _ _ _ (by decide) (by decide)).trans
    (State.fld_setBit_disjoint _ _ _ _ (by decide) (by decide))

theorem State.auto_sourcesLost : (s.sourcesLost x).bit F.TIM_SVC_CTRL_auto = s.bit F.TIM_SVC_CTRL_auto := by
  cases x <;> exact (State.bit_setBit_disjoint _ _ _ _ (by decide) (by decide)).trans
    (State.bit_setBit_disjoint _ _ _ _ (by decide) (by decide))

theorem State.bit_sourcesLost {p : Bool} : (s.sourcesLost x).bit
    (if p then F.TIM_x_STATE_src_ok x.idx else F.TIM_x_STATE_freq_ok x.idx) = false := by
  cases p with
  | false => exact State.bit_setBit_same _ _ _ (by cases x <;> decide) rfl
  | true =>
    exact (State.bit_setBit_disjoint _ _ _ _ (by cases x <;> decide) (by cases x <;> decide)).trans
      (State.bit_setBit_same _ _ _ (by cases x <;> decide) rfl)

theorem sourceLost_holdover (hh : s.huskServo x.isB = true) (hs : s.domState x.isB = DomState.locked ∨
    (s.domState x.isB = DomState.acquiring ∧ (s.dom x.isB).everLocked = true)) :
    sourceLost x w s = (s.sourcesLost x).enterHoldover x.isB w := by
  have hh' : (s.sourcesLost x).huskServo x.isB = true := hh
  have hdom : (s.sourcesLost x).dom x.isB = s.dom x.isB := rfl
  rw [sourceLost, ← State.sourcesLost, if_neg (by simp [hh']), State.domState_sourcesLost]
  rcases hs with hs | ⟨hs, he⟩
  · rw [if_pos hs]
  · rw [if_neg (by rw [hs]; decide), if_pos hs, hdom, if_pos he]

theorem sourceLost_free (hh : s.huskServo x.isB = true) (hs : s.domState x.isB = DomState.acquiring)
    (he : (s.dom x.isB).everLocked = false) (ha : s.bit F.TIM_SVC_CTRL_auto = false) :
    sourceLost x w s = ((s.sourcesLost x).domMoved x.isB DomState.free).tebSet x.isB 0xFFFFFFFF#32 := by
  have hh' : (s.sourcesLost x).huskServo x.isB = true := hh
  have hdom : (s.sourcesLost x).dom x.isB = s.dom x.isB := rfl
  have hne : (s.sourcesLost x).domState x.isB ≠ DomState.free := by rw [State.domState_sourcesLost, hs]; decide
  rw [sourceLost, ← State.sourcesLost, if_neg (by simp [hh']), State.domState_sourcesLost,
    if_neg (by rw [hs]; decide), if_pos hs, hdom, if_neg (by simp [he]),
    State.setDomState_eq hne (State.auto_sourcesLost.trans ha), State.unknownTeb_eq]

/-! ## PPS stamps (R269) -/

/-- The time that an edge of PPS_IN marks in domain `b`: the armed time of day, else the nearest second. -/
def State.ppsMark (s : State) (b : Bool) : Nat :=
  if s.bit (F.TIM_x_STATE_tod_armed (b2n b)) then s.pair (R.TIM_x_PPS_TOD_LO (b2n b)) (R.TIM_x_PPS_TOD_HI (b2n b))
  else ((s.dom b).time.toNat / 2 ^ 32 + 500000000) / 1000000000 * 1000000000

theorem State.pair_congr {lo hi : Nat} (hlo : u.reg lo = s.reg lo) (hhi : u.reg hi = s.reg hi) :
    u.pair lo hi = s.pair lo hi := by rw [State.pair, State.pair, hlo, hhi]

theorem State.ppsMark_congr (hs : u.reg (R.TIM_x_STATE (b2n b)) = s.reg (R.TIM_x_STATE (b2n b)))
    (hlo : u.reg (R.TIM_x_PPS_TOD_LO (b2n b)) = s.reg (R.TIM_x_PPS_TOD_LO (b2n b)))
    (hhi : u.reg (R.TIM_x_PPS_TOD_HI (b2n b)) = s.reg (R.TIM_x_PPS_TOD_HI (b2n b)))
    (hd : u.dom b = s.dom b) : u.ppsMark b = s.ppsMark b := by
  rw [State.ppsMark, State.ppsMark, State.bit_congr (f := F.TIM_x_STATE_tod_armed (b2n b)) hs,
    State.pair_congr hlo hhi, hd]

theorem State.reg_setPair_ne {lo hi v : Nat} (hlo : k ≠ lo) (hhi : k ≠ hi) : (s.setPair lo hi v).reg k = s.reg k := by
  rw [State.setPair, State.reg_setReg_ne _ _ hhi, State.reg_setReg_ne _ _ hlo]

theorem State.pair_setPair {lo hi v : Nat} (h : lo ≠ hi) (hv : v < 2 ^ 64) : (s.setPair lo hi v).pair lo hi = v := by
  rw [State.pair, State.setPair, State.reg_setReg_same, State.reg_setReg_ne _ _ h, State.reg_setReg_same,
    BitVec.toNat_ofNat, BitVec.toNat_ofNat]
  omega

/-- The registers that show a stamp of domain `b`. -/
def State.ppsStamped (s : State) (b : Bool) : State :=
  ((s.setPair (R.TIM_x_PPS_NS_LO (b2n b)) (R.TIM_x_PPS_NS_HI (b2n b)) ((s.dom b).time.toNat / 2 ^ 32)).setFld
    (F.TIM_x_PPS_FRAC_sixteenths (b2n b)) ((s.dom b).time.toNat % 2 ^ 32 / 2 ^ 28)).incFld (F.TIM_x_PPS_FRAC_count (b2n b))

theorem State.reg_ppsStamped (hlo : k ≠ R.TIM_x_PPS_NS_LO (b2n b)) (hhi : k ≠ R.TIM_x_PPS_NS_HI (b2n b))
    (hf : k ≠ R.TIM_x_PPS_FRAC (b2n b)) : (s.ppsStamped b).reg k = s.reg k := by
  rw [State.ppsStamped, State.incFld, State.reg_setFld_ne _ _ hf, State.reg_setFld_ne _ _ hf,
    State.reg_setPair_ne hlo hhi]

theorem State.dom_ppsStamped : (s.ppsStamped b).dom c = s.dom c := by rfl

theorem stampPps_eq : stampPps b s = ((s.ppsStamped b).setBit (F.TIM_x_STATE_tod_armed (b2n b)) false).setDom b
    { s.dom b with mark := s.ppsMark b } := by
  have hmark : (s.ppsStamped b).ppsMark b = s.ppsMark b := by
    refine State.ppsMark_congr ?_ ?_ ?_ State.dom_ppsStamped <;> cases b <;>
      exact State.reg_ppsStamped (by decide) (by decide) (by decide)
  rw [← hmark]
  rfl

theorem dom_stampPps_same : (stampPps b s).dom b = { s.dom b with mark := s.ppsMark b } := by
  rw [stampPps_eq, State.dom_setDom_same]

theorem dom_stampPps_ne (h : c ≠ b) : (stampPps b s).dom c = s.dom c := by
  rw [stampPps_eq, State.dom_setDom_ne _ h, State.dom_setBit, State.dom_ppsStamped]

theorem reg_stampPps (hlo : k ≠ R.TIM_x_PPS_NS_LO (b2n b)) (hhi : k ≠ R.TIM_x_PPS_NS_HI (b2n b))
    (hf : k ≠ R.TIM_x_PPS_FRAC (b2n b)) (hs : k ≠ R.TIM_x_STATE (b2n b)) : (stampPps b s).reg k = s.reg k := by
  rw [stampPps_eq, State.setDom_reg, State.reg_setBit_ne _ _ hs, State.reg_ppsStamped hlo hhi hf]

theorem armed_stampPps : (stampPps b s).bit (F.TIM_x_STATE_tod_armed (b2n b)) = false := by
  rw [stampPps_eq, State.setDom_bit, State.bit_setBit_same _ _ _ (by cases b <;> decide) rfl]

theorem pair_stampPps : (stampPps b s).pair (R.TIM_x_PPS_NS_LO (b2n b)) (R.TIM_x_PPS_NS_HI (b2n b)) =
    (s.dom b).time.toNat / 2 ^ 32 := by
  have hlt : (s.dom b).time.toNat / 2 ^ 32 < 2 ^ 64 := by
    have := (s.dom b).time.isLt
    omega
  have hkeep : ∀ k, k ≠ R.TIM_x_STATE (b2n b) → k ≠ R.TIM_x_PPS_FRAC (b2n b) → (stampPps b s).reg k =
      (s.setPair (R.TIM_x_PPS_NS_LO (b2n b)) (R.TIM_x_PPS_NS_HI (b2n b)) ((s.dom b).time.toNat / 2 ^ 32)).reg k := by
    intro k hs hf
    rw [stampPps_eq, State.setDom_reg, State.reg_setBit_ne _ _ hs, State.ppsStamped, State.incFld,
      State.reg_setFld_ne _ _ hf, State.reg_setFld_ne _ _ hf]
  rw [State.pair_congr (hkeep _ (by cases b <;> decide) (by cases b <;> decide))
    (hkeep _ (by cases b <;> decide) (by cases b <;> decide)), State.pair_setPair (by cases b <;> decide) hlt]

/-- The stamp of one edge in domain `b`: what R269 records. -/
def PpsStamped (s t : State) (b : Bool) : Prop :=
  (t.dom b).time = (s.dom b).time ∧ (t.dom b).mark = s.ppsMark b ∧
    t.bit (F.TIM_x_STATE_tod_armed (b2n b)) = false ∧
    t.pair (R.TIM_x_PPS_NS_LO (b2n b)) (R.TIM_x_PPS_NS_HI (b2n b)) = (s.dom b).time.toNat / 2 ^ 32

theorem stampPps_stamped : PpsStamped s (stampPps b s) b := by
  rw [PpsStamped, dom_stampPps_same]
  exact ⟨rfl, rfl, armed_stampPps, pair_stampPps⟩

/-- The registers of domain `b` that a stamp reads or writes, but for its fraction. -/
def ppsRegs (b : Bool) : List Nat :=
  [R.TIM_x_STATE (b2n b), R.TIM_x_PPS_NS_LO (b2n b), R.TIM_x_PPS_NS_HI (b2n b), R.TIM_x_PPS_TOD_LO (b2n b),
    R.TIM_x_PPS_TOD_HI (b2n b)]

theorem reg_stampPps_other (hk : k ∈ ppsRegs (!b)) : (stampPps b s).reg k = s.reg k := by
  have hother : ∀ j ∈ ppsRegs (!b), j ≠ R.TIM_x_PPS_NS_LO (b2n b) ∧ j ≠ R.TIM_x_PPS_NS_HI (b2n b) ∧
      j ≠ R.TIM_x_PPS_FRAC (b2n b) ∧ j ≠ R.TIM_x_STATE (b2n b) := by cases b <;> decide
  obtain ⟨hlo, hhi, hf, hs⟩ := hother k hk
  exact reg_stampPps hlo hhi hf hs

theorem State.ppsMark_of_ppsRegs (hd : u.dom b = s.dom b) (h : ∀ k ∈ ppsRegs b, u.reg k = s.reg k) :
    u.ppsMark b = s.ppsMark b :=
  State.ppsMark_congr (h _ (by simp [ppsRegs])) (h _ (by simp [ppsRegs])) (h _ (by simp [ppsRegs])) hd

/-- A stamp stays where the domain and its registers stay. -/
theorem PpsStamped.after {t : State} (ht : PpsStamped s t b) (hd : u.dom b = t.dom b)
    (h : ∀ k ∈ ppsRegs b, u.reg k = t.reg k) : PpsStamped s u b := by
  obtain ⟨htime, hmark, harmed, hpair⟩ := ht
  refine ⟨by rw [hd, htime], by rw [hd, hmark], ?_, ?_⟩
  · rw [State.bit_congr (f := F.TIM_x_STATE_tod_armed (b2n b)) (h (R.TIM_x_STATE (b2n b)) (by simp [ppsRegs])), harmed]
  · rw [State.pair_congr (h _ (by simp [ppsRegs])) (h _ (by simp [ppsRegs])), hpair]

/-- A stamp is the same where the domain and its registers were the same before. -/
theorem PpsStamped.before {t : State} (ht : PpsStamped u t b) (hd : u.dom b = s.dom b)
    (h : ∀ k ∈ ppsRegs b, u.reg k = s.reg k) : PpsStamped s t b := by
  obtain ⟨htime, hmark, harmed, hpair⟩ := ht
  exact ⟨by rw [htime, hd], by rw [hmark, State.ppsMark_of_ppsRegs hd h], harmed, by rw [hpair, hd]⟩

/-- An edge stamps both domains: each stamp touches only its own domain and its own registers. -/
theorem ppsEdge_stamped : PpsStamped s (ppsEdge s) b := by
  rw [ppsEdge]
  cases b with
  | false => exact stampPps_stamped.after (dom_stampPps_ne (by decide)) fun k hk => reg_stampPps_other hk
  | true => exact stampPps_stamped.before (dom_stampPps_ne (by decide)) fun k hk => reg_stampPps_other hk

theorem todArm_arms (h : m.same .husk = true ∨ s.isServo m x.isB = true) : todArm m x w s =
    ((s.writePair m (R.TIM_x_PPS_TOD_LO x.idx) (R.TIM_x_PPS_TOD_HI x.idx) w).setBit
      (F.TIM_x_STATE_tod_armed x.idx) true).ack := if_pos (by rcases h with h | h <;> simp [h])

theorem State.reg_writePair_hi {lo hi : Nat} : (s.writePair m lo hi w).reg hi = w := State.reg_setReg_same ..

/-! ## A second of HOLDOVER (R277, R281) -/

theorem State.fld_word (o : Nat) : s.fld ⟨o, 0, 32⟩ = (s.reg o).toNat := Nat.mod_eq_of_lt (s.reg o).isLt

/-- The bound as shown, and its first passing of the limit. -/
theorem State.showBound_spec : (∀ k, k ≠ R.TIM_x_TEB (b2n b) → k ≠ R.TIM_SVC_STATUS → k ≠ R.TIM_PPS_CTRL →
      k ≠ F.ERR_LOST_lost.off → (s.showBound b).reg k = s.reg k) ∧
    ((s.showBound b).dom b).teb = (s.dom b).teb ∧ (s.showBound b).tim.modelAge = s.tim.modelAge := by
  obtain ⟨w, hw⟩ : ∃ w, (if s.bit F.CLK_SRC_STATUS_xtime_ok then
      s.setTeb b (((s.dom b).teb + yScale - 1) / yScale) else s.unknownTeb b) = s.tebSet b w := by
    split
    · exact ⟨_, State.setTeb_eq _⟩
    · exact ⟨_, State.unknownTeb_eq⟩
  rw [State.showBound, hw]
  dsimp only
  split
  · refine ⟨fun k h h1 h2 h3 => ?_, ?_, ?_⟩
    · rw [State.fault_reg_ne _ _ _ _ _ _ _ h3, State.setDom_reg, State.reg_tebSet_ne h h1 h2]
    · rw [State.dom_fault, State.dom_setDom_same, State.dom_tebSet]
    · rw [State.fault_tim]
      cases b <;> rfl
  · exact ⟨fun k h h1 h2 _ => State.reg_tebSet_ne h h1 h2, rfl, rfl⟩

/-- A second more of HOLDOVER and of the model's age. -/
def State.secondPassed (s : State) (x : Dom) : State :=
  let u := s.satOnly (F.TIM_x_HO_SECONDS_seconds x.idx)
  { u with tim := { u.tim with modelAge := u.tim.modelAge + 1 } }

theorem State.ctrl_secondPassed : (s.secondPassed x).ctrl = (s.satOnly (F.TIM_x_HO_SECONDS_seconds x.idx)).ctrl := by
  rfl

theorem State.reg_secondPassed_ne (h : k ≠ R.TIM_x_HO_SECONDS x.idx) : (s.secondPassed x).reg k = s.reg k := by
  rw [State.reg_eq_of_ctrl State.ctrl_secondPassed, State.satOnly, State.reg_setFld_ne _ _ h]

theorem State.seconds_secondPassed (h : (s.reg (R.TIM_x_HO_SECONDS x.idx)).toNat < 0xFFFFFFFF) :
    ((s.secondPassed x).reg (R.TIM_x_HO_SECONDS x.idx)).toNat = (s.reg (R.TIM_x_HO_SECONDS x.idx)).toNat + 1 := by
  have hval : (s.satOnly (F.TIM_x_HO_SECONDS_seconds x.idx)).fld (F.TIM_x_HO_SECONDS_seconds x.idx) =
      min (2 ^ 32 - 1) (s.fld (F.TIM_x_HO_SECONDS_seconds x.idx) + 1) % 2 ^ 32 :=
    State.fld_setFld_same _ _ _ (by cases x <;> decide)
  rw [F.TIM_x_HO_SECONDS_seconds, State.fld_word, State.fld_word] at hval
  rw [State.reg_eq_of_ctrl State.ctrl_secondPassed, F.TIM_x_HO_SECONDS_seconds, hval]
  omega

/-- A second in which INCREMENT stays frozen. -/
theorem holdoverSecond_legacy (hs : s.domState x.isB = DomState.holdover)
    (hl : s.bit (F.TIM_x_CTRL_legacy_holdover x.idx) = true) :
    ∃ g, holdoverSecond x s = ((s.secondPassed x).setDom x.isB
      { (s.secondPassed x).dom x.isB with teb := ((s.secondPassed x).dom x.isB).teb + g }).showBound x.isB := by
  have hleg : (s.secondPassed x).bit (F.TIM_x_CTRL_legacy_holdover x.idx) = true := by
    rw [State.bit_congr (State.reg_secondPassed_ne (by cases x <;> decide)), hl]
  refine ⟨(s.secondPassed x).tebGrowth x.isB ((s.secondPassed x).reg (R.TIM_x_HO_SECONDS x.idx)).toNat, ?_⟩
  rw [holdoverSecond]
  dsimp only
  rw [if_neg (by rw [hs]; decide), ← State.secondPassed, if_pos hleg]

theorem holdoverSecond_elsewhere (hs : s.domState x.isB ≠ DomState.holdover) : holdoverSecond x s = s := if_pos hs

/-! ## The model (R279) -/

/-- The refitted terms in the model's registers. -/
def State.refitted (s : State) (g : ModelTerms) : State :=
  let put (k : Nat) (v w : Word) (s : State) : State := (s.setReg (R.TIM_MODEL_VAL k) v).setReg (R.TIM_MODEL_UNC k) w
  let l := g.learned.toNat
  let z (k : Nat) (w : Word) : Word := if bitAt l k || k == 0 then w else 0
  let s := put 0 g.c0 (BitVec.ofNat 32 (max 328 g.s0.toNat)) s
  let s := put 1 (z 1 g.c1) (z 1 g.s1) s
  let s := put 2 (z 2 g.c2) (z 2 g.s2) s
  put 3 (z 3 g.d) (z 3 g.sd) s

/-- The model's status and range. -/
def State.statusFitted (s : State) (g : ModelTerms) : State :=
  let u := (((s.setFld F.TIM_MODEL_STATUS_learned g.learned.toNat).setFld F.TIM_MODEL_STATUS_locked_hours
    g.hours.toNat).setFld F.TIM_MODEL_RANGE_t_lo g.tLo.toNat).setFld F.TIM_MODEL_RANGE_t_hi g.tHi.toNat
  if 24 ≤ g.hours.toNat then u.setBit F.TIM_MODEL_STATUS_restored false else u

/-- The model is centred on the temperature of now. -/
def State.recentred (s : State) : State := { s with tim := { s.tim with modelTemp := s.temperature, modelAge := 0 } }

theorem modelRefit_accepted {g : ModelTerms} (hf : s.bit F.TIM_MODEL_STATUS_frozen = false)
    (hx : s.bit F.CLK_SRC_STATUS_xtime_ok = true)
    (hl : s.domState false = DomState.locked ∨ s.domState true = DomState.locked) :
    modelRefit true g s = ((s.refitted g).statusFitted g).recentred :=
  if_neg (by rcases hl with hl | hl <;> simp [hf, hx, hl])

theorem modelRefit_rejected {g : ModelTerms} : modelRefit false g s = s := if_pos (by simp)

theorem State.reg_statusFitted {g : ModelTerms} (h : k ≠ R.TIM_MODEL_STATUS) (h' : k ≠ R.TIM_MODEL_RANGE) :
    (s.statusFitted g).reg k = s.reg k := by
  have hu : ((((s.setFld F.TIM_MODEL_STATUS_learned g.learned.toNat).setFld F.TIM_MODEL_STATUS_locked_hours
      g.hours.toNat).setFld F.TIM_MODEL_RANGE_t_lo g.tLo.toNat).setFld F.TIM_MODEL_RANGE_t_hi g.tHi.toNat).reg k =
      s.reg k := by
    rw [State.reg_setFld_ne _ _ h', State.reg_setFld_ne _ _ h', State.reg_setFld_ne _ _ h, State.reg_setFld_ne _ _ h]
  rw [State.statusFitted]
  split
  · rw [State.reg_setBit_ne _ _ h, hu]
  · exact hu

theorem State.learned_statusFitted {g : ModelTerms} :
    (s.statusFitted g).fld F.TIM_MODEL_STATUS_learned = g.learned.toNat := by
  have hmod : g.learned.toNat % 2 ^ F.TIM_MODEL_STATUS_learned.width = g.learned.toNat := Nat.mod_eq_of_lt g.learned.isLt
  rw [State.statusFitted]
  split <;> simp (disch := decide) only [State.fld_setBit_disjoint, State.fld_setFld_disjoint, State.fld_setFld_same,
    hmod]

theorem State.hours_statusFitted {g : ModelTerms} :
    (s.statusFitted g).fld F.TIM_MODEL_STATUS_locked_hours = g.hours.toNat := by
  have hmod : g.hours.toNat % 2 ^ F.TIM_MODEL_STATUS_locked_hours.width = g.hours.toNat := Nat.mod_eq_of_lt g.hours.isLt
  rw [State.statusFitted]
  split <;> simp (disch := decide) only [State.fld_setBit_disjoint, State.fld_setFld_disjoint, State.fld_setFld_same,
    hmod]

theorem State.reg_refitted {g : ModelTerms} (h : ∀ j, j < 4 → k ≠ R.TIM_MODEL_VAL j ∧ k ≠ R.TIM_MODEL_UNC j) :
    (s.refitted g).reg k = s.reg k := by
  simp only [State.refitted, State.reg_setReg_ne _ _ (h 0 (by decide)).1, State.reg_setReg_ne _ _ (h 0 (by decide)).2,
    State.reg_setReg_ne _ _ (h 1 (by decide)).1, State.reg_setReg_ne _ _ (h 1 (by decide)).2,
    State.reg_setReg_ne _ _ (h 2 (by decide)).1, State.reg_setReg_ne _ _ (h 2 (by decide)).2,
    State.reg_setReg_ne _ _ (h 3 (by decide)).1, State.reg_setReg_ne _ _ (h 3 (by decide)).2]

theorem State.offset_refitted {g : ModelTerms} : (s.refitted g).reg (R.TIM_MODEL_VAL 0) = g.c0 ∧
    (s.refitted g).reg (R.TIM_MODEL_UNC 0) = BitVec.ofNat 32 (max 328 g.s0.toNat) := by
  constructor <;> simp (disch := decide) only [State.refitted, State.reg_setReg_ne, State.reg_setReg_same]

end Sys2Proof.Machine
end

section
open Sys2Proof Sys2Proof.Machine

/-- Settles O45: each event of a source by the state that it finds, a stamp, a second of HOLDOVER, and the model. -/
theorem domainStatesFollowTheirSources : Obligations.DomainStatesFollowTheirSources := by
  unfold Obligations.DomainStatesFollowTheirSources
  refine ⟨?present, ?presentElse, ?lock, ?lockElse, ?unlock, ?lossHoldover, ?lossFree, ?edge, ?arm, ?synce, ?second,
    ?secondElse, ?bin, ?binRejected, ?save⟩
  case present =>
    intro s x p err hh hs ha
    obtain ⟨w, heq⟩ := sourceUp_enters (w := err) (p := p) hh hs ha
    refine ⟨_, exec_sourcePresent, ?_⟩
    beta_reduce
    rw [heq, State.domState_tebSet, State.domState_domMoved_same (by decide), State.domState_tebSet,
      State.domState_domMoved_other, State.domState_sourceMarked, State.dom_tebSet, State.time_domMoved]
    exact ⟨rfl, rfl, (State.bit_tebSet_source.trans State.bit_domMoved_source).trans State.bit_sourceMarked, rfl⟩
  case presentElse =>
    intro s x p err h
    rw [exec_sourcePresent, sourceUp_marks h]
    rfl
  case lock =>
    intro s x err hh hs ha
    refine ⟨_, exec_domainLock, ?_⟩
    beta_reduce
    rw [lockDomain_locks hh hs ha, State.domState_tebSet, State.domState_domMoved_same (by decide), State.dom_tebSet,
      State.everLocked_domMoved]
    exact ⟨rfl, rfl, State.reg_tebSet_same⟩
  case lockElse =>
    intro s x err h
    rw [exec_domainLock, lockDomain_else h]
  case unlock =>
    intro s x err hh hs ha
    obtain ⟨w, heq⟩ := unlockDomain_unlocks (w := err) hh hs ha
    refine ⟨_, exec_domainUnlock, ?_⟩
    beta_reduce
    rw [heq, State.domState_tebSet, State.domState_domMoved_same (by decide), State.dom_tebSet, State.time_domMoved]
    exact ⟨rfl, rfl⟩
  case lossHoldover =>
    intro s x c hh hs ha
    have hne : (s.sourcesLost x).domState x.isB ≠ DomState.holdover := by
      rw [State.domState_sourcesLost]
      rcases hs with hs | ⟨hs, -⟩ <;> rw [hs] <;> decide
    obtain ⟨hstate, hmodel, hsec, hbits, htime⟩ := State.enterHoldover_spec (w := c) hne (State.auto_sourcesLost.trans ha)
    refine ⟨_, exec_sourceLoss, ?_⟩
    beta_reduce
    rw [sourceLost_holdover hh hs]
    exact ⟨hstate, hmodel, hsec, (hbits true).trans (State.bit_sourcesLost (p := true)),
      (hbits false).trans (State.bit_sourcesLost (p := false)), htime⟩
  case lossFree =>
    intro s x c hh hs he ha
    refine ⟨_, exec_sourceLoss, ?_⟩
    beta_reduce
    rw [sourceLost_free hh hs he ha, State.domState_tebSet, State.domState_domMoved_same (by decide)]
    exact ⟨rfl, State.reg_tebSet_same⟩
  case edge =>
    intro s
    exact ⟨_, exec_ppsInEdge, fun b => ppsEdge_stamped⟩
  case arm =>
    intro s m x hi h
    refine ⟨_, exec_ppsTodArm, ?_⟩
    beta_reduce
    rw [todArm_arms h, State.ack_bit, State.bit_setBit_same _ _ _ (by cases x <;> decide) rfl, State.ack_reg,
      State.reg_setBit_ne _ _ (by cases x <;> decide), State.reg_writePair_hi]
    exact ⟨rfl, rfl, rfl⟩
  case synce =>
    intro s x o
    exact exec_synceGate
  case second =>
    intro s x hs hl hlt
    obtain ⟨g, heq⟩ := holdoverSecond_legacy hs hl
    refine ⟨_, exec_holdoverUpdate, ?_⟩
    beta_reduce
    rw [heq]
    obtain ⟨hreg, hteb, hage⟩ := State.showBound_spec (b := x.isB) (s := (s.secondPassed x).setDom x.isB
      { (s.secondPassed x).dom x.isB with teb := ((s.secondPassed x).dom x.isB).teb + g })
    rw [hteb, hage, hreg _ (by cases x <;> decide) (by cases x <;> decide) (by cases x <;> decide)
      (by cases x <;> decide), hreg _ (by cases x <;> decide) (by cases x <;> decide) (by cases x <;> decide)
      (by cases x <;> decide), State.setDom_reg, State.setDom_reg, State.seconds_secondPassed hlt,
      State.reg_secondPassed_ne (by cases x <;> decide), State.dom_setDom_same]
    exact ⟨rfl, Nat.le_add_right .., rfl, by cases x <;> rfl⟩
  case secondElse =>
    intro s x hs
    rw [exec_holdoverUpdate, holdoverSecond_elsewhere hs]
  case bin =>
    intro s g hf hx hl
    refine ⟨_, exec_modelBin, ?_⟩
    beta_reduce
    rw [modelRefit_accepted hf hx hl]
    have hctrl : ((s.refitted g).statusFitted g).recentred.ctrl = ((s.refitted g).statusFitted g).ctrl := rfl
    have hval : ∀ k, k ≠ R.TIM_MODEL_STATUS → k ≠ R.TIM_MODEL_RANGE →
        ((s.refitted g).statusFitted g).recentred.reg k = (s.refitted g).reg k := fun k h h' =>
      (State.reg_eq_of_ctrl hctrl k).trans (State.reg_statusFitted h h')
    have htemp : ((s.refitted g).statusFitted g).temperature = s.temperature := by
      rw [State.temperature, State.fld_congr (State.reg_statusFitted (by decide) (by decide)),
        State.fld_congr (State.reg_refitted (by decide))]
      rfl
    refine ⟨?_, ?_, State.learned_statusFitted, State.hours_statusFitted, rfl, htemp⟩
    · rw [hval _ (by decide) (by decide), State.offset_refitted.1]
    · rw [hval _ (by decide) (by decide), State.offset_refitted.2, BitVec.toNat_ofNat]
      have := g.s0.isLt
      omega
  case binRejected =>
    intro s g
    rw [exec_modelBin, modelRefit_rejected]
  case save =>
    intro s
    refine ⟨_, exec_modelSave, rfl, fun k hk => ?_, rfl⟩
    obtain rfl | rfl | rfl | rfl : k = 0 ∨ k = 1 ∨ k = 2 ∨ k = 3 := by omega
    all_goals exact ⟨rfl, rfl⟩

end

section
/-! PROOFS. The service timescale (R282 to R285), PPS_OUT and the bypass (R286, R287), the WRAP doorbell (R262), local
copies of the time (R275), and general timers (R288). -/

namespace Sys2Proof.Machine

variable {s u : State} {m : Master} {b c : Bool} {k n : Nat} {f : Field} {w : Word}

theorem exec_serviceSelectApply {sel fo au re bi : Bool} {slot : Fin 8} :
    exec (.serviceSelectApply m sel fo au re bi slot) s = .next (selectApply m sel fo au re bi slot s) := by rfl
theorem exec_offsetSlewDone : exec .offsetSlewDone s = .next (offsetDone s) := by rfl
theorem exec_ppsOutEdge : exec (.ppsOutEdge b) s = .next (ppsOut b s) := by rfl
theorem exec_midSecondBypass : exec .midSecondBypass s = .next (midSecond s) := by rfl
theorem exec_wrapDoorbell : exec (.wrapDoorbell b) s = .next (wrapBell b s) := by rfl
theorem exec_timeCopyLost : exec (.timeCopyLost m) s = .next (copyLose m s) := by rfl
theorem exec_tmrStart {k : Fin 32} {a : Fin 8} {mb : BitVec 8} {be : BitVec 5} {fr : BitVec 4} :
    exec (.tmrStart m k a mb be fr) s = .next (timerStart m k.val a.val mb.toNat be.toNat fr.toNat s) := by rfl
theorem exec_tmrStop {k : Fin 32} : exec (.tmrStop m k) s = .next (timerStop m k.val s) := by rfl
theorem exec_tmrExpiry {k : Fin 32} : exec (.tmrExpiry k) s = .next (timerExpire k.val s) := by rfl

/-! ## Service time, from the domains, O, and which domain serves (R282) -/

theorem State.serving_congr (h : u.reg R.TIM_SVC_STATUS = s.reg R.TIM_SVC_STATUS) : u.serving = s.serving :=
  State.bit_congr (f := F.TIM_SVC_STATUS_dom) h

theorem State.svc_congr (hd : ∀ b, u.dom b = s.dom b) (ho : u.tim.offset = s.tim.offset)
    (hs : u.serving = s.serving) : u.svc = s.svc := by
  rw [State.svc, State.svc, hd, ho, hs]

theorem State.svc_setFld (v : Nat) (h : R.TIM_SVC_STATUS ≠ f.off) : (s.setFld f v).svc = s.svc :=
  State.svc_congr (fun _ => State.dom_setFld ..) (congrArg Tim.offset (State.setFld_tim ..))
    (State.serving_congr (State.reg_setFld_ne _ _ h))

theorem State.svc_ack : s.ack.svc = s.svc :=
  State.svc_congr (fun _ => State.dom_ack ..) (congrArg Tim.offset (State.ack_tim ..))
    (State.serving_congr (State.ack_reg ..))

theorem State.now_congr (h : u.svc = s.svc) : u.now = s.now := by rw [State.now, State.now, h]

theorem State.extend_congr (h : u.svc = s.svc) : u.extend w = s.extend w := by
  rw [State.extend, State.extend, State.now32, State.now32, State.now_congr h]

/-! ## A switch of the serving domain (R282) -/

/-- What is shown of the serving domain leaves which one it is. -/
theorem State.serving_shown : s.shown.serving = s.serving := by
  rw [State.shown, State.showPps, State.serving, State.bit_setBit_disjoint _ _ _ _ (by decide) (by decide),
    State.showService]
  simp (disch := decide) only [State.bit_setBit_disjoint, State.bit_setFld_disjoint]
  rfl

/-- Domain `b` serves, and O has taken what the domains differ by. -/
def State.handedOver (s : State) (b : Bool) : State :=
  ((s.setOffset (s.tim.offset + ((s.dom s.serving).time - (s.dom b).time).toInt) 0).setBit F.TIM_SVC_STATUS_dom
    b).setFld F.TIM_SVC_CTRL_select (b2n b)

theorem State.serving_handedOver : (s.handedOver b).serving = b := by
  rw [State.handedOver, State.serving, State.bit_setFld_disjoint _ _ _ _ (by decide) (by decide),
    State.bit_setBit_same _ _ _ (by decide) rfl]

theorem State.dom_handedOver : (s.handedOver b).dom c = s.dom c := by rfl

theorem State.svc_handedOver : (s.handedOver b).svc = s.svc := by
  have ho : (s.handedOver b).tim.offset = s.tim.offset + ((s.dom s.serving).time - (s.dom b).time).toInt := rfl
  rw [State.svc, State.serving_handedOver, State.dom_handedOver, ho, BitVec.ofInt_add, BitVec.ofInt_toInt, State.svc]
  ring

theorem State.switchService_other (h : s.serving ≠ b) :
    s.switchService b = (s.handedOver b).shown.fault Unit.tim .timeSwitch (.code 961) := if_neg h

theorem State.switchService_same (h : s.serving = b) :
    s.switchService b = s.setFld F.TIM_SVC_CTRL_select (b2n b) := if_pos h

theorem State.serving_switchService : (s.switchService b).serving = b := by
  by_cases h : s.serving = b
  · rw [State.switchService_same h, State.serving, State.bit_setFld_disjoint _ _ _ _ (by decide) (by decide)]
    exact h
  · rw [State.switchService_other h, State.serving_congr (State.fault_reg_ne _ _ _ _ _ _ _ (by decide)),
      State.serving_shown, State.serving_handedOver]

theorem State.dom_switchService : (s.switchService b).dom c = s.dom c := by
  by_cases h : s.serving = b
  · rw [State.switchService_same h, State.dom_setFld]
  · rw [State.switchService_other h, State.dom_fault, State.dom_shown, State.dom_handedOver]

/-- A switch leaves service time where it was. -/
theorem State.svc_switchService : (s.switchService b).svc = s.svc := by
  by_cases h : s.serving = b
  · refine State.svc_congr (fun _ => State.dom_switchService) ?_ (State.serving_switchService.trans h.symm)
    rw [State.switchService_same h, State.setFld_tim]
  · rw [← State.svc_handedOver (s := s) (b := b)]
    refine State.svc_congr (fun _ => ?_) ?_ (State.serving_switchService.trans State.serving_handedOver.symm)
    · rw [State.dom_switchService, State.dom_handedOver]
    · rw [State.switchService_other h, State.fault_tim, State.tim_shown]

/-- The settings of TIM_SVC_CTRL other than the selection stay. -/
theorem State.fld_switchService (hf : f.off = R.TIM_SVC_CTRL) (hlo : 1 ≤ f.lo) (hhi : f.lo + f.width ≤ 32) :
    (s.switchService b).fld f = s.fld f := by
  have hsel : ∀ v : State, (v.setFld F.TIM_SVC_CTRL_select (b2n b)).fld f = v.fld f := fun v =>
    State.fld_setFld_disjoint v _ _ _ hhi (.inr (.inr hlo))
  have hne : f.off ≠ R.TIM_SVC_STATUS := by rw [hf]; decide
  by_cases h : s.serving = b
  · rw [State.switchService_same h, hsel]
  · rw [State.switchService_other h, State.fault_fld_ne _ _ _ _ _ _ _ _ (by rw [hf]; decide),
      State.fld_shown hne (by rw [hf]; decide), State.handedOver, hsel]
    exact State.fld_congr ((State.reg_setBit_ne _ _ hne).trans (State.reg_setOffset_ne _ _ hne))

/-- TIM_SVC_CTRL as a write with apply leaves it, but for the selection, which is held in the shadow. -/
def State.selectHeld (s : State) (sel fo au re : Bool) (slot : Fin 8) : State :=
  (((((s.setBit F.TIM_SVC_CTRL_force fo).setBit F.TIM_SVC_CTRL_auto au).setBit F.TIM_SVC_CTRL_revert re).setBit
    F.TIM_SVC_CTRL_bind false).setFld F.TIM_SVC_CTRL_cue_slot slot.val).setShadow R.TIM_SVC_CTRL
      (BitVec.ofNat 32 (b2n sel))

theorem State.reg_setShadow (o : Nat) (v : Word) : (s.setShadow o v).reg k = s.reg k := by rfl

theorem State.bit_setShadow (o : Nat) (v : Word) : (s.setShadow o v).bit f = s.bit f := by rfl

theorem State.reg_selectHeld {sel fo au re : Bool} {slot : Fin 8} (h : k ≠ R.TIM_SVC_CTRL) :
    (s.selectHeld sel fo au re slot).reg k = s.reg k := by
  rw [State.selectHeld, State.reg_setShadow, State.reg_setFld_ne _ _ h, State.reg_setBit_ne _ _ h,
    State.reg_setBit_ne _ _ h, State.reg_setBit_ne _ _ h, State.reg_setBit_ne _ _ h]

theorem State.dom_selectHeld {sel fo au re : Bool} {slot : Fin 8} :
    (s.selectHeld sel fo au re slot).dom b = s.dom b := by rfl

theorem State.svc_selectHeld {sel fo au re : Bool} {slot : Fin 8} : (s.selectHeld sel fo au re slot).svc = s.svc :=
  State.svc_congr (fun _ => State.dom_selectHeld) rfl (State.serving_congr (State.reg_selectHeld (by decide)))

theorem State.auto_selectHeld {sel fo au re : Bool} {slot : Fin 8} :
    (s.selectHeld sel fo au re slot).bit F.TIM_SVC_CTRL_auto = au ∧
      (s.selectHeld sel fo au re slot).bit F.TIM_SVC_CTRL_revert = re := by
  constructor <;> simp (disch := decide) only [State.selectHeld, State.bit_setShadow, State.bit_setFld_disjoint,
    State.bit_setBit_disjoint, State.bit_setBit_same]

theorem selectApply_switches {sel fo au re : Bool} {slot : Fin 8}
    (h : s.domState sel ≠ DomState.free ∨ fo = true) : selectApply m sel fo au re false slot s =
      (((s.selectHeld sel fo au re slot).switchService sel).setFld F.TIM_SVC_REQ_status 0).ack := by
  have hno : ¬(s.domState sel == DomState.free && !fo) = true := by rcases h with h | h <;> simp [h]
  rw [selectApply, if_neg hno, if_neg (by decide)]
  rfl

theorem selectApply_noSource {sel au re : Bool} {slot : Fin 8} (h : s.domState sel = DomState.free) :
    selectApply m sel false au re b slot s = s.refuse F.TIM_SVC_REQ_status Code.noSource :=
  if_pos (by simp [h])

/-! ## O, PPS_OUT and the bypass (R283, R286, R287) -/

theorem offsetDone_last (h : s.tim.offset ≠ 0) (hq : s.tim.offset.natAbs ≤
    (slewQuantum s.tim.offsetAcc (s.fld F.TIM_SVC_SLEW_rate_ns_s)).1) : offsetDone s = s.setOffset 0 0 :=
  if_pos ⟨h, hq⟩

theorem offsetDone_zero (h : s.tim.offset = 0) : offsetDone s = s := if_neg fun hn => hn.1 h

theorem State.slewing_setOffset_zero (acc : Nat) :
    (s.setOffset 0 acc).bit F.TIM_SVC_STATUS_slewing = false := by
  rw [State.bit_congr (State.reg_eq_of_ctrl (State.ctrl_setOffset 0 acc) _), State.bit_setBit_same _ _ _ (by decide) rfl]
  rfl

theorem ppsOut_rises (h : s.ppsEnabled = true) : ppsOut false s = { s with tim := { s.tim with ppsHigh := true } } :=
  if_pos (by simp [h])

theorem ppsOut_disabled (h : s.ppsEnabled = false) : ppsOut false s = s := if_neg (by simp [h])

theorem ppsOut_falls : ppsOut true s = { s with tim := { s.tim with ppsHigh := false } } := if_pos (by simp)

theorem midSecond_spec : (midSecond s).bit F.TIM_PPS_CTRL_bypass_closed = (!s.ppsEnabled) ∧
    (midSecond s).bit F.TIM_PPS_CTRL_squelched = s.ppsSquelched ∧ KeepsRegs s (midSecond s) [R.TIM_PPS_CTRL] := by
  rw [midSecond, State.showPps]
  refine ⟨State.bit_setBit_same _ _ _ (by decide) rfl, ?_, fun o ho => ?_⟩
  · rw [State.bit_setBit_disjoint _ _ _ _ (by decide) (by decide), State.bit_setBit_same _ _ _ (by decide) rfl]
  · have hne : o ≠ R.TIM_PPS_CTRL := by simpa using ho
    rw [State.reg_setBit_ne _ _ hne, State.reg_setBit_ne _ _ hne]

/-! ## The WRAP doorbell without a mailbox (R262) -/

theorem State.reg_raiseAll_ne {j : Nat} (h : ∀ i, i < j → k ≠ R.ENG_EVT i) : (s.raiseAll n j).reg k = s.reg k := by
  induction j generalizing s with
  | zero => rfl
  | succ j ih =>
    rw [State.raiseAll, ih fun i hi => h i (by omega), State.reg_setReg_ne _ _ (h j (by omega))]

/-- Every engine below the bound has its flag. -/
theorem State.raiseAll_sets {j i : Nat} (hi : i < j) (hn : n < 32) :
    ((s.raiseAll n j).reg (R.ENG_EVT i)).getLsbD n = true := by
  induction j generalizing s with
  | zero => omega
  | succ j ih =>
    rw [State.raiseAll]
    by_cases h : i = j
    · subst h
      rw [State.reg_raiseAll_ne fun l hl => by simp only [R.ENG_EVT]; omega, State.reg_setReg_same,
        BitVec.getLsbD_or, BitVec.getLsbD_ofNat]
      simp [hn]
    · exact ih (by omega)

theorem State.eng_raiseAll (j : Nat) : (s.raiseAll n j).eng = s.eng := by
  induction j generalizing s with
  | zero => rfl
  | succ j ih => rw [State.raiseAll, ih, State.setReg_eng]

theorem State.ctrl_wrapPulse : s.wrapPulse.ctrl = s.ctrl := by rfl

theorem State.ctrl_wrapped : (s.wrapped b).ctrl = ((s.wrapShown b).raiseAll 11 1024).ctrl := State.ctrl_wrapPulse

/-- Below the engines' pages a WRAP touches no register but its own. -/
theorem State.reg_wrapped (h : k < 0x1000000) : (s.wrapped b).reg k = (s.wrapShown b).reg k := by
  rw [State.reg_eq_of_ctrl State.ctrl_wrapped, State.reg_raiseAll_ne fun i _ => by simp only [R.ENG_EVT]; omega]

theorem State.bit_wrapped (h : f.off < 0x1000000) : (s.wrapped b).bit f = (s.wrapShown b).bit f :=
  State.bit_congr (State.reg_wrapped h)

theorem State.eng_wrapPulse : s.wrapPulse.eng = s.eng := by rfl

theorem State.eng_wrapped : (s.wrapped b).eng = s.eng := by
  rw [State.wrapped, State.eng_wrapPulse, State.eng_raiseAll]
  rfl

theorem wrapBell_alone (h : s.bit F.TIM_WRAP_mbx_en = false) : wrapBell b s = s.wrapped b := by
  have hen : (s.wrapped b).bit F.TIM_WRAP_mbx_en = false := by
    rw [State.bit_wrapped (by decide), ← h, State.wrapShown, State.incFld,
      State.bit_setBit_disjoint _ _ _ _ (by decide) (by decide),
      State.bit_setFld_disjoint _ _ _ _ (by decide) (by decide)]
  rw [wrapBell_eq, hen, if_neg (by decide)]

theorem State.svc_wrapped : (s.wrapped b).svc = s.svc := by
  have ht : (s.wrapped b).tim = { s.tim with wrapPulses := s.tim.wrapPulses + 1 } := State.tim_wrapped b
  refine State.svc_congr (fun c => ?_) (by rw [ht]) (State.serving_congr ?_)
  · rw [State.dom, State.dom, ht]
  · rw [State.reg_wrapped (by decide), State.wrapShown, State.incFld, State.reg_setBit_ne _ _ (by decide),
      State.reg_setFld_ne _ _ (by decide)]

/-! ## Local copies (R275) -/

theorem copyLost_copyLose {v : Master} : (copyLose m s).copyLost v = if v.key = m.key then true else s.copyLost v :=
  Table.get_set copyLose.notLost s.tim.lost m.key v.key true

/-! ## General timers (R288) -/

@[simp] theorem State.timer_setTimer_same (t : Timer) : (s.setTimer k t).timer k = t := Table.get_set_same ..

theorem State.timer_congr (h : u.tim = s.tim) : u.timer k = s.timer k := by rw [State.timer, State.timer, h]

theorem State.bit_setTimer (t : Timer) : (s.setTimer n t).bit f = s.bit f := by rfl

theorem State.fld_setTimer (t : Timer) : (s.setTimer n t).fld f = s.fld f := by rfl

theorem State.svc_setTimer (t : Timer) : (s.setTimer n t).svc = s.svc :=
  State.svc_congr (fun _ => rfl) rfl rfl

theorem timer_notHolder {a mb be fr : Nat} (h : s.holds m (R.DEV_CLAIM (0x1C0 + k)) = false) :
    timerStart m k a mb be fr s = s.refuse (tmrStatusF k) Code.claimBusy ∧
      timerStop m k s = s.refuse (tmrStatusF k) Code.claimBusy :=
  ⟨if_pos (by simp [h]), if_pos (by simp [h])⟩

theorem timerStart_outside {a mb be fr : Nat} (h : s.holds m (R.DEV_CLAIM (0x1C0 + k)) = true)
    (hc : s.classOf (s.reg (R.TIM_TMR_START k)) = .outside) :
    timerStart m k a mb be fr s = s.refuse (tmrStatusF k) Code.timeOutOfWindow := by
  rw [timerStart, if_neg (by simp [h]), hc]

/-- TIM_TMR_CTRL of a timer that runs. -/
def State.timerShown (s : State) (k a mb be fr : Nat) : State :=
  ((((s.setFld (F.TIM_TMR_CTRL_action k) a).setFld (F.TIM_TMR_CTRL_mailbox k) mb).setFld (F.TIM_TMR_CTRL_bell k)
    be).setFld (F.TIM_TMR_CTRL_frac k) fr).setBit (F.TIM_TMR_CTRL_running k) true

theorem svcStatus_ne_tmrCtrl : R.TIM_SVC_STATUS ≠ R.TIM_TMR_CTRL k := by
  simp only [R.TIM_SVC_STATUS, R.TIM_TMR_CTRL]
  omega

theorem svcStatus_ne_tmrStatus : R.TIM_SVC_STATUS ≠ R.TIM_TMR_STATUS k := by
  simp only [R.TIM_SVC_STATUS, R.TIM_TMR_STATUS]
  omega

theorem tmrStart_ne_tmrCtrl : R.TIM_TMR_START k ≠ R.TIM_TMR_CTRL k := by
  simp only [R.TIM_TMR_START, R.TIM_TMR_CTRL]
  omega

theorem tmrCtrl_ne_tmrStatus : R.TIM_TMR_CTRL k ≠ R.TIM_TMR_STATUS k := by
  simp only [R.TIM_TMR_CTRL, R.TIM_TMR_STATUS]
  omega

theorem State.reg_setFld_tmrStatus (v : Nat) :
    (s.setFld (tmrStatusF k) v).reg (R.TIM_TMR_CTRL k) = s.reg (R.TIM_TMR_CTRL k) :=
  State.reg_setFld_ne _ _ tmrCtrl_ne_tmrStatus

theorem State.reg_timerShown {j a mb be fr : Nat} (h : j ≠ R.TIM_TMR_CTRL k) :
    (s.timerShown k a mb be fr).reg j = s.reg j := by
  rw [State.timerShown, State.reg_setBit_ne _ _ h, State.reg_setFld_ne _ _ h, State.reg_setFld_ne _ _ h,
    State.reg_setFld_ne _ _ h, State.reg_setFld_ne _ _ h]

theorem State.running_timerShown {a mb be fr : Nat} :
    (s.timerShown k a mb be fr).bit (F.TIM_TMR_CTRL_running k) = true :=
  State.bit_setBit_same _ _ _ (Nat.le_of_ble_eq_true rfl) rfl

theorem State.action_timerShown {a mb be fr : Nat} (ha : a < 8) :
    (s.timerShown k a mb be fr).fld (F.TIM_TMR_CTRL_action k) = a := by
  have hfits : (F.TIM_TMR_CTRL_action k).lo + (F.TIM_TMR_CTRL_action k).width ≤ 32 := Nat.le_of_ble_eq_true rfl
  rw [State.timerShown, State.fld_setBit_disjoint _ _ _ _ hfits (.inr (.inl (Nat.le_of_ble_eq_true rfl))),
    State.fld_setFld_disjoint _ _ _ _ hfits (.inr (.inr (Nat.le_of_ble_eq_true rfl))),
    State.fld_setFld_disjoint _ _ _ _ hfits (.inr (.inr (Nat.le_of_ble_eq_true rfl))),
    State.fld_setFld_disjoint _ _ _ _ hfits (.inr (.inr (Nat.le_of_ble_eq_true rfl))), State.fld_setFld_same _ _ _ hfits]
  exact Nat.mod_eq_of_lt ha

theorem State.svc_timerShown {a mb be fr : Nat} : (s.timerShown k a mb be fr).svc = s.svc :=
  State.svc_congr (fun _ => rfl) rfl (State.serving_congr (State.reg_timerShown svcStatus_ne_tmrCtrl))

theorem timerStart_starts {a mb be fr : Nat} (h : s.holds m (R.DEV_CLAIM (0x1C0 + k)) = true)
    (hc : s.classOf (s.reg (R.TIM_TMR_START k)) ≠ .outside) : timerStart m k a mb be fr s =
      (((s.timerShown k a mb be fr).setTimer k { next := some (s.extend (s.reg (R.TIM_TMR_START k))) }).setFld
        (tmrStatusF k) 0).ack := by
  have hnext : (s.timerShown k a mb be fr).extend ((s.timerShown k a mb be fr).reg (R.TIM_TMR_START k)) =
      s.extend (s.reg (R.TIM_TMR_START k)) := by
    rw [State.reg_timerShown tmrStart_ne_tmrCtrl, State.extend_congr State.svc_timerShown]
  rw [timerStart, if_neg (by simp [h]), ← hnext]
  split
  · contradiction
  · rfl

theorem timerStop_stops (h : s.holds m (R.DEV_CLAIM (0x1C0 + k)) = true) :
    timerStop m k s = ((s.haltTimer k).setFld (tmrStatusF k) 0).ack := if_neg (by simp [h])

/-- The timer's next instant, and the one that has passed. -/
def State.timerMoved (s : State) (k : Nat) (next : Option Nat) (last : Nat) : State :=
  s.setTimer k { s.timer k with next := next, last := last }

theorem timerExpire_early {i : Nat} (hn : (s.timer k).next = some i) (hi : s.now < i) : timerExpire k s = s := by
  rw [timerExpire, hn]
  exact if_pos (.inl hi)

theorem timerExpire_once {i : Nat} (hn : (s.timer k).next = some i) (hi : i ≤ s.now)
    (hr : s.bit (F.TIM_TMR_CTRL_running k) = true) (hp : (s.reg (R.TIM_TMR_PERIOD k)).toNat = 0) :
    timerExpire k s = ((s.timerAction k).setBit (F.TIM_TMR_CTRL_running k) false).timerMoved k none i := by
  rw [timerExpire, hn]
  dsimp only
  rw [if_neg (by simp [hr, hi]), if_pos hp]
  rfl

/-- A periodic timer goes on at the first instant of its schedule that is later than now. -/
theorem tim_timerExpire_periodic {i p : Nat} (hn : (s.timer k).next = some i) (hi : i ≤ s.now)
    (hr : s.bit (F.TIM_TMR_CTRL_running k) = true) (hp : p = (s.reg (R.TIM_TMR_PERIOD k)).toNat) (hpos : 0 < p) :
    (timerExpire k s).tim = ((s.timerAction k).timerMoved k
      (some (i + (((s.timerAction k).now - i) / p + 1) * p)) i).tim := by
  rw [timerExpire, hn]
  dsimp only
  rw [if_neg (by simp [hr, hi]), ← hp, if_neg (by omega)]
  split
  · rfl
  · exact State.satFld_tim ..

theorem State.timerAction_none (h : s.fld (F.TIM_TMR_CTRL_action k) = 0) : s.timerAction k = s := by
  rw [State.timerAction, h]
  rfl

/-- One more pulse of the timer's fabric output. -/
def State.tmrPulsed (s : State) (k : Nat) : State :=
  { s with tim := { s.tim with tmrPulses := Table.modify zeroNat s.tim.tmrPulses k (· + 1) } }

theorem State.timerAction_pulse (h : s.fld (F.TIM_TMR_CTRL_action k) = 2) : s.timerAction k = s.tmrPulsed k := by
  rw [State.timerAction, h]
  rfl

theorem State.tmrPulses_tmrPulsed :
    Table.get zeroNat (s.tmrPulsed k).tim.tmrPulses k = Table.get zeroNat s.tim.tmrPulses k + 1 := by
  rw [State.tmrPulsed, Table.modify, Table.get_set_same]

theorem State.now_tmrPulsed : (s.tmrPulsed k).now = s.now := by rfl

/-- The first instant of the schedule from `i` by `p` that is later than `n`. -/
theorem next_instant {i p : Nat} (hi : i ≤ n) (hp : 0 < p) :
    n < i + ((n - i) / p + 1) * p ∧ i + ((n - i) / p + 1) * p ≤ n + p ∧ (i + ((n - i) / p + 1) * p - i) % p = 0 := by
  have hdiv : (n - i) / p * p + (n - i) % p = n - i := Nat.div_add_mod' ..
  have hmod : (n - i) % p < p := Nat.mod_lt _ hp
  refine ⟨?_, ?_, ?_⟩
  · rw [Nat.add_mul]; omega
  · rw [Nat.add_mul]; omega
  · rw [Nat.add_sub_cancel_left, Nat.mul_mod_left]

end Sys2Proof.Machine
end

section
open Sys2Proof Sys2Proof.Machine

/-- Settles O46: the switch by where it leaves service time, each edge and bell by its equation, and a timer by its
start and its expiries. -/
theorem serviceTimeAndTimersRun : Obligations.ServiceTimeAndTimersRun := by
  unfold Obligations.ServiceTimeAndTimersRun
  refine ⟨?switch, ?noSource, ?zero, ?zeroIdle, ?rises, ?disabled, ?falls, ?bypass, ?wrap, ?copy, ?start, ?notHolder,
    ?outside, ?stop, ?once, ?periodic, ?early⟩
  case switch =>
    intro s m sel fo au re k h
    refine ⟨_, exec_serviceSelectApply, ?_⟩
    beta_reduce
    rw [selectApply_switches h]
    have hreg : ∀ j, j ≠ R.TIM_SVC_REQ → ∀ v : State, ((v.setFld F.TIM_SVC_REQ_status 0).ack).reg j = v.reg j := by
      intro j hj v
      rw [State.ack_reg, State.reg_setFld_ne _ _ hj]
    obtain ⟨hauto, hrevert⟩ := State.auto_selectHeld (s := s) (sel := sel) (fo := fo) (au := au) (re := re) (slot := k)
    refine ⟨(State.serving_congr (hreg _ (by decide) _)).trans State.serving_switchService, ?_, ?_, ?_, ?_, ?_, ?_, rfl⟩
    · rw [State.svc_ack, State.svc_setFld _ (by decide), State.svc_switchService, State.svc_selectHeld]
    · rw [State.dom_ack, State.dom_setFld, State.dom_switchService, State.dom_selectHeld]
    · rw [State.dom_ack, State.dom_setFld, State.dom_switchService, State.dom_selectHeld]
    · rw [State.ack_fld, State.fld_setFld_same _ _ _ (by decide), Nat.zero_mod]
    · rw [State.bit_congr (hreg _ (by decide) _), State.bit, State.fld_switchService rfl (by decide) (by decide)]
      exact hauto
    · rw [State.bit_congr (hreg _ (by decide) _), State.bit, State.fld_switchService rfl (by decide) (by decide)]
      exact hrevert
  case noSource =>
    intro s m sel au re b k h
    rw [exec_serviceSelectApply, selectApply_noSource h]
  case zero =>
    intro s ho hq
    refine ⟨_, exec_offsetSlewDone, ?_⟩
    beta_reduce
    rw [offsetDone_last ho hq]
    exact ⟨rfl, State.slewing_setOffset_zero 0, rfl⟩
  case zeroIdle =>
    intro s ho
    rw [exec_offsetSlewDone, offsetDone_zero ho]
  case rises =>
    intro s h
    rw [exec_ppsOutEdge, ppsOut_rises h]
  case disabled =>
    intro s h
    rw [exec_ppsOutEdge, ppsOut_disabled h]
  case falls =>
    intro s
    rw [exec_ppsOutEdge, ppsOut_falls]
  case bypass =>
    intro s
    exact ⟨_, exec_midSecondBypass, midSecond_spec⟩
  case wrap =>
    intro s b h
    refine ⟨_, exec_wrapDoorbell, ?_⟩
    beta_reduce
    rw [wrapBell_alone h]
    refine ⟨?_, ?_, congrArg Tim.wrapPulses (State.tim_wrapped b), fun n hn => ?_, State.svc_wrapped, State.eng_wrapped⟩
    · rw [State.bit_wrapped (by decide), State.wrapShown, State.bit_setBit_same _ _ _ (by decide) rfl]
    · rw [State.fld_congr (f := F.TIM_WRAP_count) (State.reg_wrapped (by decide)), State.wrapShown, State.incFld,
        State.fld_setBit_disjoint _ _ _ _ (by decide) (by decide), State.fld_setFld_same _ _ _ (by decide)]
    · rw [State.reg_eq_of_ctrl State.ctrl_wrapped]
      exact State.raiseAll_sets hn (by decide)
  case copy =>
    intro s u
    refine ⟨_, exec_timeCopyLost, ?_, fun v hv => ?_, rfl⟩
    · rw [copyLost_copyLose, if_pos rfl]
    · rw [copyLost_copyLose, if_neg hv]
  case start =>
    intro s m k a mb be fr hh hc
    refine ⟨_, exec_tmrStart, ?_⟩
    beta_reduce
    rw [timerStart_starts hh hc, State.ack_bit, State.ack_fld,
      State.bit_congr (f := F.TIM_TMR_CTRL_running k.val) (State.reg_setFld_tmrStatus 0),
      State.fld_congr (f := F.TIM_TMR_CTRL_action k.val) (State.reg_setFld_tmrStatus 0), State.bit_setTimer,
      State.fld_setTimer, State.running_timerShown, State.action_timerShown a.isLt]
    refine ⟨rfl, ?_, rfl, rfl, ?_⟩
    · rw [State.timer_congr (State.ack_tim ..), State.timer_congr (State.setFld_tim ..), State.timer_setTimer_same]
    · rw [State.svc_ack, State.svc_setFld _ svcStatus_ne_tmrStatus, State.svc_setTimer, State.svc_timerShown]
  case notHolder =>
    intro s m k a mb be fr h
    obtain ⟨hstart, hstop⟩ := timer_notHolder (a := a.val) (mb := mb.toNat) (be := be.toNat) (fr := fr.toNat) h
    rw [exec_tmrStart, hstart, exec_tmrStop, hstop]
    exact ⟨rfl, rfl⟩
  case outside =>
    intro s m k a mb be fr h hc
    rw [exec_tmrStart, timerStart_outside h hc]
    rfl
  case stop =>
    intro s m k h
    refine ⟨_, exec_tmrStop, ?_⟩
    beta_reduce
    rw [timerStop_stops h, State.ack_bit,
      State.bit_congr (f := F.TIM_TMR_CTRL_running k.val) (State.reg_setFld_tmrStatus 0), State.haltTimer,
      State.bit_setTimer, State.bit_setBit_same _ _ _ (Nat.le_of_ble_eq_true rfl) rfl,
      State.timer_congr (State.ack_tim ..), State.timer_congr (State.setFld_tim ..), State.timer_setTimer_same]
    exact ⟨rfl, rfl, rfl⟩
  case once =>
    intro s k i hn hi hr hp ha
    refine ⟨_, exec_tmrExpiry, ?_⟩
    beta_reduce
    rw [timerExpire_once hn hi hr hp, State.timerAction_none ha, State.timerMoved, State.bit_setTimer,
      State.bit_setBit_same _ _ _ (Nat.le_of_ble_eq_true rfl) rfl, State.timer_setTimer_same]
    exact ⟨rfl, rfl, rfl⟩
  case periodic =>
    intro s k i p hn hi hr hp hpos ha
    obtain ⟨hlate, hsoon, hmult⟩ := next_instant hi hpos
    have htim := tim_timerExpire_periodic hn hi hr hp hpos
    rw [State.timerAction_pulse ha, State.now_tmrPulsed] at htim
    refine ⟨_, exec_tmrExpiry, i + ((s.now - i) / p + 1) * p, ?_⟩
    rw [State.timer_congr htim, htim, State.timerMoved, State.timer_setTimer_same]
    exact ⟨rfl, hlate, hsoon, hmult, rfl, State.tmrPulses_tmrPulsed⟩
  case early =>
    intro s k i hn hi
    rw [exec_tmrExpiry, timerExpire_early hn hi]

end

section
/-! PROOFS. Transactions at the TXU (R294 to R313): open and commit, votes and the decision, abort and the deadline,
the answers and the outcome, and the deadlines that a hold freezes (R308). -/

namespace Sys2Proof.Machine

variable {s u : State} {m part : Master} {id k : Nat} {i : BitVec 8} {cmd : Bool} {l : Launch} {w : Word}

theorem exec_txOpen {d : BitVec 16} : exec (.txOpen m d cmd) s = .next (txOpenGo m d.toNat cmd s) := by rfl
theorem exec_txCommit : exec (.txCommit m i l cmd) s = .next (txCommitGo m i.toNat l cmd s) := by rfl
theorem exec_txAbort : exec (.txAbort m i cmd) s = .next (txAbortGo m i.toNat cmd s) := by rfl
theorem exec_txQuery : exec (.txQuery m i cmd) s = .next (txQueryGo m i.toNat cmd s) := by rfl
theorem exec_txRelease : exec (.txRelease m i cmd) s = .next (txReleaseGo m i.toNat cmd s) := by rfl
theorem exec_txVote : exec (.txVote part i) s = .next (txVoteGo part i.toNat s) := by rfl
theorem exec_txWithdraw : exec (.txWithdraw part i) s = .next (txWithdrawGo part i.toNat s) := by rfl
theorem exec_prepareDeadlineExpiry : exec (.prepareDeadlineExpiry i) s = .next (txDeadline i.toNat s) := by rfl
theorem exec_txDone : exec (.txDone part i) s = .next (txDoneGo part i.toNat s) := by rfl
theorem exec_txResend : exec (.txResend i) s = .next (txResendGo i.toNat s) := by rfl
theorem exec_txDoneTimeout : exec (.txDoneTimeout i) s = .next (txDoneTime i.toNat s) := by rfl
theorem exec_txEndedTimeout : exec (.txEndedTimeout i) s = .next (txFree i.toNat s) := by rfl

/-! ## What leaves the TXU's table alone -/

theorem State.tx_congr (h : u.txu = s.txu) : u.tx k = s.tx k := by
  rw [State.tx, State.tx, h]

@[simp] theorem State.tx_setTx_ne (x : Tx) (h : k ≠ id) : (s.setTx id x).tx k = s.tx k := by
  simp [State.tx, State.setTx, h]

theorem State.txu_emit (src dst kind prio tag txid : Nat) (q : Bool) (b : List Byte) (a : Nat) (bare : Bool) :
    (s.emit src dst kind prio tag txid q b a bare).txu = s.txu := by
  unfold State.emit
  dsimp only
  split
  · rfl
  · exact State.satFld_txu ..

theorem State.txu_mbxNotify : (s.mbxNotify k).txu = s.txu := by
  unfold State.mbxNotify
  split
  · rfl
  · dsimp only
    split
    · rfl
    · exact State.raiseEvent_txu ..
    · exact State.txu_emit ..
    · exact State.sendMsix_txu ..

theorem State.txu_ringBell (n : Nat) : (s.ringBell k n).txu = s.txu := by
  unfold State.ringBell State.ringMask
  split
  · rfl
  · dsimp only
    split
    · rw [State.txu_mbxNotify, State.setReg_txu]
    · rfl

/-- The opener learns the outcome by its own copy, a flag or a doorbell: the table stays. -/
theorem State.tx_txNotify (x : Tx) : (s.txNotify id x).tx k = s.tx k := by
  rw [State.txNotify]
  split
  · dsimp only
    rw [State.tx_congr (State.raiseEvent_txu ..)]
    rfl
  · split
    · exact State.tx_congr (State.txu_ringBell _)
    · rfl

theorem State.txu_txResult (st : Nat) : (s.txResult m cmd st id).txu = s.txu := by
  rw [State.txResult]
  split
  · rw [State.ack_txu, State.setSrcFld_txu, State.setSrcFld_txu]
  · exact State.reply_txu ..

theorem State.tx_txResult (st : Nat) : (s.txResult m cmd st id).tx k = s.tx k :=
  State.tx_congr (State.txu_txResult st)

theorem State.txu_partialRecords (ps : List Part) : (s.partialRecords id ps).txu = s.txu := by
  induction ps generalizing s with
  | nil => rfl
  | cons p ps ih =>
    rw [State.partialRecords, ih]
    split
    · rfl
    · exact State.fault_txu ..

/-! ## The end of a transaction (R312) -/

/-- The counter of partial applies leaves the table and the clock alone. -/
theorem State.txEnd_eq : ∃ v : State, v.txu = s.txu ∧ s.txEnd id =
    let t := { s.tx id with state := .ended, aborting := false, dueAt := s.tim.uptime + 2000000000 }
    if t.sub.isEmpty then (v.setTx id t).txNotify id t else ((v.setTx id t).txNotify id t).setTx id {} := by
  refine ⟨if (s.tx id).outcome = BitVec.ofNat 16 Code.partialApply then
    s.satFld F.TXU_PARTIAL_partial F.TXU_PARTIAL_overflow else s, ?_, rfl⟩
  split
  · exact State.satFld_txu ..
  · rfl

/-- A transaction that carries no substitution stays ENDED until it is released. -/
theorem State.tx_txEnd_same (h : (s.tx id).sub = []) : (s.txEnd id).tx id =
    { s.tx id with state := .ended, aborting := false, dueAt := s.tim.uptime + 2000000000 } := by
  obtain ⟨v, -, hv⟩ := State.txEnd_eq (s := s) (id := id)
  rw [hv]
  dsimp only
  rw [if_pos (by simp [h]), State.tx_txNotify, State.tx_setTx_same]

theorem State.tx_txEnd_ne (h : k ≠ id) : (s.txEnd id).tx k = s.tx k := by
  obtain ⟨v, htxu, hv⟩ := State.txEnd_eq (s := s) (id := id)
  rw [hv]
  dsimp only
  split
  · rw [State.tx_txNotify, State.tx_setTx_ne _ h, State.tx_congr htxu]
  · rw [State.tx_setTx_ne _ h, State.tx_txNotify, State.tx_setTx_ne _ h, State.tx_congr htxu]

/-! ## ABORT to every participant (R301, R306) -/

theorem sendAll_unanswered (x : TxMsg) (ps : List Part) : sendAll x (ps.map fun p => { p with answered := false }) =
    ps.map fun p => { p with answered := false, msg := some x } := by
  rw [sendAll, List.map_map]
  rfl

/-- A transaction with participants awaits their answers to ABORT. -/
theorem State.tx_txAbortWith {o d : Nat} {j : Option Master} (h : (s.tx id).parts ≠ []) :
    (s.txAbortWith id o d j).tx id = { s.tx id with
      outcome := BitVec.ofNat 16 o, detail := BitVec.ofNat 16 d, subject := j
      aborting := true, frozen := false, dueAt := s.tim.uptime + 100000
      parts := (s.tx id).parts.map fun p => { p with answered := false, msg := some .abort } } := by
  rw [State.txAbortWith, sendAll_unanswered]
  dsimp only
  rw [if_neg (by simpa using h), State.tx_congr (State.satFld_txu ..), State.tx_setTx_same]

/-! ## OPEN (R294) -/

theorem State.mem_freeIds : k ∈ s.freeIds ↔ 0 < k ∧ k < 256 ∧ (s.tx k).state = .free := by
  simp [State.freeIds, Nat.pos_iff_ne_zero]
  tauto

theorem State.txOpenId_full (h : s.freeIds = []) : s.txOpenId = (0, s) := by
  rw [State.txOpenId, h]

/-- Where an ID is free, one of the free ones is issued. -/
theorem State.txOpenId_issues (h : s.freeIds ≠ []) : s.txOpenId.1 ∈ s.freeIds ∧ s.txOpenId.2.txu = s.txu := by
  have hlt : s.free.1 % s.freeIds.length < s.freeIds.length := Nat.mod_lt _ (List.length_pos_of_ne_nil h)
  have hid : s.txOpenId = (s.freeIds.getD (s.free.1 % s.freeIds.length) 1, s.free.2) := by
    rw [State.txOpenId]
    split
    case h_1 hnil => exact absurd hnil h
    case h_2 => rfl
  rw [hid, List.getD_eq_getElem _ _ hlt]
  exact ⟨List.getElem_mem _, rfl⟩

/-- The transaction that an OPEN of `m` puts into the table. -/
def State.newTx (s : State) (m : Master) (deadline : Nat) : Tx where
  state := .staging
  opener := m
  deadlineUs := if deadline = 0 then s.fld F.TXU_CFG_deadline_us else deadline
  dueAt := s.tim.uptime + 1000 * (if deadline = 0 then s.fld F.TXU_CFG_deadline_us else deadline)
  notify := if F.TXU_NOTIFY_mbx_en.get (s.srcReg m R.TXU_NOTIFY) = 1 then
    some (BitVec.ofNat 8 (s.srcFld m F.TXU_NOTIFY_mailbox), BitVec.ofNat 5 (s.srcFld m F.TXU_NOTIFY_bell)) else none

theorem txOpenGo_full {deadline : Nat} (h : s.freeIds = []) :
    txOpenGo m deadline cmd s = s.txResult m cmd Code.txTableFull 0 := by
  rw [txOpenGo, State.txOpenFor, State.txOpenId_full h]
  rfl

theorem txOpenGo_issues {deadline : Nat} (h : s.freeIds ≠ []) : txOpenGo m deadline cmd s =
    (s.txOpenId.2.setTx s.txOpenId.1 (s.newTx m deadline)).txResult m cmd 0 s.txOpenId.1 := by
  have hpos : s.txOpenId.1 ≠ 0 := (State.mem_freeIds.1 (State.txOpenId_issues h).1).1.ne'
  rw [txOpenGo, State.txOpenFor]
  dsimp only
  rw [if_neg hpos]
  rfl

/-! ## COMMIT (R300) -/

theorem State.commitCheck_unknown (h : s.opened m id = false) : s.commitCheck m id l = Code.txUnknown := by
  simp [State.commitCheck, h]

theorem State.commitCheck_closed (h : s.opened m id = true) (ht : (s.tx id).takes = false) :
    s.commitCheck m id l = Code.txClosed := by
  simp [State.commitCheck, h, ht]

theorem State.commitCheck_outside (h : s.opened m id = true) (ht : (s.tx id).takes = true)
    (hw : s.classOf w = .outside) : s.commitCheck m id (.at w) = Code.timeOutOfWindow := by
  simp [State.commitCheck, h, ht, hw]

theorem State.commitCheck_tooSoon (h : s.opened m id = true) (ht : (s.tx id).takes = true)
    (ho : s.classOf w ≠ .outside) (hw : s.classOf w = .reached ∨ (w - s.now32).toNat < 5000) :
    s.commitCheck m id (.at w) = Code.launchTooSoon := by
  cases hc : s.classOf w with
  | outside => exact absurd hc ho
  | reached => simp [State.commitCheck, h, ht, hc]
  | ahead =>
    have hlt : (w - s.now32).toNat < 5000 := hw.resolve_left (by simp [hc])
    simp only [State.commitCheck, h, ht, hc, if_pos hlt]
    rfl

/-- The launches that a commit is accepted with: the next boundary, or an instant 5 µs or more ahead. -/
theorem State.commitCheck_accepts (h : s.opened m id = true) (ht : (s.tx id).takes = true)
    (hl : l = .asap ∨ ∃ w, l = .at w ∧ s.classOf w = .ahead ∧ 5000 ≤ (w - s.now32).toNat) :
    s.commitCheck m id l = 0 := by
  obtain rfl | ⟨w, rfl, hc, hw⟩ := hl
  · simp [State.commitCheck, h, ht]
  · simp only [State.commitCheck, h, ht, hc, if_neg hw.not_gt]
    rfl

theorem txCommitGo_refused {st : Nat} (h : s.commitCheck m id l = st) (h0 : st ≠ 0) :
    txCommitGo m id l cmd s = s.txResult m cmd st id := by
  rw [txCommitGo, State.txCommitFor]
  dsimp only
  rw [h, if_pos h0]

theorem txCommitGo_prepares (h : s.commitCheck m id l = 0) (hp : (s.tx id).parts ≠ []) : txCommitGo m id l cmd s =
    (s.setTx id { s.tx id with state := .preparing, launch := l, parts := sendAll .prepare (s.tx id).parts }).txResult
      m cmd 0 id := by
  rw [txCommitGo, State.txCommitFor]
  dsimp only
  rw [h, if_neg (by decide), if_neg (by simpa using hp)]

theorem txCommitGo_ends (h : s.commitCheck m id l = 0) (hp : (s.tx id).parts = []) : txCommitGo m id l cmd s =
    ((s.setTx id { s.tx id with launch := l, outcome := 0 }).txEnd id).txResult m cmd 0 id := by
  rw [txCommitGo, State.txCommitFor]
  dsimp only
  rw [h, if_neg (by decide), if_pos (by simp [hp])]

/-! ## ABORT, QUERY and RELEASE (R301, R312, R313) -/

theorem txAbortGo_unknown (h : s.opened m id = false) :
    txAbortGo m id cmd s = s.txResult m cmd Code.txUnknown id := by
  simp [txAbortGo, State.txAbortFor, h]

theorem txAbortGo_closed (h : s.opened m id = true) (hu : (s.tx id).undecided = false) :
    txAbortGo m id cmd s = s.txResult m cmd Code.txClosed id := by
  simp [txAbortGo, State.txAbortFor, h, hu]

theorem txAbortGo_aborts (h : s.opened m id = true) (hu : (s.tx id).undecided = true) :
    txAbortGo m id cmd s = (s.txAbortWith id Code.aborted).txResult m cmd 0 id := by
  simp [txAbortGo, State.txAbortFor, h, hu]

theorem State.txOutcome_eq :
    s.txOutcome id = if (s.tx id).state = .free then Code.txUnknown else (s.tx id).outcome.toNat := by
  simp [State.txOutcome]

theorem txReleaseGo_unknown (h : s.opened m id = false) :
    txReleaseGo m id cmd s = s.txResult m cmd Code.txUnknown id := by
  simp [txReleaseGo, State.txReleaseFor, h]

theorem txReleaseGo_opened (h : s.opened m id = true) : txReleaseGo m id cmd s =
    if (s.tx id).state = .ended then (s.setTx id {}).txResult m cmd 0 id
    else s.txResult m cmd Code.notPermitted id := by
  by_cases he : (s.tx id).state = .ended <;> simp [txReleaseGo, State.txReleaseFor, h, he]

/-! ## The decision (R302, R303) -/

theorem State.tx_txDecide_same : (s.txDecide id w).tx id = { s.tx id with
    state := .committed, frozen := false, tick := w
    dueAt := s.tim.uptime + (s.extend w - s.now) + 100000
    parts := sendAll .commit ((s.tx id).parts.map fun p => { p with answered := false }) } := by
  rw [State.txDecide, State.tx_congr (State.satFld_txu ..), State.tx_setTx_same]

theorem State.tx_txDecide_ne (h : k ≠ id) : (s.txDecide id w).tx k = s.tx k := by
  rw [State.txDecide, State.tx_congr (State.satFld_txu ..), State.tx_setTx_ne _ h]

theorem State.txDecision_at (hl : (s.tx id).launch = .at w) (hc : s.classOf w = .ahead)
    (hw : 5000 ≤ (w - s.now32).toNat) : s.txDecision id = s.txDecide id w := by
  simp only [State.txDecision, hl]
  exact if_pos ⟨hc, hw⟩

theorem State.txDecision_asap (hl : (s.tx id).launch = .asap) : s.txDecision id =
    ({ s with txu := { s.txu with word := s.asapWord.1, wordUsed := s.asapWord.2 } } : State).txDecide id
      (BitVec.ofNat 32 s.asapWord.1) := by
  simp only [State.txDecision, hl]

/-- The boundary of an ASAP commit is more than 32 ticks ahead, a whole microsecond or a word after the latest one. -/
theorem State.asapWord_bounds : (s.asapWord.1 % 1000 = s.txu.word % 1000 ∨ s.asapWord.1 % 1000 = 0) ∧
    s.now + 32 < s.asapWord.1 := by
  rw [State.asapWord]
  split_ifs with hnew hroom
  · exact ⟨.inr (by omega), by omega⟩
  · exact ⟨.inl rfl, by omega⟩
  · exact ⟨.inl (by omega), by omega⟩

/-! ## Votes, WITHDRAW and the prepare deadline (R301, R307, R308) -/

/-- A vote of a participant that has not voted counts while the transaction prepares. -/
theorem txVoteGo_counts {p : Part} {v : Vote} (hp : findPart part (s.tx id).parts = some p) (hn : p.voted = false)
    (hv : (s.store id part).vote = some v) (hs : (s.tx id).state = .preparing) (ha : (s.tx id).aborting = false) :
    txVoteGo part id s = match (generalizing := false) v with
      | .refuse d => s.txAbortWith id Code.voteRefused d.toNat (some part)
      | .prepared =>
        let parts := updPart part (fun p => { p with voted := true }) (s.tx id).parts
        let u := s.setTx id { s.tx id with parts := parts }
        if parts.all (·.voted) then u.txDecision id else u := by
  have hopen : ¬((s.tx id).state != .preparing || (s.tx id).aborting || p.voted) = true := by simp [hs, ha, hn]
  cases v <;> simp only [txVoteGo, hp, hv, if_neg hopen]

theorem txWithdrawGo_aborts (hw : (s.store id part).withdrawn = true) (hu : (s.tx id).undecided = true) :
    txWithdrawGo part id s = s.txAbortWith id Code.voteWithdrawn 0 (some part) :=
  if_pos (by simp [hw, hu])

theorem State.passed_due (t : Nat) : s.passed t 0 = decide (t ≤ s.tim.uptime) := by rfl

theorem txDeadline_expired (hu : (s.tx id).undecided = true) (hf : (s.tx id).frozen = false)
    (hd : (s.tx id).dueAt ≤ s.tim.uptime) : txDeadline id s =
      s.txAbortWith id (if s.openerHalted (s.tx id) then Code.abortHalted else Code.prepareTimeout) :=
  if_neg (by simp [hu, hf, State.passed_due, hd])

theorem txDeadline_early (h : s.tim.uptime < (s.tx id).dueAt) : txDeadline id s = s :=
  if_pos (by simp [State.passed_due, h.not_ge])

/-! ## Answers, the wait for them and the outcome (R305, R306, R312) -/

theorem State.txConclude_applied (ha : (s.tx id).aborting = false) (hp : (s.tx id).parts.all (·.applied) = true) :
    s.txConclude id = s.txEnd id :=
  if_pos (by rw [ha, hp]; rfl)

/-- Where a participant did not apply, the outcome is PARTIAL and names the first such. -/
theorem State.tx_txConclude_partial (ha : (s.tx id).aborting = false) (hp : (s.tx id).parts.all (·.applied) = false)
    (hsub : (s.tx id).sub = []) : ((s.txConclude id).tx id).state = .ended ∧
      ((s.txConclude id).tx id).outcome = BitVec.ofNat 16 Code.partialApply ∧
      ((s.txConclude id).tx id).subject = firstNotApplied (s.tx id).parts := by
  have hsome : ¬((s.tx id).aborting || (s.tx id).parts.all (·.applied)) = true := by
    rw [ha, hp]
    decide
  rw [State.txConclude]
  dsimp only
  rw [if_neg hsome, State.tx_txEnd_same (by rw [State.tx_setTx_same]; exact hsub), State.tx_setTx_same]
  exact ⟨rfl, rfl, rfl⟩

/-- An answer counts once, while the decision is being carried out. -/
theorem txDoneGo_counts {p : Part} {a : TxAnswer} (hp : findPart part (s.tx id).parts = some p)
    (hn : p.answered = false) (ha : (s.store id part).answer = some a)
    (hd : (s.tx id).aborting = true ∨ (s.tx id).state = .committed) : txDoneGo part id s =
      let parts := updPart part (fun p => { p with answered := true, applied := a == .applied, msg := none })
        (s.tx id).parts
      let u := (s.setTx id { s.tx id with parts := parts }).setStore id part {}
      if parts.all (·.answered) then u.txConclude id else u := by
  have hopen : ¬(p.answered || !((s.tx id).aborting || (s.tx id).state == .committed)) = true := by
    rcases hd with hd | hd <;> simp [hn, hd]
  simp only [txDoneGo, hp, ha, if_neg hopen]

theorem txResendGo_aborting (h : (s.tx id).aborting = true) :
    txResendGo id s = s.setTx id { s.tx id with parts := sendAll .abort (s.tx id).parts } := if_pos h

theorem txResendGo_committed (ha : (s.tx id).aborting = false) (hc : (s.tx id).state = .committed) :
    txResendGo id s = s.setTx id { s.tx id with parts := sendAll .commit (s.tx id).parts } := by
  simp only [txResendGo, ha, hc]
  rfl

theorem txDoneTime_committed (ha : (s.tx id).aborting = false) (hc : (s.tx id).state = .committed)
    (hd : (s.tx id).dueAt ≤ s.tim.uptime) :
    txDoneTime id s = (s.lostRecords id (s.tx id).parts).txConclude id := by
  simp [txDoneTime, ha, hc, State.passed_due, hd]

theorem txDoneTime_early (h : s.tim.uptime < (s.tx id).dueAt) : txDoneTime id s = s :=
  if_neg (by simp [State.passed_due, h])

theorem txFree_expired (he : (s.tx id).state = .ended) (hd : (s.tx id).dueAt ≤ s.tim.uptime) :
    txFree id s = s.setTx id {} := if_pos ⟨he, decide_eq_true hd⟩

theorem txFree_early (h : s.tim.uptime < (s.tx id).dueAt) : txFree id s = s :=
  if_neg (by simp [State.passed_due, h])

/-! ## Deadlines that are held (R308) -/

theorem Tx.holdAt_freezes {t : Tx} (n : Nat) (h : t.frozen = false) :
    t.holdAt n true = { t with frozen := true, left := t.dueAt - n } := by
  simp [Tx.holdAt, h]

theorem Tx.holdAt_restarts {t : Tx} (n : Nat) (h : t.frozen = true) :
    t.holdAt n false = { t with frozen := false, dueAt := n + max t.left 5000 } := by
  simp [Tx.holdAt, h]

end Sys2Proof.Machine
end

section
open Sys2Proof Sys2Proof.Machine

/-- Settles O47: each operation, message and expiry by what it leaves in the TXU's table. -/
theorem transactionsOpenCommitAndEnd : Obligations.TransactionsOpenCommitAndEnd := by
  unfold Obligations.TransactionsOpenCommitAndEnd
  refine ⟨?full, ?opens, ?unknown, ?closed, ?outside, ?tooSoon, ?prepares, ?alone, ?aborts, ?decided, ?query,
    ?release, ?refuse, ?prepared, ?asap, ?atInstant, ?abortSent, ?withdraw, ?deadline, ?done, ?applied, ?partly, ?resendAbort,
    ?committed, ?freed, ?early, ?hold⟩
  case full =>
    intro s m d cmd h
    have hnone : s.freeIds = [] := List.eq_nil_iff_forall_not_mem.2 fun i hi => by
      obtain ⟨hpos, hlt, hfree⟩ := State.mem_freeIds.1 hi
      exact h i hpos hlt hfree
    rw [exec_txOpen, txOpenGo_full hnone]
    rfl
  case opens =>
    intro s m d cmd i hpos hlt hfree
    have hsome : s.freeIds ≠ [] := List.ne_nil_of_mem (State.mem_freeIds.2 ⟨hpos, hlt, hfree⟩)
    obtain ⟨hmem, htxu⟩ := State.txOpenId_issues hsome
    obtain ⟨hid, hid256, hidfree⟩ := State.mem_freeIds.1 hmem
    have hd : d.toNat = 0 ↔ d = 0 := by simp [← BitVec.toNat_inj]
    refine ⟨_, exec_txOpen, s.txOpenId.1, hid, hid256, hidfree, ?_⟩
    rw [txOpenGo_issues hsome, State.tx_txResult, State.tx_setTx_same]
    refine ⟨rfl, rfl, if_congr hd rfl rfl, rfl, rfl, rfl, fun k hk => ?_, ?_⟩
    · rw [State.tx_txResult, State.tx_setTx_ne _ hk, State.tx_congr htxu]
    · rintro rfl
      rfl
  case unknown =>
    intro s m id l cmd h
    rw [exec_txCommit, exec_txAbort, exec_txRelease, txCommitGo_refused (State.commitCheck_unknown h) (by decide),
      txAbortGo_unknown h, txReleaseGo_unknown h]
    exact ⟨rfl, rfl, rfl⟩
  case closed =>
    intro s m id l cmd h ht
    rw [exec_txCommit, txCommitGo_refused (State.commitCheck_closed h ht) (by decide)]
    rfl
  case outside =>
    intro s m id l cmd h ht hl
    rw [exec_txCommit, txCommitGo_refused (State.commitCheck_outside h ht hl) (by decide)]
    rfl
  case tooSoon =>
    intro s m id l cmd h ht ho hl
    rw [exec_txCommit, txCommitGo_refused (State.commitCheck_tooSoon h ht ho hl) (by decide)]
    rfl
  case prepares =>
    intro s m id l cmd p ps h ht hp hl
    rw [exec_txCommit, txCommitGo_prepares (State.commitCheck_accepts h ht hl) (by simp [hp]), hp]
  case alone =>
    intro s m id cmd h ht hp hsub
    refine ⟨_, exec_txCommit, ?_⟩
    beta_reduce
    rw [txCommitGo_ends (State.commitCheck_accepts h ht (.inl rfl)) hp, State.tx_txResult,
      State.tx_txEnd_same (by rw [State.tx_setTx_same]; exact hsub), State.tx_setTx_same]
    refine ⟨rfl, rfl, fun k hk => ?_⟩
    rw [State.tx_txResult, State.tx_txEnd_ne hk, State.tx_setTx_ne _ hk]
  case aborts =>
    intro s m id cmd h hu
    rw [exec_txAbort, txAbortGo_aborts h hu]
    rfl
  case decided =>
    intro s m id cmd h hu
    rw [exec_txAbort, txAbortGo_closed h hu]
    rfl
  case query =>
    intro s m id
    rw [exec_txQuery, exec_txQuery, txQueryGo, txQueryGo, State.txOutcome_eq]
    exact ⟨rfl, rfl⟩
  case release =>
    intro s m id cmd h
    rw [exec_txRelease, txReleaseGo_opened h]
    rfl
  case refuse =>
    intro s part id p d hp hn hv hs ha
    rw [exec_txVote, txVoteGo_counts hp hn hv hs ha]
    rfl
  case prepared =>
    rintro s part id p v hp hn hv hs ha rfl
    rw [exec_txVote, txVoteGo_counts hp hn hv hs ha]
  case asap =>
    intro s id hl
    obtain ⟨hmod, hlate⟩ := State.asapWord_bounds (s := s)
    refine ⟨s.asapWord.1, hmod, ?_⟩
    rw [State.txDecision_asap hl, State.tx_txDecide_same]
    exact ⟨rfl, rfl, hlate⟩
  case atInstant =>
    intro s id l hl hc hw
    rw [State.txDecision_at hl hc hw, State.tx_txDecide_same]
    exact ⟨rfl, rfl, fun k hk => State.tx_txDecide_ne hk⟩
  case abortSent =>
    intro s id o d j hp
    rw [State.tx_txAbortWith hp]
    exact ⟨rfl, rfl, rfl, rfl⟩
  case withdraw =>
    intro s part id hw hu
    rw [exec_txWithdraw, txWithdrawGo_aborts hw hu]
    rfl
  case deadline =>
    intro s id hu hf hd
    rw [exec_prepareDeadlineExpiry, txDeadline_expired hu hf hd]
    rfl
  case done =>
    rintro s part id p a v hp hn ha hd rfl
    rw [exec_txDone, txDoneGo_counts hp hn ha hd]
  case applied =>
    intro s id ha hp
    exact State.txConclude_applied ha hp
  case partly =>
    intro s id ha hp hsub
    exact State.tx_txConclude_partial ha hp hsub
  case resendAbort =>
    intro s id h
    rw [exec_txResend, txResendGo_aborting h]
  case committed =>
    intro s id ha hc
    rw [exec_txResend, txResendGo_committed ha hc, exec_txDoneTimeout]
    exact ⟨rfl, fun hd => by rw [txDoneTime_committed ha hc hd]⟩
  case freed =>
    intro s id he hd
    rw [exec_txEndedTimeout, txFree_expired he hd]
  case early =>
    intro s id h
    rw [exec_prepareDeadlineExpiry, exec_txDoneTimeout, exec_txEndedTimeout, txDeadline_early h, txDoneTime_early h,
      txFree_early h]
    exact ⟨rfl, rfl, rfl⟩
  case hold =>
    rintro t n h rfl
    cases hf : t.frozen with
    | false =>
      rw [Bool.not_false, Tx.holdAt_freezes n hf]
      simp
    | true =>
      rw [Bool.not_true, Tx.holdAt_restarts n hf]
      simp

end

section
/-! PROOFS. Converter links (R315, R316, R319, R320, R323 to R325, R331, R334): the settings of a group, its PLL, SYSREF
and the LMFC, and the bring-up of a link to DATA. -/

namespace Sys2Proof.Machine

variable {s u : State} {m : Master} {g k n : Nat}

theorem exec_cvlLinkApply {g k : Fin 8} : exec (.cvlLinkApply m g k) s = .next (linkApply g.val k.val s) := by rfl
theorem exec_cvlLinkResync {g k : Fin 8} : exec (.cvlLinkResync m g k) s = .next (linkResync g.val k.val s) := by rfl
theorem exec_cvlPllEnable {g : Fin 8} {w : Word} : exec (.cvlPllEnable m g w) s = .next (groupPll g.val w s) := by rfl
theorem exec_cvlCueArm {g : Fin 8} {w : Word} : exec (.cvlCueArm m g w) s = .next (cueArmGroup m g.val w s) := by rfl
theorem exec_cvlCueDisarm {g : Fin 8} {w : Word} : exec (.cvlCueDisarm m g w) s =
    .next (cueDisarmGroup m g.val w s) := by rfl
theorem exec_sysrefInstant {g : Fin 8} {b : Bool} : exec (.sysrefInstant g b) s = .next (sysrefAct g.val b s) := by rfl
theorem exec_lmfcRestart {g : Fin 8} : exec (.lmfcRestart g) s = .next (lmfcGo g.val s) := by rfl
theorem exec_devclkStamp {g : Fin 8} : exec (.devclkStamp g) s = .next (devclkEdge g.val s) := by rfl
theorem exec_periodicSysrefPulse {g : Fin 8} : exec (.periodicSysrefPulse g) s = .next (periodicPulse g.val s) := by rfl
theorem exec_laneCgsSync {n : Fin 64} : exec (.laneCgsSync n) s = .next (laneCgs n.val s) := by rfl
theorem exec_syncRelease {g : Fin 8} {k : Fin 4} : exec (.syncRelease g k) s = .next (syncOutGo g.val k.val s) := by rfl
theorem exec_ilasMultiframe {g : Fin 8} {k : Fin 4} {a p : Bool} : exec (.ilasMultiframe g k a p) s =
    .next (ilasNext g.val k.val a p s) := by rfl
theorem exec_rawAligned {g : Fin 8} {k : Fin 4} : exec (.rawAligned g k) s = .next (rawAlign g.val k.val s) := by rfl
theorem exec_syncInputChange {g : Fin 8} {k : Fin 4} {x : SyncIn} : exec (.syncInputChange g k x) s =
    .next (syncInGo g.val (4 + k.val) x s) := by rfl
theorem exec_lmfcEdge {g : Fin 8} {tr : BitVec 4} {b : BitVec 40} : exec (.lmfcEdge g tr b) s =
    .next (lmfcTick g.val tr b.toNat s) := by rfl

/-! ## Links and groups: reads after writes -/

@[simp] theorem State.cvLink_setCvLink_same (x : CvLink) : (s.setCvLink g k x).cvLink g k = x := by
  simp [State.cvLink, State.setCvLink]

@[simp] theorem State.cvGroup_setCvGroup_same (x : CvGroup) : (s.setCvGroup g x).cvGroup g = x := by
  simp [State.cvGroup, State.setCvGroup]

theorem State.cvLink_congr (h : u.cvl = s.cvl) : u.cvLink g k = s.cvLink g k := by rw [State.cvLink, State.cvLink, h]

theorem State.cvGroup_congr (h : u.cvl = s.cvl) : u.cvGroup g = s.cvGroup g := by rw [State.cvGroup, State.cvGroup, h]

theorem State.ctrl_setCvLink (x : CvLink) : (s.setCvLink g k x).ctrl = s.ctrl := by rfl

@[simp] theorem State.reg_setCvLink (x : CvLink) (j : Nat) : (s.setCvLink g k x).reg j = s.reg j :=
  State.reg_eq_of_ctrl (State.ctrl_setCvLink x) j

@[simp] theorem State.lkState_setCvLink {i j : Nat} (x : CvLink) : (s.setCvLink g k x).lkState i j = s.lkState i j :=
  State.fld_congr (State.reg_setCvLink ..)

@[simp] theorem State.liveCfg_setCvLink {i j : Nat} (x : CvLink) : (s.setCvLink g k x).liveCfg i j = s.liveCfg i j := by
  rfl

@[simp] theorem State.cvl_setLk (v : Nat) : (s.setLk g k v).cvl = s.cvl := State.setFld_cvl ..

theorem State.lkState_setLk (v : Nat) (h : v < 16) : (s.setLk g k v).lkState g k = v := by
  rw [State.lkState, State.setLk, State.fld_setFld_same _ _ _ (Nat.le_of_ble_eq_true rfl)]
  exact Nat.mod_eq_of_lt h

/-! ## The registers of a link and of a lane are apart -/

theorem lkStatus_ne_laneStatus : R.CVL_LK_STATUS g k ≠ R.CVL_LANE_STATUS n := by
  simp only [R.CVL_LK_STATUS, R.CVL_LANE_STATUS]
  omega

/-- A register of a link's settings is no lane's status. -/
theorem lkCfg_ne_laneStatus (h : k < 8) : R.CVL_LK_CFG0 g k ≠ R.CVL_LANE_STATUS n ∧
    R.CVL_LK_CFG1 g k ≠ R.CVL_LANE_STATUS n ∧ R.CVL_LK_DEST g k ≠ R.CVL_LANE_STATUS n ∧
    R.CVL_LK_CTRL g k ≠ R.CVL_LANE_STATUS n := by
  simp only [R.CVL_LK_CFG0, R.CVL_LK_CFG1, R.CVL_LK_DEST, R.CVL_LK_CTRL, R.CVL_LANE_STATUS]
  omega

theorem State.reg_alignLanes {j : Nat} {b : Bool} {l : List Nat} (h : ∀ i, j ≠ R.CVL_LANE_STATUS i) :
    (s.alignLanes g b l).reg j = s.reg j := by
  induction l generalizing s with
  | nil => rfl
  | cons i l ih => rw [State.alignLanes, ih, State.reg_setBit_ne _ _ (h _)]

/-! ## Settings (R315, R316, R318, R321, R326, R334) -/

theorem LinkCfg.ok_bounds {c : LinkCfg} {ratio : Nat} (h : c.ok ratio = true) : 1 ≤ c.b ∧ c.b ≤ 32 ∧ c.b ∣ c.k ∧
    11 ≤ c.n ∧ c.n + c.cs ≤ 16 ∧ 17 ≤ c.f * c.k ∧ c.f * c.k ≤ 1024 ∧ c.f * 8 * c.l = c.m * c.s * 16 ∧
    c.first + c.l ≤ 8 ∧ c.l ∣ c.first ∧ c.headBytes + c.frameBytes * c.b ≤ 512 ∧ c.rbd < c.k ∧ c.prio ≤ 5 := by
  simp only [LinkCfg.ok, Bool.and_eq_true, decide_eq_true_eq, beq_iff_eq, and_assoc] at h
  obtain ⟨-, -, -, hfirst, hlanes, hn, -, hncs, hlow, hhigh, hframe, hb, hb', hkb, hbytes, hrbd, -, -, hprio, -⟩ := h
  exact ⟨hb, hb', Nat.dvd_of_mod_eq_zero hkb, hn, hncs, hlow, hhigh, hframe, hlanes, Nat.dvd_of_mod_eq_zero hfirst,
    hbytes, hrbd, hprio⟩

/-- The enabled links of valid settings: each is valid, and two of a direction share no lane. -/
theorem groupOk_enabled {ratio : Nat} {c : List LinkCfg} {x y : LinkCfg × Nat} (h : groupOk ratio c = true)
    (hx : x ∈ c.zipIdx) (hy : y ∈ c.zipIdx) (hxe : x.1.en = true) (hye : y.1.en = true) :
    x.1.ok ratio = true ∧ (x.2 ≠ y.2 → x.2 / 4 = y.2 / 4 → ∀ a, a ∈ x.1.lanes → a ∉ y.1.lanes) := by
  have hon := List.all_eq_true.1 h x (List.mem_filter.2 ⟨hx, hxe⟩)
  simp only [Bool.and_eq_true] at hon
  obtain ⟨⟨hok, -⟩, hall⟩ := hon
  refine ⟨hok, fun hne hdir a hax => ?_⟩
  have hshare := List.all_eq_true.1 hall y (List.mem_filter.2 ⟨hy, hye⟩)
  simp only [Bool.or_eq_true, beq_iff_eq, decide_eq_true_eq, hne, hdir, ne_eq, not_true_eq_false, false_or] at hshare
  simpa using List.all_eq_true.1 hshare a hax

theorem linkApply_valid (h : s.groupValid g [k] = true) : linkApply g k s =
    ((s.linkLive g k).setFld (F.CVL_LK_STATUS_last_status g k) 0).ack := if_pos h

theorem linkApply_invalid (h : s.groupValid g [k] = false) : linkApply g k s =
    s.refuse (F.CVL_LK_STATUS_last_status g k) Code.invalidArgument := if_neg (by simp [h])

theorem State.resync_enabled (h : (s.liveCfg g k).en = true) : s.resync g k =
    (s.satFld (F.CVL_LK_SYNC_resyncs g k) (F.CVL_LK_SYNC_overflow g k)).startLink g k := if_pos h

theorem State.resync_disabled (h : (s.liveCfg g k).en = false) : s.resync g k = s := if_neg (by simp [h])

theorem groupPll_badRatio {w : Word} (h : s.bit (F.CVL_G_CTRL_pll_en g) = false) (hw : w.getLsbD 31 = true)
    (hr : bitsOf w 0 8 < 8 ∨ 200 < bitsOf w 0 8) : groupPll g w s = s.cvRefuse g Code.invalidArgument := by
  simp [groupPll, h, hw, hr]

theorem groupPll_ratio {w : Word} (h : s.bit (F.CVL_G_CTRL_pll_en g) = false) (hw : w.getLsbD 31 = false) :
    groupPll g w s = ((s.setFld (F.CVL_G_CTRL_ratio g) (bitsOf w 0 8)).setBit (F.CVL_G_CTRL_pll_en g) false).ack := by
  simp only [groupPll, h, hw]
  rfl

theorem groupPll_enables {w : Word} (h : s.bit (F.CVL_G_CTRL_pll_en g) = false) (hw : w.getLsbD 31 = true)
    (hlow : 8 ≤ bitsOf w 0 8) (hhigh : bitsOf w 0 8 ≤ 200) : groupPll g w s =
      (((s.setFld (F.CVL_G_CTRL_ratio g) (bitsOf w 0 8)).setBit (F.CVL_G_CTRL_pll_en g) true).rejudge
        (.convPll (Fin.ofNat 8 g))).ack := by
  simp only [groupPll, h, hw, Bool.true_and, Bool.or_eq_true, decide_eq_true_eq, Bool.false_eq_true, if_false, hlow.not_gt,
    hhigh.not_gt, or_self]
  rfl

/-! ## SYSREF (R323, R324) -/

theorem cueArmGroup_unclaimed {w : Word} (hu : u = s.setReg (R.CVL_G_CUE g) (w &&& 0x200000F7#32))
    (h : u.holds m (sysrefClaim g) = false) : cueArmGroup m g w s =
      (u.setFld ((groupCue g).statusF (bitsOf w 0 3)) Code.claimBusy).ack := by
  subst hu
  simp [cueArmGroup, h]

theorem cueArmGroup_claimed {w : Word} (hu : u = s.setReg (R.CVL_G_CUE g) (w &&& 0x200000F7#32))
    (h : u.holds m (sysrefClaim g) = true) : cueArmGroup m g w s = (u.armCue m (groupCue g) (bitsOf w 0 3)
      (u.reg (R.CVL_G_CUE_AT g)) (bitsOf w 4 4) (!w.getLsbD 29 && u.bit (F.CVL_G_SYSREF_pin_en g))
      (if w.getLsbD 29 then .align else .sysref)).2.ack := by
  subst hu
  simp [cueArmGroup, h]

theorem cueDisarmGroup_eq {w : Word} (hu : u = s.setReg (R.CVL_G_CUE g) (w &&& 0x200000F7#32)) :
    cueDisarmGroup m g w s = if u.mayCue m (groupCue g) (bitsOf w 0 3)
      then ((u.cueClear (groupCue g) (bitsOf w 0 3)).setFld ((groupCue g).statusF (bitsOf w 0 3)) 0).ack
      else (u.setFld ((groupCue g).statusF (bitsOf w 0 3)) Code.claimBusy).ack := by
  subst hu
  rfl

/-- A SYSREF instant that does not match the running LMFC is flagged and recorded. -/
def State.alignChecked (s : State) (g : Nat) (same : Bool) : State :=
  if (s.cvGroup g).lmfc && !same then (s.setBit (F.CVL_G_SYSREF_misaligned g) true).fault (Unit.cvl g) .cvlAlign else s

/-- Whether a SYSREF instant restarts the LMFC: the first one, each that does not match, or none. -/
def State.restarts (s : State) (g : Nat) (same : Bool) : Bool :=
  match s.fld (F.CVL_G_SYSREF_mode g) with
  | 0 => !(s.cvGroup g).once
  | 1 => !((s.cvGroup g).lmfc && same)
  | _ => false

theorem State.restarts_first {same : Bool} (h : s.fld (F.CVL_G_SYSREF_mode g) = 0) :
    s.restarts g same = !(s.cvGroup g).once := by
  simp [State.restarts, h]

theorem State.restarts_unmatched {same : Bool} (h : s.fld (F.CVL_G_SYSREF_mode g) = 1) :
    s.restarts g same = !((s.cvGroup g).lmfc && same) := by
  simp [State.restarts, h]

theorem State.restarts_never {same : Bool} (h : 2 ≤ s.fld (F.CVL_G_SYSREF_mode g)) : s.restarts g same = false := by
  rw [State.restarts]
  split
  case h_1 h0 => omega
  case h_2 h1 => omega
  case h_3 => rfl

theorem sysref_ne_errLost : R.CVL_G_SYSREF g ≠ R.ERR_LOST := by
  simp only [R.CVL_G_SYSREF, R.ERR_LOST]
  omega

theorem State.cvl_alignChecked {same : Bool} : (s.alignChecked g same).cvl = s.cvl := by
  rw [State.alignChecked]
  split
  · rw [State.fault_cvl, State.setBit_cvl]
  · rfl

theorem State.mode_alignChecked {same : Bool} :
    (s.alignChecked g same).fld (F.CVL_G_SYSREF_mode g) = s.fld (F.CVL_G_SYSREF_mode g) := by
  rw [State.alignChecked]
  split
  · rw [State.fault_fld_ne _ _ _ _ _ _ _ _ sysref_ne_errLost, State.fld_setBit_disjoint _ _ _ _ (Nat.le_of_ble_eq_true rfl)
      (.inr (.inr (Nat.le_of_ble_eq_true rfl)))]
  · rfl

theorem State.restarts_alignChecked {same : Bool} : (s.alignChecked g same).restarts g same = s.restarts g same := by
  rw [State.restarts, State.restarts, State.mode_alignChecked, State.cvGroup_congr State.cvl_alignChecked]

theorem State.misaligned_alignChecked (h : (s.cvGroup g).lmfc = true) :
    (s.alignChecked g false).bit (F.CVL_G_SYSREF_misaligned g) = true := by
  rw [State.alignChecked, h, if_pos (by rfl), State.fault_bit_ne _ _ _ _ _ _ _ _ sysref_ne_errLost,
    State.bit_setBit_same _ _ _ (Nat.le_of_ble_eq_true rfl) rfl]

theorem sysrefAct_acts {same : Bool} (h : (s.cvGroup g).instant = true) : sysrefAct g same s =
    (s.alignChecked g same).setCvGroup g { s.cvGroup g with
      instant := false, once := true
      restart := if s.restarts g same then some (!((s.cvGroup g).lmfc && same)) else none } := by
  rw [← State.restarts_alignChecked, State.restarts, State.cvGroup_congr State.cvl_alignChecked, sysrefAct, h]
  rfl

theorem periodicPulse_goesOn {x : CvGroup} (hx : s.cvGroup g = x) (hp : x.periodic = some m)
    (hh : s.holds m (sysrefClaim g) = true) (hl : s.fld (F.CVL_G_SYSREF_pulses g) = 0 ∨ x.left ≠ 0) :
    periodicPulse g s = (s.setCvGroup g { x with left := x.left - 1, instant := true }).sysrefPulse g := by
  have hon : (!(s.fld (F.CVL_G_SYSREF_pulses g) == 0) && x.left == 0) = false := by
    obtain h | h := hl <;> simp [h]
  subst hx
  rw [periodicPulse]
  simp only [hp, hh, hon]
  rfl

theorem periodicPulse_unclaimed (hp : (s.cvGroup g).periodic = some m) (hh : s.holds m (sysrefClaim g) = false) :
    periodicPulse g s = s.setCvGroup g { s.cvGroup g with periodic := none, left := 0 } := by
  simp only [periodicPulse, hp, hh]
  rfl

/-! ## The LMFC and its stamps (R324, R325) -/

section
variable {ns count fr : Field}

theorem State.cvl_stamp : (s.stamp ns count fr).cvl = s.cvl := by
  rw [State.stamp, State.setFld_cvl, State.incFld_cvl, State.setFld_cvl]

theorem State.fld_stamp_ns (hw : ns.lo + ns.width ≤ 32) (hc : ns.off ≠ count.off) (hf : ns.off ≠ fr.off) :
    (s.stamp ns count fr).fld ns = s.now % 2 ^ ns.width := by
  rw [State.stamp, State.fld_setFld_ne _ _ _ _ hf, State.incFld, State.fld_setFld_ne _ _ _ _ hc,
    State.fld_setFld_same _ _ _ hw]

theorem State.fld_stamp_frac (h4 : fr.width = 4) (hw : fr.lo + fr.width ≤ 32) :
    (s.stamp ns count fr).fld fr = (s.svc.extractLsb' 28 4).toNat := by
  rw [State.stamp, State.fld_setFld_same _ _ _ hw, h4]
  exact Nat.mod_eq_of_lt (BitVec.isLt _)

end

theorem State.svc_setCvGroup (x : CvGroup) : (s.setCvGroup g x).svc = s.svc := by rfl

theorem lmfcGo_restarts (h : (s.cvGroup g).restart = some false) : lmfcGo g s =
    (s.setCvGroup g { s.cvGroup g with restart := none, lmfc := true }).stamp (F.CVL_G_LMFC_NS_ns g)
      (F.CVL_G_LMFC_FRAC_count g) (F.CVL_G_LMFC_FRAC_frac g) := by
  simp only [lmfcGo, h]
  rfl

theorem lmfcNs_ne_lmfcFrac : R.CVL_G_LMFC_NS g ≠ R.CVL_G_LMFC_FRAC g := by
  simp only [R.CVL_G_LMFC_NS, R.CVL_G_LMFC_FRAC]
  omega

theorem devclkNs_ne_devclkFrac : R.CVL_G_DEVCLK_NS g ≠ R.CVL_G_DEVCLK_FRAC g := by
  simp only [R.CVL_G_DEVCLK_NS, R.CVL_G_DEVCLK_FRAC]
  omega

/-! ## Receive links: code groups, ILAS and DATA (R319, R320, R331) -/

theorem State.lkState_enterIlas : (s.enterIlas g k).lkState g k = LkState.ilas := State.lkState_setLk _ (by decide)

theorem State.syncOut_enterIlas : ((s.enterIlas g k).cvLink g k).syncOut = true := by
  rw [State.enterIlas, State.cvLink_congr (State.cvl_setLk _), State.cvLink_setCvLink_same]

/-- A lane whose code groups are synchronised. -/
def State.laneSynced (s : State) (n : Nat) : State :=
  ((s.setBit (F.CVL_LANE_STATUS_sig_det n) true).setBit (F.CVL_LANE_STATUS_cdr_lock n) true).setBit
    (F.CVL_LANE_STATUS_cgs n) true

theorem State.reg_laneSynced {j : Nat} (h : j ≠ R.CVL_LANE_STATUS n) : (s.laneSynced n).reg j = s.reg j := by
  rw [State.laneSynced, State.reg_setBit_ne _ _ h, State.reg_setBit_ne _ _ h, State.reg_setBit_ne _ _ h]

theorem State.cvl_laneSynced : (s.laneSynced n).cvl = s.cvl := by
  rw [State.laneSynced, State.setBit_cvl, State.setBit_cvl, State.setBit_cvl]

theorem State.cgs_laneSynced : (s.laneSynced n).bit (F.CVL_LANE_STATUS_cgs n) = true :=
  State.bit_setBit_same _ _ _ (Nat.le_of_ble_eq_true rfl) rfl

theorem State.cdrLock_laneSynced : (s.laneSynced n).bit (F.CVL_LANE_STATUS_cdr_lock n) = true := by
  rw [State.laneSynced, State.bit_setBit_disjoint _ _ _ _ (Nat.le_of_ble_eq_true rfl)
    (.inr (.inl (Nat.le_of_ble_eq_true rfl))), State.bit_setBit_same _ _ _ (Nat.le_of_ble_eq_true rfl) rfl]

theorem State.liveCfg_congr (h0 : u.reg (R.CVL_LK_CFG0 g k) = s.reg (R.CVL_LK_CFG0 g k))
    (h1 : u.reg (R.CVL_LK_CFG1 g k) = s.reg (R.CVL_LK_CFG1 g k)) (hd : u.reg (R.CVL_LK_DEST g k) = s.reg (R.CVL_LK_DEST g k))
    (hc : u.reg (R.CVL_LK_CTRL g k) = s.reg (R.CVL_LK_CTRL g k)) : u.liveCfg g k = s.liveCfg g k := by
  rw [State.liveCfg, State.liveCfg, h0, h1, hd, State.bit_congr (f := F.CVL_LK_CTRL_en g k) hc]

theorem State.liveCfg_laneSynced (h : k < 8) : (s.laneSynced n).liveCfg g k = s.liveCfg g k := by
  obtain ⟨h0, h1, hd, hc⟩ := lkCfg_ne_laneStatus (g := g) (n := n) h
  exact State.liveCfg_congr (State.reg_laneSynced h0) (State.reg_laneSynced h1) (State.reg_laneSynced hd)
    (State.reg_laneSynced hc)

theorem State.bit_enterIlas {f : Field} (h : f.off ≠ R.CVL_LK_STATUS g k) : (s.enterIlas g k).bit f = s.bit f := by
  rw [State.enterIlas, State.setLk, State.bit_congr ((State.reg_setFld_ne _ _ h).trans (State.reg_setCvLink ..))]

/-- Four /K/ on a lane of a link in CGS: the lane shows it, and subclass 0 goes on to ILAS with the last lane. -/
theorem laneCgs_syncs (hr : s.lanesRun = true) (hf : s.bit (F.CVL_LANE_STATUS_fault n) = false)
    (hk : k = s.fld (F.CVL_LANE_STATUS_link_rx n)) (h3 : k ≤ 3) (hs : s.lkState (n / 8) k = LkState.cgs) :
    laneCgs n s = if (s.laneSynced n).allCgs (n / 8) k && !(s.liveCfg (n / 8) k).sub1 then
      (s.laneSynced n).enterIlas (n / 8) k else s.laneSynced n := by
  subst hk
  rw [← State.liveCfg_laneSynced (n := n) (by omega)]
  simp only [laneCgs, hr, hf, hs, h3.not_gt, bne_self_eq_false, decide_false, Bool.not_true, Bool.or_self]
  rfl

theorem syncOutGo_enters (hs : s.lkState g k = LkState.cgs) (h1 : (s.liveCfg g k).sub1 = true)
    (hc : s.allCgs g k = true) (hl : (s.cvGroup g).lmfc = true) : syncOutGo g k s = s.enterIlas g k := by
  simp [syncOutGo, hs, h1, hc, hl]

theorem State.lkState_enterData : (s.enterData g k).lkState g k = LkState.data := by
  rw [State.enterData, State.lkState, State.fld_congr (State.reg_alignLanes fun _ => lkStatus_ne_laneStatus)]
  exact State.lkState_setLk _ (by decide)

theorem State.lanesOk_enterData :
    (s.enterData g k).fld (F.CVL_LK_STATUS_lanes_ok g k) = (s.liveCfg g k).mask % 256 := by
  rw [State.enterData, State.fld_congr (State.reg_alignLanes fun _ => lkStatus_ne_laneStatus), State.setLk,
    State.fld_setFld_disjoint _ _ _ _ (Nat.le_of_ble_eq_true rfl) (.inr (.inr (Nat.le_of_ble_eq_true rfl))),
    State.fld_setFld_same _ _ _ (Nat.le_of_ble_eq_true rfl)]
  rfl

theorem ilasNext_counts {a : Bool} (hs : s.lkState g k = LkState.ilas) (hm : (s.cvLink g k).multiframes < 3)
    (ha : (s.cvLink g k).multiframes ≠ 1 ∨ a = true) : ilasNext g k a true s =
      s.setCvLink g k { s.cvLink g k with multiframes := (s.cvLink g k).multiframes + 1 } := by
  have hbad : ((s.cvLink g k).multiframes + 1 == 2 && !a) = false := by
    obtain h | h := ha <;> simp [h]
  have h4 : (s.cvLink g k).multiframes + 1 ≠ 4 := by omega
  simp only [ilasNext, hs, hbad, h4, bne_self_eq_false, Bool.false_and]
  rfl

theorem ilasNext_fourth {a : Bool} (hs : s.lkState g k = LkState.ilas) (hm : (s.cvLink g k).multiframes = 3) :
    ilasNext g k a true s = (s.setCvLink g k { s.cvLink g k with multiframes := 4 }).enterData g k := by
  simp only [ilasNext, hs, hm, bne_self_eq_false]
  rfl

theorem rawAlign_aligning (h : s.lkState g k = LkState.aligning) : rawAlign g k s = s.enterData g k :=
  if_pos (by simp [h])

theorem rawAlign_other (h : s.lkState g k ≠ LkState.aligning) : rawAlign g k s = s := if_neg (by simpa using h)

/-! ## Transmit links (R319, R331) -/

section
variable (he : (s.liveCfg g k).en = true) (hraw : (s.liveCfg g k).raw = false)
include he hraw

theorem syncInGo_request : syncInGo g k .request s = s.resync g k := by
  simp [syncInGo, he, hraw]

theorem syncInGo_report : syncInGo g k .report s =
    s.satFld (F.CVL_LK_SYNC_reports g k) (F.CVL_LK_SYNC_overflow g k) := by
  simp [syncInGo, he, hraw]

/-- SYNC~ seen high: subclass 0 sends ILAS at once, and subclass 1 waits for an LMFC edge. -/
theorem syncInGo_high {v : State} (hs : s.lkState g k = LkState.cgs)
    (hv : v = s.setCvLink g k { s.cvLink g k with syncIn := true, multiframes := 0 }) :
    syncInGo g k .high s = if (s.liveCfg g k).sub1 then v else v.setLk g k LkState.ilas := by
  simp [syncInGo, he, hraw, hs, hv]

theorem State.txEdge_fourth {tr : BitVec 4} (hs : s.lkState g k = LkState.ilas)
    (hm : (s.cvLink g k).multiframes = 3) : s.txEdge g tr k =
      (s.setCvLink g k { s.cvLink g k with multiframes := 4 }).setLk g k LkState.data := by
  simp [State.txEdge, he, hraw, hs, hm, LkState.ilas, LkState.cgs]

end

theorem lmfcTick_runs {tr : BitVec 4} {b : Nat} (h : (s.cvGroup g).lmfc = true) : lmfcTick g tr b s =
    (s.eachLink (fun s k => s.txEdge g tr k) [4, 5, 6, 7]).eachLink (fun s k => s.rxEdge g b k) [0, 1, 2, 3] :=
  if_neg (by simp [h])

end Sys2Proof.Machine
end

section
open Sys2Proof Sys2Proof.Machine

/-- Settles O51: the settings by what their checks say, each command by its equation, and SYSREF, the LMFC and the
bring-up by what they leave in the group, the link and the status registers. -/
theorem converterLinksComeUp : Obligations.ConverterLinksComeUp := by
  unfold Obligations.ConverterLinksComeUp
  refine ⟨?valid, ?invalid, ?group, ?link, ?resync, ?resyncOff, ?badRatio, ?ratio, ?pll, ?unclaimed, ?claimed, ?disarm,
    ?instant, ?restart, ?devclk, ?periodic, ?periodicEnds, ?cgs, ?sync, ?ilas, ?multiframe, ?fourth, ?raw, ?notRaw,
    ?syncIn, ?edge, ?txFourth⟩
  case valid =>
    intro s m g k h
    rw [exec_cvlLinkApply, linkApply_valid h]
  case invalid =>
    intro s m g k h
    rw [exec_cvlLinkApply, linkApply_invalid h]
    rfl
  case group =>
    intro ratio c h x hx y hy hxe hye
    exact groupOk_enabled h hx hy hxe hye
  case link =>
    intro c ratio h
    exact LinkCfg.ok_bounds h
  case resync =>
    intro s m g k h
    rw [exec_cvlLinkResync, linkResync, State.resync_enabled h]
  case resyncOff =>
    intro s m g k h
    rw [exec_cvlLinkResync, linkResync, State.resync_disabled h]
  case badRatio =>
    intro s m g w h hw hr
    rw [exec_cvlPllEnable, groupPll_badRatio h hw hr]
    rfl
  case ratio =>
    intro s m g w h hw
    rw [exec_cvlPllEnable, groupPll_ratio h hw]
  case pll =>
    intro s m g w h hw hlow hhigh
    rw [exec_cvlPllEnable, groupPll_enables h hw hlow hhigh, Fin.ofNat_val_eq_self]
  case unclaimed =>
    intro s m g w u hu h
    rw [exec_cvlCueArm, cueArmGroup_unclaimed hu h]
    rfl
  case claimed =>
    intro s m g w u hu h
    rw [exec_cvlCueArm, cueArmGroup_claimed hu h]
  case disarm =>
    intro s m g w u hu
    rw [exec_cvlCueDisarm, cueDisarmGroup_eq hu]
    rfl
  case instant =>
    intro s g same h
    refine ⟨_, exec_sysrefInstant, ?_⟩
    beta_reduce
    rw [sysrefAct_acts h, State.cvGroup_setCvGroup_same]
    refine ⟨rfl, rfl, fun hm => ?_, fun hm => ?_, fun hm => ?_, fun hl hsame => ?_⟩
    · rw [State.restarts_first hm]
      cases (s.cvGroup g.val).once <;> rfl
    · rw [State.restarts_unmatched hm]
      cases (s.cvGroup g.val).lmfc && same <;> rfl
    · rw [State.restarts_never hm]
      rfl
    · subst hsame
      rw [State.setCvGroup_bit, State.misaligned_alignChecked hl]
  case restart =>
    intro s g h
    refine ⟨_, exec_lmfcRestart, ?_⟩
    beta_reduce
    rw [lmfcGo_restarts h, State.cvGroup_congr State.cvl_stamp, State.cvGroup_setCvGroup_same,
      State.fld_stamp_ns (Nat.le_of_ble_eq_true rfl) lmfcNs_ne_lmfcFrac lmfcNs_ne_lmfcFrac,
      State.fld_stamp_frac rfl (Nat.le_of_ble_eq_true rfl), State.now_congr (State.svc_setCvGroup _), State.svc_setCvGroup]
    exact ⟨rfl, rfl, rfl, rfl⟩
  case devclk =>
    intro s g
    refine ⟨_, exec_devclkStamp, ?_, ?_, State.cvl_stamp⟩
    · exact State.fld_stamp_ns (Nat.le_of_ble_eq_true rfl) devclkNs_ne_devclkFrac devclkNs_ne_devclkFrac
    · exact State.fld_stamp_frac rfl (Nat.le_of_ble_eq_true rfl)
  case periodic =>
    intro s g m hp hh hl
    rw [exec_periodicSysrefPulse, periodicPulse_goesOn rfl hp hh hl]
  case periodicEnds =>
    intro s g m hp hh
    rw [exec_periodicSysrefPulse, periodicPulse_unclaimed hp hh]
  case cgs =>
    intro s n k hr hf hk h3 hs
    refine ⟨_, exec_laneCgsSync, ?_⟩
    beta_reduce
    rw [laneCgs_syncs hr hf hk h3 hs]
    split
    case isTrue hi =>
      have hsub : (s.liveCfg (n.val / 8) k).sub1 = false := by
        simpa using (Bool.and_eq_true_iff.1 hi).2
      rw [State.bit_enterIlas lkStatus_ne_laneStatus.symm, State.bit_enterIlas lkStatus_ne_laneStatus.symm]
      exact ⟨State.cgs_laneSynced, State.cdrLock_laneSynced, fun h1 => absurd h1 (by simp [hsub])⟩
    case isFalse => exact ⟨State.cgs_laneSynced, State.cdrLock_laneSynced, fun _ => State.cvl_laneSynced⟩
  case sync =>
    intro s g k hs h1 hc hl
    rw [exec_syncRelease, syncOutGo_enters hs h1 hc hl]
  case ilas =>
    intro s g k _
    exact ⟨State.lkState_enterIlas, State.syncOut_enterIlas⟩
  case multiframe =>
    intro s g k a hs hm ha
    rw [exec_ilasMultiframe, ilasNext_counts hs hm ha]
  case fourth =>
    intro s g k a hs hm
    refine ⟨_, exec_ilasMultiframe, ?_⟩
    beta_reduce
    rw [ilasNext_fourth hs hm, State.lkState_enterData, State.lanesOk_enterData, State.liveCfg_setCvLink]
    exact ⟨rfl, rfl⟩
  case raw =>
    intro s g k h
    rw [exec_rawAligned, rawAlign_aligning h]
  case notRaw =>
    intro s g k h
    rw [exec_rawAligned, rawAlign_other h]
  case syncIn =>
    intro s g k he hraw
    rw [exec_syncInputChange, syncInGo_request he hraw, exec_syncInputChange, syncInGo_report he hraw]
    refine ⟨rfl, rfl, fun hs => ⟨_, exec_syncInputChange, ?_⟩⟩
    beta_reduce
    rw [syncInGo_high he hraw hs rfl]
    split
    case isTrue h1 => exact ⟨congrArg CvLink.syncIn (State.cvLink_setCvLink_same _), fun h0 => absurd h1 (by simp [h0])⟩
    case isFalse =>
      rw [State.cvLink_congr (State.cvl_setLk _), State.cvLink_setCvLink_same, State.lkState_setLk _ (by decide)]
      exact ⟨rfl, fun _ => rfl⟩
  case edge =>
    intro s g tr b h
    rw [exec_lmfcEdge, lmfcTick_runs h]
  case txFourth =>
    intro s g tr k _ he hraw hs hm
    rw [State.txEdge_fourth he hraw hs hm, State.lkState_setLk _ (by decide)]

end

section
/-! PROOFS. Converter data (R317, R321, R326 to R330, R332, R333, R337 to R339): the frames and blocks of receive and
transmit links, lane faults, eye scans, injection and PRBS. -/

namespace Sys2Proof.Machine

variable {s u : State} {m : Master} {g k n : Nat}

theorem exec_frameRelease {g : Fin 8} {k : Fin 4} {f : FrameIn} : exec (.frameRelease g k f) s =
    .next (frameGo g.val k.val f s) := by rfl
theorem exec_rxBlockComplete {g : Fin 8} {k : Fin 4} {b : Bool} : exec (.rxBlockComplete g k b) s =
    .next (blockOut g.val k.val b s) := by rfl
theorem exec_txBlockArrive {g : Fin 8} {p : List Byte} {b c : Bool} : exec (.txBlockArrive g p b c) s =
    .next (blockIn g.val p b c s) := by rfl
theorem exec_txBlockStart {g : Fin 8} {k : Fin 4} {b : Bool} {i : BitVec 16} : exec (.txBlockStart g k b i) s =
    .next (blockStart g.val (4 + k.val) b i.toNat s) := by rfl
theorem exec_laneFault {n : Fin 64} : exec (.laneFault n) s = .next (laneFaulted n.val s) := by rfl
theorem exec_laneFaultRetry {n : Fin 64} {b : Bool} : exec (.laneFaultRetry n b) s = .next (laneRetry n.val b s) := by rfl
theorem exec_eyeScanGo {n : Fin 64} {w : Word} : exec (.eyeScanGo m n w) s = .next (eyeGo n.val w s) := by rfl
theorem exec_eyeScanDone {n : Fin 64} {e : Option Word} : exec (.eyeScanDone n e) s = .next (eyeEnd n.val e s) := by rfl
theorem exec_injSingle {n : Fin 64} : exec (.injSingle m n) s = .next (s.injectBits n.val 1) := by rfl
theorem exec_injBurst {n : Fin 64} : exec (.injBurst m n) s = .next (injMany n.val s) := by rfl
theorem exec_prbsEnable {n : Fin 64} {w : Word} : exec (.prbsEnable m n w) s = .next (prbsWrite n.val w s) := by rfl
theorem exec_prbsCheckerLock {n : Fin 64} {b : Bool} {e : BitVec 30} : exec (.prbsCheckerLock n b e) s =
    .next (checkerLock n.val b e.toNat s) := by rfl

/-! ## Frames and receive blocks (R317, R321, R326 to R328) -/

/-- A frame without errors, all of whose lanes are in time and in place, joins its block. -/
theorem frameGo_clean {f : FrameIn} (hs : s.lkState g k = LkState.data) (hf : s.hasFault g k = false)
    (he : f.errors = []) (hl : f.late = 0) (ha : f.astray = none) : frameGo g k f s =
      s.addFrame g k (frameWords ((s.liveCfg g k).m * (s.liveCfg g k).s) false f.words) false false false s.now32 := by
  simp [frameGo, hs, hf, he, hl, ha, State.charErrors]

theorem frameGo_ignored {f : FrameIn} (h : s.lkState g k ≠ LkState.data ∨ s.hasFault g k = true) :
    frameGo g k f s = s := by
  refine if_pos ?_
  obtain h | h := h <;> simp [h]

section
variable {w : List (BitVec 16)} {e p f : Bool} {t : Word}

/-- A frame at a multiple of B begins a block, which more frames follow. -/
theorem State.addFrame_begins (hi : (s.cvLink g k).findex % (s.liveCfg g k).b = 0) (hb : 1 < (s.liveCfg g k).b) :
    s.addFrame g k w e p f t = s.setCvLink g k { s.cvLink g k with
      findex := ((s.cvLink g k).findex + 1) % (s.liveCfg g k).k
      making := some ⟨t, (s.cvLink g k).findex, 1, w, e, p, f⟩ } := by
  simp [State.addFrame, hi, hb.ne]

/-- The B-th frame of a block completes it. -/
theorem State.addFrame_completes {x : RxBlock} (hi : (s.cvLink g k).findex % (s.liveCfg g k).b ≠ 0)
    (hx : (s.cvLink g k).making = some x) (hb : x.frames + 1 = (s.liveCfg g k).b) :
    s.addFrame g k w e p f t = s.setCvLink g k { s.cvLink g k with
      findex := ((s.cvLink g k).findex + 1) % (s.liveCfg g k).k
      making := none
      complete := (s.cvLink g k).complete ++
        [⟨x.time, x.findex, x.frames + 1, x.words ++ w, x.err || e, x.poison || p, x.fill || f⟩] } := by
  simp only [State.addFrame, if_neg hi, hx, if_pos hb]

end

@[simp] theorem State.cvlFrozen_setCvLink (x : CvLink) : (s.setCvLink g k x).cvlFrozen = s.cvlFrozen := by rfl

section
variable {x : RxBlock} {l : List RxBlock} (hx : (s.cvLink g k).complete = x :: l) (hf : s.cvlFrozen = false)
include hx hf

theorem blockOut_sends : blockOut g k true s =
    (s.setCvLink g k { s.cvLink g k with complete := l }).sendBlock g k x := by
  simp [blockOut, hx, hf]

theorem blockOut_overrun : blockOut g k false s =
    ((s.setCvLink g k { s.cvLink g k with complete := l }).satFld (F.CVL_LK_COUNT_dropped g k)
      (F.CVL_LK_COUNT_overflow g k)).fault (Unit.cvl g) .cvlOverrun (.unit (Unit.cvl g)) 0 (8 * g + k) := by
  simp [blockOut, hx, hf]

end

theorem length_toBytes (n v : Nat) : (toBytes n v).length = n := by
  induction n generalizing v with
  | zero => rfl
  | succ n ih => rw [toBytes, List.length_cons, ih]

/-- A packed block is its time, its header word and two bytes per word (Table 10.3). -/
theorem length_blockBytes_packed {c : LinkCfg} {link : Nat} {x : RxBlock} (h : c.packed = true) :
    (blockBytes c link x).length = 8 + 2 * x.words.length := by
  simp only [blockBytes, if_pos h, List.length_append, length_toBytes, List.length_flatMap, List.map_const',
    List.sum_replicate, smul_eq_mul]
  omega

/-! ## Transmit blocks (R329, R330) -/

section
variable {p : List Byte} {b c : Bool} {t : Word}

theorem blockIn_fits (h : s.txHeld g + p.length ≤ 65536) (hw : (s.cvGroup g).waiting = []) :
    blockIn g p b c s = s.judgeBlock g p b c := if_neg (by simp [h.not_gt, hw])

theorem blockIn_waits (h : 65536 < s.txHeld g + p.length) : blockIn g p b c s =
    s.setCvGroup g { s.cvGroup g with waiting := (s.cvGroup g).waiting ++ [(p, b, c)] } := if_pos (.inl h)

theorem State.judgeBlock_queues (h : s.blockFor g false p = some (k, t, n)) (ht : s.classOf t ≠ .outside) :
    s.judgeBlock g p false true = s.setCvLink g k { s.cvLink g k with queue := (s.cvLink g k).queue ++
      [⟨s.extend t, n, blockWords (s.liveCfg g k) n p, false, p.length⟩] } := by
  simp [State.judgeBlock, h, ht]

theorem State.judgeBlock_outside (h : s.blockFor g false p = some (k, t, n)) (ht : s.classOf t = .outside) :
    s.judgeBlock g p b c = (s.satFld (F.CVL_LK_COUNT_dropped g k) (F.CVL_LK_COUNT_overflow g k)).fault (Unit.cvl g)
      .cvlLate (.unit (Unit.cvl g)) 0 (8 * g + k) := by
  simp [State.judgeBlock, h, ht]

end

theorem State.zeroFrames_none : s.zeroFrames g k 0 = s := if_pos rfl

theorem State.cvGroup_setCvLink (x : CvLink) : (s.setCvLink g k x).cvGroup n = s.cvGroup n := by rfl

theorem State.cvLink_setCvGroup {j : Nat} (x : CvGroup) : (s.setCvGroup g x).cvLink k j = s.cvLink k j := by rfl

/-- A good head block that is due starts, and nothing waits for the room it leaves. -/
theorem blockStart_starts {x : TxBlock} {l : List TxBlock} (hs : s.lkState g k = LkState.data)
    (hq : (s.cvLink g k).queue = x :: l) (hd : x.due ≤ s.now) (hf : s.cvlFrozen = false) (hb : x.bad = false)
    (hw : (s.cvGroup g).waiting = []) : blockStart g k false 0 s =
      ((s.setCvLink g k { s.cvLink g k with queue := l }).setCvLink g k
        { s.cvLink g k with queue := l, sent := x.words }).setCvGroup g { s.cvGroup g with waiting := [] } := by
  simp [blockStart, hs, hq, hd.not_gt, hf, hb, State.zeroFrames_none, State.cvGroup_setCvLink, hw, State.letIn]

/-! ## Lane faults (R333) -/

theorem laneStatus_ne_errLost : R.CVL_LANE_STATUS n ≠ R.ERR_LOST := by
  simp only [R.CVL_LANE_STATUS, R.ERR_LOST]
  omega

/-- A lane that is shown as faulted, its alignment and synchronisation gone. -/
def State.laneDown (s : State) (n : Nat) : State :=
  (((s.setBit (F.CVL_LANE_STATUS_fault n) true).setBit (F.CVL_LANE_STATUS_aligned n) false).setBit
    (F.CVL_LANE_STATUS_cgs n) false).setBit (F.CVL_LANE_STATUS_cdr_lock n) false

/-- A lane declared faulted: it is shown and recorded, and its link resynchronises. -/
theorem laneFaulted_declares (hr : s.lanesRun = true) (hf : s.bit (F.CVL_LANE_STATUS_fault n) = false) :
    laneFaulted n s = ((s.laneDown n).fault (Unit.cvl (n / 8)) .cvlLane (.unit (Unit.cvl (n / 8))) 0 n).resyncLane n :=
  if_neg (by simp [hr, hf])

theorem State.fld_setBit_above (f q : Field) (b : Bool) (hq : q.lo + q.width ≤ 32) (h : f.lo + f.width ≤ q.lo) :
    (s.setBit f b).fld q = s.fld q := State.fld_setBit_disjoint _ _ _ _ hq (.inr (.inr h))

theorem State.bit_setBit_above (f q : Field) (b : Bool) (hq : q.lo + q.width ≤ 32) (h : f.lo + f.width ≤ q.lo) :
    (s.setBit f b).bit q = s.bit q := State.bit_setBit_disjoint _ _ _ _ hq (.inr (.inr h))

theorem State.cvl_laneDown : (s.laneDown n).cvl = s.cvl := by
  simp only [State.laneDown, State.setBit_cvl]

theorem State.fault_laneDown : (s.laneDown n).bit (F.CVL_LANE_STATUS_fault n) = true := by
  simp (disch := exact Nat.le_of_ble_eq_true rfl) only [State.laneDown, State.bit_setBit_above]
  exact State.bit_setBit_same _ _ _ (Nat.le_of_ble_eq_true rfl) rfl

theorem State.aligned_laneDown : (s.laneDown n).bit (F.CVL_LANE_STATUS_aligned n) = false := by
  simp (disch := exact Nat.le_of_ble_eq_true rfl) only [State.laneDown, State.bit_setBit_above]
  exact State.bit_setBit_same _ _ _ (Nat.le_of_ble_eq_true rfl) rfl

theorem State.linkRx_laneDown :
    (s.laneDown n).fld (F.CVL_LANE_STATUS_link_rx n) = s.fld (F.CVL_LANE_STATUS_link_rx n) := by
  simp (disch := exact Nat.le_of_ble_eq_true rfl) only [State.laneDown, State.fld_setBit_above]

/-- A lane that serves no receive link has none to resynchronise. -/
theorem State.resyncLane_unused (h : 4 ≤ s.fld (F.CVL_LANE_STATUS_link_rx n)) : s.resyncLane n = s :=
  if_neg h.not_gt

theorem laneRetry_recovers (h : s.bit (F.CVL_LANE_STATUS_fault n) = true) : laneRetry n true s =
    (s.setBit (F.CVL_LANE_STATUS_fault n) false).resyncLane n := if_pos (by simp [h])

theorem laneRetry_fails : laneRetry n false s = s := if_neg (by simp)

/-! ## Eye scans (R337) -/

theorem eyeGo_starts {w : Word} (hb : s.bit (F.CVL_EYE_CTRL_busy n) = false)
    (hr : s.fld (F.CVL_LANE_STATUS_link_rx n) ≠ 15 ∨ s.bit (F.CVL_LANE_CTRL_test_rx n) = true)
    (hlow : 20 ≤ bitsOf w 22 6) (hhigh : bitsOf w 22 6 ≤ 40) (ho : bitsOf w 8 7 ≠ 64) : eyeGo n w s =
      ((s.setReg (R.CVL_EYE_CTRL n) (w &&& 0x0FFF7F00#32)).setBit (F.CVL_EYE_CTRL_busy n) true).ack := by
  have hidle : ¬(s.fld (F.CVL_LANE_STATUS_link_rx n) = 15 ∧ ¬s.bit (F.CVL_LANE_CTRL_test_rx n)) := by
    rintro ⟨h15, ht⟩
    exact hr.elim (fun h => h h15) ht
  have hrange : ¬(bitsOf w 22 6 < 20 ∨ 40 < bitsOf w 22 6 ∨ bitsOf w 8 7 = 64) := by omega
  simp only [eyeGo, hb, if_neg hidle, if_neg hrange]
  rfl

theorem eyeGo_idleLane {w : Word} (hb : s.bit (F.CVL_EYE_CTRL_busy n) = false)
    (hl : s.fld (F.CVL_LANE_STATUS_link_rx n) = 15) (ht : s.bit (F.CVL_LANE_CTRL_test_rx n) = false) :
    eyeGo n w s = s.cvRefuse (n / 8) Code.notPermitted := by
  simp [eyeGo, hb, hl, ht]

theorem eyeEnd_counts {e : Word} (h : s.bit (F.CVL_EYE_CTRL_busy n) = true) : eyeEnd n (some e) s =
    ((s.setBit (F.CVL_EYE_CTRL_busy n) false).setBit (F.CVL_EYE_CTRL_done n) true).setReg (R.CVL_EYE_ERR n) e :=
  if_neg (by simp [h])

/-! ## Injection (R339) -/

theorem State.injectBits_unused {j : Nat} (h : s.laneUsed n = false) : s.injectBits n j =
    ({ s with cvl := { s.cvl with inverted := Table.modify zeroNat s.cvl.inverted n (· + j) } } : State).ack :=
  if_neg (by simp [h])

theorem State.inverted_injectBits {j : Nat} (h : s.laneUsed n = false) :
    Table.get zeroNat (s.injectBits n j).cvl.inverted n = Table.get zeroNat s.cvl.inverted n + j := by
  rw [State.injectBits_unused h, State.ack_cvl, Table.modify, Table.get_set_same]

theorem State.injectBits_refused {j : Nat} (h : s.laneUsed n = true) (hi : s.bit (F.CVL_LANE_TEST_inj_live n) = false) :
    s.injectBits n j = s.cvRefuse (n / 8) Code.notPermitted := if_pos (by simp [h, hi])

theorem injMany_injects (h : 2 ≤ s.fld (F.CVL_LANE_TEST_burst_len n)) :
    injMany n s = s.injectBits n (s.fld (F.CVL_LANE_TEST_burst_len n)) := if_neg h.not_gt

/-! ## PRBS (R338) -/

section
variable {w : Word} (hc : bitsOf w 12 3 ≤ 4) (hg : bitsOf w 4 3 ≤ 4)
include hc hg

theorem prbsWrite_refused (hu : s.laneUsed n = true) (hw : w.getLsbD 7 = true ∨ w.getLsbD 15 = true) :
    prbsWrite n w s = s.cvRefuse (n / 8) Code.notPermitted := by
  have hpat : ¬(4 < bitsOf w 12 3 ∨ 4 < bitsOf w 4 3) := by omega
  have hon : (w.getLsbD 7 || w.getLsbD 15) = true := Bool.or_eq_true_iff.2 hw
  simp only [prbsWrite, if_neg hpat, hon, hu]
  rfl

theorem prbsWrite_sets (hu : s.laneUsed n = false) (hk : s.bit (F.CVL_LANE_TEST_chk_en n) = false) :
    prbsWrite n w s = ((s.setReg (R.CVL_LANE_TEST n)
      ((s.reg (R.CVL_LANE_TEST n) &&& ~~~0xF8F8#32) ||| (w &&& 0xF8F8#32))).setBit
        (F.CVL_LANE_PRBS_ERR_locked n) false).ack := by
  have hpat : ¬(4 < bitsOf w 12 3 ∨ 4 < bitsOf w 4 3) := by omega
  simp only [prbsWrite, if_neg hpat, hu, hk, Bool.and_false]
  rfl

end

section
variable {b : Bool} {e : Nat} (hk : s.bit (F.CVL_LANE_TEST_chk_en n) = true)
include hk

theorem checkerLock_uncounted (h : s.bit (F.CVL_LANE_PRBS_ERR_locked n) = false ∨ e = 0) :
    checkerLock n b e s = s.setBit (F.CVL_LANE_PRBS_ERR_locked n) b := by
  obtain h | h := h <;> simp [checkerLock, hk, h]

theorem checkerLock_counts (hl : s.bit (F.CVL_LANE_PRBS_ERR_locked n) = true) (he : e ≠ 0) : checkerLock n b e s =
    (s.satFld (F.CVL_LANE_PRBS_ERR_errors n) (F.CVL_LANE_PRBS_ERR_overflow n) e).setBit
      (F.CVL_LANE_PRBS_ERR_locked n) b := by
  simp [checkerLock, hk, hl, he]

end

end Sys2Proof.Machine
end

section
open Sys2Proof Sys2Proof.Machine

/-- Settles O52: the frames and blocks of each direction, then the lane's fault, scan, injection and checker, each
command by its equation. -/
theorem converterDataFlows : Obligations.ConverterDataFlows := by
  unfold Obligations.ConverterDataFlows
  refine ⟨?frame, ?noFrame, ?begins, ?completes, ?sent, ?overrun, ?packed, ?arrives, ?waits, ?queued, ?outside, ?starts,
    ?fault, ?retry, ?scan, ?noScan, ?scanned, ?inject, ?noInject, ?burst, ?noPrbs, ?prbs, ?uncounted, ?counted⟩
  case frame =>
    intro s g k f hs hf he hl ha
    rw [exec_frameRelease, frameGo_clean hs hf he hl ha]
  case noFrame =>
    intro s g k f h
    rw [exec_frameRelease, frameGo_ignored h]
  case begins =>
    intro s g k w e p f t hi hb
    rw [State.addFrame_begins hi hb, State.cvLink_setCvLink_same]
    exact ⟨rfl, rfl, rfl⟩
  case completes =>
    intro s g k w e p f t x hi hx hb
    rw [State.addFrame_completes hi hx hb, State.cvLink_setCvLink_same]
    exact ⟨rfl, rfl⟩
  case sent =>
    intro s g k x l hx hf
    rw [exec_rxBlockComplete, blockOut_sends hx hf]
  case overrun =>
    intro s g k x l hx hf
    rw [exec_rxBlockComplete, blockOut_overrun hx hf]
  case packed =>
    intro c link x h
    exact length_blockBytes_packed h
  case arrives =>
    intro s g p b c h hw
    rw [exec_txBlockArrive, blockIn_fits h hw]
  case waits =>
    intro s g p b c h
    rw [exec_txBlockArrive, blockIn_waits h]
  case queued =>
    rintro s g p _ k t n h ht rfl
    rw [State.judgeBlock_queues h ht, State.cvLink_setCvLink_same]
  case outside =>
    intro s g p b c k t n h ht
    exact State.judgeBlock_outside h ht
  case starts =>
    intro s g k i x l hs hq hd hf hb hw hi
    refine ⟨_, exec_txBlockStart, ?_⟩
    beta_reduce
    rw [hi, blockStart_starts hs hq hd hf hb hw, State.cvLink_setCvGroup, State.cvLink_setCvLink_same]
    exact ⟨rfl, rfl, rfl⟩
  case fault =>
    intro s n hr hf h15
    refine ⟨_, exec_laneFault, ?_⟩
    beta_reduce
    rw [laneFaulted_declares hr hf, State.resyncLane_unused, State.fault_bit_ne _ _ _ _ _ _ _ _ laneStatus_ne_errLost,
      State.fault_bit_ne _ _ _ _ _ _ _ _ laneStatus_ne_errLost, State.fault_cvl]
    · exact ⟨State.fault_laneDown, State.aligned_laneDown, State.cvl_laneDown⟩
    · rw [State.fault_fld_ne _ _ _ _ _ _ _ _ laneStatus_ne_errLost, State.linkRx_laneDown, h15]
      decide
  case retry =>
    intro s n h
    rw [exec_laneFaultRetry, laneRetry_recovers h, exec_laneFaultRetry, laneRetry_fails]
    exact ⟨rfl, rfl⟩
  case scan =>
    intro s m n w hb hr hlow hhigh ho
    rw [exec_eyeScanGo, eyeGo_starts hb hr hlow hhigh ho]
  case noScan =>
    intro s m n w hb hl ht
    rw [exec_eyeScanGo, eyeGo_idleLane hb hl ht]
    rfl
  case scanned =>
    intro s n e h
    rw [exec_eyeScanDone, eyeEnd_counts h]
  case inject =>
    intro s m n h
    exact ⟨exec_injSingle, State.inverted_injectBits h⟩
  case noInject =>
    intro s m n h hi
    rw [exec_injSingle, State.injectBits_refused h hi]
    rfl
  case burst =>
    intro s m n h2 h
    refine ⟨_, exec_injBurst, ?_⟩
    beta_reduce
    rw [injMany_injects h2, State.inverted_injectBits h, State.injectBits_unused h]
    exact ⟨rfl, rfl⟩
  case noPrbs =>
    intro s m n w hc hg hu hw
    rw [exec_prbsEnable, prbsWrite_refused hc hg hu hw]
    rfl
  case prbs =>
    intro s m n w hc hg hu hk
    rw [exec_prbsEnable, prbsWrite_sets hc hg hu hk]
  case uncounted =>
    intro s n b e hk h
    rw [exec_prbsCheckerLock, checkerLock_uncounted hk (h.imp_right fun he => congrArg BitVec.toNat he)]
  case counted =>
    intro s n b e hk hl he
    rw [exec_prbsCheckerLock, checkerLock_counts hk hl fun h0 => he (BitVec.eq_of_toNat_eq h0)]

end

section
/-! PROOFS. The front of the queue (notes/assumptions/1) and the boundary-scan port (R508): the command that a step
runs, and what an instruction of the TAP loads. -/

namespace Sys2Proof.Machine

variable {s : State} {c : Instr} {l : List Instr}

theorem step_pending (h : s.pending = c :: l) : step s = exec c { s with pending := l } := by rw [step, h]

theorem exec_tapBypass : exec .tapBypass s = .next (tapFree .bypass s) := by rfl
theorem exec_tapIdcode : exec .tapIdcode s = .next (tapId s) := by rfl
theorem exec_tapSamplePreload {d : BitVec 384} : exec (.tapSamplePreload d) s = .next (tapSample d s) := by rfl
theorem exec_tapExtest : exec .tapExtest s = .next (tapHeld .extest s) := by rfl
theorem exec_tapClamp : exec .tapClamp s = .next (tapHeld .clamp s) := by rfl
theorem exec_tapHighz : exec .tapHighz s = .next (tapHeld .highz s) := by rfl
theorem exec_tapExtestPulse : exec .tapExtestPulse s = .next (tapHeld .extestPulse s) := by rfl
theorem exec_tapExtestTrain : exec .tapExtestTrain s = .next (tapHeld .extestTrain s) := by rfl

/-- Capturing the levels of pins uses free values and changes nothing else. -/
theorem State.pinLevels_only_freeCount (n : Nat) (s : State) :
    { (s.pinLevels n).2 with freeCount := s.freeCount } = s := by
  induction n generalizing s with
  | zero => rfl
  | succ n ih =>
    have h := ih (s.bankLevels n).2
    calc { (s.pinLevels (n + 1)).2 with freeCount := s.freeCount }
        = { { ((s.bankLevels n).2.pinLevels n).2 with freeCount := (s.bankLevels n).2.freeCount } with
            freeCount := s.freeCount } := rfl
      _ = { (s.bankLevels n).2 with freeCount := s.freeCount } := by rw [h]
      _ = s := rfl

end Sys2Proof.Machine
end

section
open Sys2Proof Sys2Proof.Machine

/-- Settles O35: a step takes the front of the queue, also where that has just been put there. -/
theorem stepRunsTheFrontCommand : Obligations.StepRunsTheFrontCommand :=
  ⟨fun _ _ _ h => step_pending h, fun _ _ => step_pending rfl⟩

/-- Settles O10: each instruction by what it loads; the levels captured are free values. -/
theorem tapInstructionsLoad : Obligations.TapInstructionsLoad := by
  unfold Obligations.TapInstructionsLoad
  refine ⟨fun s => exec_tapBypass, fun s => ⟨_, exec_tapIdcode, rfl, ?idcode, rfl⟩,
    fun s d => ⟨_, exec_tapSamplePreload, rfl, rfl, ?sample⟩, fun s => exec_tapExtest, fun s => exec_tapClamp,
    fun s => exec_tapHighz, fun s => exec_tapExtestPulse, fun s => exec_tapExtestTrain⟩
  case idcode =>
    change Resp.data (toBytes 4 0x09600C6B) false = _
    decide
  case sample =>
    exact congrArg (fun t : State => { t with tap := s.tap }) (State.pinLevels_only_freeCount 16 s)

end

section
/-! PROOFS. Fabric PLL pages and general pins (R492, R495 to R500): what their holder and other masters do. -/

namespace Sys2Proof.Machine

variable {s : State} {m : Master} {q k b : Nat} {w : Word}

theorem exec_fpllEnable {q : Fin 24} : exec (.fpllEnable m q w) s = .next (fpllWrite m q.val 0 w s) := by rfl
theorem exec_pinApply {k : BitVec 9} : exec (.pinApply m k) s = .next (pinApplyGo m k.toNat s) := by rfl
theorem exec_pinCommitEdge {k : Fin 384} : exec (.pinCommitEdge k) s = .next (pinCommit k.val s) := by rfl
theorem exec_pinOutWrite {b : Fin 16} {r : PinOutReg} {d : BitVec 24} : exec (.pinOutWrite m b r d) s =
    .next (pinOut m b.val r d s) := by rfl
theorem exec_pinElecWrite {k : Fin 384} : exec (.pinElecWrite m k w) s = .next (pinElec m k.val w s) := by rfl

/-! ## A PLL's page (R492) -/

theorem fpllWrite_notHolder {i : Nat} (h : s.holds m (fpllClaim q) = false) :
    fpllWrite m q i w s = fpllRefuse q Code.claimBusy s := if_pos (by simp [h])

theorem getLsbD_31_and_ctrlMask (w : Word) : (w &&& 0x9000003F#32).getLsbD 31 = w.getLsbD 31 := by
  rw [BitVec.getLsbD_and]
  exact Bool.and_true _

/-- A CTRL write with enable clear is stored whatever the other settings are, and the PLL is judged afresh. -/
theorem fpllWrite_disables {q : Fin 24} (h : s.holds m (fpllClaim q.val) = true) (hw : w.getLsbD 31 = false) :
    fpllWrite m q.val 0 w s = ((((s.setReg (R.CLK_FPLL_CTRL q.val) (w &&& 0x9000003F#32)).setFld
      (F.CLK_FPLL_STATUS_last_status q.val) 0).rejudge (.fabricPll q)).showLines 24).ack := by
  have hen : (w &&& 0x9000003F#32).getLsbD 31 = false := (getLsbD_31_and_ctrlMask w).trans hw
  simp only [fpllWrite, h, State.fpllWords, List.cons_append, List.set_cons_zero, List.getD_cons_zero, hen,
    Fin.ofNat_val_eq_self]
  rfl

/-! ## Pins: the function (R498) -/

theorem State.pad_setPad_same {x : Pad} : (s.setPad k x).pad k = x := by
  rw [State.pad, State.setPad, Table.get_set_same]

theorem State.pad_ack : s.ack.pad k = s.pad k := by rfl

theorem State.pad_setFld {f : Field} {v : Nat} : (s.setFld f v).pad k = s.pad k := by rfl

theorem pinApplyGo_notHolder (hk : k < 384) (h : s.holds m (pinClaim k) = false) :
    pinApplyGo m k s = s.pinDenied m := by
  simp [pinApplyGo, Nat.not_lt.2 (Nat.le_of_lt_succ hk), h]

theorem pinApplyGo_holder (hk : k < 384) (h : s.holds m (pinClaim k) = true) : pinApplyGo m k s =
    (s.setPad k { s.pad k with due := some (BitVec.ofNat 4 ((F.PIN_FUNC_func k).get (s.shadow (R.PIN_FUNC k)))) }).ack := by
  simp [pinApplyGo, Nat.not_lt.2 (Nat.le_of_lt_succ hk), h]

/-- The pad of a pin at its commit edge: nothing is due, and the level that it drove last is held. -/
def State.committedPad (s : State) (k : Nat) : Pad :=
  { s.pad k with due := none, last := (s.setPad k { s.pad k with due := none }).padLevel k }

theorem pinCommit_due {f : BitVec 4} (h : (s.pad k).due = some f) : pinCommit k s =
    ((s.setPad k { s.pad k with due := none }).setPad k (s.committedPad k)).setFld (F.PIN_FUNC_func k) f.toNat := by
  simp only [pinCommit, h, State.commitFunc, State.pad_setPad_same, State.committedPad]

/-! ## Pins: outputs and electrical settings (R499, R500) -/

/-- The levels of a bank after a write of one of its output registers by the holder of the pins in `mask`. -/
def outLevels (r : PinOutReg) (old data mask : BitVec 24) : BitVec 24 :=
  match r with
  | .out => (old &&& ~~~mask) ||| (data &&& mask)
  | .set => old ||| (data &&& mask)
  | .clr => old &&& ~~~(data &&& mask)

/-- The level of one pin of the holder's after such a write. -/
def outLevel (r : PinOutReg) (old data : Bool) : Bool :=
  match r with
  | .out => data
  | .set => old || data
  | .clr => old && !data

/-- A pin outside the mask keeps its level; one in it takes the level, is set, or is cleared. -/
theorem getLsbD_outLevels (r : PinOutReg) (old data mask : BitVec 24) {i : Nat} (hi : i < 24) :
    (outLevels r old data mask).getLsbD i =
      if mask.getLsbD i then outLevel r (old.getLsbD i) (data.getLsbD i) else old.getLsbD i := by
  cases r <;> cases hm : mask.getLsbD i <;> simp only [outLevels, BitVec.getLsbD_or, BitVec.getLsbD_and,
    BitVec.getLsbD_not, hm, hi] <;> simp [outLevel]

theorem pinOut_holder {r : PinOutReg} {d : BitVec 24} (h : BitVec.ofNat 24 (s.heldMask m b) ≠ 0) : pinOut m b r d s =
    (s.setFld (F.PIN_OUT_data b) (outLevels r (BitVec.ofNat 24 (s.fld (F.PIN_OUT_data b))) d
      (BitVec.ofNat 24 (s.heldMask m b))).toNat).ack := by
  simp only [pinOut, if_neg h]
  cases r <;> rfl

theorem data_setFld (x : BitVec 24) :
    BitVec.ofNat 24 ((s.setFld (F.PIN_OUT_data b) x.toNat).fld (F.PIN_OUT_data b)) = x := by
  rw [State.fld_setFld_same _ _ _ (Nat.le_of_ble_eq_true rfl)]
  rw [show x.toNat % 2 ^ (F.PIN_OUT_data b).width = x.toNat from Nat.mod_eq_of_lt x.isLt, BitVec.ofNat_toNat, BitVec.setWidth_eq]

theorem pinElec_holder (h : s.holds m (pinClaim k) = true) : pinElec m k w s =
    ((s.setPad k { s.pad k with last := s.padLevel k }).setReg (R.PIN_ELEC k) (w &&& 0x3FF#32)).ack := if_neg (by simp [h])

end Sys2Proof.Machine
end

section
open Sys2Proof Sys2Proof.Machine

/-- Settles O9: each write by who holds the resource, the commit edge by the function that is due. -/
theorem pinsAndPllsObeyTheirHolder : Obligations.PinsAndPllsObeyTheirHolder := by
  unfold Obligations.PinsAndPllsObeyTheirHolder
  refine ⟨?noPage, ?page, ?noApply, ?apply, ?commit, ?out, ?elec⟩
  case noPage =>
    intro s m q w h
    rw [exec_fpllEnable, fpllWrite_notHolder h]
    rfl
  case page =>
    intro s m q w h hw
    rw [exec_fpllEnable, fpllWrite_disables h hw]
  case noApply =>
    intro s m k hk h
    rw [exec_pinApply, pinApplyGo_notHolder hk h]
    rfl
  case apply =>
    intro s m k hk h
    refine ⟨_, exec_pinApply, ?_⟩
    beta_reduce
    rw [pinApplyGo_holder hk h, State.pad_ack, State.pad_setPad_same]
    exact ⟨rfl, rfl⟩
  case commit =>
    intro s k f h
    refine ⟨_, exec_pinCommitEdge, ?_⟩
    beta_reduce
    rw [pinCommit_due h]
    refine ⟨?_, ?_, rfl, fun o ho => ?_⟩
    · exact (State.fld_setFld_same _ _ _ (Nat.le_of_ble_eq_true rfl)).trans (Nat.mod_eq_of_lt f.isLt)
    · rw [State.pad_setFld, State.pad_setPad_same, State.committedPad]
    · rw [State.reg_setFld_ne _ _ (List.ne_of_not_mem_cons ho), State.setPad_reg, State.setPad_reg]
  case out =>
    intro s m b r d h0 hlt
    have hmask : (BitVec.ofNat 24 (s.heldMask m b.val)).toNat = s.heldMask m b.val := Nat.mod_eq_of_lt hlt
    have hne : BitVec.ofNat 24 (s.heldMask m b.val) ≠ 0 := fun h => h0 (by rw [← hmask, h]; rfl)
    refine ⟨_, exec_pinOutWrite, ?_⟩
    beta_reduce
    rw [pinOut_holder hne]
    refine ⟨rfl, fun o ho => ?_, fun i hi => ?_⟩
    · rw [State.ack_reg, State.reg_setFld_ne _ _ (List.ne_of_not_mem_cons ho)]
    · rw [State.ack_fld, data_setFld, getLsbD_outLevels _ _ _ _ hi, BitVec.getLsbD, hmask]
      rfl
  case elec =>
    intro s m k w h
    refine ⟨_, exec_pinElecWrite, ?_⟩
    beta_reduce
    rw [pinElec_holder h]
    refine ⟨?_, fun o ho => ?_, rfl⟩
    · rw [State.ack_reg, State.reg_setReg_same]
    · rw [State.ack_reg, State.reg_setReg_ne _ _ (List.ne_of_not_mem_cons ho), State.setPad_reg]

end

section
/-! PROOFS. Clocks and supplies (R76, R280, R489 to R491, R501, R504): count windows, the loss and return of clocks, the
oscillators' ratio, VIO, rails, and the oscillator's temperature. -/

namespace Sys2Proof.Machine

variable {s : State} {c : Clock} {b : Bool} {n : Nat}

theorem exec_clockStabilityWindow : exec (.clockStabilityWindow c b) s = .next (clockWindow c b s) := by rfl
theorem exec_referenceSwitchBack : exec (.referenceSwitchBack c) s = .next (referenceBack c s) := by rfl
theorem exec_oscRatioCheck {r : BitVec 16} : exec (.oscRatioCheck r) s = .next (oscRatio r.toNat s) := by rfl
theorem exec_vioChange {k : Fin 16} {v : BitVec 12} : exec (.vioChange k v) s = .next (vioSet k.val v.toNat s) := by rfl
theorem exec_railOutOfRange {r : Rail} : exec (.railOutOfRange r) s = .next (s.tamper1 (256 + r.key)) := by rfl
theorem exec_tsenseSample {v : BitVec 12} {d h : BitVec 16} : exec (.tsenseSample v d h) s =
    .next (tsense v.toNat d h s) := by rfl

/-! ## Count windows (R489) -/

theorem State.runs_setRuns : Table.get zeroNat (s.setRuns c n).clk.runs c.key = n := Table.get_set_same ..

theorem State.runs_setClockStable {k : Nat} :
    Table.get zeroNat (s.setClockStable c b).clk.runs k = Table.get zeroNat s.clk.runs k := by
  unfold State.setClockStable
  split <;> rfl

theorem State.runs_rejudge : Table.get zeroNat (s.rejudge c).clk.runs c.key = 0 :=
  State.runs_setClockStable.trans State.runs_setRuns

/-- The counts of windows, the engines, and the fabric: what the loss of a clock leaves, but for the clock's own
count. -/
def State.besideClocks (s : State) : Table Nat × Table Engine × Fabric := (s.clk.runs, s.eng, s.fabric)

theorem State.besideClocks_fault (r : Master) (x : FaultClass) (j : Subject) (v d : Nat) (e : Bool) :
    (s.fault r x j v d e).besideClocks = s.besideClocks := by
  rw [State.besideClocks, State.besideClocks, State.fault_clk, State.fault_eng, State.fault_fabric]

/-- A bound is shown as some word, and at most reported beside that. -/
theorem State.showBound_cases : ∃ w, s.showBound b = s.tebSet b w ∨
    ∃ d, s.showBound b = ((s.tebSet b w).setDom b d).fault Unit.tim .tebLimit (.code 961) := by
  obtain ⟨w, hw⟩ : ∃ w, (if s.bit F.CLK_SRC_STATUS_xtime_ok then
      s.setTeb b (((s.dom b).teb + yScale - 1) / yScale) else s.unknownTeb b) = s.tebSet b w := by
    split
    · exact ⟨_, State.setTeb_eq _⟩
    · exact ⟨_, State.unknownTeb_eq⟩
  refine ⟨w, ?_⟩
  rw [State.showBound, hw]
  dsimp only
  split
  · exact .inr ⟨_, rfl⟩
  · exact .inl rfl

theorem State.besideClocks_showBound : (s.showBound b).besideClocks = s.besideClocks := by
  obtain ⟨w, h | ⟨d, h⟩⟩ := State.showBound_cases (s := s) (b := b)
  · rw [h]
    rfl
  · rw [h, State.besideClocks_fault]
    rfl

theorem State.besideClocks_showHoldover : (s.showHoldover b).besideClocks = s.besideClocks := by
  unfold State.showHoldover
  split
  · exact State.besideClocks_showBound
  · rfl

theorem State.besideClocks_clockFallback : (s.clockFallback c).besideClocks = s.besideClocks := by
  cases c with
  | xtalTime => exact State.besideClocks_showHoldover.trans State.besideClocks_showHoldover
  | _ => rfl

theorem State.besideClocks_clockLost : (s.clockLost c).besideClocks = (s.rejudge c).besideClocks := by
  unfold State.clockLost
  rw [State.besideClocks_clockFallback]
  split
  · exact (State.besideClocks_fault ..).trans (State.besideClocks_fault ..)
  · exact State.besideClocks_fault ..

theorem State.rejudge_eng_fabric : (s.rejudge c).eng = s.eng ∧ (s.rejudge c).fabric = s.fabric := by
  unfold State.rejudge State.setClockStable
  split <;> exact ⟨rfl, rfl⟩

/-- A window that disagrees sets the clock's count back, whether the clock was stable or not. -/
theorem clockWindow_disagrees : Table.get zeroNat (clockWindow c false s).clk.runs c.key = 0 ∧
    (clockWindow c false s).eng = s.eng ∧ (clockWindow c false s).fabric = s.fabric := by
  unfold clockWindow
  split
  case isFalse h => exact absurd rfl h
  case isTrue =>
    split
    · obtain ⟨hruns, hrest⟩ := Prod.mk.inj (State.besideClocks_clockLost (s := s) (c := c))
      obtain ⟨heng, hfabric⟩ := Prod.mk.inj hrest
      exact ⟨hruns ▸ State.runs_rejudge, heng.trans State.rejudge_eng_fabric.1, hfabric.trans State.rejudge_eng_fabric.2⟩
    · exact ⟨State.runs_setRuns, rfl, rfl⟩

theorem clockWindow_counts (h : Table.get zeroNat s.clk.runs c.key < 7) :
    clockWindow c true s = s.setRuns c (Table.get zeroNat s.clk.runs c.key + 1) := by
  have h8 : min 8 (Table.get zeroNat s.clk.runs c.key + 1) = Table.get zeroNat s.clk.runs c.key + 1 := by omega
  simp [clockWindow, h8, h.ne]

theorem clockWindow_eighth_xtalSys (h : 7 ≤ Table.get zeroNat s.clk.runs (Clock.key .xtalSys)) :
    clockWindow .xtalSys true s = (s.setRuns .xtalSys 8).setClockStable .xtalSys true := by
  have h8 : min 8 (Table.get zeroNat s.clk.runs (Clock.key .xtalSys) + 1) = 8 := by omega
  simp only [clockWindow, h8]
  rfl

/-! ## References, PLLs and oscillators (R76, R490, R491) -/

theorem referenceBack_xtalSys (h : s.clockStable .xtalSys = true) :
    referenceBack .xtalSys s = { s with clk := { s.clk with xsysSynth := false } } := if_neg (by simp [h])

/-- Both oscillators are shown as good or as bad. -/
def State.oscFlags (s : State) (ok : Bool) : State :=
  (s.setBit F.CLK_SRC_STATUS_fosc_ok ok).setBit F.CLK_SRC_STATUS_sosc_ok ok

/-- What is shown of the oscillators, and the clock that the husk runs on. -/
def State.oscShown (s : State) (ok : Bool) : State :=
  { s.oscFlags ok with clk := { s.clk with huskOnPll := !ok && (s.oscFlags ok).clockStable (.sysPll 0) } }

theorem oscRatio_within (hl : 300 ≤ n) (hh : n ≤ 500) : oscRatio n s = s.oscShown true := by
  simp [oscRatio, hl, hh, State.oscShown, State.oscFlags]

theorem oscRatio_outside (h : n < 300 ∨ 500 < n) : oscRatio n s = (s.oscShown false).tamper1 n := by
  have hn : ¬(300 ≤ n ∧ n ≤ 500) := by omega
  simp [oscRatio, hn, State.oscShown, State.oscFlags, ← Bool.decide_and]

theorem State.tamper1_bit {q : Field} (d : Nat) (h : q.off ≠ R.ERR_LOST) : (s.tamper1 d).bit q = s.bit q :=
  State.fault_bit_ne _ _ _ _ _ _ _ _ h

theorem State.tamper1_class1 (d : Nat) : (s.tamper1 d).trust.class1 = min 65535 (s.trust.class1 + 1) := by
  rw [State.tamper1, State.fault_trust]

theorem State.bit_oscShown {q : Field} : (s.oscShown b).bit q = (s.oscFlags b).bit q := by rfl

theorem State.fosc_oscShown : (s.oscShown b).bit F.CLK_SRC_STATUS_fosc_ok = b := by
  rw [State.bit_oscShown, State.oscFlags, State.bit_setBit_disjoint _ _ _ _ (by decide) (by decide),
    State.bit_setBit_same _ _ _ (by decide) rfl]

theorem State.sosc_oscShown : (s.oscShown b).bit F.CLK_SRC_STATUS_sosc_ok = b := by
  rw [State.bit_oscShown, State.oscFlags, State.bit_setBit_same _ _ _ (by decide) rfl]

/-! ## The oscillator's temperature (R280) -/

/-- A temperature is shown, as the sensor's own or as a fallback. -/
def State.tempShown (s : State) (v : BitVec 16) (b : Bool) : State :=
  ((s.setFld F.TIM_TEMP_temp v.toNat).setBit F.TIM_TEMP_valid true).setBit F.TIM_TEMP_fallback b

/-- A temperature is taken. -/
def State.tempTaken (s : State) (v : BitVec 16) (b : Bool) : State :=
  { s.tempShown v b with tim := { s.tim with tsenseFallback := b } }

theorem State.reg_tempTaken {v : BitVec 16} {k : Nat} : (s.tempTaken v b).reg k = (s.tempShown v b).reg k := by rfl

theorem tsense_reading {d h : BitVec 16} (hs : s.fld F.TIM_TSENSE_CFG_src = 0) (hl : 50 ≤ n) (hh : n ≤ 1750) :
    tsense n d h s = s.tempTaken (BitVec.ofInt 16 (s.tsenseTemp n)) false := by
  simp [tsense, hs, Nat.not_lt.2 hl, Nat.not_lt.2 hh, State.tempTaken, State.tempShown]

/-- A reading out of range: the die sensor's temperature is taken, reported where it was not a fallback before. -/
theorem tsense_fallback {d h : BitVec 16} (hs : s.fld F.TIM_TSENSE_CFG_src = 0) (hn : n < 50 ∨ 1750 < n) :
    tsense n d h s = if s.bit F.TIM_TEMP_fallback then s.tempTaken d true
      else (s.tempTaken d true).fault Unit.tim .tsense := by
  have hbad : (decide (n < 50) || decide (1750 < n)) = true := by simpa using hn
  simp only [tsense, hs, hbad]
  rfl

theorem State.tempTaken_shows (v : BitVec 16) : (s.tempTaken v b).bit F.TIM_TEMP_valid = true ∧
    (s.tempTaken v b).bit F.TIM_TEMP_fallback = b ∧ (s.tempTaken v b).fld F.TIM_TEMP_temp = v.toNat := by
  rw [State.bit_congr State.reg_tempTaken, State.bit_congr State.reg_tempTaken, State.fld_congr State.reg_tempTaken,
    State.tempShown]
  refine ⟨?_, State.bit_setBit_same _ _ _ (by decide) rfl, ?_⟩
  · rw [State.bit_setBit_disjoint _ _ _ _ (by decide) (by decide), State.bit_setBit_same _ _ _ (by decide) rfl]
  · rw [State.fld_setBit_disjoint _ _ _ _ (by decide) (by decide),
      State.fld_setBit_disjoint _ _ _ _ (by decide) (by decide), State.fld_setFld_same _ _ _ (by decide)]
    exact Nat.mod_eq_of_lt v.isLt

end Sys2Proof.Machine
end

section
open Sys2Proof Sys2Proof.Machine

/-- Settles O8: each event by its equation, and what it shows by the fields that it writes. -/
theorem clockAndSupplyEventsComplete : Obligations.ClockAndSupplyEventsComplete := by
  unfold Obligations.ClockAndSupplyEventsComplete
  refine ⟨?disagrees, ?eighth, ?counts, ?back, ?pll, ?ratio, ?badRatio, ?vio, ?rail, ?reading, ?fallback⟩
  case disagrees =>
    intro s c
    exact ⟨_, exec_clockStabilityWindow, clockWindow_disagrees⟩
  case eighth =>
    intro s h
    refine ⟨_, exec_clockStabilityWindow, ?_⟩
    beta_reduce
    rw [clockWindow_eighth_xtalSys h]
    refine ⟨State.bit_setBit_same _ _ _ (by decide) rfl, fun o ho => ?_, rfl⟩
    exact (State.reg_setBit_ne _ _ (List.ne_of_not_mem_cons ho)).trans (State.reg_eq_of_ctrl rfl o)
  case counts =>
    intro s c h
    rw [exec_clockStabilityWindow, clockWindow_counts h]
  case back =>
    intro s h
    rw [exec_referenceSwitchBack, referenceBack_xtalSys h]
  case pll =>
    intro s q
    rfl
  case ratio =>
    intro s r hl hh
    rw [exec_oscRatioCheck, oscRatio_within hl hh]
    rfl
  case badRatio =>
    intro s r h
    refine ⟨_, exec_oscRatioCheck, ?_⟩
    beta_reduce
    rw [oscRatio_outside h, State.tamper1_bit _ (by decide), State.tamper1_bit _ (by decide), State.tamper1_class1]
    exact ⟨State.fosc_oscShown, State.sosc_oscShown, rfl⟩
  case vio =>
    intro s k v
    exact exec_vioChange
  case rail =>
    intro s r
    exact exec_railOutOfRange
  case reading =>
    intro s v d h hs hl hh
    obtain ⟨hvalid, hfallback, htemp⟩ := State.tempTaken_shows (s := s) (b := false)
      (BitVec.ofInt 16 (s.tsenseTemp (BitVec.toNat v)))
    refine ⟨_, exec_tsenseSample, ?_⟩
    beta_reduce
    rw [tsense_reading hs hl hh]
    exact ⟨hvalid, hfallback, htemp, rfl⟩
  case fallback =>
    intro s v d h hs hn
    refine ⟨_, exec_tsenseSample, ?_⟩
    beta_reduce
    rw [tsense_fallback hs hn]
    split
    · exact State.tempTaken_shows d
    · rw [State.fault_bit_ne _ _ _ _ _ _ _ _ (by decide), State.fault_bit_ne _ _ _ _ _ _ _ _ (by decide),
        State.fault_fld_ne _ _ _ _ _ _ _ _ (by decide)]
      exact State.tempTaken_shows d

end

section
/-! PROOFS. Network ports (R341, R342, R346 to R351, R353, R354, R356, R357): blocks and links, received frames, the
ring, transmit frames and their stamps. -/

namespace Sys2Proof.Machine

variable {s t : State} {m src : Master} {b p n : Nat} {w : Word} {f : List Byte}

theorem exec_ntlBlockEnable {b : Fin 8} : exec (.ntlBlockEnable m b w) s = .next (blockCtrl b.val w s) := by rfl
theorem exec_portLinkUp {b : Fin 8} {p : Fin 4} : exec (.portLinkUp b p) s = .next (portLink b.val p.val s) := by rfl
theorem exec_ntlLaneLost {n : Fin 32} : exec (.ntlLaneLost n) s = .next (laneLost n.val s) := by rfl
theorem exec_ntlLaneRetrain {n : Fin 32} {r : Bool} : exec (.ntlLaneRetrain n r) s = .next (laneTrain n.val r s) := by rfl
theorem exec_rclkSquelchChange {i : Fin 2} {v : Bool} : exec (.rclkSquelchChange i v) s =
    .next (s.setBit (F.NTL_RCLK_squelched i.val) v) := by rfl
theorem exec_rxFrameComplete {b : Fin 8} {p : Fin 4} {g k o : Bool} {d : BitVec 48} :
    exec (.rxFrameComplete b p f g k d o) s = .next (rxFrame b.val p.val f (g && k) d.toNat o (s.fecBad b.val p.val k)) := by
  rfl
theorem exec_rxEnqueueResponse {b : Fin 8} {tag : BitVec 8} : exec (.rxEnqueueResponse b tag) s =
    .next (rxAnswer b.val tag s) := by rfl
theorem exec_ringFrameReceive {b : Fin 8} {p : Fin 4} {g k o : Bool} {d : BitVec 48} :
    exec (.ringFrameReceive b p f g k d o) s =
      .next (ringFrame b.val p.val f (g && k) d.toNat o (s.fecBad b.val p.val k)) := by rfl
theorem exec_txFrameMessage {b : Fin 8} {q c : Bool} : exec (.txFrameMessage b src f q c) s =
    .next (txMessage b.val src f q c s) := by rfl
theorem exec_txFrameAssemblyTimeout {b : Fin 8} : exec (.txFrameAssemblyTimeout b src) s =
    .next (txExpire b.val src s) := by rfl
theorem exec_txFrameSend {b : Fin 8} {p : Fin 4} : exec (.txFrameSend b p) s = .next (txSend b.val p.val s) := by rfl
theorem exec_ts2Pop {b : Fin 8} : exec (.ts2Pop m b) s = .next (ts2Read m (m.same .monitor) b.val s) := by rfl

/-! ## Blocks and ports: reads after writes -/

theorem State.portBlock_setPortBlock_same {x : PortBlock} : (s.setPortBlock b x).portBlock b = x := by
  rw [State.portBlock, State.setPortBlock, Table.get_set_same]

theorem State.netPort_setNetPort_same {x : NetPort} : (s.setNetPort b p x).netPort b p = x := by
  rw [State.netPort, State.setNetPort, Table.get_set_same]

theorem State.portBlock_congr (h : t.ntl = s.ntl) : t.portBlock b = s.portBlock b := by
  rw [State.portBlock, State.portBlock, h]

theorem ntlStatus_ne_errLost : R.NTL_PB_STATUS b ≠ R.ERR_LOST := by
  simp only [R.NTL_PB_STATUS, R.ERR_LOST]
  omega

theorem ntlStatus_ne_ntlCtrl : R.NTL_PB_STATUS b ≠ R.NTL_PB_CTRL b := by
  simp only [R.NTL_PB_STATUS, R.NTL_PB_CTRL]
  omega

/-! ## The mask of a block's four ports -/

theorem bitAt_eq_testBit (v i : Nat) : bitAt v i = v.testBit i := by
  rw [bitAt, Nat.testBit, Nat.one_and_eq_mod_two]
  rcases Nat.mod_two_eq_zero_or_one (v >>> i) with h | h <;> simp [h]

theorem bitAt_sub_two_pow {v i : Nat} (h : bitAt v i = true) : bitAt (v - 2 ^ i) i = false := by
  have hdiv : (v - 2 ^ i) / 2 ^ i = v / 2 ^ i - 1 := by simpa using Nat.sub_mul_div v (2 ^ i) 1
  simp only [bitAt, Nat.shiftRight_eq_div_pow, beq_iff_eq, beq_eq_false_iff_ne] at h ⊢
  omega

theorem bitAt_withBit_same (v i : Nat) (b : Bool) : bitAt (withBit v i b) i = b := by
  cases b with
  | true => simp [withBit, bitAt_eq_testBit]
  | false =>
    by_cases h : bitAt v i = true
    · simp [withBit, h, bitAt_sub_two_pow h]
    · simp [withBit, h]

theorem bitAt_mod_two_pow {v i w : Nat} (h : i < w) : bitAt (v % 2 ^ w) i = bitAt v i := by
  simp [bitAt_eq_testBit, Nat.testBit_mod_two_pow, h]

theorem State.bitAt_setLink4_same {f : Field} {v : Bool} (hw : f.lo + f.width ≤ 32) (hp : p < f.width) :
    bitAt ((s.setLink4 f p v).fld f) p = v := by
  rw [State.setLink4, State.fld_setFld_same _ _ _ hw, bitAt_mod_two_pow hp, bitAt_withBit_same]

theorem State.linkUp_setFecLock {c : Bool} :
    (s.setLink4 (F.NTL_PB_STATUS_fec_lock b) p c).fld (F.NTL_PB_STATUS_link_up b) =
      s.fld (F.NTL_PB_STATUS_link_up b) :=
  State.fld_setFld_disjoint _ _ _ _ (Nat.le_of_ble_eq_true rfl) (.inr (.inl (Nat.le_of_ble_eq_true rfl)))

/-! ## Blocks, links and lanes (R341, R342, Table 11.4) -/

theorem blockCtrl_refused (hen : s.bit (F.NTL_PB_CTRL_en b) = true)
    (h : bitsOf w 29 2 ≠ s.fld (F.NTL_PB_CTRL_mode b) ∨ bitsOf w 28 1 ≠ s.fld (F.NTL_PB_CTRL_fec b)) :
    blockCtrl b w s = s.ntlRefuse b Code.notPermitted := if_pos ⟨hen, h⟩

/-- A port forgets the frames that it has not sent. -/
def State.portEmptied (s : State) (b p : Nat) : State :=
  s.setNetPort b p { s.netPort b p with fifo := [], ring := [] }

/-- A block without frames, as it is enabled or disabled. -/
def State.blockEmptied (s : State) (b : Nat) : State :=
  ((((s.setPortBlock b { s.portBlock b with asm := [], waiting := [] }).portEmptied b 0).portEmptied b 1).portEmptied b
    2).portEmptied b 3

theorem State.portBlock_portEmptied {c : Nat} : (s.portEmptied b p).portBlock c = s.portBlock c := by rfl

theorem State.reg_portEmptied (k : Nat) : (s.portEmptied b p).reg k = s.reg k := by rfl

theorem State.portBlock_blockEmptied :
    (s.blockEmptied b).portBlock b = { s.portBlock b with asm := [], waiting := [] } := by
  rw [State.blockEmptied, State.portBlock_portEmptied, State.portBlock_portEmptied, State.portBlock_portEmptied,
    State.portBlock_portEmptied, State.portBlock_setPortBlock_same]

theorem State.reg_blockEmptied (k : Nat) : (s.blockEmptied b).reg k = s.reg k := by
  rw [State.blockEmptied, State.reg_portEmptied, State.reg_portEmptied, State.reg_portEmptied,
    State.reg_portEmptied, State.setPortBlock_reg]

theorem blockCtrl_enables (hen : s.bit (F.NTL_PB_CTRL_en b) = false) (hl : 1518 ≤ bitsOf w 0 14)
    (hh : bitsOf w 0 14 ≤ 9216) (hf : bitsOf w 28 1 = 0 ∨ bitsOf w 29 2 ≠ 3) (hw : w.getLsbD 31 = true) :
    blockCtrl b w s = ((((s.setReg (R.NTL_PB_CTRL b) (w &&& 0xFC003FFF#32)).setFld (F.NTL_PB_STATUS_link_up b) 0).setFld
      (F.NTL_PB_STATUS_fec_lock b) 0).blockEmptied b).ack := by
  have hok : ¬((bitsOf w 28 1 = 1 ∧ bitsOf w 29 2 = 3) ∨ bitsOf w 0 14 < 1518 ∨ 9216 < bitsOf w 0 14) := by omega
  simp only [blockCtrl, hen, hw, if_neg hok]
  rfl

theorem portLink_comesUp (hr : s.blockRuns b = true) (hp : s.hasPort b p = true) (hl : (s.portBlock b).lost = 0) :
    portLink b p s = (s.setLink4 (F.NTL_PB_STATUS_link_up b) p true).setLink4 (F.NTL_PB_STATUS_fec_lock b) p
      (s.bit (F.NTL_PB_CTRL_fec b)) := by
  simp [portLink, hr, hp, hl]

/-- A lane lost in a block of four ports takes its own port down. -/
theorem laneLost_takesDown (hr : s.blockRuns (n / 4) = true)
    (hl : (s.portBlock (n / 4)).lost.getLsbD (n % 4) = false) (hm : s.fld (F.NTL_PB_CTRL_mode (n / 4)) = 2) :
    laneLost n s = (((s.setPortBlock (n / 4) { s.portBlock (n / 4) with
      lost := (s.portBlock (n / 4)).lost ||| (1#4 <<< (n % 4)) }).portDown (n / 4) (n % 4)).fault (Unit.ntl (n / 4))
        .ntlLink (.unit (Unit.ntl (n / 4))) 0 n) := by
  simp [laneLost, hr, hl, hm]

theorem getLsbD_or_one_shiftLeft (x : BitVec 4) {i : Nat} (h : i < 4) : (x ||| (1#4 <<< i)).getLsbD i = true := by
  simp [h]

theorem getLsbD_and_not_one_shiftLeft (x : BitVec 4) {i : Nat} (h : i < 4) :
    (x &&& ~~~(1#4 <<< i)).getLsbD i = false := by
  simp [h]

theorem State.linkUp_portDown (h : p < 4) :
    bitAt ((s.portDown b p).fld (F.NTL_PB_STATUS_link_up b)) p = false := by
  rw [State.portDown, State.linkUp_setFecLock, State.bitAt_setLink4_same (Nat.le_of_ble_eq_true rfl) h]

/-! ## Received frames (R346 to R348) -/

theorem State.fecBad_good : s.fecBad b p true = s := if_neg (by simp)

theorem rxFrame_up {g o : Bool} {d : Nat} (hu : s.portUp b p = true) (hf : s.ntlFrozen = false) :
    rxFrame b p f g d o s = s.deliverFrame b p f g (s.rxStamp b d o).1 (s.rxStamp b d o).2 := by
  simp [rxFrame, hu, hf]

theorem rxFrame_down {g o : Bool} {d : Nat} (hu : s.portUp b p = false) : rxFrame b p f g d o s = s :=
  if_pos (by simp [hu])

/-- A good frame that fits the buffer, without a tag and no PTP frame, is enqueued at the port's own priority. -/
theorem State.deliverFrame_enqueues {x : BitVec 96} {dom : Bool} (hl : 64 ≤ f.length)
    (hh : f.length ≤ s.fld (F.NTL_PB_CTRL_max_len b)) (hr : s.rxHeld b + f.length ≤ 262144) (hp : ptpOf f = none)
    (hv : vlanTag f = none) : s.deliverFrame b p f true x dom = (s.setPortBlock b { s.portBlock b with
      rx := (s.portBlock b).rx ++ [((s.portBlock b).nextTag, p, f.length)]
      nextTag := (s.portBlock b).nextTag + 1 }).enqueueEntry
        (QHead.mk (Unit.ntl b) (s.portBlock b).nextTag (BitVec.ofNat 20 (s.fld (F.NTL_PB_RXQ_base b p) +
          s.fld (F.NTL_PB_RXQ_def_pcp b p))) false 0) s.now32 0 0
        (rxPrefix x dom false false p ++ f.take (f.length - 4)) := by
  have hgood : (!true || decide (f.length < 64) || decide (s.fld (F.NTL_PB_CTRL_max_len b) < f.length)) = false := by
    simp [hl, hh]
  have hroom : ¬(262144 < s.rxHeld b + f.length ∨ f.length < 5) := by omega
  simp only [State.deliverFrame, hgood, if_neg hroom, hp, hv]
  rfl

theorem State.deliverFrame_drops {g dom : Bool} {x : BitVec 96}
    (h : f.length < 64 ∨ s.fld (F.NTL_PB_CTRL_max_len b) < f.length ∨ g = false)
    (hk : s.bit (F.NTL_PB_CTRL_keep_bad b) = false) : s.deliverFrame b p f g x dom = s.rxDrop b p := by
  refine if_pos ?_
  rcases h with h | h | h <;> simp [h, hk]

theorem rxAnswer_frees {tag : BitVec 8} {r : BitVec 8 × Nat × Nat} {a : Nat × BitVec 8 × List Byte}
    (hr : (s.portBlock b).rx.find? (fun y => y.1 == tag) = some r)
    (ha : s.qe.answers.find? (fun y => y.1 == (Unit.ntl b).key && y.2.1 == tag) = some a)
    (h0 : ofBytes (a.2.2.take 2) = 0) : rxAnswer b tag s =
      { s.setPortBlock b { s.portBlock b with rx := (s.portBlock b).rx.filter fun y => y.1 != tag } with
        qe := { s.qe with answers := s.qe.answers.filter fun y => !(y.1 == (Unit.ntl b).key && y.2.1 == tag) } } := by
  simp [rxAnswer, hr, ha, h0]

/-! ## The ring (R357) -/

theorem ringFrame_ordinary {g o : Bool} {d : Nat} (h : s.ringPeer b p = none) :
    ringFrame b p f g d o s = rxFrame b p f g d o s := by
  simp [ringFrame, h]

theorem ringFrame_drops {g o : Bool} {d q : Nat} (hq : s.ringPeer b p = some q) (hu : s.portUp b p = true)
    (ht : be16 f 12 = s.fld F.NTL_RING_tpid) (h : byteAt f 15 = s.fld F.NTL_RING_ring_id ∨ byteAt f 14 ≤ 1) :
    ringFrame b p f g d o s = s.satFld (F.NTL_PB_COUNT1_ring_drop b p) (F.NTL_PB_COUNT0_overflow b p) := by
  have hdrop : byteAt f 15 = s.fld F.NTL_RING_ring_id ∨ byteAt f 14 - 1 = 0 := by omega
  simp [ringFrame, hq, hu, ht, hdrop]

/-! ## Transmit frames (R349 to R351) -/

theorem State.txFrame_congr (h : t.portBlock b = s.portBlock b) : t.txFrame b src = s.txFrame b src := by
  rw [State.txFrame, State.txFrame, h]

/-- Where nothing waits, nothing is admitted. -/
theorem State.txAdmit_nothing (h : (s.portBlock b).waiting = []) : s.txAdmit b = s.setPortBlock b (s.portBlock b) := by
  have hnone : { s.portBlock b with waiting := [] } = s.portBlock b := by rw [← h]
  rw [State.txAdmit, h, hnone]
  rfl

section
variable (hw : (s.portBlock b).waiting = [])
include hw

theorem State.portBlock_txAdmit_nothing : (s.txAdmit b).portBlock b = s.portBlock b := by
  rw [State.txAdmit_nothing hw, State.portBlock_setPortBlock_same]

/-- A message of a source without an open frame is a header, where the block can open one more. -/
theorem txMessage_header (hf : s.ntlFrozen = false) (hn : s.txFrame b src = none)
    (hl : (s.portBlock b).asm.length < 16) : txMessage b src f false true s =
      ((s.setPortBlock b (s.portBlock b)).txHeader b src f none).txAdmit b := by
  have hnone : (s.setPortBlock b (s.portBlock b)).txFrame b src = none :=
    (State.txFrame_congr State.portBlock_setPortBlock_same).trans hn
  have hfree : (s.setPortBlock b (s.portBlock b)).txWaits b src = false := by
    have hfrozen : (s.setPortBlock b (s.portBlock b)).ntlFrozen = false := hf
    rw [State.txWaits, State.portBlock_setPortBlock_same, hnone, hfrozen, hw]
    simp [hl]
  simp [txMessage, State.txAdmit_nothing hw, State.txOffer, hfree, State.txTake, hnone]

end

theorem State.portBlock_txDecode : (s.txDecode b src).portBlock b = s.portBlock b :=
  State.portBlock_congr (State.fault_ntl ..)

theorem State.txHeader_malformed {a : Option Bool} (h : f.length ≠ 16) : s.txHeader b src f a = s.txDecode b src :=
  if_pos h

/-- A header that keeps the rules of R349 opens a frame. -/
theorem State.txHeader_opens {fl len : Nat} (h16 : f.length = 16) (hfl : fl = ofBytes ((f.drop 8).take 4))
    (hlen : len = ofBytes ((f.drop 12).take 2) + 1) (h10 : fl / 2 ^ 10 % 64 = 0) (h2 : fl / 4 % 64 = 0)
    (h3 : fl % 4 ≠ 3) (hu : s.portUp b (fl / 256 % 4) = true) (h60 : 60 ≤ len)
    (hmax : len + 4 ≤ s.fld (F.NTL_PB_CTRL_max_len b)) : s.txHeader b src f none =
      s.putTx b (TxFrame.mk src (fl / 256 % 4) (fl % 4) (BitVec.ofNat 16 (fl / 65536)) len [] none false s.now) := by
  have hok : (fl / 2 ^ 10 % 64 == 0 && fl / 4 % 64 == 0 && fl % 4 != 3 && s.portUp b (fl / 256 % 4) &&
      decide (60 ≤ len) && decide (len + 4 ≤ s.fld (F.NTL_PB_CTRL_max_len b))) = true := by
    rw [h10, h2, bne_iff_ne.2 h3, hu, decide_eq_true h60, decide_eq_true hmax]
    rfl
  subst hfl hlen
  simp only [State.txHeader, if_neg (not_not.2 h16), hok]
  rfl

theorem State.portBlock_putTx {a : TxFrame} : (s.putTx b a).portBlock b = { s.portBlock b with
    asm := ((s.portBlock b).asm.filter fun x => !x.src.same a.src) ++ [a] } := by
  rw [State.putTx, State.portBlock_setPortBlock_same, State.dropTx, State.portBlock_setPortBlock_same]

theorem State.ctrl_putTx {a : TxFrame} : (s.putTx b a).ctrl = s.ctrl := by
  rw [State.putTx, State.setPortBlock_ctrl, State.dropTx, State.setPortBlock_ctrl]

theorem State.faults_putTx {a : TxFrame} : (s.putTx b a).faults = s.faults := by
  rw [State.putTx, State.setPortBlock_faults, State.dropTx, State.setPortBlock_faults]

theorem Master.same_self (m : Master) : m.same m = true := beq_self_eq_true _

theorem State.txFrame_putTx {a : TxFrame} : (s.putTx b a).txFrame b a.src = some a := by
  rw [State.txFrame, State.portBlock_putTx, List.find?_append]
  have hnone : ((s.portBlock b).asm.filter fun x => !x.src.same a.src).find? (fun x => x.src.same a.src) = none := by
    simp
  simp [hnone, Master.same_self]

/-- The last data message of a frame queues it on its port. -/
theorem State.txData_completes {a : TxFrame} (hn : f.length = packetBytes a.length a.bytes.length)
    (hd : a.discard = false) (ha : a.abort = none) (hl : a.length ≤ a.bytes.length + f.length) :
    s.txData b a f none = (s.dropTx b a.src).setNetPort b a.port { s.netPort b a.port with
      fifo := (s.netPort b a.port).fifo ++ [{ a with bytes := a.bytes ++ f, last := s.now }] } := by
  have hwhole : ¬((a.bytes ++ f).length < a.length) := by simpa using hl
  cases a
  subst ha hd
  simp only [State.txData, if_neg (not_not.2 hn), if_neg hwhole]
  rfl

theorem txExpire_due {a : TxFrame} (ha : s.txFrame b src = some a) (hl : a.last + 64000 ≤ s.now)
    (hf : s.ntlFrozen = false) (hd : a.discard = false) :
    txExpire b src s = ((s.txDecode b src).dropTx b src).txAdmit b := by
  simp [txExpire, ha, hl, hf, hd]

/-! ## Sending and stamps (R350 to R354) -/

section
variable (hu : s.portUp b p = true)
include hu

/-- What the ring forwards goes first. -/
theorem txSend_ring {g : Bool} {l : List (List Byte × Bool)} (hr : (s.netPort b p).ring = (f, g) :: l) :
    txSend b p s = (s.setNetPort b p { s.netPort b p with ring := l }).sendFrame b p (f.take (f.length - 4)) g := by
  simp [txSend, hu, hr]

theorem txSend_queued {a : TxFrame} {l : List TxFrame} {u : List Byte × State} (hr : (s.netPort b p).ring = [])
    (hq : (s.netPort b p).fifo = a :: l) (ha : a.abort = none)
    (hu' : u = (s.setNetPort b p { s.netPort b p with fifo := l }).stampFrame b p a) :
    txSend b p s = u.2.sendFrame b p (u.2.ringTagged b p u.1) true := by
  subst hu'
  simp [txSend, hu, hr, hq, ha]

end

theorem State.sent_sendFrame {g : Bool} : ((s.sendFrame b p f g).netPort b p).sent =
    f ++ if g then fcsOf f else (fcsOf f).map fun x => ~~~x :=
  congrArg NetPort.sent State.netPort_setNetPort_same

theorem ts2Read_oldest {r : StampRec} {l : List StampRec} {q : Bool} (h : (s.portBlock b).stamps = r :: l) :
    ((ts2Read m q b s).portBlock b).stamps = (if q then r :: l else l) ∧
      (ts2Read m q b s).response = .data (toBytes 4 r.ns.toNat) false := by
  rw [ts2Read, h]
  refine ⟨?_, rfl⟩
  exact congrArg PortBlock.stamps (State.portBlock_setPortBlock_same (s := s))

theorem State.stampRecord_room {r : StampRec} (h : (s.portBlock b).stamps.length < 64)
    (hm : s.bit (F.NTL_PB_TS_ts_mbx_en b) = false) : s.stampRecord b p r =
      s.setPortBlock b { s.portBlock b with stamps := (s.portBlock b).stamps ++ [r] } := by
  simp [State.stampRecord, h.not_ge, hm]

end Sys2Proof.Machine
end

section
open Sys2Proof Sys2Proof.Machine

/-- Settles O53: a block's register and links, the frames received and their answers, the ring, the messages of a
frame to send, and the stamps, each by its equation. -/
theorem networkPortsCarryFrames : Obligations.NetworkPortsCarryFrames := by
  unfold Obligations.NetworkPortsCarryFrames
  refine ⟨?refused, ?enabled, ?linkUp, ?laneLost, ?retrain, ?squelch, ?received, ?down, ?enqueued, ?dropped, ?answered,
    ?ordinary, ?ringDrop, ?malformed, ?header, ?data, ?silent, ?ringFirst, ?queued, ?fcs, ?pop, ?record⟩
  case refused =>
    intro s m b w hen h
    rw [exec_ntlBlockEnable, blockCtrl_refused hen h]
    rfl
  case enabled =>
    intro s m b w hen hl hh hf hw
    refine ⟨_, exec_ntlBlockEnable, ?_⟩
    beta_reduce
    rw [blockCtrl_enables hen hl hh hf hw, State.ack_reg, State.ack_fld, State.fld_congr (State.reg_blockEmptied _),
      State.reg_blockEmptied, State.reg_setFld_ne _ _ ntlStatus_ne_ntlCtrl.symm,
      State.reg_setFld_ne _ _ ntlStatus_ne_ntlCtrl.symm, State.reg_setReg_same, State.portBlock_congr (State.ack_ntl ..),
      State.portBlock_blockEmptied]
    refine ⟨rfl, ?_, rfl, rfl, rfl⟩
    exact (State.fld_setFld_disjoint _ _ _ _ (Nat.le_of_ble_eq_true rfl) (.inr (.inl (Nat.le_of_ble_eq_true rfl)))).trans
      (State.fld_setFld_same _ _ _ (Nat.le_of_ble_eq_true rfl))
  case linkUp =>
    intro s b p hr hp hl _
    refine ⟨_, exec_portLinkUp, ?_⟩
    beta_reduce
    rw [portLink_comesUp hr hp hl, State.linkUp_setFecLock, State.bitAt_setLink4_same (Nat.le_of_ble_eq_true rfl) p.isLt]
    exact ⟨rfl, rfl⟩
  case laneLost =>
    intro s n hr hl hm
    refine ⟨_, exec_ntlLaneLost, ?_⟩
    have h4 : n.val % 4 < 4 := Nat.mod_lt _ (by decide)
    beta_reduce
    rw [laneLost_takesDown hr hl hm, State.portBlock_congr (State.fault_ntl ..),
      State.fault_fld_ne _ _ _ _ _ _ _ _ ntlStatus_ne_errLost, State.linkUp_portDown h4]
    refine ⟨?_, rfl⟩
    exact (congrArg (fun x : PortBlock => x.lost.getLsbD _) (State.portBlock_setPortBlock_same (s := s))).trans
      (getLsbD_or_one_shiftLeft _ h4)
  case retrain =>
    intro s n
    refine ⟨exec_ntlLaneRetrain, _, exec_ntlLaneRetrain, ?_, rfl⟩
    exact (congrArg (fun x : PortBlock => x.lost.getLsbD _) (State.portBlock_setPortBlock_same (s := s))).trans
      (getLsbD_and_not_one_shiftLeft _ (Nat.mod_lt _ (by decide)))
  case squelch =>
    intro s i v
    exact exec_rclkSquelchChange
  case received =>
    rintro s b p f d o _ hu hf rfl
    rw [exec_rxFrameComplete, State.fecBad_good, rxFrame_up hu hf]
    rfl
  case down =>
    intro s b p f d o hu
    rw [exec_rxFrameComplete, State.fecBad_good, rxFrame_down hu]
  case enqueued =>
    rintro s b p f t dom _ _ rfl hl hh hr hp hv rfl
    exact State.deliverFrame_enqueues hl hh hr hp hv
  case dropped =>
    intro s b p f g t dom h hk
    exact State.deliverFrame_drops h hk
  case answered =>
    intro s b tag r a hr ha h0
    refine ⟨_, exec_rxEnqueueResponse, ?_⟩
    beta_reduce
    rw [rxAnswer_frees hr ha h0]
    exact ⟨congrArg PortBlock.rx (State.portBlock_setPortBlock_same (s := s)), rfl⟩
  case ordinary =>
    intro s b p f d o h
    rw [exec_ringFrameReceive, exec_rxFrameComplete, State.fecBad_good, ringFrame_ordinary h]
  case ringDrop =>
    intro s b p f d o q hq hu ht h
    rw [exec_ringFrameReceive, State.fecBad_good, ringFrame_drops hq hu ht h]
  case malformed =>
    intro s b src p hf hw hn hl h16
    refine ⟨_, exec_txFrameMessage, ?_⟩
    have hkept : ((s.setPortBlock b.val (s.portBlock b.val)).txDecode b.val src).portBlock b.val = s.portBlock b.val :=
      State.portBlock_txDecode.trans State.portBlock_setPortBlock_same
    beta_reduce
    rw [txMessage_header hw hf hn hl, State.txHeader_malformed h16,
      State.portBlock_txAdmit_nothing ((congrArg PortBlock.waiting hkept).trans hw), hkept]
    exact ⟨rfl, hw⟩
  case header =>
    intro s b src p fl len hf hw hn hl h16 hfl hlen h10 h2 h3 hu h60 hmax
    refine ⟨_, exec_txFrameMessage, ?_⟩
    have hwait : ∀ a, (((s.setPortBlock b.val (s.portBlock b.val)).putTx b.val a).portBlock b.val).waiting = [] := by
      intro a
      rw [State.portBlock_putTx, State.portBlock_setPortBlock_same, hw]
    beta_reduce
    rw [txMessage_header hw hf hn hl,
      State.txHeader_opens (s := s.setPortBlock b.val (s.portBlock b.val)) h16 hfl hlen h10 h2 h3 hu h60 hmax,
      State.txFrame_congr (State.portBlock_txAdmit_nothing (hwait _)), State.txAdmit_nothing (hwait _),
      State.setPortBlock_ctrl, State.setPortBlock_faults, State.ctrl_putTx, State.faults_putTx]
    exact ⟨State.txFrame_putTx, rfl, rfl⟩
  case data =>
    intro s b a p hn hd ha hl
    exact State.txData_completes hn hd ha hl
  case silent =>
    intro s b src a ha hl hf hd
    rw [exec_txFrameAssemblyTimeout, txExpire_due ha hl hf hd]
  case ringFirst =>
    intro s b p f g l hu hr
    rw [exec_txFrameSend, txSend_ring hu hr]
  case queued =>
    intro s b p a l u hu hr hq ha hu'
    rw [exec_txFrameSend, txSend_queued hu hr hq ha hu']
  case fcs =>
    intro s b p f
    exact ⟨State.sent_sendFrame, State.sent_sendFrame⟩
  case pop =>
    intro s m b r l h
    exact ⟨_, exec_ts2Pop, ts2Read_oldest h⟩
  case record =>
    intro s b p r h hm
    rw [State.stampRecord_room h hm, State.portBlock_setPortBlock_same]

end

section
/-! PROOFS. The governor (R468 to R472): a surge asked for and refused, its ledger, the steps of VENG and of the
engine clock, its ends, and what a sample shows. -/

namespace Sys2Proof.Machine

variable {s : State} {m : Master} {w : Word} {g : GovSample} {b : Bool} {c : Nat}

theorem exec_surge : exec (.surge m w) s = .next (govCtrl (w ||| 0x80000000#32) s) := by rfl
theorem exec_surgeCancel : exec (.surgeCancel m w) s = .next (govCtrl (w ||| 0x40000000#32) s) := by rfl
theorem exec_ledgerFlashWriteDone : exec .ledgerFlashWriteDone s = .next (ledgerWritten s) := by rfl
theorem exec_vengStep : exec (.vengStep b) s = .next (vengGo b s) := by rfl
theorem exec_engineClockStep : exec .engineClockStep s = .next (clockGo s) := by rfl
theorem exec_surgeEnd : exec .surgeEnd s = .next (surgeEnds s) := by rfl
theorem exec_ledgerCharge : exec .ledgerCharge s = .next (chargeGo s) := by rfl
theorem exec_governorSample : exec (.governorSample g) s = .next (govSample g s) := by rfl

/-! ## Words with a bit set -/

theorem bitsOf_or_twoPow {k lo n : Nat} (h : lo + n ≤ k) : bitsOf (w ||| BitVec.twoPow 32 k) lo n = bitsOf w lo n := by
  refine Nat.eq_of_testBit_eq fun j => ?_
  rw [testBit_bitsOf, testBit_bitsOf]
  by_cases hj : j < n
  · have hne : lo + j ≠ k := by omega
    simp [BitVec.getLsbD_twoPow, hne.symm]
  · simp [hj]

theorem govCtrl_surge (h : w.getLsbD 30 = false) : govCtrl (w ||| 0x80000000#32) s =
    (s.setFld F.ERR_GOV_CTRL_duration_s (bitsOf w 0 16)).surgeAsk.ack := by
  have hd : bitsOf (w ||| 0x80000000#32) 0 16 = bitsOf w 0 16 := bitsOf_or_twoPow (k := 31) (by decide)
  have h30 : (w ||| 0x80000000#32).getLsbD 30 = false := by rw [BitVec.getLsbD_or, h]; rfl
  have h31 : (w ||| 0x80000000#32).getLsbD 31 = true := by rw [BitVec.getLsbD_or]; exact Bool.or_true _
  simp only [govCtrl, hd, h30, h31]
  rfl

theorem govCtrl_cancel (h : w.getLsbD 31 = false) : govCtrl (w ||| 0x40000000#32) s =
    ((s.setFld F.ERR_GOV_CTRL_duration_s (bitsOf w 0 16)).leave Gov.endCancel).ack := by
  have hd : bitsOf (w ||| 0x40000000#32) 0 16 = bitsOf w 0 16 := bitsOf_or_twoPow (k := 30) (by decide)
  have h30 : (w ||| 0x40000000#32).getLsbD 30 = true := by rw [BitVec.getLsbD_or]; exact Bool.or_true _
  have h31 : (w ||| 0x40000000#32).getLsbD 31 = false := by rw [BitVec.getLsbD_or, h]; rfl
  simp only [govCtrl, hd, h30, h31]
  rfl

/-! ## The governor's state -/

theorem State.govState_setGov (h : c < 4) : (s.setGov c).govState = c := by
  rw [State.govState, State.setGov, State.fld_setFld_same _ _ _ (by decide)]
  exact Nat.mod_eq_of_lt h

theorem State.govState_setFld {q : Field} (v : Nat)
    (h : R.ERR_GOV_STATUS ≠ q.off ∨ 2 ≤ q.lo) : (s.setFld q v).govState = s.govState :=
  State.fld_setFld_disjoint _ _ _ _ (by decide) (h.imp_right .inl)

theorem State.govState_surgeRecord (d : Nat) : (s.surgeRecord d).govState = s.govState :=
  State.fault_fld_ne _ _ _ _ _ _ _ _ (by decide)

theorem State.engMhz_setGov : (s.setGov c).engMhz = s.engMhz := State.fld_setFld_ne _ _ _ _ (by decide)

/-! ## A surge ends (R471, R472) -/

/-- A surge that ends is LEAVING with its cause, and waits for no write of its ledger. -/
def State.leaves (s : State) (c : Nat) : State :=
  ((s.setGov Gov.leaving).setFld F.ERR_GOV_STATUS_end_cause c).setHusk { s.husk with writing := false }

theorem State.engMhz_leaves : (s.leaves c).engMhz = s.engMhz := by
  rw [State.engMhz, State.leaves, State.setHusk_fld, State.fld_setFld_ne _ _ _ _ (by decide)]
  exact State.engMhz_setGov

theorem State.govState_leaves : (s.leaves c).govState = Gov.leaving := by
  rw [State.govState, State.leaves, State.setHusk_fld]
  exact (State.govState_setFld _ (.inr (by decide))).trans (State.govState_setGov (by decide))

theorem State.endCause_leaves : (s.leaves c).fld F.ERR_GOV_STATUS_end_cause = c % 16 := by
  rw [State.leaves, State.setHusk_fld, State.fld_setFld_same _ _ _ (by decide)]
  rfl

theorem State.leave_eq (hg : s.govState = Gov.entering ∨ s.govState = Gov.surge)
    (h : s.husk.veng ≠ 750 ∨ s.engMhz ≠ 1600) : s.leave c = s.leaves c := by
  have hrun : ¬((s.leaves c).husk.veng = 750 ∧ (s.leaves c).engMhz = 1600) := by
    rw [State.engMhz_leaves, not_and_or]
    exact h
  rw [State.leave, if_pos hg]
  exact if_neg hrun

theorem State.leave_idle (he : s.govState ≠ Gov.entering) (hs : s.govState ≠ Gov.surge) : s.leave c = s :=
  if_neg (not_or.2 ⟨he, hs⟩)

theorem State.surgeOver_spec : s.surgeOver.govState = Gov.nominal ∧ s.surgeOver.husk.veng = s.husk.veng ∧
    s.surgeOver.flash.ledger = s.husk.ledger := by
  have hh : ((s.setGov Gov.nominal).surgeRecord (s.fld F.ERR_GOV_STATUS_end_cause)).husk = s.husk :=
    State.fault_husk ..
  have hveng := congrArg Husk.veng hh
  have hledger := congrArg Husk.ledger hh
  refine ⟨?_, hveng, hledger⟩
  exact (State.govState_surgeRecord _).trans (State.govState_setGov (by decide))

theorem surgeEnds_duration {t : Nat} (h : s.husk.surgeEnd = some t) (ht : t ≤ s.now) :
    surgeEnds s = s.leave Gov.endDuration := by
  simp [surgeEnds, h, ht]

theorem surgeEnds_ledger (h : s.husk.surgeEnd = none) (hl : s.husk.ledger ≤ 1) :
    surgeEnds s = s.leave Gov.endLedger := by
  simp [surgeEnds, h, hl]

/-! ## A surge is asked for (R469, R470) -/

/-- A surge is refused: the cause and the status are shown. -/
theorem State.surgeAsk_refused (h : s.surgeCause ≠ 0) : s.surgeAsk =
    (s.setFld F.ERR_GOV_STATUS_refuse_cause s.surgeCause).setFld F.ERR_GOV_STATUS_last_status Code.notPermitted :=
  if_pos h

theorem State.surgeCause_le : s.surgeCause ≤ 5 := by
  unfold State.surgeCause
  split_ifs <;> decide

/-- The registers of a surge that enters: no cause of refusal or end, and the state. -/
def State.surgeShown (s : State) : State :=
  ((s.setFld F.ERR_GOV_STATUS_refuse_cause 0).setFld F.ERR_GOV_STATUS_last_status 0).setFld F.ERR_GOV_STATUS_end_cause 0

theorem State.surgeAsk_enters (h : s.surgeCause = 0) : ∃ e : Option Nat, s.surgeAsk =
    ((s.surgeShown.setHusk { s.husk with writing := true, charged := 0, surgeEnd := e }).setGov
      Gov.entering).surgeRecord 0 := by
  simp only [State.surgeAsk, h]
  exact ⟨_, rfl⟩

/-! ## Steps (R470, R471) and the ledger (R472) -/

/-- The ledger's copy in flash is 60 s ahead. -/
def State.ledgerAhead (s : State) : State := { s with flash := { s.flash with ledger := s.husk.ledger - 6000 } }

theorem State.now_flash (x : Flash) : ({ s with flash := x } : State).now = s.now := State.now_congr rfl

theorem State.now_ledgerAhead : s.ledgerAhead.now = s.now := State.now_flash _

theorem State.ctrl_ledgerAhead : s.ledgerAhead.ctrl = s.ctrl := by rw [State.ledgerAhead]

theorem ledgerWritten_entering (hg : s.govState = Gov.entering) (hw : s.husk.writing = true) : ledgerWritten s =
    s.ledgerAhead.setHusk { s.ledgerAhead.husk with writing := false, surgeAt := s.ledgerAhead.now } := by
  rw [ledgerWritten, if_pos ⟨hg, hw⟩, State.ledgerAhead]

theorem vengGo_confirmed (hg : s.govState = Gov.entering) (hw : s.husk.writing = false) (hv : s.husk.veng < 820) :
    vengGo true s = s.setHusk { s.husk with veng := s.husk.veng + 10 } := by
  rw [vengGo]
  exact if_pos ⟨hg, hw, hv⟩

theorem vengGo_unconfirmed (hg : s.govState = Gov.entering) (hw : s.husk.writing = false) (hv : s.husk.veng < 820) :
    vengGo false s = s.leave Gov.endVeng := by
  rw [vengGo]
  exact if_pos ⟨hg, hw, hv⟩

/-- VENG falls by a step; at 750 mV the surge is over. -/
theorem vengGo_leaving (hg : s.govState = Gov.leaving) (hf : s.engMhz = 1600) (hv : 750 < s.husk.veng) : vengGo b s =
    if s.husk.veng ≤ 760 then (s.setHusk { s.husk with veng := s.husk.veng - 10 }).surgeOver
    else s.setHusk { s.husk with veng := s.husk.veng - 10 } := by
  have hne : ¬(s.govState = Gov.entering ∧ s.husk.writing = false ∧ s.husk.veng < 820) := by
    rw [hg]
    exact fun h => absurd h.1 (by decide)
  rw [vengGo, if_neg hne, if_pos ⟨hg, hf, hv⟩]

theorem clockGo_last (hg : s.govState = Gov.entering) (hv : s.husk.veng = 820) (hf : s.engMhz = 1700) :
    clockGo s = (s.setFld F.CLK_ENG_eng_mhz 1800).setGov Gov.surge := by
  simp [clockGo, hg, hv, hf]

theorem clockGo_leaving (hg : s.govState = Gov.leaving) (hf : 1700 < s.engMhz) :
    clockGo s = s.setFld F.CLK_ENG_eng_mhz (s.engMhz - 100) := by
  have hne : ¬(s.govState = Gov.entering ∧ s.husk.veng = 820 ∧ s.engMhz < 1800) := by
    rw [hg]
    exact fun h => absurd h.1 (by decide)
  have hmore : ¬(s.engMhz - 100 = 1600 ∧ (s.setFld F.CLK_ENG_eng_mhz (s.engMhz - 100)).husk.veng = 750) := by omega
  rw [clockGo, if_neg hne, if_pos ⟨hg, by omega⟩]
  exact if_neg hmore

theorem chargeGo_started (hg : s.govState ≠ Gov.nominal) (hw : s.husk.writing = false) (hl : 2 < s.husk.ledger)
    (hc : s.husk.charged ≤ (s.now - s.husk.surgeAt) / 10000000) : ∃ x : Flash, chargeGo s = { s.setHusk
      { s.husk with ledger := s.husk.ledger - 1, charged := s.husk.charged + 1 } with flash := x } := by
  have hgo : ¬(s.govState = Gov.nominal ∨ s.husk.writing = true ∨ s.husk.ledger = 0 ∨
      (s.now - s.husk.surgeAt) / 10000000 < s.husk.charged) := by
    rw [hw]
    rintro (h | h | h | h)
    · exact hg h
    · exact Bool.false_ne_true h
    · omega
    · omega
  have h0 : s.husk.ledger - 1 ≠ 0 := by omega
  have h1 : ¬s.husk.ledger - 1 ≤ 1 := by omega
  rw [chargeGo, if_neg hgo]
  dsimp only
  rw [if_neg h0, if_neg h1]
  split
  · exact ⟨_, rfl⟩
  · exact ⟨_, rfl⟩

/-! ## Samples (R468, R471, R504) -/

theorem temp_ne_errLost (d : Nat) : R.ERR_GOV_TEMP d ≠ R.ERR_LOST := by
  simp only [R.ERR_GOV_TEMP, R.ERR_LOST]
  omega

theorem temp_ne_power (d : Nat) : R.ERR_GOV_TEMP d ≠ R.ERR_GOV_POWER := by
  simp only [R.ERR_GOV_TEMP, R.ERR_GOV_POWER]
  omega

/-- A die's reading is its temperature, and perhaps its peak. -/
theorem setDie_cases (d : Nat) (v : BitVec 16) : setDie s d v = s.setFld (F.ERR_GOV_TEMP_now d) v.toNat ∨
    setDie s d v = (s.setFld (F.ERR_GOV_TEMP_now d) v.toNat).setFld (F.ERR_GOV_TEMP_peak d) v.toNat := by
  unfold setDie
  dsimp only
  split
  · exact .inr rfl
  · exact .inl rfl

theorem now_setDie (d : Nat) (v : BitVec 16) : (setDie s d v).fld (F.ERR_GOV_TEMP_now d) = v.toNat := by
  have hnow : (s.setFld (F.ERR_GOV_TEMP_now d) v.toNat).fld (F.ERR_GOV_TEMP_now d) = v.toNat :=
    (State.fld_setFld_same _ _ _ (Nat.le_of_ble_eq_true rfl)).trans (Nat.mod_eq_of_lt v.isLt)
  rcases setDie_cases (s := s) d v with h | h
  · rw [h, hnow]
  · rw [h, State.fld_setFld_disjoint _ _ _ _ (Nat.le_of_ble_eq_true rfl) (.inr (.inl (Nat.le_of_ble_eq_true rfl))), hnow]

theorem reg_setDie_ne (d : Nat) (v : BitVec 16) {k : Nat} (h : k ≠ R.ERR_GOV_TEMP d) :
    (setDie s d v).reg k = s.reg k := by
  rcases setDie_cases (s := s) d v with hd | hd
  · rw [hd, State.reg_setFld_ne _ _ h]
  · rw [hd, State.reg_setFld_ne _ _ h, State.reg_setFld_ne _ _ h]

theorem husk_setDie (d : Nat) (v : BitVec 16) : (setDie s d v).husk = s.husk := by
  rcases setDie_cases (s := s) d v with h | h
  · rw [h, State.setFld_husk]
  · rw [h, State.setFld_husk, State.setFld_husk]

/-- The three dies of a sample. -/
def State.diesRead (s : State) (g : GovSample) : State := setDie (setDie (setDie s 0 g.west) 1 g.hub) 2 g.east

theorem State.now_diesRead : (s.diesRead g).fld (F.ERR_GOV_TEMP_now 0) = g.west.toNat ∧
    (s.diesRead g).fld (F.ERR_GOV_TEMP_now 1) = g.hub.toNat ∧
    (s.diesRead g).fld (F.ERR_GOV_TEMP_now 2) = g.east.toNat := by
  refine ⟨?_, ?_, now_setDie 2 _⟩
  · exact (State.fld_congr (reg_setDie_ne _ _ (by decide))).trans
      ((State.fld_congr (reg_setDie_ne _ _ (by decide))).trans (now_setDie 0 _))
  · exact (State.fld_congr (reg_setDie_ne _ _ (by decide))).trans (now_setDie 1 _)

theorem State.reg_diesRead_ne {k : Nat} (h : ∀ d, k ≠ R.ERR_GOV_TEMP d) : (s.diesRead g).reg k = s.reg k := by
  rw [State.diesRead, reg_setDie_ne _ _ (h _), reg_setDie_ne _ _ (h _), reg_setDie_ne _ _ (h _)]

theorem State.husk_diesRead : (s.diesRead g).husk = s.husk := by
  rw [State.diesRead, husk_setDie, husk_setDie, husk_setDie]

/-- The dies and the supply of a sample are shown. -/
def State.sampleShown (s : State) (g : GovSample) : State :=
  ((((s.diesRead g).setHusk { (s.diesRead g).husk with sampled := true }).setFld F.ERR_GOV_POWER_veng_mv
    g.mv.toNat).setFld F.ERR_GOV_POWER_veng_da g.amps.toNat).setFld F.ERR_GOV_POWER_pkg_w g.watts.toNat

theorem State.reg_sampleShown_ne {k : Nat} (h : k ≠ R.ERR_GOV_POWER) : (s.sampleShown g).reg k = (s.diesRead g).reg k := by
  rw [State.sampleShown, State.reg_setFld_ne _ _ h, State.reg_setFld_ne _ _ h, State.reg_setFld_ne _ _ h,
    State.setHusk_reg]

theorem State.watts_sampleShown : (s.sampleShown g).fld F.ERR_GOV_POWER_pkg_w = g.watts.toNat :=
  (State.fld_setFld_same _ _ _ (by decide)).trans (Nat.mod_eq_of_lt g.watts.isLt)

theorem State.veng_sampleShown : (s.sampleShown g).husk.veng = s.husk.veng := by
  have h : (s.diesRead g).husk.veng = s.husk.veng := congrArg Husk.veng State.husk_diesRead
  rw [State.sampleShown, State.setFld_husk, State.setFld_husk, State.setFld_husk]
  exact h

/-- Records and tampers leave the registers, but for the count of lost records, and VENG. -/
def SameGov (t s : State) : Prop := (∀ k, k ≠ R.ERR_LOST → t.reg k = s.reg k) ∧ t.husk.veng = s.husk.veng

theorem SameGov.trans {u t : State} (h : SameGov u t) (h' : SameGov t s) : SameGov u s :=
  ⟨fun k hk => (h.1 k hk).trans (h'.1 k hk), h.2.trans h'.2⟩

theorem sameGov_fault (r : Master) (x : FaultClass) (j : Subject) (v d : Nat) (e : Bool) :
    SameGov (s.fault r x j v d e) s :=
  ⟨fun _ hk => State.fault_reg_ne _ _ _ _ _ _ _ hk, congrArg Husk.veng (State.fault_husk ..)⟩

theorem sameGov_tempRecord : SameGov s.tempRecord s := by
  unfold State.tempRecord
  dsimp only
  split
  · exact (sameGov_fault ..).trans ⟨fun _ _ => rfl, rfl⟩
  · exact ⟨fun _ _ => rfl, rfl⟩

theorem sameGov_junction : SameGov s.junction s := by
  unfold State.junction
  dsimp only
  split
  · exact (sameGov_fault ..).trans ⟨fun _ _ => rfl, rfl⟩
  · exact ⟨fun _ _ => rfl, rfl⟩

/-- A sample with its records. -/
def State.sampleTaken (s : State) (g : GovSample) : State :=
  let t := (s.sampleShown g).tempRecord.junction
  if decide (1200 < g.amps.toNat) then t.fault .husk .vengLimit (.code 965) 0 g.amps.toNat else t

theorem sameGov_sampleTaken : SameGov (s.sampleTaken g) (s.sampleShown g) := by
  have h : SameGov (s.sampleShown g).tempRecord.junction (s.sampleShown g) := sameGov_junction.trans sameGov_tempRecord
  unfold State.sampleTaken
  dsimp only
  split
  · exact (sameGov_fault ..).trans h
  · exact h

theorem govSample_eq : govSample g s =
    if (s.sampleTaken g).anyDie fun t => decide ((13440 : Int) - 16 * (s.sampleTaken g).knob 13 ≤ t) then
      (s.sampleTaken g).leave Gov.endThermal
    else if decide (1200 < g.amps.toNat) then (s.sampleTaken g).leave Gov.endCurrent
    else if (s.sampleTaken g).knob 12 < g.watts.toNat then (s.sampleTaken g).leave Gov.endPower
    else s.sampleTaken g := by rfl

theorem State.reg_sampleTaken {k : Nat} (hl : k ≠ R.ERR_LOST) (hp : k ≠ R.ERR_GOV_POWER) :
    (s.sampleTaken g).reg k = (s.diesRead g).reg k :=
  (sameGov_sampleTaken.1 k hl).trans (State.reg_sampleShown_ne hp)

theorem State.now_sampleTaken (d : Nat) :
    (s.sampleTaken g).fld (F.ERR_GOV_TEMP_now d) = (s.diesRead g).fld (F.ERR_GOV_TEMP_now d) :=
  State.fld_congr (State.reg_sampleTaken (temp_ne_errLost d) (temp_ne_power d))

theorem temp_ne_status (d : Nat) : R.ERR_GOV_STATUS ≠ R.ERR_GOV_TEMP d := by
  simp only [R.ERR_GOV_TEMP, R.ERR_GOV_STATUS]
  omega

theorem State.govState_sampleTaken : (s.sampleTaken g).govState = s.govState :=
  State.fld_congr ((State.reg_sampleTaken (by decide) (by decide)).trans (State.reg_diesRead_ne temp_ne_status))

theorem State.knob_sampleTaken : (s.sampleTaken g).knob 13 = s.knob 13 := by
  have h : (s.sampleTaken g).reg (R.ERR_POLICY 13) = s.reg (R.ERR_POLICY 13) := by
    rw [State.reg_sampleTaken (by decide) (by decide), State.diesRead, reg_setDie_ne _ _ (by decide),
      reg_setDie_ne _ _ (by decide), reg_setDie_ne _ _ (by decide)]
  exact congrArg BitVec.toNat h

theorem govSample_nominal (h : s.govState = Gov.nominal) : govSample g s = s.sampleTaken g := by
  have hg : (s.sampleTaken g).govState = Gov.nominal := State.govState_sampleTaken.trans h
  have hidle : ∀ c, (s.sampleTaken g).leave c = s.sampleTaken g := fun c =>
    State.leave_idle (hg ▸ by decide) (hg ▸ by decide)
  rw [govSample_eq, hidle, hidle, hidle, ite_self, ite_self, ite_self]

/-- A hub at the limit less the margin ends a surge for heat. -/
theorem govSample_hot (h : (13440 : Int) - 16 * s.knob 13 ≤ g.hub.toInt) :
    govSample g s = (s.sampleTaken g).leave Gov.endThermal := by
  have hhub : (s.sampleTaken g).dieTemp 1 = g.hub.toInt := by
    rw [State.dieTemp, State.now_sampleTaken, State.now_diesRead.2.1, sextNat_toInt (by decide), BitVec.ofNat_toNat,
      BitVec.setWidth_eq]
  have hhot : (s.sampleTaken g).anyDie (fun t => decide ((13440 : Int) - 16 * (s.sampleTaken g).knob 13 ≤ t)) = true := by
    rw [State.anyDie, List.any_eq_true]
    exact ⟨1, by decide, decide_eq_true (by rw [hhub, State.knob_sampleTaken]; exact h)⟩
  rw [govSample_eq, if_pos hhot]

end Sys2Proof.Machine
end

section
open Sys2Proof Sys2Proof.Machine

/-- Settles O57: the request and its refusals, the ledger's write, the steps up and down, each end of a surge, the
charge, and a sample. -/
theorem surgeRunsOnItsLedger : Obligations.SurgeRunsOnItsLedger := by
  unfold Obligations.SurgeRunsOnItsLedger
  refine ⟨?asked, ?refused, ?entered, ?cause, ?cancel, ?leaves, ?idle, ?written, ?up, ?down, ?ended, ?fast, ?slower,
    ?duration, ?spent, ?charge, ?sample, ?hot⟩
  case asked =>
    rintro s m w _ h rfl
    rw [exec_surge, govCtrl_surge h]
  case refused =>
    intro s h
    have hlt : s.surgeCause < 16 := State.surgeCause_le.trans_lt (by decide)
    rw [State.surgeAsk_refused h, State.fld_setFld_same _ _ _ (by decide)]
    refine ⟨?_, rfl, rfl, ?_⟩
    · rw [State.fld_setFld_disjoint _ _ _ _ (by decide) (by decide), State.fld_setFld_same _ _ _ (by decide)]
      exact Nat.mod_eq_of_lt hlt
    · rw [State.govState_setFld _ (.inr (by decide)), State.govState_setFld _ (.inr (by decide))]
  case entered =>
    intro s h
    obtain ⟨e, he⟩ := State.surgeAsk_enters h
    have hhusk : s.surgeAsk.husk = { s.husk with writing := true, charged := 0, surgeEnd := e } := by
      rw [he]
      exact State.fault_husk ..
    have hfld : ∀ q : Field, q.off ≠ R.ERR_LOST → q.lo + q.width ≤ 32 → F.ERR_GOV_STATUS_state.width ≤ q.lo →
        s.surgeAsk.fld q = s.surgeShown.fld q := fun q ho hq hlo => by
      rw [he, State.surgeRecord, State.fault_fld_ne _ _ _ _ _ _ _ _ ho, State.setGov,
        State.fld_setFld_disjoint _ _ _ _ hq (.inr (.inr ((Nat.zero_add _).trans_le hlo))), State.setHusk_fld]
    rw [hhusk, hfld _ (by decide) (by decide) (by decide), hfld _ (by decide) (by decide) (by decide)]
    refine ⟨?_, rfl, rfl, ?_, ?_⟩
    · rw [he, State.govState_surgeRecord, State.govState_setGov (by decide)]
    · exact State.fld_setFld_same _ _ _ (by decide)
    · exact (State.fld_setFld_disjoint _ _ _ _ (by decide) (by decide)).trans (State.fld_setFld_same _ _ _ (by decide))
  case cause =>
    intro s
    rw [State.surgeCause]
    simp
  case cancel =>
    rintro s m w _ h rfl
    rw [exec_surgeCancel, govCtrl_cancel h]
  case leaves =>
    intro s c hg h
    rw [State.leave_eq hg h]
    exact ⟨State.govState_leaves, State.endCause_leaves, rfl⟩
  case idle =>
    intro s c
    exact State.leave_idle
  case written =>
    intro s hg hw
    refine ⟨_, exec_ledgerFlashWriteDone, ?_⟩
    beta_reduce
    rw [ledgerWritten_entering hg hw]
    exact ⟨rfl, rfl, State.now_ledgerAhead, (State.setHusk_ctrl _ _).trans State.ctrl_ledgerAhead⟩
  case up =>
    intro s hg hw hv
    rw [exec_vengStep, exec_vengStep, vengGo_confirmed hg hw hv, vengGo_unconfirmed hg hw hv]
    exact ⟨rfl, rfl⟩
  case down =>
    intro s b hg hf hv
    rw [exec_vengStep, vengGo_leaving hg hf (by omega), if_neg (by omega)]
  case ended =>
    intro s b hg hf hv
    refine ⟨_, exec_vengStep, ?_⟩
    obtain ⟨hgov, hveng, hledger⟩ := State.surgeOver_spec (s := s.setHusk { s.husk with veng := s.husk.veng - 10 })
    rw [vengGo_leaving hg hf (by omega), if_pos (by omega)]
    refine ⟨hgov, ?_, hledger⟩
    rw [hveng]
    show s.husk.veng - 10 = 750
    omega
  case fast =>
    intro s hg hv hf
    refine ⟨_, exec_engineClockStep, ?_⟩
    beta_reduce
    rw [clockGo_last hg hv hf, State.engMhz_setGov, State.govState_setGov (by decide)]
    exact ⟨State.fld_setFld_same _ _ _ (by decide), rfl, rfl⟩
  case slower =>
    intro s hg hf
    rw [exec_engineClockStep, clockGo_leaving hg hf]
  case duration =>
    intro s t h ht
    rw [exec_surgeEnd, surgeEnds_duration h ht]
  case spent =>
    intro s h hl
    rw [exec_surgeEnd, surgeEnds_ledger h hl]
  case charge =>
    intro s hg hw hl hc
    obtain ⟨x, hx⟩ := chargeGo_started hg hw hl hc
    refine ⟨_, exec_ledgerCharge, ?_⟩
    beta_reduce
    rw [hx]
    exact ⟨rfl, rfl, rfl⟩
  case sample =>
    intro s g h
    refine ⟨_, exec_governorSample, ?_⟩
    obtain ⟨hwest, hhub, heast⟩ := State.now_diesRead (s := s) (g := g)
    rw [govSample_nominal h, State.now_sampleTaken, State.now_sampleTaken, State.now_sampleTaken]
    exact ⟨hwest, hhub, heast, (State.fld_congr (sameGov_sampleTaken.1 _ (by decide))).trans State.watts_sampleShown,
      State.govState_sampleTaken.trans h⟩
  case hot =>
    intro s g hg h hv
    refine ⟨_, exec_governorSample, ?_⟩
    have hveng : (s.sampleTaken g).husk.veng = 820 := sameGov_sampleTaken.2.trans (State.veng_sampleShown.trans hv)
    beta_reduce
    rw [govSample_hot h, State.leave_eq (.inr (State.govState_sampleTaken.trans hg)) (.inl (hveng ▸ by decide))]
    exact ⟨State.govState_leaves, State.endCause_leaves⟩

end

section
/-! PROOFS. The husk's service (R455 to R460, R463 to R467, R510): records on their way, the collector's table,
notifications, deferred repairs, and the management cores. -/

namespace Sys2Proof.Machine

variable {s : State} {u m : Master} {w : Word} {r : FaultRec} {e : ErrEntry} {l : List FaultRec} {i x : Nat}

theorem exec_faultRecordSend : exec (.faultRecordSend u) s = .next (recordSend u s) := by rfl
theorem exec_collectorRecord : exec .collectorRecord s = .next (collectorTake s) := by rfl
theorem exec_notification : exec .notification s = .next (notice s) := by rfl
theorem exec_errAck : exec (.errAck m w) s = .next (ackErr w s) := by rfl
theorem exec_quietResolve {i : Fin 512} : exec (.quietResolve i) s = .next (quiet i.val s) := by rfl
theorem exec_repairGo : exec (.repairGo m w) s = .next (repairCtrl (w ||| 0x80000000#32) s) := by rfl
theorem exec_repairDrop : exec (.repairDrop m w) s = .next (repairCtrl (w ||| 0x40000000#32) s) := by rfl
theorem exec_huskWatchdogExpiry : exec .huskWatchdogExpiry s = .next (coreFails s) := by rfl
theorem exec_heartbeatMissed : exec .heartbeatMissed s = .next (coreFails s) := by rfl
theorem exec_takeoverDone : exec .takeoverDone s = .next (takeoverGo s) := by rfl
theorem exec_standbyReady : exec .standbyReady s = .next (standbyGo s) := by rfl
theorem exec_huskRestart : exec .huskRestart s = .next (restartCores s) := by rfl
theorem exec_huskRestartDone : exec .huskRestartDone s = .next (restartGo s) := by rfl
theorem exec_handover : exec (.handover m w) s = .next (handoverGo w s) := by rfl
theorem exec_handoverSwap {b : Bool} : exec (.handoverSwap b) s = .next (handoverSwap b s) := by rfl
theorem exec_firmwareConfirm : exec .firmwareConfirm s = .next (firmwareConfirmGo s) := by rfl

/-! ## Records leave an NI (R455, R510) -/

/-- The oldest record of an NI has left its buffer. -/
def State.recordTaken (s : State) (u : Master) (l : List FaultRec) : State :=
  { s with faults := Table.set noFaults s.faults u.key l }

/-- The REPORT_LOST record for `n` events lost. -/
def lostRecords (u : Master) (n : Nat) (time : Word) : List FaultRec :=
  if n = 0 then [] else [FaultRec.mk u (.unit u) .reportLost FaultClass.reportLost.severity 1 0
    (BitVec.ofNat 48 (n % 2 ^ 32)) time]

theorem recordSend_usable (h : Table.get noFaults s.faults u.key = r :: l)
    (hr : (s.route u.ni Unit.err.ni).usable Unit.err.ni = true) : recordSend u s = { s.recordTaken u l with
      err := { s.err with
        arriving := s.err.arriving ++ r :: lostRecords u (Table.get zeroNat s.faultLost u.key) s.now32 }
      faultLost := Table.set zeroNat s.faultLost u.key 0 } := by
  have hroute : (((s.recordTaken u l).route u.ni Unit.err.ni).usable Unit.err.ni) = true := hr
  rw [recordSend, h]
  exact if_neg (by rw [← State.recordTaken, hroute]; decide)

theorem recordSend_unusable (h : Table.get noFaults s.faults u.key = r :: l)
    (hr : (s.route u.ni Unit.err.ni).usable Unit.err.ni = false) : recordSend u s =
      { ((s.recordTaken u l).niDiscard u.ni).satFld F.ERR_LOST_lost F.ERR_LOST_overflow with
        faultLost := Table.modify zeroNat (((s.recordTaken u l).niDiscard u.ni).satFld F.ERR_LOST_lost
          F.ERR_LOST_overflow).faultLost u.key (· + 1) } := by
  have hroute : (((s.recordTaken u l).route u.ni Unit.err.ni).usable Unit.err.ni) = false := hr
  rw [recordSend, h]
  exact if_pos (by rw [← State.recordTaken, hroute]; decide)

/-! ## The collector's table (R456, R457, R459, R460) -/

theorem collectorTake_oldest (h : s.err.arriving = r :: l) : collectorTake s =
    (({ s with err := { s.err with arriving := l } }).takeRecord r).faultConfirm r := by
  rw [collectorTake, h]

theorem State.err_showErr : s.showErr.err = s.err := by
  unfold State.showErr
  dsimp only
  split
  · rw [State.setBit_err, State.setFld_err]
  · rw [State.setFld_err]

theorem State.errEntry_setEntry (o : Option ErrEntry) : (s.setEntry i o).errEntry i = o := by
  rw [State.errEntry, State.setEntry, State.err_showErr]
  exact Table.get_set_same ..

theorem State.takeRecord_new (hk : findKey (faultKey r.subject r.cls) s.err.entries = none) (hp : s.errPlace = some i) :
    s.takeRecord r = s.setEntry i (some {
      subject := r.subject, cls := r.cls, reporter := r.reporter, status := r.status, detail := r.detail
      first := s.recordTime r.time, last := s.recordTime r.time, count := r.count, severity := r.severity
      notify := true }) := by
  rw [State.takeRecord, hk, hp]

theorem State.takeRecord_known (hk : findKey (faultKey r.subject r.cls) s.err.entries = some i)
    (he : s.errEntry i = some e) : s.takeRecord r = s.setEntry i (some { e.addCount r.count with
      last := s.recordTime r.time, severity := max e.severity r.severity, resolved := false, notify := true }) := by
  simp only [State.takeRecord, hk, he]

theorem ErrEntry.addCount_spec (n : Nat) : (e.addCount n).first = e.first ∧
    (e.addCount n).count = if e.count + n < 2 ^ 31 then e.count + n else 2 ^ 31 - 1 := by
  unfold ErrEntry.addCount
  split
  · exact ⟨rfl, rfl⟩
  · exact ⟨rfl, rfl⟩

theorem ackErr_unknown (h30 : w.getLsbD 30 = false) (h31 : w.getLsbD 31 = true) (h : s.errEntry (bitsOf w 0 9) = none) :
    ackErr w s = s.refuse F.ERR_STATUS_last_status Code.invalidArgument := by
  simp only [ackErr, h30, h31, h]
  rfl

theorem ackErr_known (h30 : w.getLsbD 30 = false) (h31 : w.getLsbD 31 = true)
    (h : s.errEntry (bitsOf w 0 9) = some e) : ackErr w s = (s.resolveEntry (bitsOf w 0 9)).ack := by
  simp only [ackErr, h30, h31, h]
  rfl

theorem quiet_resolves (h : s.errEntry i = some e) (hq : s.fld F.ERR_CFG_quiet_s ≠ 0) (hs : e.severity < 3)
    (hr : e.resolved = false) (hl : e.last + s.fld F.ERR_CFG_quiet_s * 1000000000 ≤ s.now) :
    quiet i s = s.resolveEntry i := by
  rw [quiet, h]
  exact if_pos ⟨hq, hs, hr, hl⟩

/-! ## Notifications (R458, R461) -/

theorem notice_due (h : dueEntry (millis s.now) s.err.entries = some (i, e))
    (hm : s.fld F.ERR_CFG_notify_min ≤ e.severity) : notice s =
      (s.setEntry i (some { e with notify := false, notifiedMs := some (millis s.now) })).sendNotice e := by
  simp only [notice, h, if_pos hm]

/-- A notification without a doorbell is written to the log. -/
theorem State.sendNotice_logged (hb : s.bit F.ERR_NOTIFY_mbx_en = false) (hl : s.fld F.ERR_CFG_log_min ≤ e.severity) :
    (s.sendNotice e).err = { s.err with notified := s.err.notified ++ [e], log := appendLog s.err.log e } := by
  have hbell : (({ s with err := { s.err with notified := s.err.notified ++ [e] } }).sendMsix 0 2).bit
      F.ERR_NOTIFY_mbx_en = false := (State.sendMsix_bit ..).trans hb
  have hlog : (({ s with err := { s.err with notified := s.err.notified ++ [e] } }).sendMsix 0 2).fld
      F.ERR_CFG_log_min ≤ e.severity := (State.sendMsix_fld ..).trans_le hl
  have herr : (({ s with err := { s.err with notified := s.err.notified ++ [e] } }).sendMsix 0 2).err =
      { s.err with notified := s.err.notified ++ [e] } := State.sendMsix_err ..
  simp only [State.sendNotice, hbell, Bool.false_eq_true, if_false, if_pos hlog, herr]

/-! ## Deferred repairs (R463) -/

section
variable {f : Fix}

theorem repairCtrl_go_empty (hd : w.getLsbD 30 = false) (hg : w.getLsbD 31 = true)
    (h : s.deferredAt (bitsOf w 16 4) = none) :
    repairCtrl w s = (s.setFld F.ERR_REPAIR_CTRL_status Code.invalidArgument).ack := by
  simp only [repairCtrl, hd, hg, h]
  rfl

theorem repairCtrl_go (hd : w.getLsbD 30 = false) (hg : w.getLsbD 31 = true)
    (h : s.deferredAt (bitsOf w 16 4) = some f) : repairCtrl w s =
      ((openFix f (s.setDeferred (bitsOf w 16 4) none 0)).2.setFld F.ERR_REPAIR_CTRL_status
        (openFix f (s.setDeferred (bitsOf w 16 4) none 0)).1).ack := by
  simp only [repairCtrl, hd, hg, h]
  rfl

theorem repairCtrl_drop (hd : w.getLsbD 30 = true) (hg : w.getLsbD 31 = false)
    (h : s.deferredAt (bitsOf w 16 4) = some f) : repairCtrl w s =
      ((s.setDeferred (bitsOf w 16 4) none 0).setFld F.ERR_REPAIR_CTRL_status 0).ack := by
  simp only [repairCtrl, hd, hg, h]
  rfl

end

/-- A write with go set, of a place and without drop. -/
theorem repairGo_word (h : w.getLsbD 30 = false) : (w ||| 0x80000000#32).getLsbD 30 = false ∧
    (w ||| 0x80000000#32).getLsbD 31 = true ∧ bitsOf (w ||| 0x80000000#32) 16 4 = bitsOf w 16 4 := by
  refine ⟨?_, ?_, bitsOf_or_twoPow (k := 31) (by decide)⟩
  · rw [BitVec.getLsbD_or, h]
    rfl
  · rw [BitVec.getLsbD_or]
    exact Bool.or_true _

/-- A write with drop set, of a place and without go. -/
theorem repairDrop_word (h : w.getLsbD 31 = false) : (w ||| 0x40000000#32).getLsbD 30 = true ∧
    (w ||| 0x40000000#32).getLsbD 31 = false ∧ bitsOf (w ||| 0x40000000#32) 16 4 = bitsOf w 16 4 := by
  refine ⟨?_, ?_, bitsOf_or_twoPow (k := 30) (by decide)⟩
  · rw [BitVec.getLsbD_or]
    exact Bool.or_true _
  · rw [BitVec.getLsbD_or, h]
    rfl

/-! ## The management cores (R464 to R467) -/

theorem State.standby_setStandby (h : x < 4) : (s.setStandby x).standby = x := by
  rw [State.standby, State.setStandby, State.fld_setFld_same _ _ _ (by decide)]
  exact Nat.mod_eq_of_lt h

/-- What ERR_HUSK shows beside the standby. -/
theorem State.bit_setStandby {q : Field} (hq : q.lo + q.width ≤ 32)
    (h : q.lo + q.width ≤ 10 ∨ 12 ≤ q.lo) : (s.setStandby x).bit q = s.bit q :=
  State.bit_setFld_disjoint _ _ _ _ hq (.inr h)

theorem State.fld_runSlot (q : Field) : (s.runSlot x).fld q = s.fld q := State.fld_congr rfl

theorem State.bit_runSlot (q : Field) : (s.runSlot x).bit q = s.bit q := State.bit_congr rfl

theorem coreFails_ready (hs : s.standby = Standby.ready) (ht : s.husk.takeover = false) (hr : s.husk.restart = false) :
    ∃ j : Subject, coreFails s = ((s.fault .husk .huskCore j).setStandby Standby.absent).setHusk
      { (s.fault .husk .huskCore j).husk with takeover := true, handover := none } := by
  have hidle : ¬(s.husk.takeover || s.husk.restart) = true := by rw [ht, hr]; decide
  rw [coreFails, if_neg hidle, if_pos hs]
  exact ⟨_, rfl⟩

theorem coreFails_alone (hs : s.standby ≠ Standby.ready) (ht : s.husk.takeover = false) (hr : s.husk.restart = false) :
    coreFails s = restartCores s := by
  have hidle : ¬(s.husk.takeover || s.husk.restart) = true := by rw [ht, hr]; decide
  rw [coreFails, if_neg hidle, if_neg hs]

theorem restartCores_begins (hs : s.standby ≠ Standby.ready) (hr : s.husk.restart = false) : ∃ t : State,
    restartCores s = t.setHusk { t.husk with restart := true, takeover := false, handover := none } := by
  have hidle : ¬(s.standby = Standby.ready ∨ s.husk.restart = true) := by
    rw [hr]
    exact fun h => h.elim hs Bool.false_ne_true
  rw [restartCores, if_neg hidle]
  exact ⟨_, rfl⟩

/-- The roles swap: the other core is active, and another handover counts. -/
theorem State.swapCores_spec : s.swapCores.bit F.ERR_HUSK_active_core = !s.bit F.ERR_HUSK_active_core ∧
    s.swapCores.bit F.ERR_HUSK_confirming = s.bit F.ERR_HUSK_confirming := by
  constructor
  · rw [State.swapCores, State.incFld, State.bit_setFld_disjoint _ _ _ _ (by decide) (by decide),
      State.bit_setBit_same _ _ _ (by decide) (by decide)]
  · rw [State.swapCores, State.incFld, State.bit_setFld_disjoint _ _ _ _ (by decide) (by decide),
      State.bit_setBit_disjoint _ _ _ _ (by decide) (by decide)]

theorem State.revertFirmware_confirmed (h : s.bit F.ERR_HUSK_confirming = false) : s.revertFirmware = s :=
  if_neg (by rw [h]; decide)

/-- A takeover with confirmed firmware. -/
theorem takeoverGo_confirmed (ht : s.husk.takeover = true) (hc : s.bit F.ERR_HUSK_confirming = false) : takeoverGo s =
    (s.setHusk { s.husk with takeover := false }).swapCores.setStandby Standby.booting := by
  have hkept : ((s.setHusk { s.husk with takeover := false }).swapCores.setStandby Standby.booting).bit
      F.ERR_HUSK_confirming = false := by
    rw [State.bit_setStandby (by decide) (by decide), State.swapCores_spec.2, State.setHusk_bit, hc]
  rw [takeoverGo, if_pos ht]
  exact State.revertFirmware_confirmed hkept

theorem standbyGo_ready (h : s.standby = Standby.booting ∨ s.standby = Standby.syncing)
    (hh : s.husk.handover = none) : standbyGo s = s.setStandby Standby.ready :=
  if_pos ⟨h, hh⟩

theorem restartGo_done (h : s.husk.restart = true) : restartGo s =
    ((((s.setHusk { s.husk with restart := false }).setStandby Standby.booting).setBit F.ERR_HUSK_confirming
      false).runSlot s.flash.desc.slot) := by
  rw [restartGo, if_pos h]
  rfl

/-- A handover to the standby's own firmware begins. -/
theorem handoverGo_begins (hm : inService s.mode = true) (hs : s.standby = Standby.ready)
    (hl : s.lifeCycleRuns = false) (ht : s.husk.takeover = false) (hh : s.husk.handover = none)
    (hw : w.getLsbD 30 = false) : handoverGo w s =
      (((s.setBit F.ERR_HUSK_CTRL_to_new false).setFld F.ERR_HUSK_last_status 0).setHusk
        { s.husk with handover := some false }).ack := by
  have hmode : (s.setBit F.ERR_HUSK_CTRL_to_new false).mode = s.mode := State.fld_setFld_ne _ _ _ _ (by decide)
  have hstand : (s.setBit F.ERR_HUSK_CTRL_to_new false).standby = s.standby := State.fld_setFld_ne _ _ _ _ (by decide)
  have hlife : (s.setBit F.ERR_HUSK_CTRL_to_new false).lifeCycleRuns = false := hl
  have hhusk : (s.setBit F.ERR_HUSK_CTRL_to_new false).husk = s.husk := State.setBit_husk ..
  simp only [handoverGo, hw, hmode, hm, hstand, hs, hlife, hhusk, ht, hh]
  simp

theorem handoverGo_refused (hm : inService s.mode = true) (hs : s.standby ≠ Standby.ready) : handoverGo w s =
    (s.setBit F.ERR_HUSK_CTRL_to_new (w.getLsbD 30)).refuse F.ERR_HUSK_last_status Code.handoverRefused := by
  have hmode : (s.setBit F.ERR_HUSK_CTRL_to_new (w.getLsbD 30)).mode = s.mode := State.fld_setFld_ne _ _ _ _ (by decide)
  have hstand : (s.setBit F.ERR_HUSK_CTRL_to_new (w.getLsbD 30)).standby = s.standby :=
    State.fld_setFld_ne _ _ _ _ (by decide)
  rw [← hstand] at hs
  simp only [handoverGo, hmode, hm, if_pos (Or.inl hs)]
  rfl

theorem handoverSwap_same {b : Bool} (h : s.husk.handover = some false) : handoverSwap b s =
    (s.setHusk { s.husk with handover := none }).swapCores.setStandby Standby.ready := by
  rw [handoverSwap, h]
  rfl

/-- A valid second copy that is one rewrite newer, or the only valid one, is in force. -/
theorem Flash.desc_second {f : Flash} (hv : f.desc1.valid = true)
    (h : f.desc0.valid = true → f.desc1.sequence = f.desc0.sequence + 1) : f.desc = f.desc1 := by
  unfold Flash.desc
  cases h0 : f.desc0.valid with
  | false => rfl
  | true =>
    have hnew : (f.desc1.sequence - f.desc0.sequence).toNat < 2 ^ 31 ∧ f.desc1.sequence ≠ f.desc0.sequence := by
      rw [h h0]
      constructor <;> bv_omega
    rw [hv, if_pos hnew]
    rfl

/-- A valid first copy that is one rewrite newer, or the only valid one, is in force. -/
theorem Flash.desc_first {f : Flash} (hv : f.desc0.valid = true)
    (h : f.desc1.valid = true → f.desc0.sequence = f.desc1.sequence + 1) : f.desc = f.desc0 := by
  unfold Flash.desc
  cases h1 : f.desc1.valid with
  | false => rw [hv]; rfl
  | true =>
    have hold : ¬((f.desc1.sequence - f.desc0.sequence).toNat < 2 ^ 31 ∧ f.desc1.sequence ≠ f.desc0.sequence) := by
      rw [h h1]
      bv_omega
    rw [hv, if_neg hold]
    rfl

theorem Flash.desc_eq_second {f : Flash} (h : f.desc ≠ f.desc0) : f.desc = f.desc1 := by
  unfold Flash.desc at h ⊢
  split_ifs at h ⊢ <;> trivial

/-- The boot descriptor in force after a rewrite is the one written (R441). -/
theorem Flash.desc_rewriteDesc (f : Flash) (d : BootDesc) : (f.rewriteDesc d).desc =
    { d with valid := true, sequence := f.desc.sequence + 1 } := by
  by_cases h : f.desc = f.desc0
  · rw [Flash.rewriteDesc, if_pos (beq_iff_eq.2 h)]
    exact Flash.desc_second rfl fun _ => by rw [h]
  · rw [Flash.rewriteDesc, if_neg (fun hb => h (beq_iff_eq.1 hb))]
    exact Flash.desc_first rfl fun _ => by rw [Flash.desc_eq_second h]

theorem firmwareConfirmGo_due (hc : s.bit F.ERR_HUSK_confirming = true) (ht : s.husk.takeover = false)
    (hr : s.husk.restart = false)
    (hd : s.husk.servedFrom + s.flash.policy.fwConfirm * 1000000000 ≤ s.now) : firmwareConfirmGo s =
      (({ s with flash := s.flash.rewriteDesc { s.flash.desc with slot := s.trust.slot } }).setBit
        F.ERR_HUSK_confirming false).setStandby Standby.booting := by
  rw [firmwareConfirmGo, hc, ht, hr, decide_eq_true hd]
  rfl

end Sys2Proof.Machine
end

section
open Sys2Proof Sys2Proof.Machine

/-- Settles O56: the record that leaves, the collector's entry, its notification and resolution, deferred repairs, and
the takeover, restart and handover of the cores. -/
theorem faultsAreCollectedAndCoresHandOver : Obligations.FaultsAreCollectedAndCoresHandOver := by
  unfold Obligations.FaultsAreCollectedAndCoresHandOver
  refine ⟨?sent, ?lost, ?collected, ?new, ?known, ?notified, ?logged, ?ackUnknown, ?ackKnown, ?quiet, ?goEmpty, ?go,
    ?drop, ?fails, ?restarts, ?takeover, ?standby, ?restarted, ?handover, ?refused, ?swapped, ?confirmed⟩
  case sent =>
    rintro s u r l _ h hr rfl
    refine ⟨_, exec_faultRecordSend, ?_⟩
    beta_reduce
    rw [recordSend_usable h hr]
    refine ⟨Table.get_set_same .., rfl, ?_, rfl⟩
    show Table.get zeroNat (Table.set zeroNat s.faultLost u.key 0) u.key = 0
    exact Table.get_set_same ..
  case lost =>
    intro s u r l h hr
    refine ⟨_, exec_faultRecordSend, ?_⟩
    beta_reduce
    rw [recordSend_unusable h hr, State.niDiscard]
    refine ⟨?_, ?_, ?_⟩
    · exact (congrArg (Table.get noFaults · u.key) ((State.satFld_faults ..).trans (State.satFld_faults ..))).trans
        (Table.get_set_same ..)
    · exact (State.satFld_err ..).trans (State.satFld_err ..)
    · dsimp only
      rw [State.satFld_faultLost, State.satFld_faultLost, Table.modify, Table.get_set_same]
      rfl
  case collected =>
    intro s r l h
    rw [exec_collectorRecord, collectorTake_oldest h]
  case new =>
    intro s r i hk hp
    rw [State.takeRecord_new hk hp, State.errEntry_setEntry]
  case known =>
    intro s r i e hk he
    obtain ⟨hfirst, hcount⟩ := ErrEntry.addCount_spec (e := e) r.count
    rw [State.takeRecord_known hk he]
    exact ⟨_, State.errEntry_setEntry _, rfl, rfl, rfl, rfl, hfirst, hcount⟩
  case notified =>
    intro s i e h hm
    rw [exec_notification, notice_due h hm]
  case logged =>
    intro s e hb hl
    rw [State.sendNotice_logged hb hl]
    exact ⟨rfl, rfl⟩
  case ackUnknown =>
    intro s m w h30 h31 h
    rw [exec_errAck, ackErr_unknown h30 h31 h]
    rfl
  case ackKnown =>
    intro s m w e h30 h31 h
    rw [exec_errAck, ackErr_known h30 h31 h]
  case quiet =>
    intro s i e h hq hs hr hl
    rw [exec_quietResolve, quiet_resolves h hq hs hr hl]
  case goEmpty =>
    intro s m w hw h
    obtain ⟨hd, hg, hj⟩ := repairGo_word hw
    rw [exec_repairGo, repairCtrl_go_empty hd hg (hj ▸ h)]
    rfl
  case go =>
    rintro s m w f _ hw h rfl
    obtain ⟨hd, hg, hj⟩ := repairGo_word hw
    rw [exec_repairGo, repairCtrl_go hd hg (hj ▸ h), hj]
  case drop =>
    intro s m w f hw h
    obtain ⟨hd, hg, hj⟩ := repairDrop_word hw
    rw [exec_repairDrop, repairCtrl_drop hd hg (hj ▸ h), hj]
  case fails =>
    intro s hs ht hr
    obtain ⟨j, hj⟩ := coreFails_ready hs ht hr
    refine ⟨by rw [exec_heartbeatMissed, exec_huskWatchdogExpiry], _, exec_huskWatchdogExpiry, ?_⟩
    rw [hj]
    exact ⟨rfl, (State.setHusk_fld ..).trans (State.standby_setStandby (by decide)),
      (State.setHusk_err ..).trans ((State.setFld_err ..).trans (State.fault_err ..))⟩
  case restarts =>
    intro s hs ht hr
    obtain ⟨t, h⟩ := restartCores_begins hs hr
    refine ⟨by rw [exec_huskWatchdogExpiry, exec_huskRestart, coreFails_alone hs ht hr], _, exec_huskRestart, ?_⟩
    rw [h]
    exact ⟨rfl, rfl⟩
  case takeover =>
    intro s ht hc
    refine ⟨_, exec_takeoverDone, ?_⟩
    beta_reduce
    rw [takeoverGo_confirmed ht hc, State.standby_setStandby (by decide), State.bit_setStandby (by decide) (by decide),
      State.swapCores_spec.1, State.setHusk_bit]
    exact ⟨rfl, rfl, rfl⟩
  case standby =>
    intro s h hh
    rw [exec_standbyReady, standbyGo_ready h hh]
  case restarted =>
    intro s h
    refine ⟨_, exec_huskRestartDone, ?_⟩
    beta_reduce
    rw [restartGo_done h, State.standby, State.fld_runSlot, State.bit_runSlot,
      State.bit_setBit_same _ _ _ (by decide) (by decide)]
    refine ⟨rfl, ?_, rfl, rfl⟩
    exact (State.fld_setBit_disjoint _ _ _ _ (by decide) (by decide)).trans (State.standby_setStandby (by decide))
  case handover =>
    intro s m w hm hs hl ht hh hw
    refine ⟨_, exec_handover, ?_⟩
    beta_reduce
    rw [handoverGo_begins hm hs hl ht hh hw, State.standby, State.ack_fld, State.ack_fld, State.setHusk_fld,
      State.setHusk_fld]
    refine ⟨rfl, ?_, ?_, rfl⟩
    · exact State.fld_setFld_same _ _ _ (by decide)
    · refine Eq.trans ?_ hs
      exact (State.fld_setFld_disjoint _ _ _ _ (by decide) (by decide)).trans (State.fld_setFld_ne _ _ _ _ (by decide))
  case refused =>
    intro s m w hm hs
    rw [exec_handover, handoverGo_refused hm hs]
  case swapped =>
    intro s b h
    refine ⟨_, exec_handoverSwap, ?_⟩
    beta_reduce
    rw [handoverSwap_same h, State.standby_setStandby (by decide), State.bit_setStandby (by decide) (by decide),
      State.swapCores_spec.1, State.setHusk_bit]
    exact ⟨rfl, rfl, rfl, rfl⟩
  case confirmed =>
    intro s hc ht hr hd
    refine ⟨_, exec_firmwareConfirm, ?_⟩
    beta_reduce
    rw [firmwareConfirmGo_due hc ht hr hd, State.standby_setStandby (by decide), State.bit_setStandby (by decide) (by decide),
      State.bit_setBit_same _ _ _ (by decide) (by decide)]
    exact ⟨congrArg BootDesc.slot (Flash.desc_rewriteDesc _ _), rfl, rfl⟩

end

section
/-! PROOFS. Trust (R444 to R451): signed commands, the commands of PCI_CMD and of the monitor, unlocking, and
tampers. -/

namespace Sys2Proof.Machine

variable {s u : State} {c : SignedCmd} {b : Burn} {code n : Nat} {states : List Nat} {m : Master} {w : Word}
  {o : Option (MonVia × List Byte)}

theorem exec_provision : exec (.provision b) s =
    .next (s.signedRun 1 [0] (fun c => c.slot == 0xFE) (provisionRun b)) := by rfl
theorem exec_addKey : exec (.addKey b) s = .next (s.signedRun 2 [1, 2] s.ownerSigned (addKeyRun b)) := by rfl
theorem exec_revokeKey : exec (.revokeKey b) s = .next (s.signedRun 3 [1, 2] s.ownerSigned (revokeRun b)) := by rfl
theorem exec_raiseFloor : exec (.raiseFloor b) s = .next (s.signedRun 5 [1, 2] s.ownerSigned (raiseRun b)) := by rfl
theorem exec_setPassword : exec .setPassword s = .next (s.signedRun 6 [1, 2] s.ownerSigned passwordRun) := by rfl
theorem exec_tamperAck : exec .tamperAck s = .next (s.signedRun 7 [0, 1, 2, 3] s.ownerSigned ackRun) := by rfl
theorem exec_tamperLock : exec (.tamperLock b) s = .next (s.signedRun 8 [1, 2] s.ownerSigned fun _ s =>
    s.burnFuse b fun f => { f with tamperLock := true }) := by rfl
theorem exec_pciCmdGo : exec (.pciCmdGo m w) s = .next (cmdGo w s) := by rfl
theorem exec_attest : exec (.attest o) s = .next (s.huskRun 1 o attestRun) := by rfl
theorem exec_identityCert : exec (.identityCert o) s = .next (s.huskRun 2 o certRun) := by rfl
theorem exec_unlockChallenge : exec (.unlockChallenge o) s = .next (s.huskRun 3 o challengeRun) := by rfl
theorem exec_unlockResponse : exec (.unlockResponse o) s = .next (s.huskRun 4 o responseRun) := by rfl
theorem exec_unlockPassword : exec (.unlockPassword o) s = .next (s.huskRun 5 o unlockPasswordRun) := by rfl
theorem exec_debugLock : exec (.debugLock o) s = .next (s.huskRun 6 o lockRun) := by rfl
theorem exec_tamperClass1 {d : BitVec 48} : exec (.tamperClass1 d) s = .next (s.tamper1 d.toNat) := by rfl
theorem exec_glitchEvent : exec .glitchEvent s = .next (glitch s) := by rfl

/-! ## Signed commands run (R447) -/

section
variable {signer : SignedCmd → Bool} {run : SignedCmd → State → Nat × State}

theorem CommandWaits.runs (h : CommandWaits s c code states u) (hs : signer c = true) :
    s.signedRun code states signer run = (run c u).2.commandEnd c (run c u).1 := by
  obtain ⟨hc, hcode, hst, rfl⟩ := h
  have hst' : states.contains (s.setLoader { s.loader with command := none }).fuses.lifeCycle = true := hst
  simp only [State.signedRun, hc, if_neg (not_not.2 hcode), hst', hs]
  rfl

theorem CommandWaits.unsigned (h : CommandWaits s c code states u) (hs : signer c = false) :
    s.signedRun code states signer run = u.commandEnd c Code.badSignature := by
  obtain ⟨hc, hcode, hst, rfl⟩ := h
  have hst' : states.contains (s.setLoader { s.loader with command := none }).fuses.lifeCycle = true := hst
  simp only [State.signedRun, hc, if_neg (not_not.2 hcode), hst', hs]
  rfl

theorem State.signedRun_notPermitted (hc : s.loader.command = some c) (hcode : c.code = code)
    (hst : states.contains s.fuses.lifeCycle = false) : s.signedRun code states signer run =
      (s.setLoader { s.loader with command := none }).commandEnd c Code.notPermitted := by
  have hst' : states.contains (s.setLoader { s.loader with command := none }).fuses.lifeCycle = false := hst
  simp only [State.signedRun, hc, if_neg (not_not.2 hcode), hst']
  rfl

end

/-- The state from which a command runs has the fuses, the trust state and the flash of the device. -/
theorem CommandWaits.kept (h : CommandWaits s c code states u) :
    u.fuses = s.fuses ∧ u.trust = s.trust ∧ u.flash = s.flash := by
  obtain ⟨_, _, _, rfl⟩ := h
  exact ⟨rfl, rfl, rfl⟩

theorem State.slotBurned_congr (h : u.fuses = s.fuses) : u.slotBurned = s.slotBurned := by
  funext k
  rw [State.slotBurned, State.slotBurned, State.ownerDigest, State.ownerDigest, h]

theorem State.usableSlots_congr (h : u.fuses = s.fuses) : u.usableSlots = s.usableSlots := by
  have hslot : u.slotUsable = s.slotUsable := by
    funext k
    rw [State.slotUsable, State.slotUsable, State.slotBurned_congr h, h]
  rw [State.usableSlots, State.usableSlots, hslot]

theorem State.burnFuse_ok {f : Fuses → Fuses} (hb : b.ok = true) : s.burnFuse b f = (0, s.setFuses (f s.fuses)) :=
  if_pos hb

/-! ## What each command does (R444 to R447, R451) -/

/-- The life cycle changes: the wipe and the erasure of the keys, then the burn, then the reset asked for. -/
theorem State.lifeChange_ok {f : Fuses → Fuses} (hb : b.ok = true) : s.lifeChange b f =
    (0, { s.wipeBegin.eraseKeys.setFuses (f s.fuses) with trust := { s.trust with resetDue := true } }) := by
  have hf : s.wipeBegin.eraseKeys.fuses = s.fuses := (State.setBit_fuses ..).trans (State.setBit_fuses ..)
  have ht : s.wipeBegin.eraseKeys.trust = s.trust := (State.setBit_trust ..).trans (State.setBit_trust ..)
  rw [State.lifeChange, if_pos hb, hf, ht]

theorem State.lifeChange_failed {f : Fuses → Fuses} (hb : b.ok = false) :
    s.lifeChange b f = (Code.fuseFail, s.wipeBegin.eraseKeys) :=
  if_neg (by rw [hb]; decide)

/-- One digest that is the signer's own is provisioned. -/
theorem provisionRun_one (hl : c.args.length = 64) (hk : BitVec.ofNat 512 (ofBytes c.args) = c.key) :
    provisionRun b c s = s.lifeChange b fun f => { setDigest f 0 (BitVec.ofNat 512 (ofBytes c.args)) with lifeCycle := 1 } := by
  have hdigests : digestsOf 1 c.args = [BitVec.ofNat 512 (ofBytes c.args)] := by
    rw [digestsOf, digestsOf, ← hl, List.take_length]
  have hok : ¬(64 % 64 ≠ 0 ∨ 64 / 64 = 0 ∨ 4 < 64 / 64 ∨ [BitVec.ofNat 512 (ofBytes c.args)].head? ≠ some c.key) := by
    simp [hk]
  simp only [provisionRun, hl, show 64 / 64 = 1 from rfl, hdigests]
  exact if_neg hok

theorem addKeyRun_free {k : Nat} (hl : c.args.length = 64) (hk : k < 4) (hfree : s.slotBurned k = false)
    (hbelow : ∀ j < k, s.slotBurned j = true) : addKeyRun b c s =
      s.burnFuse b fun f => setDigest f k (BitVec.ofNat 512 (ofBytes c.args)) := by
  have hfind : (List.range 4).find? (fun j => !s.slotBurned j) = some k := by
    rw [List.find?_range_eq_some]
    exact ⟨by rw [hfree]; rfl, List.mem_range.2 hk, fun j hj => by rw [hbelow j hj]; rfl⟩
  rw [addKeyRun, if_neg (not_not.2 hl), hfind]

theorem revokeRun_other {k : Byte} (ha : c.args = [k]) (hb : s.slotBurned k.toNat = true) (hk : k.toNat ≠ c.slot)
    (hs : (s.usableSlots.filter (· != k.toNat)) ≠ []) : revokeRun b c s =
      s.burnFuse b fun f => { f with revoked := f.revoked ||| BitVec.ofNat 4 (2 ^ k.toNat) } := by
  have hok : ¬([k].length ≠ 1 ∨ s.slotBurned (ofBytes [k]) = false) := by simp [ofBytes, hb]
  have hmore : ¬(ofBytes [k] = c.slot ∨ s.usableSlots.filter (· != ofBytes [k]) = []) := not_or.2 ⟨hk, hs⟩
  simp only [revokeRun, ha, if_neg hok, if_neg hmore]
  rfl

theorem ofBytes_toBytes (n v : Nat) : ofBytes (toBytes n v) = v % 256 ^ n := by
  induction n generalizing v with
  | zero => rw [toBytes, ofBytes, Nat.pow_zero, Nat.mod_one]
  | succ n ih =>
    have hlow : (BitVec.ofNat 8 v).toNat = v % 256 := BitVec.toNat_ofNat ..
    rw [toBytes, ofBytes, ih, hlow, ← Nat.mod_mul, Nat.pow_succ']

/-- The arguments of a forced RAISE_FLOOR to `v`. -/
theorem raise_args {v : Nat} (hv : v < 2 ^ 32) : (toBytes 4 v ++ [(1 : Byte)]).length = 5 ∧
    ofBytes ((toBytes 4 v ++ [(1 : Byte)]).take 4) = v ∧ (toBytes 4 v ++ [(1 : Byte)]).getD 4 0 = 1 := by
  refine ⟨rfl, ?_, rfl⟩
  rw [List.take_left' (length_toBytes 4 v), ofBytes_toBytes]
  exact Nat.mod_eq_of_lt hv

theorem raiseRun_low {v : Nat} (ha : c.args = toBytes 4 v ++ [1]) (hv : v < 2 ^ 32) (hl : v ≤ s.fuses.floor) :
    raiseRun b c s = (Code.invalidArgument, s) := by
  obtain ⟨_, hval, _⟩ := raise_args hv
  simp only [raiseRun, ha, hval]
  exact if_pos (.inr hl)

theorem raiseRun_forced {v : Nat} (ha : c.args = toBytes 4 v ++ [1]) (hv : v < 2 ^ 32) (hl : ¬v ≤ s.fuses.floor)
    (hf : s.fuses.floor < 255) : raiseRun b c s = s.burnFuse b fun f => { f with floor := min v 255 } := by
  obtain ⟨hlen, hval, hforce⟩ := raise_args hv
  have hok : ¬((toBytes 4 v ++ [(1 : Byte)]).length ≠ 5 ∨ v ≤ s.fuses.floor) := not_or.2 ⟨not_not.2 hlen, hl⟩
  simp only [raiseRun, ha, hval, hforce, if_neg hok, if_neg hf.ne]
  rfl

theorem passwordRun_set (hl : c.args.length = 64) : passwordRun c s =
    (0, { s with flash := { s.flash with password := BitVec.ofNat 512 (ofBytes c.args) } }) :=
  if_neg (not_not.2 hl)

theorem ackRun_set (hl : c.args.length = 2) (hh : s.trust.hold = false) : ackRun c s =
    (0, { s with flash := { s.flash with ack := ofBytes c.args, ackKey := c.slot } }) := by
  simp only [ackRun, if_neg (not_not.2 hl), hh]
  rfl

/-! ## Commands end (R426, R447) -/

theorem State.fld_withLoader (x : Loader) (q : Field) : ({ s with loader := x } : State).fld q = s.fld q :=
  State.fld_congr rfl

theorem State.commandEnd_spec (h : n < 65536) : (s.commandEnd c n).fld F.PCI_LDR_STATUS_last_status = n ∧
    (s.commandEnd c n).flash.counter = (if n = 0 then c.counter else s.flash.counter) ∧
    (s.commandEnd c n).fuses = s.fuses := by
  refine ⟨?_, ?_, ?_⟩
  · rw [State.commandEnd, State.ldrEnd, State.sendMsix_fld, State.fld_withLoader,
      State.fld_setFld_disjoint _ _ _ _ (by decide) (by decide), State.fld_setFld_same _ _ _ (by decide)]
    exact Nat.mod_eq_of_lt h
  · rw [State.commandEnd, State.ldrEnd, State.sendMsix_flash]
    dsimp only
    rw [State.setFld_flash, State.setFld_flash, State.fault_flash]
    split <;> rfl
  · rw [State.commandEnd, State.ldrEnd, State.sendMsix_fuses]
    dsimp only
    rw [State.setFld_fuses, State.setFld_fuses, State.fault_fuses]
    split <;> rfl

/-! ## Husk commands (R448, R449) -/

theorem cmdGo_busy (h : s.bit F.PCI_CMD_busy = true) :
    cmdGo w s = s.refuse F.PCI_STATUS_last_status Code.notPermitted := if_pos h

theorem cmdGo_accepted (hb : s.bit F.PCI_CMD_busy = false) (h1 : 1 ≤ bitsOf w 16 8) (h6 : bitsOf w 16 8 ≤ 6)
    (hl : s.fld F.PCI_CMD_LEN_in_len ≤ 16384) : cmdGo w s =
      ((s.setFld F.PCI_CMD_code (bitsOf w 16 8)).setBit F.PCI_CMD_busy true).ack := by
  have hcode : ¬(bitsOf w 16 8 = 0 ∨ 6 < bitsOf w 16 8) := by omega
  have hlen : ¬16384 < (s.setFld F.PCI_CMD_code (bitsOf w 16 8)).fld F.PCI_CMD_LEN_in_len := by
    rw [State.fld_setFld_ne _ _ _ _ (by decide)]
    exact hl.not_gt
  rw [cmdGo, if_neg (by rw [hb]; decide)]
  dsimp only
  rw [if_neg hcode, if_neg hlen]

section
variable {run : List Byte → State → Nat × List Byte × State}

/-- A command that waits in PCI_CMD runs on its bytes, and PCI_CMD shows what it returns. -/
theorem HuskWaits.runs (h : HuskWaits s code n) (hl : s.fuses.lifeCycle = 4 → code ≤ 2) :
    s.huskRun code none run = (run (s.bufferBytes n) s).2.2.huskDone (run (s.bufferBytes n) s).1
      (run (s.bufferBytes n) s).2.1 := by
  obtain ⟨hbusy, hcode, hlen, ht, hr⟩ := h
  have hserved : ¬(s.fuses.lifeCycle = 4 ∧ 2 < code) := fun h => absurd (hl h.1) (by omega)
  simp only [State.huskRun, ht, hr, hbusy, hcode, hlen, if_neg hserved, beq_self_eq_true]
  rfl

/-- A command of the monitor's transport runs on its bytes and is answered. -/
theorem State.huskRun_monitor {via : MonVia} {l : List Byte} (ht : s.husk.takeover = false)
    (hr : s.husk.restart = false) (ho : s.monOpen via = true) (hc : code ≤ 2) : s.huskRun code (some (via, l)) run =
      (run l s).2.2.monReply via code (run l s).1 (run l s).2.1 := by
  have hserved : ¬(s.fuses.lifeCycle = 4 ∧ 2 < code) := fun h => absurd hc (by omega)
  simp only [State.huskRun, ht, hr, ho, if_neg hserved]
  rfl

end

theorem State.length_bufferBytes : (s.bufferBytes n).length = n := by
  rw [State.bufferBytes, List.length_map, List.length_range]

/-! ## The report (R448, Table 15.12) -/

/-- The report's head: 64 bytes before the nonce. -/
def State.reportHead (s : State) : List Byte :=
  let f := s.fuses
  toBytes 4 0x39545441 ++ toBytes 2 1 ++ toBytes 1 f.lifeCycle ++
    toBytes 1 (b2n s.sessionOpen + 2 * b2n (s.bit F.DEV_MODE_on_acorn) + 4 * b2n f.tamperLock + 8 * b2n s.unacked) ++
    toBytes 4 (s.reg R.DEV_ID).toNat ++ toBytes 1 gradeByte ++
    toBytes 1 ((s.burnedSlots.foldl (fun n k => n + 2 ^ k) 0) + 16 * f.revoked.toNat) ++
    toBytes 2 f.floor ++ toBytes 2 f.tamperCount ++ toBytes 2 s.trust.class1 ++ toBytes 8 s.now ++
    toBytes 4 (s.reg R.DEV_MODE).toNat ++ (s.trust.build ++ List.replicate 32 0).take 32

theorem State.length_reportHead : s.reportHead.length = 64 := by
  simp [State.reportHead, length_toBytes]

/-- The report's six digests: the firmware, the live image, the acorn, the policy, the chain and the identity. -/
def State.reportDigests (s : State) : List Byte :=
  toBytes 64 s.trust.firmware.toNat ++ toBytes 64 s.trust.live.toNat ++
    toBytes 64 (if s.flash.desc.valid && s.flash.desc.acornValid then
      sha3 (s.flash.acorn.take (s.flash.acorn.length - 4628)) else 0).toNat ++ toBytes 64 s.flash.policy.digest.toNat ++
    toBytes 64 s.trust.chain.toNat ++ toBytes 64 identityDigest.toNat

theorem State.length_reportDigests : s.reportDigests.length = 384 := by
  simp only [State.reportDigests, List.length_append, length_toBytes]

/-- (The tag stays a name in the proof: no step is to evaluate its bytes.) -/
theorem State.report_eq (l : List Byte) : s.report l = s.reportHead ++ (l ++ s.reportDigests) := by
  unfold State.report State.reportHead State.reportDigests
  dsimp only
  generalize toBytes 4 0x39545441 = x
  simp only [List.append_assoc]

theorem State.report_spec {l : List Byte} (h : l.length = 64) : (s.report l).length = 512 ∧
    (s.report l).take 4 = toBytes 4 0x39545441 ∧ ((s.report l).drop 64).take 64 = l := by
  refine ⟨?_, ?_, ?_⟩
  · rw [State.report_eq, List.length_append, List.length_append, State.length_reportHead, h, State.length_reportDigests]
  · have hlen := length_toBytes 4 0x39545441
    rw [State.report_eq]
    unfold State.reportHead
    generalize toBytes 4 0x39545441 = x at hlen ⊢
    simp only [List.append_assoc]
    exact List.take_left' hlen
  · rw [State.report_eq, List.drop_left' State.length_reportHead, List.take_left' h]

theorem attestRun_short {l : List Byte} (h : l.length ≠ 64) : attestRun l s = (Code.invalidArgument, [], s) := if_pos h

theorem attestRun_nonce {l : List Byte} (h : l.length = 64) : attestRun l s = (0, s.report l ++
    (Config.mlDsaSign 0 (toBytes 64 (sha3 (s.report l)).toNat) ++ List.replicate 4627 0).take 4627, s) :=
  if_neg (not_not.2 h)

/-! ## Unlocking (R449, R450) -/

/-- Bytes without a value take only values. -/
theorem State.freeBytes_keeps (n : Nat) : ∃ k, (s.freeBytes n).2 = { s with freeCount := k } := by
  induction n generalizing s with
  | zero => exact ⟨_, rfl⟩
  | succ n ih =>
    obtain ⟨k, hk⟩ := ih (s := { s with freeCount := s.freeCount + 1 })
    exact ⟨k, hk⟩

theorem challengeRun_eq (l : List Byte) : challengeRun l s = (0, (s.freeBytes 64).1,
    { (s.freeBytes 64).2 with trust := { s.trust with nonce := some ((s.freeBytes 64).1, s.now) } }) := by
  obtain ⟨k, hk⟩ := State.freeBytes_keeps (s := s) 64
  have ht : (s.freeBytes 64).2.trust = s.trust := by rw [hk]
  have hn : (s.freeBytes 64).2.now = s.now := by rw [hk]; exact State.now_congr rfl
  rw [challengeRun, ht, hn]

theorem State.unlockGuard_open {go : State → Nat × List Byte × State} (hl : s.fuses.lifeCycle = 2)
    (hb : s.backingOff = false) : s.unlockGuard go = go s := by
  rw [State.unlockGuard, if_neg (by rw [hl]; decide), hb]
  rfl

/-- An attempt to unlock returns no bytes. -/
theorem passwordGo_eq {l : List Byte} (h1 : 1 ≤ l.length) (h64 : l.length ≤ 64) (hl : s.fuses.lifeCycle = 2) :
    passwordGo l s = if s.flash.password ≠ 0 ∧ sha3 l = s.flash.password then
      s.unlockDone 0x3F s.flash.policy.password else s.unlockFail := by
  have hok : ¬(l.isEmpty = true ∨ 64 < l.length) := by
    rw [List.isEmpty_iff_length_eq_zero]
    omega
  simp only [passwordGo, if_neg hok, hl, true_and]

/-- A response is held against the nonce, and the nonce is spent. -/
theorem responseGo_eq {l k i : List Byte} {t d h : Nat} {g : Bool} (hl : l.length = 7228)
    (hn : s.trust.nonce = some (k, t)) (hd : d = ofBytes ((l.drop 1).take 4)) (h1 : 1 ≤ d) (hmax : d ≤ 86400)
    (hh : h = ofBytes ((l.drop 5).take 4)) (hs : h ≤ 0x3F) (hi : i = (l.drop 9).take 2592)
    (hg : g = (decide (s.now ≤ t + 60000000000) && s.unlockKey (ofBytes (l.take 1)) i &&
      Config.mlDsaVerify i (toBytes 64 (sha3 (k ++ toBytes 64 identityDigest.toNat ++ (l.drop 1).take 8)).toNat)
        ((l.drop 2601).take 4627))) : responseGo l s =
      if g then ({ s with trust := { s.trust with nonce := none } }).unlockDone h d
      else ({ s with trust := { s.trust with nonce := none } }).unlockFail := by
  have hok : ¬(l.length ≠ 7228 ∨ d = 0 ∨ 86400 < d ∨ 63 < h) := by omega
  subst hg hi hd hh
  simp only [responseGo, if_neg hok, hn]

theorem State.unlockFail_spec : (s.unlockFail.1 = Code.debugLocked ∧
    s.unlockFail.2.2.flash.failures = min 127 (s.flash.failures + 1) ∧
    s.unlockFail.2.2.trust.class2 = (s.trust.class2 || decide (min 127 (s.flash.failures + 1) = 64))) ∧
    s.unlockFail.2.2.sessionOpen = s.sessionOpen := by
  refine ⟨⟨rfl, ?_, ?_⟩, ?_⟩
  · rw [State.unlockFail, State.setFailures]
    dsimp only
    rw [State.setFld_flash]
  · rw [State.unlockFail, State.setFailures]
    dsimp only
    rw [State.setFld_trust]
    rfl
  · exact (State.bit_setFld_disjoint _ _ _ _ (by decide) (by decide)).trans (State.bit_congr rfl)

theorem State.fld_withSession (x : Trust) (y : Monitor) (q : Field) :
    ({ s with trust := x, mon := y } : State).fld q = s.fld q := State.fld_congr rfl

theorem State.bit_withSession (x : Trust) (y : Monitor) (q : Field) :
    ({ s with trust := x, mon := y } : State).bit q = s.bit q := State.bit_congr rfl

theorem State.unlockDone_spec {h d : Nat} (hh : h < 2 ^ 6) : (s.unlockDone h d).2.2.sessionOpen = true ∧
    (s.unlockDone h d).2.2.flash.failures = 0 ∧ (s.unlockDone h d).2.2.fld F.DBG_STATUS_scope = h ∧
    (s.unlockDone h d).2.2.trust.sessionEnd = some (s.now + d * 1000000000) := by
  refine ⟨?_, ?_, ?_, rfl⟩
  · rw [State.sessionOpen, State.unlockDone, State.openSession, State.bit_withSession,
      State.bit_setFld_disjoint _ _ _ _ (by decide) (by decide), State.bit_setBit_same _ _ _ (by decide) (by decide)]
  · rw [State.unlockDone, State.openSession]
    dsimp only
    rw [State.setFld_flash, State.setBit_flash, State.setFailures, State.setFld_flash]
  · rw [State.unlockDone, State.openSession, State.fld_withSession, State.fld_setFld_same _ _ _ (by decide)]
    exact Nat.mod_eq_of_lt hh

/-! ## Tampers (R451) -/

theorem State.tamper1_keeps (d : Nat) : (s.tamper1 d).trust.class2 = s.trust.class2 ∧ (s.tamper1 d).fuses = s.fuses ∧
    (s.tamper1 d).flash = s.flash := by
  rw [State.tamper1, State.fault_trust, State.fault_fuses, State.fault_flash]
  exact ⟨rfl, rfl, rfl⟩

theorem glitch_counts {l : List Nat} (hm : s.mode ≠ Mode.off)
    (hl : l = s.trust.glitches.filter (fun t => decide (s.now < t + 1000000000))) : glitch s = { s with trust :=
      { s.trust with glitches := l ++ [s.now], class2 := s.trust.class2 || decide (2 ≤ l.length) } } := by
  have hthird : decide (3 ≤ (l ++ [s.now]).length) = decide (2 ≤ l.length) := by
    rw [List.length_append, List.length_singleton, decide_eq_decide]
    omega
  rw [glitch, if_neg hm, ← hl, ← hthird]

end Sys2Proof.Machine
end

section
open Sys2Proof Sys2Proof.Machine

/-- Settles O58: each signed command by what it runs and how it ends, each husk command by the bytes that it returns,
the attempts to unlock, and the tampers counted. -/
theorem trustCommandsRun : Obligations.TrustCommandsRun := by
  unfold Obligations.TrustCommandsRun
  refine ⟨?provision, ?provisionFails, ?addKey, ?revoke, ?raise, ?password, ?ack, ?lock, ?unsigned, ?notPermitted,
    ?ended, ?go, ?busy, ?attest, ?report, ?attestShort, ?certificate, ?challenge, ?unlockPassword, ?response, ?failed,
    ?unlocked, ?debugLock, ?tamper, ?glitch⟩
  case provision =>
    rintro s b c u _ h hs hl rfl hk hb
    obtain ⟨hf, _, _⟩ := h.kept
    rw [exec_provision, h.runs (signer := fun c => c.slot == 0xFE) (beq_iff_eq.2 hs), provisionRun_one hl hk,
      State.lifeChange_ok hb, hf]
  case provisionFails =>
    intro s b c u h hs hl hk hb
    rw [exec_provision, h.runs (signer := fun c => c.slot == 0xFE) (beq_iff_eq.2 hs), provisionRun_one hl hk,
      State.lifeChange_failed hb]
  case addKey =>
    intro s b c u k h hs hl hk hfree hbelow hb
    obtain ⟨hf, _, _⟩ := h.kept
    have hslots := State.slotBurned_congr hf
    rw [exec_addKey, h.runs hs, addKeyRun_free hl hk (hslots ▸ hfree) (hslots ▸ hbelow), State.burnFuse_ok hb, hf]
  case revoke =>
    intro s b c u k h hs ha hburned hk huse hb
    obtain ⟨hf, _, _⟩ := h.kept
    rw [exec_revokeKey, h.runs hs, revokeRun_other ha (State.slotBurned_congr hf ▸ hburned) hk
      (State.usableSlots_congr hf ▸ huse), State.burnFuse_ok hb, hf]
  case raise =>
    intro s b c u v h hs ha hv hfl hb
    obtain ⟨hf, _, _⟩ := h.kept
    rw [exec_raiseFloor, h.runs hs]
    by_cases hlow : v ≤ s.fuses.floor
    · rw [raiseRun_low ha hv (hf ▸ hlow), if_pos hlow]
      rfl
    · rw [raiseRun_forced ha hv (hf ▸ hlow) (hf ▸ hfl), State.burnFuse_ok hb, if_neg hlow, hf]
  case password =>
    intro s c u h hs hl
    obtain ⟨_, _, hflash⟩ := h.kept
    rw [exec_setPassword, h.runs hs, passwordRun_set hl, hflash]
  case ack =>
    intro s c u h hs hl hh
    obtain ⟨_, ht, hflash⟩ := h.kept
    rw [exec_tamperAck, h.runs hs, ackRun_set hl (ht ▸ hh), hflash]
  case lock =>
    intro s b c u h hs hb
    obtain ⟨hf, _, _⟩ := h.kept
    rw [exec_tamperLock, h.runs hs, State.burnFuse_ok hb, hf]
  case unsigned =>
    intro s b c u h hs
    rw [exec_tamperLock, h.unsigned hs]
  case notPermitted =>
    rintro s c _ hc hcode h1 h2 rfl
    rw [exec_setPassword, State.signedRun_notPermitted hc hcode (by simp [h1, h2])]
    rfl
  case ended =>
    intro s c n
    exact State.commandEnd_spec
  case go =>
    intro s m w hb h1 h6 hl
    rw [exec_pciCmdGo, cmdGo_accepted hb h1 h6 hl]
  case busy =>
    intro s m w h
    rw [exec_pciCmdGo, cmdGo_busy h]
    rfl
  case attest =>
    rintro s _ _ h rfl _ rfl
    rw [exec_attest, h.runs (fun _ => by decide), attestRun_nonce State.length_bufferBytes]
  case report =>
    intro s l h
    exact State.report_spec h
  case attestShort =>
    intro s via l ht hr ho hl
    rw [exec_attest, State.huskRun_monitor ht hr ho (by decide), attestRun_short hl]
    rfl
  case certificate =>
    intro s n h
    rw [exec_identityCert, h.runs (fun _ => by decide)]
    rfl
  case challenge =>
    rintro s n _ h hl rfl
    rw [exec_unlockChallenge, h.runs (fun h => absurd h hl), challengeRun_eq]
  case unlockPassword =>
    rintro s l _ h hb h1 h64 hl hback rfl
    rw [exec_unlockPassword, h.runs (fun h => absurd (hl.symm.trans h) (by decide)), ← hb, unlockPasswordRun,
      State.unlockGuard_open hl hback, passwordGo_eq h1 h64 hl]
    split <;> rfl
  case response =>
    rintro s l i d k m h t g hw hb hl hback hn hd h1 hmax hh hs hi rfl hg
    have hlen : l.length = 7228 := hb ▸ State.length_bufferBytes
    rw [exec_unlockResponse, hw.runs (fun h => absurd (hl.symm.trans h) (by decide)), ← hb, responseRun,
      State.unlockGuard_open hl hback, responseGo_eq hlen hn hd h1 hmax hh hs hi hg]
    split <;> rfl
  case failed =>
    intro s
    exact State.unlockFail_spec
  case unlocked =>
    intro s h d
    exact State.unlockDone_spec
  case debugLock =>
    intro s n h hl
    rw [exec_debugLock, h.runs (fun h => absurd h hl)]
    rfl
  case tamper =>
    intro s d
    exact ⟨_, exec_tamperClass1, State.tamper1_class1 _, State.tamper1_keeps _⟩
  case glitch =>
    intro s l hm hl
    rw [exec_glitchEvent, glitch_counts hm hl]

end

section
/-! PROOFS. The scratchpad (R401, R407 to R412, R414, R415): stores and loads, accesses, modes and power, the wipe and
the scrubbers. -/

namespace Sys2Proof.Machine

variable {s t : State} {m : Master} {o n k i b set : Nat} {v : List Byte} {size : Fin 513} {ecc : Ecc} {p c : Bool}

theorem exec_spmAccess {o : BitVec 27} {w : Option (List Byte)} : exec (.spmAccess m o size w p c ecc) s =
    .next (spmAccess m o.toNat size.val w p c ecc s) := by rfl
theorem exec_spmAtomic {a : BitVec 48} {sw : Bool} {v : Word} : exec (.spmAtomic m a sw v p ecc) s =
    .next (spmAtomicOp m a.toNat sw v p ecc s) := by rfl
theorem exec_spmSetModeWrite {g : Fin 16} {l : Bool} : exec (.spmSetModeWrite m g l) s =
    .next (spmSetMode g.val l s) := by rfl
theorem exec_spmSetPowerWrite {g : Fin 16} {x : Fin 4} : exec (.spmSetPowerWrite m g x) s =
    .next (spmSetPower g.val x.val s) := by rfl
theorem exec_spmBankPowerWrite {b : Fin 512} {x : Fin 4} : exec (.spmBankPowerWrite m b x) s =
    .next (spmBankPower b.val x.val s) := by rfl
theorem exec_powerChangeDone {b : Fin 512} : exec (.powerChangeDone b) s = .next (powerDone b.val s) := by rfl
theorem exec_secureWipeDone : exec .secureWipeDone s = .next (wipeDone s) := by rfl
theorem exec_spmScrubCycle {b : Fin 512} : exec (.spmScrubCycle b ecc) s = .next (spmScrub b.val ecc s) := by rfl
theorem exec_scrubStallCheck : exec .scrubStallCheck s = .next (stallCheck s) := by rfl

/-! ## Stores (R408) -/

/-- Where an offset is stored is read from the bank set's register. -/
theorem State.spmWord_congr (h : t.ctrl = s.ctrl) (o : Nat) : t.spmWord o = s.spmWord o := by
  have hl : ∀ x, t.spmLinear x = s.spmLinear x := fun x => State.bit_congr (State.reg_eq_of_ctrl h _)
  rw [State.spmWord, State.spmWord, State.spmGlobalBank, State.spmGlobalBank, hl]

theorem State.spmByte_setSpmByte_ne {x : Byte} {k' b' : Nat} (hb : b < 8) (hb' : b' < 8) (h : k' ≠ k ∨ b' ≠ b) :
    (s.setSpmByte k' b' x).spmByte k b = s.spmByte k b := by
  have hne : k * 8 + b ≠ k' * 8 + b' := by omega
  exact Table.get_set_ne _ _ _ hne

theorem State.spmStore_keeps : (s.spmStore o v).spm.poison = s.spm.poison ∧ (s.spmStore o v).ctrl = s.ctrl := by
  induction v generalizing s o with
  | nil => exact ⟨rfl, rfl⟩
  | cons x xs ih =>
    obtain ⟨hp, hc⟩ := ih (s := s.setSpmByte (s.spmWord o) (o % 8) x) (o := o + 1)
    exact ⟨hp, hc⟩

theorem State.spmByte_spmStore_ne (hb : b < 8) (h : ∀ i, i < v.length → s.spmWord (o + i) ≠ k ∨ (o + i) % 8 ≠ b) :
    (s.spmStore o v).spmByte k b = s.spmByte k b := by
  induction v generalizing s o with
  | nil => rfl
  | cons x xs ih =>
    have hhead : s.spmWord o ≠ k ∨ o % 8 ≠ b := h 0 (Nat.zero_lt_succ _)
    rw [State.spmStore, ih, State.spmByte_setSpmByte_ne hb (Nat.mod_lt _ (by decide)) hhead]
    intro i hi
    rw [State.spmWord_congr (State.setSpmByte_ctrl ..), Nat.add_assoc, Nat.add_comm 1]
    exact h (i + 1) (Nat.succ_lt_succ hi)

theorem State.spmAt_spmStore_one {x : Byte} : (s.spmStore o [x]).spmAt o = x := by
  rw [State.spmAt, State.spmStore, State.spmStore, State.spmWord_congr (State.setSpmByte_ctrl ..),
    State.spmByte_setSpmByte_same]

theorem State.wf_spmStore (h : Table.wf zeroByte s.spm.mem = true) :
    Table.wf zeroByte (s.spmStore o v).spm.mem = true := by
  induction v generalizing s o with
  | nil => exact h
  | cons x xs ih => exact ih (Table.wf_set _ _ _ _ h)

theorem State.ctrl_spmMark {l : List Nat} : (s.spmMark o n p l).ctrl = s.ctrl := by
  induction l generalizing s with
  | nil => rfl
  | cons a l ih => exact ih

/-! ## A bank loses its contents (Table 14.3) -/

/-- Of a table with entries removed by their keys, a kept key reads as before, and one removed as its default. -/
theorem Table.get_filter_key {α : Type} (d : Nat → α) (q : Nat → Bool) (x : Table α) (j : Nat) :
    Table.get d (x.filter fun e => q e.1) j = if q j then Table.get d x j else d j := by
  induction x with
  | nil => exact (ite_self _).symm
  | cons e x ih =>
    by_cases hj : e.1 = j
    · cases hq : q j
      · rw [List.filter_cons_of_neg (by rw [hj, hq]; decide), ih, hq]
        rfl
      · rw [List.filter_cons_of_pos (by rw [hj, hq]), Table.get, if_pos hj, if_pos rfl, Table.get, if_pos hj]
    · cases hq : q e.1
      · rw [List.filter_cons_of_neg (by rw [hq]; decide), ih, Table.get, if_neg hj]
      · rw [List.filter_cons_of_pos (by rw [hq]), Table.get, if_neg hj, ih, Table.get, if_neg hj]

theorem State.spmByte_spmErase (hi : i < 8) :
    (s.spmErase b).spmByte k i = if k / 32768 = b then 0 else s.spmByte k i := by
  refine (Table.get_filter_key _ (fun j => !(decide (b * 32768 * 8 ≤ j) && decide (j < (b * 32768 + 32768) * 8))) _ _).trans ?_
  by_cases hk : k / 32768 = b
  · have hin : b * 32768 * 8 ≤ k * 8 + i ∧ k * 8 + i < (b * 32768 + 32768) * 8 := by omega
    simp [hk, hin, zeroByte]
  · rw [if_neg hk, if_pos, State.spmByte]
    simp only [Bool.not_eq_true', Bool.and_eq_false_iff, decide_eq_false_iff_not]
    omega

/-! ## Accesses (R408, R409, R414) -/

section
variable (hr : o + n ≤ 0x8000000)
include hr

theorem spmAccess_blocked {w : Option (List Byte)} (hx : (m.external && spmSecure o n) = true) :
    spmAccess m o n w p c ecc s = s.error Code.blockedRange := by
  unfold spmAccess
  rw [if_neg hr.not_gt, hx]
  exact if_pos rfl

variable (hx : (m.external && spmSecure o n) = false)
include hx

theorem spmAccess_read : spmAccess m o n none p c ecc s = spmRead o n ecc s := by
  rw [spmAccess, if_neg hr.not_gt, hx]
  exact if_neg Bool.false_ne_true

theorem spmAccess_write : spmAccess m o n (some v) p c ecc s = spmWrite o v p c ecc s := by
  rw [spmAccess, if_neg hr.not_gt, hx]
  exact if_neg Bool.false_ne_true

end

/-- A word that is touched by an access of whole words is written whole. -/
theorem whole_of_mem_spmOffsets {a : Nat} (ho : o % 8 = 0) (hn : n % 8 = 0) (h : a ∈ spmOffsets o n) :
    o ≤ a ∧ a + 8 ≤ o + n := by
  rw [spmOffsets] at h
  split at h
  · cases h
  · obtain ⟨i, hi, rfl⟩ := List.mem_map.1 h
    rw [List.mem_range] at hi
    omega

/-- A write of whole words is stored with its marking and acknowledged. -/
theorem spmWrite_whole (ho : o % 8 = 0) (hv : v.length % 8 = 0) (hs : (s.spmBanks o v.length).all s.spmServes = true) :
    spmWrite o v false true .clean s = ((s.spmMark o v.length false (spmOffsets o v.length)).spmStore o v).ack := by
  have hpart : spmPartial o v.length = false := by
    have : (o + v.length) % 8 = 0 := by omega
    rw [spmPartial, ho, this]
    rfl
  have hmerged : (spmOffsets o v.length).any (fun a =>
      !(decide (o ≤ a) && decide (a + 8 ≤ o + v.length)) && s.spmPoison (s.spmWord a)) = false := by
    rw [List.any_eq_false]
    intro a ha
    obtain ⟨hlo, hhi⟩ := whole_of_mem_spmOffsets ho hv ha
    simp [hlo, hhi]
  simp only [spmWrite, hs, hpart, Bool.not_true, Bool.false_eq_true, if_false, hmerged]
  rfl

theorem spmRead_serves (hs : (s.spmBanks o n).all s.spmServes = true) : spmRead o n ecc s =
    (s.spmCheck (o >>> 23) (s.spmWord o) ecc).reply ((s.spmCheck (o >>> 23) (s.spmWord o) ecc).spmLoad o n)
      ((s.spmCheck (o >>> 23) (s.spmWord o) ecc).spmAnyPoison o n) :=
  if_neg (by rw [hs]; decide)

theorem spmRead_unpowered (hs : (s.spmBanks o n).all s.spmServes = false) :
    spmRead o n ecc s = s.error Code.bankUnpowered :=
  if_pos (by rw [hs]; rfl)

theorem spmAtomicOp_serves {a : Nat} {sw : Bool} {x : Word} (ho : o = a - 0x20000000000) (h4 : a % 4 = 0)
    (hlo : 0x20000000000 ≤ a) (hhi : a < 0x20008000000) (hx : (m.external && spmSecure o 4) = false)
    (hs : s.spmServes (s.spmGlobalBank o) = true) : spmAtomicOp m a sw x p .clean s =
      ((s.spmStore o (toBytes 4 (if sw then x else BitVec.ofNat 32 (ofBytes (s.spmLoad o 4)) + x).toNat)).setSpmPoison
        (s.spmWord o) (s.spmPoison (s.spmWord o) || p)).reply
        (toBytes 4 (BitVec.ofNat 32 (ofBytes (s.spmLoad o 4))).toNat) (s.spmPoison (s.spmWord o)) := by
  have hok : ¬(a % 4 ≠ 0 ∨ a < 0x20000000000 ∨ 0x20008000000 ≤ a) := by omega
  rw [spmAtomicOp, if_neg hok, ← ho, if_neg (by rw [hx]; decide), spmAtomicAt, if_neg (by rw [hs]; decide)]
  rfl

theorem spmAtomicOp_misaligned {a : Nat} {sw : Bool} {x : Word} (h4 : a % 4 ≠ 0) :
    spmAtomicOp m a sw x p ecc s = s.error Code.invalidArgument := if_pos (.inl h4)

/-! ## Modes and power (R407, R411, R412) -/

section
variable {l : Bool} {x : Nat}

theorem spmSetMode_on (hl : s.spmLinear set = !l) (hb : s.spmSetBusy set = false) (ho : s.spmSetOn set = true) :
    spmSetMode set l s = ((s.setBit (F.SPM_SET_CFG_mode set) l).setFld (F.SPM_SET_CFG_state set) 0).ack := by
  rw [spmSetMode, if_neg (by rw [hl]; cases l <;> decide), hb, ho]
  rfl

theorem spmSetMode_busy (hl : s.spmLinear set = !l) (hb : s.spmSetBusy set = true) :
    spmSetMode set l s = s.spmRefuse Code.notPermitted := by
  rw [spmSetMode, if_neg (by rw [hl]; cases l <;> decide), hb]
  rfl

theorem spmSetPower_changes (hl : s.spmLinear set = false) (hx : x ≠ 3) (hb : s.spmSetBusy set = false)
    (hs : s.fld (F.SPM_SET_CFG_state set) ≠ x) : spmSetPower set x s =
      ((s.setFld (F.SPM_SET_CFG_power set) x).setBit (F.SPM_SET_CFG_changing set) true).ack := by
  have hstate : (s.setFld (F.SPM_SET_CFG_power set) x).fld (F.SPM_SET_CFG_state set) ≠ x := by
    rwa [State.fld_setFld_disjoint _ _ _ _ (Nat.le_of_ble_eq_true rfl) (.inr (.inr (Nat.le_of_ble_eq_true rfl)))]
  rw [spmSetPower, hl, hb, if_neg Bool.false_ne_true, if_neg hx, if_neg Bool.false_ne_true]
  exact if_neg hstate

theorem spmSetPower_reserved (hl : s.spmLinear set = false) : spmSetPower set 3 s = s.spmRefuse Code.invalidArgument := by
  rw [spmSetPower, hl, if_neg Bool.false_ne_true, if_pos rfl]

theorem spmBankPower_interleaved (hl : s.spmLinear (b / 32) = false) :
    spmBankPower b x s = s.spmRefuse Code.notPermitted := by
  rw [spmBankPower, hl]
  rfl

theorem spmBankPower_changes (hl : s.spmLinear (b / 32) = true) (hx : x ≠ 3) (hb : s.spmChanging b = false)
    (hs : s.fld (F.SPM_BANK_PWR_state b) ≠ x) : spmBankPower b x s =
      ((s.setFld (F.SPM_BANK_PWR_power b) x).setBit (F.SPM_BANK_PWR_changing b) true).ack := by
  have hstate : (s.setFld (F.SPM_BANK_PWR_power b) x).fld (F.SPM_BANK_PWR_state b) ≠ x := by
    rwa [State.fld_setFld_disjoint _ _ _ _ (Nat.le_of_ble_eq_true rfl) (.inr (.inr (Nat.le_of_ble_eq_true rfl)))]
  rw [spmBankPower, hl, hb, if_neg (by decide), if_neg hx, if_neg Bool.false_ne_true]
  exact if_neg hstate

end

/-- What a bank leaves or enters OFF with: its words are zero, and a wipe of the secure part counts. -/
def State.bankCleared (s : State) (b : Nat) : State :=
  let new := s.fld (F.SPM_BANK_PWR_power b)
  let t := if s.fld (F.SPM_BANK_PWR_state b) = 2 ∨ new = 2 then s.spmErase b else s
  if new = 2 ∧ b / 32 = 15 then t.incFld F.SPM_STATUS_wipes else t

theorem State.spm_bankCleared : (s.bankCleared b).spm =
    if s.fld (F.SPM_BANK_PWR_state b) = 2 ∨ s.fld (F.SPM_BANK_PWR_power b) = 2 then (s.spmErase b).spm else s.spm := by
  unfold State.bankCleared
  dsimp only
  split_ifs <;> rfl

theorem powerDone_linear (hl : s.spmLinear (b / 32) = true) (hc : s.bit (F.SPM_BANK_PWR_changing b) = true) :
    powerDone b s = ((s.bankCleared b).setFld (F.SPM_BANK_PWR_state b) (s.fld (F.SPM_BANK_PWR_power b))).setBit
      (F.SPM_BANK_PWR_changing b) false := by
  rw [powerDone, hl, hc]
  rfl

theorem State.fld_lt (q : Field) : s.fld q < 2 ^ q.width := Nat.mod_lt _ (Nat.two_pow_pos _)

/-! ## The wipe (R415) -/

theorem State.spm_banksOn {l : List Nat} : (s.banksOn l).spm = s.spm := by
  induction l generalizing s with
  | nil => rfl
  | cons b l ih => exact ih

theorem wipeDone_spec (h : s.bit F.SPM_STATUS_wiping = true) : (wipeDone s).bit F.SPM_STATUS_wiping = false ∧
    (wipeDone s).spm = (s.spmEraseAll ((List.range 32).map (480 + ·))).spm := by
  rw [wipeDone, if_pos h]
  refine ⟨State.bit_setBit_same _ _ _ (by decide) (by decide), ?_⟩
  rw [State.setBit_spm, State.incFld_spm]
  split
  · exact State.spm_banksOn
  · rfl

/-! ## Scrubbers (R401) -/

theorem spmScrub_on (hp : s.spmPower b = 0) (hc : s.spmChanging b = false) : spmScrub b ecc s =
    (s.spmCheck (b / 32) (b * 32768 + (s.lap (lapSpm b)).next) ecc).lapStep (lapSpm b) 32768 :=
  if_pos ⟨hp, hc⟩

theorem stallCheck_spec : KeepsRegs s (stallCheck s) [R.MP_SCRUB_STALLED] ∧ (stallCheck s).laps = s.laps ∧
    (s.laps = [] → (stallCheck s).fld F.MP_SCRUB_STALLED_engines = 1024 ∧
      (stallCheck s).fld F.MP_SCRUB_STALLED_brams = 36864) := by
  refine ⟨fun k hk => ?_, rfl, fun h => ?_⟩
  · have hne : k ≠ R.MP_SCRUB_STALLED := List.ne_of_not_mem_cons hk
    rw [stallCheck, State.reg_setFld_ne _ _ hne, State.reg_setFld_ne _ _ hne]
  · rw [stallCheck, h, State.fld_setFld_disjoint _ _ _ _ (by decide) (by decide),
      State.fld_setFld_same _ _ _ (by decide), State.fld_setFld_same _ _ _ (by decide)]
    exact ⟨rfl, rfl⟩

end Sys2Proof.Machine
end

section
/-! PROOFS. Mailboxes (R416 to R421): doorbells, sends, acknowledgements and expiries. -/

namespace Sys2Proof.Machine

variable {s t : State} {m : Master} {x : Nat} {w : Word}

theorem exec_mbxDbSet {x : Fin 256} : exec (.mbxDbSet m x w) s = .next (mbxRing x.val w s) := by rfl
theorem exec_mbxDbClear {x : Fin 256} : exec (.mbxDbClear m x w) s = .next (mbxClear x.val w s) := by rfl
theorem exec_mbxMaskWrite {x : Fin 256} : exec (.mbxMaskWrite m x w) s = .next (mbxMask x.val w s) := by rfl
theorem exec_mbxAck {x : Fin 256} {q c : BitVec 16} : exec (.mbxAck m x q c) s =
    .next (mbxAckWrite m x.val q.toNat c.toNat s) := by rfl
theorem exec_mbxTimeout {x : Fin 256} : exec (.mbxTimeout x) s = .next (mbxTimedOut x.val s) := by rfl
theorem exec_mbxMsgWrite {x : Fin 256} {i : Fin 16} : exec (.mbxMsgWrite m x i w) s =
    .next (mbxMessage m x.val i.val w s) := by rfl
theorem exec_mbxCfgWrite {x : Fin 256} : exec (.mbxCfgWrite m x w) s = .next (mbxConfig m x.val w s) := by rfl
theorem exec_mbxSend {x : Fin 256} : exec (.mbxSend m x) s = .next (if s.mbxIsPending x.val then mbxSendGo m x.val s
    else (mbxSendGo m x.val s).monFragment x.val) := by rfl

theorem State.mailbox_setMailbox_same {y : Mailbox} : (s.setMailbox x y).mailbox x = y := Table.get_set_same ..

theorem mbxState_ne_mbxCfg : R.MBX_CFG x ≠ R.MBX_STATE x := by
  simp only [R.MBX_CFG, R.MBX_STATE]
  omega

theorem mbxState_ne_mbxResult : R.MBX_STATE x ≠ R.MBX_RESULT x := by
  simp only [R.MBX_RESULT, R.MBX_STATE]
  omega

theorem mbxState_ne_mbxDb : R.MBX_STATE x ≠ R.MBX_DB x := by
  simp only [R.MBX_DB, R.MBX_STATE]
  omega

theorem mbxCfg_ne_mbxDb : R.MBX_CFG x ≠ R.MBX_DB x := by
  simp only [R.MBX_DB, R.MBX_CFG]
  omega

/-! ## Acknowledgements and expiries (R418, R420) -/

/-- A mailbox with its message acknowledged. -/
def State.acknowledged (s : State) (x c : Nat) : State :=
  let t := (s.setFld (F.MBX_STATE_state x) 2).setFld (F.MBX_RESULT_code x) c
  t.setMailbox x { t.mailbox x with deadline := none }

theorem mbxAckWrite_accepted {q c : Nat} (hp : s.mbxIsPending x = true) (hr : s.mbxReceiver x m = true)
    (hq : s.fld (F.MBX_STATE_seq x) = q) : mbxAckWrite m x q c s = (s.acknowledged x c).ack := by
  rw [mbxAckWrite, hp, hr, hq, beq_self_eq_true]
  rfl

theorem State.state_acknowledged {c : Nat} : (s.acknowledged x c).fld (F.MBX_STATE_state x) = 2 := by
  rw [State.acknowledged, State.setMailbox_fld, State.fld_setFld_ne _ _ _ _ mbxState_ne_mbxResult,
    State.fld_setFld_same _ _ _ (Nat.le_of_ble_eq_true rfl)]
  rfl

theorem State.code_acknowledged (c : BitVec 16) :
    (s.acknowledged x c.toNat).fld (F.MBX_RESULT_code x) = c.toNat := by
  rw [State.acknowledged, State.setMailbox_fld, State.fld_setFld_same _ _ _ (Nat.le_of_ble_eq_true rfl)]
  exact Nat.mod_eq_of_lt c.isLt

theorem State.seq_acknowledged {c : Nat} :
    (s.acknowledged x c).fld (F.MBX_STATE_seq x) = s.fld (F.MBX_STATE_seq x) := by
  rw [State.acknowledged, State.setMailbox_fld, State.fld_setFld_ne _ _ _ _ mbxState_ne_mbxResult,
    State.fld_setFld_disjoint _ _ _ _ (Nat.le_of_ble_eq_true rfl) (.inr (.inr (Nat.le_of_ble_eq_true rfl)))]

theorem State.deadline_acknowledged {c : Nat} : ((s.acknowledged x c).mailbox x).deadline = none := by
  rw [State.acknowledged, State.mailbox_setMailbox_same]

theorem State.mailbox_ack : s.ack.mailbox x = s.mailbox x := by rfl

theorem State.mailbox_setReg {k : Nat} : (s.setReg k w).mailbox x = s.mailbox x := by
  rw [State.mailbox, State.mailbox, State.setReg_mbx]

theorem mbxAckWrite_late {q c : Nat} (h : s.mbxIsPending x = false ∨ s.mbxReceiver x m = false ∨
    s.fld (F.MBX_STATE_seq x) ≠ q) : mbxAckWrite m x q c s =
      (s.satFld (F.MBX_COUNT_late_acks x) (F.MBX_COUNT_overflow x)).ack := by
  refine if_neg ?_
  rcases h with h | h | h <;> simp [h]

theorem mbxTimedOut_late {d : Nat} (hp : s.mbxIsPending x = true) (hu : s.mbxUnavailable x = false)
    (hd : (s.mailbox x).deadline = some d) (hl : d ≤ s.now) : mbxTimedOut x s =
      (s.mbxExpire x false).fault Unit.mbx .mbxTimeout (.unit (s.mbxSubject x)) 0 x := by
  simp only [mbxTimedOut, hp, hu, hd, decide_eq_true hl, Bool.false_eq_true, if_true, if_false]

/-! ## Writes and sends (R418, R419, R421) -/

theorem mbxMessage_stored {i : Nat} (h : s.mbxIsPending x = false ∨ s.mbxReceiver x m = true) :
    mbxMessage m x i w s = (s.setReg (R.MBX_MSG x i) w).ack := by
  refine if_neg ?_
  rcases h with h | h <;> simp [h]

theorem mbxConfig_stored (hh : s.mbxHeld m x = true) (hp : s.mbxIsPending x = false) :
    mbxConfig m x w s = (s.setReg (R.MBX_CFG x) (w &&& 0xCFFFFFFF#32)).ack := by
  rw [mbxConfig, hh, hp]
  rfl

theorem mbxConfig_claimed (hh : s.mbxHeld m x = false) :
    mbxConfig m x w s = s.refuse (F.MBX_RESULT_last_status x) Code.claimBusy :=
  if_pos (by rw [hh]; rfl)

theorem mbxSendGo_claimed (hh : s.mbxHeld m x = false) :
    mbxSendGo m x s = s.refuse (F.MBX_RESULT_last_status x) Code.claimBusy :=
  if_pos (by rw [hh]; rfl)

theorem State.mbxHeld_of_ne (hx : x ≠ 0) : s.mbxHeld m x = true := by simp [State.mbxHeld, hx]

theorem mbxSendGo_pending (hx : x ≠ 0) (hp : s.mbxIsPending x = true) :
    mbxSendGo m x s = s.refuse (F.MBX_RESULT_last_status x) Code.notPermitted := by
  rw [mbxSendGo, State.mbxHeld_of_ne hx, hp]
  rfl

theorem State.monFragment_of_ne (hx : x ≠ 0) : s.monFragment x = s := if_neg fun h => hx h.1

/-- A mailbox without a receiver has none that is unavailable or notified. -/
theorem State.mbxUnavailable_none (h : s.fld (F.MBX_CFG_kind x) = 0) : s.mbxUnavailable x = false := by
  simp only [State.mbxUnavailable, h]

theorem State.mbxNotify_none (h : s.fld (F.MBX_CFG_kind x) = 0) : s.mbxNotify x = s := by
  rw [State.mbxNotify, State.mbxUnavailable_none h, h]
  rfl

theorem State.ringMask_none (h : s.fld (F.MBX_CFG_kind x) = 0) :
    s.ringMask x w = s.setReg (R.MBX_DB x) (s.reg (R.MBX_DB x) ||| w) := by
  have hk : (s.setReg (R.MBX_DB x) (s.reg (R.MBX_DB x) ||| w)).fld (F.MBX_CFG_kind x) = 0 :=
    (State.fld_setReg_ne _ _ mbxCfg_ne_mbxDb).trans h
  rw [State.ringMask, State.mbxNotify_none hk, ite_self]

/-- The state of a mailbox at a send: the next sequence number, and no mark of an expiry. -/
def State.sendNumbered (s : State) (x : Nat) : State :=
  ((s.incFld (F.MBX_STATE_seq x)).setBit (F.MBX_STATE_timed_out x) false).setBit (F.MBX_STATE_unavailable x) false

theorem State.reg_sendNumbered_ne {k : Nat} (h : k ≠ R.MBX_STATE x) : (s.sendNumbered x).reg k = s.reg k := by
  rw [State.sendNumbered, State.setBit, State.reg_setFld_ne _ _ h, State.setBit, State.reg_setFld_ne _ _ h, State.incFld,
    State.reg_setFld_ne _ _ h]

theorem State.seq_sendNumbered :
    (s.sendNumbered x).fld (F.MBX_STATE_seq x) = (s.fld (F.MBX_STATE_seq x) + 1) % 65536 := by
  rw [State.sendNumbered, State.setBit,
    State.fld_setFld_disjoint _ _ _ _ (Nat.le_of_ble_eq_true rfl) (.inr (.inr (Nat.le_of_ble_eq_true rfl))), State.setBit,
    State.fld_setFld_disjoint _ _ _ _ (Nat.le_of_ble_eq_true rfl) (.inr (.inr (Nat.le_of_ble_eq_true rfl))), State.incFld,
    State.fld_setFld_same _ _ _ (Nat.le_of_ble_eq_true rfl)]
  rfl

/-- A send to a mailbox without a receiver is PENDING, with bell 31 rung. -/
theorem mbxSendGo_none (hx : x ≠ 0) (hp : s.mbxIsPending x = false) (hk : s.fld (F.MBX_CFG_kind x) = 0) :
    ∃ y z : Mailbox, z.sender = some m ∧ mbxSendGo m x s =
      (((((s.sendNumbered x).setMailbox x y).setFld (F.MBX_STATE_state x) 1).setMailbox x z).setReg (R.MBX_DB x)
        (s.reg (R.MBX_DB x) ||| 0x80000000#32)).ack := by
  have hk1 (y : Mailbox) : ((s.sendNumbered x).setMailbox x y).fld (F.MBX_CFG_kind x) = 0 :=
    (State.setMailbox_fld ..).trans ((State.fld_congr (State.reg_sendNumbered_ne mbxState_ne_mbxCfg)).trans hk)
  have hk2 (y z : Mailbox) : ((((s.sendNumbered x).setMailbox x y).setFld (F.MBX_STATE_state x) 1).setMailbox x z).fld
      (F.MBX_CFG_kind x) = 0 :=
    (State.setMailbox_fld ..).trans ((State.fld_setFld_ne _ _ _ _ mbxState_ne_mbxCfg).trans (hk1 y))
  have hdb (y z : Mailbox) : ((((s.sendNumbered x).setMailbox x y).setFld (F.MBX_STATE_state x) 1).setMailbox x z).reg
      (R.MBX_DB x) = s.reg (R.MBX_DB x) := by
    rw [State.setMailbox_reg, State.reg_setFld_ne _ _ mbxState_ne_mbxDb.symm, State.setMailbox_reg,
      State.reg_sendNumbered_ne mbxState_ne_mbxDb.symm]
  rw [mbxSendGo, State.mbxHeld_of_ne hx, hp, if_neg (by decide), if_neg (by decide)]
  dsimp only
  rw [← State.sendNumbered, State.mbxUnavailable_none (hk1 _), if_neg (by decide), State.ringMask_none (hk2 _ _), hdb]
  exact ⟨_, _, rfl, rfl⟩

end Sys2Proof.Machine
end

section
open Sys2Proof Sys2Proof.Machine

/-- Settles O50: accesses, stores, erasures and atomics of the scratchpad, the changes of mode and power, the scrubbers,
and the doorbells, sends and answers of the mailboxes. -/
theorem scratchpadAndMailboxesServe : Obligations.ScratchpadAndMailboxesServe := by
  unfold Obligations.ScratchpadAndMailboxesServe
  refine ⟨?read, ?write, ?frame, ?stored, ?wfStore, ?erased, ?blocked, ?unpowered, ?atomic, ?misaligned, ?mode,
    ?modeBusy, ?setPower, ?setReserved, ?bankInterleaved, ?bankPower, ?powerDone, ?wiped, ?scrub, ?stall, ?ring, ?clear,
    ?mask, ?ack, ?late, ?timeout, ?message, ?config, ?claimed, ?pending, ?send, ?sent⟩
  case read =>
    intro s m o size ecc p c hr hx hs
    rw [exec_spmAccess, spmAccess_read hr hx, spmRead_serves hs]
  case write =>
    rintro s m o _ v rfl hlt hr ho hv hx hs
    have hsize : (Fin.ofNat 513 v.length).val = v.length := Nat.mod_eq_of_lt hlt
    refine ⟨_, exec_spmAccess, ?_⟩
    beta_reduce
    rw [hsize, spmAccess_write hr hx, spmWrite_whole ho hv hs]
    exact ⟨rfl, State.spmStore_keeps.2.trans State.ctrl_spmMark, rfl⟩
  case frame =>
    intro s o v
    exact ⟨State.spmStore_keeps, fun k b => State.spmByte_spmStore_ne⟩
  case stored =>
    intro s o b
    exact State.spmAt_spmStore_one
  case wfStore =>
    intro s o v
    exact State.wf_spmStore
  case erased =>
    intro s b h
    exact ⟨Table.wfFrom_filter _ _ _ _ h, fun k i => State.spmByte_spmErase⟩
  case blocked =>
    intro s m o size w p c ecc hr hx hs
    rw [exec_spmAccess, spmAccess_blocked hr (by rw [hx, spmSecure, decide_eq_true hs]; rfl)]
  case unpowered =>
    intro s m o size p c ecc hr hx hs
    rw [exec_spmAccess, spmAccess_read hr (by rw [hx]; rfl), spmRead_unpowered hs]
    rfl
  case atomic =>
    intro s m a sw v p o ho h4 hlo hhi hx hs
    rw [exec_spmAtomic, spmAtomicOp_serves ho h4 hlo hhi hx hs]
  case misaligned =>
    intro s m a sw v p e h
    rw [exec_spmAtomic, spmAtomicOp_misaligned h]
  case mode =>
    intro s m g l hl hb ho
    rw [exec_spmSetModeWrite, spmSetMode_on hl hb ho]
  case modeBusy =>
    intro s m g l hl hb
    rw [exec_spmSetModeWrite, spmSetMode_busy hl hb]
    rfl
  case setPower =>
    intro s m g p hl hp hb hs
    rw [exec_spmSetPowerWrite, spmSetPower_changes hl (fun h => hp (Fin.ext h)) hb hs]
  case setReserved =>
    intro s m g hl
    rw [exec_spmSetPowerWrite]
    exact congrArg _ (spmSetPower_reserved hl)
  case bankInterleaved =>
    intro s m b p hl
    rw [exec_spmBankPowerWrite, spmBankPower_interleaved hl]
    rfl
  case bankPower =>
    intro s m b p hl hp hb hs
    rw [exec_spmBankPowerWrite, spmBankPower_changes hl (fun h => hp (Fin.ext h)) hb hs]
  case powerDone =>
    intro s b hl hc
    refine ⟨_, exec_powerChangeDone, ?_⟩
    beta_reduce
    rw [powerDone_linear hl hc, State.bit_setBit_same _ _ _ (Nat.le_of_ble_eq_true rfl) rfl, State.setBit,
      State.fld_setFld_disjoint _ _ _ _ (Nat.le_of_ble_eq_true rfl) (.inr (.inl (Nat.le_of_ble_eq_true rfl))),
      State.fld_setFld_same _ _ _ (Nat.le_of_ble_eq_true rfl), State.setFld_spm, State.setFld_spm, State.spm_bankCleared]
    exact ⟨rfl, Nat.mod_eq_of_lt (State.fld_lt _), rfl⟩
  case wiped =>
    intro s h
    exact ⟨_, exec_secureWipeDone, wipeDone_spec h⟩
  case scrub =>
    rintro s b _ hp hc rfl
    rw [exec_spmScrubCycle, exec_spmScrubCycle, spmScrub_on hp hc, spmScrub_on hp hc]
    exact ⟨rfl, rfl⟩
  case stall =>
    intro s
    exact ⟨_, exec_scrubStallCheck, stallCheck_spec⟩
  case ring =>
    rintro s m x w _ rfl
    rw [exec_mbxDbSet]
    rfl
  case clear =>
    rintro s m x w _ rfl
    rw [exec_mbxDbClear]
    rfl
  case mask =>
    rintro s m x w _ rfl
    rw [exec_mbxMaskWrite]
    rfl
  case ack =>
    intro s m x q c hp hr hq
    refine ⟨_, exec_mbxAck, ?_⟩
    beta_reduce
    rw [mbxAckWrite_accepted hp hr hq, State.ack_fld, State.ack_fld, State.ack_fld, State.mailbox_ack,
      State.seq_acknowledged]
    exact ⟨State.state_acknowledged, State.code_acknowledged c, State.deadline_acknowledged, hq⟩
  case late =>
    intro s m x q c h
    rw [exec_mbxAck, mbxAckWrite_late h]
  case timeout =>
    intro s x d hp hu hd hl
    rw [exec_mbxTimeout, mbxTimedOut_late hp hu hd hl]
  case message =>
    intro s m x i w h
    rw [exec_mbxMsgWrite, mbxMessage_stored h]
  case config =>
    intro s m x w hh hp
    rw [exec_mbxCfgWrite, mbxConfig_stored hh hp]
  case claimed =>
    intro s m x hh
    refine ⟨?_, fun w => ?_⟩
    · rw [exec_mbxSend, mbxSendGo_claimed hh]
      rfl
    · rw [exec_mbxCfgWrite, mbxConfig_claimed hh]
      rfl
  case pending =>
    intro s m x hx hp
    rw [exec_mbxSend, if_pos hp, mbxSendGo_pending (fun h => hx (Fin.ext h)) hp]
    rfl
  case send =>
    intro s m x hx hp
    rw [exec_mbxSend, hp, State.monFragment_of_ne (fun h => hx (Fin.ext h)), ite_self]
  case sent =>
    intro s m x hx hp hk
    obtain ⟨y, z, hz, he⟩ := mbxSendGo_none (m := m) (fun h => hx (Fin.ext h)) hp hk
    rw [he, State.ack_fld, State.ack_fld, State.ack_reg, State.reg_setReg_same, State.fld_setReg_ne _ _ mbxState_ne_mbxDb,
      State.fld_setReg_ne _ _ mbxState_ne_mbxDb, State.setMailbox_fld, State.setMailbox_fld,
      State.fld_setFld_same _ _ _ (Nat.le_of_ble_eq_true rfl),
      State.fld_setFld_disjoint _ _ _ _ (Nat.le_of_ble_eq_true rfl) (.inr (.inr (Nat.le_of_ble_eq_true rfl))),
      State.setMailbox_fld, State.seq_sendNumbered, State.mailbox_ack, State.mailbox_setReg,
      State.mailbox_setMailbox_same]
    exact ⟨hz, rfl, rfl, rfl⟩

end

section
/-! PROOFS. DRAM (R362, R368 to R371, R373, R375, R377, R379 to R381, R400): stored lines, pieces, row counters,
training, the command path, sparing and the patrol. -/

namespace Sys2Proof.Machine

variable {s t : State} {m : Master} {a n k i mc sub rank row : Nat} {v : List Byte} {p : Bool} {x : LineHw}

theorem exec_dramReadPiece {a : BitVec 48} {n : Fin 65} : exec (.dramReadPiece m a n x) s =
    .next (readPiece m a.toNat n.val x s) := by rfl
theorem exec_dramWritePiece {a : BitVec 48} {c : Bool} : exec (.dramWritePiece m a v p c x) s =
    .next (writePiece m a.toNat v p c x s) := by rfl
theorem exec_sameBankRefresh {b : BankRef} : exec (.sameBankRefresh b) s = .next s := by rfl
theorem exec_neighbourRefresh {b : BankRef} : exec (.neighbourRefresh b) s = .next (neighbourGo b s) := by rfl
theorem exec_refreshWindowEnd {b : BankRef} : exec (.refreshWindowEnd b) s = .next (windowEnd b s) := by rfl
theorem exec_dramHot {mc : Fin 8} {c : BitVec 8} : exec (.dramHot mc c) s = .next (hot mc.val c.toNat s) := by rfl
theorem exec_trainCheck {mc : Fin 8} {b : Fin 2} {f : List RankDrift} : exec (.trainCheck mc b f) s =
    .next (checkTraining mc.val b.val f s) := by rfl
theorem exec_mcRetrain {mc : Fin 8} : exec (.mcRetrain m mc) s = .next (retrainAll mc.val s) := by rfl
theorem exec_retrainStep {mc rank : Fin 8} {b : Fin 2} {r : Option Bool} : exec (.retrainStep mc b rank r) s =
    .next (trainStep mc.val b.val rank.val r s) := by rfl
theorem exec_caParityError {mc : Fin 8} {b : Fin 2} {r : Bool} : exec (.caParityError mc b r) s =
    .next (caParity mc.val b.val r s) := by rfl
theorem exec_caRetrainDone {mc : Fin 8} {b : Fin 2} : exec (.caRetrainDone mc b) s =
    .next (caRetrained mc.val b.val s) := by rfl
theorem exec_mcSpareGo {mc : Fin 8} {w : Word} : exec (.mcSpareGo m mc w) s = .next (spareGo m mc.val w s) := by rfl
theorem exec_spareCopyDone {mc : Fin 8} {l : List (BitVec 48)} : exec (.spareCopyDone mc l) s =
    .next (rankCopied mc.val l s) := by rfl
theorem exec_mirrorResyncDone {mc : Fin 8} {b : Fin 2} : exec (.mirrorResyncDone mc b) s =
    .next (resynced mc.val b.val s) := by rfl
theorem exec_selfRefreshEnter {mc : Fin 8} : exec (.selfRefreshEnter mc) s = .next (selfRefresh mc.val s) := by rfl
theorem exec_patrolScrubRead {mc : Fin 8} {b : Fin 2} {a : BitVec 48} {e : Ecc} {d : Fin 10} :
    exec (.patrolScrubRead mc b a e d) s = .next (patrol mc.val b.val a.toNat e d.val s) := by rfl

/-! ## Stored bytes (R368, R375) -/

theorem State.dramByte_setDramByte_same {b : Byte} : (s.setDramByte a b).dramByte a = b := Table.get_set_same ..

theorem State.dramByte_setDramByte_ne {b : Byte} (h : k ≠ a) : (s.setDramByte a b).dramByte k = s.dramByte k :=
  Table.get_set_ne _ _ _ h

theorem State.dramByte_dramStore_ne (h : k < a ∨ a + v.length ≤ k) : (s.dramStore a v).dramByte k = s.dramByte k := by
  induction v generalizing s a with
  | nil => rfl
  | cons b v ih =>
    rw [List.length_cons] at h
    rw [State.dramStore, ih (by omega), State.dramByte_setDramByte_ne (by omega)]

theorem State.dramLoad_congr (h : t.dram.mem = s.dram.mem) : t.dramLoad a n = s.dramLoad a n := by
  induction n generalizing a with
  | zero => rfl
  | succ n ih => rw [State.dramLoad, State.dramLoad, ih, State.dramByte, State.dramByte, h]

theorem State.dramLoad_dramStore : (s.dramStore a v).dramLoad a v.length = v := by
  induction v generalizing s a with
  | nil => rfl
  | cons b v ih =>
    rw [State.dramStore, List.length_cons, State.dramLoad, ih, State.dramByte_dramStore_ne (.inl (Nat.lt_succ_self a)),
      State.dramByte_setDramByte_same]

theorem State.wf_dramStore (h : Table.wf zeroByte s.dram.mem = true) :
    Table.wf zeroByte (s.dramStore a v).dram.mem = true := by
  induction v generalizing s a with
  | nil => exact h
  | cons b v ih => exact ih (Table.wf_set _ _ _ _ h)

/-- Tags that a write makes fail leave the bytes and the marks of lines. -/
theorem State.dram_spoilTags : (s.spoilTags a n).dram.mem = s.dram.mem ∧ (s.spoilTags a n).dram.poison = s.dram.poison := by
  induction n generalizing s a with
  | zero => exact ⟨rfl, rfl⟩
  | succ n ih =>
    rw [State.spoilTags]
    refine ⟨ih.1.trans ?_, ih.2.trans ?_⟩
    · split
      · dsimp only
        split <;> rfl
      · rfl
    · split
      · dsimp only
        split <;> rfl
      · rfl

/-- A line that is stored holds its bytes and its mark, and every other byte is as it was. -/
theorem State.storeLine_spec : (s.storeLine a v p).dram.mem = (s.dramStore a v).dram.mem ∧
    (s.storeLine a v p).lineMark (a / 64) = p := by
  rw [State.storeLine, State.lineMark, State.dram_spoilTags.1, State.dram_spoilTags.2]
  exact ⟨rfl, Table.get_set_same ..⟩

theorem State.dramByte_congr (h : t.dram.mem = s.dram.mem) : t.dramByte k = s.dramByte k := by
  rw [State.dramByte, State.dramByte, h]

/-! ## Pieces (R362, R375, R376, R385) -/

section
variable {l : Nat}

theorem State.lineMark_wakeMc : (s.wakeMc l).lineMark k = s.lineMark k := by rfl
theorem State.lineTagged_wakeMc : (s.wakeMc l).lineTagged a = s.lineTagged a := by rfl
theorem State.tagRegionOf_wakeMc : (s.wakeMc l).tagRegionOf a = s.tagRegionOf a := by rfl
theorem State.keyGone_wakeMc : (s.wakeMc l).keyGone a = s.keyGone a := by rfl
theorem State.dramLoad_wakeMc : (s.wakeMc l).dramLoad a n = s.dramLoad a n := State.dramLoad_congr rfl

end

/-- A line whose own copy serves and is clean comes back good. -/
theorem State.readLine_clean {q : LineLoc × Option LineLoc} (hs : s.serves q.1 = true) :
    s.readLine q a p {} = (.good, s) := by
  simp [State.readLine, hs, State.copyErrors]

theorem readPiece_clean {q : LineLoc × Option LineLoc} (hp : s.pieceOk a n = true) (hq : q = s.linePlace a)
    (hs : s.serves q.1 = true) : readPiece m a n {} s = (s.wakeMc q.1.mc).readAnswer q.1 a n .good true := by
  subst hq
  have hread : (s.wakeMc (s.linePlace a).1.mc).readLine (s.linePlace a) a false {} =
      (.good, s.wakeMc (s.linePlace a).1.mc) := State.readLine_clean hs
  have hhw : (if (s.wakeMc (s.linePlace a).1.mc).lineMark (a / 64) then
      { ({} : LineHw) with own := .clean, partner := .clean } else {}) = {} := ite_self _
  rw [readPiece, if_neg (by rw [hp]; decide)]
  simp only [Bool.false_and, Bool.false_eq_true, if_false, hhw, hread]

theorem State.readAnswer_plain {l : LineLoc} (hm : s.lineMark (a / 64) = false) (ht : s.lineTagged a = false)
    (hr : s.tagRegionOf a = none) (hk : s.keyGone a = false) : s.readAnswer l a n .good true = s.reply (s.dramLoad a n) := by
  simp [State.readAnswer, hm, ht, hr, hk]

theorem State.readAnswer_marked {l : LineLoc} (hm : s.lineMark (a / 64) = true) :
    s.readAnswer l a n .good true = s.reply (s.dramLoad a n) true := by
  simp [State.readAnswer, hm]

theorem writePiece_fenced {c : Bool} (hp : s.pieceOk a v.length = true) (hr : s.inHuskRange a = true)
    (hm : m.same .husk = false) : writePiece m a v p c x s = s.fenced m a := by
  rw [writePiece, if_neg (by rw [hp]; decide), if_pos (by rw [hr, hm]; rfl)]

/-- A whole line without a second copy is stored. -/
theorem writePiece_line {l : LineLoc × Option LineLoc} (hv : v.length = 64) (hp : s.pieceOk a 64 = true)
    (hr : s.inHuskRange a = false) (hl : l = s.linePlace a) (h2 : l.2 = none) (hs : s.serves l.1 = true) :
    writePiece m a v p true {} s = ((s.wakeMc l.1.mc).storeLine a v p).ack := by
  subst hl
  have hw : s.writable (s.linePlace a) = true := by rw [State.writable, hs]; rfl
  have hd : (s.wakeMc (s.linePlace a).1.mc).degrade (s.linePlace a) = s.wakeMc (s.linePlace a).1.mc := by
    rw [State.degrade, h2]
  rw [writePiece, hv, if_neg (by rw [hp]; decide), if_neg (by rw [hr, Bool.false_and]; decide)]
  simp only [hw, Bool.not_true, Bool.false_and, Bool.false_eq_true, if_false, hd]
  simp [State.writeLine, hv]

/-! ## Row counters and refreshes (R369, R370) -/

theorem activateCounters_known {l : List (Nat × Nat)} {c : Nat} (h : rowCount row l = some c) :
    (activateCounters row l).2 = min 65535 (c + 1) := by
  simp only [activateCounters, h]

theorem activateCounters_new {l : List (Nat × Nat)} (h : rowCount row l = none) (hl : l.length < 16) :
    activateCounters row l = (l ++ [(row, 1)], 1) := by
  simp only [activateCounters, h, if_pos hl]

theorem neighbourGo_oldest {b : BankRef} {r : Nat} {l : List Nat} (h : s.bankQueue b.key = r :: l) :
    (neighbourGo b s).bankQueue b.key = l ∧ (neighbourGo b s).dram.counters = s.dram.counters := by
  rw [neighbourGo, h]
  dsimp only
  rw [State.bankQueue, State.satFld_dram]
  exact ⟨Table.get_set_same .., rfl⟩

theorem State.bankCounters_setBankCounters_same {l : List (Nat × Nat)} : (s.setBankCounters k l).bankCounters k = l :=
  Table.get_set_same ..

theorem windowEnd_spec {b : BankRef} : (windowEnd b s).bankCounters b.key = [] ∧ (windowEnd b s).ctrl = s.ctrl :=
  ⟨State.bankCounters_setBankCounters_same, rfl⟩

/-! ## Training (R373) -/

theorem State.subch_setSubch_same {y : Subch} : (s.setSubch i y).subch i = y := Table.get_set_same ..

theorem State.subch_congr (h : t.dram = s.dram) : t.subch i = s.subch i := by rw [State.subch, State.subch, h]

theorem State.subch_showTraining : (s.showTraining mc).subch i = s.subch i :=
  State.subch_congr (State.setBit_dram ..)

theorem checkTraining_serves {f : List RankDrift} (hu : (s.subch (2 * mc + sub)).up = true)
    (hd : (s.subch (2 * mc + sub)).down = false) : checkTraining mc sub f s =
      s.beginTraining mc sub ((f.filter fun f => decide (s.fld (F.MC_TRAIN_drift_ps mc) < f.drift.toNat) ||
        decide (s.fld (F.MC_TRAIN_temp_delta mc) < f.temp.toNat)).map (·.rank.val)) := by
  refine if_pos ?_
  rw [State.serves, LineLoc.i, hu, hd]
  rfl

theorem retrainAll_trained (h : s.bit (F.MC_STATUS_trained mc) = true) : retrainAll mc s =
    ((s.beginTraining mc 0 (List.range (s.fld (F.MC_STATUS_ranks mc)))).beginTraining mc 1
      (List.range (s.fld (F.MC_STATUS_ranks mc)))).ack :=
  if_pos h

section
variable {j : Nat × Nat} (hj : (s.subch (2 * mc + sub)).training.find? (fun t => t.1 == rank) = some j)
include hj

theorem trainStep_goesOn (hn : j.2 + 1 < 40) : trainStep mc sub rank none s = s.setSubch (2 * mc + sub)
    { s.subch (2 * mc + sub) with training := (s.subch (2 * mc + sub)).training.map fun u =>
      if u.1 = rank then (rank, j.2 + 1) else u } := by
  simp only [trainStep, hj, if_neg hn.not_ge]

theorem trainStep_ends {r : Option Bool} (h : r = some true ∨ (r = none ∧ 40 ≤ j.2 + 1)) :
    trainStep mc sub rank r s = s.endTraining mc sub rank true := by
  rcases h with rfl | ⟨rfl, hn⟩
  · simp only [trainStep, hj]
  · simp only [trainStep, hj, if_pos hn]

end

theorem State.subch_endTraining : (s.endTraining mc sub rank true).subch (2 * mc + sub) =
    { s.subch (2 * mc + sub) with
      training := (s.subch (2 * mc + sub)).training.filter fun u => u.1 != rank
      failures := Table.set zeroNat (s.subch (2 * mc + sub)).failures rank 0 } := by
  rw [State.endTraining]
  dsimp only
  rw [if_pos rfl, State.subch_showTraining, State.subch_setSubch_same]

/-! ## The command path (R377) -/

theorem caParity_failed : ∃ (u : State) (l : List Nat), caParity mc sub false s =
    (u.setSubch (2 * mc + sub) { u.subch (2 * mc + sub) with caTraining := true, caFails := l }).error Code.caFailed :=
  ⟨_, _, rfl⟩

theorem caRetrained_up (ht : (s.subch (2 * mc + sub)).caTraining = true)
    (hf : (s.subch (2 * mc + sub)).caFails.length < 3) : caRetrained mc sub s =
      s.setSubch (2 * mc + sub) { s.subch (2 * mc + sub) with caTraining := false } := by
  rw [caRetrained, if_neg (by rw [ht]; decide), if_neg hf.not_ge]

theorem caRetrained_down (ht : (s.subch (2 * mc + sub)).caTraining = true)
    (hf : 3 ≤ (s.subch (2 * mc + sub)).caFails.length) : caRetrained mc sub s =
      (s.setSubch (2 * mc + sub) { s.subch (2 * mc + sub) with caFails := [] }).markSub mc sub true := by
  rw [caRetrained, if_neg (by rw [ht]; decide), if_pos hf]

/-! ## Sparing, mirrors and self-refresh (R379 to R381) -/

section
variable {w : Word} (hw : w.getLsbD 31 = true)
include hw

theorem spareGo_refused (hm : m.same .husk = false) :
    spareGo m mc w s = ((s.spareFields m mc w).mcStatus mc Code.notPermitted).ack := by
  rw [spareGo, hw, hm]
  rfl

theorem spareGo_starts {u : State} (hu : u = s.spareFields m mc w) (hm : m.same .husk = true)
    (h1 : u.bit (F.MC_SPARE_used mc) = false) (h2 : u.bit F.MCG_MAP_spare_en = true)
    (h3 : u.bit (F.MC_SPARE_busy mc) = false) : spareGo m mc w s =
      ((u.setBit (F.MC_SPARE_busy mc) true).setFld (F.MC_SPARE_progress mc) 0).openSub.ack := by
  rw [spareGo, ← hu, hw, hm, h1, h2, h3]
  rfl

end

theorem rankCopied_copying {l : List (BitVec 48)} (hb : s.bit (F.MC_SPARE_busy mc) = true)
    (hp : s.fld (F.MC_SPARE_progress mc) ≠ 100) : rankCopied mc l s =
      (((s.markLines (l.map fun a => a.toNat / 64)).setFld (F.MC_SPARE_progress mc) 100).huskStage
        [(Unit.mc mc 0, .remap true (BitVec.ofNat 32 mc))]).2 :=
  if_neg (by simp [hb, hp])

theorem resynced_subch (h : (s.subch (2 * mc + sub)).resync = true) : (resynced mc sub s).subch (2 * mc + sub) =
    { s.subch (2 * mc + sub) with resync := false, down := false, caTraining := false } := by
  have hmark : ((s.setSubch (2 * mc + sub) { s.subch (2 * mc + sub) with resync := false }).markSub mc sub false).subch
      (2 * mc + sub) = { s.subch (2 * mc + sub) with resync := false, down := false, caTraining := false } := by
    rw [State.markSub]
    dsimp only
    rw [State.subch_congr (State.setFld_dram ..), State.subch_setSubch_same, State.subch_setSubch_same]
  rw [resynced, if_neg (by rw [h]; decide)]
  dsimp only
  split
  · exact hmark
  · exact (State.subch_congr (State.setBit_dram ..)).trans hmark

theorem selfRefresh_dormant (h : s.mode = Mode.dormant) : selfRefresh mc s =
    { s with dram := { s.dram with asleep := Table.set notMarked s.dram.asleep mc true } } := if_pos h

/-! ## The patrol (R400) -/

theorem patrol_clean {d : Nat} (hu : (s.subch (2 * mc + sub)).up = true) (hd : (s.subch (2 * mc + sub)).down = false) :
    patrol mc sub a .clean d s = s.patrolLap (2 * mc + sub) a := by
  have hs : s.serves { (s.linePlace a).1 with mc := mc, sub := sub } = true := by
    rw [State.serves, LineLoc.i, hu, hd]
    rfl
  rw [patrol, if_neg (by rw [hs]; decide), ite_self]

end Sys2Proof.Machine
end

section
/-! PROOFS. Protection ranges and sweeps (R382, R385, R390, R393 to R396). -/

namespace Sys2Proof.Machine

variable {s u : State} {m : Master} {w : Word} {r a : Nat} {x : LineHw}

theorem exec_mpRangeEnable {r : Fin 32} : exec (.mpRangeEnable m r w) s = .next (rangeCfg m r.val w s) := by rfl
theorem exec_mpPolicyWrite {r : Option (Fin 32)} {h k : BitVec 2} : exec (.mpPolicyWrite m r h k) s =
    .next (policyWrite (r.map (·.val)) h.toNat k.toNat s) := by rfl
theorem exec_mpSweepGo : exec (.mpSweepGo m w) s = .next (sweepGo m w s) := by rfl
theorem exec_mpSweepLine : exec (.mpSweepLine x) s = .next (sweepLine x s) := by rfl
theorem exec_rekeyDue {r : Fin 32} : exec (.rekeyDue r) s = .next (rekeyGo r.val s) := by rfl

/-! ## Ranges (R382, R390, R393) -/

section
variable (h1 : bitsOf w 26 2 ≠ 2) (h2 : bitsOf w 24 2 ≠ 2) (hm : m.same .husk = true) (h3 : bitsOf w 28 2 ≠ 3)
  (hw : w.getLsbD 31 = true) (ho : s.rangeOn r = false)
include h1 h2 hm h3 hw ho

/-- The husk enables a range that is off, if its rules hold. -/
theorem rangeCfg_enables : rangeCfg m r w s = if s.rangeValid r then
      ((((s.setReg (R.MP_RANGE_CFG r) (w &&& 0xFF000000#32)).setFld (F.MP_RANGE_STATE_live_mode r) 0).setBit
        (F.MP_RANGE_STATE_live_tagged r) false).countRanges).ack
    else (s.rangeStatus r Code.invalidArgument).ack := by
  rw [rangeCfg, if_neg (not_or.2 ⟨h1, h2⟩), hm, if_neg (by decide), if_neg h3, hw, ho]
  exact if_pos rfl

end

theorem rangeCfg_ne_rangeState : R.MP_RANGE_CFG r ≠ R.MP_RANGE_STATE r := by
  simp only [R.MP_RANGE_CFG, R.MP_RANGE_STATE]
  omega

theorem rangeCfg_ne_status : R.MP_RANGE_CFG r ≠ R.MP_STATUS := by
  simp only [R.MP_RANGE_CFG, R.MP_STATUS]
  omega

theorem rangeState_ne_status : R.MP_RANGE_STATE r ≠ R.MP_STATUS := by
  simp only [R.MP_RANGE_STATE, R.MP_STATUS]
  omega

/-- The registers of a range enabled with `w`: live PLAIN and untagged. -/
theorem State.reg_enabled : ((((s.setReg (R.MP_RANGE_CFG r) w).setFld (F.MP_RANGE_STATE_live_mode r) 0).setBit
    (F.MP_RANGE_STATE_live_tagged r) false).countRanges).reg (R.MP_RANGE_CFG r) = w := by
  rw [State.countRanges, State.reg_setFld_ne _ _ rangeCfg_ne_status, State.setBit,
    State.reg_setFld_ne _ _ rangeCfg_ne_rangeState, State.reg_setFld_ne _ _ rangeCfg_ne_rangeState,
    State.reg_setReg_same]

theorem State.liveMode_enabled : ((((s.setReg (R.MP_RANGE_CFG r) w).setFld (F.MP_RANGE_STATE_live_mode r) 0).setBit
    (F.MP_RANGE_STATE_live_tagged r) false).countRanges).fld (F.MP_RANGE_STATE_live_mode r) = 0 := by
  rw [State.countRanges, State.fld_setFld_ne _ _ _ _ rangeState_ne_status, State.setBit,
    State.fld_setFld_disjoint _ _ _ _ (Nat.le_of_ble_eq_true rfl) (.inr (.inl (Nat.le_of_ble_eq_true rfl))),
    State.fld_setFld_same _ _ _ (Nat.le_of_ble_eq_true rfl)]
  rfl

theorem State.rangeOn_of_reg (h : s.reg (R.MP_RANGE_CFG r) = w &&& 0xFF000000#32) (hw : w.getLsbD 31 = true) :
    s.rangeOn r = true := by
  have hbit : bitsOf (w &&& 0xFF000000#32) 31 1 = 1 := by
    refine Nat.eq_of_testBit_eq fun j => ?_
    rw [testBit_bitsOf]
    cases j with
    | zero => simp [hw]
    | succ j => simp [Nat.testBit_succ]
  rw [State.rangeOn, State.bit, State.fld, Field.get]
  show (bitsOf (s.reg (R.MP_RANGE_CFG r)) 31 1 == 1) = true
  rw [h, hbit]
  rfl

/-- Valid ranges do not overlap. -/
theorem State.rangeValid_apart {q : Nat} (h : s.rangeValid r = true) (hq : q < 32) (hne : q ≠ r) (ho : s.rangeOn q = true) :
    s.rangeLimit r ≤ s.rangeBase q ∨ s.rangeLimit q ≤ s.rangeBase r := by
  rw [State.rangeValid, Bool.and_eq_true, List.all_eq_true] at h
  have hall := h.2 q (List.mem_range.2 hq)
  simp only [ho, overlaps, beq_eq_false_iff_ne.2 hne, Bool.not_true, Bool.false_or, Bool.not_eq_true',
    Bool.and_eq_false_iff, decide_eq_false_iff_not] at hall
  omega

section
variable {host mon : Nat} (h1 : host ≠ 2) (h2 : mon ≠ 2)
include h1 h2

theorem policyWrite_range : policyWrite (some r) host mon s = (s.setExt r host mon).ack := if_neg (not_or.2 ⟨h1, h2⟩)

theorem policyWrite_default : policyWrite none host mon s =
    ((s.setFld F.MP_DEFAULT_ext_host host).setFld F.MP_DEFAULT_ext_mon mon).ack := if_neg (not_or.2 ⟨h1, h2⟩)

end

/-! ## Sweeps (R394 to R396) -/

section
variable (hw : w.getLsbD 31 = true)
include hw

theorem sweepGo_refused (hu : u = s.setFld F.MP_SWEEP_rate_mbs (max 500 (min 20000 (bitsOf w 0 16))))
    (hm : m.same .husk = false) : sweepGo m w s = (u.mpStatus Code.notPermitted).ack := by
  subst hu
  rw [sweepGo, hw, hm]
  exact congrArg State.ack (if_neg (fun h => Bool.noConfusion h.1))

theorem sweepGo_starts (hm : m.same .husk = true) (hb : s.bit F.MP_SWEEP_busy = false) (hr : r = bitsOf w 24 5)
    (hu : u = ((s.setFld F.MP_SWEEP_rate_mbs (max 500 (min 20000 (bitsOf w 0 16)))).setFld F.MP_SWEEP_range
      r).setFld F.MP_SWEEP_init (bitsOf w 30 1)) (ho : u.rangeOn r = true) (ht : u.targetTagged r = false) :
    sweepGo m w s = (u.sweepTarget r (w.getLsbD 30)).ack := by
  have hbusy : (s.setFld F.MP_SWEEP_rate_mbs (max 500 (min 20000 (bitsOf w 0 16)))).bit F.MP_SWEEP_busy = false :=
    (State.bit_setFld_disjoint _ _ _ _ (by decide) (by decide)).trans hb
  rw [sweepGo, hw, hm, hbusy]
  dsimp only
  rw [← hr, ← hu, ho, ht]
  rfl

end

theorem State.bit_withDram (y : Dram) (q : Field) : ({ s with dram := y } : State).bit q = s.bit q := State.bit_congr rfl

theorem State.bit_setPair {lo hi v : Nat} {q : Field} (h1 : q.off ≠ lo) (h2 : q.off ≠ hi) :
    (s.setPair lo hi v).bit q = s.bit q := by
  rw [State.setPair, State.bit_setReg_ne _ h2, State.bit_setReg_ne _ h1]

theorem rangeState_ne_sweep : R.MP_RANGE_STATE r ≠ R.MP_SWEEP := by
  simp only [R.MP_RANGE_STATE, R.MP_SWEEP]
  omega

theorem rangeState_ne_ptr : R.MP_RANGE_STATE r ≠ R.MP_SWEEP_PTR_LO ∧ R.MP_RANGE_STATE r ≠ R.MP_SWEEP_PTR_HI := by
  simp only [R.MP_RANGE_STATE, R.MP_SWEEP_PTR_LO, R.MP_SWEEP_PTR_HI]
  omega

/-- A sweep that begins is busy, and its range is being swept. -/
theorem State.sweepBegin_spec {i b : Bool} {k : Nat} : (s.sweepBegin r i k b).bit F.MP_SWEEP_busy = true ∧
    (s.sweepBegin r i k b).bit (F.MP_RANGE_STATE_sweeping r) = true := by
  constructor
  · rw [State.sweepBegin, State.bit_withDram, State.bit_setPair (by decide) (by decide),
      State.bit_setFld_disjoint _ _ _ _ (by decide) (by decide), State.bit_setBit_disjoint _ _ _ _ (by decide) (by decide),
      State.bit_setFld_disjoint _ _ _ _ (by decide) (by decide), State.bit_setBit_same _ _ _ (by decide) (by decide)]
  · rw [State.sweepBegin, State.bit_withDram, State.bit_setPair rangeState_ne_ptr.1 rangeState_ne_ptr.2,
      State.bit_setFld_disjoint _ _ _ _ (Nat.le_of_ble_eq_true rfl) (.inl rangeState_ne_sweep),
      State.bit_setBit_disjoint _ _ _ _ (Nat.le_of_ble_eq_true rfl) (.inl rangeState_ne_sweep),
      State.bit_setFld_disjoint _ _ _ _ (Nat.le_of_ble_eq_true rfl) (.inl rangeState_ne_sweep),
      State.bit_setBit_disjoint _ _ _ _ (Nat.le_of_ble_eq_true rfl) (.inl rangeState_ne_sweep),
      State.bit_setBit_same _ _ _ (Nat.le_of_ble_eq_true rfl) rfl]

theorem rangeLimit_ne_sweep : R.MP_RANGE_LIMIT r ≠ R.MP_SWEEP := by
  simp only [R.MP_RANGE_LIMIT, R.MP_SWEEP]
  omega

/-- A line inside the range is converted, and the pointer and the progress move on. -/
theorem sweepLine_inside (hb : s.bit F.MP_SWEEP_busy = true) (hm : s.mode ≠ Mode.dormant) (ha : a = s.sweepPtr)
    (hr : r = s.fld F.MP_SWEEP_range)
    (hu : u = (s.convertLine a x).setPair R.MP_SWEEP_PTR_LO R.MP_SWEEP_PTR_HI (a + 64)) (hl : u.rangeLimit r > a + 64) :
    sweepLine x s = u.setFld F.MP_SWEEP_progress ((a + 64 - u.rangeBase r) * 100 / (u.rangeLimit r - u.rangeBase r)) := by
  have hgo : ¬(!s.bit F.MP_SWEEP_busy || s.mode == Mode.dormant) = true := by simp [hb, hm]
  have hlimit (v : Nat) : (u.setFld F.MP_SWEEP_progress v).rangeLimit r = u.rangeLimit r := by
    rw [State.rangeLimit, State.rangeLimit, State.fld_setFld_ne _ _ _ _ rangeLimit_ne_sweep]
  rw [sweepLine, if_neg hgo]
  dsimp only
  rw [← ha, ← hr, ← hu, if_neg (by rw [hlimit]; exact hl.not_ge)]

theorem State.lineMark_setLineMark_same {k : Nat} {b : Bool} : (s.setLineMark k b).lineMark k = b :=
  Table.get_set_same ..

theorem State.lineMark_setTagLost {k j : Nat} {b : Bool} : (s.setTagLost j b).lineMark k = s.lineMark k := by rfl

theorem State.mem_setTagLost_setLineMark {k j : Nat} {b c : Bool} :
    ((s.setLineMark k b).setTagLost j c).dram.mem = s.dram.mem := by rfl

theorem State.convertLine_init (h : s.bit F.MP_SWEEP_init = true) :
    (s.convertLine a x).dramLoad a 64 = List.replicate 64 0 ∧ (s.convertLine a x).lineMark (a / 64) = false := by
  have hload := State.dramLoad_dramStore (s := s) (a := a) (v := List.replicate 64 0)
  rw [List.length_replicate] at hload
  rw [State.convertLine, if_pos h, State.lineMark_setTagLost, State.lineMark_setLineMark_same]
  refine ⟨Eq.trans ?_ hload, rfl⟩
  exact State.dramLoad_congr State.mem_setTagLost_setLineMark

theorem rekeyGo_idle (ho : s.rangeOn r = true) (hb : s.bit F.MP_SWEEP_busy = false) : rekeyGo r s = s.rekey r := by
  rw [rekeyGo, ho, hb]
  rfl

theorem rekeyGo_busy (ho : s.rangeOn r = true) (hb : s.bit F.MP_SWEEP_busy = true) :
    rekeyGo r s = { s with dram := { s.dram with rekeys := s.dram.rekeys ++ [r] } } := by
  rw [rekeyGo, ho, hb]
  rfl

end Sys2Proof.Machine
end

section
open Sys2Proof Sys2Proof.Machine

/-- Settles O54: pieces and stored lines, row counters, training and the command path, sparing, the ranges, the sweeps
and the patrol. -/
theorem dramPiecesRangesAndSweeps : Obligations.DramPiecesRangesAndSweeps := by
  unfold Obligations.DramPiecesRangesAndSweeps
  refine ⟨?read, ?readMarked, ?write, ?fenced, ?stored, ?known, ?new, ?refresh, ?neighbour, ?window, ?hot, ?check,
    ?retrain, ?step, ?stepEnds, ?parityOk, ?parityFails, ?pathUp, ?pathDown, ?spareRefused, ?spare, ?copied, ?resync,
    ?asleep, ?invalid, ?enabled, ?apart, ?policy, ?sweepRefused, ?sweep, ?begun, ?line, ?zeros, ?rekey, ?rekeyLater,
    ?patrol⟩
  case read =>
    rintro s m a n _ hp rfl hs hm ht hr hk
    rw [exec_dramReadPiece, readPiece_clean hp rfl hs, State.readAnswer_plain (State.lineMark_wakeMc.trans hm)
      (State.lineTagged_wakeMc.trans ht) (State.tagRegionOf_wakeMc.trans hr) (State.keyGone_wakeMc.trans hk),
      State.dramLoad_wakeMc]
  case readMarked =>
    rintro s m a n _ hp rfl hs hm
    rw [exec_dramReadPiece, readPiece_clean hp rfl hs, State.readAnswer_marked (State.lineMark_wakeMc.trans hm),
      State.dramLoad_wakeMc]
  case write =>
    intro s m a v p l hv hp hr hl h2 hs
    rw [exec_dramWritePiece, writePiece_line hv hp hr hl h2 hs]
  case fenced =>
    intro s m a v p c x hp hr hm
    rw [exec_dramWritePiece, writePiece_fenced hp hr hm]
    rfl
  case stored =>
    intro s a v b
    obtain ⟨hmem, hmark⟩ := State.storeLine_spec (s := s) (a := a) (v := v) (p := b)
    refine ⟨(State.dramLoad_congr hmem).trans State.dramLoad_dramStore, fun k hk => ?_, hmark, fun h => ?_⟩
    · exact (State.dramByte_congr hmem).trans (State.dramByte_dramStore_ne hk)
    · rw [hmem]
      exact State.wf_dramStore h
  case known =>
    intro row l c h
    exact activateCounters_known h
  case new =>
    intro row l h hl
    exact activateCounters_new h hl
  case refresh =>
    intro s b
    exact exec_sameBankRefresh
  case neighbour =>
    intro s b r l h
    exact ⟨_, exec_neighbourRefresh, neighbourGo_oldest h⟩
  case window =>
    intro s b
    exact ⟨_, exec_refreshWindowEnd, windowEnd_spec⟩
  case hot =>
    intro s mc c
    exact exec_dramHot
  case check =>
    intro s mc b f hu hd
    rw [exec_trainCheck, checkTraining_serves hu hd]
  case retrain =>
    intro s m mc h
    rw [exec_mcRetrain, retrainAll_trained h]
  case step =>
    rintro s mc b rank k _ rfl hk hn
    rw [exec_retrainStep, trainStep_goesOn hk hn]
  case stepEnds =>
    rintro s mc b rank k _ r rfl hk h
    refine ⟨_, exec_retrainStep, ?_⟩
    beta_reduce
    rw [trainStep_ends hk h, State.subch_endTraining]
    refine ⟨rfl, ?_⟩
    dsimp only
    exact Table.get_set_same ..
  case parityOk =>
    intro s mc b
    exact exec_caParityError
  case parityFails =>
    intro s mc b
    obtain ⟨u, l, h⟩ := caParity_failed (s := s) (mc := mc.val) (sub := b.val)
    refine ⟨_, exec_caParityError, ?_⟩
    rw [h]
    exact ⟨congrArg Subch.caTraining (State.subch_setSubch_same (s := u)), rfl⟩
  case pathUp =>
    rintro s mc b _ rfl ht hf
    rw [exec_caRetrainDone, caRetrained_up ht hf]
  case pathDown =>
    rintro s mc b _ rfl ht hf
    rw [exec_caRetrainDone, caRetrained_down ht hf]
  case spareRefused =>
    intro s m mc w hw hm
    rw [exec_mcSpareGo, spareGo_refused hw hm]
    rfl
  case spare =>
    intro s m mc w u hu hw hm h1 h2 h3
    rw [exec_mcSpareGo, spareGo_starts hw hu hm h1 h2 h3]
  case copied =>
    intro s mc l hb hp
    rw [exec_spareCopyDone, rankCopied_copying hb hp]
  case resync =>
    intro s mc b h
    refine ⟨_, exec_mirrorResyncDone, ?_⟩
    beta_reduce
    rw [resynced_subch h]
    exact ⟨rfl, rfl⟩
  case asleep =>
    intro s mc h
    rw [exec_selfRefreshEnter, selfRefresh_dormant h]
  case invalid =>
    intro s m r w h1 h2 hm h3 hw ho hv
    rw [exec_mpRangeEnable, rangeCfg_enables h1 h2 hm h3 hw ho, hv]
    rfl
  case enabled =>
    intro s m r w h1 h2 hm h3 hw ho hv
    refine ⟨_, exec_mpRangeEnable, ?_⟩
    beta_reduce
    rw [rangeCfg_enables h1 h2 hm h3 hw ho, if_pos hv, State.ack_reg, State.ack_fld, State.reg_enabled,
      State.liveMode_enabled]
    exact ⟨State.rangeOn_of_reg ((State.ack_reg ..).trans State.reg_enabled) hw, rfl, rfl, rfl⟩
  case apart =>
    intro s r q
    exact State.rangeValid_apart
  case policy =>
    intro s m r h k h2 k2
    have hh : h.toNat ≠ 2 := fun e => h2 (BitVec.eq_of_toNat_eq e)
    have hk : k.toNat ≠ 2 := fun e => k2 (BitVec.eq_of_toNat_eq e)
    rw [exec_mpPolicyWrite, exec_mpPolicyWrite]
    exact ⟨congrArg _ (policyWrite_range hh hk), congrArg _ (policyWrite_default hh hk)⟩
  case sweepRefused =>
    intro s m w u hu hm hw
    rw [exec_mpSweepGo, sweepGo_refused hw hu hm]
    rfl
  case sweep =>
    intro s m w u r hr hm hw hb hu ho ht
    rw [exec_mpSweepGo, sweepGo_starts hw hm hb hr hu ho ht]
  case begun =>
    intro s r i k b
    obtain ⟨hbusy, hswept⟩ := State.sweepBegin_spec (s := s) (r := r) (i := i) (k := k) (b := b)
    exact ⟨hbusy, fun _ => hswept⟩
  case line =>
    intro s x a r u hb hm ha hr hu hl
    rw [exec_mpSweepLine, sweepLine_inside hb hm ha hr hu hl]
  case zeros =>
    intro s a x
    exact State.convertLine_init
  case rekey =>
    intro s r ho hb
    rw [exec_rekeyDue, rekeyGo_idle ho hb]
  case rekeyLater =>
    intro s r ho hb
    rw [exec_rekeyDue, rekeyGo_busy ho hb]
  case patrol =>
    intro s mc b a d hu hd
    rw [exec_patrolScrubRead, patrol_clean hu hd]

end

section
/-! PROOFS. The monitor's commands within a session (R475 to R481): status, reads and writes of control
registers, fragments. -/

namespace Sys2Proof.Machine

variable {s t : State} {via : MonVia}

/-! ## The commands as calls of the monitor -/

theorem exec_monStatus : exec (.monStatus via) s = .next (monDo via .status s) := by rfl
theorem exec_monContinue : exec (.monContinue via) s = .next (monDo via .next s) := by rfl
theorem exec_monRead (a : BitVec 64) (e : Bool) (n : BitVec 16) :
    exec (.monRead via a e n) s = .next (monDo via (.read a e n) s) := by rfl
theorem exec_monTake (a : BitVec 64) : exec (.monTake via a) s = .next (monDo via (.take a) s) := by rfl
theorem exec_monWrite (a : BitVec 64) (e : Bool) (b : List Byte) :
    exec (.monWrite via a e b) s = .next (monDo via (.write a e b) s) := by rfl
theorem exec_monHalt (w : Word) : exec (.monHalt via w) s = .next (monDo via (.halt w) s) := by rfl
theorem exec_monResume (w : Word) : exec (.monResume via w) s = .next (monDo via (.resume w) s) := by rfl
theorem exec_monStep (w : Word) (n : BitVec 16) :
    exec (.monStep via w n) s = .next (monDo via (.step w n) s) := by rfl
theorem exec_monBreak (w : Word) (b : BreakArgs) :
    exec (.monBreak via w b) s = .next (monDo via (.setBreak w b) s) := by rfl
theorem exec_monFreeze (w lo hi : Word) :
    exec (.monFreeze via w lo hi) s = .next (monDo via (.freeze w lo hi) s) := by rfl
theorem exec_monTxHold (on : Bool) : exec (.monTxHold via on) s = .next (monDo via (.txHold on) s) := by rfl
theorem exec_monCapture (r : Word) : exec (.monCapture via r) s = .next (monDo via (.capture r) s) := by rfl
theorem exec_monInject (l : Word) (on : Bool) :
    exec (.monInject via l on) s = .next (monDo via (.inject l on) s) := by rfl
theorem exec_monSetBaud (r : Word) : exec (.monSetBaud via r) s = .next (monDo via (.setBaud r) s) := by rfl
theorem exec_uartFrameReceive (f : List Byte) :
    exec (.uartFrameReceive f) s = .next (frameTake f s) := by rfl
theorem exec_debugDomainReady : exec .debugDomainReady s = .next (domainReady s) := by rfl
theorem exec_resumeTick : exec .resumeTick s = .next (resumeNow s) := by rfl
theorem exec_sessionExpiry : exec .sessionExpiry s = .next (sessionExpire s) := by rfl

/-! ## Outside the scope, and outside a session (R477) -/

theorem monDo_outOfScope {c : MonCmd} {b : Nat} (h : MonServes s via) (hc : c.scope = some b)
    (hb : bitAt (s.fld F.DBG_STATUS_scope) b = false) : monDo via c s = s.monReply via c.op 0x0604 := by
  refine monDo_serves h ?_
  obtain ⟨_, _, _, hopen, _⟩ := h
  simp only [monRun, hopen, hc, hb, Bool.not_true, Bool.false_eq_true, if_false]
  rfl

theorem monRun_closed {c : MonCmd} (h : s.sessionOpen = false) : monRun via c s =
    some (if s.trust.expired then
      ({ s with trust := { s.trust with expired := false } }).monReply via c.op 0x0602
      else s.monReply via c.op 0x0601) := by
  simp only [monRun, h, Bool.not_false, if_true]
  cases s.trust.expired <;> rfl

/-- From PROTECTED on no session opens by itself (R473). -/
theorem State.openByState_protected (h : 2 ≤ s.fuses.lifeCycle) : s.openByState = s := by
  have hl : decide (s.fuses.lifeCycle ≤ 1) = false := decide_eq_false (by omega)
  rw [State.openByState, hl, Bool.and_false, Bool.false_and]
  exact if_neg Bool.false_ne_true

theorem monDo_closed {c : MonCmd} (ho : s.monOpen via = true) (hoff : s.mode ≠ Mode.off)
    (hheld : s.mode ≠ Mode.held) (hclosed : s.sessionOpen = false) (hl : 2 ≤ s.fuses.lifeCycle)
    (hw : s.mon.waiting = []) (hs : s.mon.stepping = none) (ha : s.mon.away = none) (hp : s.mon.powered = false) :
    monDo via c s = if s.trust.expired then
      ({ s with trust := { s.trust with expired := false } }).monReply via c.op 0x0602
      else s.monReply via c.op 0x0601 := by
  have hs' : ({ s with mon := { s.mon with waiting := [] } } : State) = s := by rw [← hw]
  have hserve := monServe_one (via := via) (c := c)
    (u := { s with mon := { s.mon with waiting := s.mon.waiting ++ [(via, c)] } }) (by simp [hw])
    (show (s.mon.stepping.isSome || s.mon.away.isSome || (s.mon.powered && !s.mon.ready)) = false by
      rw [hs, ha, hp]; rfl)
    (show monRun via c { s with mon := { s.mon with waiting := [] } } = some _ by rw [hs', monRun_closed hclosed])
  unfold monDo
  rw [ho, beq_false_of_ne hoff, beq_false_of_ne hheld, State.openByState_protected hl]
  show State.monServe _ (s.mon.waiting ++ [(via, c)]).length = _
  rw [hw] at hserve ⊢
  exact hserve

/-! ## Memory and registers (R478, R480, R481) -/

/-- No access point answers for a control register. -/
theorem State.monPoint_control {a n o : Nat} (h : addrPlace a n = .control o) : s.monPoint a n = none := by
  simp only [State.monPoint, h]

theorem monPeek_control {a o : Nat} (h : addrPlace a 4 = .control o) :
    monPeek a 4 s = busReadWord .monitor true o s := by
  simp only [monPeek, h, if_true]

theorem monPeeks_one {a n : Nat} {b : List Byte} {p : Bool} (ht : t = monPeek a n { s with response := .none })
    (hr : t.response = .data b p) : monPeeks a n 1 s = some (0, b, p, t) := by
  simp only [monPeeks, ← ht, hr, Option.map_some, List.append_nil, Bool.or_false]

theorem monReadGo_control {a o : Nat} {b : List Byte} {p : Bool} (hpl : addrPlace a 4 = .control o) (ha : a % 4 = 0)
    (ht : t = busReadWord .monitor true o { s with response := .none }) (hr : t.response = .data b p) :
    monReadGo via a false 4 s = some (t.monReply via 0x11 0 (b.take 4) p) := by
  have hguard : ¬(4 = 0 ∨ 8192 < 4 ∨ a % 4 ≠ 0) := by omega
  have hpeek : monPeeks a 4 1 s = some (0, b, p, t) :=
    monPeeks_one (ht.trans (monPeek_control hpl).symm) hr
  simp only [monReadGo, Bool.false_eq_true, if_false, if_neg hguard, State.monPoint_control hpl]
  exact congrArg (Option.map _) hpeek

theorem monReadGo_empty (a : Nat) (e : Bool) : monReadGo via a e 0 s = some (s.monReply via 0x11 0xFF01) := by
  simp only [monReadGo, true_or, if_true]
  rfl

theorem monPut_control {a o : Nat} {b : List Byte} (hb : b.length = 4) (h : addrPlace a 4 = .control o) :
    monPut a b s = busWrite .monitor o (BitVec.ofNat 32 (ofBytes b)) s := by
  simp only [monPut, hb, h, if_true]

theorem monPuts_one {a n : Nat} {b : List Byte} (ht : t = monPut a (b.take n) { s with response := .none })
    (hr : t.response = .ack 0#16) : monPuts a n b 1 s = some (0, t) := by
  simp only [monPuts, ← ht, hr]
  exact if_pos rfl

theorem monWriteGo_control {a o : Nat} {b : List Byte} (hpl : addrPlace a 4 = .control o) (ha : a % 4 = 0)
    (hb : b.length = 4) (ht : t = busWrite .monitor o (BitVec.ofNat 32 (ofBytes b)) { s with response := .none })
    (hr : t.response = .ack 0#16) : monWriteGo via a false b s = some (t.monReply via 0x13 0) := by
  have hguard : ¬(b = [] ∨ 8192 < 4 ∨ a % 4 ≠ 0) := by
    refine not_or.2 ⟨List.ne_nil_of_length_eq_add_one hb, ?_⟩
    omega
  have htake : b.take 4 = b := List.take_of_length_le hb.le
  have hput : monPuts a 4 b 1 s = some (0, t) :=
    monPuts_one (by rw [htake, monPut_control hb hpl]; exact ht) hr
  simp only [monWriteGo, Bool.false_eq_true, if_false, hb, if_neg hguard, State.monPoint_control hpl]
  exact congrArg (Option.map _) hput

theorem monTakeGo_control {a o : Nat} {b : List Byte} {p : Bool} (hpl : addrPlace a 4 = .control o) (ho : o % 4 = 0)
    (ht : t = busReadWord .monitor false o s) (hr : t.response = .data b p) :
    monTakeGo via a s = t.monReply via 0x12 0 b p := by
  simp only [monTakeGo, hpl, ← ht, hr, if_neg (not_not.2 ho)]

theorem monNextGo_more (h : s.mon.reply ≠ []) : monNextGo via s = s.monNext via 0 := if_neg h

/-! ## Run control, capture and injection (R482 to R487) -/

theorem monHaltGo_device (h : haltMode s.mode = true) :
    monHaltGo via 0xFFFFFFFF s = s.haltDevice.monReply via 0x14 0 := by
  simp only [monHaltGo, h, Bool.not_true, Bool.false_eq_true, if_false]
  exact if_pos rfl

theorem Word.ne_all_of_engine {w : Word} (h : w.toNat < 1024) : w ≠ 0xFFFFFFFF#32 := by
  rintro rfl
  exact absurd h (by decide)

theorem monHaltGo_engine {w : Word} (h : haltMode s.mode = true) (hw : w.toNat < 1024) :
    monHaltGo via w s = (s.haltEngine w.toNat).monReply via 0x14 0 := by
  simp only [monHaltGo, h, Bool.not_true, Bool.false_eq_true, if_false, if_neg (Word.ne_all_of_engine hw), if_pos hw]

theorem monHaltGo_refused {w : Word} (h : haltMode s.mode = false) :
    monHaltGo via w s = s.monReply via 0x14 0xFF02 := by
  simp only [monHaltGo, h, Bool.not_false, if_true]
  rfl

theorem monResumeGo_engine {w : Word} (hw : w.toNat < 1024) :
    monResumeGo via w s = (s.markResume w.toNat).monReply via 0x15 0 := by
  simp only [monResumeGo, if_neg (Word.ne_all_of_engine hw), if_pos hw]

theorem State.markResume_halted {n g : Nat} (hg : g = s.gov n) (h : s.engState g = EngState.halted) :
    s.markResume n = { s.setEngine g { s.engine g with resuming := true } with
      mon := { s.mon with resumeAt := (s.now / 1000 + 1) * 1000 } } := by
  subst hg
  exact if_pos h

theorem State.markResume_other {n : Nat} (h : s.engState (s.gov n) ≠ EngState.halted) : s.markResume n = s := if_neg h

theorem monStepGo_halted {w : Word} {n g : Nat} (hw : w.toNat < 1024) (hn : n ≠ 0) (hg : g = s.gov w.toNat)
    (h : s.engState g = EngState.halted) : monStepGo via w n s = s.stepStart g n via := by
  subst hg
  have hguard : ¬(1024 ≤ w.toNat ∨ n = 0) := not_or.2 ⟨not_le.2 hw, hn⟩
  simp only [monStepGo, if_neg hguard, if_neg (not_not.2 h)]

theorem monStepGo_other {w : Word} {n : Nat} (hw : w.toNat < 1024) (hn : n ≠ 0)
    (h : s.engState (s.gov w.toNat) ≠ EngState.halted) : monStepGo via w n s = s.monReply via 0x16 0x0605 := by
  have hguard : ¬(1024 ≤ w.toNat ∨ n = 0) := not_or.2 ⟨not_le.2 hw, hn⟩
  simp only [monStepGo, if_neg hguard, if_pos h]
  rfl

theorem monBreakGo_instruction {w : Word} {b : BreakArgs} (hw : w.toNat < 1024) (hslot : b.slot < 4)
    (hlo : b.lo.toNat < 8192) : monBreakGo via w b s = (s.setEngine w.toNat { s.engine w.toNat with
      breaks := Table.set (fun _ => ({} : Break)) (s.engine w.toNat).breaks b.slot.val
        (Break.mk b.enable (BitVec.ofNat 2 (b.kind.val + 1)) b.device (b.lo.setWidth 14) (b.hi.setWidth 14))
      }).monReply via 0x17 0 := by
  have hslot' : b.slot.val < 4 := hslot
  have hguard : ¬(1024 ≤ w.toNat ∨ decide (b.lo.toNat < 8192) = false) :=
    not_or.2 ⟨not_le.2 hw, by rw [decide_eq_true hlo]; decide⟩
  simp only [monBreakGo, if_pos hslot', if_neg hguard]

theorem monFreezeGo_free {w lo hi : Word} (h : s.bit F.DBG_STATUS_frozen = false) : monFreezeGo via w lo hi s =
    (((s.setReg R.DBG_FREEZE (w &&& 0x1E)).setReg R.DBG_FREEZE_PODS_LO lo).setReg R.DBG_FREEZE_PODS_HI
      (hi &&& 0xFFFF)).monReply via 0x18 0 := by
  rw [monFreezeGo, h]
  exact if_neg Bool.false_ne_true

theorem monFreezeGo_frozen {w lo hi : Word} (h : s.bit F.DBG_STATUS_frozen = true) :
    monFreezeGo via w lo hi s = s.monReply via 0x18 0xFF02 := by
  rw [monFreezeGo, h]
  exact if_pos rfl

theorem monCaptureGo_running {r : Word} (hr : r.toNat < 96) (h : s.podFrozen (s.podOf r.toNat) = false) :
    monCaptureGo via r s = s.monReply via 0x1A 0x0605 := by
  simp only [monCaptureGo, if_neg (not_le.2 hr), h, Bool.not_false, if_true]
  rfl

theorem State.length_freeBytes (n : Nat) : (s.freeBytes n).1.length = n := by
  induction n generalizing s with
  | zero => rfl
  | succ n ih => exact congrArg (· + 1) ih

theorem State.freeBytes_mon (n : Nat) : (s.freeBytes n).2.mon = s.mon := by
  obtain ⟨k, hk⟩ := State.freeBytes_keeps (s := s) n
  rw [hk]

/-- The capture's bytes with the four of its trailer are 5,377 words. -/
theorem capture_words {l : List Byte} (v : Nat) (h : l.length = 0x5400) : (l ++ toBytes 4 v).length / 4 = 0x1501 := by
  rw [List.length_append, h, length_toBytes]

theorem monCaptureGo_frozen {r : Word} {v : List Byte × State} {n : Nat} (hr : r.toNat < 96)
    (h : s.podFrozen (s.podOf r.toNat) = true) (hv : v = s.freeBytes 0x5400) (hn : n = (s.mon.captures + 1) % 65536) :
    monCaptureGo via r s = ({ v.2 with mon := { s.mon with
      captures := n, capture := bytesAt 0 (v.1 ++ toBytes 4 (n * 65536 + r.toNat)) } }).monReply via 0x1A 0
        (toBytes 4 0x1501) := by
  have hm : v.2.mon = s.mon := by rw [hv, State.freeBytes_mon]
  have hl : v.1.length = 0x5400 := by rw [hv, State.length_freeBytes]
  simp only [monCaptureGo, if_neg (not_le.2 hr), h, Bool.not_true, Bool.false_eq_true, if_false, ← hv, hm, ← hn,
    capture_words _ hl]

theorem monInjectGo_lane {l : Word} {on : Bool} (hl : l.toNat < 64) : monInjectGo via l on s =
    (s.setBit (F.CVL_LANE_TEST_inj_live l.toNat) on).monReply via 0x1B 0 := if_neg (not_le.2 hl)

theorem monBaudGo_rate {r : Word} (hlo : 9600 ≤ r.toNat) (hhi : r.toNat ≤ 3000000) (ht : t = s.monReply via 0x1C 0) :
    monBaudGo via r s = { t with mon := { t.mon with baud := r.toNat } } := by
  subst ht
  exact if_neg (not_or.2 ⟨not_lt.2 hlo, not_lt.2 hhi⟩)

end Sys2Proof.Machine
end


section
/-! PROOFS. What the monitor halts and resumes (R482, R483), the UART's frames (R475, R476), and the end of a
session (R474). -/

namespace Sys2Proof.Machine

variable {s t : State} {n k : Nat}

/-! ## A halt keeps the state beneath it (R482) -/

theorem State.rerank_eng (g x : Nat) : (s.rerank g x).eng = s.eng := by
  rw [State.rerank]
  split
  · exact State.transition_eng ..
  · rfl

theorem State.rerank_mon (g x : Nat) : (s.rerank g x).mon = s.mon := by
  rw [State.rerank]
  split
  · exact State.transition_mon ..
  · rfl

theorem State.rerank_fld_ne {q : Field} (g x : Nat) (h1 : q.off ≠ R.DEV_MODE) (h2 : q.off ≠ R.DEV_MODE_CAUSE)
    (h3 : q.off ≠ R.DEV_MODE_TIME) : (s.rerank g x).fld q = s.fld q := by
  rw [State.rerank]
  split
  · exact State.transition_fld_ne _ _ _ _ q h1 h2 h3
  · rfl

theorem State.reportHalt_eng : s.reportHalt.eng = s.eng := State.rerank_eng ..

theorem State.reportHalt_engine : s.reportHalt.engine n = s.engine n := by
  rw [State.engine, State.reportHalt_eng, State.engine]

theorem State.reportHalt_mon : s.reportHalt.mon = s.mon := State.rerank_mon ..

theorem State.reportHalt_engState : s.reportHalt.engState n = s.engState n := by
  have h1 : R.ENG_STATE n ≠ R.DEV_MODE := by simp only [R.ENG_STATE, R.DEV_MODE]; omega
  have h2 : R.ENG_STATE n ≠ R.DEV_MODE_CAUSE := by simp only [R.ENG_STATE, R.DEV_MODE_CAUSE]; omega
  have h3 : R.ENG_STATE n ≠ R.DEV_MODE_TIME := by simp only [R.ENG_STATE, R.DEV_MODE_TIME]; omega
  exact State.rerank_fld_ne _ _ h1 h2 h3

theorem State.refreshHold_mon : s.refreshHold.mon = s.mon := by rfl

theorem State.refreshHold_engine : s.refreshHold.engine n = s.engine n := by rfl

theorem State.refreshHold_fld (q : Field) : s.refreshHold.fld q = s.fld q := by rfl

/-- With no step running none ends. -/
theorem State.stepEnd_idle (h : s.mon.stepping = none) : s.stepEnd n = s := by
  rw [State.stepEnd, h]

/-- Engine `n` with its state kept beneath the halt. -/
def State.beneath (s : State) (n : Nat) : State :=
  s.setEngine n { s.engine n with under := s.engState n, haltReq := false, resuming := false }

/-- The halted engine, as its page shows it. -/
def State.haltShown (s : State) (n : Nat) : State := ((s.beneath n).enter n EngState.halted).showPc n

theorem State.beneath_mon : (s.beneath n).mon = s.mon := by rfl

theorem State.haltNow_eq (hg : s.gov n = n) (hs : s.mon.stepping = none) :
    s.haltNow n = (s.haltShown n).reportHalt.refreshHold := by
  have hm : ((s.haltShown n).reportHalt.refreshHold).mon.stepping = none := by
    rw [State.refreshHold_mon, State.reportHalt_mon, State.haltShown, State.showPc_mon, State.enter_mon,
      State.beneath_mon, hs]
  rw [← State.stepEnd_idle (n := n) hm, State.haltNow, hg, State.haltShown, State.beneath]

theorem State.beneath_gov (hg : s.gov n = n) : (s.beneath n).gov n = n := (State.setEngine_gov _).trans hg

theorem State.haltShown_under (hg : s.gov n = n) : ((s.haltShown n).engine n).under = s.engState n := by
  obtain ⟨left, due, he⟩ := State.enter_engine _ (State.beneath_gov hg) EngState.halted
  rw [State.haltShown, State.showPc_engine, he, State.beneath, State.engine_setEngine_same]

theorem State.haltShown_engState (hg : s.gov n = n) : (s.haltShown n).engState n = EngState.halted := by
  have hg' := State.beneath_gov hg
  have hgov : ((s.beneath n).enter n EngState.halted).gov n = n := by
    refine (State.gov_congr ?_).trans hg'
    rw [State.reg_eq_of_ctrl State.enter_ctrl]
    refine State.showState_reg fun j => ?_
    simp only [R.ENG_CTRL, R.ENG_STATE]
    omega
  have hne : (F.ENG_STATE_state n).off ≠ R.ENG_STATUS n := by
    simp only [F.ENG_STATE_state, R.ENG_STATE, R.ENG_STATUS]
    omega
  exact (State.showPc_fld hgov hne).trans (State.enter_engState hg' (by decide))

theorem State.haltNow_spec (hg : s.gov n = n) (hs : s.mon.stepping = none) :
    ((s.haltNow n).engine n).under = s.engState n ∧ (s.haltNow n).engState n = EngState.halted := by
  rw [State.haltNow_eq hg hs]
  constructor
  · rw [State.refreshHold_engine, State.reportHalt_engine, State.haltShown_under hg]
  · rw [State.engState, State.refreshHold_fld, ← State.engState, State.reportHalt_engState,
      State.haltShown_engState hg]

/-- A narrow engine that is STOPPED or FAULTED halts at once (R482). -/
theorem State.haltEngine_idle (hg : s.gov n = n)
    (h : s.engState n = EngState.stopped ∨ s.engState n = EngState.faulted) : s.haltEngine n = s.haltNow n := by
  have hlive : ¬(s.engState n = EngState.off ∨ s.engState n = EngState.halted) := by
    obtain h | h := h <;> rw [h] <;> decide
  have hmove : ¬(s.engState n = EngState.moving ∨
      (s.engState n = EngState.running ∧ ((s.engine n).lock ≠ 0 ∨ (s.engine n).far ≠ none))) := by
    rintro (hm | ⟨hm, -⟩) <;> rw [hm] at h <;> revert h <;> decide
  rw [State.haltEngine, hg]
  exact (if_neg hlive).trans (if_neg hmove)

theorem State.haltEngine_off (h : s.engState (s.gov n) = EngState.off) : s.haltEngine n = s := if_pos (.inl h)

/-! ## The resume tick (R483) -/

theorem State.restart_plain {d : Nat} (h : (s.engine n).startReq = none)
    (hd : d = if (s.engine n).wdAt.isNone then max (s.engine n).wdLeft 10 else (s.engine n).wdLeft) :
    s.restart n = (s.setEngine n { s.engine n with resuming := false, wdLeft := d }).enter n (s.engine n).under := by
  rw [State.restart, ← hd]
  dsimp only
  rw [h]

theorem State.startAt_mon (pc : BitVec 13) : (s.startAt n pc).mon = s.mon := by
  rw [State.startAt, State.enter_mon]
  rfl

theorem State.restart_mon : (s.restart n).mon = s.mon := by
  rw [State.restart]
  dsimp only
  split
  · split
    · exact State.startAt_mon _
    · exact State.enter_mon
  · exact State.enter_mon

theorem State.restartAll_mon : (s.restartAll k).mon = s.mon := by
  induction k generalizing s with
  | zero => rfl
  | succ k ih =>
    rw [State.restartAll, ih]
    split
    · exact State.restart_mon
    · rfl

theorem State.refreshHalt_mon : s.refreshHalt.mon = s.mon := by
  rw [State.refreshHalt]
  dsimp only
  split
  · exact State.rerank_mon ..
  · rfl

theorem resumeNow_engines (hdue : s.mon.resumeAt ≤ s.now) (hthaw : s.mon.thaw = false) (hend : s.mon.ending = false) :
    resumeNow s = (s.restartAll 1024).refreshHalt.refreshHold := by
  obtain ⟨v, hv⟩ : ∃ v, s.restartAll 1024 = v := ⟨_, rfl⟩
  have hm : v.mon = s.mon := by rw [← hv, State.restartAll_mon]
  have he : v.refreshHalt.refreshHold.mon.ending = false := by
    rw [State.refreshHold_mon, State.refreshHalt_mon, hm, hend]
  simp only [resumeNow, if_neg (not_lt.2 hdue), hv, hm, hthaw, Bool.false_eq_true, if_false, he, Bool.false_and]

/-! ## Frames on the UART (R475, R476) -/

/-- A frame with header and payload `d` and code `k`. -/
def uartFrame (d : List Byte) (k : Nat) : List Byte := 0x7E#8 :: (toBytes 2 d.length ++ d ++ toBytes 4 k)

theorem length_uartFrame (d : List Byte) (k : Nat) : (uartFrame d k).length = d.length + 7 := by
  simp only [uartFrame, List.length_cons, List.length_append, length_toBytes]
  omega

theorem uartFrame_size {d : List Byte} (h : d.length < 65536) (k : Nat) :
    ofBytes (((uartFrame d k).drop 1).take 2) = d.length := by
  rw [uartFrame, List.drop_one, List.tail_cons, List.append_assoc, List.take_left' (length_toBytes 2 _),
    ofBytes_toBytes]
  exact Nat.mod_eq_of_lt h

theorem uartFrame_body (d : List Byte) (k : Nat) :
    ((uartFrame d k).drop 3).take ((uartFrame d k).length - 7) = d := by
  have hdrop : (uartFrame d k).drop 3 = d ++ toBytes 4 k := by
    rw [uartFrame, List.drop_succ_cons, List.append_assoc, List.drop_left' (length_toBytes 2 _)]
  rw [hdrop, length_uartFrame, Nat.add_sub_cancel, List.take_left' rfl]

theorem uartFrame_code (d : List Byte) {k : Nat} (h : k < 2 ^ 32) :
    ofBytes ((uartFrame d k).drop ((uartFrame d k).length - 4)) = k := by
  have hlen : (uartFrame d k).length - 4 = (0x7E#8 :: (toBytes 2 d.length ++ d)).length := by
    rw [length_uartFrame]
    simp only [List.length_cons, List.length_append, length_toBytes]
    omega
  have hsplit : uartFrame d k = 0x7E#8 :: (toBytes 2 d.length ++ d) ++ toBytes 4 k := rfl
  rw [hlen, hsplit, List.drop_left' rfl, ofBytes_toBytes]
  exact Nat.mod_eq_of_lt h

/-- The header word of a request with code `o` and tag `g`. -/
def uartHeader (o g : Nat) : Nat := o * 2 ^ 24 + g * 2 ^ 16

theorem uartHeader_op {o g : Nat} (hg : g < 256) : uartHeader o g / 2 ^ 24 = o := by
  rw [uartHeader]
  omega

theorem uartHeader_tag (o : Nat) (g : BitVec 8) : BitVec.ofNat 8 (uartHeader o g.toNat / 2 ^ 16) = g := by
  refine BitVec.eq_of_toNat_eq ?_
  have hg := g.isLt
  rw [BitVec.toNat_ofNat, uartHeader]
  omega

theorem ofBytes_uartHeader {o g : Nat} (ho : o < 256) (hg : g < 256) :
    ofBytes (toBytes 4 (uartHeader o g)) = uartHeader o g := by
  rw [ofBytes_toBytes]
  refine Nat.mod_eq_of_lt ?_
  rw [uartHeader]
  omega

/-- A whole frame whose transport exists is answered, or its command runs. -/
theorem frameTake_uartFrame {o : Nat} {g : BitVec 8} {b d : List Byte} {k : Nat} (ho : o < 256) (hb : b.length ≤ 4096)
    (hopen : s.monOpen { uart := true, tag := g } = true) (hd : d = toBytes 4 (uartHeader o g.toNat) ++ b)
    (hk : k < 2 ^ 32) : frameTake (uartFrame d k) s =
      if k ≠ (crc32c d).toNat then s.monReply { uart := true, tag := g } o 0xFF01
      else frameRun { uart := true, tag := g } o b s := by
  have hlen : d.length = 4 + b.length := by rw [hd, List.length_append, length_toBytes]
  have hhead : ofBytes (d.take 4) = uartHeader o g.toNat := by
    rw [hd, List.take_left' (length_toBytes 4 _), ofBytes_uartHeader ho g.isLt]
  have hrest : d.drop 4 = b := by rw [hd, List.drop_left' (length_toBytes 4 _)]
  have hguard : ¬((uartFrame d k).head? ≠ some 0x7E#8 ∨ d.length < 4 ∨ (uartFrame d k).length ≠ d.length + 7 ∨
      4100 < d.length) := by
    rw [length_uartFrame]
    refine not_or.2 ⟨not_not.2 rfl, ?_⟩
    omega
  have hsize := uartFrame_size (d := d) (by omega) k
  simp only [frameTake, uartFrame_body, uartFrame_code d hk, hsize, hhead, uartHeader_op g.isLt, uartHeader_tag, hopen,
    hrest, if_neg hguard, Bool.not_true, Bool.false_eq_true, if_false]
  rfl

/-! ## The debug domain, and the end of a session (R473, R474) -/

theorem domainReady_starting (hp : s.mon.powered = true) (hr : s.mon.ready = false) :
    domainReady s = ({ s with mon := { s.mon with ready := true } }).monServeAll := by
  rw [domainReady, hp, hr]
  rfl

theorem sessionExpire_due {x : Nat} (h : s.trust.sessionEnd = some x) (hx : x ≤ s.now) (ho : s.sessionOpen = true) :
    sessionExpire s = ({ s with trust := { s.trust with expired := true } }).endSession := by
  rw [sessionExpire, h]
  exact if_pos (by rw [ho, decide_eq_true hx]; rfl)

theorem State.clearBreaks_keeps (h : (s.engine n).breaks = []) : ((s.clearBreaks k).engine n).breaks = [] := by
  induction k generalizing s with
  | zero => exact h
  | succ k ih =>
    rw [State.clearBreaks]
    refine ih ?_
    split
    · exact h
    · by_cases hk : n = k
      · rw [hk, State.engine_setEngine_same]
      · rw [State.engine_setEngine_ne _ _ hk, h]

theorem State.clearBreaks_breaks (h : n < k) : ((s.clearBreaks k).engine n).breaks = [] := by
  induction k generalizing s with
  | zero => exact absurd h (Nat.not_lt_zero n)
  | succ k ih =>
    rw [State.clearBreaks]
    by_cases hk : n = k
    · refine State.clearBreaks_keeps ?_
      split
      next he => rw [hk]; exact List.isEmpty_iff.1 he
      next => rw [hk, State.engine_setEngine_same]
    · exact ih (by omega)

theorem State.clearLive_engine : (s.clearLive k).engine n = s.engine n := by
  induction k generalizing s with
  | zero => rfl
  | succ k ih => rw [State.clearLive, ih, State.setBit_engine]

/-- Other registers than the lanes' test registers stay. -/
theorem State.clearLive_bit {q : Field} (hq : ∀ i, q.off ≠ R.CVL_LANE_TEST i) : (s.clearLive k).bit q = s.bit q := by
  induction k generalizing s with
  | zero => rfl
  | succ k ih => exact ih.trans (congrArg (· == 1) (State.fld_setFld_ne _ _ _ _ (hq k)))

theorem State.clearLive_keeps (h : s.bit (F.CVL_LANE_TEST_inj_live n) = false) :
    (s.clearLive k).bit (F.CVL_LANE_TEST_inj_live n) = false := by
  induction k generalizing s with
  | zero => exact h
  | succ k ih =>
    refine ih ?_
    by_cases hk : n = k
    · rw [hk]
      exact State.bit_setBit_same _ _ _ (Nat.le_of_ble_eq_true rfl) rfl
    · have hne : R.CVL_LANE_TEST n ≠ R.CVL_LANE_TEST k := by simp only [R.CVL_LANE_TEST]; omega
      exact (congrArg (· == 1) (State.fld_setFld_ne _ _ _ _ hne)).trans h

theorem State.clearLive_live (h : n < k) : (s.clearLive k).bit (F.CVL_LANE_TEST_inj_live n) = false := by
  induction k generalizing s with
  | zero => exact absurd h (Nat.not_lt_zero n)
  | succ k ih =>
    by_cases hk : n = k
    · rw [State.clearLive, hk]
      exact State.clearLive_keeps (State.bit_setBit_same _ _ _ (Nat.le_of_ble_eq_true rfl) rfl)
    · exact ih (by omega)

/-- A register that is not one of the debug domain keeps its value when these are reset. -/
theorem State.dbgReset_bit {q : Field} (h : q.off < R.DBG_STATUS) : s.dbgReset.bit q = s.bit q := by
  have hreg : s.dbgReset.reg q.off = s.reg q.off := by
    rw [State.dbgReset, State.reg_setReg_ne _ _ (by rw [R.DBG_STATUS] at h; rw [R.DBG_FREEZE_PODS_HI]; omega),
      State.reg_setReg_ne _ _ (by rw [R.DBG_STATUS] at h; rw [R.DBG_FREEZE_PODS_LO]; omega),
      State.reg_setReg_ne _ _ (by rw [R.DBG_STATUS] at h; rw [R.DBG_FREEZE]; omega),
      State.reg_setReg_ne _ _ (by omega)]
  exact State.bit_congr hreg

theorem State.dbgReset_session : s.dbgReset.sessionOpen = false := by
  have hreg : s.dbgReset.reg R.DBG_STATUS = resetWord R.DBG_STATUS := by
    rw [State.dbgReset, State.reg_setReg_ne _ _ (by decide), State.reg_setReg_ne _ _ (by decide),
      State.reg_setReg_ne _ _ (by decide), State.reg_setReg_same]
  have hword : resetWord R.DBG_STATUS = 0 := by decide
  rw [State.sessionOpen, State.bit, State.fld]
  show (F.DBG_STATUS_session.get (s.dbgReset.reg R.DBG_STATUS) == 1) = false
  rw [hreg, hword]
  decide

theorem State.clearBreaks_reg (q : Nat) : (s.clearBreaks k).reg q = s.reg q := by
  refine State.reg_eq_of_ctrl ?_ q
  induction k generalizing s with
  | zero => rfl
  | succ k ih =>
    rw [State.clearBreaks, ih]
    split <;> rfl

theorem State.sessionCleared_hold : s.sessionCleared.bit F.TXU_CFG_tx_hold = false := by
  rw [State.sessionCleared, State.clearLive_bit fun i => by
    simp only [F.TXU_CFG_tx_hold, R.TXU_CFG, R.CVL_LANE_TEST]; omega, State.bit, State.refreshHold_fld, ← State.bit,
    State.bit_setBit_same _ _ _ (by decide) rfl]

theorem State.sessionCleared_breaks (h : n < 1024) : (s.sessionCleared.engine n).breaks = [] := by
  rw [State.sessionCleared, State.clearLive_engine, State.refreshHold_engine, State.setBit_engine,
    State.setReg_engine, State.clearBreaks_breaks h]

theorem State.sessionCleared_live (h : n < 64) : s.sessionCleared.bit (F.CVL_LANE_TEST_inj_live n) = false := by
  rw [State.sessionCleared, State.clearLive_live h]

theorem State.sessionCleared_open : s.sessionCleared.sessionOpen = s.sessionOpen := by
  rw [State.sessionCleared, State.sessionOpen, State.clearLive_bit fun i => by
    simp only [F.DBG_STATUS_session, R.DBG_STATUS, R.CVL_LANE_TEST]; omega, State.bit, State.refreshHold_fld,
    State.setBit, State.fld_setFld_ne _ _ _ _ (by decide), State.fld_setReg_ne _ _ (by decide), State.fld,
    State.clearBreaks_reg, ← State.fld, ← State.bit, State.sessionOpen]

/-- What the registers of the debug domain and its power are once a session has ended. -/
def State.domainOff (s : State) : State :=
  { s.dbgReset with mon := { s.mon with
    powered := false, ready := false, reply := [], capture := [], stepping := none, away := none } }

theorem State.domainOff_bit (q : Field) : s.domainOff.bit q = s.dbgReset.bit q := by rfl

theorem State.domainOff_powered : s.domainOff.mon.powered = false := by rfl

theorem State.domainOff_engine : s.domainOff.engine n = s.engine n := by
  have h : s.domainOff.engine n = s.dbgReset.engine n := by rfl
  rw [h, State.dbgReset, State.setReg_engine, State.setReg_engine, State.setReg_engine, State.setReg_engine]

/-- The session is closed, and no step runs. -/
def State.sessionShut (s : State) : State :=
  let u := (s.setBit F.DBG_STATUS_session false).setFld F.DBG_STATUS_scope 0
  { u with trust := { u.trust with sessionEnd := none }, mon := { u.mon with stepping := none } }

theorem State.sessionShut_fld (q : Field) :
    s.sessionShut.fld q = ((s.setBit F.DBG_STATUS_session false).setFld F.DBG_STATUS_scope 0).fld q := by rfl

theorem State.sessionShut_bit (q : Field) :
    s.sessionShut.bit q = ((s.setBit F.DBG_STATUS_session false).setFld F.DBG_STATUS_scope 0).bit q := by rfl

theorem State.sessionShut_halted : s.sessionShut.dev.halted = s.dev.halted := by rfl

theorem State.sessionShut_stepping : s.sessionShut.mon.stepping = none := by rfl

theorem State.sessionShut_session : s.sessionShut.sessionOpen = false := by
  rw [State.sessionOpen, State.sessionShut_bit, State.bit, State.fld_setFld_disjoint _ _ _ _ (by decide) (by decide),
    ← State.bit, State.bit_setBit_same _ _ _ (by decide) rfl]

theorem State.sessionShut_frozen : s.sessionShut.bit F.DBG_STATUS_frozen = s.bit F.DBG_STATUS_frozen := by
  rw [State.sessionShut_bit, State.bit, State.fld_setFld_disjoint _ _ _ _ (by decide) (by decide), State.setBit,
    State.fld_setFld_disjoint _ _ _ _ (by decide) (by decide), ← State.bit]

theorem State.sessionShut_engState : s.sessionShut.engState n = s.engState n := by
  have hne : (F.ENG_STATE_state n).off ≠ R.DBG_STATUS := by
    simp only [F.ENG_STATE_state, R.ENG_STATE, R.DBG_STATUS]
    omega
  rw [State.engState, State.sessionShut_fld, State.fld_setFld_ne _ _ _ _ hne, State.setBit,
    State.fld_setFld_ne _ _ _ _ hne, ← State.engState]

theorem State.sessionShut_anyHalted (h : s.anyHalted = false) : s.sessionShut.anyHalted = false := by
  obtain ⟨-, hnone⟩ := Bool.or_eq_false_iff.1 h
  have hstep : s.sessionShut.mon.stepping.isSome = false := congrArg Option.isSome State.sessionShut_stepping
  refine Bool.or_eq_false_iff.2 ⟨hstep, ?_⟩
  simp only [State.sessionShut_engState]
  exact hnone

theorem State.refreshHalt_running (h : s.dev.halted = false) : s.refreshHalt = s := by
  rw [State.refreshHalt, h]
  rfl

/-- With nothing halted or frozen a session's end leaves nothing to resume. -/
theorem State.endSession_idle (hh : s.anyHalted = false) (hf : s.bit F.DBG_STATUS_frozen = false)
    (hd : s.dev.halted = false) : s.endSession = s.sessionShut.finishSession := by
  have hguard : (s.sessionShut.anyHalted || s.sessionShut.bit F.DBG_STATUS_frozen) = false := by
    rw [State.sessionShut_anyHalted hh, State.sessionShut_frozen, hf]
    rfl
  have hend : s.endSession = if s.sessionShut.anyHalted || s.sessionShut.bit F.DBG_STATUS_frozen then
      { s.sessionShut.resumeDevice with mon := { s.sessionShut.resumeDevice.mon with ending := true } }
      else s.sessionShut.refreshHalt.finishSession := by rw [State.endSession, State.sessionShut]
  rw [hend, hguard, State.refreshHalt_running (State.sessionShut_halted.trans hd)]
  exact if_neg Bool.false_ne_true

/-- The end of a session as it is finished: the session's leavings, cleared. -/
def State.sessionGone (s : State) : State :=
  State.sessionCleared { s.sessionShut with mon := { s.sessionShut.mon with ending := false } }

theorem State.sessionGone_open : s.sessionGone.sessionOpen = false := by
  rw [State.sessionGone, State.sessionCleared_open]
  exact State.sessionShut_session

theorem State.endSession_gone (hh : s.anyHalted = false) (hf : s.bit F.DBG_STATUS_frozen = false)
    (hd : s.dev.halted = false) : s.endSession = s.sessionGone.domainOff := by
  rw [State.endSession_idle hh hf hd, State.finishSession_eq (v := s.sessionGone) (by rw [State.sessionGone]),
    State.sessionGone_open, State.domainOff]
  exact if_neg Bool.false_ne_true

end Sys2Proof.Machine
end

section
open Sys2Proof Sys2Proof.Machine

/-- Settles O59: each command by what the monitor makes of it within its session, then run control, the frames
of the UART, and the session's end. -/
theorem monitorServesItsSession : Obligations.MonitorServesItsSession := by
  unfold Obligations.MonitorServesItsSession
  refine ⟨?status, ?more, ?read, ?empty, ?take, ?write, ?haltOne, ?haltAll, ?haltMode, ?beneath, ?haltOff, ?resume,
    ?resumeNot, ?tick, ?restart, ?step, ?stepNot, ?breakpoint, ?freeze, ?frozen, ?hold, ?captureNot, ?capture, ?inject,
    ?baud, ?scope, ?closed, ?frame, ?badFrame, ?ready, ?expiry, ?ended⟩
  case status =>
    intro s via h
    rw [exec_monStatus, monDo_unscoped h rfl rfl, monStatusGo]
  case more =>
    intro s via h hr
    rw [exec_monContinue, monDo_unscoped h rfl rfl, monNextGo_more hr]
  case read =>
    intro s via a o b p t h hpl ha ht hr
    have hgo : monServed via (.read a false 4) s = some _ := monReadGo_control hpl ha ht hr
    rw [exec_monRead, monDo_scoped h rfl hgo]
  case empty =>
    intro s via a e h
    have hgo : monServed via (.read a e 0) s = some _ := monReadGo_empty a.toNat e
    rw [exec_monRead, monDo_scoped h rfl hgo]
  case take =>
    intro s via a o b p t h hpl ho ht hr
    rw [exec_monTake, monDo_scoped h rfl rfl, monTakeGo_control hpl ho ht hr]
  case write =>
    intro s via a o b t h hpl ha hb ht hr
    have hgo : monServed via (.write a false b) s = some _ := monWriteGo_control hpl ha hb ht hr
    rw [exec_monWrite, monDo_scoped h rfl hgo]
  case haltOne =>
    intro s via w h hm hw
    rw [exec_monHalt, monDo_scoped h rfl rfl, monHaltGo_engine hm hw]
  case haltAll =>
    intro s via h hm
    rw [exec_monHalt, monDo_scoped h rfl rfl, monHaltGo_device hm]
  case haltMode =>
    intro s via w h hm
    rw [exec_monHalt, monDo_scoped h rfl rfl, monHaltGo_refused hm]
  case beneath =>
    intro s n hw hs hst
    have hg := State.gov_narrow hw
    rw [State.haltEngine_idle hg hst]
    exact State.haltNow_spec hg hs
  case haltOff =>
    intro s n h
    exact State.haltEngine_off h
  case resume =>
    intro s via w g h hw hg hst
    rw [exec_monResume, monDo_scoped h rfl rfl, monResumeGo_engine hw, State.markResume_halted hg hst]
  case resumeNot =>
    intro s via w h hw hst
    rw [exec_monResume, monDo_scoped h rfl rfl, monResumeGo_engine hw, State.markResume_other hst]
  case tick =>
    intro s hdue hthaw hend
    rw [exec_resumeTick, resumeNow_engines hdue hthaw hend]
  case restart =>
    intro s g d h hd
    exact State.restart_plain h hd
  case step =>
    intro s via w n g h hw hn hg hst
    have hn' : n.toNat ≠ 0 := fun h0 => hn (BitVec.eq_of_toNat_eq h0)
    rw [exec_monStep, monDo_scoped h rfl rfl, monStepGo_halted hw hn' hg hst]
  case stepNot =>
    intro s via w n h hw hn hst
    have hn' : n.toNat ≠ 0 := fun h0 => hn (BitVec.eq_of_toNat_eq h0)
    rw [exec_monStep, monDo_scoped h rfl rfl, monStepGo_other hw hn' hst]
  case breakpoint =>
    intro s via w b x h hw hslot hlo hx
    rw [exec_monBreak, monDo_scoped h rfl rfl, monBreakGo_instruction hw hslot hlo, hx]
  case freeze =>
    intro s via w lo hi h hf
    rw [exec_monFreeze, monDo_scoped h rfl rfl, monFreezeGo_free hf]
  case frozen =>
    intro s via w lo hi h hf
    rw [exec_monFreeze, monDo_scoped h rfl rfl, monFreezeGo_frozen hf]
  case hold =>
    intro s via on h
    rw [exec_monTxHold, monDo_scoped h rfl rfl, monHoldGo]
  case captureNot =>
    intro s via r h hr hf
    rw [exec_monCapture, monDo_scoped h rfl rfl, monCaptureGo_running hr hf]
  case capture =>
    intro s via r v n h hr hf hv hn
    rw [exec_monCapture, monDo_scoped h rfl rfl, monCaptureGo_frozen hr hf hv hn]
  case inject =>
    intro s via l on h hl
    rw [exec_monInject, monDo_scoped h rfl rfl, monInjectGo_lane hl]
  case baud =>
    intro s via r t h hlo hhi ht
    rw [exec_monSetBaud, monDo_unscoped h rfl rfl, monBaudGo_rate hlo hhi ht]
  case scope =>
    intro s via a h hb
    rw [exec_monTake, monDo_outOfScope h rfl hb, MonCmd.op]
  case closed =>
    intro s via w ho hoff hheld hclosed hl hw hs ha hp
    rw [exec_monHalt, monDo_closed ho hoff hheld hclosed hl hw hs ha hp, MonCmd.op]
  case frame =>
    intro s o g b d f ho hb hopen hd hf
    have htake := frameTake_uartFrame ho hb hopen hd (crc32c d).isLt
    rw [exec_uartFrameReceive, hf, ← uartFrame, htake, if_neg (not_not.2 rfl)]
  case badFrame =>
    intro s o g b d f k ho hb hopen hd hk hbad hf
    rw [exec_uartFrameReceive, hf, ← uartFrame, frameTake_uartFrame ho hb hopen hd hk, if_pos hbad]
  case ready =>
    intro s hp hr
    rw [exec_debugDomainReady, domainReady_starting hp hr]
  case expiry =>
    intro s t h hx ho
    rw [exec_sessionExpiry, sessionExpire_due h hx ho]
  case ended =>
    intro s hh hf hd
    rw [State.endSession_gone hh hf hd]
    refine ⟨?session, ?hold, fun n hn => ?breaks, State.domainOff_powered, fun l hl => ?live⟩
    case session =>
      rw [State.sessionOpen, State.domainOff_bit, ← State.sessionOpen, State.dbgReset_session]
    case hold =>
      rw [State.domainOff_bit, State.dbgReset_bit (by decide), State.sessionGone, State.sessionCleared_hold]
    case breaks =>
      rw [State.domainOff_engine, State.sessionGone, State.sessionCleared_breaks hn]
    case live =>
      have hoff : (F.CVL_LANE_TEST_inj_live l).off < R.DBG_STATUS := by
        simp only [F.CVL_LANE_TEST_inj_live, R.CVL_LANE_TEST, R.DBG_STATUS]
        omega
      rw [State.domainOff_bit, State.dbgReset_bit hoff, State.sessionGone, State.sessionCleared_live hl]

end
